-- ==== Sys2Proof/Word.lean ====
section
/-! DEFINITION. The word types of the hub (00 R9, 14 R378: every register is 64 bits wide). -/

namespace Sys2Proof

/-- A 64-bit register, unit or flit. -/
abbrev Word := BitVec 64
/-- A byte of hub memory, local store or a mailbox. -/
abbrev Byte := BitVec 8
/-- A sparse table: entries by rising key, none equal to the table's default. -/
abbrev Tab (α : Type) := List (Nat × α)

end Sys2Proof
end

