-- ==== Sys2Proof/Syntax.lean ====
section
/-! DEFINITION. The commands of the hub: one constructor per row of the opcode table, with its operands. -/

namespace Sys2Proof

/-- Who makes a request (15 R412): the host as ROOT or a tenant, the two-wire port, or the program of a Whorl. -/
inductive Who where
  | root
  | tenant (k : Nat)
  | twp
  | whorl (n : Nat)
  deriving DecidableEq, Repr

/-- The operations of the ALU instruction (Table 9.9). -/
inductive AluFn where
  | add | sub | and | or | xor | sll | srl | sra | slt | sltu | mul | mulhu
  | min | max | minu | maxu | popc | clz | ctz
  deriving DecidableEq, Repr

/-- The reductions of an agent read (Table 2.3, Table 2.5). -/
inductive Red where
  | none | or | and | min | max | sum | count | collect
  deriving DecidableEq, Repr

/-- The causes of a Whorl fault (R261). -/
inductive FCode where
  | fetch | illegal | align | addr | rights | ecc | timeout
  deriving DecidableEq, Repr

/-- What a core presents to its comparators (Table 3.3, CMP_CTRLn.SRC). -/
inductive Access where
  | sched | dread | dwrite
  deriving DecidableEq, Repr

/-- A place at which records may be dropped and a gap be held (R143, R144). -/
inductive DropPoint where
  | bobbin (site : Nat)
  | flyer (f : Nat)
  | sink (n : Nat)
  | ring
  deriving DecidableEq, Repr

/-- One edge of a tapped stream as the Card engine sees it (R169 to R171): the tag presented, the count shown on
CA_TAP_CNT, the lanes, the format code and the command end of the tapped slot. -/
structure TapEdge where
  tag   : Option (BitVec 56)
  cnt   : Nat
  lanes : List (BitVec 32)
  fmt   : BitVec 5
  fin   : Bool
  deriving DecidableEq, Repr

/-- A hub's election key (R325): NEW, PRIO, DEVID; the lower key wins. -/
structure Key where
  isNew : Bool
  prio  : BitVec 8
  devid : BitVec 48
  deriving DecidableEq, Repr

/-- The payload of an ELECT message (R326): best configuration key and its hops, best package key and its hops
(none to a peer of another package), MAXTIME. -/
structure ElectMsg where
  cfg     : Key
  cfgHops : Nat
  pkg     : Option (Key × Nat)
  maxTime : Nat
  deriving DecidableEq, Repr

/-- The operation of a rendezvous (Table 12.2): RUN, or STEP with N − 1. -/
inductive RdvOp where
  | run
  | step (nMinus1 : BitVec 16)
  deriving DecidableEq, Repr

/-- The levels that cores and seams of a region present at one edge (Tables 3.1 and 4.2): the sites that show CA_LOCK, CA_FROZEN and CA_LM_IDLE,
and the seams, by their place in the integration table, whose SM_MARKED stands at 1. -/
structure EdgeLevels where
  locks  : List Nat
  frozen : List Nat
  idle   : List Nat
  marked : List Nat
  deriving DecidableEq, Repr

/-- A requester's read of one unit of a memory with check bits, and what they show: 0 no error, 1 one that is corrected, 2 an uncorrectable one
(R156, R288). -/
structure UnitRead where
  who : Who
  err : Fin 3
  deriving DecidableEq, Repr

/-- An MRAM unit that the patrol read: its number in the bank, whether its error is uncorrectable, and how many of its next writes read back
wrong (R288, R315). -/
structure MramCell where
  unit : Nat
  ue   : Bool
  weak : Nat
  deriving DecidableEq, Repr

/-- A word of a trace group with bits in error, of its 128 data and 9 check bits (R48). -/
structure BadWord where
  word  : Nat
  flips : List (Fin 137)
  deriving DecidableEq, Repr

/-- The commands of the block, one constructor per row of spec/opcode_table.json. -/
inductive Instr where
  /-- ALU (R255). Lopra ALU instruction computes g[d] from g[a] and g[b] by the operation its fn selects. -/
  | alu (w : Fin 8) (fn : AluFn) (d : Fin 32) (a : Fin 32) (b : Fin 32)
  /-- ADDI (R254). Adds a sign-extended immediate to g[a] into g[d]. -/
  | addi (w : Fin 8) (d : Fin 32) (a : Fin 32) (imm : BitVec 16)
  /-- ANDI (R254). ANDs g[a] with a zero-extended immediate into g[d]. -/
  | andi (w : Fin 8) (d : Fin 32) (a : Fin 32) (imm : BitVec 16)
  /-- ORI (R254). ORs g[a] with a zero-extended immediate into g[d]. -/
  | ori (w : Fin 8) (d : Fin 32) (a : Fin 32) (imm : BitVec 16)
  /-- XORI (R254). XORs g[a] with a zero-extended immediate into g[d]. -/
  | xori (w : Fin 8) (d : Fin 32) (a : Fin 32) (imm : BitVec 16)
  /-- SLTI (R255). Sets g[d] to 1 when g[a] is less than the immediate, signed. -/
  | slti (w : Fin 8) (d : Fin 32) (a : Fin 32) (imm : BitVec 16)
  /-- SLTIU (R255). Sets g[d] to 1 when g[a] is less than the immediate, unsigned. -/
  | sltiu (w : Fin 8) (d : Fin 32) (a : Fin 32) (imm : BitVec 16)
  /-- INSH (R255). Inserts a 16-bit immediate into one lane of g[d], keeping the other bits. -/
  | insh (w : Fin 8) (d : Fin 32) (lane : Fin 4) (imm : BitVec 16)
  /-- LD8 (R237). Loads 8 bytes from the Whorl address map into g[d]. -/
  | ld8 (w : Fin 8) (d : Fin 32) (a : Fin 32) (imm : BitVec 16)
  /-- LD4 (R237). Loads 4 bytes zero-extended into g[d]. -/
  | ld4 (w : Fin 8) (d : Fin 32) (a : Fin 32) (imm : BitVec 16)
  /-- LD2 (R237). Loads 2 bytes zero-extended into g[d]. -/
  | ld2 (w : Fin 8) (d : Fin 32) (a : Fin 32) (imm : BitVec 16)
  /-- LD1 (R237). Loads 1 byte zero-extended into g[d]. -/
  | ld1 (w : Fin 8) (d : Fin 32) (a : Fin 32) (imm : BitVec 16)
  /-- ST8 (R238). Stores the low 8 bytes of g[d] to the Whorl address map. -/
  | st8 (w : Fin 8) (d : Fin 32) (a : Fin 32) (imm : BitVec 16)
  /-- ST4 (R238). Stores the low 4 bytes of g[d]. -/
  | st4 (w : Fin 8) (d : Fin 32) (a : Fin 32) (imm : BitVec 16)
  /-- ST2 (R238). Stores the low 2 bytes of g[d]. -/
  | st2 (w : Fin 8) (d : Fin 32) (a : Fin 32) (imm : BitVec 16)
  /-- ST1 (R238). Stores the low byte of g[d]. -/
  | st1 (w : Fin 8) (d : Fin 32) (a : Fin 32) (imm : BitVec 16)
  /-- BEQ (R254). Branches by the immediate when g[d] equals g[a]. -/
  | beq (w : Fin 8) (d : Fin 32) (a : Fin 32) (imm : BitVec 16)
  /-- BNE (R254). Branches when g[d] differs from g[a]. -/
  | bne (w : Fin 8) (d : Fin 32) (a : Fin 32) (imm : BitVec 16)
  /-- BLT (R254). Branches when g[d] is less than g[a], signed. -/
  | blt (w : Fin 8) (d : Fin 32) (a : Fin 32) (imm : BitVec 16)
  /-- BGE (R254). Branches when g[d] is not less than g[a], signed. -/
  | bge (w : Fin 8) (d : Fin 32) (a : Fin 32) (imm : BitVec 16)
  /-- BLTU (R254). Branches when g[d] is less than g[a], unsigned. -/
  | bltu (w : Fin 8) (d : Fin 32) (a : Fin 32) (imm : BitVec 16)
  /-- BGEU (R254). Branches when g[d] is not less than g[a], unsigned. -/
  | bgeu (w : Fin 8) (d : Fin 32) (a : Fin 32) (imm : BitVec 16)
  /-- J (R254). Jumps by imm26. -/
  | j (w : Fin 8) (off : BitVec 26)
  /-- JAL (R255). Writes the return address to g31 and jumps by imm26. -/
  | jal (w : Fin 8) (off : BitVec 26)
  /-- NOP (R255). SYS sub-operation with no effect. -/
  | nop (w : Fin 8)
  /-- JR (R255). Sets pc to g[a]. -/
  | jr (w : Fin 8) (a : Fin 32)
  /-- JALR (R255). Writes the return address to g[d] and sets pc to g[a]. -/
  | jalr (w : Fin 8) (d : Fin 32) (a : Fin 32)
  /-- RDTIME (R255). Writes hub time to g[d]. -/
  | rdtime (w : Fin 8) (d : Fin 32)
  /-- TSET (R247). Arms a Whorl timer with an absolute hub time and clears its expired flag. -/
  | tset (w : Fin 8) (t : Fin 4) (a : Fin 32)
  /-- TCLR (R247). Disarms a Whorl timer and clears its flag. -/
  | tclr (w : Fin 8) (t : Fin 4)
  /-- SETDL (R241). Stores the clamped deadline span in dl. -/
  | setdl (w : Fin 8) (a : Fin 32)
  /-- RDDL (R255). Writes dl to g[d]. -/
  | rddl (w : Fin 8) (d : Fin 32)
  /-- TKST (R255). Writes the wake word of a ticket to g[d] without freeing it. -/
  | tkst (w : Fin 8) (d : Fin 32) (a : Fin 32)
  /-- TKFREE (R240). Frees a DONE ticket, stalling until a PENDING ticket is DONE. -/
  | tkfree (w : Fin 8) (a : Fin 32)
  /-- TKPEND (R255). Writes the mask of PENDING tickets to g[d]. -/
  | tkpend (w : Fin 8) (d : Fin 32)
  /-- WHOAMI (R255). Writes the Whorl number, owner rights and ROM flag to g[d]. -/
  | whoami (w : Fin 8) (d : Fin 32)
  /-- STOPW (R260). Stops the Whorl after this instruction, with STATE STOPPED. -/
  | stopw (w : Fin 8)
  /-- FENCE_AG (R251). Stalls until every earlier agent operation of the Whorl is DONE and counts timeouts. -/
  | fenceAg (w : Fin 8) (d : Fin 32)
  /-- FENCE_ALL (R251). Stalls until every earlier asynchronous operation except SEND and RECV is DONE. -/
  | fenceAll (w : Fin 8) (d : Fin 32)
  /-- TRD (R247). Writes a timer's armed value, or all ones, to g[d]. -/
  | trd (w : Fin 8) (d : Fin 32) (t : Fin 4)
  /-- SMK (R252). Builds a set register from two general registers. -/
  | smk (w : Fin 8) (sd : Fin 16) (ga : Fin 32) (gb : Fin 32)
  /-- SLD (R252). Loads a set register from 16 aligned bytes. -/
  | sld (w : Fin 8) (sd : Fin 16) (ga : Fin 32)
  /-- SST (R252). Stores a set register to 16 aligned bytes. -/
  | sst (w : Fin 8) (sa : Fin 16) (ga : Fin 32)
  /-- SMV (R252). Copies one set register to another. -/
  | smv (w : Fin 8) (sd : Fin 16) (sa : Fin 16)
  /-- SENG (R252). Copies a set register with its engine mask replaced. -/
  | seng (w : Fin 8) (sd : Fin 16) (sa : Fin 16) (gb : Fin 32)
  /-- SRD (R252). Reads a set register into two general registers. -/
  | srd (w : Fin 8) (sa : Fin 16) (ga : Fin 32) (gb : Fin 32)
  /-- WAIT (R248). Stalls until a named ticket, event line or timer is ready and reports one item. -/
  | wait (w : Fin 8) (d : Fin 32) (a : Fin 32) (b : Fin 32) (tm : BitVec 4)
  /-- POLL (R248). Reports one ready item or WHY NONE at once. -/
  | poll (w : Fin 8) (d : Fin 32) (a : Fin 32) (b : Fin 32) (tm : BitVec 4)
  /-- EVSET (R246). Raises event lines 16 to 63 once earlier stores are visible. -/
  | evset (w : Fin 8) (b : Fin 32)
  /-- EVCLR (R246). Clears bits of the Whorl's EVPEND. -/
  | evclr (w : Fin 8) (b : Fin 32)
  /-- EVRD (R246). Writes EVPEND to g[d]. -/
  | evrd (w : Fin 8) (d : Fin 32)
  /-- AGW (R270). Writes a value to an agent register at every agent of a set under a ticket. -/
  | agw (w : Fin 8) (d : Fin 32) (sa : Fin 16) (b : Fin 32) (reg : BitVec 8)
  /-- AGR (R270). Reads an agent register across a set and reduces or collects the replies. -/
  | agr (w : Fin 8) (d : Fin 32) (sa : Fin 16) (b : Fin 32) (reg : BitVec 8) (red : Red)
  /-- AGR_LM (R271). Local-memory read or write across a set from a descriptor. -/
  | agrLm (w : Fin 8) (d : Fin 32) (sa : Fin 16) (b : Fin 32) (rd : Bool)
  /-- HALT (R273). Immediate halt: starts a cut of a partition with cause 3. -/
  | halt (w : Fin 8) (d : Fin 32) (a : Fin 32)
  /-- HALT_PLANNED (R102). Arms a planned halt of a partition at step S in an anchor region, or completes LATE. -/
  | haltPlanned (w : Fin 8) (d : Fin 32) (a : Fin 32) (b : Fin 32) (region : Fin 4)
  /-- RUN (R115). Resumes a halted partition in every region. -/
  | run (w : Fin 8) (d : Fin 32) (a : Fin 32)
  /-- STEP (R113). Releases N steps in each region of a partition and takes a cut. -/
  | step (w : Fin 8) (d : Fin 32) (a : Fin 32) (b : Fin 32)
  /-- SNIP (R110). Takes a cut of a partition, halting it if running. -/
  | snip (w : Fin 8) (d : Fin 32) (a : Fin 32)
  /-- TRIG (R276). Writes CMP_VALn then CMP_CTRLn at every agent of a set under lease. -/
  | trig (w : Fin 8) (d : Fin 32) (sa : Fin 16) (b : Fin 32) (n : Fin 8)
  /-- TAP (R277). Writes a tap entry's four registers at one core under lease. -/
  | tap (w : Fin 8) (d : Fin 32) (sa : Fin 16) (b : Fin 32) (j : Fin 2)
  /-- TAPR (R277). Reads and clears a tap entry's coverage counts. -/
  | tapr (w : Fin 8) (d : Fin 32) (sa : Fin 16) (b : Fin 32) (j : Fin 2)
  /-- TAPC (R277). Clears a tap entry's match register across a set. -/
  | tapc (w : Fin 8) (d : Fin 32) (sa : Fin 16) (j : Fin 2)
  /-- EMIT (R278). Writes an EMIT record into the funnel's local input. -/
  | emit (w : Fin 8) (d : Fin 32) (a : Fin 32) (b : Fin 32) (cls : Fin 8) (units : Fin 16)
  /-- COMMIT (R279). Hands a buffer to the Hank store for a named area. -/
  | commit (w : Fin 8) (d : Fin 32) (a : Fin 32) (b : Fin 32) (area : Fin 16)
  /-- LEASE (R280). Grants, renews or refuses a lease on a hub resource. -/
  | lease (w : Fin 8) (d : Fin 32) (a : Fin 32) (b : Fin 32)
  /-- RELEASE (R284). Ends a lease, completing dependent tickets and resetting the resource. -/
  | release (w : Fin 8) (d : Fin 32) (a : Fin 32)
  /-- SEND (R285). Sends a message on an inter-hub channel to a numbered hub. -/
  | send (w : Fin 8) (d : Fin 32) (a : Fin 32) (b : Fin 32) (units : Fin 64)
  /-- RECV (R286). Takes the oldest message of a channel queue into a buffer. -/
  | recv (w : Fin 8) (d : Fin 32) (a : Fin 32) (b : Fin 32) (units : Fin 64)
  /-- TICKET_COMPLETE (R240). An operation's outcome arrives and wins the race, moving its ticket to DONE and writing its result register. -/
  | ticketComplete (w : Fin 8) (t : Fin 64)
  /-- TICKET_TIMEOUT (R58). A ticket's deadline wins the race and the ticket completes TIMEOUT. -/
  | ticketTimeout (w : Fin 8) (t : Fin 64)
  /-- TIMER_EXPIRE (R247). Hub time reaches an armed Whorl timer, setting its expired flag. -/
  | timerExpire (w : Fin 8) (t : Fin 4)
  /-- LEASE_LAPSE (R282). A lease reaches its expiry, completing dependent tickets OWNER_GONE and resetting the resource. -/
  | leaseLapse (w : Fin 8) (h : Fin 64)
  /-- WHORL_FAULT (R261). A Whorl faults, including a late register-page store failure, and stops with FCODE. -/
  | whorlFault (w : Fin 8) (code : FCode) (addr : Word)
  /-- WHORL_RESET (R260). WHL_CTRL.RESET returns the Whorl to RESET and ends its session. -/
  | whorlReset (who : Who) (w : Fin 8)
  /-- WHORL_STOP (R260). WHL_CTRL.STOP stops the Whorl at an instruction boundary. -/
  | whorlStop (who : Who) (w : Fin 8)
  /-- WHORL_START (R260). WHL_CTRL.START moves a LOADED or STOPPED Whorl to RUNNING. -/
  | whorlStart (who : Who) (w : Fin 8)
  /-- WHORL_LOAD (R257). WHL_CTRL.LOAD resets the Whorl and starts loading an image or ROM program. -/
  | whorlLoad (who : Who) (w : Fin 8)
  /-- LOAD_END (R258). A load finishes its checks, sets LOADST, raises line 6 and optionally starts the program. -/
  | loadEnd (w : Fin 8)
  /-- WHL_LS_DATA_ACCESS (R263). Reads or writes local store at WHL_LS_ADDR and advances it. -/
  | whlLsDataAccess (who : Who) (w : Fin 8) (wr : Bool) (v : Word)
  /-- WHORL_OUT (R424). The hub takes a failing Whorl out of service and lets its leases lapse. -/
  | whorlOut (w : Fin 8)
  /-- REGISTER_WRITE (R379). A write to a register without its own row sets its fields by their access types. -/
  | registerWrite (who : Who) (off : Nat) (v : Word)
  /-- EVT_RAISE (R244). A write to EVT_RAISE raises the lines written as 1. -/
  | evtRaise (who : Who) (v : Word)
  /-- PRT_CMD_HALT (R122). PRT_CMD OP 1 halts a partition. -/
  | prtCmdHalt (who : Who) (p : Fin 64)
  /-- PRT_CMD_RUN (R122). PRT_CMD OP 2 runs a partition. -/
  | prtCmdRun (who : Who) (p : Fin 64)
  /-- PRT_CMD_STEP (R122). PRT_CMD OP 3 steps a partition N times. -/
  | prtCmdStep (who : Who) (p : Fin 64) (arg : BitVec 16)
  /-- PRT_CMD_SNIP (R122). PRT_CMD OP 4 takes a cut of a partition. -/
  | prtCmdSnip (who : Who) (p : Fin 64)
  /-- PRT_MAP_WRITE (R93). ROOT changes cluster partition bytes, accepting or refusing each under R93. -/
  | prtMapWrite (who : Who) (k : Fin 32) (v : Word)
  /-- PRT_MAP_APPLY (R93). An accepted partition change acts at the cluster's leaves L edges after reaching the root. -/
  | prtMapApply (r : Fin 4)
  /-- STOP_TREE_ROOT_SEND (R99). At a root edge the root chooses and sends one stop-tree message by precedence, or drops a redundant triggered HALT. -/
  | stopTreeRootSend (r : Fin 4)
  /-- LEAF_HALT (R97). A HALT message acts at every leaf L edges later, setting freeze latches. -/
  | leafHalt (r : Fin 4)
  /-- LEAF_RUN (R97). A RUN message clears the leaf latches. -/
  | leafRun (r : Fin 4)
  /-- LEAF_STEP (R97). A STEP message clears the latches for exactly N edges. -/
  | leafStep (r : Fin 4)
  /-- LEAF_STEP_DONE (R113). After N steps the latch sets again and the root sets ST_PHALT and continues to the cut. -/
  | leafStepDone (r : Fin 4) (p : Fin 64)
  /-- LEAF_MARK (R97). A MARK message pulses SM_MARK at the partition's seam producer ends. -/
  | leafMark (r : Fin 4)
  /-- LEAF_CLRMARK (R97). A CLRMARK message pulses SM_CLR at the partition's seam consumer ends. -/
  | leafClrmark (r : Fin 4)
  /-- PLANNED_HALT_DUE (R102). An armed planned-halt comparator sends HALT to act at step S, or at once and LATE under R103. -/
  | plannedHaltDue (p : Fin 64)
  /-- REGION_FROZEN (R107). The return-path AND of CA_FROZEN reaches 1 and the root sends MARK. -/
  | regionFrozen (r : Fin 4) (p : Fin 64)
  /-- REGION_READY (R107). The return-path AND of SM_MARKED reaches 1 and the root reports the region ready. -/
  | regionReady (r : Fin 4) (p : Fin 64)
  /-- CUT_COMPLETE (R107). Every region and remote hub is ready: CUT set, NFAIL recorded, tickets completed, HALTED set. -/
  | cutComplete (p : Fin 64)
  /-- CUT_TIMEOUT (R109). PRT_CUT_TMO passes and the cut completes PARTIAL or TIMEOUT. -/
  | cutTimeout (p : Fin 64)
  /-- RUN_RESUMED (R115). Every region has resumed and the partition reads RUNNING. -/
  | runResumed (p : Fin 64)
  /-- FREEZE_LATE (R65). A core shows no CA_FROZEN 64 cycles after its freeze and is reported FREEZE_LATE. -/
  | freezeLate (site : Nat)
  /-- COMPARATOR_HIT (R81). An address matches an armed comparator and its actions take effect. -/
  | comparatorHit (site : Nat) (acc : Access) (addr : BitVec 32)
  /-- CORE_EVENT (R84). A CA_EVT strobe enabled in AG_EVT_MAP, or the watchdog bit, reaches the Flyer. -/
  | coreEvent (site : Nat) (evt : BitVec 8)
  /-- FLY_XT_FIRE (R84). A write of FLY_XT_FIRE is a firing event for the named channels. -/
  | flyXtFire (cluster : Nat) (bits : BitVec 8)
  /-- CHANNEL_FIRE (R85). A cross-trigger channel fires two edges after its event and drives its enabled sinks. -/
  | channelFire (cluster : Nat) (ch : Fin 8)
  /-- GUEST_TRIGGER_RELAY (R91). The Distaff fires the home cluster's channel for a guest spare's event through the bare path. -/
  | guestTriggerRelay (site : Nat) (ch : Fin 8)
  /-- AGENT_OP_RECEIVE (R46). A Flyer receives an agent operation, discards or replays duplicates, and applies it at its Bobbins. -/
  | agentOpReceive (flyer : Nat) (issuer : Fin 9) (iseq : BitVec 16)
  /-- INSPECTION_ACK (R69). The core acknowledges a register inspection request with status and data. -/
  | inspectionAck (site : Nat) (stat : Fin 8) (data : Word)
  /-- INSPECTION_TIMEOUT (R69). No CA_RI_ACK within 64 cycles: the Bobbin answers NOACK. -/
  | inspectionTimeout (site : Nat)
  /-- LM_STEAL (R75). At an edge promised free the Bobbin issues one local-memory word access. -/
  | lmSteal (site : Nat)
  /-- LM_READ_RETURN (R78). Local-memory read data returns with its error code. -/
  | lmReadReturn (site : Nat) (err : Fin 4) (data : Word)
  /-- LM_DEADLINE (R77). The deadline passes before the last word and the Bobbin stops with LM_DEADLINE. -/
  | lmDeadline (site : Nat)
  /-- WAKE_ACK (R56). The core returns CA_WAKE_ACK and the Bobbin starts its crossing. -/
  | wakeAck (site : Nat)
  /-- WAKE_TIMEOUT (R56). No wake acknowledge within 4,000 ht: the agent answers WAKE and withdraws the request. -/
  | wakeTimeout (site : Nat)
  /-- WAKE_RELEASE (R74). 64 cycles after the last crossing the Bobbin withdraws CA_WAKE_REQ. -/
  | wakeRelease (site : Nat)
  /-- CORE_RESET_ASSERT (R71). CA_RST_N falls: operations end CORE_RESET, open commands clear and tap windows close. -/
  | coreResetAssert (site : Nat)
  /-- CORE_RESET_RELEASE (R71). CA_RST_N rises and the Bobbin resumes requests after 16 cycles. -/
  | coreResetRelease (site : Nat)
  /-- VT_TX_WRITE (R82). The core writes a word to VT_TX, or it is dropped when full. -/
  | vtTxWrite (site : Nat) (v : Word)
  /-- VT_RX_POP (R83). The core pops the head word of VT_RX. -/
  | vtRxPop (site : Nat)
  /-- VT_DRAIN (R134). The Flyer drains a VT_TX word into a TERM record. -/
  | vtDrain (site : Nat)
  /-- FLOW_EVENT (R131). A branch or indirect transfer is encoded into FLOW_BR or FLOW_IND records. -/
  | flowEvent (site : Nat) (iaddr : Option (BitVec 32)) (br : Option Bool) (ind : Option (BitVec 32))
  /-- CMD_EVENT (R132). A command begin or end on a slot yields a CMD record and updates open-command tracking. -/
  | cmdEvent (site : Nat) (slot : Fin 4) (bgn : Bool) (fin : Bool) (ids : BitVec 56)
  /-- CORE_POWER_CHANGE (R137). A change of CA_LP, CA_GATED or CA_RST_N yields an LPWR record. -/
  | corePowerChange (site : Nat) (lp : Bool) (gated : Bool)
  /-- FLYER_TAKE (R139). Each edge a Flyer takes one record into its queue by round robin, dropping by class. -/
  | flyerTake (flyer : Nat)
  /-- RECORD_AGE_DROP (R130). A record waits 2^22 ht at the queue head and is discarded with gap reason AGE. -/
  | recordAgeDrop (flyer : Nat)
  /-- GROUP_SEND (R140). A Flyer sends a group of records on the trace plane. -/
  | groupSend (flyer : Nat)
  /-- COLLECTOR_ARBITRATE (R49). A collector picks local or through input at a group boundary. -/
  | collectorArbitrate (node : Nat)
  /-- TRACE_WORD_ERROR (R141). A collector discards an uncorrectable word and its group, or hunts after a bad header. -/
  | traceWordError (node : Nat) (bad : BadWord)
  /-- GROUP_ARRIVAL (R142). The funnel checks a group's GSEQ and writes a TPLANE gap and resync on a gap. -/
  | groupArrival (col : Fin 16)
  /-- FUNNEL_PARSE (R149). The funnel parses a record into the reorder store or D queue and computes its E. -/
  | funnelParse (input : Fin 17)
  /-- FUNNEL_RELEASE (R150). Hub time reaches E + W and the funnel releases the record to the sinks. -/
  | funnelRelease
  /-- GAP_FLUSH (R144). A pending gap is placed after 40,000 ht without a record of its source. -/
  | gapFlush (point : DropPoint) (src : BitVec 16)
  /-- BUFFER_MODE_WRITE (R157). A write of TRC_WIN_CTRL.MODE empties the buffer, discards gaps and arms WINDOW mode. -/
  | bufferModeWrite (who : Who) (v : Word)
  /-- BUFFER_TRIGGER (R158). A rise of TLINE triggers a WINDOW capture and inserts a TRIG record. -/
  | bufferTrigger
  /-- TRC_WIN_FIRE (R158). A write of TRC_WIN_FIRE fires the buffer trigger. -/
  | trcWinFire (who : Who)
  /-- CAPTURE_END (R160). The reserve fills or TRC_WIN_TMO passes: closing gaps written, STATE CAPTURED. -/
  | captureEnd
  /-- TRC_BUF_RDATA_READ (R161). A read returns the buffer unit at RADDR and advances it. -/
  | trcBufRdataRead (r : UnitRead)
  /-- BUFFER_BANK_RETIRE (R156). A trace-buffer bank is retired and indices close up. -/
  | bufferBankRetire (bank : Fin 8)
  /-- SPILL_BLOCK_WRITE (R162). The spill path writes a block to the HBM ring or drops when full. -/
  | spillBlockWrite
  /-- LL_HOLD_REQUEST (R145). A lossless queue reaches its threshold and requests a hold of its partition. -/
  | llHoldRequest (point : DropPoint) (p : Fin 64)
  /-- LL_HOLD_START (R146). The cut controller halts the partition for a lossless hold. -/
  | llHoldStart (p : Fin 64)
  /-- LL_HOLD_END (R146). Every requesting queue falls below 25 % and the hold ends with RUN. -/
  | llHoldEnd (p : Fin 64)
  /-- LL_HOLD_TIMEOUT (R147). A hold lasts TRC_LL_CTRL.TMO and ends with RUN and HOLD_TMO drops. -/
  | llHoldTimeout (p : Fin 64)
  /-- TAP_EDGE (R171). Each edge the Card engine applies tag, element and command-end rules to the tapped stream. -/
  | tapEdge (flyer : Nat) (edge : TapEdge)
  /-- TAP_ROTATE (R188). The Flyer moves its engine to the next candidate entry after DWELL windows or 400,000 ht. -/
  | tapRotate (flyer : Nat)
  /-- DRIFT_COMPARE (R186). A parsed SUMMARY for a watched tap is compared against its reference. -/
  | driftCompare (n : Fin 64)
  /-- DRIFT_LEVEL_DEFERRED (R187). A trip waiting for the 40 ht interval inverts the cluster's drift level. -/
  | driftLevelDeferred (cluster : Nat) (ch : Fin 8)
  /-- AO_BOUNDARY (R196). An always-on period boundary reaches a Flyer, which snapshots and sends its sums or discards an unsent one. -/
  | aoBoundary (flyer : Nat)
  /-- AO_ENTRY_WRITE (R197). The Distaff writes a cluster's always-on entry and updates die totals. -/
  | aoEntryWrite (cluster : Nat)
  /-- SAMPLE_EDGE (R200). A detail boundary makes Bobbins capture counters and build CSAMP records. -/
  | sampleEdge (cluster : Nat) (perf : List (Nat × BitVec 32))
  /-- RING_WRITE (R203). The ring writer copies a parsed CSAMP record into the sample ring or drops it. -/
  | ringWrite
  /-- WDG_REPORT (R208). A watchdog strobe sets the core's pending bit at its Flyer. -/
  | wdgReport (site : Nat)
  /-- WDG_FETCH (R208). The Distaff fetches and clears a pending watchdog mask and accepts or ignores reports. -/
  | wdgFetch (cluster : Nat)
  /-- DMP_REQ (R210). A write of DMP_REQ.GO declares cause 3 for a partition. -/
  | dmpReq (who : Who) (p : Fin 64)
  /-- DUMP_PROGRAM_START (R213). The hub starts the dump program for the next queued declaration. -/
  | dumpProgramStart
  /-- DUMP_TIMEOUT (R233). DMP_TMO passes and the dump ends with TRUNC records and ABORT. -/
  | dumpTimeout
  /-- HNG_CTRL_WRITE (R213). A write of HNG_CTRL sets AUTO and WHORL and may load ROM program 1. -/
  | hngCtrlWrite (who : Who) (v : Word)
  /-- HNK_PIN_WRITE (R310). A write of HNK_PIN appends a dump index entry with PIN changed. -/
  | hnkPinWrite (who : Who) (v : Word)
  /-- COMMIT_ADMIT (R294). A waiting commit enters the commit order once the backlog has room. -/
  | commitAdmit
  /-- COMMIT_DURABLE (R292). A commit is written and verified in every bank and reported durable in order. -/
  | commitDurable
  /-- POWERED_TICK (R298). Every 2^32 ht the hub commits the POWERED lifetime counter. -/
  | poweredTick
  /-- PFW_ASSERT (R311). PFW_N asserts after its filter and the power-fail sequence runs. -/
  | pfwAssert
  /-- PFW_GLITCH (R373). A low pulse shorter than 400 ht is counted in GLITCH. -/
  | pfwGlitch
  /-- PFW_CLEAR (R313). PFW_N stays deasserted 400,000 ht: inhibit lifted, L0 commit restarted. -/
  | pfwClear
  /-- HANK_MOUNT (R314). At hub reset the controller mounts MRAM and journals START. -/
  | hankMount
  /-- NAND_MOUNT (R314). The controller identifies NAND devices and erases pages beyond the head. -/
  | nandMount
  /-- MRAM_SCRUB (R315). The patrol reads MRAM units and rewrites corrected ones. -/
  | mramScrub (bank : Fin 4) (cell : MramCell)
  /-- MRAM_BANK_RETIRE (R316). An MRAM bank is retired and its contents lost. -/
  | mramBankRetire (bank : Fin 4)
  /-- NAND_WEAR_LEVEL (R308). The controller relocates the least-erased FULL block when the spread is too large. -/
  | nandWearLevel (dev : Fin 2)
  /-- NAND_PATROL (R308). The patrol reads programmed pages and relocates weak or old blocks; a `corr` of 33 stands for a sector past correction. -/
  | nandPatrol (dev : Fin 2) (blk : Nat) (page : Nat) (corr : Nat)
  /-- NAND_BLOCK_RETIRE (R309). A program or erase failure retires a block after relocating readable pages. -/
  | nandBlockRetire (dev : Fin 2) (blk : Nat)
  /-- XSPI_STATUS_POLL (R371). The controller polls NAND status every 4,000 ht. -/
  | xspiStatusPoll (dev : Fin 2) (ok : Bool)
  /-- XSPI_OP_TIMEOUT (R371). A NAND operation exceeds its limit and is treated as failed. -/
  | xspiOpTimeout (dev : Fin 2)
  /-- HNK_RD_DATA_READ (R317). A read returns the Hank store unit at HNK_RD_SEL and advances the address. -/
  | hnkRdDataRead (r : UnitRead)
  /-- REFCLK_LOSS (R319). HUB_REFCLK is lost and the time base enters HOLDOVER. -/
  | refclkLoss
  /-- REFCLK_RETURN (R319). The reference returns, the time base relocks and starts a full measurement. -/
  | refclkReturn
  /-- IHB_ELECT (R326). A write of IHB_CTRL.ELECT starts an election. -/
  | ihbElect (who : Who)
  /-- ELECT (R326). An ELECT message arrives and the hub updates and resends its best keys. -/
  | elect (ch : Fin 8) (lseq : BitVec 16) (msg : ElectMsg)
  /-- ELECTION_CLOSE (R326). 40,000 ht pass without improvement and the roots and time tree are set. -/
  | electionClose
  /-- PROBE (R328). A PROBE arrives and the parent answers PROBE_REPLY with t2 and t3. -/
  | probe (ch : Fin 8) (lseq : BitVec 16) (t1 : Word)
  /-- PROBE_REPLY (R328). A PROBE_REPLY arrives and the child computes delay and offset. -/
  | probeReply (ch : Fin 8) (lseq : BitVec 16) (t1 : Word) (t2 : Word) (t3 : Word)
  /-- PROBE_TIMEOUT (R328). An exchange has no reply within 8,000 ht and is not counted. -/
  | probeTimeout
  /-- TIME_EXCHANGE_TICK (R329). A measurement or tracking exchange falls due and the child sends PROBE. -/
  | timeExchangeTick
  /-- TIME_ALIGN (R329). A hub's first alignment steps hub time forward. -/
  | timeAlign
  /-- TIME_SELF_ALIGN (R330). Election and alignment do not finish within 8,000,000 ht and the hub aligns on its own. -/
  | timeSelfAlign
  /-- TIM_MEASURE (R331). A write of TIM_CTRL.MEASURE starts a full measurement. -/
  | timMeasure (who : Who)
  /-- MSG (R285). An inter-hub MSG arrives and is queued or forwarded, with an ACK returned. -/
  | msg (ch : Fin 8) (lseq : BitVec 16) (src : BitVec 7) (dst : BitVec 7) (mtag : BitVec 32) (sch : Fin 8) (units : List Word)
  /-- ACK (R285). An inter-hub ACK arrives and completes the SEND ticket. -/
  | ack (ch : Fin 8) (lseq : BitVec 16) (src : BitVec 7) (dst : BitVec 7) (mtag : BitVec 32) (full : Bool)
  /-- NAME (R324). A NAME message arrives and updates routes or reports a number conflict. -/
  | name (ch : Fin 8) (lseq : BitVec 16) (hub : BitVec 7) (hops : BitVec 16)
  /-- IHB_ID_WRITE (R324). ROOT writes a hub number and the hub sends NAME on every channel up. -/
  | ihbIdWrite (who : Who) (v : Word)
  /-- HALT_REQ (R333). A HALT_REQ arrives and the hub takes a cut with cause 5 or confirms JOINED. -/
  | haltReq (ch : Fin 8) (lseq : BitVec 16) (cutid : Word) (deadline : Word) (part : Fin 64)
  /-- CONFIRM (R334). A child's CONFIRM arrives and is added toward the parent's confirmation. -/
  | confirm (ch : Fin 8) (lseq : BitVec 16) (cutid : Word) (joined : Bool) (nfail : BitVec 16)
  /-- CUT_CHILD_DEADLINE (R334). A hub's DEADLINE passes with children unconfirmed and it confirms with them counted. -/
  | cutChildDeadline (p : Fin 64)
  /-- MARK (R323). An inter-hub MARK arrives and stands for SM_MARKED on that link's seams. -/
  | mark (ch : Fin 8) (lseq : BitVec 16) (cutid : Word) (part : Fin 64)
  /-- RDV_OPEN (R336). RDV_OPEN arrives: forwarded down and marks cleared. -/
  | rdvOpen (ch : Fin 8) (lseq : BitVec 16) (epoch : BitVec 16) (op : RdvOp) (cutid : Word)
  /-- RDV_ARRIVE (R336). RDV_ARRIVE arrives and is counted for its epoch. -/
  | rdvArrive (ch : Fin 8) (lseq : BitVec 16) (epoch : BitVec 16) (members : BitVec 16) (cutid : Word)
  /-- RDV_RELEASE (R336). RDV_RELEASE arrives: forwarded and the hub's roots run or step. -/
  | rdvRelease (ch : Fin 8) (lseq : BitVec 16) (epoch : BitVec 16) (op : RdvOp) (cutid : Word)
  /-- RDV_LEFT (R336). RDV_LEFT arrives and is counted toward completion. -/
  | rdvLeft (ch : Fin 8) (lseq : BitVec 16) (epoch : BitVec 16) (members : BitVec 16) (cutid : Word)
  /-- RDV_TIMEOUT (R336). PRT_CUT_TMO passes before every member arrives and the starting hub releases. -/
  | rdvTimeout (p : Fin 64)
  /-- DUMP_REQ (R335). A DUMP_REQ arrives and the hub declares cause 4 and forwards it. -/
  | dumpReq (ch : Fin 8) (lseq : BitVec 16) (num : Word) (cutid : Word)
  /-- CHANNEL_UP (R368). IHn_UP stays 1 for 4,000 ht and the channel comes up. -/
  | channelUp (ch : Fin 8)
  /-- CHANNEL_DOWN (R368). IHn_UP falls and the channel goes down. -/
  | channelDown (ch : Fin 8)
  /-- PACKET_RECEIVE (R36). A node receives a control packet, discarding bad ones. -/
  | packetReceive (link : Nat) (hdr : List (BitVec 32)) (hdrSide : List (BitVec 4)) (pay : List (BitVec 32)) (paySide : List (BitVec 4))
  /-- LINK_ACK (R39). A link-control ACK frees acknowledged packets from the retry buffer. -/
  | linkAck (link : Nat) (flit : Word)
  /-- LINK_NAK (R39). A link-control NAK makes the sender resend from the oldest unacknowledged packet. -/
  | linkNak (link : Nat) (flit : Word)
  /-- LINK_RETRY_TIMEOUT (R39). No acknowledgement within 2,000 ht: resend, or declare the link direction failed. -/
  | linkRetryTimeout (link : Nat)
  /-- ROUTE_REBUILD (R438). The Distaff builds new trees after a link failure and advances affected epochs. -/
  | routeRebuild
  /-- EPOCH_CLOSE (R47). An epoch close arrives at a Flyer and releases held operations in ISEQ order. -/
  | epochClose (flyer : Nat) (issuer : Fin 9) (epoch : Fin 16)
  /-- REDUCTION_SEND (R43). A node sends its reduction once all contributors answered or the deadline passed. -/
  | reductionSend (node : Nat) (issuer : Fin 9) (iseq : BitVec 16)
  /-- ENTRY_LINK_FAIL (R423). A Distaff entry link direction fails and its issuers move to the next entry point. -/
  | entryLinkFail (e : Fin 4) (out : Bool)
  /-- SPN_MODE_WRITE (R60). A write of SPN_MODE.CAREFUL enters or leaves careful mode after draining. -/
  | spnModeWrite (who : Who) (v : Word)
  /-- QUEUE_RESYNC (R57). A reset on one side of a crossing queue runs pointer resynchronisation. -/
  | queueResync (index : Nat) (items : Nat)
  /-- CROSSING_OVERRUN (R54). An event arrives before the echo and is counted as an overrun. -/
  | crossingOverrun (index : Nat)
  /-- FLYER_PROBE (R88). The Distaff probes a Flyer and counts unanswered probes. -/
  | flyerProbe (flyer : Nat) (answered : Bool)
  /-- FLYER_TAKEOVER (R88). A Flyer is declared failed and its east neighbour takes the cluster over. -/
  | flyerTakeover (flyer : Nat)
  /-- CARD_ENGINE_FAIL (R425). A Card engine leaves service and serves no entry. -/
  | cardEngineFail (flyer : Nat)
  /-- BOBBIN_FAIL (R426). A Bobbin fails and its site is shown failed. -/
  | bobbinFail (site : Nat)
  /-- RECOVERY_ENGINE_FAIL (R428). The lockstep copies disagree and all repair stops. -/
  | recoveryEngineFail
  /-- REGION_POWER_OFF (R138). A region's supply is removed and the root reports it off. -/
  | regionPowerOff (r : Fin 4)
  /-- REGION_POWER_ON (R120). A region's supply returns and its sites rejoin their partitions. -/
  | regionPowerOn (r : Fin 4)
  /-- REPAIR_SAMPLE (R407). The hub samples repair inputs and performs a spare substitution on a change. -/
  | repairSample (row : Fin 64) (v : BitVec 7)
  /-- TWP_LINE_RESET (R344). 96 cycles at 1 reset the two-wire port and its unlock level. -/
  | twpLineReset
  /-- TWP_ACTIVATE (R344). The activation pattern and 8 zero cycles move the port to IDLE. -/
  | twpActivate
  /-- TWP_RD (R348). Two-wire RD request reads a window register. -/
  | twpRd (addr : BitVec 21)
  /-- TWP_WR (R347). Two-wire WR request writes a window register. -/
  | twpWr (addr : BitVec 21) (data : Word) (crc : BitVec 8)
  /-- TWP_RDN (R345). Two-wire RDN reads the next address. -/
  | twpRdn (addr : BitVec 21)
  /-- TWP_WRN (R345). Two-wire WRN writes the next address. -/
  | twpWrn (addr : BitVec 21) (data : Word) (crc : BitVec 8)
  /-- TWP_STATUS (R348). Two-wire STATUS returns TWP_STAT at once. -/
  | twpStatus (addr : BitVec 21)
  /-- TWP_ABORT (R349). Two-wire ABORT clears STICKY and CAUSE and discards a held read. -/
  | twpAbort (addr : BitVec 21)
  /-- TWP_READ_COMPLETE (R348). A background read finishes and its result is held, or faults. -/
  | twpReadComplete (ok : Bool)
  /-- TWP_REQUEST_TIMEOUT (R350). A partly received request is discarded after 4,000,000 ht without a TWCK edge. -/
  | twpRequestTimeout
  /-- TWP_DOOR (R356). A write to TWP_DOOR raises line 7. -/
  | twpDoor (v : Word)
  /-- HOST_DOOR (R356). A write to HOST_DOOR raises line 8. -/
  | hostDoor (v : Word)
  /-- HOST_REQUEST (R354). The host port takes a request, checks it and answers in order. -/
  | hostRequest (wr : Bool) (addr : BitVec 21) (strb : BitVec 8) (data : Word) (cls : Fin 4) (tenant : BitVec 8)
  /-- HOST_ACCESS_TIMEOUT (R354). A host access has not completed within 40,000 ht and answers FAILED. -/
  | hostAccessTimeout
  /-- HOST_RESPONSE_STALL (R355). HRS_READY stays 0 for 4,000,000 ht: RS_STALL set and line 13 raised. -/
  | hostResponseStall
  /-- HOST_PORT_RESET (R352). HRST_N falls and unanswered requests are discarded. -/
  | hostPortReset
  /-- MP_REQUEST_ISSUE (R359). The master port issues a client request once tokens and tags allow, or refuses it. -/
  | mpRequestIssue
  /-- MP_READ_BEAT (R357). A read beat returns on the master port. -/
  | mpReadBeat (tag : BitVec 8) (last : Bool) (data : List Word) (err : Fin 4)
  /-- MP_WRITE_COMPLETION (R361). A write completion returns on the master port. -/
  | mpWriteCompletion (tag : BitVec 8) (err : Fin 4)
  /-- MP_TIMEOUT (R361). A request has no completion within MPT_CFG.TMO and its tag is quarantined. -/
  | mpTimeout (wr : Bool) (tag : BitVec 8)
  /-- MPT_ACC_GO (R362). A write of MPT_ACC_CTRL.GO issues one indirect 8-byte access. -/
  | mptAccGo (who : Who) (v : Word)
  /-- LANE_FRAME_SEND (R365). A frame of a stream is sent on the next lane with room. -/
  | laneFrameSend (dstream : Bool)
  /-- LANE_IDLE_FRAME (R365). A lane would idle 400 ht and a frame with NW 0 is sent. -/
  | laneIdleFrame (lane : Fin 16)
  /-- LANE_IN_SERVICE (R366). TLn_UP stays 1 for 40,000 ht and the lane joins service. -/
  | laneInService (lane : Fin 16)
  /-- LANE_DOWN (R366). TLn_UP falls and the lane's frames are replayed on other lanes. -/
  | laneDown (lane : Fin 16)
  /-- LANE_STALL (R366). TLn_READY stays 0 for 40,000 ht and the lane leaves service. -/
  | laneStall (lane : Fin 16)
  /-- RGT_CHAL_NEW (R417). A write of RGT_CHAL.NEW draws a fresh nonce. -/
  | rgtChalNew (who : Who) (healthy : Bool)
  /-- RGT_RESP_SUBMIT (R418). A write of RGT_RESP_HI submits a response for checking. -/
  | rgtRespSubmit (who : Who) (v : Word)
  /-- RESPONSE_CHECK (R418). The HMAC check finishes and the level rises or the refusal is counted. -/
  | responseCheck
  /-- NONCE_LAPSE (R417). A nonce lapses 2^36 ht after it was drawn. -/
  | nonceLapse
  /-- LOCKOUT_END (R418). The lockout period ends and LOCKOUT clears. -/
  | lockoutEnd
  /-- RGT_UNLOCK_WRITE (R419). A write of REQ below LEVEL lowers the unlock level at once. -/
  | rgtUnlockWrite (who : Who) (v : Word)
  /-- RGT_POLICY_WRITE (R387). A write of MAXLEVEL lowers LEVEL when it is above the new maximum. -/
  | rgtPolicyWrite (who : Who) (v : Word)
  /-- BOOT_RELEASE (R411). A write of ID_BOOT.RELEASE ends the debug boot hold. -/
  | bootRelease (who : Who) (v : Word)
  /-- AGA_AGENT_WRITE (R393). AGA OP 1 queues an agent write at the bare path. -/
  | agaAgentWrite (who : Who) (v : Word)
  /-- AGA_AGENT_READ (R393). AGA OP 2 queues an agent read with reduction. -/
  | agaAgentRead (who : Who) (v : Word)
  /-- AGA_LM_WRITE (R393). AGA OP 3 queues a local-memory write. -/
  | agaLmWrite (who : Who) (v : Word)
  /-- AGA_LM_READ (R393). AGA OP 4 queues a local-memory read. -/
  | agaLmRead (who : Who) (v : Word)
  /-- AGA_CREG_READ (R394). AGA OP 5 sets AG_CWIN then reads a core register. -/
  | agaCregRead (who : Who) (v : Word)
  /-- AGA_CREG_WRITE (R394). AGA OP 6 sets AG_CWIN then writes a core register. -/
  | agaCregWrite (who : Who) (v : Word)
  /-- AGA_COMPLETE (R393). A bare-path operation ends and AGA_STAT reads DONE. -/
  | agaComplete
  /-- AGA_TIMEOUT (R392). A bare-path operation's deadline wins over its reply. -/
  | agaTimeout
  /-- POWER_ON_RESET (R399). The retention rail's power-on reset restarts hub time at 0. -/
  | powerOnReset
  /-- HUB_RESET (R402). A hub reset asserts: outputs held and frozen partitions released at the roots. -/
  | hubReset
  /-- HUB_RESET_RELEASE (R403). A hub reset is released and start-up stages run. -/
  | hubResetRelease
  /-- BOOT_STAGE_TIMEOUT (R404). A start-up stage passes its bound and the sequencer restarts on the next Whorl. -/
  | bootStageTimeout
  /-- SCHEDULE_STEP (R95). At a region clock edge where a core's leaf holds CA_FREEZE at 0, the core begins a schedule step, so its step number and the always-on counts advance. -/
  | scheduleStep (r : Fin 4) (levels : EdgeLevels)
  /-- PERF_STROBE (R193). A CA_PERF strobe bit selected by a programmable counter adds 1 to that counter. -/
  | perfStrobe (site : Nat) (strobes : BitVec 32)
  /-- TRACE_LINK_FAIL (R50). The trace-plane link south of a collector fails, and the collector sends its traffic laterally into the neighbouring column. -/
  | traceLinkFail (node : Nat)
  /-- MESSAGE_DISCARD (R322). An inter-hub message with a failed CRC, a reserved KIND or a wrong length is discarded and counted in IHB_CHn.BAD. -/
  | messageDiscard (ch : Fin 8)
  /-- HOST_RESPONSE_TAKE (R355). The host takes a response with HRS_READY, freeing its slot and clearing RS_STALL so that request intake resumes. -/
  | hostResponseTake
  /-- TWP_HEADER_REJECT (R347). A two-wire header with a bad CRC, a STOP of 1 or a reserved OP is rejected, counted in HDRERR or answered FAULT with cause BADOP. -/
  | twpHeaderReject (hdr : BitVec 34)
  /-- XSPI_DQS_TIMEOUT (R371). XSc_DQS does not toggle within 16 bus clocks of a read's data phase, so the read is retried once and then treated as uncorrectable. -/
  | xspiDqsTimeout (c : Fin 4)
  deriving DecidableEq, Repr

end Sys2Proof
end

