-- ==== Sys2Proof/Config.lean ====
section
/-! DEFINITION. The values the spec leaves open, as constants without a body: nothing constrains them (DESIGN CHOICE, log entries 3 and 7). -/

namespace Sys2Proof

/-- FREE VALUE. The byte of ROM at an offset: R259 names the ROM programs and no file gives their words. -/
opaque Config.romByte : Nat → Byte
/-- FREE VALUE. The instruction index in ROM at which a ROM program starts: R259 names the programs and no file gives their entries. -/
opaque Config.romEntry : Nat → Nat
/-- FREE VALUE. The n-th nonce drawn from the random bit generator (R417). -/
opaque Config.nonce : Nat → BitVec 128
/-- FREE VALUE. Whether a byte's least significant bit comes first in the code of a NAND sector: R304 gives the order of the bytes alone. -/
opaque Config.bchLsbFirst : Bool
/-- FREE VALUE. HOPS_e of a cluster that entry point e's tree does not reach: Table 15.5 gives no figure. -/
opaque Config.noHops : Nat → Nat → BitVec 8
/-- FREE VALUE. The fraction of a NaN that a drift comparator records (R186 gives no code). -/
opaque Config.nanFraction : BitVec 23
/-- FREE VALUE. The error bound in ps of the hub that becomes the n-th time-tree parent: R332 uses it and no message carries it. -/
opaque Config.parentErr : Nat → Nat
/-- FREE VALUE. LINE of the TRIG record that a write of TRC_WIN_FIRE inserts: Table 5.12 gives the field and no value for it. -/
opaque Config.swTrigLine : Nat → BitVec 6
/-- FREE VALUE. WHL_PC as the n-th such read shows it while its Whorl runs: Table 9.16 gives PC for a Whorl that does not run. -/
opaque Config.runningPc : Nat → BitVec 32
/-- FREE VALUE. The 64 data bits of the answer to an ABORT: Table 13.4 gives the exchange and R349 no data for it. -/
opaque Config.abortData : Nat → Word
/-- FREE VALUE. The ht that a CYC stands for while its region's RATE is 0: R149 divides by RATE. -/
opaque Config.cycNoRate : Nat → Nat
/-- FREE VALUE. What HNK_RD_DATA shows for an MRAM unit with an uncorrectable error, beside ECC 2 (R317). -/
opaque Config.badUnit : Nat → Word
/-- FREE VALUE. Tenths of a unit that each bank of the trace buffer takes in one ht, at a hub time: Table 5.14 gives 14 to 26, by voltage and
temperature. -/
opaque Config.bufRate : Nat → Nat
/-- FREE VALUE. SM_LEVEL of a seam at a hub time (Table 4.2): the seam drives it, and no command carries it. -/
opaque Config.smLevel : Nat → Nat → BitVec 8

end Sys2Proof
end

