-- ==== Sys2Proof/Machine/State.lean ====
section
/-! DEFINITION. The state of the hub: everything the spec gives it, as plain data (INVENTORY.md, '## State'). -/

namespace Sys2Proof.Machine

/-- The block raises no fault: a Whorl's fault is state (R261), a refused request is an answer (R354, R349). -/
inductive Fault where
  deriving DecidableEq, Repr

/-- Why a command has no meaning. -/
inductive Refusal where
  /-- A row of the table without a meaning yet: raised by no arm of exec once the model is whole; safe. -/
  | notModelled (mnemonic : String)
  deriving DecidableEq, Repr

/-- Statuses of completions (Table 9.3). -/
inductive Status where
  | ok | partial_ | noagent | timeout | late | sideEffect | locked | rights | ownerGone
  deriving DecidableEq, Repr

/-! ### Records and agent operations -/

/-- A Weadex record: header unit and payload units (R126). -/
structure Rec where
  hdr : Word
  pay : List Word
  deriving DecidableEq, Repr

/-- A gap held at a drop point for one source (R144, Table 5.11). -/
structure Gap where
  reason : Nat
  tv     : Bool
  sat    : Bool
  mix    : Bool
  count  : Nat
  time   : Word
  cycSum : Nat
  cls    : Nat
  since  : Nat
  deriving DecidableEq, Repr

/-- A record waiting in a queue, with the hub time at which it entered. -/
structure QRec where
  r   : Rec
  ent : Nat
  deriving DecidableEq, Repr

/-- What an agent operation asks for (Table 2.3, TYPE 1, 2, 6, 7). -/
inductive OpType where
  | write | read | lmWrite | lmRead
  deriving DecidableEq, Repr

/-- Who is told of an operation's outcome. -/
inductive Owner where
  | ticket (w t : Nat)
  | aga
  | hub
  deriving DecidableEq, Repr

/-- An agent operation from its issue until its outcome has been taken (R24, R38, R43): `nodes` are the nodes of the Flyers whose
sites it names, `todo` those of them that have not received it; `entry` is the entry point it went out by and `path` the parent + 1
of every node on its way, as the tree stood in its epoch (R41). -/
structure Op where
  id     : Nat
  issuer : Nat
  iseq   : BitVec 16
  epoch  : Nat
  type   : OpType
  pre    : List (Nat × Word)
  reg    : Nat
  set    : BitVec 128
  sites  : List Nat
  todo   : List Nat
  nodes  : List Nat
  entry  : Nat
  path   : Tab Nat
  data   : List Word
  nWords : Nat
  lmAddr : Nat
  str    : Bool
  red    : Red
  one    : Bool
  dl     : Option Nat
  span   : Nat
  buf    : Nat
  owner  : Owner
  held   : Option Nat
  deriving DecidableEq, Repr

/-- One agent's answer (R72): reason, value or words. -/
structure Reply where
  site   : Nat
  reason : Nat
  value  : Word
  words  : List Word
  deriving DecidableEq, Repr

/-- The outcome of an operation that has reached its issuer and waits to be taken (R58, R240); `reps` are the answers of an agent
operation, from which what it reports is formed when it is taken (R32). -/
structure Arrival where
  opId   : Nat
  status : Status
  count  : BitVec 32
  result : Option Word
  mem    : List (Nat × Word)
  win    : Nat
  reps   : Option (List Reply)
  deriving DecidableEq, Repr

/-- A node's part of a reduction (R43). -/
structure NodeAcc where
  node   : Nat
  issuer : Nat
  iseq   : BitVec 16
  got    : List Nat
  reps   : List Reply
  sent   : Bool
  deriving DecidableEq, Repr

/-! ### Whorls -/

/-- Table 9.15. -/
inductive WSt where
  | reset | loaded | running | stopped | fault | loading | out
  deriving DecidableEq, Repr

/-- The state of a ticket (R240). -/
inductive TkSt where
  | free | pending | done
  deriving DecidableEq, Repr

/-- What a ticket waits for (R251 tells fenced kinds apart). -/
inductive TkKind where
  | agent | runctl | trig | tap | emit | commit | send | recv
  deriving DecidableEq, Repr

/-- A ticket: outcome, deadline, result register, and the lease handles it was issued under (R240 to R242, R282). -/
structure Ticket where
  st     : TkSt
  status : Status
  count  : BitVec 32
  kind   : TkKind
  dl     : Option Nat
  span   : Nat
  result : Option Nat
  lease  : List Nat
  chan   : Option Nat
  opId   : Nat
  deriving DecidableEq, Repr

/-- A timer (R247): armed value, expired flag. -/
structure Timer where
  armed   : Option Word
  expired : Bool
  deriving DecidableEq, Repr

/-- A lease (R280): request word and expiry. -/
structure Lease where
  req    : Word
  expiry : Option Nat
  deriving DecidableEq, Repr

/-- A load under way: its loader and the WHL_LOAD word at the write (R257). -/
structure LoadReq where
  who  : Who
  word : Word
  deriving DecidableEq, Repr

/-- A Whorl (Table 9.1, R256 to R263). -/
structure Whorl where
  st        : WSt
  g         : Tab Word
  sr        : Tab (BitVec 128)
  pc        : BitVec 32
  dl        : Nat
  timers    : Tab Timer
  tk        : Tab Ticket
  leases    : Tab (Option Lease)
  loadst    : Nat
  fcode     : Nat
  faddr     : Word
  notkt     : Nat
  codeBytes : Nat
  rom       : Option Nat
  rights    : Who
  owner     : BitVec 9
  session   : Bool
  byTwp     : Bool
  loading   : Option LoadReq
  ls        : List Host.Cell
  deriving DecidableEq, Repr

/-! ### Time and hubs -/

/-- The time base and its measurement (R318 to R332). -/
structure TimeSt where
  isNew     : Bool
  trim      : Int
  slew      : Int
  refLoss   : Bool
  measuring : Bool
  exLeft    : Nat
  exDone    : List (Int × Int)
  exOut     : List (Nat × Nat)
  nextEx    : Nat
  lastTheta : Option (Int × Nat)
  parent    : Option Nat
  depth     : Nat
  parentErr : Nat
  holdSince : Option Nat
  startedAt : Option Nat
  state     : Nat
  deriving DecidableEq, Repr

/-- The election (R325 to R327). -/
structure ElectSt where
  active   : Bool
  lastImp  : Nat
  cfg      : Option Key
  cfgHops  : Nat
  cfgCh    : Option Nat
  pkg      : Option Key
  pkgHops  : Nat
  pkgCh    : Option Nat
  maxTime  : Nat
  deriving DecidableEq, Repr

/-- A message waiting in a channel's queue (R285, R286). -/
structure ChMsg where
  src   : BitVec 7
  sch   : Nat
  units : List Word
  deriving DecidableEq, Repr

/-- A RECV waiting on a channel (R286). -/
structure RecvReq where
  w     : Nat
  opId  : Nat
  buf   : Nat
  units : Nat
  deriving DecidableEq, Repr

/-- A SEND whose ACK is awaited (R285). -/
structure SendReq where
  mtag : BitVec 32
  opId : Nat
  deriving DecidableEq, Repr

/-- A message the hub has sent on a channel (Table 12.1): header unit and payload. -/
structure OutMsg where
  hdr : Word
  pay : List Word
  deriving DecidableEq, Repr

/-- An inter-hub channel (R322 to R324, R368). -/
structure Chan where
  up      : Bool
  peer    : BitVec 7
  txSeq   : BitVec 16
  rxSeq   : BitVec 16
  out     : List OutMsg
  rxq     : List ChMsg
  recvs   : List RecvReq
  sends   : List SendReq
  marks   : List Nat
  deriving DecidableEq, Repr

/-- The route to a hub number (R324): channel and hops. -/
structure Route where
  ch   : Nat
  hops : Nat
  deriving DecidableEq, Repr

/-- A child link of a cut (R333, R334): channel, confirmed, NFAIL it reported. -/
structure Child where
  ch     : Nat
  done   : Bool
  nfail  : Nat
  joined : Bool
  deriving DecidableEq, Repr

/-! ### Crossings (R51, R52, R54, R55, R57) -/

/-- A take-flag crossing (R51, R52): the holding register with the snapshot under way, TAKE, TAKE in the receiver's synchronising
stages (the newest first), DONE, and the items that wait for a crossing of their own. -/
structure TakeFlag (α : Type) where
  hold  : Option α
  take  : Bool
  sync  : List Bool
  done  : Bool
  queue : List α
  deriving DecidableEq, Repr

/-- A level control behind its synchronising stages (R55): the level delivered, and the edges for which the source has differed. -/
structure LevelSync where
  out : Bool
  cnt : Nat
  deriving DecidableEq, Repr

/-- A pulse crossing (R54): the sender's toggle, the receiver's echo, and the edge or hub time at which the toggle last changed. -/
structure Pulse where
  toggle : Bool
  echo   : Bool
  at_    : Nat
  deriving DecidableEq, Repr

/-- A queue between a clocked and a clockless side (R57): its Gray-coded write and read pointers, RESYNC and RESYNC_DONE. -/
structure XQueue where
  wr     : BitVec 16
  rd     : BitVec 16
  resync : Bool
  done   : Bool
  deriving DecidableEq, Repr

/-! ### Partitions and stop trees -/

/-- PRT_STATE.STATE (Table 4.6). -/
inductive PSt where
  | empty | running | halting | halted | stepping
  deriving DecidableEq, Repr

/-- An armed planned halt (R102, R273). -/
structure Planned where
  anchor : Nat
  step   : Nat
  opId   : Nat
  reqAt  : Nat
  late   : Bool
  deriving DecidableEq, Repr

/-- A ticket that waits for a cut or a resume; `late` forces status LATE (R273). -/
structure Waiter where
  opId : Nat
  late : Bool
  deriving DecidableEq, Repr

/-- A cut in progress (Table 4.3, R109, R333, R334); `awaits`: it ends a STEP of a rendezvous, and waits for the HALT_REQ of the hub that
started it (Table 12.3, step 6). -/
structure Cut where
  tmoFrom  : Option Nat
  waiters  : List Waiter
  stepCut  : Bool
  cutId    : Word
  parent   : Option Nat
  deadline : Option Nat
  children : List Child
  acted    : Bool
  awaits   : Bool
  deriving DecidableEq, Repr

/-- A rendezvous (R336, R337): epoch, operation, members and the tree it runs over. -/
structure Rdv where
  epoch    : BitVec 16
  op       : RdvOp
  cutId    : Word
  parent   : Option Nat
  children : List Nat
  arrived  : List (Nat × Nat)
  left     : List (Nat × Nat)
  released : Bool
  started  : Nat
  waiters  : List Waiter
  missing  : Nat
  deriving DecidableEq, Repr

/-- A lossless hold (R145 to R147). -/
structure Hold where
  since : Nat
  deriving DecidableEq, Repr

/-- The tree of a partition's last cut (R336). -/
structure Tree where
  cutId    : Word
  parent   : Option Nat
  children : List Nat
  deriving DecidableEq, Repr

/-- A partition (Table 4.6, R102 to R117, R333 to R337). `owed` is a completed cut whose CONFIRM is still to be sent, `runOwed` the
waiters of a RUN that is resuming, `runFrom` and `runTo` one more than the hub times at which it last became RUNNING and last left it (R210), and `after` the STEPs of n steps and, with n 0, the RUNs that wait for a cut or a resume. -/
structure Part where
  st       : PSt
  cause    : Nat
  late     : Bool
  cut      : Bool
  partialF : Bool
  nfail    : Nat
  grace    : BitVec 32
  supp     : Nat
  planned  : Option Planned
  cutNow   : Option Cut
  owed     : Option Cut
  runOwed  : List Waiter
  after    : List (Nat × Waiter)
  resuming : Bool
  hold     : Option Hold
  holdReq  : List DropPoint
  llWant   : List DropPoint
  holdTmo  : Bool
  tree     : Option Tree
  rdv      : List Rdv
  rdvEpoch : BitVec 16
  wdgCount : Nat
  wdgLast  : Nat
  noProg   : Nat
  npPeriod : Nat
  npSeen   : List Nat
  npBad    : Bool
  npBusy   : Bool
  runFrom  : Nat
  runTo    : Nat
  deriving DecidableEq, Repr

/-- A partition's share of one region (R95, R97, R98, R100, R106, R117). `halted` says that the root has accepted a HALT since the
last RUN or STEP, `owesRun` that a RUN sent to it has not acted, `stepOn` that a STEP acts, `markSent` that it has sent MARK in
this cut and `marked` that the MARK has acted; `latchAt` is the edge at which the leaf latches last set, `holdLatch` says that a lossless hold set them, and `away` that the region
rejoined during the present cut or step, in which it takes no part; `andAt` and `markAt` are the edges at which the return path's
ANDs of CA_FROZEN and of SM_MARKED became 1 at the leaves (R98). -/
structure RPart where
  stepNo   : Nat
  haltStep : Nat
  haltTime : Nat
  latch    : Bool
  latchAt  : Nat
  stepLeft : Nat
  phalt    : Bool
  frozen   : Bool
  marked   : Bool
  ready    : Bool
  lateCnt  : Nat
  runAt    : Option Nat
  stepDone : Bool
  owesRun  : Bool
  halted   : Bool
  stepOn   : Bool
  markSent : Bool
  holdLatch : Bool
  away     : Bool
  andAt    : Option Nat
  markAt   : Option Nat
  deriving DecidableEq, Repr

/-- The operation code of a stop-tree message (Table 4.1). -/
inductive StOpc where
  | halt | run | step | mark | clrmark
  deriving DecidableEq, Repr

/-- A message waiting at a root (R99): kind 1 planned, 2 triggered, 3 cut controller. -/
structure RootReq where
  kind : Nat
  part : Nat
  opc  : StOpc
  arg  : Nat
  edge : Nat
  cause : Nat
  deriving DecidableEq, Repr

/-- A message in flight in the tree (R96, R97): its 26 bits; it acts at leaf edge `due`. -/
structure StMsg where
  msg  : BitVec 26
  due  : Nat
  cause : Nat
  deriving DecidableEq, Repr

/-- A change of a cluster's partition on its way to the leaves (R93). -/
structure MapChg where
  cluster : Nat
  old     : Nat
  byte    : Nat
  due     : Nat
  deriving DecidableEq, Repr

/-- What the take-flag crossing from the cut controller and PRT_MAP to a root carries (Table 1.2, R93). -/
inductive RootItem where
  | req (q : RootReq)
  | chg (g : MapChg)
  deriving DecidableEq, Repr

/-- A region: clock edges, supply, its stop tree's root (R96 to R99, R120) and the crossing into it. -/
structure Region where
  edge    : Nat
  powerOff : Bool
  queue   : List RootReq
  tree    : List StMsg
  chg     : List MapChg
  port    : TakeFlag RootItem
  qdly    : Nat
  rate    : Nat
  rateWin : Nat
  rateCnt : Nat
  deriving DecidableEq, Repr

/-! ### Sites -/

/-- An inspection request at a Bobbin (R69). -/
structure RiReq where
  opId   : Nat
  issuer : Nat
  iseq   : BitVec 16
  creg   : Nat
  wr     : Bool
  force  : Bool
  data   : Word
  waking : Bool
  sent   : Bool
  at_    : Nat
  deriving DecidableEq, Repr

/-- A local-memory operation at a Bobbin (R75 to R79). -/
structure LmReq where
  opId   : Nat
  issuer : Nat
  iseq   : BitVec 16
  wr     : Bool
  addr   : Nat
  n      : Nat
  data   : List Word
  issued : Nat
  got    : List Word
  bad    : List Nat
  corr   : Bool
  stream : Bool
  dl     : Option Nat
  since  : Nat
  waking : Bool
  deriving DecidableEq, Repr

/-- A conditional branch waiting in the flow encoder (R131): its direction, its edge, that edge's hub time and the last
schedule address presented by then. -/
structure Tnt where
  taken : Bool
  edge  : Nat
  time  : Nat
  addr  : Option (BitVec 32)
  deriving DecidableEq, Repr

/-- The trace state of one source (R127 to R132). -/
structure Src where
  on      : Bool
  last    : Nat
  count   : Nat
  pendTs  : Option Nat
  tnt     : List Tnt
  deriving DecidableEq, Repr

/-- The last operation an issuer applied at a Bobbin and its reply (R45, R87). -/
structure LastOp where
  iseq  : BitVec 16
  reply : Reply
  deriving DecidableEq, Repr

/-- A Bobbin and the levels of its core attach interface. `frozen` is CA_FROZEN and `lmIdle` CA_LM_IDLE at the last edge, `lmAt` one
more than the edge of the last steal, `gatedIn` CA_GATED behind the Bobbin's synchronising stages (R55). Of the present edge stand:
`held`, the agent registers changed at it with what is in force at it (R81, R136, R194, R202), `pcHeld`, the programmable counters that
an agent wrote (R202), `perfNow`, the strobes of CA_PERF, `bgnNow`, the slots on which a command began, and `open0`, the open commands
and the last IDs before its command events. `trStart` is one more than the edge at which a start is due, `stopAt` one more than the edge
of the last stop (R136). `waitOps` are operations that wait for an earlier one of their issuer at this agent (R27), `term` is a TERM record drained from VT_TX that
waits for the Flyer (R139). -/
structure Site where
  inReset   : Bool
  lp        : Bool
  gated     : Bool
  lock      : Bool
  wakeReq   : Bool
  wakeAt    : Nat
  wakeAck   : Bool
  wakeUntil : Nat
  rstEdge   : Option Nat
  ri        : List RiReq
  lm        : List LmReq
  vtTx      : List (Word × Nat)
  vtRx      : List Word
  freezeLate : Bool
  failed    : Bool
  lastOps   : Tab (Option LastOp)
  cmdOpen   : Tab (Option (BitVec 56))
  lastIds   : Tab (Option (BitVec 56))
  lastAddr  : Option (BitVec 32)
  srcs      : Tab Src
  fifo      : List Rec
  dOut      : List Rec
  gaps      : Tab (Option Gap)
  sample    : Option (Rec × Nat)
  smpMiss   : Nat
  xtrigAt   : Option Nat
  trStart   : Nat
  stopAt    : Nat
  tapSel    : Nat
  tapEn     : Bool
  perfNow   : BitVec 32
  held      : Tab (Option Word)
  pcHeld    : Nat
  bgnNow    : BitVec 4
  open0     : Option (Tab (Option (BitVec 56)) × Tab (Option (BitVec 56)))
  frozen    : Bool
  lmIdle    : Bool
  lmAt      : Nat
  gatedIn   : LevelSync
  waitOps   : List Op
  term      : Option Rec
  deriving DecidableEq, Repr

/-! ### Flyers and Card engines -/

/-- A channel event waiting for its firing edge (R85). -/
structure XtEvt where
  cluster : Nat
  ch      : Nat
  due     : Nat
  deriving DecidableEq, Repr

/-- An operation whose agents under a Flyer have not all answered. -/
structure PendOp where
  opId    : Nat
  issuer  : Nat
  iseq    : BitVec 16
  cluster : Nat
  waiting : List Nat
  reps    : List Reply
  deriving DecidableEq, Repr

/-- An operation kept in a Flyer's duplicate window with its replies (R46). -/
structure WinEnt where
  issuer  : Nat
  iseq    : BitVec 16
  cluster : Nat
  reps    : List Reply
  deriving DecidableEq, Repr

/-- An open window of a Card engine: latched settings, tag, times and the elements in index order (R166, R171 to R181).
Every accumulated element is kept as index, lane code; the statistics of Table 6.3 are functions of them. `scales` holds one more than the
scale in the lane of each block's first element, accumulated or not, and `scaleMix` says that another lane of a block showed another
scale (R174). -/
structure Window where
  matchW : Word
  cfg    : Word
  vh     : Word
  seed   : Word
  tag    : BitVec 56
  tOpen  : Nat
  tLast  : Nat
  fmt    : Option Nat
  n      : Nat
  xel    : Nat
  elems  : List (Nat × BitVec 32)
  fmtMix : Bool
  badCnt : Bool
  incomplete : Bool
  scales : Tab Nat
  scaleMix : Bool
  deriving DecidableEq, Repr

/-- A Flyer's Card engine (R166 to R190). -/
structure Card where
  failed   : Bool
  sel      : Option (Nat × Nat)
  tag      : Option (BitVec 56)
  win      : Option Window
  untag    : Nat
  skip     : Nat
  empty    : Nat
  wlost    : Nat
  dwell    : Nat
  mark     : Nat
  out      : List (List Rec)
  lastEdge : Nat
  deriving DecidableEq, Repr

/-- A snapshot of a cluster's or a guest's sums waiting to be sent (R196); once it is sent `left` counts its packets that have not arrived
(R197). -/
structure Snap where
  time    : Nat
  sums    : List Word
  left    : Nat
  deriving DecidableEq, Repr

/-- A Flyer (03, 05, 07, 08). `sums` holds AOSk of cluster c at 8 c + k and of guest site i at 4096 + 8 i + k; `snap` the unsent
snapshot of cluster c at c and of guest site i at 256 + i; `aoSent` the clusters with an entry written since their sums started;
`relay` are guests and channels whose events wait for the Distaff (R91); `held` are the cluster-shared registers written at the present
edge of their region, with what is in force at it (R85), `sumsNow` the increments of the present edge (R202); `aoAt` and `smpAt` one more than the hub time of the last boundary seen. `hunt` says that the collector hunts for a group header at its
through input (R141), `ages` are the gaps of records discarded at the queue's head ahead of others of their source (R130), `takeAt` is one
more than the edge of the last record taken (R139), `driftLv` the drift level of channel CH of cluster c at 8 c + CH, with the
stages behind it (R187, R55), `resyncIn` the resync level, the parity of `resync`, behind its stages (R142, R55); `alone` says that it failed with the recovery engine
stopped, so that no neighbour takes its cluster over (R428). -/
structure Flyer where
  failed   : Bool
  nodeFail : Bool
  q        : List QRec
  gaps     : Tab (Option Gap)
  gseq     : BitVec 16
  rr       : Nat
  resync   : Nat
  evts     : List XtEvt
  relay    : List (Nat × Nat)
  pend     : List PendOp
  window   : List WinEnt
  heldOps  : List (Nat × BitVec 16)
  epochs   : Tab Nat
  wdg      : Tab Nat
  sums     : Tab Word
  snap     : Tab (Option Snap)
  aoMiss   : Tab Nat
  aoSent   : Tab Bool
  aoAt     : Nat
  smpAt    : Tab Nat
  card     : Card
  drift    : Tab (Nat × Nat)
  driftLv  : Tab (Bool × LevelSync)
  probes   : Nat
  declared : Option Nat
  colD     : Int
  local_   : List (List Word)
  through  : List (List Word)
  trcFail  : Bool
  held     : Tab (Option Word)
  sumsNow  : Tab Word
  hunt     : Bool
  ages     : Tab (Option Gap)
  takeAt   : Nat
  resyncIn : LevelSync
  alone    : Bool
  deriving DecidableEq, Repr

/-! ### Spine -/

/-- A channel of a link direction (R42). -/
inductive LChan where
  | request | reply | priority
  deriving DecidableEq, Repr

/-- A packet of a channel: header flit and payload flits. -/
structure LPkt where
  chan : LChan
  hdr  : Word
  pay  : List Word
  deriving DecidableEq, Repr

/-- A packet in a retry buffer (R39): its LSEQ, when it was last sent and how often it was sent again. -/
structure Pkt where
  lseq : BitVec 6
  sent : Nat
  n    : Nat
  p    : LPkt
  deriving DecidableEq, Repr

/-- The wires of a link direction at its receiver (R33): the nine 1-of-4 groups, wire v of group k at bit 4 k + v, and the
acknowledge. -/
structure Wires where
  groups : BitVec 36
  ack    : Bool
  deriving DecidableEq, Repr

/-- A control-plane link direction (R33, R39, R42), numbered as Table 16.1 numbers kinds 1 and 2: the packets that wait in the three
channels, the issuers for which the receiver withholds request-channel credit (R47), and the transfers of a packet that has stopped on a
group without a value. -/
structure Link where
  txSeq   : BitVec 6
  retry   : List Pkt
  req     : List LPkt
  rep     : List LPkt
  pri     : List LPkt
  noCredit : List Nat
  rxSeq   : BitVec 6
  ctl     : Option Word
  failed  : Bool
  wires   : Wires
  part    : List (BitVec 36)
  deriving DecidableEq, Repr

/-- The spine beyond its registers: links, nodes removed from the trees and unreachable (R438), the trees in force once a repair
has built them (256 × entry point + node ↦ parent + 1), the entry point an issuer has moved to + 1 (R423), ISEQ and route epoch of
each issuer, the reductions in progress, and whether a repair is owed. -/
structure Spine where
  links    : Tab Link
  removed  : List Nat
  unreach  : List Nat
  built    : Bool
  trees    : Tab Nat
  entryOf  : Tab Nat
  iseqs    : Tab (BitVec 16)
  epochs   : Tab Nat
  nodes    : List NodeAcc
  rebuild  : Bool
  deriving DecidableEq, Repr

/-! ### Funnel, sinks, buffer, ports -/

/-- A parsed record in the reorder store (R149, R150). -/
structure Store where
  r    : Rec
  e    : Rat
  inp  : Nat
  seq  : Nat
  deriving DecidableEq, Repr

/-- A sink's stream: the units queued, already in blocks, how many units the block being written holds, and the pending
gaps by source (R153, R154); `ringFull` says that the spill ring was full and the pending gaps go first (R162). The trace buffer's sink
queues whole records in `recs`, and `lost` are the gaps of records that found no block (R159). `wait` are GAP, TIME and TRIG records that
wait for room (Table 5.10). -/
structure Sink where
  q     : List Word
  fill  : Nat
  gaps  : Tab (Option Gap)
  ringFull : Bool
  recs  : List Rec
  lost  : Tab (Option Gap)
  wait  : List Rec
  deriving DecidableEq, Repr

/-- The Ply funnel (R149 to R155). `cards` are the SKETCH records parsed since their source's last SUMMARY, `drifts` the compares
that wait: a comparator, and the SUMMARY with the SKETCH records of its window (R186). `emits` are the operations whose EMIT
records stand in the local input, `emitQ` those that wait for room in it (R278); `dEnd` says that the D route returns to 0 once the D queue is
empty (Table 10.7). `overflow` counts hub events beyond those held (R151), `hunt` says at which column inputs the funnel hunts for a group
header (R141), `spillHeld` is the number of blocks in the spill ring that the host has not consumed (R162). -/
structure Funnel where
  cols     : Tab (List Rec)
  local_   : List Rec
  held     : List Rec
  overflow : Nat
  store    : List Store
  seq      : Nat
  dq       : List Rec
  srcE     : Tab (Option Rat)
  gseq     : Tab (BitVec 16)
  blockAt  : Tab Nat
  suspectTo : Tab Nat
  sinks    : Tab Sink
  arrive   : Tab (List (List Word))
  cards    : List Rec
  drifts   : List (Nat × List Rec)
  emits    : List Nat
  emitQ    : List (Nat × Rec)
  dEnd     : Bool
  hunt     : Tab Bool
  spillHeld : Nat
  deriving DecidableEq, Repr

/-- The trace buffer (R156 to R161): its units by logical address, the block being written and how many units it holds,
WR, OLDEST and the number of blocks held, STATE, the trigger, the blocks used after it, rises of TLINE not yet acted on,
and the banks out of service. `bad` are units that hold an uncorrectable error, `errAt` one more than the time of each bank's last such error
(R156), `credit` tenths of a unit that the banks may take now (Table 5.14). -/
structure Buffer where
  units    : Tab Word
  cur      : Option Nat
  fill     : Nat
  wr       : Nat
  oldest   : Nat
  held     : Nat
  st       : Nat
  trigAt   : Option Nat
  trigBlk  : Option Nat
  torn     : Bool
  postUsed : Nat
  resUsed  : Nat
  full     : Bool
  rises    : List Nat
  out      : List Nat
  bad      : List Nat
  errAt    : Tab Nat
  credit   : Nat
  deriving DecidableEq, Repr

/-- A frame sent on a trace lane (R364): FSEQ, STRM, its 128-bit header word and its 126 payload units. -/
structure LaneFrame where
  fseq : Nat
  strm : Bool
  hdr  : BitVec 128
  pay  : List Word
  deriving DecidableEq, Repr

/-- A trace lane (R363 to R366) with its last 32 frames; `lastAt` is the time its last frame began. -/
structure Lane where
  up      : Bool
  inSvc   : Bool
  hist    : List LaneFrame
  lastAt  : Nat
  deriving DecidableEq, Repr

/-- A client of the master port (Table 13.9). -/
inductive MpClient where
  | indirect (who : Who)
  | dump
  | spill
  deriving DecidableEq, Repr

/-- A request of the master port, waiting or in flight; `bad` says that a beat came with an error, `ue` are the beats that came
uncorrectable, and `dec` says that one came with a decode error (R361). -/
structure MpReq where
  client : MpClient
  wr     : Bool
  addr   : Nat
  beats  : Nat
  data   : List Word
  issued : Nat
  got    : List Word
  bad    : Bool
  quar   : Bool
  ue     : List Nat
  dec    : Bool
  deriving DecidableEq, Repr

/-- The master port (R357 to R362): tokens in 1/4,096 of a beat, as they stood at a hub time; the requests that wait; the client
served last (Table 13.9) plus 1; the read and write tags held. -/
structure Master where
  tokens   : Nat
  tokenAt  : Nat
  waiting  : List MpReq
  rr       : Nat
  rd       : Tab (Option MpReq)
  wrt      : Tab (Option MpReq)
  deriving DecidableEq, Repr

/-- An answer of the host port (R353): write, response code, data, and the changes of PRT_MAP, cluster and byte, whose acting it waits
for (R93). -/
structure HostResp where
  wr   : Bool
  resp : Nat
  data : Word
  wait : List (Nat × Nat)
  deriving DecidableEq, Repr

/-- The host register port (R352 to R355). -/
structure HostPort where
  resp  : List HostResp
  stall : Bool
  since : Nat
  deriving DecidableEq, Repr

/-- The states of the two-wire port (R344). -/
inductive TwpSt where
  | reset | idle
  deriving DecidableEq, Repr

/-- What the two-wire port last answered (Table 13.4): code 6 OK, 10 WAIT, 12 FAULT, 0 not driven; data of a read, and the CRC-8 that
follows it (R346). -/
structure TwpAns where
  ack  : Nat
  data : Word
  crc  : BitVec 8
  deriving DecidableEq, Repr

/-- The two-wire port (R344 to R350): its state, the window address of the last request, the header answered WAIT (OP, ADDR), the
result held for it (none inside: it ended in error), the hub time at which it started, the last answer, and whether the port has left
RESET since the hub reset. -/
structure Twp where
  st      : TwpSt
  prev    : BitVec 21
  pend    : Option (Nat × BitVec 21)
  done    : Option (Option Word)
  startAt : Nat
  ans     : TwpAns
  everOn  : Bool
  deriving DecidableEq, Repr

/-- An AGA operation queued at the bare path (R391). -/
structure AgaOp where
  who   : Who
  cmd   : Word
  set   : BitVec 128
  wdata : Word
  lmd   : Word
  span  : Nat
  deriving DecidableEq, Repr

/-- The bare path's queue and the operation it is at (R392). -/
structure Aga where
  q      : List AgaOp
  cur    : Option AgaOp
  opId   : Nat
  dl     : Option Nat
  deriving DecidableEq, Repr

/-- The unlocking of the two-wire port (R416 to R418). -/
structure Unlock where
  nonce   : BitVec 128
  nonceAt : Nat
  respLo  : Word
  check   : Option (BitVec 128 × BitVec 128)
  refusals : Nat
  lockEnd : Option Nat
  lockNo  : Nat
  deriving DecidableEq, Repr

/-! ### Hang, dump and Hank store -/

/-- A declared hang waiting to be dumped (R211, R213). -/
structure Decl where
  part  : Nat
  cause : Nat
  num   : Nat
  time  : Nat
  deriving DecidableEq, Repr

/-- Where the dump program is in Table 8.1: the cut, the waits of every engine, the object states, the remote answers, the objects that only
these name, L0 on its way, L1 to L3, END on its way, the copy of the window to NAND, and the end under DMP_TMO. -/
inductive DPhase where
  | cut | waits | objects | remote | late | l0 | level | last | copy | abort
  deriving DecidableEq, Repr

/-- A piece of the dump program's reading: AG_STATUS and the wait registers of the cores of a type, the state register of the object at a place
of the table, n core registers of some cores from one on, a seam's buffer, n local-memory words of one core or of every core (and whether it
is a retry), and n units of the range at a place of DMP_LIST. -/
inductive DumpItem where
  | waits (type : Nat)
  | object (idx core reg : Nat)
  | cregs (cores : List Nat) (reg n : Nat)
  | seam (k : Nat)
  | lmem (core : Option Nat) (addr n : Nat) (again : Bool)
  | hbm (range addr n : Nat)
  deriving DecidableEq, Repr

/-- A register that the program read: its place in the item, the core, the status as Table 8.8 codes it, and the value. -/
structure DumpVal where
  item : DumpItem
  k    : Nat
  core : Nat
  st   : Nat
  v    : Word
  deriving DecidableEq, Repr

/-- A remote signaller's answer (R221): hub and source, whether that hub holds it in a cut, its wait registers. -/
structure DumpAns where
  hub : Nat
  src : Nat
  cut : Bool
  a   : Word
  b   : Word
  deriving DecidableEq, Repr

/-- The dump program's run (Table 8.1): the number under which the cut, then the commit of L0, is waited for; the cut's status and the hub time
at which it completed; the cores counted in NFAIL; the items still to read, the one under way, how many of its registers have been read, the
operation out for the next and when it is given up; the values of this item, and those kept of the waits and objects; the remote
signallers asked, hub and source, when, and their answers; the cores with a marked engine node; the records that wait for the mover and when
it takes the next; the units still free under TRUNCATE; LPLAN, and whether nothing goes
but to MRAM (R231); the items not written; whether the object table was faulty and the graph cut
short; whether the dump goes to the window first (R227); what the master port returned, each unit with whether it was uncorrectable, and whether the read failed; and how many blocks
the copy has taken. -/
structure DumpWork where
  phase   : DPhase
  waiter  : Nat
  cutSt   : Option Status
  cutAt   : Nat
  lost    : List Nat
  todo    : List DumpItem
  item    : Option DumpItem
  step    : Nat
  op      : Option Nat
  opEnd   : Nat
  vals    : List DumpVal
  kept    : List DumpVal
  asked   : List (Nat × Nat)
  askedAt : Nat
  answers : List DumpAns
  marked  : List Nat
  out     : List Rec
  moveAt  : Nat
  left    : Option Nat
  lplan   : Nat
  mram    : Bool
  skipped : List DumpItem
  sotErr  : Bool
  cutShort : Bool
  staged  : Bool
  rd      : Option (List (Word × Bool) × Bool)
  copied  : Nat
  deriving DecidableEq, Repr

/-- The program as step 2 leaves it. -/
def DumpWork.fresh : DumpWork :=
  { phase := .cut, waiter := 0, cutSt := none, cutAt := 0, lost := [], todo := [], item := none, step := 0, op := none, opEnd := 0, vals := [],
    kept := [], asked := [], askedAt := 0, answers := [], marked := [], out := [], moveAt := 0, left := none, lplan := 0, mram := false, skipped := [],
    sotErr := false, cutShort := false, staged := false, rd := none, copied := 0 }

/-- Hang analysis and the dump in progress (R208 to R233); `ended` are the partitions whose dump has ended since they were declared
hung (R211); `blocks` are the blocks the D route has written since the dump began, and `units`, `bad` and `failed` count its DUMP
records as END gives them (Table 8.9); `work` is the dump program's run. -/
structure Hang where
  queue   : List Decl
  running : Option Decl
  whorl   : Option Nat
  startAt : Nat
  ended   : Word
  blocks  : Nat
  units   : Nat
  bad     : Nat
  failed  : Nat
  work    : DumpWork
  deriving DecidableEq, Repr

/-- What a commit writes (Table 11.3); hub commits beside the five COMMIT areas are LOGSTATE and dump index entries. -/
inductive Area where
  | journal | counters | calib | l0 | dindex | logstate
  deriving DecidableEq, Repr

/-- A commit in the queue or waiting at the controller's input (R292 to R294). -/
structure Commit where
  area   : Area
  origin : Nat
  cnum   : Nat
  time   : Nat
  body   : List Word
  opId   : Option Nat
  deriving DecidableEq, Repr

/-- The stream that the D route writes to NAND (R307): dump number, next PIDX, device and block being written, the block before it. -/
structure NStream where
  num  : Nat
  pidx : Nat
  dev  : Nat
  blk  : Nat
  prev : Option (Nat × Nat)
  deriving DecidableEq, Repr

/-- The Hank store (R287 to R317). Units of bank b lie at 2 ^ 19 × b + offset; the journal ring is listed by the offset and
length of each entry, oldest first; l0Slot is the dump number and bank of the L0 slot in use; `mountAt` is
when the mount began (R293). `bad` are the units whose SECDED check bits show an
uncorrectable error (R288), `bankErr` one more than the time of each bank's last such error and `wfaults` the times of its last write
faults (R316). `weak` is, for a unit, how many of its next writes read back wrong (R288), which the cells decide (log entry 57). -/
structure Hank where
  units    : Tab Word
  retired  : List Nat
  inq      : List Commit
  queue    : List Commit
  nextC    : Nat
  durable  : Nat
  jHead    : Nat
  jEnts    : List (Nat × Nat)
  diHead   : Nat
  dumpNext : Nat
  dumpEnd  : Nat
  l0Slot   : Option (Nat × Nat)
  stopped  : Option Commit
  pfwAt    : Nat
  pfwLast  : Nat
  pinLow   : Bool
  mount    : Nat
  mountAt  : Nat
  pfw      : Nat
  powerOn  : Bool
  poweredN : Nat
  rdEcc    : Nat
  stream   : Option NStream
  bad      : List Nat
  bankErr  : Tab Nat
  wfaults  : Tab (List Nat)
  weak     : Tab Nat
  deriving DecidableEq, Repr

/-- A page programmed on a NAND device: block, page, data units and spare fields (Table 11.7). -/
structure NPage where
  seq   : Nat
  num   : Nat
  pidx  : Nat
  kind  : Nat
  data  : List Word
  bad   : Bool
  deriving DecidableEq, Repr

/-- A block's map entry (R305). -/
structure NBlk where
  state  : Nat
  erases : Nat
  next   : Nat
  eage   : Nat
  pages  : List NPage
  deriving DecidableEq, Repr

/-- A NAND device (R303 to R310, R371): its blocks, log head, next SEQ, whether it is out of service or identified, the operation
under way (0 none, 1 program, 2 erase, 3 page read) with its start, block and page, whether a read has been retried, one more than
the hub time of the last relocation for wear, whether a LOGSTATE is owed, the units being programmed, the page a reader waits for,
the page in the read buffer and whether it was uncorrectable, and the blocks to erase once the LOGSTATE is durable. -/
structure Nand where
  blks    : Tab NBlk
  head    : Option (Nat × Nat)
  seq     : Nat
  out     : Bool
  mounted : Bool
  opKind  : Nat
  opAt    : Nat
  opBlk   : Nat
  opPage  : Nat
  dqsTried : Bool
  lastWl  : Nat
  owes    : Bool
  buf     : List Word
  want    : Option (Nat × Nat)
  cache   : Option (Nat × Nat)
  cacheBad : Bool
  erase   : List Nat
  deriving DecidableEq, Repr

/-! ### Integration and start-up -/

/-- A core type (R63, R207, R216, R223). -/
structure CoreType where
  lmWords  : Nat
  lmLat    : Nat
  cregN    : Nat
  riMax    : Nat
  wdgBit   : Option Nat
  waitBase : Nat
  dumpRegs : List (Nat × Nat)
  slots    : BitVec 4
  deriving DecidableEq, Repr

/-- A seam of the integration table (R100, R406): producer, consumer, their regions, END and CHAN of a chip-to-chip seam. -/
structure Seam where
  prod    : Nat
  cons    : Nat
  prodReg : Nat
  consReg : Nat
  depth   : Nat
  transit : Nat
  bufReg  : Nat
  bufN    : Nat
  endK    : Nat
  chan    : Nat
  farPart : Nat
  deriving DecidableEq, Repr

/-- The integration inputs (R406, Table 0.1) and the fuses. -/
structure Integ where
  rows     : Nat
  cols     : Nat
  spareRows : Word
  lat      : List Nat
  cmpN     : Nat
  slots    : BitVec 4
  lanes    : BitVec 16
  channels : BitVec 8
  nand     : BitVec 2
  dies     : BitVec 3
  nBlocks  : Nat
  nPages   : Nat
  rev      : BitVec 16
  romRev   : BitVec 16
  devid    : BitVec 128
  devKey   : Option (BitVec 256)
  types    : List CoreType
  siteType : Tab Nat
  seams    : List Seam
  memHops  : Tab Nat
  tcomp    : Tab Nat
  pkg      : BitVec 8
  die      : BitVec 2
  chLink   : Tab Nat
  samePkg  : BitVec 8
  holdEn   : Bool
  crcOk    : Bool
  romOk    : Bool
  deriving DecidableEq, Repr

/-- Start-up (R403, R404, R411). -/
structure Boot where
  inReset  : Bool
  releasedAt : Nat
  whorl    : Option Nat
  restarts : Nat
  elected  : Bool
  repair   : Tab Nat
  recStop  : Bool
  deriving DecidableEq, Repr

/-- Counters' ring writer (R203, R204): its queue, the gaps of records dropped as they were to be written, and those of records that the
full queue dropped; `smpFrom` and `aoFrom` are the hub times from which boundaries of CNT_SMP_CTRL and of CNT_AO_CTRL as they stand
fall (R196, R200). -/
structure Ring where
  q    : List Rec
  gaps : Tab (Option Gap)
  qgaps : Tab (Option Gap)
  smpFrom : Nat
  aoFrom : Nat
  deriving DecidableEq, Repr

/-- The state of the hub. `pulses` and `xqueues` are the pulse crossings and the queues by crossing index; `smSent` and `smMarked` are
the places in the integration table of the seams whose mark is on its way and of those that show SM_MARKED (R97, R98). -/
structure State where
  pending : List Instr
  integ   : Integ
  ht      : Nat
  regs    : Tab Word
  areg    : Tab Word
  hubMem  : List Host.Cell
  mail    : List Host.Cell
  whorls  : Tab Whorl
  evPend  : Tab Word
  evCut   : Tab Word
  evXt    : Tab Word
  hubIrq  : Bool
  parts   : Tab Part
  rparts  : Tab RPart
  regions : Tab Region
  sites   : Tab Site
  flyers  : Tab Flyer
  spine   : Spine
  pulses  : Tab Pulse
  xqueues : Tab XQueue
  smSent  : List Nat
  smMarked : List Nat
  ops     : List Op
  arrivals : List Arrival
  lateIds : List Nat
  funnel  : Funnel
  buffer  : Buffer
  lanes   : Tab Lane
  master  : Master
  ring    : Ring
  guestAos : Tab (List Word)
  hang    : Hang
  hank    : Hank
  nands   : Tab Nand
  time    : TimeSt
  elect   : ElectSt
  chans   : Tab Chan
  routes  : Tab (Option Route)
  blockedNums : List Nat
  cutCount : BitVec 32
  knownCuts : List Word
  twp     : Twp
  host    : HostPort
  aga     : Aga
  unlock  : Unlock
  boot    : Boot
  freeCtr : Nat
  opCtr   : Nat
  deriving DecidableEq, Repr

/-! ### Reset values -/

/-- A ticket after a Whorl reset (Table 9.1). -/
def Ticket.fresh : Ticket :=
  ⟨.free, .ok, 0, .agent, none, 0, none, [], none, 0⟩

/-- A timer after a Whorl reset (Table 9.1). -/
def Timer.fresh : Timer := ⟨none, false⟩

/-- A Whorl in RESET (Table 9.1, R236). -/
def Whorl.fresh : Whorl :=
  ⟨.reset, [], [], 0, 40000, [], [], [], 0, 0, 0, 0, 0, none, .root, 0, false, false, none, []⟩

/-- A partition before it is created (Table 4.6). -/
def Part.fresh : Part :=
  { st := .empty, cause := 0, late := false, cut := false, partialF := false, nfail := 0, grace := 0,
    supp := 0, planned := none, cutNow := none, owed := none, runOwed := [], after := [], resuming := false,
    hold := none, holdReq := [], llWant := [], holdTmo := false, tree := none, rdv := [], rdvEpoch := 0, wdgCount := 0,
    wdgLast := 0, noProg := 0, npPeriod := 0, npSeen := [], npBad := false, npBusy := false, runFrom := 0, runTo := 0 }

/-- A partition's share of a region at its creation (R93). -/
def RPart.fresh : RPart :=
  { stepNo := 0, haltStep := 0, haltTime := 0, latch := false, latchAt := 0, stepLeft := 0, phalt := false, frozen := false, marked := false,
    ready := false, lateCnt := 0, runAt := none, stepDone := false, owesRun := false, halted := false, stepOn := false,
    markSent := false, holdLatch := false, away := false, andAt := none, markAt := none }

/-- A pulse crossing at rest. -/
def Pulse.fresh : Pulse := ⟨false, false, 0⟩

/-- A queue that is empty, its pointers at 0. -/
def XQueue.fresh : XQueue := ⟨0, 0, false, false⟩

/-- A region at reset. -/
def Region.fresh : Region := ⟨0, false, [], [], [], ⟨none, false, [], false, []⟩, 0, 0, 0, 0⟩

/-- A trace source that is off. -/
def Src.fresh : Src := ⟨false, 0, 0, none, []⟩

/-- A site at the reset of its region, its core running (DESIGN CHOICE, log entry 8). -/
def Site.fresh : Site :=
  { inReset := false, lp := false, gated := false, lock := false, wakeReq := false, wakeAt := 0, wakeAck := false,
    wakeUntil := 0, rstEdge := none, ri := [], lm := [], vtTx := [], vtRx := [], freezeLate := false,
    failed := false, lastOps := [], cmdOpen := [], lastIds := [], lastAddr := none, srcs := [], fifo := [], dOut := [], gaps := [],
    sample := none, smpMiss := 0, xtrigAt := none, trStart := 0, stopAt := 0, tapSel := 0, tapEn := false, perfNow := 0, held := [], pcHeld := 0,
    bgnNow := 0, open0 := none, frozen := false, lmIdle := false, lmAt := 0, gatedIn := ⟨false, 0⟩, waitOps := [], term := none }

/-- A Card engine at reset. -/
def Card.fresh : Card := ⟨false, none, none, none, 0, 0, 0, 0, 0, 0, [], 0⟩

/-- A Flyer at reset. -/
def Flyer.fresh : Flyer :=
  { failed := false, nodeFail := false, q := [], gaps := [], gseq := 0, rr := 0, resync := 0, evts := [], relay := [],
    pend := [], window := [], heldOps := [], epochs := [], wdg := [], sums := [], snap := [], aoMiss := [], aoSent := [], aoAt := 0, smpAt := [],
    card := Card.fresh, drift := [], driftLv := [], probes := 0, declared := none, colD := 0, local_ := [], through := [],
    trcFail := false, held := [], sumsNow := [], hunt := false, ages := [], takeAt := 0, resyncIn := ⟨false, 0⟩, alone := false }

/-- A link direction at reset: every wire at zero, the acknowledge low. -/
def Link.fresh : Link := ⟨0, [], [], [], [], [], 0, none, false, ⟨0, false⟩, []⟩

/-- The spine at reset. -/
def Spine.fresh : Spine := ⟨[], [], [], false, [], [], [], [], [], false⟩

/-- A sink at reset. -/
def Sink.fresh : Sink := ⟨[], 0, [], false, [], [], []⟩

/-- The funnel at reset. -/
def Funnel.fresh : Funnel := ⟨[], [], [], 0, [], 0, [], [], [], [], [], [], [], [], [], [], [], false, [], 0⟩

/-- The buffer at reset. -/
def Buffer.fresh : Buffer := ⟨[], none, 0, 0, 0, 0, 0, none, none, false, 0, 0, false, [], [], [], [], 0⟩

/-- A lane at reset. -/
def Lane.fresh : Lane := ⟨false, false, [], 0⟩

/-- The master port at reset (DESIGN CHOICE, log entry 9). -/
def Master.fresh : Master := ⟨0, 0, [], 0, [], []⟩

/-- A channel at reset. -/
def Chan.fresh : Chan := ⟨false, 0, 0, 0, [], [], [], [], []⟩

/-- A NAND block that has never been used (DESIGN CHOICE, log entry 10). -/
def NBlk.fresh : NBlk := ⟨0, 0, 0x1FFFF, 0, []⟩

/-- A NAND device never mounted (DESIGN CHOICE, log entry 10). -/
def Nand.fresh : Nand := ⟨[], none, 0, false, false, 0, 0, 0, 0, false, 0, false, [], none, none, false, []⟩

/-- The Hank store of a part that has never run (DESIGN CHOICE, log entry 10). -/
def Hank.fresh : Hank :=
  { units := [], retired := [], inq := [], queue := [], nextC := 1, durable := 0, jHead := 0, jEnts := [], diHead := 0,
    dumpNext := 1, dumpEnd := 1, l0Slot := none, stopped := none, pfwAt := 0, pfwLast := 0, pinLow := false, mount := 0, mountAt := 0,
    pfw := 0, powerOn := true, poweredN := 0, rdEcc := 0, stream := none, bad := [], bankErr := [], wfaults := [], weak := [] }

/-- The reference configuration of Table 0.1 (DESIGN CHOICE, log entry 4). -/
def Integ.reference : Integ :=
  { rows := 64, cols := 64, spareRows := BitVec.allOnes 64, lat := [16, 16, 16, 16], cmpN := 4, slots := 0xF,
    lanes := 0xFFFF, channels := 0xFF, nand := 3, dies := 4, nBlocks := 8192, nPages := 128, rev := 0, romRev := 0,
    devid := 0, devKey := none,
    types := [⟨0x1000000, 8, 4096, 64, none, 0, [], 0xF⟩], siteType := [], seams := [], memHops := [], tcomp := [], pkg := 0, die := 0,
    chLink := [], samePkg := 0, holdEn := false, crcOk := true, romOk := true }

/-- The time base at a power-on reset (R319, R325). -/
def TimeSt.fresh : TimeSt :=
  ⟨true, 0, 0, false, false, 0, [], [], 0, none, none, 0, 0, none, none, 0⟩

/-- No election has run (DESIGN CHOICE, log entry 12). -/
def ElectSt.fresh : ElectSt := ⟨false, 0, none, 0, none, none, 0, none, 0⟩

/-- The hub right after a power-on reset, before start-up has run (R14, R398 to R400). -/
def State.reset : State :=
  { pending := [], integ := Integ.reference, ht := 0, regs := [], areg := [], hubMem := [], mail := [],
    whorls := [], evPend := [], evCut := [], evXt := [], hubIrq := false, parts := [], rparts := [], regions := [],
    sites := [], flyers := [], spine := Spine.fresh, pulses := [], xqueues := [], smSent := [], smMarked := [], ops := [], arrivals := [], lateIds := [], funnel := Funnel.fresh,
    buffer := Buffer.fresh, lanes := [], master := Master.fresh, ring := ⟨[], [], [], 0, 0⟩, guestAos := [],
    hang := ⟨[], none, none, 0, 0, 0, 0, 0, 0, DumpWork.fresh⟩, hank := Hank.fresh, nands := [], time := TimeSt.fresh, elect := ElectSt.fresh,
    chans := [], routes := [], blockedNums := [], cutCount := 0, knownCuts := [],
    twp := ⟨.reset, 0, none, none, 0, ⟨0, 0, 0⟩, false⟩, host := ⟨[], false, 0⟩, aga := ⟨[], none, 0, none⟩,
    unlock := ⟨0, 0, 0, none, 0, none, 0⟩, boot := ⟨true, 0, none, 0, false, [], false⟩, freeCtr := 0, opCtr := 0 }

end Sys2Proof.Machine
end

