-- ==== Sys2Proof/Machine/Ops.lean ====
section
/-! DEFINITION. The named operations every chapter shares: bit fields, sparse tables, bytes of memory, the parts of State. -/

namespace Sys2Proof.Machine

/-! ### Fields of a word (R9) -/

/-- Bits [hi:lo] of a word, as a number. -/
def bits (v : Word) (hi lo : Nat) : Nat := v.toNat / 2 ^ lo % 2 ^ (hi + 1 - lo)

/-- Bit i of a word. -/
def bit (v : Word) (i : Nat) : Bool := v.getLsbD i

/-- A number as a word, modulo 2 ^ 64. -/
def word (n : Nat) : Word := BitVec.ofNat 64 n

/-- A flag as a number. -/
def b2n (b : Bool) : Nat := if b then 1 else 0

/-- A word with bits [hi:lo] replaced. -/
def setBits (v : Word) (hi lo x : Nat) : Word :=
  word (v.toNat - bits v hi lo * 2 ^ lo + x % 2 ^ (hi + 1 - lo) * 2 ^ lo)

/-- Addition that stops at the largest value of a field of n bits. -/
def satAdd (n a b : Nat) : Nat := min (a + b) (2 ^ n - 1)

/-- An integer as an n-bit two's complement number. -/
def twos (n : Nat) (x : Int) : Nat := (x % (2 ^ n : Nat)).toNat

/-! ### Sparse tables -/

/-- The entry of a table at a key; d where none is listed. -/
def tget {α : Type} (d : α) : Tab α → Nat → α
  | [], _ => d
  | e :: t, k => if e.1 = k then e.2 else tget d t k

/-- A table with one entry changed: it stays ordered, and lists no d. -/
def tput {α : Type} [DecidableEq α] (d : α) : Tab α → Nat → α → Tab α
  | [], k, v => if v = d then [] else [(k, v)]
  | e :: t, k, v =>
    if k < e.1 then (if v = d then e :: t else (k, v) :: e :: t)
    else if k = e.1 then (if v = d then t else (k, v) :: t)
    else e :: tput d t k v

/-- A table with every listed value changed; it goes on listing no d. -/
def tmap {α : Type} [DecidableEq α] (d : α) (f : α → α) (t : Tab α) : Tab α :=
  (t.map fun e => (e.1, f e.2)).filter fun e => decide (e.2 ≠ d)

/-- The canonical form: keys rise strictly and no entry is d. -/
def tabWf {α : Type} [DecidableEq α] (d : α) : Tab α → Bool
  | [] => true
  | [e] => decide (e.2 ≠ d)
  | e :: f :: t => decide (e.2 ≠ d) && decide (e.1 < f.1) && tabWf d (f :: t)

/-! ### Bytes (R9: little-endian) -/

/-- The little-endian number that n bytes from address a hold, a byte not listed reading 0 (DESIGN CHOICE, log entry 6). -/
def readLe (m : List Host.Cell) (a : Nat) : Nat → Nat
  | 0 => 0
  | n + 1 => (tget 0 m a).toNat + 256 * readLe m (a + 1) n

/-- n bytes of a number written from address a, the least significant first. -/
def writeLe (m : List Host.Cell) (a : Nat) : Nat → Nat → List Host.Cell
  | 0, _ => m
  | n + 1, v => writeLe (tput 0 m a (BitVec.ofNat 8 v)) (a + 1) n (v / 256)

/-- Memory.wf of the instructions: the canonical form of a byte memory. -/
def memWf (m : List Host.Cell) : Bool := tabWf 0 m

/-- The 8-byte units from address a. -/
def readUnits (m : List Host.Cell) (a n : Nat) : List Word :=
  (List.range n).map fun i => word (readLe m (a + 8 * i) 8)

/-- 8-byte units written from address a. -/
def writeUnits (m : List Host.Cell) (a : Nat) : List Word → List Host.Cell
  | [] => m
  | u :: us => writeUnits (writeLe m a 8 u.toNat) (a + 8) us

/-- The bytes of a unit, least significant first. -/
def unitBytes (u : Word) : List Byte := (List.range 8).map fun i => BitVec.ofNat 8 (u.toNat / 256 ^ i)

/-! ### Cyclic redundancy checks: most significant bit first, no reflection -/

/-- One bit into a CRC of n bits. -/
def crcBit (n poly c : Nat) (b : Bool) : Nat :=
  if (c.testBit (n - 1)) != b then Nat.xor (c * 2 % 2 ^ n) poly else c * 2 % 2 ^ n

/-- One byte into a CRC, its most significant bit first. -/
def crcByte (n poly c : Nat) (b : Byte) : Nat :=
  (List.range 8).foldl (fun c i => crcBit n poly c (b.getLsbD (7 - i))) c

/-- The reflected forms feed the least significant bit first and shift right. -/
def crcByteR (poly c : Nat) (b : Byte) : Nat :=
  (List.range 8).foldl (fun c _ => if c % 2 = 1 then Nat.xor (c / 2) poly else c / 2) (Nat.xor c b.toNat)

/-! ### Parts of State -/

/-- Whorl w. -/
def getW (s : State) (w : Nat) : Whorl := tget Whorl.fresh s.whorls w
/-- Whorl w replaced. -/
def setW (s : State) (w : Nat) (x : Whorl) : State := { s with whorls := tput Whorl.fresh s.whorls w x }
/-- Partition p. -/
def getP (s : State) (p : Nat) : Part := tget Part.fresh s.parts p
/-- Partition p replaced. -/
def setP (s : State) (p : Nat) (x : Part) : State := { s with parts := tput Part.fresh s.parts p x }
/-- Partition p's share of region r. -/
def getRP (s : State) (p r : Nat) : RPart := tget RPart.fresh s.rparts (4 * p + r)
/-- Partition p's share of region r replaced. -/
def setRP (s : State) (p r : Nat) (x : RPart) : State :=
  { s with rparts := tput RPart.fresh s.rparts (4 * p + r) x }
/-- Region r. -/
def getR (s : State) (r : Nat) : Region := tget Region.fresh s.regions r
/-- Region r replaced. -/
def setR (s : State) (r : Nat) (x : Region) : State := { s with regions := tput Region.fresh s.regions r x }
/-- The site at an index. -/
def getS (s : State) (i : Nat) : Site := tget Site.fresh s.sites i
/-- The site at an index replaced. -/
def setS (s : State) (i : Nat) (x : Site) : State := { s with sites := tput Site.fresh s.sites i x }
/-- Flyer f. -/
def getF (s : State) (f : Nat) : Flyer := tget Flyer.fresh s.flyers f
/-- Flyer f replaced. -/
def setF (s : State) (f : Nat) (x : Flyer) : State := { s with flyers := tput Flyer.fresh s.flyers f x }
/-- Channel n. -/
def getC (s : State) (n : Nat) : Chan := tget Chan.fresh s.chans n
/-- Channel n replaced. -/
def setC (s : State) (n : Nat) (x : Chan) : State := { s with chans := tput Chan.fresh s.chans n x }
/-- NAND device d. -/
def getN (s : State) (d : Nat) : Nand := tget Nand.fresh s.nands d
/-- NAND device d replaced. -/
def setN (s : State) (d : Nat) (x : Nand) : State := { s with nands := tput Nand.fresh s.nands d x }
/-- Trace lane n. -/
def getL (s : State) (n : Nat) : Lane := tget Lane.fresh s.lanes n
/-- Trace lane n replaced. -/
def setL (s : State) (n : Nat) (x : Lane) : State := { s with lanes := tput Lane.fresh s.lanes n x }

/-- The outcome of every command: the block raises no fault and refuses nothing (R261, R349, R354 answer in state). -/
def ok (s : State) : Host.Outcome State Fault Refusal := .next s

/-- A state changed for each item of a list in turn. -/
def forAll {α : Type} (l : List α) (f : State → α → State) (s : State) : State := l.foldl f s

/-- An item put into a list that rises by key, after the items of its own key. -/
def insBy {α : Type} (key : α → Nat) (x : α) : List α → List α
  | [] => [x]
  | y :: t => if key x < key y then x :: y :: t else y :: insBy key x t

/-- A list ordered by key, items of one key in their old order. -/
def sortBy {α : Type} (key : α → Nat) (l : List α) : List α := l.foldl (fun acc x => insBy key x acc) []

end Sys2Proof.Machine
end

