-- ==== Sys2Proof/Machine/Sha.lean ====
section
/-! DEFINITION. SHA-256 (FIPS 180-4) and HMAC-SHA-256 (FIPS 198-1), the response of R416. -/

namespace Sys2Proof.Machine

/-- A 32-bit word of SHA-256. -/
abbrev W32 := BitVec 32

/-- The largest number below 2 ^ n whose k-th power does not pass m, its bits tried from the highest. -/
def rootFloor (k m : Nat) : Nat → Nat → Nat
  | 0, r => r
  | n + 1, r => rootFloor k m n (if (r + 2 ^ n) ^ k ≤ m then r + 2 ^ n else r)

/-- The first 32 bits of the fraction of a number's k-th root, for a root below 8. -/
def rootFraction (k p : Nat) : W32 := BitVec.ofNat 32 (rootFloor k (p * 2 ^ (32 * k)) 35 0)

/-- Whether no number from 2 to its half divides a number. -/
def indivisible (p : Nat) : Bool := (List.range (p / 2 - 1)).all fun d => p % (d + 2) ≠ 0

/-- The prime numbers below 312: the first 64. -/
def shaPrimes : List Nat := ((List.range 310).map (· + 2)).filter indivisible

/-- The constants of the 64 rounds: fractions of the cube roots of the first 64 primes. -/
def shaKeys : List W32 := shaPrimes.map (rootFraction 3)

/-- The hash of no block: fractions of the square roots of the first eight primes. -/
def shaInit : List W32 := (shaPrimes.take 8).map (rootFraction 2)

/-- A word with two rotated copies, and a third that is rotated (`sh` false) or shifted. -/
def shaMix (sh : Bool) (i j k : Nat) (x : W32) : W32 :=
  (x.rotateRight i).xor ((x.rotateRight j).xor (if sh then x >>> k else x.rotateRight k))

/-- A block under way: the 16 schedule words from the present round on, and the eight working variables. -/
structure ShaRun where
  sched : List W32
  vars  : List W32

/-- A round: the variables move down by one, the first and the fifth renewed, and the schedule by one word. -/
def ShaRun.round (r : ShaRun) (key : W32) : ShaRun :=
  let w (i : Nat) : W32 := r.sched.getD i 0
  let v (i : Nat) : W32 := r.vars.getD i 0
  let choice := ((v 5 ^^^ v 6) &&& v 4) ^^^ v 6
  let most := (v 0 &&& (v 1 ||| v 2)) ||| (v 1 &&& v 2)
  let low := [v 7, shaMix false 6 11 25 (v 4), choice, key, w 0].sum
  ⟨r.sched.drop 1 ++ [[shaMix true 17 19 10 (w 14), w 9, shaMix true 7 18 3 (w 1), w 0].sum],
   [[low, shaMix false 2 13 22 (v 0), most].sum] ++ r.vars.take 3 ++ [v 3 + low] ++ (r.vars.drop 4).take 3⟩

/-- The hash after one more block of 16 words. -/
def shaBlock (h blk : List W32) : List W32 := h.zipWith (· + ·) (shaKeys.foldl ShaRun.round ⟨blk, h⟩).vars

/-- Bytes as big-endian words. -/
def shaWords : List Byte → List W32
  | a :: b :: c :: d :: t => (a ++ b ++ c ++ d) :: shaWords t
  | _ => []

/-- n blocks of 16 words hashed. -/
def shaBlocks : Nat → List W32 → List W32 → List W32
  | 0, h, _ => h
  | n + 1, h, w => shaBlocks n (shaBlock h (w.take 16)) (w.drop 16)

/-- A message padded to whole blocks. -/
def shaPad (m : List Byte) : List Byte :=
  let n := m.length
  m ++ [0x80] ++ List.replicate ((119 - n % 64) % 64) 0 ++ (List.range 8).map fun i => BitVec.ofNat 8 (8 * n / 256 ^ (7 - i))

/-- SHA-256 of a message. -/
def sha256 (m : List Byte) : List Byte :=
  let p := shaPad m
  (shaBlocks (p.length / 64) shaInit (shaWords p)).flatMap fun (x : W32) =>
    (List.range 4).map fun i => BitVec.ofNat 8 (x.toNat / 256 ^ (3 - i))

/-- HMAC-SHA-256 under a key of 32 bytes. -/
def hmac (key m : List Byte) : List Byte :=
  let k := key ++ List.replicate 32 (0 : Byte)
  sha256 (k.map (· ^^^ 0x5c) ++ sha256 (k.map (· ^^^ 0x36) ++ m))

/-- n bytes of a number, the least significant first. -/
def leBytes (n v : Nat) : List Byte := (List.range n).map fun i => BitVec.ofNat 8 (v / 256 ^ i)

/-- The response that unlocks a level (R416): the first 16 bytes of the MAC over nonce, device identity and level. The key's byte i
is its bits [8i+7:8i], as the message's are. -/
def unlockMac (key : BitVec 256) (nonce devid : BitVec 128) (level : Nat) : BitVec 128 :=
  let mac := hmac (leBytes 32 key.toNat) (leBytes 16 nonce.toNat ++ leBytes 16 devid.toNat ++ leBytes 1 level)
  BitVec.ofNat 128 (((mac.take 16).reverse).foldl (fun a b => 256 * a + b.toNat) 0)

end Sys2Proof.Machine
end

