-- ==== Sys2Proof/Machine/Regs.lean ====
section
/-! DEFINITION. The layout of every register of the host window and of agent space (14 Tables 14.1 and 14.9): its offset,
how often it repeats, the reset value of the fields that are not read-only, and the bits of each access type (R12). -/

namespace Sys2Proof.Machine

/-- A register's layout. Bits of no mask are read-only (the hub's own) or reserved. -/
structure RegLay where
  off    : Nat
  n      : Nat
  stride : Nat
  reset  : Nat
  rw     : Nat
  w1c    : Nat
  rc     : Nat
  wo     : Nat
  deriving DecidableEq, Repr

/-! ### Offsets in the host window -/

/-- SPN_MODE, R61: [1] ACTIVE RO, [0] CAREFUL RW. -/
def rSpnMode : Nat := 0xB000
/-- SPN_EPOCH, R61: [35:0] EPOCH RO. -/
def rSpnEpoch : Nat := 0xB008
/-- SPN_LATE, R61: [63:0] COUNT RC. -/
def rSpnLate : Nat := 0xB010
/-- SPN_DUP, R61: [63:0] COUNT RC. -/
def rSpnDup : Nat := 0xB018
/-- SPN_BADPKT, R61: [63:0] COUNT RC. -/
def rSpnBadpkt : Nat := 0xB020
/-- SPN_TRC_UE, R61: [63:0] COUNT RC. -/
def rSpnTrcUe : Nat := 0xB028
/-- SPN_XING_SEL, R61: [12:0] INDEX RW. -/
def rSpnXingSel : Nat := 0xB030
/-- SPN_XING_STAT, R61: [63:48] OVR_CNT RC, [47:32] LOST_CNT RC, [1] LOST W1C, [0] OVR W1C. -/
def rSpnXingStat : Nat := 0xB038
/-- PRT_MAP (32 of them, 8 apart), R122: [8j+7] VALIDj RW, [8j+5:8j] PARTj RW. -/
def rPrtMap : Nat := 0x2000
/-- PRT_SEL, R122: [9:8] REGION RW, [5:0] PART RW. -/
def rPrtSel : Nat := 0x2100
/-- PRT_STATE, R122: [31:16] NFAIL RO, [15:12] REGIONS RO, [11:8] CAUSE RO, [7] PARTIAL RO, [6] LATE RO, [5] CUT RO, [2:0] STATE RO. -/
def rPrtState : Nat := 0x2108
/-- PRT_STEP, R122: [47:0] STEP RO. -/
def rPrtStep : Nat := 0x2110
/-- PRT_HALT_STEP, R122: [47:0] STEP RO. -/
def rPrtHaltStep : Nat := 0x2118
/-- PRT_HALT_TIME, R122: [63:0] HT RO. -/
def rPrtHaltTime : Nat := 0x2120
/-- PRT_LEAD, R122: [47:32] MEAS_LEAD RO, [31:16] BCAST_LAT RO, [15:0] MIN_LEAD RW. -/
def rPrtLead : Nat := 0x2128
/-- PRT_WDG, R122: [63:48] SUPP RC, [31:0] GRACE RW. -/
def rPrtWdg : Nat := 0x2130
/-- PRT_CMD, R122: [47:32] ARG WO, [13:8] PART WO, [2:0] OP WO. -/
def rPrtCmd : Nat := 0x2138
/-- PRT_MAP_ERR, R122: [63:0] COUNT RC. -/
def rPrtMapErr : Nat := 0x2140
/-- ST_STAT, R122: [63:48] QDLY_MAX RC, [47:32] RATE RO, [7:0] LAT RO. -/
def rStStat : Nat := 0x2148
/-- PRT_CUT_TMO, R122: [31:0] TMO RW. -/
def rPrtCutTmo : Nat := 0x2150
/-- TRC_FUN_CTRL, R163: [31:16] WIN RW. -/
def rTrcFunCtrl : Nat := 0x6000
/-- TRC_FUN_STAT, R163: [63:48] LATE RC, [47:32] EARLY RC, [31:16] TPLANE RC, [15:0] SUSPECT RC. -/
def rTrcFunStat : Nat := 0x6008
/-- TRC_SINK_CFG (3 of them, 8 apart), R163: [8] EN RW, [3:0] CLS RW. -/
def rTrcSinkCfg : Nat := 0x6010
/-- TRC_DROP (3 of them, 8 apart), R163: [63:48] P3 RC, [47:32] P2 RC, [31:16] P1 RC, [15:0] P0 RC. -/
def rTrcDrop : Nat := 0x6028
/-- TRC_D_ROUTE, R163: [1:0] ROUTE RW. -/
def rTrcDRoute : Nat := 0x6040
/-- TRC_LL_MASK, R163: [63:0] PART RW. -/
def rTrcLlMask : Nat := 0x6048
/-- TRC_LL_CTRL, R163: [63:48] HOLDS RC, [47:32] OVER RC, [31:0] TMO RW. -/
def rTrcLlCtrl : Nat := 0x6050
/-- TRC_WIN_CTRL, R163: [47:40] RESERVE RW, [37:32] TLINE RW, [29:24] WIN_PRE RW, [1:0] MODE RW. -/
def rTrcWinCtrl : Nat := 0x6058
/-- TRC_WIN_TMO, R163: [31:0] TMO RW. -/
def rTrcWinTmo : Nat := 0x6060
/-- TRC_WIN_SRC, R163: [31:16] MASK RW, [15:0] SRC RW. -/
def rTrcWinSrc : Nat := 0x6068
/-- TRC_WIN_FIRE, R163: [0] FIRE WO. -/
def rTrcWinFire : Nat := 0x6070
/-- TRC_WIN_STAT, R163: [63:48] XTRIG RC, [47:32] TRIG_BLK RO, [3] TORN RO, [2:0] STATE RO. -/
def rTrcWinStat : Nat := 0x6078
/-- TRC_BUF_STAT, R163: [63:48] UE RC, [47:40] BANKS RO, [31:16] WR RO, [15:0] OLDEST RO. -/
def rTrcBufStat : Nat := 0x6080
/-- TRC_BUF_RADDR, R163: [23:0] UNIT RW. -/
def rTrcBufRaddr : Nat := 0x6088
/-- TRC_BUF_RDATA, R163: [63:0] UNIT RO. -/
def rTrcBufRdata : Nat := 0x6090
/-- TRC_SPILL_BASE, R163: [63:12] ADDR RW. -/
def rTrcSpillBase : Nat := 0x6098
/-- TRC_SPILL_SIZE, R163: [23:0] BLOCKS RW. -/
def rTrcSpillSize : Nat := 0x60A0
/-- TRC_SPILL_PTR, R163: [55:32] RD RW, [23:0] WR RO. -/
def rTrcSpillPtr : Nat := 0x60A8
/-- TRC_SPILL_CTRL, R163: [63:48] OVWR RC, [0] OVERWRITE RW. -/
def rTrcSpillCtrl : Nat := 0x60B0
/-- TRC_FLY_SEL, R163: [7:0] CLUSTER RW. -/
def rTrcFlySel : Nat := 0x60B8
/-- TRC_FLY_STAT, R163: [63:48] DROP RC, [47:32] AGE RC, [31:16] LL_OVER RC, [15:0] GSEQ RO. -/
def rTrcFlyStat : Nat := 0x60C0
/-- CRD_PLAN, R191: [63:48] ENTRIES RO, [47:32] ENGINES RO, [31:16] SHARED RO, [15:8] MAXCAND RO. -/
def rCrdPlan : Nat := 0x8000
/-- CRD_ENG_SEL, R191: [7:0] CLUSTER RW. -/
def rCrdEngSel : Nat := 0x8008
/-- CRD_ENG_STAT, R191: [63:48] WLOST RC, [47:32] INCOMP RC, [31:16] MOVES RC, [15:8] CAND RO, [1] FAILED RO, [0] SHARED RO. -/
def rCrdEngStat : Nat := 0x8010
/-- CRD_DRF_SEL, R191: [5:0] N RW. -/
def rCrdDrfSel : Nat := 0x8018
/-- CRD_DRF_CTRL, R191: [63:44] REF RW, [43:34] TAP RW, [33:28] LINE RW, [27] XT RW, [26:24] CH RW, [2] ONCE RW, [1] HEVT RW, [0] EN RW. -/
def rCrdDrfCtrl : Nat := 0x8020
/-- CRD_DRF_STAT, R191: [63:48] TRIPS RC, [47:32] SKIP RC, [31:16] MISMATCH RC, [15:0] COMPARES RC. -/
def rCrdDrfStat : Nat := 0x8028
/-- CRD_DRF_LAST, R191: [63:32] COS RO, [31:0] REL RO. -/
def rCrdDrfLast : Nat := 0x8030
/-- CRD_DRF_LASTW, R191: [63:48] WSEQ RO, [2] NONFIN RO, [1] NORM RO, [0] COS RO. -/
def rCrdDrfLastw : Nat := 0x8038
/-- CNT_AO_CTRL, R206: [31] EN RW, [22:15] BASE RW. -/
def rCntAoCtrl : Nat := 0x9000
/-- CNT_AO_STAT, R206: [63:48] MISS RC, [47:32] STALE RC, [31:0] PERIOD RO. -/
def rCntAoStat : Nat := 0x9008
/-- CNT_AO_SEL, R206: [11:8] UNIT RW, [7:0] CLUSTER RW. -/
def rCntAoSel : Nat := 0x9010
/-- CNT_AO_DATA, R206: [63:0] UNIT RO. -/
def rCntAoData : Nat := 0x9018
/-- CNT_DIE_SUM (8 of them, 8 apart), R206: [63:0] SUM RO. -/
def rCntDieSum : Nat := 0x9020
/-- CNT_SMP_CTRL, R206: [63:32] INTERVAL RW, [0] EN RW. -/
def rCntSmpCtrl : Nat := 0x9060
/-- CNT_RING_BASE, R206: [22:12] ADDR RW. -/
def rCntRingBase : Nat := 0x9068
/-- CNT_RING_SIZE, R206: [11:0] BLOCKS RW. -/
def rCntRingSize : Nat := 0x9070
/-- CNT_RING_PTR, R206: [55:32] RD RW, [23:0] WR RO. -/
def rCntRingPtr : Nat := 0x9078
/-- CNT_RING_CTRL, R206: [63:48] DROP RC, [1] ERR RO, [0] OVERWRITE RW. -/
def rCntRingCtrl : Nat := 0x9080
/-- CNT_RING_MASK, R206: [63:0] PART RW. -/
def rCntRingMask : Nat := 0x9088
/-- HNG_CTRL, R235: [39:32] NOPROG RW, [31:28] CONFIRM RW, [10:8] WHORL RW, [0] AUTO RW. -/
def rHngCtrl : Nat := 0xA800
/-- HNG_STAT, R235: [63:48] REPORTS RC, [47:32] IGNORED RC, [31:24] REPEAT RC, [23:16] DROPPED RC, [15:13] QUEUED RO, [12] BUSY RO, [6] ALTW RC, [5:0] PART RO. -/
def rHngStat : Nat := 0xA808
/-- HNG_HUNG, R235: [63:0] PART W1C. -/
def rHngHung : Nat := 0xA810
/-- HNG_REMOTE_TMO, R235: [31:0] TMO RW. -/
def rHngRemoteTmo : Nat := 0xA818
/-- DMP_CTRL, R235: [7] STAGE RW, [6:5] FIT RW, [4:3] DEST RW, [1:0] LEVEL RW. -/
def rDmpCtrl : Nat := 0xA820
/-- DMP_TMO, R235: [63:0] TMO RW. -/
def rDmpTmo : Nat := 0xA828
/-- DMP_REQ, R235: [13:8] PART WO, [0] GO WO. -/
def rDmpReq : Nat := 0xA830
/-- DMP_STAGE, R235: [22:12] OFF RW. -/
def rDmpStage : Nat := 0xA838
/-- DMP_SOT, R235: [63:44] UNITS RW, [22:3] OFF RW. -/
def rDmpSot : Nat := 0xA840
/-- DMP_LIST, R235: [27:23] N RW, [22:3] OFF RW. -/
def rDmpList : Nat := 0xA848
/-- DMP_WIN_BASE, R235: [63:12] ADDR RW. -/
def rDmpWinBase : Nat := 0xA850
/-- DMP_WIN_SIZE, R235: [23:0] BLOCKS RW. -/
def rDmpWinSize : Nat := 0xA858
/-- DMP_WIN_STAT, R235: [55:32] USED RO, [0] HELD W1C. -/
def rDmpWinStat : Nat := 0xA860
/-- DMP_STAT, R235: [63:32] NUM RO, [31:30] LEVEL RO, [29] TRUNC RO, [28] ABORT RO, [27] GRAPH_TRUNC RO, [26] PARTIAL RO, [25] SOT_ERR RO, [15:0] BLOCKED RC. -/
def rDmpStat : Nat := 0xA868
/-- WHL_CTRL (8 of them, 0x100 apart), R264: [3] RESET WO, [2] STOP WO, [1] START WO, [0] LOAD WO. -/
def rWhlCtrl : Nat := 0x4000
/-- WHL_LOAD (8 of them, 0x100 apart), R264: [63] ROM RW, [62] AUTO RW, [55:48] ROMIDX RW, [22:3] OFF RW. -/
def rWhlLoad : Nat := 0x4008
/-- WHL_STAT (8 of them, 0x100 apart), R264: [63:48] NOTKT RC, [47:40] LEASES RO, [39:32] TKTS RO, [31:24] FCODE RO, [23:16] LOADST RO, [2:0] STATE RO. -/
def rWhlStat : Nat := 0x4010
/-- WHL_PC (8 of them, 0x100 apart), R264: [31:0] PC RO. -/
def rWhlPc : Nat := 0x4018
/-- WHL_FADDR (8 of them, 0x100 apart), R264: [63:0] ADDR RO. -/
def rWhlFaddr : Nat := 0x4020
/-- WHL_OWNER (8 of them, 0x100 apart), R264: [8] TEN RW, [7:0] TENANT RW. -/
def rWhlOwner : Nat := 0x4028
/-- WHL_LS_ADDR (8 of them, 0x100 apart), R264: [15:3] ADDR RW. -/
def rWhlLsAddr : Nat := 0x4030
/-- WHL_LS_DATA (8 of them, 0x100 apart), R264: [63:0] UNIT RW. -/
def rWhlLsData : Nat := 0x4038
/-- WHL_DBG_SEL (8 of them, 0x100 apart), R264: [6:0] REG RW. -/
def rWhlDbgSel : Nat := 0x4040
/-- WHL_DBG_DATA (8 of them, 0x100 apart), R264: [63:0] VALUE RO. -/
def rWhlDbgData : Nat := 0x4048
/-- WHL_HMEM (8 of them, 0x100 apart), R264: [42:32] BASE RW, [11:0] BLOCKS RW. -/
def rWhlHmem : Nat := 0x4050
/-- EVT_PEND, R266: [63:0] LINES W1C. -/
def rEvtPend : Nat := 0x5000
/-- EVT_IRQ_EN, R266: [63:0] LINES RW. -/
def rEvtIrqEn : Nat := 0x5008
/-- EVT_RAISE, R266: [63:16] LINES WO. -/
def rEvtRaise : Nat := 0x5010
/-- EVT_CUT_PEND, R266: [63:0] PART W1C. -/
def rEvtCutPend : Nat := 0x5018
/-- EVT_XT_PEND (4 of them, 8 apart), R266: [63:0] CLUSTER W1C. -/
def rEvtXtPend : Nat := 0x5020
/-- EVT_IRQ_STAT, R266: [0] IRQ RO. -/
def rEvtIrqStat : Nat := 0x5040
/-- HNK_STAT, R317: [19:16] BANKS RO, [13:12] DEVS RO, [9:8] MOUNT RO, [6:4] PFW RO, [3] FAILED RO. -/
def rHnkStat : Nat := 0xA000
/-- HNK_CNUM, R317: [63:0] CNUM RO. -/
def rHnkCnum : Nat := 0xA008
/-- HNK_QUEUE, R317: [63:48] WAITS RC, [36:32] QN RO, [12:0] QBYTES RO. -/
def rHnkQueue : Nat := 0xA010
/-- HNK_JRN, R317: [50:32] OLDEST RO, [18:0] NEWEST RO. -/
def rHnkJrn : Nat := 0xA018
/-- HNK_RD_SEL, R317: [63:60] SPACE RW, [59:0] ADDR RW. -/
def rHnkRdSel : Nat := 0xA020
/-- HNK_RD_DATA, R317: [63:0] UNIT RO. -/
def rHnkRdData : Nat := 0xA028
/-- HNK_RD_STAT, R317: [2] BUSY RO, [1:0] ECC RO. -/
def rHnkRdStat : Nat := 0xA030
/-- HNK_NAND_CFG, R317: [63:44] REFRESH RW, [43:32] WL_SPREAD RW, [31:24] SCRUB RW. -/
def rHnkNandCfg : Nat := 0xA038
/-- HNK_NAND_STAT (2 of them, 8 apart), R317: [63:47] FREE RO, [46:30] RETIRED RO, [29:16] SPREAD RO, [0] OUT RO. -/
def rHnkNandStat : Nat := 0xA040
/-- HNK_SPACE, R317: [31:0] BLOCKS RO. -/
def rHnkSpace : Nat := 0xA050
/-- HNK_PIN, R317: [32] PIN WO, [31:0] NUM WO. -/
def rHnkPin : Nat := 0xA058
/-- HNK_ERR, R317: [63:48] WFAULT RC, [47:32] MRAM_UE RC, [31:16] NAND_UE RC, [15:0] RELOC RC. -/
def rHnkErr : Nat := 0xA060
/-- HNK_ERR2, R317: [15:0] CNT_REJ RC. -/
def rHnkErr2 : Nat := 0xA068
/-- TIM_NOW, R339: [63:0] HT RO. -/
def rTimNow : Nat := 0x3000
/-- TIM_STAT, R339: [63:48] ERR RO, [39:32] DEPTH RO, [7] WIDE RO, [6] REFLOSS RO, [2:0] STATE RO. -/
def rTimStat : Nat := 0x3008
/-- TIM_TRIM, R339: [31:0] PPB RO. -/
def rTimTrim : Nat := 0x3010
/-- TIM_OFFSET, R339: [63:0] THETA RO. -/
def rTimOffset : Nat := 0x3018
/-- TIM_DELAY, R339: [31:0] D RO. -/
def rTimDelay : Nat := 0x3020
/-- TIM_CTRL, R339: [1] TRACK RW, [0] MEASURE WO. -/
def rTimCtrl : Nat := 0x3028
/-- TIM_ASYM, R339: [15:0] PS RW. -/
def rTimAsym : Nat := 0x3030
/-- IHB_ID, R340: [63:56] PRIO RW, [54:48] HUB RW, [15:8] PKG RO, [1:0] DIE RO. -/
def rIhbId : Nat := 0xD000
/-- IHB_CH (8 of them, 8 apart), R340: [63:58] LINK RO, [57] FITTED RO, [56] UP RO, [55] PARENT RO, [54:48] PEER RO, [31:16] LOST RC, [15:0] BAD RC. -/
def rIhbCh : Nat := 0xD008
/-- IHB_CTRL, R340: [0] ELECT WO. -/
def rIhbCtrl : Nat := 0xD048
/-- IHB_ROOT, R340: [63:16] DEVID RO, [15:8] PRIO RO, [2] ELECTING RO, [1] PKGROOT RO, [0] CFGROOT RO. -/
def rIhbRoot : Nat := 0xD050
/-- IHB_STAT, R340: [63:48] STALE RC, [47:32] JOINED RC, [31:16] NOCONF RC, [15:0] CONFLICT RC. -/
def rIhbStat : Nat := 0xD058
/-- TPT_CTRL, R375: [47:32] DLANES RO, [31:16] LANE_EN RW, [0] EN RW. -/
def rTptCtrl : Nat := 0x7000
/-- TPT_STAT, R375: [63:48] WIRED RO, [47:32] UP RO, [31:16] INSVC RO. -/
def rTptStat : Nat := 0x7008
/-- TPT_FSEQ, R375: [63:32] D RO, [31:0] TRACE RO. -/
def rTptFseq : Nat := 0x7010
/-- TPT_ERR, R375: [63:48] DOWNS RC, [47:32] STALLS RC, [31:16] REPLAYED RC, [15:0] NOREPLAY RC. -/
def rTptErr : Nat := 0x7018
/-- MPT_CFG, R376: [63] EN RW, [40:32] MAXRD RW, [31:0] TMO RW. -/
def rMptCfg : Nat := 0xC000
/-- MPT_RATE, R376: [43:32] BURST RW, [11:0] RATE RW. -/
def rMptRate : Nat := 0xC008
/-- MPT_LO, R376: [63:12] ADDR RW. -/
def rMptLo : Nat := 0xC010
/-- MPT_HI, R376: [63:12] ADDR RW. -/
def rMptHi : Nat := 0xC018
/-- MPT_ACC_CTRL, R376: [63:3] ADDR RW, [1] WR RW, [0] GO WO. -/
def rMptAccCtrl : Nat := 0xC020
/-- MPT_ACC_DATA, R376: [63:0] DATA RW. -/
def rMptAccData : Nat := 0xC028
/-- MPT_ACC_STAT, R376: [1:0] STATE RO. -/
def rMptAccStat : Nat := 0xC030
/-- MPT_STAT, R376: [63:48] RERR RC, [47:32] WERR RC, [31:16] TMO RC, [15:0] LATE RC. -/
def rMptStat : Nat := 0xC038
/-- MPT_STAT2, R376: [63:48] REFUSED RC, [8:0] QUAR RO. -/
def rMptStat2 : Nat := 0xC040
/-- TWP_STAT, R377: [63:48] TMO RC, [47:32] HDRERR RC, [31:16] DCRC RC, [15:8] CAUSE RO, [7] STICKY RO, [6] PEND RO, [1:0] LEVEL RO. -/
def rTwpStat : Nat := 0xE000
/-- HPT_STAT, R377: [63:48] TMO RC, [47:32] STRB RC, [0] RS_STALL RO. -/
def rHptStat : Nat := 0xE008
/-- XSP_STAT, R377: [63:48] TMO RC, [47:32] DQS RC, [7:4] ID_OK RO, [3:0] FITTED RO. -/
def rXspStat : Nat := 0xE010
/-- PIN_STAT, R377: [63:48] GLITCH RC, [1] IRQ RO, [0] PFW RO. -/
def rPinStat : Nat := 0xE018
/-- ID_PART, R383: [63:48] VENDOR RO, [47:32] PART RO, [31:16] REV RO, [15:0] ROMREV RO. -/
def rIdPart : Nat := 0
/-- ID_DEVID_LO, R383: [63:0] DEVID RO. -/
def rIdDevidLo : Nat := 8
/-- ID_DEVID_HI, R383: [63:0] DEVID RO. -/
def rIdDevidHi : Nat := 0x10
/-- CAP_GRID, R383: [46:40] ROWS RO, [38:32] COLS RO, [19:16] SLOTS RO, [15:12] CMP_N RO. -/
def rCapGrid : Nat := 0x18
/-- CAP_SPARE, R383: [63:0] ROWS RO. -/
def rCapSpare : Nat := 0x20
/-- CAP_REGION, R383: [35:32] REGIONS RO, [31:24] LAT3 RO, [23:16] LAT2 RO, [15:8] LAT1 RO, [7:0] LAT0 RO. -/
def rCapRegion : Nat := 0x28
/-- CAP_PORTS, R383: [63:48] LANES RO, [47:40] CHANNELS RO, [39:38] NAND RO, [34:32] DIES RO. -/
def rCapPorts : Nat := 0x30
/-- CAP_MEM, R383: [63:56] WHORLS RO, [55:48] BUFBANKS RO, [47:44] MRAM RO, [31:0] HUBMEM RO. -/
def rCapMem : Nat := 0x38
/-- ID_MMAP, R383: [63:44] UNITS RO, [22:3] OFF RO. -/
def rIdMmap : Nat := 0x40
/-- ID_MMAP_GEN, R383: [31:0] GEN RO. -/
def rIdMmapGen : Nat := 0x48
/-- ID_BOOT, R383: [15:8] STAGE RO, [2] HOLD RO, [1] RELEASE WO, [0] READY RO. -/
def rIdBoot : Nat := 0x50
/-- RGT_CHAL, R385: [0] NEW WO. -/
def rRgtChal : Nat := 0x1000
/-- RGT_NONCE_LO, R385: [63:0] NONCE RO. -/
def rRgtNonceLo : Nat := 0x1008
/-- RGT_NONCE_HI, R385: [63:0] NONCE RO. -/
def rRgtNonceHi : Nat := 0x1010
/-- RGT_RESP_LO, R385: [63:0] RESP WO. -/
def rRgtRespLo : Nat := 0x1018
/-- RGT_RESP_HI, R385: [63:0] RESP WO. -/
def rRgtRespHi : Nat := 0x1020
/-- RGT_UNLOCK, R385: [63:48] FAILS RC, [7] LOCKOUT RO, [6] NONCE_V RO, [3:2] REQ RW, [1:0] LEVEL RO. -/
def rRgtUnlock : Nat := 0x1028
/-- RGT_POLICY, R385: [1:0] MAXLEVEL RW. -/
def rRgtPolicy : Nat := 0x1030
/-- RGT_TEN (256 of them, 8 apart), R385: [63:0] PART RW. -/
def rRgtTen : Nat := 0x1100
/-- HLT_SUM, R388: [63:56] WHORLS RO, [55:48] BUFBANKS RO, [47:44] MRAM RO, [43:42] NAND RO, [41:32] LINKS RO, [31:23] FLY_FAIL RO, [22:14] CARD_FAIL RO, [13:7] SPARES RO, [4:0] LANES RO. -/
def rHltSum : Nat := 0xB200
/-- HLT_GEN, R388: [31:0] GEN RO. -/
def rHltGen : Nat := 0xB208
/-- HLT_ENTRY, R388: [7:4] OUT_FAIL RO, [3:0] IN_FAIL RO. -/
def rHltEntry : Nat := 0xB210
/-- HLT_CLU (256 of them, 8 apart), R388: [47:40] SERVER RO, [35:32] SPARES RO, [31] ALT RO, [30] LOST RO, [29] FLY_FAIL RO, [28] CARD_FAIL RO, [27] NODE_FAIL RO, [26] UNREACH RO, [25] TRC_LAT RO, [24] TRC_FAIL RO, [23:20] OUT_FAIL RO. -/
def rHltClu : Nat := 0xB800
/-- AGA_SET_HI, R390: [63:0] SET RW. -/
def rAgaSetHi : Nat := 0xB100
/-- AGA_SET_LO, R390: [63:0] SET RW. -/
def rAgaSetLo : Nat := 0xB108
/-- AGA_WDATA, R390: [63:0] DATA RW. -/
def rAgaWdata : Nat := 0xB110
/-- AGA_LMD, R390: [63:0] LMD RW. -/
def rAgaLmd : Nat := 0xB118
/-- AGA_DL, R390: [47:0] SPAN RW. -/
def rAgaDl : Nat := 0xB120
/-- AGA_CMD, R390: [28] FORCE WO, [27:16] CREG WO, [15:8] REG WO, [6:4] RED WO, [3:1] OP WO, [0] GO WO. -/
def rAgaCmd : Nat := 0xB128
/-- AGA_RDATA, R390: [63:0] RESULT RO. -/
def rAgaRdata : Nat := 0xB130
/-- AGA_STAT, R390: [63:32] COUNT RO, [31:19] WIN RO, [15:8] STATUS RO, [1:0] STATE RO. -/
def rAgaStat : Nat := 0xB138
/-- AGA_REFUSED, R390: [15:0] COUNT RC. -/
def rAgaRefused : Nat := 0xB140

/-! ### Indices in agent space -/

/-- AG_ID, R68: [33:30] CMP_N RO, [29:26] SLOTS RO, [25] SPARE RO, [24:18] PCOL RO, [17:12] PROW RO, [11:6] LCOL RO, [5:0] LROW RO. -/
def aAgId : Nat := 0
/-- AG_STATUS, R68: [16] FREEZE_LATE RO, [15:10] PART RO, [9] NOPART RO, [8] ALT RO, [7] CRST RO, [6] LP RO, [5] LOCK RO, [4] GATED RO, [3] WAKE RO, [2] FROZEN RO. -/
def aAgStatus : Nat := 1
/-- AG_LAST, R68: [63:48] ISEQ RO, [47:24] COUNT RO, [7:0] REASON RO. -/
def aAgLast : Nat := 2
/-- AG_CWIN, R68: [31] FORCE RW, [11:7] BASE RW. -/
def aAgCwin : Nat := 3
/-- AG_LM_CTRL, R68: [0] STREAM RW. -/
def aAgLmCtrl : Nat := 4
/-- AG_EVT_MAP, R68: [31:0] MAP RW. -/
def aAgEvtMap : Nat := 5
/-- CMP_CTRL (8 of them, 2 apart), R68: [63:48] HIT_CNT RO, [14:12] CH RW, [11] TRIG RW, [10] TSTART RW, [9] TSTOP RW, [8] ONCE RW, [7:6] SRC RW, [5:4] MODE RW, [3] ERR RO, [0] EN RW. -/
def aCmpCtrl : Nat := 8
/-- CMP_VAL (8 of them, 2 apart), R68: [63:32] MASK RW, [31:0] ADDR RW. -/
def aCmpVal : Nat := 9
/-- VT_STAT, R68: [63:48] TX_DROP RC, [6:4] RX_LVL RO, [2:0] TX_LVL RO. -/
def aVtStat : Nat := 0x18
/-- VT_RX, R68: [63:0] WORD WO. -/
def aVtRx : Nat := 0x19
/-- FLY_XT_CTRL (8 of them, 1 apart), R68: [63:48] FIRE_CNT RO, [4] EVT RW, [3] TSTART RW, [2] NOTIFY RW, [1] HALT RW, [0] EN RW. -/
def aFlyXtCtrl : Nat := 0x60
/-- FLY_XT_FIRE, R68: [7:0] FIRE WO. -/
def aFlyXtFire : Nat := 0x68
/-- BT_CTRL, R135: [15:12] CMD_SLOTS RW, [10] LP_REC RW, [9] CMD_TRIG RW, [8] FLOW_TRIG RW, [1] CMD_ON RW, [0] FLOW_ON RW. -/
def aBtCtrl : Nat := 0x50
/-- BT_STAT, R135: [63:48] DROP RC. -/
def aBtStat : Nat := 0x51
/-- TS_CUR, R165: [7] ON RO, [6] ENTRY RO, [5:4] SLOT RO. -/
def aTsCur : Nat := 0x40
/-- TS_MATCH (2 of them, 5 apart), R165: [63] EN RW, [62:61] SLOT RW, [60] ML RW, [59] MO RW, [58] MT RW, [55:0] IDS RW. -/
def aTsMatch : Nat := 0x42
/-- TS_CFG (2 of them, 5 apart), R165: [63:54] TAP RW, [53:45] SECT_EN RW, [44:40] K RW, [39:31] EXP_BASE RW, [30:22] SK_LSB RW, [21:14] SB RW, [13:6] DWELL RW, [5] VH_LOG RW, [4:3] VH_Q RW. -/
def aTsCfg : Nat := 0x43
/-- TS_VH (2 of them, 5 apart), R165: [63:32] LO_LB RW, [31:0] STEP RW. -/
def aTsVh : Nat := 0x44
/-- TS_SEED (2 of them, 5 apart), R165: [63:0] SEED RW. -/
def aTsSeed : Nat := 0x45
/-- TS_COV (2 of them, 5 apart), R165: [63:48] WSEQ RO, [47:24] WANT RC, [23:0] GOT RC. -/
def aTsCov : Nat := 0x46
/-- AOC (8 of them, 1 apart), R194: [47:0] COUNT RO. -/
def aAoc : Nat := 0x20
/-- PC (8 of them, 1 apart), R194: [47:0] COUNT RW. -/
def aPc : Nat := 0x28
/-- PC_CFG (8 of them, 1 apart), R194: [7:6] MODE RW, [4:0] STROBE RW. -/
def aPcCfg : Nat := 0x30
/-- CNT_BCTRL, R194: [4:1] IDS RW, [0] SMP RW. -/
def aCntBctrl : Nat := 0x38
/-- CNT_BSTAT, R194: [63:48] MISS RC, [31:0] SNUM RO. -/
def aCntBstat : Nat := 0x39

/-- The window registers of chapter 02. -/
def laySpine : List RegLay := [
  ⟨rSpnMode, 1, 8, 3, 1, 0, 0, 0⟩,
  ⟨rSpnEpoch, 1, 8, 0, 0, 0, 0, 0⟩,
  ⟨rSpnLate, 1, 8, 0, 0, 0, 0xFFFFFFFFFFFFFFFF, 0⟩,
  ⟨rSpnDup, 1, 8, 0, 0, 0, 0xFFFFFFFFFFFFFFFF, 0⟩,
  ⟨rSpnBadpkt, 1, 8, 0, 0, 0, 0xFFFFFFFFFFFFFFFF, 0⟩,
  ⟨rSpnTrcUe, 1, 8, 0, 0, 0, 0xFFFFFFFFFFFFFFFF, 0⟩,
  ⟨rSpnXingSel, 1, 8, 0, 0x1FFF, 0, 0, 0⟩,
  ⟨rSpnXingStat, 1, 8, 0, 0, 3, 0xFFFFFFFF00000000, 0⟩]

/-- The window registers of chapter 04. -/
def layPart : List RegLay := [
  ⟨rPrtMap, 32, 8, 0, 0xBFBFBFBFBFBFBFBF, 0, 0, 0⟩,
  ⟨rPrtSel, 1, 8, 0, 0x33F, 0, 0, 0⟩,
  ⟨rPrtState, 1, 8, 0, 0, 0, 0, 0⟩,
  ⟨rPrtStep, 1, 8, 0, 0, 0, 0, 0⟩,
  ⟨rPrtHaltStep, 1, 8, 0, 0, 0, 0, 0⟩,
  ⟨rPrtHaltTime, 1, 8, 0, 0, 0, 0, 0⟩,
  ⟨rPrtLead, 1, 8, 0x200, 0xFFFF, 0, 0, 0⟩,
  ⟨rPrtWdg, 1, 8, 0, 0xFFFFFFFF, 0, 0xFFFF000000000000, 0⟩,
  ⟨rPrtCmd, 1, 8, 0, 0, 0, 0, 0xFFFF00003F07⟩,
  ⟨rPrtMapErr, 1, 8, 0, 0, 0, 0xFFFFFFFFFFFFFFFF, 0⟩,
  ⟨rStStat, 1, 8, 0, 0, 0, 0xFFFF000000000000, 0⟩,
  ⟨rPrtCutTmo, 1, 8, 0xFA0, 0xFFFFFFFF, 0, 0, 0⟩]

/-- The window registers of chapter 05. -/
def layTrace : List RegLay := [
  ⟨rTrcFunCtrl, 1, 8, 0x7D00000, 0xFFFF0000, 0, 0, 0⟩,
  ⟨rTrcFunStat, 1, 8, 0, 0, 0, 0xFFFFFFFFFFFFFFFF, 0⟩,
  ⟨rTrcSinkCfg, 3, 8, 0xF, 0x10F, 0, 0, 0⟩,
  ⟨rTrcDrop, 3, 8, 0, 0, 0, 0xFFFFFFFFFFFFFFFF, 0⟩,
  ⟨rTrcDRoute, 1, 8, 0, 3, 0, 0, 0⟩,
  ⟨rTrcLlMask, 1, 8, 0, 0xFFFFFFFFFFFFFFFF, 0, 0, 0⟩,
  ⟨rTrcLlCtrl, 1, 8, 0x61A80, 0xFFFFFFFF, 0, 0xFFFFFFFF00000000, 0⟩,
  ⟨rTrcWinCtrl, 1, 8, 0x20000000, 0xFF3F3F000003, 0, 0, 0⟩,
  ⟨rTrcWinTmo, 1, 8, 0, 0xFFFFFFFF, 0, 0, 0⟩,
  ⟨rTrcWinSrc, 1, 8, 0, 0xFFFFFFFF, 0, 0, 0⟩,
  ⟨rTrcWinFire, 1, 8, 0, 0, 0, 0, 1⟩,
  ⟨rTrcWinStat, 1, 8, 0, 0, 0, 0xFFFF000000000000, 0⟩,
  ⟨rTrcBufStat, 1, 8, 0, 0, 0, 0xFFFF000000000000, 0⟩,
  ⟨rTrcBufRaddr, 1, 8, 0, 0xFFFFFF, 0, 0, 0⟩,
  ⟨rTrcBufRdata, 1, 8, 0, 0, 0, 0, 0⟩,
  ⟨rTrcSpillBase, 1, 8, 0, 0xFFFFFFFFFFFFF000, 0, 0, 0⟩,
  ⟨rTrcSpillSize, 1, 8, 0, 0xFFFFFF, 0, 0, 0⟩,
  ⟨rTrcSpillPtr, 1, 8, 0, 0xFFFFFF00000000, 0, 0, 0⟩,
  ⟨rTrcSpillCtrl, 1, 8, 0, 1, 0, 0xFFFF000000000000, 0⟩,
  ⟨rTrcFlySel, 1, 8, 0, 0xFF, 0, 0, 0⟩,
  ⟨rTrcFlyStat, 1, 8, 0, 0, 0, 0xFFFFFFFFFFFF0000, 0⟩]

/-- The window registers of chapter 06. -/
def layCard : List RegLay := [
  ⟨rCrdPlan, 1, 8, 0, 0, 0, 0, 0⟩,
  ⟨rCrdEngSel, 1, 8, 0, 0xFF, 0, 0, 0⟩,
  ⟨rCrdEngStat, 1, 8, 0, 0, 0, 0xFFFFFFFFFFFF0000, 0⟩,
  ⟨rCrdDrfSel, 1, 8, 0, 0x3F, 0, 0, 0⟩,
  ⟨rCrdDrfCtrl, 1, 8, 0, 0xFFFFFFFFFF000007, 0, 0, 0⟩,
  ⟨rCrdDrfStat, 1, 8, 0, 0, 0, 0xFFFFFFFFFFFFFFFF, 0⟩,
  ⟨rCrdDrfLast, 1, 8, 0, 0, 0, 0, 0⟩,
  ⟨rCrdDrfLastw, 1, 8, 0, 0, 0, 0, 0⟩]

/-- The window registers of chapter 07. -/
def layCounters : List RegLay := [
  ⟨rCntAoCtrl, 1, 8, 0, 0x807F8000, 0, 0, 0⟩,
  ⟨rCntAoStat, 1, 8, 0, 0, 0, 0xFFFFFFFF00000000, 0⟩,
  ⟨rCntAoSel, 1, 8, 0, 0xFFF, 0, 0, 0⟩,
  ⟨rCntAoData, 1, 8, 0, 0, 0, 0, 0⟩,
  ⟨rCntDieSum, 8, 8, 0, 0, 0, 0, 0⟩,
  ⟨rCntSmpCtrl, 1, 8, 0x61A8000000000, 0xFFFFFFFF00000001, 0, 0, 0⟩,
  ⟨rCntRingBase, 1, 8, 0, 0x7FF000, 0, 0, 0⟩,
  ⟨rCntRingSize, 1, 8, 0, 0xFFF, 0, 0, 0⟩,
  ⟨rCntRingPtr, 1, 8, 0, 0xFFFFFF00000000, 0, 0, 0⟩,
  ⟨rCntRingCtrl, 1, 8, 0, 1, 0, 0xFFFF000000000000, 0⟩,
  ⟨rCntRingMask, 1, 8, 0, 0xFFFFFFFFFFFFFFFF, 0, 0, 0⟩]

/-- The window registers of chapter 08. -/
def layDump : List RegLay := [
  ⟨rHngCtrl, 1, 8, 0x20000700, 0xFFF0000701, 0, 0, 0⟩,
  ⟨rHngStat, 1, 8, 0, 0, 0, 0xFFFFFFFFFFFF0040, 0⟩,
  ⟨rHngHung, 1, 8, 0, 0, 0xFFFFFFFFFFFFFFFF, 0, 0⟩,
  ⟨rHngRemoteTmo, 1, 8, 0x13880, 0xFFFFFFFF, 0, 0, 0⟩,
  ⟨rDmpCtrl, 1, 8, 1, 0xFB, 0, 0, 0⟩,
  ⟨rDmpTmo, 1, 8, 0xEE6B2800, 0xFFFFFFFFFFFFFFFF, 0, 0, 0⟩,
  ⟨rDmpReq, 1, 8, 0, 0, 0, 0, 0x3F01⟩,
  ⟨rDmpStage, 1, 8, 0x600000, 0x7FF000, 0, 0, 0⟩,
  ⟨rDmpSot, 1, 8, 0, 0xFFFFF000007FFFF8, 0, 0, 0⟩,
  ⟨rDmpList, 1, 8, 0, 0xFFFFFF8, 0, 0, 0⟩,
  ⟨rDmpWinBase, 1, 8, 0, 0xFFFFFFFFFFFFF000, 0, 0, 0⟩,
  ⟨rDmpWinSize, 1, 8, 0, 0xFFFFFF, 0, 0, 0⟩,
  ⟨rDmpWinStat, 1, 8, 0, 0, 1, 0, 0⟩,
  ⟨rDmpStat, 1, 8, 0, 0, 0, 0xFFFF, 0⟩]

/-- The window registers of chapter 09. -/
def layWhorl : List RegLay := [
  ⟨rWhlCtrl, 8, 0x100, 0, 0, 0, 0, 0xF⟩,
  ⟨rWhlLoad, 8, 0x100, 0, 0xC0FF0000007FFFF8, 0, 0, 0⟩,
  ⟨rWhlStat, 8, 0x100, 0, 0, 0, 0xFFFF000000000000, 0⟩,
  ⟨rWhlPc, 8, 0x100, 0, 0, 0, 0, 0⟩,
  ⟨rWhlFaddr, 8, 0x100, 0, 0, 0, 0, 0⟩,
  ⟨rWhlOwner, 8, 0x100, 0, 0x1FF, 0, 0, 0⟩,
  ⟨rWhlLsAddr, 8, 0x100, 0, 0xFFF8, 0, 0, 0⟩,
  ⟨rWhlLsData, 8, 0x100, 0, 0xFFFFFFFFFFFFFFFF, 0, 0, 0⟩,
  ⟨rWhlDbgSel, 8, 0x100, 0, 0x7F, 0, 0, 0⟩,
  ⟨rWhlDbgData, 8, 0x100, 0, 0, 0, 0, 0⟩,
  ⟨rWhlHmem, 8, 0x100, 0, 0x7FF00000FFF, 0, 0, 0⟩,
  ⟨rEvtPend, 1, 8, 0, 0, 0xFFFFFFFFFFFFFFFF, 0, 0⟩,
  ⟨rEvtIrqEn, 1, 8, 0, 0xFFFFFFFFFFFFFFFF, 0, 0, 0⟩,
  ⟨rEvtRaise, 1, 8, 0, 0, 0, 0, 0xFFFFFFFFFFFF0000⟩,
  ⟨rEvtCutPend, 1, 8, 0, 0, 0xFFFFFFFFFFFFFFFF, 0, 0⟩,
  ⟨rEvtXtPend, 4, 8, 0, 0, 0xFFFFFFFFFFFFFFFF, 0, 0⟩,
  ⟨rEvtIrqStat, 1, 8, 0, 0, 0, 0, 0⟩]

/-- The window registers of chapter 11. -/
def layHank : List RegLay := [
  ⟨rHnkStat, 1, 8, 0, 0, 0, 0, 0⟩,
  ⟨rHnkCnum, 1, 8, 0, 0, 0, 0, 0⟩,
  ⟨rHnkQueue, 1, 8, 0, 0, 0, 0xFFFF000000000000, 0⟩,
  ⟨rHnkJrn, 1, 8, 0, 0, 0, 0, 0⟩,
  ⟨rHnkRdSel, 1, 8, 0, 0xFFFFFFFFFFFFFFFF, 0, 0, 0⟩,
  ⟨rHnkRdData, 1, 8, 0, 0, 0, 0, 0⟩,
  ⟨rHnkRdStat, 1, 8, 0, 0, 0, 0, 0⟩,
  ⟨rHnkNandCfg, 1, 8, 0x1C00080078000000, 0xFFFFFFFFFF000000, 0, 0, 0⟩,
  ⟨rHnkNandStat, 2, 8, 0, 0, 0, 0, 0⟩,
  ⟨rHnkSpace, 1, 8, 0, 0, 0, 0, 0⟩,
  ⟨rHnkPin, 1, 8, 0, 0, 0, 0, 0x1FFFFFFFF⟩,
  ⟨rHnkErr, 1, 8, 0, 0, 0, 0xFFFFFFFFFFFFFFFF, 0⟩,
  ⟨rHnkErr2, 1, 8, 0, 0, 0, 0xFFFF, 0⟩]

/-- The window registers of chapter 12. -/
def layTime : List RegLay := [
  ⟨rTimNow, 1, 8, 0, 0, 0, 0, 0⟩,
  ⟨rTimStat, 1, 8, 0, 0, 0, 0, 0⟩,
  ⟨rTimTrim, 1, 8, 0, 0, 0, 0, 0⟩,
  ⟨rTimOffset, 1, 8, 0, 0, 0, 0, 0⟩,
  ⟨rTimDelay, 1, 8, 0, 0, 0, 0, 0⟩,
  ⟨rTimCtrl, 1, 8, 2, 2, 0, 0, 1⟩,
  ⟨rTimAsym, 1, 8, 0, 0xFFFF, 0, 0, 0⟩,
  ⟨rIhbId, 1, 8, 0x8000000000000000, 0xFF7F000000000000, 0, 0, 0⟩,
  ⟨rIhbCh, 8, 8, 0, 0, 0, 0xFFFFFFFF, 0⟩,
  ⟨rIhbCtrl, 1, 8, 0, 0, 0, 0, 1⟩,
  ⟨rIhbRoot, 1, 8, 0, 0, 0, 0, 0⟩,
  ⟨rIhbStat, 1, 8, 0, 0, 0, 0xFFFFFFFFFFFFFFFF, 0⟩]

/-- The window registers of chapter 13. -/
def layPorts : List RegLay := [
  ⟨rTptCtrl, 1, 8, 0xFFFF0000, 0xFFFF0001, 0, 0, 0⟩,
  ⟨rTptStat, 1, 8, 0, 0, 0, 0, 0⟩,
  ⟨rTptFseq, 1, 8, 0, 0, 0, 0, 0⟩,
  ⟨rTptErr, 1, 8, 0, 0, 0, 0xFFFFFFFFFFFFFFFF, 0⟩,
  ⟨rMptCfg, 1, 8, 0x10000061A80, 0x800001FFFFFFFFFF, 0, 0, 0⟩,
  ⟨rMptRate, 1, 8, 0x4000000100, 0xFFF00000FFF, 0, 0, 0⟩,
  ⟨rMptLo, 1, 8, 0, 0xFFFFFFFFFFFFF000, 0, 0, 0⟩,
  ⟨rMptHi, 1, 8, 0, 0xFFFFFFFFFFFFF000, 0, 0, 0⟩,
  ⟨rMptAccCtrl, 1, 8, 0, 0xFFFFFFFFFFFFFFFA, 0, 0, 1⟩,
  ⟨rMptAccData, 1, 8, 0, 0xFFFFFFFFFFFFFFFF, 0, 0, 0⟩,
  ⟨rMptAccStat, 1, 8, 0, 0, 0, 0, 0⟩,
  ⟨rMptStat, 1, 8, 0, 0, 0, 0xFFFFFFFFFFFFFFFF, 0⟩,
  ⟨rMptStat2, 1, 8, 0, 0, 0, 0xFFFF000000000000, 0⟩,
  ⟨rTwpStat, 1, 8, 0, 0, 0, 0xFFFFFFFFFFFF0000, 0⟩,
  ⟨rHptStat, 1, 8, 0, 0, 0, 0xFFFFFFFF00000000, 0⟩,
  ⟨rXspStat, 1, 8, 0, 0, 0, 0xFFFFFFFF00000000, 0⟩,
  ⟨rPinStat, 1, 8, 0, 0, 0, 0xFFFF000000000000, 0⟩]

/-- The window registers of chapter 14. -/
def layMap : List RegLay := [
  ⟨rIdPart, 1, 8, 0, 0, 0, 0, 0⟩,
  ⟨rIdDevidLo, 1, 8, 0, 0, 0, 0, 0⟩,
  ⟨rIdDevidHi, 1, 8, 0, 0, 0, 0, 0⟩,
  ⟨rCapGrid, 1, 8, 0, 0, 0, 0, 0⟩,
  ⟨rCapSpare, 1, 8, 0, 0, 0, 0, 0⟩,
  ⟨rCapRegion, 1, 8, 0, 0, 0, 0, 0⟩,
  ⟨rCapPorts, 1, 8, 0, 0, 0, 0, 0⟩,
  ⟨rCapMem, 1, 8, 0, 0, 0, 0, 0⟩,
  ⟨rIdMmap, 1, 8, 0, 0, 0, 0, 0⟩,
  ⟨rIdMmapGen, 1, 8, 0, 0, 0, 0, 0⟩,
  ⟨rIdBoot, 1, 8, 0, 0, 0, 0, 2⟩,
  ⟨rRgtChal, 1, 8, 0, 0, 0, 0, 1⟩,
  ⟨rRgtNonceLo, 1, 8, 0, 0, 0, 0, 0⟩,
  ⟨rRgtNonceHi, 1, 8, 0, 0, 0, 0, 0⟩,
  ⟨rRgtRespLo, 1, 8, 0, 0, 0, 0, 0xFFFFFFFFFFFFFFFF⟩,
  ⟨rRgtRespHi, 1, 8, 0, 0, 0, 0, 0xFFFFFFFFFFFFFFFF⟩,
  ⟨rRgtUnlock, 1, 8, 0, 0xC, 0, 0xFFFF000000000000, 0⟩,
  ⟨rRgtPolicy, 1, 8, 3, 3, 0, 0, 0⟩,
  ⟨rRgtTen, 256, 8, 0, 0xFFFFFFFFFFFFFFFF, 0, 0, 0⟩,
  ⟨rHltSum, 1, 8, 0, 0, 0, 0, 0⟩,
  ⟨rHltGen, 1, 8, 0, 0, 0, 0, 0⟩,
  ⟨rHltEntry, 1, 8, 0, 0, 0, 0, 0⟩,
  ⟨rHltClu, 256, 8, 0, 0, 0, 0, 0⟩,
  ⟨rAgaSetHi, 1, 8, 0, 0xFFFFFFFFFFFFFFFF, 0, 0, 0⟩,
  ⟨rAgaSetLo, 1, 8, 0, 0xFFFFFFFFFFFFFFFF, 0, 0, 0⟩,
  ⟨rAgaWdata, 1, 8, 0, 0xFFFFFFFFFFFFFFFF, 0, 0, 0⟩,
  ⟨rAgaLmd, 1, 8, 0, 0xFFFFFFFFFFFFFFFF, 0, 0, 0⟩,
  ⟨rAgaDl, 1, 8, 0x9C40, 0xFFFFFFFFFFFF, 0, 0, 0⟩,
  ⟨rAgaCmd, 1, 8, 0, 0, 0, 0, 0x1FFFFF7F⟩,
  ⟨rAgaRdata, 1, 8, 0, 0, 0, 0, 0⟩,
  ⟨rAgaStat, 1, 8, 0, 0, 0, 0, 0⟩,
  ⟨rAgaRefused, 1, 8, 0, 0, 0, 0xFFFF, 0⟩]

/-- The registers of agent space. -/
def layAgent : List RegLay := [
  ⟨aAgId, 1, 1, 0, 0, 0, 0, 0⟩,
  ⟨aAgStatus, 1, 1, 0, 0, 0, 0, 0⟩,
  ⟨aAgLast, 1, 1, 0, 0, 0, 0, 0⟩,
  ⟨aAgCwin, 1, 1, 0, 0x80000F80, 0, 0, 0⟩,
  ⟨aAgLmCtrl, 1, 1, 0, 1, 0, 0, 0⟩,
  ⟨aAgEvtMap, 1, 1, 0, 0xFFFFFFFF, 0, 0, 0⟩,
  ⟨aCmpCtrl, 8, 2, 0, 0x7FF1, 0, 0, 0⟩,
  ⟨aCmpVal, 8, 2, 0, 0xFFFFFFFFFFFFFFFF, 0, 0, 0⟩,
  ⟨aVtStat, 1, 1, 0, 0, 0, 0xFFFF000000000000, 0⟩,
  ⟨aVtRx, 1, 1, 0, 0, 0, 0, 0xFFFFFFFFFFFFFFFF⟩,
  ⟨aFlyXtCtrl, 8, 1, 0, 0x1F, 0, 0, 0⟩,
  ⟨aFlyXtFire, 1, 1, 0, 0, 0, 0, 0xFF⟩,
  ⟨aBtCtrl, 1, 1, 0, 0xF703, 0, 0, 0⟩,
  ⟨aBtStat, 1, 1, 0, 0, 0, 0xFFFF000000000000, 0⟩,
  ⟨aTsCur, 1, 1, 0, 0, 0, 0, 0⟩,
  ⟨aTsMatch, 2, 5, 0, 0xFCFFFFFFFFFFFFFF, 0, 0, 0⟩,
  ⟨aTsCfg, 2, 5, 0, 0xFFFFFFFFFFFFFFF8, 0, 0, 0⟩,
  ⟨aTsVh, 2, 5, 0, 0xFFFFFFFFFFFFFFFF, 0, 0, 0⟩,
  ⟨aTsSeed, 2, 5, 0, 0xFFFFFFFFFFFFFFFF, 0, 0, 0⟩,
  ⟨aTsCov, 2, 5, 0, 0, 0, 0xFFFFFFFFFFFF, 0⟩,
  ⟨aAoc, 8, 1, 0, 0, 0, 0, 0⟩,
  ⟨aPc, 8, 1, 0, 0xFFFFFFFFFFFF, 0, 0, 0⟩,
  ⟨aPcCfg, 8, 1, 0, 0xDF, 0, 0, 0⟩,
  ⟨aCntBctrl, 1, 1, 0, 0x1F, 0, 0, 0⟩,
  ⟨aCntBstat, 1, 1, 0, 0, 0, 0xFFFF000000000000, 0⟩]

/-- Every register of the host window. -/
def layWindow : List RegLay :=
  laySpine ++ layPart ++ layTrace ++ layCard ++ layCounters ++ layDump ++ layWhorl ++ layHank ++ layTime ++ layPorts ++ layMap

/-- Whether an offset is one of a layout's. -/
def RegLay.has (l : RegLay) (o : Nat) : Bool :=
  decide (l.off ≤ o) && decide ((o - l.off) % l.stride = 0) && decide ((o - l.off) / l.stride < l.n)

/-- The layout of the register at a window offset. -/
def layAt (o : Nat) : Option RegLay := layWindow.find? fun l => l.has o

/-- The layout of the register at an agent-space index. -/
def agLayAt (i : Nat) : Option RegLay := layAgent.find? fun l => l.has i

/-- The value a register keeps after a write (R12, R379): each RW field takes the value written, each W1C bit written as 1
clears, every other bit keeps. -/
def RegLay.write (l : RegLay) (old v : Word) : Word :=
  ((old &&& ~~~ word l.rw) ||| (v &&& word l.rw)) &&& ~~~ (v &&& word l.w1c)

/-- The value a register keeps after a read (R12): each RC field is cleared. -/
def RegLay.read (l : RegLay) (old : Word) : Word := old &&& ~~~ word l.rc

/-! ### The stored copies -/

/-- The number of a requester's copies (R381): ROOT, each tenant, the two-wire port, each Whorl. -/
def whoCode : Who → Nat
  | .root => 0
  | .twp => 1
  | .whorl n => 2 + n
  | .tenant k => 10 + k

/-- The key of a requester's own copy of a register of Table 14.2. -/
def keyWho (who : Who) (o : Nat) : Nat := 0x1000000 * (whoCode who + 1) + o

/-- The key of the copy of a selected register that belongs to object n (a partition, a cluster, a comparator, a crossing). -/
def keyObj (n o : Nat) : Nat := 0x200000000 + 0x10000 * n + o

/-- The reset value of the stored fields of the register at a window offset. -/
def regReset (o : Nat) : Word := word ((layAt o).elim 0 RegLay.reset)

/-- The stored value of a register under a key; o is its offset. Keys of one register reset to one value (R14). -/
def regGet (s : State) (key o : Nat) : Word := tget 0 s.regs key ^^^ regReset o

/-- The stored value of a register under a key, replaced. -/
def regPut (s : State) (key o : Nat) (v : Word) : State := { s with regs := tput 0 s.regs key (v ^^^ regReset o) }

/-- The stored value of a register that has one copy. -/
def reg (s : State) (o : Nat) : Word := regGet s o o

/-- A register that has one copy, replaced. -/
def setReg (s : State) (o : Nat) (v : Word) : State := regPut s o o v

/-- Field [hi:lo] of a register that has one copy. -/
def regF (s : State) (o hi lo : Nat) : Nat := bits (reg s o) hi lo

/-- Field [hi:lo] of a register that has one copy, replaced. -/
def setRegF (s : State) (o hi lo x : Nat) : State := setReg s o (setBits (reg s o) hi lo x)

/-- A saturating count in field [hi:lo] of a register raised by n. -/
def countF (s : State) (o hi lo n : Nat) : State := setRegF s o hi lo (satAdd (hi + 1 - lo) (regF s o hi lo) n)

/-- The same of a selected register's copy of object n. -/
def countObj (s : State) (n o hi lo k : Nat) : State :=
  let v := regGet s (keyObj n o) o
  regPut s (keyObj n o) o (setBits v hi lo (satAdd (hi + 1 - lo) (bits v hi lo) k))

/-! ### Agent registers -/

/-- The key of an agent register at a site; bank is 0, or 1 + the issuer for AG_LAST, AG_CWIN and AG_LM_CTRL (R67). -/
def agKey (site bank i : Nat) : Nat := 0x1000 * site + 0x100 * bank + i

/-- The key of a cluster's FLY_XT_CTRLn (R67). -/
def flyKey (cluster i : Nat) : Nat := 0x10000000 + 0x100 * cluster + i

/-- A stored agent register: every one resets to 0 (Tables 3.3, 5.8, 6.1, 7.2). -/
def ag (s : State) (site i : Nat) : Word := tget 0 s.areg (agKey site 0 i)

/-- A stored agent register replaced. -/
def setAg (s : State) (site i : Nat) (v : Word) : State := { s with areg := tput 0 s.areg (agKey site 0 i) v }

/-- An issuer's bank of a banked agent register. -/
def agBank (s : State) (site issuer i : Nat) : Word := tget 0 s.areg (agKey site (issuer + 1) i)

/-- An issuer's bank of a banked agent register, replaced. -/
def setAgBank (s : State) (site issuer i : Nat) (v : Word) : State :=
  { s with areg := tput 0 s.areg (agKey site (issuer + 1) i) v }

/-- A cluster's FLY_XT_CTRLn. -/
def flyReg (s : State) (cluster i : Nat) : Word := tget 0 s.areg (flyKey cluster i)

/-- A cluster's FLY_XT_CTRLn replaced. -/
def setFlyReg (s : State) (cluster i : Nat) (v : Word) : State :=
  { s with areg := tput 0 s.areg (flyKey cluster i) v }

end Sys2Proof.Machine
end

