-- ==== Sys2Proof/Machine/Topology.lean ====
section
/-! DEFINITION. Coordinates (R7, R8), spare sites (R17, R91, R407), the Flyer that serves a cluster (R18), partitions of
sites (R92) and agent sets (R252). -/

namespace Sys2Proof.Machine

/-! ### Sites and cores -/

/-- The index of a physical site (Table 9.6, PHYS). -/
def siteIdx (prow pcol : Nat) : Nat := prow * 128 + pcol

/-- A site's physical row. -/
def prow (i : Nat) : Nat := i / 128
/-- A site's physical column. -/
def pcol (i : Nat) : Nat := i % 128

/-- Whether the configuration holds a site at an index. -/
def wired (s : State) (i : Nat) : Bool :=
  decide (prow i < s.integ.rows) &&
    (decide (pcol i < s.integ.cols) || (pcol i == 64 && bit s.integ.spareRows (prow i)))

/-- Every site of the configuration, in ascending index. -/
def allSites (s : State) : List Nat :=
  (List.range s.integ.rows).flatMap fun r =>
    ((List.range s.integ.cols).map fun c => siteIdx r c) ++
      (if bit s.integ.spareRows r then [siteIdx r 64] else [])

/-- The logical column that a row's spare serves (R407). -/
def spareServes (s : State) (row : Nat) : Option Nat :=
  let v := tget 0x7F s.boot.repair row
  if v < s.integ.cols then some v else none

/-- The logical core that a site serves (R17, R91): none at an unused spare and at a replaced site. -/
def coreOf (s : State) (i : Nat) : Option Nat :=
  if pcol i = 64 then (spareServes s (prow i)).map fun c => 64 * prow i + c
  else if spareServes s (prow i) = some (pcol i) then none
  else some (64 * prow i + pcol i)

/-- Whether the grid holds a logical core. -/
def coreIn (s : State) (c : Nat) : Bool := decide (c / 64 < s.integ.rows) && decide (c % 64 < s.integ.cols)

/-- The site assigned to a logical core (R253). -/
def siteOf (s : State) (c : Nat) : Nat :=
  if spareServes s (c / 64) = some (c % 64) then siteIdx (c / 64) 64 else siteIdx (c / 64) (c % 64)

/-- The cluster of a logical core (R7). -/
def clusterOf (c : Nat) : Nat := 16 * (c / 64 / 4) + c % 64 / 4

/-- The cluster whose Flyer a site is wired to (R7, R91). A row's spare is wired to band col 15 whatever the grid's columns: in a grid
with fewer than 64 the spec names no other cluster for it, and the model keeps band col 15, a cluster such a grid does not hold
(DESIGN CHOICE, log entry 60). -/
def wiredCluster (i : Nat) : Nat := 16 * (prow i / 4) + (if pcol i = 64 then 15 else pcol i / 4)

/-- The home cluster of a site (R91): that of the core it serves, else the one it is wired to. -/
def homeCluster (s : State) (i : Nat) : Nat := (coreOf s i).elim (wiredCluster i) clusterOf

/-- A guest: a spare in service whose home is another cluster (R91). -/
def isGuest (s : State) (i : Nat) : Bool := decide (homeCluster s i ≠ wiredCluster i)

/-- Whether the grid holds a cluster number. -/
def clusterIn (s : State) (k : Nat) : Bool :=
  decide (k < 256) && decide (k / 16 * 4 < s.integ.rows) && decide (k % 16 * 4 < s.integ.cols)

/-- The clusters of the grid, in ascending number. -/
def allClusters (s : State) : List Nat := (List.range 256).filter (clusterIn s)

/-- The logical cores of a cluster, in ascending index. -/
def coresOfCluster (k : Nat) : List Nat :=
  (List.range 16).map fun n => 64 * (4 * (k / 16) + n / 4) + 4 * (k % 16) + n % 4

/-- The sites that serve a cluster's cores, guests included. -/
def sitesOfHome (s : State) (k : Nat) : List Nat := (coresOfCluster k).map (siteOf s)

/-- The clock region of a site (R8). -/
def regionOf (i : Nat) : Nat := (if prow i < 32 then 0 else 2) + (if pcol i < 32 then 0 else 1)

/-- The clock region of a cluster. -/
def clusterRegion (k : Nat) : Nat := regionOf (siteIdx (4 * (k / 16)) (4 * (k % 16)))

/-- A site's core type. -/
def typeOf (s : State) (i : Nat) : CoreType :=
  s.integ.types.getD (tget 0 s.integ.siteType i) ⟨0, 1, 0, 1, none, 0, [], 0⟩

/-- The engine slots present at a site (R16, AG_ID.SLOTS). -/
def slotsOf (s : State) (i : Nat) : BitVec 4 := (typeOf s i).slots &&& s.integ.slots

/-- The Flyer that serves a cluster (R18): its own, else its east neighbour, which must be alive, unless the recovery engine
had stopped (R428). -/
def servedBy (s : State) (k : Nat) : Option Nat :=
  if (getF s k).failed = false then some k
  else if k % 16 < 15 && !(getF s k).alone && clusterIn s (k + 1) && !(getF s (k + 1)).failed then some (k + 1)
  else none

/-- The Flyer that serves a site, through the cluster the site is wired to. A guest has no alternate port. -/
def flyerOf (s : State) (i : Nat) : Option Nat :=
  if pcol i = 64 && (getF s (wiredCluster i)).failed then none else servedBy s (wiredCluster i)

/-- Whether a site is reached through the alternate attach (AG_STATUS.ALT). -/
def isAlt (s : State) (i : Nat) : Bool := decide (flyerOf s i = some (wiredCluster i + 1))

/-- The clusters that a Flyer serves: its own, and a neighbour's taken over. -/
def clustersOf (s : State) (f : Nat) : List Nat :=
  (if servedBy s f = some f then [f] else []) ++
    (if f % 16 ≠ 0 ∧ servedBy s (f - 1) = some f then [f - 1] else [])

/-- The sites that a Flyer serves in ascending core index (R139); an unused spare serves no core and comes last. -/
def sitesOf (s : State) (f : Nat) : List Nat :=
  sortBy (fun i => (coreOf s i).getD (4096 + i)) ((allSites s).filter fun i => flyerOf s i = some f)

/-! ### Partitions -/

/-- The PRT_MAP byte of a cluster. -/
def mapByte (s : State) (k : Nat) : Nat := bits (reg s (rPrtMap + 8 * (k / 8))) (8 * (k % 8) + 7) (8 * (k % 8))

/-- The PRT_MAP byte of a cluster, replaced. -/
def setMapByte (s : State) (k b : Nat) : State :=
  setRegF s (rPrtMap + 8 * (k / 8)) (8 * (k % 8) + 7) (8 * (k % 8)) b

/-- The partition that a PRT_MAP byte names. -/
def bytePart (b : Nat) : Option Nat := if b / 128 = 1 then some (b % 64) else none

/-- The partition of a cluster (R92). -/
def partOfCluster (s : State) (k : Nat) : Option Nat := bytePart (mapByte s k)

/-- The partition of a site (R92, Table 3.9); an unused spare is in none (R17). -/
def partOf (s : State) (i : Nat) : Option Nat := (coreOf s i).bind fun c => partOfCluster s (clusterOf c)

/-- The clusters of a partition. -/
def clustersOfPart (s : State) (p : Nat) : List Nat := (allClusters s).filter fun k => partOfCluster s k = some p

/-- The sites of a partition. -/
def sitesOfPart (s : State) (p : Nat) : List Nat := (clustersOfPart s p).flatMap (sitesOfHome s)

/-- The regions that hold a site of a partition (R92). -/
def regionsOfPart (s : State) (p : Nat) : List Nat :=
  (List.range 4).filter fun r => (sitesOfPart s p).any fun i => regionOf i = r

/-- The regions of a partition that have a supply (R120). -/
def liveRegions (s : State) (p : Nat) : List Nat := (regionsOfPart s p).filter fun r => !(getR s r).powerOff

/-- The sites of a partition in a region. -/
def sitesIn (s : State) (p r : Nat) : List Nat := (sitesOfPart s p).filter fun i => regionOf i = r

/-- The stop-tree latency of a region (ST_STAT.LAT). -/
def latOf (s : State) (r : Nat) : Nat := s.integ.lat.getD r 16

/-! ### Rights (R15, R386, R412) -/

/-- The class a requester's rights are judged by (R262, R412): a Whorl's program has the rights it was loaded with. -/
def rightsOf (s : State) : Who → Who
  | .whorl n => (getW s n).rights
  | x => x

/-- The unlock level of the two-wire port (RGT_UNLOCK.LEVEL). -/
def unlockLevel (s : State) : Nat := regF s rRgtUnlock 1 0

/-- Whether a class reaches what needs ROOT, the two-wire port from level L on (R15). -/
def isRoot (s : State) (who : Who) (L : Nat) : Bool :=
  match rightsOf s who with
  | .root => true
  | .twp => decide (L ≤ unlockLevel s)
  | _ => false

/-- Whether tenant k has rights to partition p (RGT_TENk). -/
def tenHas (s : State) (k p : Nat) : Bool := bit (reg s (rRgtTen + 8 * k)) p

/-- Whether a class may act on a partition, the two-wire port from level L on. -/
def mayPart (s : State) (who : Who) (L p : Nat) : Bool :=
  match rightsOf s who with
  | .tenant k => tenHas s k p
  | x => isRoot s x L

/-- Whether a class may name a site (R15, R17): a tenant only one of its partitions'. -/
def maySite (s : State) (who : Who) (L i : Nat) : Bool :=
  match rightsOf s who with
  | .tenant k => (partOf s i).elim false (tenHas s k)
  | x => isRoot s x L

/-! ### Agent sets (Table 9.6) -/

/-- KIND of a set descriptor. -/
def setKind (d : BitVec 128) : Nat := d.toNat / 2 ^ 124 % 16

/-- ENG of a set descriptor; 0 acts as 0xF. -/
def setEng (d : BitVec 128) : Nat :=
  let e := d.toNat / 2 ^ 120 % 16
  if e = 0 then 15 else e

/-- The low half of a set descriptor. -/
def setLo (d : BitVec 128) : Word := d.setWidth 64

/-- The N 16-bit entries of a LIST. -/
def listEntries (s : State) (v : Word) : List Nat :=
  (List.range (bits v 44 32)).map fun i => readLe s.hubMem (bits v 22 3 * 8 + 2 * i) 2

/-- Whether a descriptor has a KIND the hub knows and no bit outside its KIND's fields (R252, R253). -/
def setForm (s : State) (d : BitVec 128) : Bool :=
  let v := setLo d
  decide (d.toNat / 2 ^ 64 % 2 ^ 56 = 0) &&
  match setKind d with
  | 0 => decide (v = 0)
  | 1 => decide (v.toNat < 64)
  | 2 => decide (v.toNat < 2 ^ 32)
  | 3 =>
    let n := bits v 44 32
    decide (v.toNat < 2 ^ 45) && decide (bits v 31 23 = 0) && decide (bits v 2 0 = 0) && decide (1 ≤ n) &&
      decide (n ≤ 4096) && decide (bits v 22 3 * 8 + 2 * n ≤ 0x800000) &&
      (listEntries s v).all fun e => decide (e < 4096)
  | 4 => decide (v.toNat < 4096)
  | 5 => decide (v = 0)
  | 6 => decide (v.toNat < 8192)
  | 7 => decide (v.toNat < 2 ^ 32) && decide (bits v 15 8 = 0)
  | _ => false

/-- The cores of a cluster that a 16-bit mask picks; 0 picks all. -/
def maskCores (k m : Nat) : List Nat :=
  (coresOfCluster k).filter fun c => m = 0 || m.testBit (4 * (c / 64 % 4) + c % 4)

/-- The sites that a descriptor names, without repeats, logical cores through the mill map (R253). -/
def setSites (s : State) (d : BitVec 128) : List Nat :=
  let v := setLo d
  let logical (l : List Nat) : List Nat := ((l.filter (coreIn s)).map (siteOf s)).eraseDups
  match setKind d with
  | 1 => sitesOfPart s (v.toNat % 64)
  | 2 => logical ((allClusters s).flatMap fun k =>
      if bits v 15 12 ≤ k / 16 ∧ k / 16 ≤ bits v 11 8 ∧ bits v 7 4 ≤ k % 16 ∧ k % 16 ≤ bits v 3 0
      then maskCores k (bits v 31 16) else [])
  | 3 => logical (listEntries s v)
  | 4 => logical [v.toNat % 4096]
  | 5 => logical ((allClusters s).flatMap coresOfCluster)
  | 6 => if wired s (v.toNat % 8192) then [v.toNat % 8192] else []
  | 7 => logical (maskCores (bits v 7 0) (bits v 31 16))
  | _ => []

/-- The logical cores that a descriptor names by number, whether or not the grid holds them (R252). -/
def setCores (s : State) (d : BitVec 128) : List Nat :=
  let v := setLo d
  match setKind d with
  | 2 => ((List.range 256).filter fun k => decide (bits v 15 12 ≤ k / 16) && decide (k / 16 ≤ bits v 11 8) &&
      decide (bits v 7 4 ≤ k % 16) && decide (k % 16 ≤ bits v 3 0)).flatMap fun k => maskCores k (bits v 31 16)
  | 3 => listEntries s v
  | 4 => [v.toNat % 4096]
  | 7 => maskCores (bits v 7 0) (bits v 31 16)
  | _ => []

/-- Whether a requester of limited rights names only cores that its rights could cover: a core outside the grid is in no partition. -/
def coresInRights (s : State) (who : Who) (d : BitVec 128) : Bool :=
  match rightsOf s who with
  | .tenant _ => (setCores s d).all (coreIn s)
  | _ => true

/-- Whether a descriptor lies within a class's rights (R15, R252): PHYS needs ROOT, and every site named must be in rights. -/
def setRights (s : State) (who : Who) (L : Nat) (d : BitVec 128) : Bool :=
  if setKind d = 6 then isRoot s who 3
  else if setKind d = 1 then
    (match rightsOf s who with
     | .tenant k => tenHas s k (setLo d).toNat
     | x => isRoot s x L)
  else coresInRights s who d && (setSites s d).all (maySite s who L)

end Sys2Proof.Machine
end

