-- ==== Sys2Proof/Machine/Access.lean ====
section
/-! DEFINITION. Who may read and write which register of the host window (R15, R61, R123, R164, R191, R205, R235, R265, R266, R317,
R339, R340, R375 to R377, R383, R385, R388, R395, R415). -/

namespace Sys2Proof.Machine

/-- The unlock level that the two-wire port needs for a register (Table 15.7 and the rules of each page). -/
def twpLevel (o : Nat) (wr : Bool) : Nat :=
  match o / 0x1000 with
  | 0x0 => 0
  | 0x1 =>
    if wr then (if o = rRgtChal ∨ o = rRgtRespLo ∨ o = rRgtRespHi ∨ o = rRgtUnlock then 0 else 3)
    else if o ≤ 0x1037 then 0 else 3
  | 0x2 => if o < rPrtSel ∨ o = rPrtMapErr ∨ (wr ∧ (o = rPrtLead ∨ o = rPrtCutTmo)) then 3 else 2
  | 0x3 => if wr then 3 else 1
  | 0x4 => if wr then 3 else 2
  | 0x6 => if o = rTrcBufRaddr ∨ (o = rTrcBufRdata ∧ !wr) then 2 else 3
  | 0x8 => 2
  | 0x9 => if o = rCntAoSel ∨ o = rCntAoData then 2 else 3
  | 0xA => if o = rDmpReq ∧ wr then 2 else 3
  | 0xB => if o < 0xB100 ∨ (0xB200 ≤ o ∧ wr) then 3 else 2
  | 0xE => if wr then 3 else 1
  | _ => 3

/-- Whether a tenant may reach a register, given the value of a write. -/
def tenMay (s : State) (who : Who) (k o : Nat) (wr : Bool) (v : Word) : Bool :=
  let sel := regGet s (keyWho who rPrtSel) rPrtSel
  let part := bits sel 5 0
  match o / 0x1000 with
  | 0x0 => true
  | 0x1 => !wr && o == rRgtTen + 8 * k
  | 0x2 =>
    if o = rPrtSel then true
    else if o = rPrtState ∨ o = rPrtStep ∨ o = rPrtHaltStep ∨ o = rPrtHaltTime then !wr && tenHas s k part
    else if o = rPrtWdg then tenHas s k part
    else if o = rStStat then !wr && tenHas s k part && (regionsOfPart s part).contains (bits sel 9 8)
    else if o = rPrtLead ∨ o = rPrtCutTmo then !wr
    else if o = rPrtCmd then wr && tenHas s k (bits v 13 8)
    else false
  | 0x3 => !wr && (o == rTimNow || o == rTimStat)
  | 0x4 =>
    let n := (o - 0x4000) / 0x100
    let own := reg s (rWhlOwner + 0x100 * n)
    let other := match who with
      | .whorl m => m != n
      | _ => false
    decide (n < 8) && !other && bit own 8 && bits own 7 0 == k && o % 0x100 != 0x28 && o % 0x100 != 0x50
  | 0x5 => o == rEvtCutPend || (decide (rEvtXtPend ≤ o) && decide (o < rEvtIrqStat))
  | 0x6 => o == rTrcBufRaddr || (!wr && (o == rTrcWinStat || o == rTrcBufStat || o == rTrcBufRdata))
  | 0x9 => o == rCntAoSel || (!wr && o == rCntAoData &&
      (partOfCluster s (bits (regGet s (keyWho who rCntAoSel) rCntAoSel) 7 0)).any (tenHas s k))
  | 0xA => if wr then o == rDmpReq && tenHas s k (bits v 13 8) else o == rHngHung
  | 0xB =>
    if 0xB100 ≤ o ∧ o < 0xB200 then true
    else !wr && (o == rHltSum || o == rHltGen ||
      (decide (rHltClu ≤ o) && (partOfCluster s ((o - rHltClu) / 8)).any (tenHas s k)))
  | _ => false

/-- Whether a requester may read or write the register at a window offset. The challenge and response registers are for the two-wire
port alone (R385), and a refusal by what a write's value asks (ID_BOOT.RELEASE) is the register's own. -/
def mayReg (s : State) (who : Who) (o : Nat) (wr : Bool) (v : Word) : Bool :=
  match rightsOf s who with
  | .twp => decide (twpLevel o wr ≤ unlockLevel s)
  | .tenant k => tenMay s who k o wr v
  | _ => !(wr && decide (0x1000 ≤ o) && decide (o < 0x1030))

/-- Table 13.7: whether a requester may read the mailbox unit at a window offset. Every Whorl may, whatever its rights. -/
def mayReadMail (s : State) (who : Who) (o : Nat) : Bool :=
  match who with
  | .root => o < 0x11000 || 0x12000 ≤ o
  | .whorl _ => o < 0x11000 || (decide (0x12000 ≤ o) && decide (o < 0x13000)) || 0x14000 ≤ o
  | .twp => (decide (0x11000 ≤ o) && decide (o < 0x12000) && decide (1 ≤ unlockLevel s)) ||
      (decide (0x14000 ≤ o) && decide (2 ≤ unlockLevel s)) || decide (3 ≤ unlockLevel s)
  | .tenant _ => false

/-- Table 13.7: whether a requester may write the mailbox unit at a window offset. -/
def mayWriteMail (s : State) (who : Who) (o : Nat) : Bool :=
  match who with
  | .root => decide (0x11000 ≤ o)
  | .whorl _ => (decide (0x11000 ≤ o) && decide (o < 0x12000)) || decide (0x13000 ≤ o)
  | .twp => (decide (o < 0x11000) && decide (1 ≤ unlockLevel s)) || decide (3 ≤ unlockLevel s)
  | .tenant _ => false

/-! ### Hub memory (R414) -/

/-- Whether a stretch of hub memory lies in the mill map. -/
def inMap (s : State) (off n : Nat) : Bool :=
  let m := reg s rIdMmap
  decide (8 * bits m 22 3 ≤ off) && decide (off + n ≤ 8 * bits m 22 3 + 8 * bits m 63 44)

/-- Whether a stretch of hub memory lies in the window that WHL_HMEM of Whorl w sets. -/
def inHmem (s : State) (w off n : Nat) : Bool :=
  let m := reg s (rWhlHmem + 0x100 * w)
  decide (4096 * bits m 42 32 ≤ off) && decide (off + n ≤ 4096 * (bits m 42 32 + bits m 11 0))

/-- Whether a requester may reach a stretch of hub memory. -/
def mayMem (s : State) (who : Who) (off n : Nat) (wr : Bool) : Bool :=
  match rightsOf s who with
  | .root => true
  | .twp => decide (3 ≤ unlockLevel s) || (!wr && inMap s off n)
  | .tenant k =>
    (!wr && inMap s off n) ||
      (match who with
       | .whorl w => inHmem s w off n
       | _ => (List.range 8).any fun w =>
           let own := reg s (rWhlOwner + 0x100 * w)
           bit own 8 && bits own 7 0 == k && inHmem s w off n)
  | .whorl _ => false

end Sys2Proof.Machine
end

