-- ==== Sys2Proof/Machine/Float.lean ====
section
/-! DEFINITION. The floating-point arithmetic of the Card engines and drift comparators (R178, R180, R186): exact dyadic numbers,
rounding to nearest with ties to even, binary32 and binary64 operations. -/

namespace Sys2Proof.Machine

/-- floor log2 of a positive number, by structural recursion on the bits looked at; 0 for 0. -/
def log2Fuel : Nat → Nat → Nat
  | 0, _ => 0
  | f + 1, n => if n < 2 then 0 else log2Fuel f (n / 2) + 1

/-- floor log2 of a positive number below 2 ^ 2048. -/
def ilog2 (n : Nat) : Nat := log2Fuel 2048 n

/-- n / 2 ^ k rounded to nearest, ties to even; `sticky` says that the exact number lies a little above n. -/
def rne (n k : Nat) (sticky : Bool) : Nat :=
  if k = 0 then n
  else
    let q := n / 2 ^ k
    let r := n % 2 ^ k
    let half := 2 ^ (k - 1)
    if half < r ∨ (r = half ∧ (sticky ∨ q % 2 = 1)) then q + 1 else q

/-- A binary64 value as the comparators compute with it: no NaN payload and no sign of zero is kept. -/
inductive F where
  | nan
  | inf (neg : Bool)
  | fin (m : Int) (e : Int)
  deriving DecidableEq, Repr

/-- m × 2 ^ e rounded to p bits. -/
def roundTo (p : Nat) (m e : Int) (sticky : Bool := false) : F :=
  let n := m.natAbs
  let k := ilog2 n + 1 - p
  let q := rne n k sticky
  .fin (if m < 0 then -(q : Int) else q) (e + k)

/-- A binary32 code (IEEE 754). -/
def ofB32 (c : Nat) : F :=
  let ex : Nat := c / 2 ^ 23 % 256
  let fr : Nat := c % 2 ^ 23
  let neg := decide (c / 2 ^ 31 % 2 = 1)
  let sg (n : Nat) : Int := if neg then -(n : Int) else n
  if ex = 255 then (if fr = 0 then .inf neg else .nan)
  else if ex = 0 then .fin (sg fr) (-149)
  else .fin (sg (fr + 2 ^ 23)) ((ex : Int) - 150)

/-- The nearest binary32 code of a value, ties to even. A NaN's code is not stated (DESIGN CHOICE, log entry 3). -/
def toB32 : F → Nat
  | .nan => 0x7F800000 + (Config.nanFraction.toNat % (2 ^ 23 - 1) + 1)
  | .inf neg => b2n neg * 2 ^ 31 + 0x7F800000
  | .fin m e =>
    let n := m.natAbs
    let s := b2n (decide (m < 0)) * 2 ^ 31
    if n = 0 then 0
    else
      let top : Int := ilog2 n + e
      let lsb : Int := max (top - 23) (-149)
      let q := if lsb ≤ e then n * 2 ^ (e - lsb).toNat else rne n (lsb - e).toNat false
      let ex : Int := if lsb = -149 ∧ q < 2 ^ 23 then 0 else lsb + 150
      let code := if q < 2 ^ 23 then (q : Int) else (ex - 1) * 2 ^ 23 + q
      s + min 0x7F800000 code.toNat

/-- The sign and magnitude a value is compared by. -/
def F.lt : F → F → Bool
  | .nan, _ | _, .nan => false
  | .inf a, .inf b => a && !b
  | .inf a, _ => a
  | _, .inf b => !b
  | .fin m e, .fin n f =>
    let k := min e f
    decide (m * 2 ^ (e - k).toNat < n * 2 ^ (f - k).toNat)

/-- Sum in binary64. -/
def F.add : F → F → F
  | .nan, _ | _, .nan => .nan
  | .inf a, .inf b => if a = b then .inf a else .nan
  | .inf a, _ => .inf a
  | _, .inf b => .inf b
  | .fin m e, .fin n f =>
    let k := min e f
    roundTo 53 (m * 2 ^ (e - k).toNat + n * 2 ^ (f - k).toNat) k

/-- The value with its sign changed. -/
def F.neg : F → F
  | .nan => .nan
  | .inf a => .inf !a
  | .fin m e => .fin (-m) e

/-- The magnitude of a value. -/
def F.abs : F → F
  | .nan => .nan
  | .inf _ => .inf false
  | .fin m e => .fin m.natAbs e

/-- Whether a value is below 0. -/
def F.isNeg : F → Bool
  | .nan => false
  | .inf a => a
  | .fin m _ => decide (m < 0)

/-- Whether a value is 0. -/
def F.isZero : F → Bool
  | .fin m _ => decide (m = 0)
  | _ => false

/-- Product in binary64. -/
def F.mul : F → F → F
  | .nan, _ | _, .nan => .nan
  | .inf a, .inf b => .inf (a != b)
  | .inf a, .fin m _ => if m = 0 then .nan else .inf (a != decide (m < 0))
  | .fin m _, .inf b => if m = 0 then .nan else .inf (b != decide (m < 0))
  | .fin m e, .fin n f => roundTo 53 (m * n) (e + f)

/-- Quotient in binary64: exact to more bits than are kept, the rest a sticky bit. -/
def F.div : F → F → F
  | .nan, _ | _, .nan => .nan
  | .inf _, .inf _ => .nan
  | .inf a, .fin n _ => .inf (a != decide (n < 0))
  | .fin _ _, .inf _ => .fin 0 0
  | .fin m e, .fin n f =>
    if n = 0 then (if m = 0 then .nan else .inf (decide (m < 0)))
    else
      let k := ilog2 n.natAbs + 64
      let q := m.natAbs * 2 ^ k / n.natAbs
      let st := decide (m.natAbs * 2 ^ k % n.natAbs ≠ 0)
      roundTo 53 (if (m < 0) = (n < 0) then q else -(q : Int)) (e - f - k) st

/-- The integer square root, from the bit of weight 2 ^ i down. -/
def isqrt (n : Nat) : Nat → Nat → Nat
  | 0, r => r
  | i + 1, r => let t := r + 2 ^ i; isqrt n i (if t * t ≤ n then t else r)

/-- Square root in binary64 of a value that is not below 0. -/
def F.sqrt : F → F
  | .nan => .nan
  | .inf a => if a then .nan else .inf false
  | .fin m e =>
    if m < 0 then .nan
    else
      let k : Nat := if (e - 128) % 2 = 0 then 128 else 129
      let n := m.natAbs * 2 ^ k
      let r := isqrt n (ilog2 n / 2 + 1) 0
      roundTo 53 r ((e - k) / 2) (decide (r * r ≠ n))

end Sys2Proof.Machine
end

