-- ==== Sys2Proof/Machine/Crossing.lean ====
section
/-! DEFINITION. The crossings between clocked and clockless logic (R51 to R55, R57): take-flag crossings, pulse crossings, levels behind
synchronising stages, queues with Gray-coded pointers, and the time ripple. -/

namespace Sys2Proof.Machine

/-! ### Take-flag crossings (R51, R52) -/

/-- A crossing begins once DONE of the last has fallen: the next item stands in the holding register, and TAKE rises. -/
def tfBegin {α : Type} (x : TakeFlag α) : TakeFlag α :=
  if x.take || x.done || x.hold.isSome then x
  else match x.queue with
    | [] => x
    | a :: t => { x with hold := some a, take := true, queue := t }

/-- An item of a queue takes a crossing of its own behind those before it; the snapshot under way stays (R52). -/
def tfSend {α : Type} (x : TakeFlag α) (a : α) : TakeFlag α := tfBegin { x with queue := x.queue ++ [a] }

/-- One edge of a fabric receiver: TAKE passes three stages; seen high, the value is sampled whole and DONE rises, on which the
clockless sender lowers TAKE; seen low, DONE falls and the sender may change the holding register. -/
def tfEdge {α : Type} (x : TakeFlag α) : Option α × TakeFlag α :=
  let sync := (x.take :: x.sync).take 3
  let seen := sync.getD 2 false
  if seen && !x.done then (x.hold, { x with sync := sync, done := true, take := false })
  else if !seen && x.done then (none, tfBegin { x with sync := sync, done := false, hold := none })
  else (none, { x with sync := sync })

/-- The items that have not crossed yet, oldest first. -/
def tfItems {α : Type} (x : TakeFlag α) : List α := (if x.done then [] else x.hold.toList) ++ x.queue

/-! ### Levels (R55) -/

/-- One edge of the receiver of a level: a value that has stood through the three stages is delivered. A level that changes more than once
within them delivers its final value alone. -/
def levelEdge (v : Bool) (x : LevelSync) : LevelSync :=
  if v = x.out then { x with cnt := 0 }
  else if 2 ≤ x.cnt then ⟨v, 0⟩ else { x with cnt := x.cnt + 1 }

/-! ### Gray code and the time ripple (R53, R57) -/

/-- The Gray code of a number, in w bits. -/
def gray (w n : Nat) : BitVec w := BitVec.ofNat w n ^^^ (BitVec.ofNat w n >>> 1)

/-- The number that a Gray code stands for. -/
def ungray {w : Nat} (g : BitVec w) : Nat := ((List.range w).foldl (fun a i => a ^^^ (g >>> i)) 0).toNat

/-- The time ripple at a hub time: the Gray code of its low 24 bits. -/
def ripple (ht : Nat) : BitVec 24 := gray 24 (ht % 2 ^ 24)

/-- The low 24 bits of hub time as Flyer f has them: the ripple that reaches it late by its compensation, converted, and the
compensation of the mill map added (R53). -/
def flyerTime (s : State) (f : Nat) : Nat :=
  let c := tget 0 s.integ.tcomp f % 2 ^ 16
  (ungray (ripple (s.ht + 2 ^ 24 - c)) + c) % 2 ^ 24

/-- Whether a hub time whose low 24 bits are `now` has passed DL24 (R38): a difference of 2 ^ 23 ht or more ahead counts as passed. -/
def dlPassed (now dl : Nat) : Bool :=
  let d := (dl % 2 ^ 24 + 2 ^ 24 - now % 2 ^ 24) % 2 ^ 24
  decide (d = 0) || decide (2 ^ 23 ≤ d)

/-! ### Crossing indices -/

/-- Whether a number is a crossing's index; band col 15 has no alternate port (R86). -/
def crossingIn (i : Nat) : Bool :=
  (decide (i < 2048) && decide (i % 8 < 7)) || (decide (2048 ≤ i) && decide (i < 4096)) ||
    (decide (4096 ≤ i) && decide (i < 6144) && decide (i % 8 < 7) && decide ((i - 4096) / 8 % 16 < 15))

/-! ### Pulse crossings (R54) -/

/-- A pulse crossing. -/
def getPulse (s : State) (i : Nat) : Pulse := tget Pulse.fresh s.pulses i

/-- A pulse crossing replaced. -/
def setPulse (s : State) (i : Nat) (x : Pulse) : State := { s with pulses := tput Pulse.fresh s.pulses i x }

/-- Whether the receiver has not echoed the last toggle yet. -/
def pulseBusy (x : Pulse) : Bool := x.toggle != x.echo

/-- An event that arrives before the echo: OVR, and OVR_CNT gains 1; it is not delivered. -/
def overrun (s : State) (index : Nat) : State :=
  let k := keyObj index rSpnXingStat
  let s1 := countObj s index rSpnXingStat 63 48 1
  regPut s1 k rSpnXingStat (regGet s1 k rSpnXingStat ||| 1)

/-- An event offered to a pulse crossing at a time: whether it is delivered, and the state after it. -/
def pulseEvent (s : State) (index now : Nat) : Bool × State :=
  let x := getPulse s index
  if pulseBusy x then (false, overrun s index)
  else (true, setPulse s index { x with toggle := !x.toggle, at_ := now })

/-- The echo returns through the sender's three stages. -/
def pulseEcho (now : Nat) (x : Pulse) : Pulse := if pulseBusy x && decide (x.at_ + 3 ≤ now) then { x with echo := x.toggle } else x

/-- The echoes that have returned at an edge or hub time, of the crossings that a test picks. -/
def pulseEchoes (s : State) (now : Nat) (pick : Nat → Bool) : State :=
  { s with pulses := s.pulses.map fun e => if pick e.1 then (e.1, pulseEcho now e.2) else e }

/-- The cluster whose crossing an index below 2,048 or from 4,096 is. -/
def crossingCluster (i : Nat) : Nat := (if 4096 ≤ i then i - 4096 else i) / 8

/-- A trigger event offered to a cluster's pulse crossing at the present edge of its region. -/
def trigPulse (s : State) (index : Nat) : Bool × State :=
  pulseEvent s index (getR s (clusterRegion (crossingCluster index))).edge

/-- Whether a crossing lies at a cluster of a region. -/
def crossingOfRegion (r i : Nat) : Bool :=
  (decide (i < 2048) || decide (4096 ≤ i)) && decide (clusterRegion (crossingCluster i) = r)

/-! ### Queues (R57, Table 2.7) -/

/-- A queue's pointers. -/
def getXq (s : State) (i : Nat) : XQueue := tget XQueue.fresh s.xqueues i

/-- A queue's pointers replaced. -/
def setXq (s : State) (i : Nat) (x : XQueue) : State := { s with xqueues := tput XQueue.fresh s.xqueues i x }

/-- Items written: the write pointer moves on. -/
def xqWrote (x : XQueue) (n : Nat) : XQueue := { x with wr := gray 16 (ungray x.wr + n) }

/-- Items read: the read pointer moves on. -/
def xqRead (x : XQueue) (n : Nat) : XQueue := { x with rd := gray 16 (ungray x.rd + n) }

/-- Items written and not read. -/
def xqItems (x : XQueue) : Nat := (ungray x.wr + 2 ^ 16 - ungray x.rd) % 2 ^ 16

/-- The sequence of Table 2.7: RESYNC rises; the other side computes the items in flight from its pointers, sets them to 0 and raises
RESYNC_DONE; RESYNC falls, and then RESYNC_DONE. -/
def xqResync (x : XQueue) : Nat × XQueue :=
  let a := { x with resync := true }
  let n := xqItems a
  let b := { a with wr := 0, rd := 0, done := true }
  let c := { b with resync := false }
  (n, { c with done := false })

end Sys2Proof.Machine
end

