-- ==== Sys2Proof/Machine/Events.lean ====
section
/-! DEFINITION. The event system: lines and their readers (R244 to R246, R266), hub event records (R148, Table 5.12), and the
completion of tickets (R240, R242). -/

namespace Sys2Proof.Machine

/-! ### Event lines -/

/-- The pending copy that a requester reaches (R245): each Whorl its own, every other requester the host's. -/
def readerOf : Who → Nat
  | .whorl n => n
  | _ => 8

/-- HUB_IRQ follows the host's pending and enabled lines (R266, R374); 0 while the hub is in reset. -/
def irqUpdate (s : State) : State :=
  { s with hubIrq := !s.boot.inReset && decide (tget 0 s.evPend 8 &&& reg s rEvtIrqEn ≠ 0) }

/-- A reader's pending lines replaced. -/
def setPend (s : State) (k : Nat) (v : Word) : State := irqUpdate { s with evPend := tput 0 s.evPend k v }

/-- EVENT_LINE_RAISE (R245): each line set in m is set in every reader's copy. A rise of TLINE in WINDOW mode waits for the
buffer trigger (R158). -/
def raiseLines (s : State) (m : Word) : State :=
  let pend := (List.range 9).foldl (fun t k => tput 0 t k (tget 0 t k ||| m)) s.evPend
  let tl := regF s rTrcWinCtrl 37 32
  let b := if m.getLsbD tl && regF s rTrcWinCtrl 1 0 == 2 then { s.buffer with rises := s.buffer.rises ++ [s.ht] }
    else s.buffer
  irqUpdate { s with evPend := pend, buffer := b }

/-- One line raised. -/
def raiseLine (s : State) (n : Nat) : State := raiseLines s (word (2 ^ n))

/-- Line 0 for partition p: its bit in every reader's EVT_CUT_PEND comes first (R245). -/
def raiseCut (s : State) (p : Nat) : State :=
  raiseLine { s with evCut := (List.range 9).foldl (fun t k => tput 0 t k (tget 0 t k ||| word (2 ^ p))) s.evCut } 0

/-- The key of a reader's EVT_XT_PENDk. -/
def xtKey (reader k : Nat) : Nat := 4 * reader + k

/-- Line 4 for cluster c: its bit in every reader's EVT_XT_PENDk comes first (R245). -/
def raiseXt (s : State) (c : Nat) : State :=
  let k := c / 64
  let pend := (List.range 9).foldl
    (fun t r => tput 0 t (xtKey r k) (tget 0 t (xtKey r k) ||| word (2 ^ (c % 64)))) s.evXt
  raiseLine { s with evXt := pend } 4

/-! ### Records -/

/-- A record from its header fields and payload (Table 5.2). -/
def mkRec (src type cls body : Nat) (pay : List Word) : Rec :=
  ⟨word (src * 2 ^ 48 + type * 2 ^ 43 + cls * 2 ^ 40 + pay.length * 2 ^ 36 + body % 2 ^ 36), pay⟩

/-- SRC of a record. -/
def recSrc (r : Rec) : Nat := bits r.hdr 63 48
/-- TYPE of a record. -/
def recType (r : Rec) : Nat := bits r.hdr 47 43
/-- CLS of a record. -/
def recCls (r : Rec) : Nat := bits r.hdr 42 40
/-- BODY of a record. -/
def recBody (r : Rec) : Nat := bits r.hdr 35 0
/-- CYC of a CYC-bearing record. -/
def recCyc (r : Rec) : Nat := bits r.hdr 35 24
/-- Units of a record. -/
def recUnits (r : Rec) : Nat := 1 + r.pay.length
/-- Payload unit n. -/
def recPay (r : Rec) (n : Nat) : Word := r.pay.getD n 0
/-- Units of a list of records. -/
def unitsOf (l : List Rec) : Nat := (l.map recUnits).sum

/-- Source of a Distaff unit (Table 5.1, kind 11). -/
def srcDistaff (unit : Nat) : Nat := 0xC000 + 4 * unit
/-- Source of a Flyer's unit: 0 itself, 1 its Card engine, 2 its counter aggregation (Table 5.1, kind 10). -/
def srcFlyer (cluster unit : Nat) : Nat := 0x8000 + 4 * cluster + unit

/-- Whether the funnel's local input of 512 units takes a record now (R149). -/
def localFits (s : State) (r : Rec) : Bool := decide (unitsOf s.funnel.local_ + recUnits r ≤ 512)

/-- Whether the event system cannot hold a record that finds the local input full (R151): it holds 64 hub events. A GAP and a TRIG are
never dropped, they wait (Table 5.10). -/
def heldFull (s : State) (r : Rec) : Bool :=
  recType r == 8 && decide (64 ≤ (s.funnel.held.filter fun x => recType x == 8).length)

/-- A record of the Distaff's own into the local input. Of the hub events that find it full the event system holds 64 and counts any
beyond in a saturating count of 16 bits (R151, R54; DESIGN CHOICE, log entry 73). -/
def pushLocal (s : State) (r : Rec) : State :=
  let f := s.funnel
  if f.held = [] ∧ localFits s r then { s with funnel := { f with local_ := f.local_ ++ [r] } }
  else if heldFull s r then { s with funnel := { f with overflow := satAdd 16 f.overflow 1 } }
  else { s with funnel := { f with held := f.held ++ [r] } }

/-- An HEVT record of the event system: code, argument, payload units 1 and 2 (Table 5.12, R148). -/
def hevt (s : State) (code arg : Nat) (pay : List Word) : State :=
  pushLocal s (mkRec (srcDistaff 11) 0x08 0 (code * 2 ^ 24 + arg % 2 ^ 24) (word s.ht :: pay))

/-! ### Completions -/

/-- Table 9.3. -/
def statusCode : Status → Nat
  | .ok => 0
  | .partial_ => 1
  | .noagent => 2
  | .timeout => 3
  | .late => 4
  | .sideEffect => 5
  | .locked => 6
  | .rights => 7
  | .ownerGone => 8

/-- Whorl w's ticket t. -/
def getTk (x : Whorl) (t : Nat) : Ticket := tget Ticket.fresh x.tk t
/-- Whorl w's ticket t replaced. -/
def setTk (x : Whorl) (t : Nat) (k : Ticket) : Whorl := { x with tk := tput Ticket.fresh x.tk t k }

/-- General register r of a Whorl; g0 reads 0 (Table 9.1). -/
def gReg (x : Whorl) (r : Nat) : Word := if r = 0 then 0 else tget 0 x.g r
/-- General register r of a Whorl written; writes to g0 are discarded (Table 9.1). -/
def setG (x : Whorl) (r : Nat) (v : Word) : Whorl := if r = 0 then x else { x with g := tput 0 x.g r v }

/-- A PENDING ticket becomes DONE (R240): status, count, and with OK or PARTIAL the result into its named register (R242). -/
def finishTk (x : Whorl) (t : Nat) (st : Status) (count : BitVec 32) (result : Option Word) : Whorl :=
  let k := getTk x t
  if k.st = .pending then
    let y := match k.result, result with
      | some r, some v => if st = .ok ∨ st = .partial_ then setG x r v else x
      | _, _ => x
    setTk y t { k with st := .done, status := st, count := count }
  else x

/-- Whether the dump program waits for an operation's outcome: its cut, the commit of L0, or the read that is out (R214). -/
def dumpWaits (s : State) (opId : Nat) : Bool :=
  let x := s.hang.work
  s.hang.running.isSome && (x.op == some opId || (x.waiter == opId && (x.phase == .cut || x.phase == .l0)))

/-- Whether a ticket, the bare path or the dump program still waits for an operation's outcome. -/
def waited (s : State) (opId : Nat) : Bool :=
  (List.range 8).any (fun w => (getW s w).tk.any fun e => e.2.st == .pending && e.2.opId == opId) ||
    (s.aga.cur.isSome && s.aga.opId == opId) || dumpWaits s opId

/-- An outcome reaches its issuer and waits to be taken by TICKET_COMPLETE or AGA_COMPLETE (R58); after a TIMEOUT it is counted
in SPN_LATE, and after any other end of the ticket discarded (R58, R260). -/
def postArrival (s : State) (a : Arrival) : State :=
  let s1 : State := { s with ops := s.ops.filter fun o => o.id != a.opId || waited s a.opId }
  if waited s a.opId then { s with arrivals := s.arrivals ++ [a] }
  else if s.lateIds.contains a.opId then
    countF { s1 with lateIds := s1.lateIds.filter fun x => x != a.opId } rSpnLate 63 0 1
  else s1

/-- An outcome of a hub unit's own: a status and a count. -/
def post (s : State) (opId : Nat) (st : Status) (count : Nat) (result : Option Word := none) : State :=
  postArrival s ⟨opId, st, BitVec.ofNat 32 count, result, [], 0, none⟩

/-- The next operation number. -/
def newOp (s : State) : Nat × State := (s.opCtr, { s with opCtr := s.opCtr + 1 })

end Sys2Proof.Machine
end

