-- ==== Sys2Proof/Machine/Encoders.lean ====
section
/-! DEFINITION. Drops and gaps (R143, R144) and the Bobbin's encoders of flow, command and low-power records (R127 to R137). -/

namespace Sys2Proof.Machine

/-! ### Drops and gaps -/

/-- What a trace queue does with a record offered to it (Table 5.10). -/
inductive Verdict where
  | take | drop | wait
  deriving DecidableEq, Repr

/-- Whether a queue's fill has reached the threshold of a class (Table 5.10). -/
def overThreshold (cap fill cls : Nat) : Bool :=
  match cls with
  | 1 => decide (9 * cap ≤ 10 * fill)
  | 2 => decide (3 * cap ≤ 4 * fill)
  | 3 => decide (cap ≤ 2 * fill)
  | _ => false

/-- Table 5.10: `need` are the units of the record and of the pending gap ahead of it (R143). -/
def verdict (cap fill need cls type : Nat) : Verdict :=
  let fits := decide (fill + need ≤ cap)
  if type = 6 ∨ type = 7 ∨ type = 0x0D ∨ cls = 4 then (if fits then .take else .wait)
  else if overThreshold cap fill cls then .drop
  else if fits then .take else .drop

/-- The verdict on a lossless record (R145): kept until the queue is full. -/
def verdictLl (cap fill need cls type : Nat) : Verdict :=
  if type = 6 ∨ type = 7 ∨ type = 0x0D ∨ cls = 4 then verdict cap fill need cls type
  else if fill + need ≤ cap then .take else .drop

/-- Whether a record's CYC counts (R127). -/
def isCyc (r : Rec) : Bool := recType r == 1 || recType r == 2 || recType r == 4 || recType r == 0x0E

/-- The gap that one dropped record makes (Table 5.11). A dropped GAP keeps what it stood for. -/
def gapOf (reason now : Nat) (r : Rec) : Gap :=
  if recType r = 6 then
    { reason := reason, tv := bit r.hdr 31, sat := bit r.hdr 30, mix := bit r.hdr 29 || bits r.hdr 35 32 != reason,
      count := bits r.hdr 15 0, time := recPay r 0, cycSum := bits (recPay r 1) 31 0, cls := recCls r, since := now }
  else
    { reason := reason, tv := recType r == 3, sat := false, mix := false, count := 1,
      time := if recType r = 3 then recPay r 0 else 0, cycSum := if isCyc r then recCyc r else 0, cls := recCls r,
      since := now }

/-- A later drop joins the run of a pending gap (R144). -/
def gapJoin (g h : Gap) : Gap :=
  let sum := g.cycSum + h.cycSum
  { reason := g.reason, tv := g.tv || h.tv,
    sat := if h.tv then h.sat else g.sat || h.sat || decide (2 ^ 32 ≤ sum),
    mix := g.mix || h.mix || g.reason != h.reason, count := min 0xFFFF (g.count + h.count),
    time := if h.tv then h.time else g.time, cycSum := if h.tv then h.cycSum else min (2 ^ 32 - 1) sum,
    cls := min g.cls h.cls, since := g.since }

/-- A drop added to the pending gap of its source. -/
def gapAdd (t : Tab (Option Gap)) (reason now : Nat) (r : Rec) : Tab (Option Gap) :=
  let h := gapOf reason now r
  tput none t (recSrc r) (some ((tget none t (recSrc r)).elim h fun g => gapJoin g h))

/-- The GAP record of a pending gap (Table 5.11). -/
def gapRec (src : Nat) (g : Gap) : Rec :=
  mkRec src 6 g.cls (g.reason * 2 ^ 32 + b2n g.tv * 2 ^ 31 + b2n g.sat * 2 ^ 30 + b2n g.mix * 2 ^ 29 + g.count)
    [if g.tv then g.time else 0, word g.cycSum]

/-- The GAP record due ahead of the next record of a source. -/
def gapAhead (t : Tab (Option Gap)) (src : Nat) : List Rec := (tget none t src).toList.map (gapRec src)

/-- The units of a source's pending gap. -/
def gapNeed (t : Tab (Option Gap)) (src : Nat) : Nat := if (tget none t src).isSome then 3 else 0

/-! ### Lossless partitions -/

/-- Whether a partition's records are lossless now (R145, R147). -/
def isLossless (s : State) (p : Option Nat) : Bool :=
  p.elim false fun p => bit (reg s rTrcLlMask) p && decide ((getP s p).st = .running) && !(getP s p).holdTmo

/-- The reason of a drop for a partition's record: LL_OVER in lossless mode, HOLD_TMO after a hold that timed out, else the
queue's own. -/
def dropReason (s : State) (p : Option Nat) (own : Nat) : Nat :=
  if isLossless s p then 7
  else if p.elim false fun p => (getP s p).holdTmo then 6 else own

/-- A queue that has reached its threshold for a lossless record of p asks for a hold (R145). -/
def wantHold (s : State) (p : Option Nat) (at_ : DropPoint) : State :=
  match p with
  | none => s
  | some p =>
    let x := getP s p
    if isLossless s (some p) && !(x.llWant.contains at_) then setP s p { x with llWant := x.llWant ++ [at_] } else s

/-! ### The Bobbin's output -/

/-- A record into a Bobbin's output FIFO of 8 units (R139, R143). -/
def bobbinPush (s : State) (i : Nat) (r : Rec) : State :=
  let x := getS s i
  let p := partOf s i
  let fill := unitsOf x.fifo
  let need := recUnits r + gapNeed x.gaps (recSrc r)
  let ll := isLossless s p
  let s := if ll && overThreshold 8 fill (recCls r) then wantHold s p (.bobbin i) else s
  match (if ll then verdictLl else verdict) 8 fill need (recCls r) (recType r) with
  | .take => setS s i { x with fifo := x.fifo ++ gapAhead x.gaps (recSrc r) ++ [r],
                               gaps := tput none x.gaps (recSrc r) none }
  | .drop =>
    let s1 := setS s i { x with gaps := gapAdd x.gaps (dropReason s p 0) s.ht r }
    let s2 := setAg s1 i aBtStat (setBits (ag s1 i aBtStat) 63 48 (satAdd 16 (bits (ag s1 i aBtStat) 63 48) 1))
    if ll then countF s2 rTrcLlCtrl 47 32 1 else s2
  | .wait => s

/-- The index of the core that a site serves (R125). -/
def coreIdx (s : State) (i : Nat) : Nat := (coreOf s i).getD 0

/-- The source of an encoder at a site: 0 the core's flow source, 1 + n slot n's engine source (Table 5.1). -/
def srcOf (s : State) (i k : Nat) : Nat := if k = 0 then 0x4000 + 4 * coreIdx s i else 4 * coreIdx s i + (k - 1)

/-- The class of an encoder's records: P3 for flow, P1 for commands. -/
def clsOf (k : Nat) : Nat := if k = 0 then 3 else 1

/-- The edge count of a site's region clock. -/
def edgeOf (s : State) (i : Nat) : Nat := (getR s (regionOf i)).edge

/-- Whether a site emits trace records (R125): an unused spare and a replaced site serve no core, and have no source. -/
def emits (s : State) (i : Nat) : Bool := (coreOf s i).isSome

/-! ### Agent registers within an edge (R81, R136, R194, R202) -/

/-- The value of an agent register that is in force at the present edge. -/
def agEdge (s : State) (i idx : Nat) : Word := (tget none (getS s i).held idx).getD (ag s i idx)

/-- The value in force at the present edge kept, before the register changes. -/
def agHold (s : State) (i idx : Nat) : State :=
  let x := getS s i
  if (tget none x.held idx).isSome then s else setS s i { x with held := tput none x.held idx (some (ag s i idx)) }

/-- An agent register changed from the next edge on. -/
def setAgNext (s : State) (i idx : Nat) (v : Word) : State := setAg (agHold s i idx) i idx v

/-- Payload 1 of a TSYNC (Table 5.4): the last schedule address, or the command open on the slot. -/
def tsyncPay (x : Site) (k : Nat) (addr : Option (BitVec 32)) : Word :=
  if k = 0 then addr.elim 0 fun a => word (2 ^ 32 + a.toNat)
  else (tget none x.cmdOpen (k - 1)).elim 0 fun ids => word (2 ^ 63 + ids.toNat)

/-- A case of R128 noted for a source: the lowest number stands. -/
def noteTs (v : Nat) (x : Src) : Src := { x with pendTs := some (x.pendTs.elim v (min v)) }

/-- TSYNC_EMIT and one record (R127, R128): anchor edge, its hub time and last address, the record's own edge, and the record
made from its CYC. -/
def emitSrc (s : State) (i k anchor time : Nat) (addr : Option (BitVec 32)) (edge : Nat) (mk : Nat → Rec) : State :=
  if !emits s i then s
  else
  let x := getS s i
  let c := tget Src.fresh x.srcs k
  let due := c.pendTs.toList ++ (if c.last + 4095 < anchor then [1] else []) ++ (if 256 ≤ c.count then [2] else [])
  let reason := due.min?
  let c' : Src := { c with last := edge, count := (if reason.isSome then 0 else c.count) + 1, pendTs := none }
  let s1 := setS s i { x with srcs := tput Src.fresh x.srcs k c' }
  match reason with
  | some r =>
    let ts := mkRec (srcOf s i k) 3 (clsOf k) (r * 2 ^ 33) [word (time % 2 ^ 24), tsyncPay x k addr]
    bobbinPush (bobbinPush s1 i ts) i (mk (edge - anchor))
  | none => bobbinPush s1 i (mk (edge - c.last))

/-- The TNT field of pending branches, the oldest in bit 0. -/
def tntBits (l : List Tnt) : Nat := ((List.range l.length).zip l).foldl (fun n e => n + b2n e.2.taken * 2 ^ e.1) 0

/-- The pending branches of a site's flow encoder. -/
def tntOf (s : State) (i : Nat) : List Tnt := (tget Src.fresh (getS s i).srcs 0).tnt

/-- The pending branches replaced. -/
def setTnt (s : State) (i : Nat) (l : List Tnt) : State :=
  let x := getS s i
  let c := tget Src.fresh x.srcs 0
  setS s i { x with srcs := tput Src.fresh x.srcs 0 { c with tnt := l } }

/-- Pending branches closed into a FLOW_BR at the last of them (R131). -/
def closeTnt (s : State) (i : Nat) : State :=
  match tntOf s i with
  | [] => s
  | b :: l =>
    let last := (b :: l).getLast?.getD b
    emitSrc (setTnt s i []) i 0 b.edge b.time b.addr last.edge fun cyc =>
      mkRec (srcOf s i 0) 1 3 (cyc % 4096 * 2 ^ 24 + (l.length + 1) * 2 ^ 19 + tntBits (b :: l)) []

/-- BT_CTRL as it is in force at the present edge (R136). -/
def btNow (s : State) (i : Nat) : Word := agEdge s i aBtCtrl
/-- FLOW_ON. -/
def flowOn (s : State) (i : Nat) : Bool := bit (btNow s i) 0
/-- CMD_ON. -/
def cmdOn (s : State) (i : Nat) : Bool := bit (btNow s i) 1

/-- Whether a source is on under a value of BT_CTRL (R128). -/
def srcOn (v : Word) (k : Nat) : Bool :=
  if k = 0 then bit v 0 || (bit v 1 && bit v 10) else bit v 1 && bit v (11 + k)

/-- The value in force goes from old to v: trace that stops closes its pending branches, and a source that turns on starts with a
TSYNC. -/
def btSwitch (s : State) (i : Nat) (old v : Word) : State :=
  let s1 := if bit old 0 && !bit v 0 then closeTnt s i else s
  let x := getS s1 i
  let srcs := (List.range 5).foldl (fun t k =>
    let c := tget Src.fresh t k
    let c' : Src := if srcOn v k then (if srcOn old k then { c with on := true } else { c with on := true, pendTs := some 0 })
      else { c with on := false, pendTs := none }
    tput Src.fresh t k c') x.srcs
  setS s1 i { x with srcs := srcs }

/-- A start or a stop gives BT_CTRL a value in force at this edge. A write that landed at the edge stands in the register and decides
from the next edge on (R136). -/
def btAct (s : State) (i : Nat) (v : Word) : State :=
  let s1 := btSwitch s i (btNow s i) v
  let x := getS s1 i
  if (tget none x.held aBtCtrl).isSome then setS s1 i { x with held := tput none x.held aBtCtrl (some v) }
  else setAg s1 i aBtCtrl v

/-- The bits of BT_CTRL that a start or a stop acts on: FLOW_ON under FLOW_TRIG, CMD_ON under CMD_TRIG. -/
def btMask (v : Word) : Word := word (b2n (bit v 8) + 2 * b2n (bit v 9))

/-- TRACE_START_STOP (R136): a stop at the present edge. -/
def traceStop (s : State) (i : Nat) : State :=
  let s1 := btAct s i (btNow s i &&& ~~~ btMask (btNow s i))
  setS s1 i { getS s1 i with stopAt := edgeOf s i + 1 }

/-- A start at the present edge; a stop of the same edge prevails (R136). -/
def traceStart (s : State) (i : Nat) : State :=
  if (getS s i).stopAt = edgeOf s i + 1 then s else btAct s i (btNow s i ||| btMask (btNow s i))

/-- A start that was due at the present edge (R85). -/
def traceDue (s : State) (i : Nat) : State :=
  let x := getS s i
  if x.trStart = edgeOf s i + 1 then traceStart (setS s i { x with trStart := 0 }) i else s

/-- A case of R128 noted for every source of a site that is on. -/
def noteAll (v : Nat) (s : State) (i : Nat) : State :=
  let x := getS s i
  setS s i { x with srcs := (List.range 5).foldl (fun t k =>
    let c := tget Src.fresh t k
    if c.on then tput Src.fresh t k (noteTs v c) else t) x.srcs }

/-- An LPWR record of a change of CA_LP, CA_GATED or CA_RST_N (R137, Table 5.7). -/
def lpwr (s : State) (i ev : Nat) : State :=
  let rec_ := bit (btNow s i) 10 && (flowOn s i || cmdOn s i)
  let s0 := if rec_ then closeTnt s i else s
  let s1 := if ev % 2 = 1 then noteAll (if ev = 5 then 5 else 4) s0 i else s0
  let e := edgeOf s i
  if rec_ then
    emitSrc s1 i 0 e s.ht (getS s i).lastAddr e fun cyc => mkRec (srcOf s i 0) 0x0E 3 (cyc % 4096 * 2 ^ 24 + ev * 2 ^ 21) []
  else s1

/-- One edge of the flow encoder (R131): a conditional branch, an indirect transfer, or both. Where it lies more than 4,095 edges after
the previous record, the pending branches close into a FLOW_BR and an OVERFLOW TSYNC goes ahead of what follows. -/
def flowEncode (s : State) (i : Nat) (br : Option Bool) (ind : Option (BitVec 32)) : State :=
  let e := edgeOf s i
  let addr := (getS s i).lastAddr
  let c := tget Src.fresh (getS s i).srcs 0
  let base := match c.tnt with
    | [] => c.last
    | b :: _ => if c.pendTs.isSome || decide (c.last + 4095 < b.edge) || decide (256 ≤ c.count) then b.edge else c.last
  let s1 := if c.tnt ≠ [] ∧ base + 4095 < e ∧ (br.isSome ∨ ind.isSome) then
      let t := closeTnt s i
      let x := getS t i
      setS t i { x with srcs := tput Src.fresh x.srcs 0 (noteTs 1 (tget Src.fresh x.srcs 0)) }
    else s
  let s2 := match br with
    | none => s1
    | some d => setTnt s1 i (tntOf s1 i ++ [⟨d, e, s.ht, addr⟩])
  match ind with
  | none => if (tntOf s2 i).length = 19 then closeTnt s2 i else s2
  | some tgt =>
    let l := tntOf s2 i
    let a := l.head?.getD ⟨false, e, s.ht, addr⟩
    emitSrc (setTnt s2 i []) i 0 a.edge a.time a.addr e fun cyc =>
      mkRec (srcOf s i 0) 2 3 (cyc % 4096 * 2 ^ 24 + l.length * 2 ^ 19 + tntBits l) [word tgt.toNat]

/-- FLOW_EVENT (R131): a gated core presents nothing (R118); else CA_IADDR, and while FLOW_ON is 1 the branch and the indirect transfer of one edge. -/
def execFlowEvent (site : Nat) (iaddr : Option (BitVec 32)) (br : Option Bool) (ind : Option (BitVec 32)) (s : State) :
    Host.Outcome State Fault Refusal :=
  let x := getS s site
  if x.failed || x.inReset || x.gated || !wired s site then ok s
  else
    let s1 := if iaddr.isSome then setS s site { x with lastAddr := iaddr } else s
    ok (if flowOn s site then flowEncode s1 site br ind else s1)

end Sys2Proof.Machine
end

