-- ==== Sys2Proof/Machine/Trace.lean ====
section
/-! DEFINITION. From Flyer to funnel and sinks: Flyer queues and groups (R139, R140), collectors (R48 to R50), the Ply funnel
(R141, R142, R149, R150), the sinks (R153 to R155) and the trace buffer (R156 to R161). -/

namespace Sys2Proof.Machine

/-! ### The Flyer's queue -/

/-- The partition of a record's source (Table 5.1); a Distaff source is in none. -/
def partOfSrc (s : State) (src : Nat) : Option Nat :=
  if src < 0x8000 then partOfCluster s (clusterOf (src / 4 % 4096))
  else if src < 0xC000 then partOfCluster s (src / 4 % 256) else none

/-- What a Flyer's queue of 128 units does with a record (R139, R143, R145). -/
def flyerVerdict (s : State) (f : Nat) (r : Rec) : Verdict :=
  let x := getF s f
  let fill := unitsOf (x.q.map QRec.r)
  (if isLossless s (partOfSrc s (recSrc r)) then verdictLl else verdict) 128 fill
    (recUnits r + gapNeed x.gaps (recSrc r)) (recCls r) (recType r)

/-- A record into a Flyer's queue, behind its source's pending gap, or dropped into that gap. -/
def flyerPush (s : State) (f : Nat) (r : Rec) : State :=
  let x := getF s f
  let p := partOfSrc s (recSrc r)
  let ll := isLossless s p
  let s1 := if ll && overThreshold 128 (unitsOf (x.q.map QRec.r)) (recCls r) then wantHold s p (.flyer f) else s
  match flyerVerdict s f r with
  | .take => setF s1 f { x with q := x.q ++ ((gapAhead x.gaps (recSrc r) ++ [r]).map fun r => ⟨r, s.ht⟩),
                                gaps := tput none x.gaps (recSrc r) none }
  | .drop =>
    let s2 := countObj (setF s1 f { x with gaps := gapAdd x.gaps (dropReason s p 1) s.ht r }) f rTrcFlyStat 63 48 1
    if ll then countF (countObj s2 f rTrcFlyStat 31 16 1) rTrcLlCtrl 47 32 1 else s2
  | .wait => s1

/-- Where a Flyer takes its next record from (R139). -/
inductive Feed where
  | bobbin (site : Nat)
  | card
  | sample (site : Nat)
  | term (site : Nat)
  | lm (site : Nat)
  deriving DecidableEq, Repr

/-- The record that waits at a feed. -/
def feedHead (s : State) (f : Nat) : Feed → Option Rec
  | .bobbin i => (getS s i).fifo.head?
  | .card => ((getF s f).card.out.head?.bind List.head?)
  | .sample i => (getS s i).sample.map Prod.fst
  | .term i => (getS s i).term
  | .lm i => (getS s i).dOut.head?

/-- The feeds of a Flyer in the order of the round robin: Bobbins by core index, Card engine, counter aggregation, VT drains; then the
Flyer's own records, the local-memory streams of R79. -/
def feeds (s : State) (f : Nat) : List Feed :=
  (sitesOf s f).map .bobbin ++ [.card] ++ (((sitesOf s f).filter fun i => (getS s i).sample.isSome).head?.toList.map .sample) ++
    ((sitesOf s f).filter fun i => (getS s i).term.isSome).map .term ++
    ((sitesOf s f).filter fun i => !(getS s i).dOut.isEmpty).map .lm

/-- The record at a feed removed from it. -/
def feedPop (s : State) (f : Nat) : Feed → State
  | .bobbin i => setS s i { getS s i with fifo := (getS s i).fifo.drop 1 }
  | .card =>
    let x := getF s f
    let out := match x.card.out with
      | [] => []
      | l :: t => if l.length ≤ 1 then t else l.drop 1 :: t
    setF s f { x with card := { x.card with out := out } }
  | .sample i => setS s i { getS s i with sample := none, smpMiss := 0 }
  | .term i => setS s i { getS s i with term := none }
  | .lm i => setS s i { getS s i with dOut := (getS s i).dOut.drop 1 }

/-- The edge count of a Flyer's region clock. -/
def flyerEdge (s : State) (f : Nat) : Nat := (getR s (clusterRegion f)).edge

/-- FLYER_TAKE (R139, R143): the next feed in the round robin whose record the queue takes or drops, one record at an edge. -/
def execFlyerTake (flyer : Nat) (s : State) : Host.Outcome State Fault Refusal :=
  let x := getF s flyer
  if x.failed || x.takeAt = flyerEdge s flyer + 1 then ok s
  else
    let l := feeds s flyer
    let n := l.length
    let order := (List.range n).map fun j => (x.rr + j) % n
    let pick := order.findSome? fun j => (l[j]?).bind fun fd => (feedHead s flyer fd).bind fun r =>
      if flyerVerdict s flyer r = .wait then none else some (j, fd, r)
    match pick with
    | none => ok s
    | some (j, fd, r) =>
      let s1 := flyerPush (feedPop s flyer fd) flyer r
      ok (setF s1 flyer { getF s1 flyer with rr := (j + 1) % n, takeAt := flyerEdge s flyer + 1 })

/-- A gap whose records stood ahead of those of a pending one (R144, R30). -/
def gapBefore (h g : Gap) : Gap := { gapJoin h g with reason := g.reason, since := g.since }

/-- RECORD_AGE_DROP (R130, R144): a record at the queue's head, not class D, that has waited 2 ^ 22 ht is discarded into a gap with reason
AGE. The gap keeps the record's place: it goes ahead of the next record of its source that stands in the queue, or joins the pending
gap of the queue's tail. A GAP is never dropped (R144; DEDUCED, log entry 74). -/
def execRecordAgeDrop (flyer : Nat) (s : State) : Host.Outcome State Fault Refusal :=
  let x := getF s flyer
  match x.q with
  | [] => ok s
  | e :: t =>
    if recCls e.r ≠ 4 ∧ recType e.r ≠ 6 ∧ e.ent + 2 ^ 22 ≤ s.ht then
      let k := recSrc e.r
      let h := gapOf 2 s.ht e.r
      let a := (tget none x.ages k).elim h fun g => gapJoin g h
      let y := if t.any fun y => recSrc y.r == k then { x with q := t, ages := tput none x.ages k (some a) }
        else { x with q := t, ages := tput none x.ages k none,
                      gaps := tput none x.gaps k (some ((tget none x.gaps k).elim a fun g => gapBefore a g)) }
      ok (countObj (setF s flyer y) flyer rTrcFlyStat 47 32 1)
    else ok s

/-! ### Groups -/

/-- The longest front of a queue within a number of units, a gap of AGE discards going ahead of its source's next record (R144): the records
that go, the queue and the gaps that stay. -/
def takeUnits : Nat → Tab (Option Gap) → List QRec → List Rec × List QRec × Tab (Option Gap)
  | _, a, [] => ([], [], a)
  | n, a, e :: t =>
    let g := gapAhead a (recSrc e.r)
    let a' := tput none a (recSrc e.r) none
    let need := unitsOf g + recUnits e.r
    if need ≤ n then
      let x := takeUnits (n - need) a' t
      (g ++ e.r :: x.1, x.2)
    else if g ≠ [] ∧ 3 ≤ n then (g, e :: t, a')
    else ([], e :: t, a)

/-- CRC-16 of R37 over bytes given high byte first. -/
def crc16 (bytes : List Byte) : Nat := bytes.foldl (crcByte 16 0x1021) 0xFFFF

/-- The bytes of a unit, high byte first. -/
def bytesHigh (u : Word) : List Byte := (unitBytes u).reverse

/-- The units of a record. -/
def recWords (r : Rec) : List Word := r.hdr :: r.pay

/-- A group of records (Table 5.9): header, records, and one NULL unit when the count is odd. -/
def mkGroup (f : Nat) (gseq : BitVec 16) (l : List Rec) : List Word :=
  let body := l.flatMap recWords
  let body' := if body.length % 2 = 0 then body ++ [0] else body
  let h := srcFlyer f 0 * 2 ^ 48 + 0x1F * 2 ^ 43 + 7 * 2 ^ 40 + (body'.length + 1) / 2 * 2 ^ 36 + gseq.toNat * 2 ^ 20
  word (h + crc16 ((bytesHigh (word h)).take 6)) :: body'

/-- GROUP_SEND (R140): whole records from the head of the queue, up to 17 units with the header, to the Flyer's collector once its local
input is free: an input holds one group (R48; DESIGN CHOICE, log entry 72). -/
def execGroupSend (flyer : Nat) (s : State) : Host.Outcome State Fault Refusal :=
  let x := getF s flyer
  let l := takeUnits 16 x.ages x.q
  if x.failed || !x.local_.isEmpty || l.1.isEmpty then ok s
  else ok (setF s flyer { x with q := l.2.1, ages := l.2.2, gseq := x.gseq + 1, local_ := [mkGroup flyer x.gseq l.1] })

/-- 128-bit words of a group. -/
def groupWords (g : List Word) : Nat := g.length / 2

/-- The column in which a collector's traffic travels: its own, or the east one (the west for column 15) when the link south of
it has failed (R50). -/
def columnOf (s : State) (n : Nat) : Nat :=
  if (getF s n).trcFail then (if n % 16 < 15 && clusterIn s (n + 1) then n % 16 + 1 else n % 16 - 1) else n % 16

/-- Where a collector sends its groups: the collector south of it, or the lateral one of its row. -/
def nextCollector (s : State) (n : Nat) : Nat := if (getF s n).trcFail then 16 * (n / 16) + columnOf s n else n + 16

/-- The collectors through which a Flyer's traffic passes and the column at whose end it leaves. -/
def tracePath (s : State) : Nat → Nat → List Nat × Nat
  | 0, n => ([], n % 16)
  | k + 1, n =>
    let m := nextCollector s n
    if clusterIn s m then (m :: (tracePath s k m).1, (tracePath s k m).2) else ([], n % 16)

/-- Whether a unit is the header of a group, of a Flyer that a test admits (R141). -/
def groupHeader (mine : Nat → Bool) (u : Word) : Bool :=
  let f := bits u 57 50
  bits u 47 43 == 0x1F && bits u 42 40 == 7 && decide (1 ≤ bits u 39 36) && decide (bits u 39 36 ≤ 9) &&
    decide (bits u 15 0 = crc16 ((bytesHigh u).take 6)) && decide (bits u 63 48 = srcFlyer f 0) && mine f

/-- Whether a Flyer's traffic is routed through a collector's through input. -/
def throughNode (s : State) (n f : Nat) : Bool := clusterIn s f && (tracePath s 64 f).1.contains n

/-- Whether a Flyer's traffic is routed into a column input of the funnel. -/
def throughColumn (s : State) (col f : Nat) : Bool := clusterIn s f && decide ((tracePath s 64 f).2 = col)

/-- Words discarded until one is a group's header (R141). -/
def huntWords (okHdr : Word → Bool) : List Word → List Word
  | u :: v :: t => if okHdr u then u :: v :: t else huntWords okHdr t
  | _ => []

/-- What a collector that hunts makes of a run of words: the groups it finds, and whether it goes on hunting. -/
def huntGroups (okHdr : Word → Bool) : Nat → List Word → List (List Word) × Bool
  | 0, _ => ([], true)
  | n + 1, ws => match huntWords okHdr ws with
    | [] => ([], true)
    | u :: t =>
      let k := 2 * bits u 39 36 - 1
      if t.length ≤ k then ([u :: t], false)
      else
        let x := huntGroups okHdr n (t.drop k)
        ((u :: t.take k) :: x.1, x.2)

/-- Whether a collector's next input is free: a full link stalls its sender (R48). -/
def southFree (s : State) (n : Nat) : Bool :=
  if clusterIn s (nextCollector s n) then (getF s (nextCollector s n)).through.isEmpty else (tget [] s.funnel.arrive (n % 16)).isEmpty

/-- A group arrives at a collector's through input, which takes it, or hunts through its words. -/
def throughPut (s : State) (m : Nat) (g : List Word) : State :=
  let x := getF s m
  if x.hunt then
    let y := huntGroups (groupHeader (throughNode s m)) (g.length + 1) g
    setF s m { x with through := x.through ++ y.1, hunt := y.2 }
  else setF s m { x with through := x.through ++ [g] }

/-- A group put on the link south of collector n, or into the lateral collector of its row. -/
def sendSouth (s : State) (n : Nat) (g : List Word) : State :=
  let m := nextCollector s n
  if clusterIn s m then throughPut s m g
  else { s with funnel := { s.funnel with
           arrive := tput [] s.funnel.arrive (n % 16) (tget [] s.funnel.arrive (n % 16) ++ [g]) } }

/-- COLLECTOR_ARBITRATE (R49, R48): at a group boundary the count D chooses between the local and the through input; nothing goes while
the link south is full. -/
def execCollectorArbitrate (node : Nat) (s : State) : Host.Outcome State Fault Refusal :=
  let x := getF s node
  let r : Int := (node / 16 : Nat)
  if !southFree s node then ok s
  else match x.local_, x.through with
  | [], [] => ok s
  | g :: t, [] => ok (sendSouth (setF s node { x with local_ := t, colD := 0 }) node g)
  | [], g :: t => ok (sendSouth (setF s node { x with through := t, colD := 0 }) node g)
  | g :: t, h :: u =>
    if x.colD ≤ 0 then
      ok (sendSouth (setF s node { x with local_ := t, colD := x.colD + r * (groupWords g : Nat) }) node g)
    else ok (sendSouth (setF s node { x with through := u, colD := x.colD - (groupWords h : Nat) }) node h)

/-- TRACE_WORD_ERROR (R48, R141): bits in error of the 128 data and 9 check bits of a word of the group at a collector's through input.
One is corrected; more are uncorrectable (DESIGN CHOICE, log entry 72): the word is discarded and counted, with the rest of its group; after
a header the collector hunts. -/
def execTraceWordError (node : Nat) (bad : BadWord) (s : State) : Host.Outcome State Fault Refusal :=
  let x := getF s node
  match x.through with
  | [] => ok s
  | g :: t =>
    if bad.flips.eraseDups.length ≤ 1 ∨ groupWords g ≤ bad.word then ok s
    else
      let s1 := countF s rSpnTrcUe 63 0 1
      if bad.word = 0 then
        let l := g.drop 2 ++ t.flatten
        let y := huntGroups (groupHeader (throughNode s node)) (l.length + 1) l
        ok (setF s1 node { x with through := y.1, hunt := y.2 })
      else ok (setF s1 node { x with through := g.take (2 * bad.word) :: t })

/-! ### The funnel's inputs -/

/-- The records of a group's body; none when a header inside is bad (R141). -/
def splitRecs : Nat → List Word → List Rec
  | 0, _ => []
  | _, [] => []
  | n + 1, h :: t =>
    if h = 0 then splitRecs n t
    else
      let len := bits h 39 36
      let ty := bits h 47 43
      let c := bits h 42 40
      if t.length < len ∨ 4 < c ∨ 0x0E < ty ∨ ty = 0 then []
      else ⟨h, t.take len⟩ :: splitRecs n (t.drop len)

/-- Whether a record's CLS is its TYPE's (Table 5.3). -/
def clsFits (r : Rec) : Bool :=
  match recType r with
  | 1 | 2 | 0x0E => recCls r == 3
  | 4 | 5 => recCls r == 1
  | 8 | 0x0D | 7 => recCls r == 0
  | 0x0A | 0x0B => recCls r == 2
  | 0x0C => recCls r == 4
  | _ => decide (recCls r ≤ 3)

/-- The records of a group's body up to a header with a reserved TYPE or CLS, a CLS that is not its TYPE's, or a LEN past the group's
end; and the words after the one that holds such a header (R141). -/
def groupRecs : Nat → List Word → List Rec × Option (List Word)
  | 0, _ => ([], none)
  | _, [] => ([], none)
  | n + 1, h :: t =>
    if h = 0 then groupRecs n t
    else
      let len := bits h 39 36
      let r : Rec := ⟨h, t.take len⟩
      if t.length < len ∨ 4 < recCls r ∨ 0x0E < recType r ∨ recType r = 0 ∨ !clsFits r then
        ([], some (t.drop (t.length % 2)))
      else
        let x := groupRecs n (t.drop len)
        (r :: x.1, x.2)

/-- What the funnel makes of a run of words at a column's end, hunting at first or not: groups' headers with their records, and whether it
hunts at the end (R141). -/
def funnelRead (okHdr : Word → Bool) : Nat → Bool → List Word → List (Word × List Rec) × Bool
  | 0, b, _ => ([], b)
  | n + 1, true, ws => match huntWords okHdr ws with
    | [] => ([], true)
    | l => funnelRead okHdr n false l
  | _ + 1, false, [] => ([], false)
  | n + 1, false, h :: t =>
    let k := 2 * bits h 39 36 - 1
    let rest := t.drop k
    let x := groupRecs 18 (t.take k)
    match x.2, rest with
    | none, [] => ([(h, x.1)], false)
    | none, ws => let y := funnelRead okHdr n true ws; ((h, x.1) :: y.1, y.2)
    | some l, ws => let y := funnelRead okHdr n true (l ++ ws); ((h, x.1) :: y.1, y.2)

/-- A GAP of the funnel's own, through the local input (R142). -/
def funnelGap (s : State) (src reason count : Nat) : State :=
  pushLocal s (mkRec src 6 0 (reason * 2 ^ 32 + min 0xFFFF count) [0, 0])

/-- The Flyer's resync level toggles (R142): behind its three stages every source that the Flyer serves owes a TSYNC of reason 3. -/
def resyncFlyer (s : State) (f : Nat) : State := setF s f { getF s f with resync := (getF s f).resync + 1 }

/-- One edge of a Flyer's resync level (R55, R142). -/
def resyncEdge (s : State) (f : Nat) : State :=
  let x := getF s f
  let l := levelEdge (x.resync % 2 = 1) x.resyncIn
  let s1 := setF s f { x with resyncIn := l }
  if l.out = x.resyncIn.out then s1 else forAll (sitesOf s f) (fun s i => noteAll 3 s i) s1

/-- The GSEQ of a group checked against the one expected of its Flyer (R142). -/
def groupCheck (s : State) (h : Word) : State :=
  let f := bits h 57 50
  let want := tget 0 s.funnel.gseq f
  let got : BitVec 16 := BitVec.ofNat 16 (bits h 35 20)
  let s1 : State := { s with funnel := { s.funnel with gseq := tput 0 s.funnel.gseq f (got + 1) } }
  if got = want then s1
  else
    let d := (got - want).toNat
    resyncFlyer (countF (funnelGap s1 (srcFlyer f 0) 3 d) rTrcFunStat 31 16 d) f

/-- GROUP_ARRIVAL (R142): a group at a column's end. Its GSEQ is checked against the one expected of its Flyer, and its records
enter the column's queue of 256 units, which stalls the column when they do not fit (R151). -/
def execGroupArrival (col : Fin 16) (s : State) : Host.Outcome State Fault Refusal :=
  match tget [] s.funnel.arrive col with
  | [] => ok s
  | g :: t =>
    let y := funnelRead (groupHeader (throughColumn s col)) (2 * g.length + 2) (tget false s.funnel.hunt col) g
    let l := y.1.flatMap Prod.snd
    let q := tget [] s.funnel.cols col
    if 256 < unitsOf q + unitsOf l then ok s
    else
      ok (forAll (y.1.map Prod.fst) groupCheck { s with funnel := { s.funnel with
        arrive := tput [] s.funnel.arrive col t, cols := tput [] s.funnel.cols col (q ++ l),
        hunt := tput false s.funnel.hunt col y.2 } })

/-! ### Sinks -/

/-- A record of the sink's own stream laid into blocks of 512 units (R153): the units appended and the units the block then
holds. -/
def frame (now fill : Nat) (r : Rec) : List Word × Nat :=
  if fill ≠ 0 ∧ fill + recUnits r ≤ 512 then (recWords r, fill + recUnits r)
  else
    let pad := if fill = 0 then [] else List.replicate (512 - fill) (0 : Word)
    (pad ++ recWords (mkRec (srcDistaff 9) 7 0 0 [word now]) ++ recWords r, 2 + recUnits r)

/-- TRC_DROPn counts a record of a class. -/
def countDrop (s : State) (n : Nat) (r : Rec) : State :=
  let lo := 16 * min 3 (recCls r)
  countF s (rTrcDrop + 8 * n) (lo + 15) lo 1

/-- Whether the spill ring is full (R162): as many blocks as it has are written and not consumed (DEDUCED, log entry 76). -/
def spillFull (s : State) : Bool := decide (regF s rTrcSpillSize 23 0 ≤ s.funnel.spillHeld)

/-- A sink's queue. -/
def getSink (s : State) (n : Nat) : Sink := tget Sink.fresh s.funnel.sinks n
/-- A sink replaced. -/
def setSink (s : State) (n : Nat) (x : Sink) : State :=
  { s with funnel := { s.funnel with sinks := tput Sink.fresh s.funnel.sinks n x } }

/-- Records appended to a sink's stream in blocks. -/
def sinkAppend (now : Nat) (x : Sink) (l : List Rec) : Sink :=
  l.foldl (fun x r => let f := frame now x.fill r; { x with q := x.q ++ f.1, fill := f.2 }) x

/-- Units in the queue of sink n: whole records at the trace buffer, the stream in blocks at the others. -/
def sinkFill (n : Nat) (x : Sink) : Nat := if n = 0 then unitsOf x.recs else x.q.length

/-- Records into the queue of sink n. -/
def sinkPut (now n : Nat) (x : Sink) (l : List Rec) : Sink := if n = 0 then { x with recs := x.recs ++ l } else sinkAppend now x l

/-- Records that waited moved into the queue of 16,384 units as long as they fit, each behind its source's pending gap. -/
def sinkAdmit (now n : Nat) : List Rec → Sink → Sink
  | [], x => { x with wait := [] }
  | r :: t, x =>
    let l := gapAhead x.gaps (recSrc r) ++ [r]
    if sinkFill n x + unitsOf l ≤ 16384 then
      sinkAdmit now n t (sinkPut now n { x with gaps := tput none x.gaps (recSrc r) none } l)
    else { x with wait := r :: t }

/-- The records that wait at a sink moved up. -/
def sinkRefill (now n : Nat) (x : Sink) : Sink := if x.wait.isEmpty then x else sinkAdmit now n x.wait x

/-- Units taken from the head of a sink's stream. -/
def sinkDrop (now n k : Nat) (x : Sink) : Sink := sinkRefill now n { x with q := x.q.drop k }

/-- Every pending gap of a sink appended to its stream (R162). -/
def sinkGaps (now : Nat) (x : Sink) : Sink :=
  sinkAppend now { x with gaps := [], ringFull := false } (x.gaps.filterMap fun e => e.2.map fun g => gapRec e.1 g)

/-! ### The trace buffer -/

/-- Blocks of the buffer: 4,096 for each bank in service (R156). -/
def bufBlocks (s : State) : Nat := 4096 * (8 - s.buffer.out.length)

/-- TRC_WIN_CTRL.MODE. -/
def bufMode (s : State) : Nat := regF s rTrcWinCtrl 1 0

/-- Blocks of the pre region (R158). -/
def preBlocks (s : State) : Nat := regF s rTrcWinCtrl 29 24 * bufBlocks s / 64

/-- Blocks of the post region: the rest of C (R158). -/
def postBlocks (s : State) : Nat := bufBlocks s - preBlocks s

/-- Reserve blocks, shrunk to what the closing blocks leave (R159). -/
def resBlocks (s : State) : Nat := min (16 * regF s rTrcWinCtrl 47 40) (postBlocks s - 16)

/-- Blocks of the general part of the post region. -/
def genBlocks (s : State) : Nat := postBlocks s - 16 - resBlocks s

/-- Units written into the open block. -/
def bufPut (b : Buffer) (l : List Word) : Buffer :=
  let base := 512 * b.cur.getD 0 + b.fill
  { b with units := ((List.range l.length).zip l).foldl (fun t e => tput 0 t (base + e.1) e.2) b.units,
           fill := b.fill + l.length, bad := b.bad.filter (fun a => a < base || base + l.length ≤ a) }

/-- A new block opened at WR with its TIME record; the oldest block gives way when the buffer is full (R153, R157). -/
def bufOpen (s : State) : State :=
  let b := s.buffer
  let c := max 1 (bufBlocks s)
  let w := b.wr % c
  let cleared := b.units.filter fun e => e.1 / 512 ≠ w
  let full := decide (b.held = c)
  let b1 : Buffer := { b with units := cleared, bad := b.bad.filter (fun a => a / 512 ≠ w), cur := some w, fill := 0, wr := (w + 1) % c,
                              held := if full then c else b.held + 1,
                              oldest := if full then (b.oldest + 1) % c else b.oldest }
  { s with buffer := bufPut b1 (recWords (mkRec (srcDistaff 9) 7 0 0 [word s.ht])) }

/-- Whether a record goes into the open block. -/
def bufRoom (s : State) (n : Nat) : Bool := s.buffer.cur.isSome && decide (s.buffer.fill + n ≤ 512)

/-- A record written, a new block opened for it where it does not fit (R153). -/
def bufWrite (s : State) (r : Rec) : State :=
  let s1 := if bufRoom s (recUnits r) then s else bufOpen s
  { s1 with buffer := bufPut s1.buffer (recWords r) }

/-- The gaps pending at the buffer sink, one for each source: those of records that found no block stand ahead of the queue's. -/
def bufGaps (x : Sink) : Tab (Option Gap) :=
  x.lost.foldl (fun t e => match e.2, tget none t e.1 with
    | none, _ => t
    | some h, none => tput none t e.1 (some h)
    | some h, some g => tput none t e.1 (some (gapJoin h g))) x.gaps

/-- The pending gaps of the buffer sink written into at most 16 closing blocks, 170 to a block. When more remain, the last GAP gives the
number of sources not listed (R160); its REASON is 5 WINDOW, in FILL mode too (DESIGN CHOICE, log entry 68). -/
def closeGaps (s : State) : State :=
  let x := getSink s 0
  let all := (bufGaps x).filterMap fun e => e.2.map fun g => gapRec e.1 g
  let l := if all.length ≤ 2720 then all
    else all.take 2719 ++ [mkRec (srcDistaff 9) 6 0 (5 * 2 ^ 32 + min 0xFFFF (all.length - 2719)) [0, 0]]
  let s1 : State := { s with buffer := { s.buffer with cur := none } }
  let s2 := forAll l bufWrite s1
  setSink { s2 with buffer := { s2.buffer with cur := none } } 0 { x with gaps := [], lost := [] }

/-- Whether a source is the one the reserve is kept for (R159). -/
def reserveSrc (s : State) (src : Nat) : Bool :=
  let v := reg s rTrcWinSrc
  decide ((word src ^^^ v) &&& ~~~ (v >>> 16) &&& 0xFFFF = 0)

/-- Where a record that needs a new block may go after the trigger (R159): none when it has no block left. -/
def postBlock (s : State) (r : Rec) : Option Buffer :=
  let b := s.buffer
  if b.postUsed < genBlocks s then some { b with postUsed := b.postUsed + 1 }
  else if reserveSrc s (recSrc r) && decide (b.resUsed < resBlocks s) then some { b with resUsed := b.resUsed + 1 }
  else none

/-- Whether the open block is one of the reserve, which takes no other source's record (R159). -/
def inReserve (s : State) : Bool := s.buffer.st == 3 && s.buffer.trigBlk.isSome && decide (0 < s.buffer.resUsed)

/-- A record that the buffer keeps: written, or, where no block is left for it, none. -/
def bufTake (s : State) (r : Rec) : Option State :=
  if inReserve s && !reserveSrc s (recSrc r) then none
  else if bufRoom s (recUnits r) then some (bufWrite s r)
  else if s.buffer.st = 3 ∧ s.buffer.trigBlk.isSome then (postBlock s r).map fun b => bufWrite { s with buffer := b } r
  else if bufMode s = 3 ∧ bufBlocks s - 16 ≤ s.buffer.held then none
  else some (bufWrite s r)

/-- Records taken one after the other; none where one has no block left. -/
def bufTakeAll : State → List Rec → Option State
  | s, [] => some s
  | s, r :: t => (bufTake s r).bind fun s1 => bufTakeAll s1 t

/-- Whether the reserve is full once a record has found no block (R160): a record that may enter the reserve, which ends with the general
part where there is none. -/
def reserveFull (s : State) (r : Rec) : Bool :=
  decide (resBlocks s ≤ s.buffer.resUsed) && decide (genBlocks s ≤ s.buffer.postUsed) &&
    (reserveSrc s (recSrc r) || decide (resBlocks s = 0))

/-- A record from the sink's queue into the buffer (R157 to R159). The TRIG closes the current block and opens the first of the post region,
also where the reserve leaves no general block (DESIGN CHOICE, log entry 70). A record with no block left is dropped with reason WINDOW, or
makes the buffer FULL in FILL mode. -/
def bufferTake (s : State) (r : Rec) : State :=
  let x := getSink s 0
  let b := s.buffer
  if b.st = 4 ∨ b.st = 5 then countDrop s 0 r
  else if recType r = 0x0D ∧ b.st = 3 ∧ b.trigBlk = none then
    let s1 : State := { s with buffer := { b with cur := none, postUsed := 1, held := min b.held (preBlocks s),
                                                  oldest := if preBlocks s < b.held then
                                                    (b.oldest + (b.held - preBlocks s)) % max 1 (bufBlocks s) else b.oldest } }
    let s2 := bufWrite s1 r
    { s2 with buffer := { s2.buffer with trigBlk := s2.buffer.cur } }
  else
    match bufTakeAll s (gapAhead x.lost (recSrc r) ++ [r]) with
    | some s1 => setSink s1 0 { x with lost := tput none x.lost (recSrc r) none }
    | none =>
      if b.st = 3 then
        let s1 := setSink s 0 { x with lost := gapAdd x.lost 5 s.ht r }
        let s2 := if recType r = 6 then s1 else countDrop s1 0 r
        if reserveFull s r then { s2 with buffer := { s2.buffer with full := true } } else s2
      else
        let s1 := closeGaps s
        countDrop { s1 with buffer := { s1.buffer with st := 5 } } 0 r

/-- The head of the sink's queue into the buffer. -/
def bufferStep (s : State) : State :=
  let x := getSink s 0
  match x.recs with
  | [] => s
  | r :: t => bufferTake (setSink s 0 (sinkRefill s.ht 0 { x with recs := t })) r

/-- Records taken from the queue as long as the banks' credit reaches. -/
def bufferRun : Nat → State → State
  | 0, s => s
  | n + 1, s =>
    match (getSink s 0).recs with
    | [] => { s with buffer := { s.buffer with credit := 0 } }
    | r :: _ =>
      if s.buffer.credit < 10 * recUnits r then s
      else
        let s1 := bufferStep s
        bufferRun n { s1 with buffer := { s1.buffer with credit := s.buffer.credit - 10 * recUnits r } }

/-- What the banks in service take in one ht (Table 5.14): 14 to 26 tenths of a unit each, the number a free value. -/
def bufRate (s : State) : Nat := (8 - s.buffer.out.length) * min 26 (max 14 (Config.bufRate s.ht))

/-- One ht of the trace buffer's intake (DESIGN CHOICE, log entry 75). -/
def bufferTick (s : State) : State :=
  let x := getSink s 0
  if x.recs = [] then s
  else bufferRun (x.recs.length + x.wait.length) { s with buffer := { s.buffer with credit := s.buffer.credit + bufRate s } }

/-- Everything that stands in the sink's queue taken now. -/
def bufferFlush (s : State) : State :=
  forAll (List.range ((getSink s 0).recs.length + (getSink s 0).wait.length)) (fun s _ => bufferStep s) s

/-- The class as which a sink's queue treats a record: from the trigger until capture ends the buffer's takes reserve sources as P0 (R159). -/
def sinkCls (s : State) (n : Nat) (r : Rec) : Nat :=
  if n = 0 ∧ s.buffer.st = 3 ∧ reserveSrc s (recSrc r) then 0 else recCls r

/-- Whether a sink takes no records: the trace buffer in OFF mode or without banks (R157). -/
def sinkOff (s : State) (n : Nat) : Bool := n == 0 && (decide (bufMode s = 0) || decide (bufBlocks s = 0))

/-- Whether a sink's stream has ended: the trace buffer FULL or CAPTURED (R157). -/
def sinkEnded (s : State) (n : Nat) : Bool := n == 0 && (decide (s.buffer.st = 4) || decide (s.buffer.st = 5))

/-- A dropped record at a sink, with its reason: counted, and added to its source's gap. -/
def sinkLose (s : State) (n reason : Nat) (x : Sink) (r : Rec) : State :=
  countDrop (setSink s n { x with gaps := gapAdd x.gaps reason s.ht r }) n r

/-- SINK_OFFER (R154) at a sink's queue of 16,384 units. While the spill ring is full and not overwritten, the spill path drops every
record with reason SINK, and then its pending gaps go first (R162). A GAP or TRIG that does not fit waits, and nothing of its source goes
before it. -/
def offerSink (s : State) (n : Nat) (r : Rec) : State :=
  if sinkOff s n then s
  else if sinkEnded s n then countDrop s n r
  else
    let blocked := n == 2 && spillFull s && !bit (reg s rTrcSpillCtrl) 0
    let y := sinkRefill s.ht n (getSink s n)
    let x := if blocked then { y with ringFull := true } else if y.ringFull then sinkGaps s.ht y else y
    let p := partOfSrc s (recSrc r)
    let ll := isLossless s p
    let fill := sinkFill n x
    let need := recUnits r + gapNeed x.gaps (recSrc r) + unitsOf (x.wait.filter fun w => recSrc w == recSrc r)
    if blocked && recType r != 6 then sinkLose s n 4 x r
    else
      let s1 := if ll && overThreshold 16384 fill (sinkCls s n r) then
          forAll ((List.range 64).filter fun p => bit (reg s rTrcLlMask) p) (fun s p => wantHold s (some p) (.sink n)) s
        else s
      match (if ll then verdictLl else verdict) 16384 fill need (sinkCls s n r) (recType r) with
      | .take => setSink s1 n (sinkPut s.ht n { x with gaps := tput none x.gaps (recSrc r) none } (gapAhead x.gaps (recSrc r) ++ [r]))
      | .wait => setSink s1 n { x with wait := x.wait ++ [r] }
      | .drop =>
        let s2 := sinkLose s1 n (dropReason s p 4) x r
        if ll then countF s2 rTrcLlCtrl 47 32 1 else s2

/-- A released record offered to every sink that is enabled and takes its class (R154). -/
def release (s : State) (r : Rec) : State :=
  let on (s : State) (n : Nat) : Bool := bit (reg s (rTrcSinkCfg + 8 * n)) 8 && bit (reg s (rTrcSinkCfg + 8 * n)) (recCls r)
  let s0 := if on s 0 then offerSink s 0 r else s
  let s1 := if on s0 1 then offerSink s0 1 r else s0
  if on s1 2 && regF s1 rTrcSpillSize 23 0 != 0 then offerSink s1 2 r else s1

/-! ### Parse and release -/

/-- TIME_EXTEND (R129): the largest time not above now with the received low 24 bits; with none, the low bits alone. -/
def extendTime (now low : Nat) : Nat :=
  let v := now / 2 ^ 24 * 2 ^ 24 + low % 2 ^ 24
  if v ≤ now then v else if 2 ^ 24 ≤ v then v - 2 ^ 24 else v

/-- Whether the funnel extends a record's time (R129): TSYNC, TERM, and a GAP with TV from a column. -/
def extends_ (input : Nat) (r : Rec) : Bool :=
  recType r == 3 || recType r == 5 || (recType r == 6 && bit r.hdr 31 && input != 16)

/-- A unit's time extended (R129). -/
def extendUnit (s : State) (u : Word) : Word := word (extendTime s.ht u.toNat)

/-- Whether a CARD record is a SUMMARY, whose first two units are times (R183). -/
def isSummary (r : Rec) : Bool := recType r == 0x0A && bits r.hdr 35 32 == 0

/-- A record as the funnel accepts it: its time extended (R129, R183, R201), and SUSPECT set where a class D block has just
ended (R130). Table 5.4 gives a TSYNC the bit; a TERM and a GAP are counted and have none (DESIGN CHOICE, log entry 67). -/
def acceptRec (s : State) (input : Nat) (r : Rec) : Rec × Bool :=
  if extends_ input r then
    let susp := decide (s.ht ≤ tget 0 s.funnel.suspectTo input) && decide (0 < tget 0 s.funnel.suspectTo input)
    (⟨if susp && recType r == 3 then setBits r.hdr 32 32 1 else r.hdr, extendUnit s (recPay r 0) :: r.pay.drop 1⟩, susp)
  else if isSummary r then
    (⟨r.hdr, extendUnit s (recPay r 0) :: extendUnit s (recPay r 1) :: r.pay.drop 2⟩, false)
  else if recType r = 0x0B then (⟨r.hdr, extendUnit s (recPay r 0) :: r.pay.drop 1⟩, false)
  else (r, false)

/-- The region of a record's source, for its clock rate. -/
def regionOfSrc (s : State) (src : Nat) : Nat :=
  if src < 0x8000 then regionOf (siteOf s (src / 4 % 4096)) else clusterRegion (src / 4 % 256)

/-- Whether a record holds a time in payload 0 (R149). A CARD section other than SUMMARY holds none and counts no edges: it keeps
its source's previous E. -/
def holdsTime (r : Rec) : Bool :=
  [3, 5, 7, 8, 9, 0x0B, 0x0D].contains (recType r) || isSummary r || (recType r == 6 && bit r.hdr 31)

/-- The estimated time E of a record (R149). The time that a CYC is worth while RATE is 0 is a free value. -/
def estimate (s : State) (r : Rec) : Rat :=
  let prev := tget none s.funnel.srcE (recSrc r)
  let rate : Rat := ((getR s (regionOfSrc s (recSrc r))).rate : Nat)
  let cyc : Nat := if recType r = 6 then bits (recPay r 1) 31 0 else if isCyc r then recCyc r else 0
  let e : Rat := if holdsTime r then ((recPay r 0).toNat : Nat)
    else match prev with
      | none => (s.ht : Nat)
      | some p => if rate = 0 then p + (Config.cycNoRate cyc : Nat) else p + (cyc * 4096 : Nat) / rate
  match prev with
  | some p => if e < p then p else e
  | none => e

/-- TRC_FUN_CTRL.WIN. -/
def winW (s : State) : Nat := regF s rTrcFunCtrl 31 16

/-- Whether stored record y goes before x at equal E (R150): lower input, then earlier arrival; one source's records never change places
(R30). -/
def tieBefore (y x : Store) : Bool :=
  if recSrc y.r = recSrc x.r then decide (y.seq < x.seq)
  else decide (y.inp < x.inp) || (y.inp == x.inp && decide (y.seq < x.seq))

/-- The stored record that goes first (R150): least E, then ties. -/
def firstOut : List Store → Option Store
  | [] => none
  | x :: t => match firstOut t with
    | none => some x
    | some y => if y.e < x.e ∨ (y.e = x.e ∧ tieBefore y x) then some y else some x

/-- The first stored record released to the sinks. -/
def releaseFirst (s : State) : State :=
  match firstOut s.funnel.store with
  | none => s
  | some x => release { s with funnel := { s.funnel with store := s.funnel.store.filter fun y => y.seq ≠ x.seq } } x.r

/-- Units in the reorder store. -/
def storeUnits (s : State) : Nat := (s.funnel.store.map fun x => recUnits x.r).sum

/-- Records released early until a number of units fits into the store of 32,768 (R150). -/
def makeRoom : Nat → Nat → State → State
  | 0, _, s => s
  | n + 1, need, s =>
    if storeUnits s + need ≤ 32768 ∨ s.funnel.store = [] then s
    else makeRoom n need (countF (releaseFirst s) rTrcFunStat 47 32 1)

/-- Stored records released in order up to and with the one of a number: all of them are due. -/
def releaseTo : Nat → Nat → State → State
  | 0, _, s => s
  | n + 1, seq, s => if s.funnel.store.any fun y => y.seq == seq then releaseTo n seq (releaseFirst s) else s

/-- A record that carries its time accepted into the reorder store. One later than its own E + W goes on at once, behind the stored
records of smaller E, which are due (R150, R30). -/
def storeRec (s : State) (input : Nat) (r : Rec) : State :=
  let e := estimate s r
  let s1 := makeRoom 32768 (recUnits r) { s with funnel := { s.funnel with srcE := tput none s.funnel.srcE (recSrc r) (some e) } }
  let q := s1.funnel.seq
  let s2 : State := { s1 with funnel := { s1.funnel with store := s1.funnel.store ++ [⟨r, e, input, q⟩], seq := q + 1 } }
  if e + (winW s : Nat) < (s.ht : Nat) then countF (releaseTo s2.funnel.store.length q s2) rTrcFunStat 63 48 1 else s2

/-- Whether two CARD records are of one tap's window: source, TAP and WSEQ. -/
def sameWindow (r x : Rec) : Bool :=
  recSrc r == recSrc x && bits r.hdr 29 20 == bits x.hdr 29 20 && bits r.hdr 15 0 == bits x.hdr 15 0

/-- The watchers of parsed records: the ring writer takes CSAMP records of the partitions in CNT_RING_MASK into its queue of 1,024
units (R203, R204), and the drift comparators SKETCH records and,
each comparator bound to the SUMMARY's tap in ascending number, the SUMMARY (R186, R187). -/
def watchParsed (s : State) (r : Rec) : State :=
  if recType r = 0x0B then
    if !(partOfSrc s (recSrc r)).any (bit (reg s rCntRingMask)) then s
    else if unitsOf s.ring.q + recUnits r + gapNeed s.ring.qgaps (recSrc r) ≤ 1024 ∨ bit (reg s rCntRingCtrl) 0 then
      { s with ring := { s.ring with q := s.ring.q ++ gapAhead s.ring.qgaps (recSrc r) ++ [r],
                                     qgaps := tput none s.ring.qgaps (recSrc r) none } }
    else countF { s with ring := { s.ring with qgaps := gapAdd s.ring.qgaps 4 s.ht r } } rCntRingCtrl 63 48 1
  else if recType r = 0x0A ∧ bits r.hdr 35 32 = 7 then { s with funnel := { s.funnel with cards := s.funnel.cards ++ [r] } }
  else if isSummary r then
    let parts := s.funnel.cards.filter (sameWindow r)
    let due := (List.range 64).filter fun n =>
      let c := regGet s (keyObj n rCrdDrfCtrl) rCrdDrfCtrl
      bit c 0 && bits c 43 34 == bits r.hdr 29 20
    { s with funnel := { s.funnel with
        cards := s.funnel.cards.filter fun x => recSrc x != recSrc r || bits x.hdr 29 20 != bits r.hdr 29 20,
        drifts := s.funnel.drifts ++ due.map fun n => (n, r :: parts) } }
  else s

/-- The head record of an input queue. -/
def inputHead (s : State) (n : Nat) : Option Rec :=
  if n = 16 then s.funnel.local_.head? else (tget [] s.funnel.cols n).head?

/-- Held hub events moved up into the local input as long as they fit (R151), and after them EMIT records that wait (R278). -/
def localRefill : Nat → Funnel → Funnel
  | 0, f => f
  | n + 1, f => match f.held, f.emitQ with
    | [], [] => f
    | [], (id, r) :: t => if unitsOf f.local_ + recUnits r ≤ 512 then
        localRefill n { f with local_ := f.local_ ++ [r], emits := f.emits ++ [id], emitQ := t }
      else f
    | h :: t, _ => if unitsOf f.local_ + recUnits h ≤ 512 then localRefill n { f with local_ := f.local_ ++ [h], held := t } else f

/-- The head record of an input queue removed. -/
def inputPop (s : State) (n : Nat) : State :=
  let f := s.funnel
  if n = 16 then { s with funnel := localRefill (f.held.length + f.emitQ.length) { f with local_ := f.local_.drop 1 } }
  else { s with funnel := { f with cols := tput [] f.cols n ((tget [] f.cols n).drop 1) } }

/-- The counts that a dump's END gives of its DUMP records (Table 8.9). -/
def noteDump (s : State) (r : Rec) : State :=
  if s.hang.running.isSome && recType r == 0x0C && bits r.hdr 35 32 != 15 then
    let st := bits r.hdr 31 28
    let h := s.hang
    { s with hang := { h with units := h.units + recUnits r, bad := h.bad + b2n (st == 1 || st == 2),
                              failed := h.failed + b2n (decide (3 ≤ st)) } }
  else s

/-- A class D record at an input's head: into the D queue of 4,096 units, or it holds its input back (R149, R155, R130). -/
def parseD (s : State) (n : Nat) (r : Rec) : State :=
  if unitsOf s.funnel.dq + recUnits r ≤ 4096 then
    let at_ := tget 0 s.funnel.blockAt n
    let s1 := noteDump (inputPop s n) r
    { s1 with funnel := { s1.funnel with
      dq := s1.funnel.dq ++ [r], blockAt := tput 0 s1.funnel.blockAt n 0,
      suspectTo := if 0 < at_ ∧ at_ + 2 ^ 22 < s.ht then tput 0 s1.funnel.suspectTo n (s.ht + 4000) else s1.funnel.suspectTo } }
  else if tget 0 s.funnel.blockAt n = 0 then { s with funnel := { s.funnel with blockAt := tput 0 s.funnel.blockAt n s.ht } }
  else s

/-- FUNNEL_PARSE (R149, R129, R130): the head record of an input into the reorder store or the D queue. An EMIT record so accepted
completes its ticket (R26, R278). -/
def execFunnelParse (input : Fin 17) (s : State) : Host.Outcome State Fault Refusal :=
  match inputHead s input with
  | none => ok s
  | some r =>
    if recCls r = 4 then ok (parseD s input r)
    else
      let a := acceptRec s input r
      let s0 := if a.2 then countF s rTrcFunStat 15 0 1 else s
      let s1 := if input.val = 16 ∧ recType r = 9 then
          s0.funnel.emits.head?.elim s0 fun id =>
            post { s0 with funnel := { s0.funnel with emits := s0.funnel.emits.drop 1 } } id .ok 0
        else s0
      ok (storeRec (watchParsed (inputPop s1 input) a.1) input a.1)

/-- FUNNEL_RELEASE (R150): the record of least E, once hub time has reached E + W. -/
def execFunnelRelease (s : State) : Host.Outcome State Fault Refusal :=
  match firstOut s.funnel.store with
  | none => ok s
  | some x => if x.e + (winW s : Nat) ≤ (s.ht : Nat) then ok (releaseFirst s) else ok s

/-! ### Gaps that no record follows -/

/-- GAP_FLUSH (R144): a gap whose run began 40,000 ht ago is placed as soon as its queue has room. -/
def execGapFlush (point : DropPoint) (src : BitVec 16) (s : State) : Host.Outcome State Fault Refusal :=
  let k := src.toNat
  let dueIn (t : Tab (Option Gap)) : Option Gap := (tget none t k).filter fun g => g.since + 40000 ≤ s.ht
  match point with
  | .bobbin i =>
    let x := getS s i
    match dueIn x.gaps with
    | some g => if unitsOf x.fifo + 3 ≤ 8 then
        ok (setS s i { x with fifo := x.fifo ++ [gapRec k g], gaps := tput none x.gaps k none }) else ok s
    | none => ok s
  | .flyer f =>
    let x := getF s f
    if 128 < unitsOf (x.q.map QRec.r) + 3 then ok s
    else match dueIn x.ages, dueIn x.gaps with
    | some g, _ =>
      let ahead := x.q.takeWhile fun y => recSrc y.r != k
      ok (setF s f { x with q := ahead ++ ⟨gapRec k g, s.ht⟩ :: x.q.drop ahead.length, ages := tput none x.ages k none })
    | none, some g => ok (setF s f { x with q := x.q ++ [⟨gapRec k g, s.ht⟩], gaps := tput none x.gaps k none })
    | none, none => ok s
  | .sink n =>
    let x := getSink s n
    if sinkEnded s n then ok s
    else match (if n = 0 then dueIn x.lost else none), dueIn x.gaps with
    | some g, _ => ok ((bufTake s (gapRec k g)).elim s fun s1 => setSink s1 0 { x with lost := tput none x.lost k none })
    | none, some g =>
      if sinkFill n x + unitsOf x.wait + 3 ≤ 16384 then
        ok (setSink s n (sinkPut s.ht n { x with gaps := tput none x.gaps k none } [gapRec k g]))
      else ok s
    | none, none => ok s
  | .ring =>
    if 1024 < unitsOf s.ring.q + 3 then ok s
    else match dueIn s.ring.gaps, dueIn s.ring.qgaps with
    | some g, _ => ok { s with ring := { s.ring with q := gapRec k g :: s.ring.q, gaps := tput none s.ring.gaps k none } }
    | none, some g => ok { s with ring := { s.ring with q := s.ring.q ++ [gapRec k g], qgaps := tput none s.ring.qgaps k none } }
    | none, none => ok s

/-! ### The buffer's commands -/

/-- The end of a capture (R160): what stands in the sink's queue is taken as far as it finds blocks (DESIGN CHOICE, log entry 75), then come
the closing gaps, STATE CAPTURED, line 3 and the record CAPTURE_END with its cause. -/
def endCapture (s : State) (cause : Nat) : State :=
  let s1 := closeGaps (bufferFlush s)
  hevt (raiseLine { s1 with buffer := { s1.buffer with st := 4, trigAt := none } } 3) 0x007 cause []

/-- The buffer emptied by a write of MODE (R157), with its sink's queue (log entry 75), which arms the trigger in WINDOW mode. TRIG_BLK reads 0
after it (DESIGN CHOICE, log entry 69). -/
def bufferMode (s : State) (v : Word) : State :=
  let s1 := if s.buffer.st = 3 then endCapture s 2 else s
  let s2 := setReg s1 rTrcWinCtrl (((layAt rTrcWinCtrl).elim (reg s1 rTrcWinCtrl) fun l => l.write (reg s1 rTrcWinCtrl) v))
  let m := bits v 1 0
  let b := s2.buffer
  let st := if m = 0 then 0 else if m = 2 then 2 else 1
  setSink { s2 with buffer := { Buffer.fresh with st := st, out := b.out, errAt := b.errAt } } 0
    { getSink s2 0 with gaps := [], lost := [], recs := [], wait := [] }

/-- BUFFER_TRIGGER's effect (R158): STATE POST, and a TRIG record at the trigger's hub time. -/
def fireTrigger (s : State) (time line : Nat) (sw : Bool) : State :=
  if bufMode s ≠ 2 then s
  else if s.buffer.st = 2 then
    pushLocal { s with buffer := { s.buffer with st := 3, trigAt := some time } }
      (mkRec (srcDistaff 9) 0x0D 0 (line * 2 ^ 30 + b2n sw * 2 ^ 29) [word time])
  else countF s rTrcWinStat 63 48 1

/-- BUFFER_TRIGGER (R158): a rise of TLINE that has not acted yet. -/
def execBufferTrigger (s : State) : Host.Outcome State Fault Refusal :=
  match s.buffer.rises with
  | [] => ok s
  | t :: l => ok (fireTrigger { s with buffer := { s.buffer with rises := l } } t (regF s rTrcWinCtrl 37 32) false)

/-- CAPTURE_END (R160): the reserve is full, or TRC_WIN_TMO has passed since the trigger. -/
def execCaptureEnd (s : State) : Host.Outcome State Fault Refusal :=
  let tmo := regF s rTrcWinTmo 31 0
  if s.buffer.st ≠ 3 then ok s
  else if s.buffer.full then ok (endCapture s 0)
  else if tmo ≠ 0 ∧ (s.buffer.trigAt.getD s.ht) + tmo ≤ s.ht then ok (endCapture s 1)
  else ok s

/-- Whether a tenant may see a record of the buffer (R161). -/
def mayTrace (s : State) (who : Who) (r : Rec) : Bool :=
  match rightsOf s who with
  | .tenant k =>
    if 0xC000 ≤ recSrc r then recType r == 7 || recType r == 0x0D
    else (partOfSrc s (recSrc r)).elim false (tenHas s k)
  | _ => true

/-- The header of the record that holds unit u of a block, walking the block's records from unit i on. -/
def ownerOf (unit : Nat → Word) (u : Nat) : Nat → Nat → Word
  | 0, i => unit i
  | n + 1, i =>
    let h := unit i
    let len := if h = 0 then 1 else 1 + bits h 39 36
    if u < i + len then h else ownerOf unit u n (i + len)

/-- The unit that TRC_BUF_RDATA shows at an address taken modulo the capacity; a record a tenant may not see reads as NULL. -/
def bufUnit (s : State) (who : Who) (a : Nat) : Word :=
  let a := a % max 1 (512 * bufBlocks s)
  let blk := a / 512
  let h := ownerOf (fun i => tget 0 s.buffer.units (512 * blk + i)) (a % 512) 512 0
  if mayTrace s who ⟨h, []⟩ then tget 0 s.buffer.units a else 0

/-- A logical unit address after the bank at place j has closed up (R156): none for its own units. -/
def closeUp (j : Nat) (blk : Nat) : Option Nat :=
  if blk < 4096 * j then some blk else if blk < 4096 * (j + 1) then none else some (blk - 4096)

/-- A bank leaves the buffer (R156): its contents are lost, the others keep theirs and the indices close up. -/
def retireBank (s : State) (bank : Nat) : State :=
  let b := s.buffer
  let j := ((List.range bank).filter fun n => !b.out.contains n).length
  let blocks := (List.range b.held).map fun n => (b.oldest + n) % max 1 (bufBlocks s)
  let kept := blocks.filterMap (closeUp j)
  let at_ (x : Nat) : Nat := (closeUp j x).getD (4096 * j)
  let units := b.units.filterMap fun e => (closeUp j (e.1 / 512)).map fun n => (512 * n + e.1 % 512, e.2)
  let bad := b.bad.filterMap fun a => (closeUp j (a / 512)).map fun n => 512 * n + a % 512
  { s with buffer := { b with units := units, bad := bad, errAt := tput 0 b.errAt bank 0, cur := b.cur.bind (closeUp j), wr := at_ b.wr, oldest := kept.headD (at_ b.oldest),
                              held := kept.length, torn := b.torn || b.st == 3, out := b.out ++ [bank],
                              trigBlk := b.trigBlk.bind (closeUp j) } }

end Sys2Proof.Machine
end

