-- ==== Sys2Proof/Machine/Card.lean ====
section
/-! DEFINITION. The Card engines (06): tap entries and windows (R165 to R172), number formats (R173 to R175), the statistics
(R176 to R181), result records (R182 to R184), the drift comparators (R185 to R187) and the rotation (R188). -/

namespace Sys2Proof.Machine

/-! ### Number formats -/

/-- Width of a format's elements (Table 6.2); none for a reserved code. -/
def fmtWidth (f : Nat) : Option Nat :=
  match f with
  | 0x00 | 0x14 => some 32
  | 0x01 | 0x02 => some 16
  | 0x03 | 0x04 | 0x08 | 0x09 | 0x0D | 0x10 | 0x11 => some 8
  | 0x05 | 0x06 | 0x0A | 0x0B => some 6
  | 0x07 | 0x0C | 0x12 | 0x13 => some 4
  | _ => none

/-- Whether a format is an MX format. -/
def fmtMx (f : Nat) : Bool := decide (8 ≤ f) && decide (f ≤ 0xD)

/-- What a floating-point format does with an exponent of all ones. -/
inductive Special where
  | ieee | e4m3 | none_
  deriving DecidableEq, Repr

/-- Exponent bits, fraction bits, bias and special values of a floating-point format; none for an integer format. -/
def fmtFloat (f : Nat) : Option (Nat × Nat × Nat × Special) :=
  match f with
  | 0x00 => some (8, 23, 127, .ieee)
  | 0x01 => some (5, 10, 15, .ieee)
  | 0x02 => some (8, 7, 127, .ieee)
  | 0x03 | 0x08 => some (4, 3, 7, .e4m3)
  | 0x04 | 0x09 => some (5, 2, 15, .ieee)
  | 0x05 | 0x0A => some (3, 2, 3, .none_)
  | 0x06 | 0x0B => some (2, 3, 1, .none_)
  | 0x07 | 0x0C => some (2, 1, 1, .none_)
  | _ => none

/-- The class and value of an element (R173): values in units of 2 ^ -149, never 0. -/
inductive El where
  | zero
  | nan
  | inf (neg : Bool)
  | fin (v : Int) (subn : Bool)
  deriving DecidableEq, Repr

/-- An integer times 2 ^ e in units of 2 ^ -149. -/
def elFix (m e : Int) (subn : Bool) : El := if m = 0 then .zero else .fin (m * 2 ^ (149 + e).toNat) subn

/-- An element's class and value from its code and its block's scale exponent (0 for a format without scales). -/
def decodeEl (f code : Nat) (sc : Int) : El :=
  match fmtFloat f with
  | some (eb, mb, bias, sp) =>
    let ex := code / 2 ^ mb % 2 ^ eb
    let fr := code % 2 ^ mb
    let neg := decide (code / 2 ^ (eb + mb) % 2 = 1)
    let sg (n : Nat) : Int := if neg then -(n : Int) else n
    if sp = .ieee ∧ ex = 2 ^ eb - 1 then (if fr = 0 then .inf neg else .nan)
    else if sp = .e4m3 ∧ ex = 2 ^ eb - 1 ∧ fr = 2 ^ mb - 1 then .nan
    else if ex = 0 then elFix (sg fr) (1 - bias - mb + sc) true
    else elFix (sg (fr + 2 ^ mb)) (ex - bias - mb + sc) false
  | none =>
    let w := (fmtWidth f).getD 32
    let signed : Int := if f ≠ 0x11 ∧ f ≠ 0x13 ∧ 2 ^ (w - 1) ≤ code then (code : Int) - 2 ^ w else code
    if f = 0x0D then elFix signed (sc - 6) false else elFix signed 0 false

/-- Whether a code is saturated (R173): a magnitude of the format's largest finite one, an integer's outermost codes. -/
def isSat (f code : Nat) : Bool :=
  match fmtFloat f with
  | some (eb, mb, _, sp) =>
    let top := match sp with
      | .ieee => (2 ^ eb - 1) * 2 ^ mb - 1
      | .e4m3 => 2 ^ (eb + mb) - 2
      | .none_ => 2 ^ (eb + mb) - 1
    decide (code % 2 ^ (eb + mb) = top)
  | none =>
    let w := (fmtWidth f).getD 32
    if f = 0x0D then decide (code = 0x7F ∨ code = 0x81)
    else if f = 0x11 ∨ f = 0x13 then decide (code = 2 ^ w - 1)
    else decide (code = 2 ^ (w - 1) - 1 ∨ code = 2 ^ (w - 1))

/-- An accumulated element: index, lane code (with the scale for MX formats), element code, class and value. -/
structure Elem where
  idx  : Nat
  lane : Nat
  code : Nat
  val  : El
  deriving DecidableEq, Repr

/-- The scales of the blocks of 32 elements (R174) after a lane: a block takes that of its first element, and another lane's that differs is
a mix. Entries are one more than the scale code. -/
def blockScale (x : Tab Nat × Bool) (e : Nat × BitVec 32) : Tab Nat × Bool :=
  let c := e.2.toNat / 2 ^ 24 + 1
  let old := tget 0 x.1 (e.1 / 32)
  if old = 0 then (tput 0 x.1 (e.1 / 32) c, x.2) else (x.1, x.2 || old != c)

/-- The accumulated elements of a window, decoded with the scales of their blocks. -/
def decodeAll (f : Nat) (scales : Tab Nat) (l : List (Nat × BitVec 32)) : List Elem :=
  let w := (fmtWidth f).getD 32
  l.map fun e =>
    let code := e.2.toNat % 2 ^ w
    if fmtMx f then
      let sc := tget 0 scales (e.1 / 32) - 1
      ⟨e.1, e.2.toNat / 2 ^ 24 * 2 ^ 24 + code, code, if sc = 0xFF then .nan else decodeEl f code ((sc : Int) - 127)⟩
    else ⟨e.1, code, code, decodeEl f code 0⟩

/-! ### Statistics (Table 6.3) -/

/-- The finite value of an element, in units of 2 ^ -149. -/
def El.value : El → Option Int
  | .zero => some 0
  | .fin v _ => some v
  | _ => none

/-- A saturating 32-bit count of the elements of a kind. -/
def countIf (p : Elem → Bool) (l : List Elem) : Nat := min (2 ^ 32 - 1) (l.filter p).length

/-- The element that a comparison of values prefers; a tie keeps the lower index. -/
def pickBy (better : Int → Int → Bool) (l : List Elem) : Option Elem :=
  l.foldl (fun best e => match e.val.value, best with
    | none, _ => best
    | some _, none => some e
    | some v, some b => if better v (b.val.value.getD 0) then some e else best) none

/-- SUM: bit 0 weighs 2 ^ -149. -/
def sumOf (l : List Elem) : Int := (l.filterMap fun e => e.val.value).foldl (· + ·) 0

/-- SUMSQ: bit 0 weighs 2 ^ -298. -/
def sumSqOf (l : List Elem) : Nat := (l.filterMap fun e => e.val.value.map fun v => v.natAbs * v.natAbs).foldl (· + ·) 0

/-- A histogram of 64 bins from each element's bin. -/
def histOf (bins : List Nat) : List Nat :=
  (List.range 64).map fun b => min (2 ^ 32 - 1) (bins.filter (· == b)).length

/-- A signed field of 9 bits. -/
def signed9 (n : Nat) : Int := if 256 ≤ n then (n : Int) - 512 else n

/-- EXPH bin of an element (R177). -/
def exphBin (base : Int) (v : El) : Nat :=
  match v with
  | .zero => 0
  | .nan => 63
  | .inf _ => 63
  | .fin x _ =>
    let e : Int := ilog2 x.natAbs - 149
    if e < base then 1 else if base + 59 < e then 62 else (e - base).toNat + 2

/-- VH_ERR (R178). -/
def vhErr (w : Window) : Bool :=
  !bit w.cfg 5 && (match ofB32 (bits w.vh 63 32), ofB32 (bits w.vh 31 0) with
    | .fin _ _, .fin m _ => decide (m ≤ 0)
    | _, _ => true)

/-- Edge k of the linear value histogram: LO + k × STEP rounded once. -/
def vhEdge (w : Window) (k : Nat) : F :=
  match ofB32 (bits w.vh 63 32), ofB32 (bits w.vh 31 0) with
  | .fin m e, .fin n f =>
    ofB32 (toB32 (.fin (m * 2 ^ (e + 149).toNat + k * (n * 2 ^ (f + 149).toNat)) (-149)))
  | _, _ => .nan

/-- Whether edge k of the logarithmic value histogram lies at or below a magnitude in units of 2 ^ -149. -/
def vhLogBelow (w : Window) (k mag : Nat) : Bool :=
  let q := 2 ^ bits w.cfg 4 3
  let lb := signed9 (bits w.vh 40 32)
  decide (2 ^ (509 + lb + (k / q : Nat)).toNat * (q + k % q) * (8 / q) ≤ mag * 2 ^ 363)

/-- VALH bin of a finite value (R178). -/
def valhBin (w : Window) (v : Int) : Nat :=
  ((List.range 63).filter fun k =>
    if bit w.cfg 5 then vhLogBelow w k v.natAbs else !(F.lt (.fin v (-149)) (vhEdge w k))).length

/-- SCALEH bin of a scale code (R179). -/
def scalehBin (sb c : Nat) : Nat :=
  if c = 0xFF then 63 else if c < sb then 0 else min 62 (c - sb + 1)

/-- The K largest magnitudes, a tie keeping the lower index. -/
def topK : Nat → List Elem → List Elem
  | 0, _ => []
  | n + 1, l => match pickBy (fun v b => decide (b.natAbs < v.natAbs)) l with
    | none => []
    | some e => e :: topK n (l.filter fun x => x.idx ≠ e.idx)

/-- The sign generator of the sketch (R180). -/
def sketchHash (seed : Word) (i : Nat) : Word :=
  let z := seed + word ((i + 1) * 0x9E3779B97F4A7C15)
  let z := (z ^^^ (z >>> 30)) * 0xBF58476D1CE4E5B9
  let z := (z ^^^ (z >>> 27)) * 0x94D049BB133111EB
  z ^^^ (z >>> 31)

/-- A value quantised to 2 ^ sk (R180), and whether it was clipped. -/
def quantise (sk : Int) (v : Int) : Int × Bool :=
  let k := 149 + sk
  let n := if 0 ≤ k then rne v.natAbs k.toNat false else v.natAbs * 2 ^ (-k).toNat
  let c := min n (2 ^ 62 - 1)
  (if v < 0 then -(c : Int) else c, decide (2 ^ 62 - 1 < n))

/-- SK_LSB of a window. -/
def skLsb (w : Window) : Int := signed9 (bits w.cfg 30 22)

/-- SK_SAT. -/
def skSat (w : Window) (l : List Elem) : Bool :=
  l.any fun e => e.val.value.any fun v => (quantise (skLsb w) v).2

/-- Projection p of the sketch as binary32. -/
def projection (w : Window) (l : List Elem) (p : Nat) : Nat :=
  let acc := l.foldl (fun (a : Int) e => match e.val.value with
    | none => a
    | some v => if bit (sketchHash w.seed e.idx) p then a - (quantise (skLsb w) v).1 else a + (quantise (skLsb w) v).1) 0
  toB32 (.fin acc (skLsb w))

/-- The bytes that the CRC runs over (R181): each block's scale before its first element. -/
def crcBytes (f : Nat) (scales : Tab Nat) : List Elem → Option Nat → List Byte
  | [], _ => []
  | e :: t, prev =>
    let w := (fmtWidth f).getD 32
    let n := if w = 32 then 4 else if w = 16 then 2 else 1
    let pre := if fmtMx f ∧ prev ≠ some (e.idx / 32) then [BitVec.ofNat 8 (tget 0 scales (e.idx / 32) - 1)] else []
    pre ++ ((List.range n).map fun i => BitVec.ofNat 8 (e.code / 256 ^ i)) ++ crcBytes f scales t (some (e.idx / 32))

/-- CRC-64 of R181. -/
def crc64 (l : List Byte) : Nat := Nat.xor (l.foldl (crcByte 64 0x42F0E1EBA9EA3693) (2 ^ 64 - 1)) (2 ^ 64 - 1)

/-! ### Result records -/

/-- Unit n of a number. -/
def unitOf (v n : Nat) : Word := word (v / 2 ^ (64 * n) % 2 ^ 64)

/-- Two 32-bit numbers as a unit. -/
def pair32 (hi lo : Nat) : Word := word (hi % 2 ^ 32 * 2 ^ 32 + lo % 2 ^ 32)

/-- A table of 64 entries of 32 bits as four parts of 8 units. -/
def parts64 (l : List Nat) : List (List Word) :=
  (List.range 4).map fun q => (List.range 8).map fun u => pair32 (l.getD (16 * q + 2 * u + 1) 0) (l.getD (16 * q + 2 * u) 0)

/-- The sections of a window's result set but SUMMARY: SECT, PART and payload in ascending order (Table 6.4). -/
def sections (w : Window) : List (Nat × Nat × List Word) :=
  let f := w.fmt.getD 0
  let l := decodeAll f w.scales w.elems
  let scales := w.scales.filter fun b => w.elems.any fun e => decide (e.1 / 32 = b.1)
  let on (n : Nat) : Bool := bit w.cfg (45 + n)
  let number (n : Nat) (ps : List (List Word)) : List (Nat × Nat × List Word) :=
    ((List.range ps.length).zip ps).map fun e => (n, e.1, e.2)
  let k := min 16 (bits w.cfg 44 40)
  let top := (topK k l).map fun e => pair32 e.idx e.lane
  let sum := twos 384 (sumOf l)
  (if on 1 then number 1 [(List.range 6).map (unitOf sum)] else []) ++
  (if on 2 then number 2 [(List.range 10).map (unitOf (sumSqOf l))] else []) ++
  (if on 3 then number 3 (parts64 (histOf (l.map fun e => exphBin (signed9 (bits w.cfg 39 31)) e.val))) else []) ++
  (if on 4 && !vhErr w then number 4 (parts64 (histOf (l.filterMap fun e => e.val.value.map (valhBin w)))) else []) ++
  (if on 5 && fmtMx f then number 5 (parts64 (histOf (scales.map fun e => scalehBin (bits w.cfg 21 14) (e.2 - 1)))) else []) ++
  (if on 6 then number 6 (([top.take 8, top.drop 8]).filter fun x => !x.isEmpty) else []) ++
  (if on 7 then number 7 (parts64 ((List.range 64).map (projection w l))) else []) ++
  (if on 8 then number 8 [[word (crc64 (crcBytes f scales l none))]] else [])

/-- FLAGS of a SUMMARY (Table 6.5). -/
def flagsOf (w : Window) (l : List Elem) (inc : Bool) : Nat :=
  b2n (l.any fun e => e.val.value.isSome) * 256 + b2n inc * 128 + b2n w.fmtMix * 64 +
    b2n (w.fmt.any fun f => (fmtWidth f).isNone) * 32 + b2n (fmtMx (w.fmt.getD 0) && w.scaleMix) * 16 + b2n (skSat w l) * 8 +
    b2n w.badCnt * 4 + b2n (vhErr w) * 2 + b2n (decide (w.xel = 0))

/-- The SUMMARY payload (Table 6.5). -/
def summaryPay (w : Window) (x : Card) (core entry close : Nat) (inc : Bool) : List Word :=
  let l := decodeAll (w.fmt.getD 0) w.scales w.elems
  let mn := pickBy (fun v b => decide (v < b)) l
  let mx := pickBy (fun v b => decide (b < v)) l
  let code (e : Option Elem) : Word := e.elim 0 fun e => pair32 e.idx e.lane
  [word (w.tOpen % 2 ^ 24), word (w.tLast % 2 ^ 24), word w.tag.toNat,
   word (w.n * 2 ^ 32 + core * 2 ^ 20 + bits w.matchW 62 61 * 2 ^ 18 + entry * 2 ^ 17 + w.fmt.getD 0 * 2 ^ 12 + close * 2 ^ 9 +
     flagsOf w l inc),
   pair32 (countIf (fun e => e.val == .zero) l) (countIf (fun e => match e.val with | .fin _ b => b | _ => false) l),
   pair32 (countIf (fun e => e.val == .nan) l) (countIf (fun e => e.val.value.isSome && isSat (w.fmt.getD 0) e.code) l),
   pair32 (countIf (fun e => e.val == .inf false) l) (countIf (fun e => e.val == .inf true) l),
   pair32 (countIf (fun e => e.val.value.any fun v => decide (v < 0)) l) w.xel,
   code mn, code mx,
   word (x.wlost * 2 ^ 48 + x.empty * 2 ^ 32 + x.untag), word (x.skip * 2 ^ 32)]

/-- A CARD record (R182). -/
def cardRec (cluster tap wseq sect part : Nat) (pay : List Word) : Rec :=
  mkRec (srcFlyer cluster 1) 0x0A 2 (sect * 2 ^ 32 + part * 2 ^ 30 + tap * 2 ^ 20 + wseq) pay

/-- The result set of a window (R182): enabled sections, then SUMMARY. -/
def resultSet (w : Window) (x : Card) (core entry wseq close : Nat) (inc : Bool) : List Rec :=
  let mk := cardRec (clusterOf core) (bits w.cfg 63 54) wseq
  ((sections w).map fun e => mk e.1 e.2.1 e.2.2) ++ [mk 0 0 (summaryPay w x core entry close inc)]

/-! ### Windows -/

/-- A Flyer's engine replaced. -/
def setCard (s : State) (f : Nat) (x : Card) : State := setF s f { getF s f with card := x }

/-- Agent register index of entry j (Table 6.1). -/
def tsIdx (base j : Nat) : Nat := base + 5 * j

/-- WINDOW_CLOSE (R171, R172, R182, R184): CLOSE codes of Table 6.5, and 5 for TAKEOVER, which sends nothing. -/
def closeWindow (s : State) (f code : Nat) : State :=
  let x := (getF s f).card
  match x.win, x.sel with
  | some w, some (i, j) =>
    if w.n = 0 then
      setCard s f { x with win := none, empty := satAdd 16 x.empty 1, dwell := x.dwell + 1, mark := s.ht }
    else
      let inc := w.incomplete || decide (3 ≤ code)
      let cov := ag s i (tsIdx aTsCov j)
      let wseq := bits cov 63 48
      let s1 := setAg s i (tsIdx aTsCov j) (setBits (setBits cov 63 48 (wseq + 1)) 23 0 (satAdd 24 (bits cov 23 0) 1))
      let s2 := if inc then countObj s1 f rCrdEngStat 47 32 1 else s1
      let y : Card := { x with win := none, untag := 0, skip := 0, empty := 0, dwell := x.dwell + 1, mark := s.ht }
      if code = 5 ∨ coreOf s i = none then setCard s2 f y
      else if 2 ≤ x.out.length then
        countObj (setCard s2 f { y with wlost := satAdd 16 x.wlost 1 }) f rCrdEngStat 63 48 1
      else setCard s2 f { y with wlost := 0, out := x.out ++ [resultSet w x (coreIdx s i) j wseq code inc] }
  | _, _ => setCard s f { x with win := none }

/-- Whether a tag matches an entry (R168). -/
def tagMatches (m : Word) (tag : BitVec 56) : Bool :=
  let t := tag.toNat
  (!bit m 60 || t / 2 ^ 32 == bits m 55 32) && (!bit m 59 || t / 2 ^ 16 % 2 ^ 16 == bits m 31 16) &&
    (!bit m 58 || t % 2 ^ 16 == bits m 15 0)

/-- A window opened under a tag, with the entry's settings as they stand (R166). -/
def openWindow (s : State) (f i j : Nat) (tag : BitVec 56) : State :=
  let w : Window := { matchW := ag s i (tsIdx aTsMatch j), cfg := ag s i (tsIdx aTsCfg j), vh := ag s i (tsIdx aTsVh j),
                      seed := ag s i (tsIdx aTsSeed j), tag := tag, tOpen := s.ht, tLast := s.ht, fmt := none, n := 0, xel := 0,
                      elems := [], fmtMix := false, badCnt := false, incomplete := false, scales := [], scaleMix := false }
  setCard s f { (getF s f).card with win := some w }

/-- The elements of one edge taken into a window; `cross` says that they exceed the alternate port's rate (R170, R175). -/
def windowTake (w : Window) (now cnt : Nat) (lanes : List (BitVec 32)) (fmt : BitVec 5) (cross : Bool) : Window :=
  let k := min cnt 64
  let els := (List.range k).map fun e => (w.n + e, lanes.getD e 0)
  let wf := w.fmt.getD fmt.toNat
  let mix := decide (wf ≠ fmt.toNat)
  let keep := !cross && !mix && (fmtWidth wf).isSome
  let sc := els.foldl blockScale (w.scales, w.scaleMix)
  { w with tOpen := if w.n = 0 then now else w.tOpen, tLast := now, fmt := some wf, n := w.n + k,
           xel := if keep then w.xel else satAdd 32 w.xel k, elems := if keep then w.elems ++ els else w.elems,
           fmtMix := w.fmtMix || mix, badCnt := w.badCnt || decide (64 < cnt), incomplete := w.incomplete || cross,
           scales := sc.1, scaleMix := sc.2 }

/-- The slower of a site's and its Flyer's region clocks, where a stream crosses regions (R170). -/
def crossClock (s : State) (f i : Nat) : Option Nat :=
  let a := regionOf i
  let b := clusterRegion f
  if isAlt s i && a != b then some (if (getR s a).rate ≤ (getR s b).rate then a else b) else none

/-- One word of the stream at the alternate port's rate across regions: whether it exceeds the rate, and the word that the port carried
last, of whatever tag (R170). -/
def tapRate (s : State) (f i : Nat) : Bool × Nat :=
  let last := (getF s f).card.lastEdge
  match crossClock s f i with
  | none => (false, last)
  | some r =>
    let at_ := (getR s r).edge
    if last ≠ 0 ∧ at_ + 1 < last + 8 then (true, last) else (false, at_ + 1)

/-- The elements of an edge (R171, rule 2; R172, SPLIT). -/
def tapElements (s : State) (f i j : Nat) (e : TapEdge) : State :=
  let rate := tapRate s f i
  let x : Card := { (getF s f).card with lastEdge := rate.2 }
  let k := min e.cnt 64
  if k = 0 then s
  else match x.tag, x.win with
    | none, _ => setCard s f { x with untag := satAdd 32 x.untag k }
    | some _, none => setCard s f { x with skip := satAdd 32 x.skip k }
    | some t, some w =>
      let s0 := setCard s f x
      let s1 := if 2 ^ 32 - 1 < w.n + k then openWindow (closeWindow s0 f 2) f i j t else s0
      let x1 := (getF s1 f).card
      setCard s1 f { x1 with win := x1.win.map fun w => windowTake w s.ht e.cnt e.lanes e.fmt rate.1 }

/-- TAP_EDGE (R171): tag, elements and command end of one edge of the stream that a Flyer's engine takes. -/
def execTapEdge (flyer : Nat) (edge : TapEdge) (s : State) : Host.Outcome State Fault Refusal :=
  let x := (getF s flyer).card
  match x.sel with
  | none => ok s
  | some (i, j) =>
    if x.failed || (getF s flyer).failed || (getS s i).inReset then ok s
    else
      let s1 := match edge.tag with
        | none => s
        | some t =>
          let a := if x.win.isSome then closeWindow s flyer 0 else s
          let b := setCard a flyer { (getF a flyer).card with tag := some t }
          let m := ag s i (tsIdx aTsMatch j)
          if bit m 63 && tagMatches m t then openWindow b flyer i j t else b
      let s2 := tapElements s1 flyer i j edge
      if edge.fin then
        let a := if (getF s2 flyer).card.win.isSome then closeWindow s2 flyer 1 else s2
        ok (setCard a flyer { (getF a flyer).card with tag := none })
      else ok s2

/-! ### Rotation (R188) -/

/-- The entries that a Flyer's engine may stream: site and entry, in ascending cluster, core and entry. -/
def candidates (s : State) (f : Nat) : List (Nat × Nat) :=
  let l := (sitesOf s f).flatMap fun i => [0, 1].filterMap fun j => if bit (ag s i (tsIdx aTsMatch j)) 63 then some (i, j) else none
  sortBy (fun e => 8192 * homeCluster s e.1 + 2 * coreIdx s e.1 + e.2) l

/-- The level driven on CA_TAP_EN and CA_TAP_SEL of a site. -/
def driveTap (s : State) (i : Nat) (en : Bool) (slot : Nat) : State := setS s i { getS s i with tapEn := en, tapSel := slot }

/-- An engine set on an entry, or on none: its counts restart (R172) and TS_CUR follows. -/
def selectTap (s : State) (f : Nat) (sel : Option (Nat × Nat)) : State :=
  let x := (getF s f).card
  let s1 := match x.sel with
    | some (i, _) => driveTap s i false (getS s i).tapSel
    | none => s
  let s2 := match sel with
    | some (i, j) => driveTap s1 i true (bits (ag s1 i (tsIdx aTsMatch j)) 62 61)
    | none => s1
  setCard s2 f { x with sel := sel, tag := none, untag := 0, skip := 0, empty := 0, dwell := 0, mark := s.ht, lastEdge := 0 }

/-- The candidate after one, round robin; the first where there is none before. -/
def nextCand (l : List (Nat × Nat)) (cur : Option (Nat × Nat)) : Option (Nat × Nat) :=
  match cur with
  | none => l.head?
  | some c =>
    match (List.range l.length).find? fun k => l[k]? == some c with
    | some k => l[(k + 1) % l.length]?
    | none => l.head?

/-- The level on CA_TAP_SEL follows the SLOT of the entry being streamed (Table 6.1, R166). -/
def redrive (s : State) (f : Nat) : State :=
  match (getF s f).card.sel with
  | some (i, j) => driveTap s i true (bits (ag s i (tsIdx aTsMatch j)) 62 61)
  | none => s

/-- An engine whose entry is no candidate any more leaves it, one without an entry takes a candidate, and one that goes on streaming its
entry drives the entry's slot (R166, R188). -/
def settleCard (s : State) (f : Nat) : State :=
  let x := (getF s f).card
  let l := candidates s f
  if x.failed then s
  else match x.sel with
    | none => if l = [] then s else selectTap s f l.head?
    | some c =>
      if l.contains c then redrive s f
      else
        let s1 := if x.win.isSome then closeWindow s f 3 else s
        let key (e : Nat × Nat) : Nat := 8192 * homeCluster s e.1 + 2 * coreIdx s e.1 + e.2
        selectTap s1 f ((l.find? fun e => decide (key c < key e)).or l.head?)

/-- TAP_ROTATE (R188): the move to the next candidate. -/
def execTapRotate (flyer : Nat) (s : State) : Host.Outcome State Fault Refusal :=
  let x := (getF s flyer).card
  let l := candidates s flyer
  if x.failed || (getF s flyer).failed then ok s
  else match x.sel with
    | none => ok (settleCard s flyer)
    | some (i, j) =>
      if !l.contains (i, j) then ok (settleCard s flyer)
      else
        let turn := decide (max 1 (bits (ag s i (tsIdx aTsCfg j)) 13 6) ≤ x.dwell)
        let late := decide (x.mark + 400000 ≤ s.ht)
        let halted := (partOf s i).any fun p => (getP s p).st == .halted
        if l.length ≤ 1 ∨ (turn || late) = false then ok s
        else if x.win.isSome ∧ (late && halted) = false then ok s
        else
          let s1 := if x.win.isSome then closeWindow s flyer 3 else s
          ok (countObj (selectTap s1 flyer (nextCand l x.sel)) flyer rCrdEngStat 31 16 1)

/-! ### Cross-trigger events -/

/-- An event of a channel at the present edge of the Flyer that serves the cluster: it fires `delay` edges later (R85). -/
def xtEvent (s : State) (cluster ch delay : Nat) : State :=
  match servedBy s cluster with
  | none => s
  | some f =>
    let x := getF s f
    let e : XtEvt := ⟨cluster, ch, (getR s (clusterRegion f)).edge + delay⟩
    if x.evts.contains e then s else setF s f { x with evts := x.evts ++ [e] }

/-! ### Drift (R186, R187) -/

/-- Drift level CH of a cluster inverts, at the Flyer that serves it (R187). -/
def driftInvert (s : State) (cluster ch waits : Nat) : State :=
  let x := getF s cluster
  let k := 8 * cluster + ch
  let l := tget (false, ⟨false, 0⟩) x.driftLv k
  setF s cluster { x with drift := tput (0, 0) x.drift k (s.ht + 1, waits), driftLv := tput (false, ⟨false, 0⟩) x.driftLv k (!l.1, l.2) }

/-- A change of drift level CH of a cluster, which waits while the last lies less than 40 ht back. -/
def driftLevel (s : State) (cluster ch : Nat) : State :=
  let x := getF s cluster
  let k := 8 * cluster + ch
  let d := tget (0, 0) x.drift k
  if d.1 ≠ 0 ∧ s.ht + 1 < d.1 + 40 ∨ d.2 ≠ 0 then setF s cluster { x with drift := tput (0, 0) x.drift k (d.1, d.2 + 1) }
  else driftInvert s cluster ch 0

/-- DRIFT_LEVEL_DEFERRED (R187): a change that waited, once 40 ht have passed since the last. -/
def execDriftLevelDeferred (cluster : Nat) (ch : Fin 8) (s : State) : Host.Outcome State Fault Refusal :=
  let d := tget (0, 0) (getF s cluster).drift (8 * cluster + ch)
  if d.2 = 0 ∨ s.ht + 1 < d.1 + 40 then ok s else ok (driftInvert s cluster ch (d.2 - 1))

/-- One edge of the serving Flyer's clock at a cluster's drift levels: a level that has stood through the three stages is delivered, and its change fires the
channel at the next edge (R187, R55). -/
def driftEdge (s : State) (cluster : Nat) : State :=
  forAll (getF s cluster).driftLv (fun s e =>
    let x := getF s cluster
    let l := levelEdge e.2.1 e.2.2
    let s1 := setF s cluster { x with driftLv := tput (false, ⟨false, 0⟩) x.driftLv e.1 (e.2.1, l) }
    if l.out = e.2.2.out then s1 else xtEvent s1 (e.1 / 8) (e.1 % 8) 1) s

/-- CRD_DRF_CTRL of a comparator. -/
def drfCtrl (s : State) (n : Nat) : Word := regGet s (keyObj n rCrdDrfCtrl) rCrdDrfCtrl

/-- DRIFT_TRIP (R187): line, HEVT, level, ONCE. -/
def driftTrip (s : State) (n : Nat) (sum : Rec) (cos rel tests : Nat) : State :=
  let c := drfCtrl s n
  let s1 := countObj s n rCrdDrfStat 63 48 1
  let s2 := if 16 ≤ bits c 33 28 then raiseLine s1 (bits c 33 28) else s1
  let s3 := if bit c 1 then
      hevt s2 0x600 (n * 2 ^ 16 + bits c 43 34) [pair32 cos rel, word (bits sum.hdr 15 0 * 2 ^ 48 + tests)] else s2
  let s4 := if bit c 27 then driftLevel s3 (recSrc sum / 4 % 256) (bits c 26 24) else s3
  if bit c 2 then regPut s4 (keyObj n rCrdDrfCtrl) rCrdDrfCtrl (setBits c 0 0 0) else s4

/-- The 64 binary32 codes of 32 units, two to a unit. -/
def codes32 (us : List Word) : List Nat := us.flatMap fun u => [bits u 31 0, bits u 63 32]

/-- Σ a_p b_p in binary64, p rising. -/
def dot (a b : List F) : F := ((a.zip b).map fun e => F.mul e.1 e.2).foldl F.add (.fin 0 0)

/-- cos and rel of measured and reference projections (R186). -/
def driftMeasure (a r : List F) : F × F :=
  let d := dot a r
  let x := dot a a
  let y := dot r r
  let one : F := .fin 1 0
  if x.isZero && y.isZero then (one, .fin 0 0)
  else if y.isZero then (.fin 0 0, .inf false)
  else if x.isZero then (.fin 0 0, one)
  else
    let sx := x.sqrt
    let sy := y.sqrt
    (F.div d (F.mul sx sy), F.div (F.abs (F.add sx sy.neg)) sy)

/-- DRIFT_COMPARE (R186): the comparator's compare that waits first, those of lower comparators done before. -/
def execDriftCompare (n : Fin 64) (s : State) : Host.Outcome State Fault Refusal :=
  match s.funnel.drifts with
  | (m, sum :: parts) :: rest =>
    if m ≠ n then ok s
    else
      let s0 : State := { s with funnel := { s.funnel with drifts := rest } }
      let c := drfCtrl s n
      let base := 8 * bits c 63 44
      let got := (List.range 4).map fun p => parts.find? fun x => bits x.hdr 31 30 = p
      let skip := !(got.all Option.isSome) || bit (recPay sum 3) 7 || bit (recPay sum 3) 5
      let inside := decide (base + 272 ≤ 0x800000)
      let ref := readUnits s.hubMem base 34
      let bad := !inside || decide (bits (recPay sum 3) 16 12 ≠ bits (ref.getD 1 0) 4 0)
      let a := (codes32 ((got.filterMap id).flatMap Rec.pay)).map ofB32
      let wild := a.any fun x => match x with | .fin _ _ => false | _ => true
      if bit c 0 = false then ok s0
      else if skip || bad then
        let s1 := if skip then countObj s0 n rCrdDrfStat 47 32 1 else s0
        ok (if bad then countObj s1 n rCrdDrfStat 31 16 1 else s1)
      else if wild then ok (countObj s0 n rCrdDrfStat 47 32 1)
      else
        let m := driftMeasure a ((codes32 (ref.drop 2)).map ofB32)
        let nf := bits (recPay sum 5) 63 32 + bits (recPay sum 6) 63 32 + bits (recPay sum 6) 31 0
        let lim := bits (ref.getD 1 0) 63 32
        let tests := b2n (F.lt m.1 (ofB32 (bits (ref.getD 0 0) 63 32))) + 2 * b2n (F.lt (ofB32 (bits (ref.getD 0 0) 31 0)) m.2) +
          4 * b2n (decide (lim ≠ 0xFFFFFFFF ∧ lim < nf))
        let s1 := countObj s0 n rCrdDrfStat 15 0 1
        let s2 := regPut s1 (keyObj n rCrdDrfLast) rCrdDrfLast (pair32 (toB32 m.1) (toB32 m.2))
        let s3 := regPut s2 (keyObj n rCrdDrfLastw) rCrdDrfLastw (word (bits sum.hdr 15 0 * 2 ^ 48 + tests))
        ok (if tests = 0 then s3 else driftTrip s3 n sum (toB32 m.1) (toB32 m.2) tests)
  | _ :: rest => ok { s with funnel := { s.funnel with drifts := rest } }
  | [] => ok s

end Sys2Proof.Machine
end

