-- ==== Sys2Proof/Machine/Hank.lean ====
section
/-! DEFINITION. The Hank store's MRAM: frames (R289, R290), slots (R291), the commit queue (R292 to R294), the journal (R296,
R297), lifetime counters (R298, R299), L0 slots and the dump index (R300, R301). -/

namespace Sys2Proof.Machine

/-! ### Frames -/

/-- CRC-32 of R256 over units in address order, each low byte first. -/
def crc32 (us : List Word) : Nat :=
  Nat.xor ((us.flatMap unitBytes).foldl (crcByteR 0xEDB88320) 0xFFFFFFFF) 0xFFFFFFFF

/-- TAG of a commit's frame (Table 11.2). A dump index entry has none. -/
def areaTag : Area → Nat
  | .journal => 0
  | .counters => 1
  | .calib => 2
  | .l0 => 3
  | .logstate => 5
  | .dindex => 15

/-- A frame (Table 11.2). -/
def mkFrame (tag origin cnum time boot : Nat) (body : List Word) : List Word :=
  let us := [word (tag * 2 ^ 60 + origin * 2 ^ 56 + body.length * 2 ^ 36), word cnum, word time] ++ body
  us ++ [word (crc32 us * 2 ^ 32 + boot % 2 ^ 32)]

/-- A frame read back: its units, when it is valid within an area of n units, none of them with an uncorrectable error (R290). -/
def readFrame (h : Hank) (base n : Nat) : Option (List Word) :=
  let u (i : Nat) : Word := tget 0 h.units (base + i)
  let len := bits (u 0) 55 36
  let tag := bits (u 0) 63 60
  if 6 < tag ∨ 9 < bits (u 0) 59 56 ∨ n < len + 4 ∨ (h.bad.any fun a => base ≤ a ∧ a < base + len + 4) then none
  else
    let us := (List.range (len + 4)).map u
    if crc32 (us.take (len + 3)) = bits (u (len + 3)) 63 32 then some us else none

/-- CNUM of a frame. -/
def frameCnum (us : List Word) : Nat := (us.getD 1 0).toNat

/-- Body of a frame. -/
def frameBody (us : List Word) : List Word := (us.drop 3).take (us.length - 4)

/-! ### Banks and slots -/

/-- The first unit of a bank. -/
def bankBase (b : Nat) : Nat := 2 ^ 19 * b

/-- The MRAM banks in service (R287). -/
def banks (s : State) : List Nat := (List.range 4).filter fun b => !s.hank.retired.contains b

/-- Units written from an address, each verified by reading it back (R288): `weak` tells how many of a unit's next writes read back wrong. A
unit is written again up to three times; after that the writing stops there, the unit holds an error, and the flag is true. -/
def putVerified : Nat → List Word → Hank → Hank × Bool
  | _, [], h => (h, false)
  | a, u :: us, h =>
    let k := tget 0 h.weak a
    let h1 : Hank := { h with weak := tput 0 h.weak a (k - min k 4) }
    if k ≤ 3 then putVerified (a + 1) us { h1 with units := tput 0 h.units a u, bad := h.bad.filter fun b => b ≠ a }
    else ({ h1 with bad := a :: h.bad.filter fun b => b ≠ a }, true)

/-- Units written into MRAM (R288): a write fault counts in HNK_ERR.WFAULT and against its bank. The state after it, and whether the
writing faulted. -/
def hankPut (s : State) (base : Nat) (us : List Word) : State × Bool :=
  let x := putVerified base us s.hank
  if x.2 then
    let b := base / 2 ^ 19
    let h := { x.1 with wfaults := tput [] x.1.wfaults b (s.ht :: (tget [] x.1.wfaults b).filter fun t => s.ht ≤ t + 4000000000) }
    (countF { s with hank := h } rHnkErr 63 48 1, true)
  else ({ s with hank := x.1 }, false)

/-- The newest valid frame of a pair of slots in any bank in service (R291): slot offset and size in units. -/
def newestFrame (s : State) (off n : Nat) : Option (List Word) :=
  let all := (banks s).flatMap fun b => [readFrame s.hank (bankBase b + off) n, readFrame s.hank (bankBase b + off + n) n].filterMap id
  all.foldl (fun best f => match best with
    | none => some f
    | some g => if frameCnum g < frameCnum f then some f else best) none

/-- A frame written into the older slot of the pair at a place: the one that is torn or holds the lower CNUM (R291). -/
def putSlot (s : State) (base n : Nat) (us : List Word) : State :=
  let second := match readFrame s.hank base n, readFrame s.hank (base + n) n with
    | some x, some y => decide (frameCnum y < frameCnum x)
    | some _, none => true
    | none, _ => false
  (hankPut s (base + (if second then n else 0)) us).1

/-- A frame written into the older slot of a pair in every bank in service (R291); a bank that faults keeps the others going (R288). -/
def putSlots (s : State) (off n : Nat) (us : List Word) : State :=
  forAll (banks s) (fun s b => putSlot s (bankBase b + off) n us) s

/-- The lagging copies of a pair rewritten from the newest (R314, step 1). -/
def syncSlots (s : State) (off n : Nat) : State :=
  match newestFrame s off n with
  | none => s
  | some f =>
    let has (b : Nat) : Bool := readFrame s.hank (bankBase b + off) n == some f || readFrame s.hank (bankBase b + off + n) n == some f
    forAll ((banks s).filter fun b => !has b) (fun s b => putSlot s (bankBase b + off) n f) s

/-! ### Lifetime counters -/

/-- The 256 lifetime counters as last made durable (R298). -/
def counters (s : State) : List Word :=
  let body := (newestFrame s 0x200 512).elim [] frameBody
  (List.range 256).map fun i => body.getD i 0

/-- One lifetime counter. -/
def counter (s : State) (i : Nat) : Nat := ((counters s).getD i 0).toNat

/-- One 16-byte entry of a COUNTERS commit (R298): the table after it and whether it was skipped. -/
def applyCounter (origin : Nat) (t : List Word) (op v : Word) : List Word × Bool :=
  let i := bits op 7 0
  let k := bits op 63 62
  let old := t.getD i 0
  if 2 ≤ k ∨ bits op 61 8 ≠ 0 ∨ (i < 16 ∧ origin ≠ 9) then (t, true)
  else if k = 0 then (t.set i (word (min (2 ^ 64 - 1) (old.toNat + v.toNat))), false)
  else (t.set i (if old.toNat < v.toNat then v else old), false)

/-- The entries of a COUNTERS commit in list order: the table after them and how many were skipped. -/
def applyCounters (origin : Nat) : List Word → List Word → List Word × Nat
  | t, op :: v :: rest =>
    let a := applyCounter origin t op v
    let b := applyCounters origin a.1 rest
    (b.1, b.2 + b2n a.2)
  | t, _ => (t, 0)

/-! ### Writing a commit -/

/-- The journal ring's length in units: 122,880 for each bank in service (R296). -/
def ringUnits (s : State) : Nat := 122880 * (banks s).length

/-- The MRAM unit at a journal ring offset. -/
def ringAddr (s : State) (o : Nat) : Nat := bankBase ((banks s).getD (o / 122880) 0) + 0x2000 + o % 122880

/-- A journal entry written at the ring's head (R296): never across a segment's end, and over the oldest. Where its bank faults, the entry goes
on to the next segment, at most once through the banks (R288; DESIGN CHOICE, log entry 77). -/
def putJournal (us : List Word) : Nat → State → State
  | 0, s => s
  | k + 1, s =>
    let n := us.length
    let total := max 1 (ringUnits s)
    let h := s.hank.jHead
    let left := 122880 - h % 122880
    let skip := decide (left < n)
    let o := if skip then (h + left) % total else h
    let s1 := if skip then (hankPut s (ringAddr s h) [0]).1 else s
    let hit (e : Nat × Nat) : Bool := decide (e.1 < o + n ∧ o < e.1 + e.2) || (skip && decide (h ≤ e.1 ∧ e.1 < h + left))
    let x := hankPut { s1 with hank := { s1.hank with jEnts := s.hank.jEnts.filter fun e => !hit e } } (ringAddr s o) us
    if x.2 then putJournal us k { x.1 with hank := { x.1.hank with jHead := (o + 122880 - o % 122880) % total } }
    else { x.1 with hank := { x.1.hank with jHead := (o + n) % total, jEnts := x.1.hank.jEnts ++ [(o, n)] } }

/-- The dump number that an L0 slot holds: none when its frame is torn (R300). -/
def slotNum (s : State) (b : Nat) : Option Nat :=
  (readFrame s.hank (bankBase b + 0x40000) 0x40000).map fun f => bits (f.getD 3 0) 63 32

/-- The L0 slot for a dump among banks (R300): the one it has, else an empty slot, else that of the lowest number. -/
def chooseSlot (s : State) (from_ : List Nat) (num : Nat) : Option Nat :=
  match s.hank.l0Slot with
  | some (n, b) => if n = num ∧ from_.contains b then some b else pick
  | none => pick
where
  pick : Option Nat := (from_.foldl (fun best b =>
    let v := (slotNum s b).getD 0
    match best with
    | none => some (v, b)
    | some (w, _) => if v < w then some (v, b) else best) none).map Prod.snd

/-- A dump's frame written into an L0 slot (R300); where its bank faults, into another's (R288; DESIGN CHOICE, log entry 77). -/
def putL0 (num : Nat) (us : List Word) : Nat → List Nat → State → State
  | 0, _, s => s
  | k + 1, from_, s => match chooseSlot s from_ num with
    | none => s
    | some b =>
      let x := hankPut { s with hank := { s.hank with l0Slot := some (num, b) } } (bankBase b + 0x40000) us
      if x.2 then putL0 num us k (from_.filter fun c => c ≠ b) x.1 else x.1

/-- Dump index entry at a place as a bank holds it. -/
def diIn (s : State) (i b : Nat) : List Word := (List.range 8).map fun k => tget 0 s.hank.units (bankBase b + 0x1000 + 8 * i + k)

/-- Whether a bank's units of a dump index entry hold no uncorrectable error. -/
def diGood (s : State) (i b : Nat) : Bool := (List.range 8).all fun k => !s.hank.bad.contains (bankBase b + 0x1000 + 8 * i + k)

/-- Dump index entry at a place, from the first bank in service that holds it whole. -/
def diEntry (s : State) (i : Nat) : List Word := diIn s i (((banks s).find? (diGood s i)).getD ((banks s).headD 0))

/-- Whether a dump index entry is valid (R301). -/
def diValid (e : List Word) : Bool :=
  decide (bits (e.getD 0 0) 31 28 ≠ 0) && decide (crc32 (e.take 7) = bits (e.getD 7 0) 63 32)

/-- The newest valid entry of a dump number (R301). -/
def newestEntry (s : State) (num : Nat) : Option (List Word) :=
  ((List.range 256).map fun k => diEntry s ((s.hank.diHead + 255 - k) % 256)).find? fun e =>
    bits (e.getD 0 0) 63 32 == num && diValid e

/-- Unit 4 of an entry: the NAND copy of a dump (Table 11.6): its first device, first block and pages. -/
def nandCopy (s : State) (num : Nat) : Word :=
  let pages := (List.range 2).flatMap fun d => (getN s d).blks.flatMap fun b =>
    (b.2.pages.filter fun p => p.num = num ∧ b.2.state ≠ 0 ∧ b.2.state ≠ 3).map fun p => (d, b.1, p.pidx)
  match pages.find? fun e => e.2.2 = 0 with
  | none => 0
  | some e => word (2 ^ 63 + e.1 * 2 ^ 62 + e.2.1 * 2 ^ 32 + pages.length % 2 ^ 32)

/-- A dump index entry written at the next place of every bank in service, with units 4 and 7 set by the controller. -/
def putEntry (s : State) (cnum : Nat) (body : List Word) : State :=
  let e := ((List.range 7).map fun k => body.getD k 0).set 4 (nandCopy s (bits (body.getD 0 0) 63 32))
  let us := e ++ [word (crc32 e * 2 ^ 32 + cnum % 2 ^ 32)]
  let s1 := forAll (banks s) (fun t b => (hankPut t (bankBase b + 0x1000 + 8 * s.hank.diHead) us).1) s
  { s1 with hank := { s1.hank with diHead := (s.hank.diHead + 1) % 256 } }

/-- A NAND map entry (R305). -/
def mapEntry (x : NBlk) : Word := word (x.state * 2 ^ 62 + min 262143 x.erases * 2 ^ 44 + x.next % 2 ^ 17 * 2 ^ 27 + x.eage % 2 ^ 27)

/-- A block of a NAND device. -/
def getB (s : State) (d b : Nat) : NBlk := tget NBlk.fresh (getN s d).blks b
/-- A block of a NAND device replaced. -/
def setB (s : State) (d b : Nat) (x : NBlk) : State :=
  let n := getN s d
  setN s d { n with blks := tput NBlk.fresh n.blks b x }

/-- The changed entries of a LOGSTATE body applied (R306): block index with the device in [20], then the entry. -/
def applyEntries : List Word → State → State
  | i :: e :: t, s =>
    let d := bits i 20 20
    let b := bits i 16 0
    let x := getB s d b
    applyEntries t (setB s d b { x with state := bits e 63 62, erases := bits e 61 44, next := bits e 43 27, eage := bits e 26 0 })
  | _, s => s

/-- A log head of a LOGSTATE body applied. -/
def applyHead (s : State) (d : Nat) (v : Word) : State :=
  setN s d { getN s d with head := if bit v 63 then some (bits v 48 32, bits v 15 0) else none }

/-- A LOGSTATE body applied to the maps (R306). -/
def applyLog (s : State) (body : List Word) : State :=
  applyEntries (body.drop 2) (applyHead (applyHead s 0 (body.getD 0 0)) 1 (body.getD 1 0))

/-- Whether a LOGSTATE still waits to become durable. -/
def logWaits (s : State) : Bool := (s.hank.queue ++ s.hank.inq).any fun c => c.area == .logstate

/-- A commit written where Table 11.3 says, with the write faults that its banks meet (R288). -/
def writeCommit (s : State) (c : Commit) : State :=
  let boot := counter s 0
  let frame := mkFrame (areaTag c.area) c.origin c.cnum c.time boot c.body
  match c.area with
  | .journal => putJournal frame (banks s).length s
  | .counters =>
    let a := applyCounters c.origin (counters s) c.body
    countF (putSlots s 0x200 512 (mkFrame 1 c.origin c.cnum c.time boot a.1)) rHnkErr2 15 0 a.2
  | .calib => putSlots s 0x800 1024 frame
  | .l0 => putL0 (bits (c.body.headD 0) 63 32) frame (banks s).length (banks s) s
  | .dindex => putEntry s c.cnum c.body
  | .logstate =>
    let s1 := applyLog (putSlots s 0x40 32 frame) c.body
    if logWaits s1 then s1 else { s1 with nands := tmap Nand.fresh (fun n => { n with owes := false }) s1.nands }

/-! ### The commit order -/

/-- Bytes of a commit's frame in the backlog (R294). -/
def commitBytes (c : Commit) : Nat :=
  match c.area with
  | .counters => 2080
  | .dindex => 64
  | .l0 => 0
  | _ => 8 * (c.body.length + 4)

/-- The commits of the backlog: all but L0. -/
def backlog (s : State) : List Commit := s.hank.queue.filter fun c => c.area ≠ .l0

/-- QBYTES. -/
def backlogBytes (s : State) : Nat := ((backlog s).map commitBytes).sum

/-- Whether the backlog has room for a commit (R294). -/
def hasRoom (s : State) (c : Commit) : Bool :=
  c.area == .l0 || (decide (backlogBytes s + commitBytes c ≤ 6144) && decide ((backlog s).length + 1 ≤ 16))

/-- Whether a NAND stream still owes the LOGSTATE that covers its last page (R307). -/
def nandOwes (s : State) : Bool := (List.range 2).any fun d => (getN s d).owes

/-- Whether the controller's input is open (R311, R314). -/
def inputOpen (s : State) : Bool := decide (1 ≤ s.hank.mount) && decide (s.hank.pfw = 0)

/-- A commit enters the commit order with the next number (R293). -/
def enterOrder (s : State) (c : Commit) : State :=
  let h := s.hank
  { s with hank := { h with queue := h.queue ++ [{ c with cnum := h.nextC, time := s.ht }], nextC := h.nextC + 1 } }

/-- Whether a dump index entry waits for its NAND copy (R307): a LOGSTATE is owed, or the dump's stream has not ended. -/
def copyWaits (s : State) (c : Commit) : Bool :=
  nandOwes s || (decide (c.origin < 8) && s.hank.stream.any fun t => t.num == bits (c.body.headD 0) 63 32)

/-- Whether the first waiting commit may enter now. -/
def mayEnter (s : State) (c : Commit) : Bool :=
  inputOpen s && hasRoom s c && !(c.area == .dindex && copyWaits s c)

/-- The waiting commits that a commit stands behind, and those behind it: a LOGSTATE goes ahead of a dump index entry, which waits for
it (R307). -/
def inqPlace (l : List Commit) (area : Area) : List Commit × List Commit :=
  if area = .logstate then (l.takeWhile fun c => c.area != .dindex, l.dropWhile fun c => c.area != .dindex) else (l, [])

/-- A commit handed to the controller (R292 to R294). With no bank in service it completes NOAGENT (R316). -/
def submit (s : State) (area : Area) (origin : Nat) (body : List Word) (opId : Option Nat := none) : State :=
  let c : Commit := ⟨area, origin, 0, 0, body, opId⟩
  let w := inqPlace s.hank.inq area
  if (banks s).isEmpty then opId.elim s fun id => post s id .noagent 0
  else if w.1.isEmpty && mayEnter s c then enterOrder s c
  else
    let s1 : State := { s with hank := { s.hank with inq := w.1 ++ c :: w.2 } }
    if inputOpen s && !hasRoom s c then countF s1 rHnkQueue 63 48 1 else s1

/-- A journal entry of the hub's own (R297): CODE, ARG and further units. -/
def journal (s : State) (code arg : Nat) (more : List Word := []) : State :=
  submit s .journal 9 (word (code * 2 ^ 48 + arg % 2 ^ 48) :: more)

/-- A lifetime counter raised by the hub (Table 11.5). -/
def addCounter (s : State) (i v : Nat) : State := submit s .counters 9 [word i, word v]

/-- The next dump number; a new batch of 16 is committed when fewer than 4 remain (R299). -/
def takeDumpNum (s : State) : Nat × State :=
  let n := s.hank.dumpNext
  let s1 : State := { s with hank := { s.hank with dumpNext := n + 1 } }
  if s1.hank.dumpEnd - s1.hank.dumpNext < 4 then
    (n, addCounter { s1 with hank := { s1.hank with dumpEnd := s1.hank.dumpEnd + 16 } } 3 16)
  else (n, s1)

/-- COMMIT_ADMIT (R294): the first waiting commit enters the commit order once the backlog has room. -/
def execCommitAdmit (s : State) : Host.Outcome State Fault Refusal :=
  match s.hank.inq with
  | [] => ok s
  | c :: t => if mayEnter s c then ok (enterOrder { s with hank := { s.hank with inq := t } } c) else ok s

/-- The first commit of the order written and reported durable (R292, R293). -/
def makeDurable (s : State) : State :=
  match s.hank.queue with
  | [] => s
  | c :: t =>
    let s1 := writeCommit { s with hank := { s.hank with queue := t } } c
    let s2 : State := { s1 with hank := { s1.hank with durable := c.cnum } }
    c.opId.elim s2 fun id => post s2 id .ok (c.cnum % 2 ^ 32)

/-- POWERED_TICK (R298): once per 2 ^ 32 ht of powered time. -/
def execPoweredTick (s : State) : Host.Outcome State Fault Refusal :=
  if s.hank.poweredN < s.ht / 2 ^ 32 then
    ok (addCounter { s with hank := { s.hank with poweredN := s.hank.poweredN + 1 } } 2 1)
  else ok s

/-! ### Power-fail warning -/

/-- Commits made durable in order until an L0 commit or the end (Table 11.8, steps 2 and 3). -/
def flush : Nat → State → State
  | 0, s => s
  | n + 1, s => match s.hank.queue with
    | [] => s
    | c :: _ => if c.area = .l0 then s else flush n (makeDurable s)

/-- An L0 commit stopped as it is written (R311, R300): unit 0 of the frame and the first body unit are in its slot. -/
def tearL0 (s : State) (c : Commit) : State :=
  let num := bits (c.body.headD 0) 63 32
  let b := (chooseSlot s (banks s) num).getD 0
  let base := bankBase b + 0x40000
  let h := word (3 * 2 ^ 60 + c.origin * 2 ^ 56 + c.body.length * 2 ^ 36)
  let t := tput 0 (tput 0 (tput 0 s.hank.units base h) (base + 3) (c.body.headD 0)) (base + c.body.length + 3) 0
  { s with hank := { s.hank with units := t, l0Slot := some (num, b) } }

/-- The log head of a NAND device as Table 11.9 gives it. -/
def logHead (s : State) (d : Nat) : Word :=
  (getN s d).head.elim 0 fun h => word (2 ^ 63 + h.1 * 2 ^ 32 + h.2)

/-- PFW_ASSERT (R311, Table 11.8): line 9, HEVT 0xA00, the L0 commit in progress stopped or the backlog written, the power-fail
record, and writes inhibited. A second assertion repeats nothing (R313). Before the mount there is no commit to write: the warning is given, and the
mount finds the pin low. -/
def execPfwAssert (s : State) : Host.Outcome State Fault Refusal :=
  let s0 : State := { s with hank := { s.hank with pinLow := true, pfwLast := s.ht } }
  if s.hank.pfw ≠ 0 ∨ s.boot.inReset ∨ (s.hank.mount = 0 ∧ s.hank.pinLow) then ok s0
  else if s.hank.mount = 0 then ok (hevt (raiseLine s0 9) 0xA00 0 [])
  else
    let s1 := hevt (raiseLine { s0 with hank := { s0.hank with pfw := 1, pfwAt := s.ht } } 9) 0xA00 0 []
    let l0 := s1.hank.queue.head?.filter fun c => c.area == .l0
    let s2 := flush 17 s1
    let s3 := l0.elim s2 fun c => tearL0 s2 c
    let body := [word (l0.elim 0 Commit.cnum),
      word ((s.hang.running.elim 0 Decl.num) * 2 ^ 32 + s2.hank.queue.length % 2 ^ 32), logHead s 0, logHead s 1]
    let us := mkFrame 6 9 s3.hank.durable s.ht (counter s3 0) body
    let s4 := forAll (banks s3) (fun t b => (hankPut t (bankBase b + 0x80) us).1) s3
    ok { s4 with hank := { s4.hank with stopped := l0, pfw := 2 } }

/-- PFW_GLITCH (R373): a pulse shorter than 400 ht is counted. -/
def execPfwGlitch (s : State) : Host.Outcome State Fault Refusal := ok (countF s rPinStat 63 48 1)

/-- PFW_CLEAR (R313): PFW_N has stayed deasserted for 400,000 ht since it last asserted. The inhibit is lifted, PFW_CLEAR journalled, a stopped L0 commit
stands first in the queue again, and the input opens. -/
def execPfwClear (s : State) : Host.Outcome State Fault Refusal :=
  if s.hank.pfw < 2 ∨ s.ht < s.hank.pfwLast + 400000 then ok s
  else
    let s1 : State := { s with hank := { s.hank with pfw := 0, pinLow := false, stopped := none } }
    ok (journal s1 0x8003 ((s.ht - 400000 - s.hank.pfwAt) % 2 ^ 32))

/-! ### Mount -/

/-- The highest commit number in any valid frame or the power-fail record (R293). -/
def highestCnum (s : State) : Nat :=
  let u := s.hank
  let slots := (banks s).flatMap fun b => [(0x0, 32), (0x20, 32), (0x40, 32), (0x60, 32), (0x80, 32), (0x200, 512), (0x400, 512),
    (0x800, 1024), (0xC00, 1024), (0x40000, 0x40000)].filterMap fun e => readFrame u (bankBase b + e.1) e.2
  let jrn := s.hank.jEnts.filterMap fun e => readFrame u (ringAddr s e.1) e.2
  (slots ++ jrn).foldl (fun m f => max m (frameCnum f)) 0

/-- The dumps whose newest valid entry is OPEN (R302). -/
def tornDumps (s : State) : List (List Word) :=
  let nums := (((List.range 256).map (diEntry s)).filter diValid).map fun e => bits (e.getD 0 0) 63 32
  nums.eraseDups.filterMap fun n => (newestEntry s n).filter fun e => bits (e.getD 0 0) 31 28 = 1

/-- CNUM of the newest START entry in the journal. -/
def lastStart (s : State) : Nat :=
  (s.hank.jEnts.filterMap fun e => readFrame s.hank (ringAddr s e.1) e.2).foldl (fun m f =>
    if bits (f.getD 3 0) 63 48 = 0x8001 ∧ bits (f.getD 0 0) 59 56 = 9 then max m (frameCnum f) else m) 0

/-- A torn dump marked (R302): a TORN entry, TORN, DUMP_TORN in the journal and as HEVT 0xA04. -/
def markTorn (s : State) (e : List Word) : State :=
  let num := bits (e.getD 0 0) 63 32
  let s1 := submit s .dindex 9 (e.set 0 (setBits (e.getD 0 0) 31 28 3))
  hevt (journal (addCounter s1 5 1) 0x8021 num) 0xA04 0 [word (num * 2 ^ 32)]

/-- The MRAM part of the mount at a hub reset (R314); nothing is written while PFW_N is asserted (R373). -/
def hankMount (s : State) : State :=
  if s.hank.mount ≠ 0 ∨ s.boot.inReset ∨ (banks s).isEmpty then s
  else
    let top := highestCnum s
    let pfr := ((banks s).filterMap fun b => readFrame s.hank (bankBase b + 0x80) 32).find? fun f =>
      decide (bits (f.getD 0 0) 63 60 = 6)
    let dumps := counter s 3
    let pon := counter s 0 + b2n s.hank.powerOn
    let first := s.hank.powerOn
    let torn := tornDumps s
    let log := newestFrame s 0x40 32
    let newPf := pfr.filter fun f => lastStart s < frameCnum f
    let sync := if s.hank.pinLow then s
      else forAll [(0x0, 32), (0x40, 32), (0x200, 512), (0x800, 1024)] (fun s e => syncSlots s e.1 e.2) s
    let s1 : State := { s with hank := { s.hank with
      units := sync.hank.units, bad := sync.hank.bad, mount := 1, mountAt := s.ht, nextC := top + 1, durable := top, powerOn := false, dumpNext := dumps + 1,
      dumpEnd := dumps + 17, pfw := if s.hank.pinLow then 3 else 0, pfwAt := s.hank.pfwLast } }
    let s1 := log.elim s1 fun f => applyLog s1 (frameBody f)
    let s2 := if first then addCounter s1 0 1 else s1
    let s3 := forAll torn markTorn s2
    let s4 := newPf.elim s3 fun f => addCounter (journal s3 0x8002 0 (frameBody f)) 1 1
    addCounter (journal s4 0x8001 (pon % 2 ^ 32) [word top]) 3 16

/-! ### Reads (R317) -/

/-- The MRAM unit that an address of a SPACE names, for the spaces that show units as they are stored. -/
def hankAddr (s : State) (space a : Nat) : Option Nat :=
  let b0 := bankBase ((banks s).headD 0)
  match space with
  | 0 => if a < ringUnits s then some (ringAddr s a) else none
  | 3 => if a < 2048 then some (b0 + 0x1000 + a) else none
  | 4 =>
    let b := a / 2 ^ 20 % 4
    if a / 2 ^ 22 = 0 ∧ a % 2 ^ 20 < 2 ^ 18 ∧ (banks s).contains b then some (bankBase b + 0x40000 + a % 2 ^ 18) else none
  | 6 => if a < 32 then some (b0 + 0x80 + a) else none
  | _ => none

/-- The unit that HNK_RD_DATA shows for a SPACE other than NAND, and its ECC code: 2 for an uncorrectable unit, 3 for an address outside
the space. -/
def hankUnit (s : State) (space a : Nat) : Word × Nat :=
  match space with
  | 1 => if a < 256 then ((counters s).getD a 0, 0) else (0, 3)
  | 2 =>
    let body := (newestFrame s 0x800 1024).elim [] frameBody
    if a < body.length then (body.getD a 0, 0) else (0, 3)
  | 0 | 3 | 4 | 6 => match hankAddr s space a with
    | none => (0, 3)
    | some k => if s.hank.bad.contains k then (Config.badUnit k, 2) else (tget 0 s.hank.units k, 0)
  | _ => (0, 0)

end Sys2Proof.Machine
end

