-- ==== Sys2Proof/Machine/Hang.lean ====
section
/-! DEFINITION. Watchdog reports (R208, R209) and the declaration of a hang (R210 to R212). -/

namespace Sys2Proof.Machine

/-- The dump index entry of a dump number at its declaration (R301, Table 11.6): OPEN. -/
def openEntry (s : State) (num cause p : Nat) : List Word :=
  [word (num * 2 ^ 32 + 2 ^ 28 + regF s rDmpCtrl 4 3 * 2 ^ 24 + cause * 2 ^ 14 + p), word s.ht, 0, 0, 0,
   s.integ.devid.setWidth 64, 0, 0]

/-- Whether a declaration finds the queue full (R213): four wait while a dump runs. -/
def hangFull (s : State) : Bool := decide ((if s.hang.running.isSome then 4 else 5) ≤ s.hang.queue.length)

/-- HANG_DECLARE (R211 to R213): HNG_HUNG, dump number, HEVT, line 1, journal and dump index entry; the declaration waits for the
dump program. -/
def hangDeclare (s : State) (p cause reports : Nat) : State :=
  if bit (reg s rHngHung) p then countF s rHngStat 31 24 1
  else
    let s1 := setReg s rHngHung (reg s rHngHung ||| word (2 ^ p))
    let full := hangFull s
    let a := if full then (0, countF s1 rHngStat 23 16 1) else takeDumpNum s1
    let num := a.1
    let s2 := raiseLine (hevt a.2 0x800 (cause * 2 ^ 21 + p) [word (num * 2 ^ 32 + reports % 2 ^ 32)]) 1
    let s3 := addCounter (journal s2 0x8020 (num % 2 ^ 32 + cause * 2 ^ 32 + p * 2 ^ 40)) 4 1
    let s4 : State := { s3 with hang := { s3.hang with ended := s3.hang.ended &&& ~~~ word (2 ^ p) } }
    if full then s4
    else
      let s5 := submit s4 .dindex 9 (openEntry s4 num cause p)
      { s5 with hang := { s5.hang with queue := s5.hang.queue ++ [⟨p, cause, num, s.ht⟩] } }

/-- DMP_REQ (R210, cause 3; R235): ROOT, a tenant for its partitions, the two-wire port from level 2. -/
def execDmpReq (who : Who) (p : Fin 64) (s : State) : Host.Outcome State Fault Refusal :=
  if mayPart s who 2 p ∧ (getP s p).st ≠ .empty then ok (hangDeclare s p 3 0) else ok s

/-! ### Watchdog reports -/

/-- A site's bit in the pending mask of the cluster it is wired to (R208): a core's place, then the row of a spare. -/
def wdgBitOf (i : Nat) : Nat := if pcol i = 64 then 16 + prow i % 4 else 4 * (prow i % 4) + pcol i % 4

/-- The site of a bit of a cluster's mask. -/
def wdgSite (cluster n : Nat) : Nat :=
  if 16 ≤ n then siteIdx (4 * (cluster / 16) + (n - 16)) 64
  else siteIdx (4 * (cluster / 16) + n / 4) (4 * (cluster % 16) + n % 4)

/-- A report reaches the Flyer that serves the core (R208); reports of one core merge. -/
def wdgPend (s : State) (i : Nat) : State :=
  match flyerOf s i with
  | none => s
  | some f =>
    let x := getF s f
    let k := wiredCluster i
    let m := tget 0 x.wdg k
    let b := 2 ^ wdgBitOf i
    setF s f { x with wdg := tput 0 x.wdg k (if m / b % 2 = 1 then m else m + b) }

/-- WDG_REPORT (R208): an edge at which CA_EVT[WDG_BIT] is 1, whatever AG_EVT_MAP holds. -/
def execWdgReport (site : Nat) (s : State) : Host.Outcome State Fault Refusal :=
  if wired s site ∧ (getS s site).failed = false ∧ (typeOf s site).wdgBit.isSome then ok (wdgPend s site) else ok s

/-- A report judged by the Distaff (R209, R117, R210 cause 1). -/
def wdgJudge (s : State) (i : Nat) : State :=
  match partOf s i with
  | none => countF s rHngStat 47 32 1
  | some p =>
    let x := getP s p
    let grace := x.grace.toNat
    let rp := getRP s p (regionOf i)
    if grace ≠ 0 ∧ rp.runAt.any fun t => decide (s.ht ≤ t + grace) then setP s p { x with supp := satAdd 16 x.supp 1 }
    else if x.st ≠ .running ∨ x.hold.isSome then countF s rHngStat 47 32 1
    else
      let s1 := raiseLine (countF s rHngStat 63 48 1) 12
      let n := if x.wdgCount ≠ 0 ∧ s.ht ≤ x.wdgLast + 8000000 then x.wdgCount + 1 else 1
      let c := regF s rHngCtrl 31 28
      if c ≠ 0 ∧ c ≤ n then hangDeclare (setP s1 p { x with wdgCount := 0, wdgLast := s.ht }) p 1 n
      else setP s1 p { x with wdgCount := n, wdgLast := s.ht }

/-- WDG_FETCH (R208): the Distaff fetches and clears a cluster's mask and judges each report, in ascending bit. -/
def execWdgFetch (cluster : Nat) (s : State) : Host.Outcome State Fault Refusal :=
  match servedBy s cluster with
  | none => ok s
  | some f =>
    let x := getF s f
    let m := tget 0 x.wdg cluster
    let sites := ((List.range 20).filter fun n => m / 2 ^ n % 2 = 1).map (wdgSite cluster)
    ok (forAll sites wdgJudge (setF s f { x with wdg := tput 0 x.wdg cluster 0 }))

end Sys2Proof.Machine
end

