-- ==== Sys2Proof/Machine/Spine.lean ====
section
/-! DEFINITION. The control plane's links and route trees (R39 to R41, R437, R438), the mill map (R409, R439), and what every
change of health does (R32, R389, R410, R422). -/

namespace Sys2Proof.Machine

/-! ### Nodes and links -/

/-- Band rows of the grid. -/
def bandRows (s : State) : Nat := s.integ.rows / 4
/-- Band columns of the grid. -/
def bandCols (s : State) : Nat := s.integ.cols / 4

/-- The node of entry point e (R437). -/
def entryNode (s : State) (e : Nat) : Nat := 16 * (bandRows s - 1) + 3 * (e + 1) * bandCols s / 16

/-- The neighbour of a node: 0 north, 1 east, 2 south, 3 west. -/
def neighbour (s : State) (n dir : Nat) : Option Nat :=
  let m := match dir with
    | 0 => if 16 ≤ n then some (n - 16) else none
    | 1 => if n % 16 < 15 then some (n + 1) else none
    | 2 => some (n + 16)
    | _ => if n % 16 = 0 then none else some (n - 1)
  m.filter (clusterIn s)

/-- The number of the Distaff's entry link: d 0 into the Distaff, 1 out of it. Mesh links are numbered as Table 16.1 kind 1. -/
def entryLink (e d : Nat) : Nat := 1024 + 2 * e + d

/-- A link direction. -/
def getLink (s : State) (l : Nat) : Link := tget Link.fresh s.spine.links l
/-- A link direction replaced. -/
def setLink (s : State) (l : Nat) (x : Link) : State :=
  { s with spine := { s.spine with links := tput Link.fresh s.spine.links l x } }

/-- Whether two neighbours are joined by live link directions both ways. -/
def joined (s : State) (n dir : Nat) : Bool :=
  match neighbour s n dir with
  | none => false
  | some m => !(getLink s (4 * n + dir)).failed && !(getLink s (4 * m + (dir + 2) % 4)).failed &&
      !(getF s n).nodeFail && !(getF s m).nodeFail

/-! ### Trees -/

/-- The parent in the XY tree of entry point e (R41): south, then along the southernmost band row. -/
def xyParent (s : State) (e n : Nat) : Option Nat :=
  let t := entryNode s e
  if n / 16 < t / 16 then some (n + 16) else if n % 16 < t % 16 then some (n + 1)
  else if t % 16 < n % 16 then some (n - 1) else none

/-- Hops from a node by breadth first over joined neighbours, `gone` left out. -/
def bfs (s : State) (gone : List Nat) : Nat → Nat → List Nat → Tab Nat → Tab Nat
  | 0, _, _, dist => dist
  | fuel + 1, d, front, dist =>
    let next := (front.flatMap fun n => (List.range 4).filterMap fun dir =>
      if joined s n dir then (neighbour s n dir).filter fun m => !gone.contains m && tget 0 dist m == 0 else none).eraseDups
    if next.isEmpty then dist else bfs s gone fuel (d + 1) next (next.foldl (fun t m => tput 0 t m (d + 2)) dist)

/-- Hops + 1 of every node that entry point e's tree reaches (R438). -/
def treeDist (s : State) (gone : List Nat) (e : Nat) : Tab Nat :=
  bfs s gone 256 0 [entryNode s e] [(entryNode s e, 1)]

/-- The parent that R438 gives a node: of the nearest joined neighbours the first in the order south, west, east, north. -/
def bfsParent (s : State) (dist : Tab Nat) (n : Nat) : Option Nat :=
  let d := tget 0 dist n
  if d ≤ 1 then none
  else [2, 3, 1, 0].findSome? fun dir =>
    if joined s n dir then (neighbour s n dir).filter fun m => tget 0 dist m == d - 1 else none

/-- The four trees of R438 with some nodes left out. -/
def buildTrees (s : State) (gone : List Nat) : Tab Nat :=
  (List.range 4).flatMap fun e =>
    let dist := treeDist s gone e
    (allClusters s).filterMap fun n => (bfsParent s dist n).map fun m => (256 * e + n, m + 1)

/-- The parent of a node in a table of trees. -/
def parentIn (t : Tab Nat) (e n : Nat) : Option Nat :=
  let v := tget 0 t (256 * e + n)
  if v = 0 then none else some (v - 1)

/-- The request-channel dependencies of four trees: pairs of consecutive hops outward (R438), a hop as a pair of nodes. The
reply channel's are the same hops reversed. -/
def dependencies (t : Tab Nat) : List ((Nat × Nat) × (Nat × Nat)) :=
  t.filterMap fun x =>
    let e := x.1 / 256
    let u := x.2 - 1
    (parentIn t e u).map fun g => ((g, u), (u, x.1 % 256))

/-- The hops reached from a list of hops by dependencies. -/
def reachHops (deps : List ((Nat × Nat) × (Nat × Nat))) : Nat → List (Nat × Nat) → List (Nat × Nat) → List (Nat × Nat)
  | 0, _, seen => seen
  | fuel + 1, front, seen =>
    let next := ((deps.filter fun d => front.contains d.1).map Prod.snd).eraseDups.filter fun h => !seen.contains h
    if next.isEmpty then seen else reachHops deps fuel next (seen ++ next)

/-- The nodes that a hop of a dependency cycle leaves or enters. -/
def cycleNodes (deps : List ((Nat × Nat) × (Nat × Nat))) : List Nat :=
  ((deps.map Prod.fst).eraseDups.filter fun h => (reachHops deps 1024 [h] []).contains h).flatMap fun h => [h.1, h.2]

/-- The trees of R438: nodes are removed, the highest-numbered of a cycle that is no entry node first, until no cycle is left. Where several
cycles stand at once, the highest-numbered node over all of them goes first (DESIGN CHOICE, log entry 61: the rule speaks of one cycle). -/
def repairTrees (s : State) : Nat → List Nat → List Nat × Tab Nat
  | 0, gone => (gone, buildTrees s gone)
  | fuel + 1, gone =>
    let t := buildTrees s gone
    let entries := (List.range 4).map (entryNode s)
    match ((cycleNodes (dependencies t)).filter fun n => !entries.contains n).max? with
    | none => (gone, t)
    | some n => repairTrees s fuel (gone ++ [n])

/-- Whether careful mode is in force (SPN_MODE.ACTIVE). -/
def careful (s : State) : Bool := bit (reg s rSpnMode) 1

/-- The parent of a node in the tree of an entry point in force (R41). -/
def parentOf (s : State) (e n : Nat) : Option Nat :=
  if s.spine.built && !careful s then parentIn s.spine.trees e n else xyParent s e n

/-- The path from a node up to its entry point: every hop must be live; none when it does not reach the entry node. -/
def pathUp (s : State) (e : Nat) : Nat → Nat → Option (List Nat)
  | 0, _ => none
  | fuel + 1, n =>
    if n = entryNode s e then some [n]
    else match parentOf s e n with
      | none => none
      | some m =>
        if (List.range 4).any fun dir => neighbour s n dir == some m && joined s n dir
        then (pathUp s e fuel m).map fun l => n :: l else none

/-- Hops from an entry point to a node: none where its tree does not reach it. -/
def hopsTo (s : State) (e n : Nat) : Option Nat := (pathUp s e 256 n).map fun l => l.length - 1

/-- The entry point of an issuer (R41, R423). -/
def issuerEntry (s : State) (i : Nat) : Nat :=
  let v := tget 0 s.spine.entryOf i
  if v = 0 then (if i = 8 then 0 else i % 4) else v - 1

/-- Whether both directions of an entry point's link are in service. -/
def entryUp (s : State) (e : Nat) : Bool := !(getLink s (entryLink e 0)).failed && !(getLink s (entryLink e 1)).failed

/-- Whether an issuer reaches a node. -/
def reaches (s : State) (i n : Nat) : Bool :=
  entryUp s (issuerEntry s i) && (hopsTo s (issuerEntry s i) n).isSome && !s.spine.unreach.contains n

/-- The tree children of a node for an entry point. -/
def childrenOf (s : State) (e n : Nat) : List Nat := (allClusters s).filter fun m => parentOf s e m = some n

/-! ### The mill map (Table 15.5) -/

/-- Whether a core type's parameters lie in range (R406). -/
def typeOk (t : CoreType) : Bool :=
  decide (t.lmWords ≤ 2 ^ 24) && decide (1 ≤ t.lmLat) && decide (t.lmLat ≤ 8) && decide (t.cregN ≤ 4096) &&
    decide (t.riMax ≤ 64) && t.wdgBit.elim true fun b => decide (b < 8)

/-- Whether the mill map shows a site as failed (R405, R406, R407). -/
def siteFailed (s : State) (i : Nat) : Bool :=
  (getS s i).failed || !s.integ.crcOk || !typeOk (typeOf s i) || (pcol i != 64 && spareServes s (prow i) == some (pcol i))

/-- STATE of a site: 0 unused spare, 1 serving, 2 failed, 3 not wired. -/
def siteState (s : State) (i : Nat) : Nat :=
  if !wired s i then 3 else if siteFailed s i then 2 else if (coreOf s i).isSome then 1 else 0

/-- Section 1: one unit per site, PROW × 65 + PCOL. -/
def mapSites (s : State) : List Word :=
  (List.range 64).flatMap fun r => (List.range 65).map fun c =>
    let i := siteIdx r c
    let st := siteState s i
    if st = 3 then word (3 * 2 ^ 62)
    else word (st * 2 ^ 62 + tget 0 s.integ.siteType i * 2 ^ 56 + regionOf i * 2 ^ 54 + homeCluster s i * 2 ^ 46 +
      (if st = 1 then (coreOf s i).getD 0 else 0) * 2 ^ 34 + (slotsOf s i).toNat * 2 ^ 30)

/-- Section 2: four cores per unit. -/
def mapLogical (s : State) : List Word :=
  (List.range 1024).map fun u => word <| ((List.range 4).map fun k =>
    let c := 4 * u + k
    let i := siteOf s c
    if coreIn s c then (b2n (siteState s i == 1) * 2 ^ 15 + i) * 2 ^ (16 * k) else 0).sum

/-- Section 3: two units per core type; the third component is the first DUMP_REGS range of each. -/
def mapTypes : List CoreType → Nat → List Word
  | [], _ => []
  | t :: l, off =>
    word (t.lmWords % 2 ^ 25 * 2 ^ 39 + t.lmLat % 16 * 2 ^ 35 + t.cregN % 2 ^ 13 * 2 ^ 22 + t.riMax % 128 * 2 ^ 15) ::
    word (t.waitBase % 4096 * 2 ^ 52 + b2n t.wdgBit.isSome * 2 ^ 51 + t.wdgBit.getD 0 % 8 * 2 ^ 48 + off * 2 ^ 24 +
      t.dumpRegs.length) :: mapTypes l (off + t.dumpRegs.length)

/-- The load of the mesh link above each node in entry point e's tree: the clusters whose path passes through it (R439). -/
def pathLoads (s : State) (e : Nat) : Tab Nat :=
  ((allClusters s).flatMap fun n => ((pathUp s e 256 n).getD []).dropLast).foldl
    (fun t m => tput 0 t m (tget 0 t m + 1)) []

/-- BW_e (R439). -/
def bwOf (s : State) (loads : Tab Nat) (e n : Nat) : Nat :=
  match pathUp s e 256 n with
  | none => 0
  | some p => match (p.dropLast.map (tget 0 loads)).max? with
    | none => 255
    | some m => max 1 (192 / m)

/-- The column input that carries a Flyer's trace, and the lateral hops on the way (R50, R141). -/
def traceColumn (s : State) : Nat → Nat → Nat × Nat
  | 0, n => (n % 16, 0)
  | fuel + 1, n =>
    let m := 16 * (n / 16) + columnOf s n
    let lat := if (getF s n).trcFail then 1 else 0
    if clusterIn s (m + 16) then
      let r := traceColumn s fuel (m + 16)
      (r.1, r.2 + lat)
    else (m % 16, lat)

/-- The regions that hold a site of a cluster. -/
def clusterRegions (s : State) (k : Nat) : Nat :=
  let sites := (sitesOfHome s k) ++ (if k % 16 = 15 then (List.range 4).filterMap fun r =>
    let i := siteIdx (4 * (k / 16) + r) 64
    if wired s i then some i else none else [])
  ((List.range 4).filter fun r => sites.any fun i => regionOf i = r).foldl (fun a r => a + 2 ^ r) 0

/-- Section 4: four units per cluster. -/
def mapClusters (s : State) : List Word :=
  let loads := (List.range 4).map (pathLoads s)
  (List.range 256).flatMap fun k =>
    if !clusterIn s k then [word (0xFF * 2 ^ 56), 0, 0, 0]
    else
      let col := traceColumn s 16 k
      [word ((servedBy s k).getD 0xFF * 2 ^ 56 + clusterRegions s k * 2 ^ 52 + tget 0 s.integ.tcomp k % 2 ^ 16 * 2 ^ 32),
       word ((List.range 4).map fun e => ((hopsTo s e k).getD (Config.noHops e k).toNat) % 256 * 2 ^ (8 * e) +
         bwOf s (loads.getD e []) e k * 2 ^ (8 * e + 32)).sum,
       word ((List.range 16).map fun m =>
         let v := tget 0 s.integ.memHops (16 * k + m)
         (if v = 0 then 0xF else min 0xE (v - 1)) * 2 ^ (4 * m)).sum,
       word (col.1 * 2 ^ 20 + (24 + 6 * (bandRows s - k / 16) + 6 * col.2) % 2 ^ 16)]

/-- Whether a seam can join a cut (R101, R406, R323). -/
def seamCut (s : State) (x : Seam) : Bool :=
  let endOk (i r : Nat) : Bool := !siteFailed s i && wired s i && decide (regionOf i = r)
  decide (x.transit ≤ 64) && (x.endK == 1 || endOk x.prod x.prodReg) &&
    (x.endK == 2 || (endOk x.cons x.consReg && decide (x.bufReg + x.bufN ≤ (typeOf s x.cons).cregN))) &&
    (if x.endK = 0 then (partOf s x.prod).isSome && partOf s x.prod == partOf s x.cons else (getC s x.chan).up)

/-- Section 5: two units per seam. -/
def mapSeams (s : State) : List Word :=
  s.integ.seams.flatMap fun x =>
    [word (b2n (seamCut s x) * 2 ^ 63 + x.endK % 4 * 2 ^ 61 + x.chan % 8 * 2 ^ 58 + x.prod % 2 ^ 13 * 2 ^ 45 +
      x.cons % 2 ^ 13 * 2 ^ 32 + x.depth % 256 * 2 ^ 24 + x.transit % 128 * 2 ^ 17),
     word (x.bufReg % 4096 * 2 ^ 52 + x.bufN % 4096 * 2 ^ 40)]

/-- Section 6: the ranges of DUMP_REGS. -/
def mapRegs (s : State) : List Word :=
  s.integ.types.flatMap fun t => t.dumpRegs.map fun r => word (r.2 % 2 ^ 13 * 2 ^ 12 + r.1 % 2 ^ 12)

/-- The mill map (Table 15.5). -/
def millMap (s : State) : List Word :=
  let secs := [mapSites s, mapLogical s, mapTypes s.integ.types 0, mapClusters s, mapSeams s, mapRegs s]
  let dir := (List.range 6).map fun k =>
    word ((k + 1) * 2 ^ 56 + (8 + ((secs.take k).map List.length).sum) * 2 ^ 32 + (secs.getD k []).length)
  word (0x4D494C4C * 2 ^ 32 + 2 ^ 16 + 6 * 2 ^ 8 + b2n (careful s)) :: word s.ht :: dir ++ secs.flatten

/-- MILL_MAP_PUBLISH (R384, R410): GEN gains 2 and the map stands whole at ID_MMAP.OFF, once stage 8 has named it. -/
def publishMap (s : State) : State :=
  if regF s rIdMmap 63 44 = 0 then s
  else
    let m := millMap s
    let s1 := setRegF (setRegF s rIdMmap 63 44 m.length) rIdMmapGen 31 0 (regF s rIdMmapGen 31 0 + 2)
    { s1 with hubMem := writeUnits s1.hubMem (8 * regF s1 rIdMmap 22 3) m }

/-- HEALTH_CHANGE (R389, R422, R32, R410), once the health registers show it: HLT_GEN, line 5, HEVT HEALTH, the journal entry and
the mill map. -/
def healthChange (s : State) (kind unit : Nat) (left : Bool) : State :=
  let s1 := setRegF s rHltGen 31 0 (regF s rHltGen 31 0 + 1)
  let s2 := hevt (raiseLine s1 5) 0xB00 (kind + unit * 2 ^ 8) [word (b2n left)]
  publishMap (journal s2 0x8010 (kind + unit * 2 ^ 8))

end Sys2Proof.Machine
end

