-- ==== Sys2Proof/Machine/Links.lean ====
section
/-! DEFINITION. The control plane's links: wires and transfers (R33, R34), packets (R36 to R38, Tables 2.3 and 2.4), channels, retry
buffers and credits (R39, R40, R42, R47), the way of a packet over a tree (R41) and its detour around a failed link (Table 2.6). -/

namespace Sys2Proof.Machine

/-! ### Wires (R33, R34) -/

/-- The four wires of a 1-of-4 group. -/
def groupWires (w : BitVec 36) (k : Nat) : BitVec 4 := (w >>> (4 * k)).setWidth 4

/-- How many wires of a group are high. -/
def wiresHigh (g : BitVec 4) : Nat := ((List.range 4).filter g.getLsbD).length

/-- Whether all nine groups hold a value, or more than one (R33, R34). -/
def allHold (w : BitVec 36) : Bool := (List.range 9).all fun k => decide (groupWires w k ≠ 0)

/-- Whether two wires of one group are high at the same time (R34). -/
def twoHigh (w : BitVec 36) : Bool := (List.range 9).any fun k => decide (1 < wiresHigh (groupWires w k))

/-- The value of a group: wire v stands for v. -/
def groupVal (g : BitVec 4) : Nat := if g.getLsbD 1 then 1 else if g.getLsbD 2 then 2 else if g.getLsbD 3 then 3 else 0

/-- The 16 data bits and the sideband pair of a transfer. -/
def transferVal (w : BitVec 36) : Nat × Nat :=
  (((List.range 8).map fun k => groupVal (groupWires w k) * 4 ^ k).sum, groupVal (groupWires w 8))

/-- The wires that a sender raises for 16 data bits and a sideband pair. -/
def transferWires (data side : Nat) : BitVec 36 :=
  BitVec.ofNat 36 (((List.range 8).map fun k => 2 ^ (4 * k + data / 4 ^ k % 4)).sum + 2 ^ (32 + side % 4))

/-- The wires of transfers, from those of their eight data groups and of their sideband group; a group that a transfer lacks stays at zero. -/
def wiresOf (data : List (BitVec 32)) (side : List (BitVec 4)) : List (BitVec 36) :=
  (List.range (max data.length side.length)).map fun i => side.getD i 0 ++ data.getD i 0

/-- The sender raises wires; the receiver raises the acknowledge once every group holds a value. -/
def wiresRise (w : BitVec 36) (x : Wires) : Wires := ⟨x.groups ||| w, x.ack || allHold (x.groups ||| w)⟩

/-- On the acknowledge the sender returns every wire to zero, and the receiver then lowers the acknowledge. -/
def wiresFall (x : Wires) : Wires := if x.ack then ⟨0, false⟩ else x

/-- Four-phase transfers one after the other: those that complete, and the wires after them. A group without a value holds the link up,
a corrupt one does not (R34). -/
def wireTake : List (BitVec 36) → Wires → List (BitVec 36) × Wires
  | [], x => ([], x)
  | w :: t, x =>
    let y := wiresRise w x
    if y.ack then
      let r := wireTake t (wiresFall y)
      (y.groups :: r.1, r.2)
    else wireTake t y

/-- A flit of four transfers, the high bits first: its 64 bits, its sideband byte, and whether every code was good. -/
def flitOf (l : List (BitVec 36)) : Word × Nat × Bool :=
  let v := l.map transferVal
  (word (v.foldl (fun a x => a * 2 ^ 16 + x.1) 0), v.foldl (fun a x => a * 4 + x.2) 0, !l.any twoHigh)

/-- Transfers taken in fours. -/
def flitsOf : Nat → List (BitVec 36) → List (Word × Nat × Bool)
  | 0, _ => []
  | _, [] => []
  | n + 1, l => flitOf (l.take 4) :: flitsOf n (l.drop 4)

/-- The transfers of a flit with its sideband byte (Table 2.1). -/
def flitTransfers (v : Word) (side : Nat) : List (BitVec 36) :=
  (List.range 4).map fun k => transferWires (bits v (63 - 16 * k) (48 - 16 * k)) (side / 4 ^ (3 - k) % 4)

/-- The sideband byte of payload flit k of n (Table 2.1). -/
def sideOf (n k : Nat) : Nat := (if k + 1 = n then 2 else 1) * 64 + 2 * k

/-- The transfers of a packet with its link sequence number. -/
def packetTransfers (lseq : BitVec 6) (p : LPkt) : List (BitVec 36) :=
  flitTransfers p.hdr lseq.toNat ++ p.pay.zipIdx.flatMap fun e => flitTransfers e.1 (sideOf p.pay.length e.2)

/-! ### Packets (R36 to R38) -/

/-- A control-packet header (Table 2.3) with its CRC over the payload flits (R37). -/
def packetHdr (type epoch dest route issuer red : Nat) (iseq : BitVec 16) (pay : List Word) : Word :=
  let h := word (type * 2 ^ 60 + epoch % 16 * 2 ^ 56 + pay.length * 2 ^ 50 + dest * 2 ^ 42 + route * 2 ^ 40 + issuer * 2 ^ 36 +
    iseq.toNat * 2 ^ 20 + red * 2 ^ 16)
  h + word (crc16 ((bytesHigh h).take 6 ++ pay.flatMap bytesHigh))

/-- The code of RED (Table 2.3). -/
def redCode : Red → Nat
  | .none => 0
  | .or => 1
  | .and => 2
  | .min => 3
  | .max => 4
  | .sum => 5
  | .count => 6
  | .collect => 7

/-- TYPE of an operation's packet. -/
def typeCode : OpType → Nat
  | .write => 1
  | .read => 2
  | .lmWrite => 6
  | .lmRead => 7

/-- A packet of an operation (R36, R38): set descriptor for a multicast, request flit, data flits. -/
def opPacket (op : Op) (type reg addr : Nat) (data : List Word) : LPkt :=
  let req := word (reg % 256 * 2 ^ 56 + setEng op.set * 2 ^ 52 + b2n op.dl.isSome * 2 ^ 51 + op.dl.getD 0 % 2 ^ 24 * 2 ^ 24 +
    addr % 2 ^ 24)
  let pay := (if op.one then [] else [(op.set >>> 64).setWidth 64, setLo op.set]) ++ [req] ++ data
  ⟨.request, packetHdr type op.epoch (if op.one then op.nodes.headD 0 else 0) (if op.one then 0 else 1) op.issuer
    (redCode op.red) op.iseq pay, pay⟩

/-- Data flits cut into packets: n to a packet, with the address of each packet's first word. -/
def dataPackets (n : Nat) : Nat → Nat → List Word → List (Nat × List Word)
  | 0, _, _ => []
  | _, _, [] => []
  | k + 1, a, ws => (a, ws.take n) :: dataPackets n k (a + n) (ws.drop n)

/-- The packets of an operation in the order of its effects (R38, R76): an agent write for each register that it writes first, then its
own access; the words of a local-memory write go as many to a packet as its 32 payload flits hold. They share the operation's ISEQ (DESIGN
CHOICE, log entry 79). -/
def opPackets (op : Op) : List LPkt :=
  let own := match op.type with
    | .write => [opPacket op 1 op.reg 0 (op.data.take 1)]
    | .lmWrite => (dataPackets (if op.one then 31 else 29) 256 op.lmAddr op.data).map fun e => opPacket op 6 op.reg e.1 e.2
    | t => [opPacket op (typeCode t) op.reg op.lmAddr []]
  op.pre.map (fun e => opPacket op 1 e.1 0 [e.2]) ++ own

/-- A packet of the inward way (ROUTE 10). -/
def inPacket (op : Op) (type : Nat) (pay : List Word) : LPkt :=
  ⟨.reply, packetHdr type op.epoch 0 2 op.issuer (redCode op.red) op.iseq pay, pay⟩

/-- The reply of an operation on one agent (TYPE 3): reason and agent, then the value or the words, 31 to a packet (DESIGN CHOICE, log entry
79: no rule lays the payload out). -/
def replyPackets (op : Op) (r : Reply) : List LPkt :=
  let head := word (r.reason * 2 ^ 48 + r.site)
  if r.words = [] then [inPacket op 3 [head, r.value]]
  else (dataPackets 31 9 0 r.words).map fun e => inPacket op 3 (head :: e.2)

/-- The COLLECT packets of answers (R43): 4 values behind a flit of their 4 physical indices, up to 30 flits to a packet (DESIGN CHOICE, log
entry 79: which comes first). -/
def collectPackets (op : Op) : Nat → List Reply → List LPkt
  | 0, _ => []
  | _, [] => []
  | n + 1, l =>
    let group (k : Nat) : List Word :=
      let g := (l.drop (4 * k)).take 4
      if g = [] then [] else word (g.zipIdx.map fun e => e.1.site * 2 ^ (16 * e.2)).sum :: g.map Reply.value
    inPacket op 5 ((List.range 6).flatMap group) :: collectPackets op n (l.drop 24)

/-! ### Channels, retry buffer and credits (R39, R42, R47) -/

/-- The channel that sends next (R42): priority passes reply and request, one packet at a time; the request channel waits while the receiver
withholds its credit (R47). -/
def nextChan (x : Link) : Option (LPkt × Link) :=
  let pri := if x.retry.any fun k => k.p.chan == .priority then [] else x.pri
  match pri, x.rep, x.req with
  | p :: _, _, _ => some (p, { x with pri := x.pri.drop 1 })
  | [], p :: t, _ => some (p, { x with rep := t })
  | [], [], p :: t => if x.noCredit = [] then some (p, { x with req := t }) else none
  | [], [], [] => none

/-- Waiting packets sent, at time t, while the retry buffer of 32 has room (R39). -/
def linkFill : Nat → Nat → Link → Link
  | 0, _, x => x
  | n + 1, t, x =>
    if 32 ≤ x.retry.length then x
    else match nextChan x with
      | none => x
      | some (p, y) => linkFill n t { y with txSeq := y.txSeq + 1, retry := y.retry ++ [⟨y.txSeq, t, 0, p⟩] }

/-- A packet put into its channel. -/
def chanPut (x : Link) (p : LPkt) : Link :=
  match p.chan with
  | .request => { x with req := x.req ++ [p] }
  | .reply => { x with rep := x.rep ++ [p] }
  | .priority => { x with pri := x.pri ++ [p] }

/-- A link direction changed, and what it can send sent. -/
def linkGo (s : State) (l : Nat) (x : Link) : State := setLink s l (linkFill 33 s.ht x)

/-- A packet sent on a link direction and kept until it is acknowledged (R39). -/
def linkSend (s : State) (l : Nat) (p : LPkt) : State :=
  let x := getLink s l
  if x.failed then s else linkGo s l (chanPut x p)

/-- Packets sent one after the other on every one of some link directions. -/
def linksSend (s : State) (ls : List Nat) (ps : List LPkt) : State := forAll ls (fun s l => forAll ps (fun s p => linkSend s l p) s) s

/-- Whether every link direction has drained (R60). -/
def drained (s : State) : Bool :=
  s.spine.links.all fun e => e.2.retry.isEmpty && e.2.req.isEmpty && e.2.rep.isEmpty && e.2.pri.isEmpty

/-- A link-control flit (R40): kind 1 ACK, 2 NAK, with the LSEQ and its own CRC. -/
def ctlFlit (kind : Nat) (lseq : BitVec 6) : Word :=
  let h := word (kind * 2 ^ 62 + lseq.toNat * 2 ^ 56)
  h + word (crc16 ((bytesHigh h).take 6))

/-- The LSEQ of a link-control flit of a kind; none where its CRC fails or it is of another kind (R40). -/
def ctlSeq (kind : Nat) (flit : Word) : Option (BitVec 6) :=
  if bits flit 63 62 = kind ∧ crc16 ((bytesHigh flit).take 6) = bits flit 15 0 then some (BitVec.ofNat 6 (bits flit 61 56)) else none

/-! ### Ways over a tree (R41) -/

/-- The mesh link direction from a node to a neighbour (Table 16.1, kind 1). -/
def meshLink (s : State) (a b : Nat) : Option Nat :=
  ((List.range 4).find? fun dir => neighbour s a dir == some b).map fun dir => 4 * a + dir

/-- The parents + 1 of every node on the ways from an entry point to some nodes. -/
def waysOf (s : State) (e : Nat) (nodes : List Nat) : Tab Nat :=
  (nodes.flatMap fun n => let p := (pathUp s e 256 n).getD []; p.zip (p.drop 1)).foldl (fun t h => tput 0 t h.1 (h.2 + 1)) []

/-- The parent of a node on an operation's ways (R41). -/
def opParent (op : Op) (n : Nat) : Option Nat := let v := tget 0 op.path n; if v = 0 then none else some (v - 1)

/-- The link directions that ways take outward from an entry point. -/
def linksOut (s : State) (e : Nat) (path : Tab Nat) : List Nat :=
  entryLink e 1 :: path.filterMap fun h => meshLink s (h.2 - 1) h.1

/-- The link directions inward from a node over ways: the mesh links and the one into the Distaff. -/
def linksIn (s : State) (e : Nat) (path : Tab Nat) : Nat → Nat → List Nat
  | 0, _ => []
  | k + 1, n =>
    let v := tget 0 path n
    if v = 0 then [entryLink e 0] else (meshLink s n (v - 1)).toList ++ linksIn s e path k (v - 1)

/-- The CLUSTER descriptor of some cores of a cluster (Table 9.6). -/
def clusterSet (eng k : Nat) (cores : List Nat) : BitVec 128 :=
  BitVec.ofNat 128 (7 * 2 ^ 124 + eng * 2 ^ 120 + (cores.map fun c => 2 ^ (4 * (c / 64 % 4) + c % 4)).sum * 2 ^ 16 + k)

/-- The multicasts of an operation (R253): a LIST goes as one CLUSTER multicast for each cluster that holds members, each over the ways to the
nodes that serve them. They share the operation's ISEQ (DESIGN CHOICE, log entry 79). -/
def opCasts (s : State) (op : Op) : List Op :=
  if setKind op.set = 3 then
    let cores := op.sites.filterMap (coreOf s)
    (cores.map clusterOf).eraseDups.map fun k =>
      let mine := cores.filter fun c => clusterOf c == k
      let nodes := op.nodes.filter fun n => mine.any fun c => flyerOf s (siteOf s c) == some n
      { op with set := clusterSet (setEng op.set) k mine, nodes := nodes, path := waysOf s op.entry nodes }
  else [op]

/-- Packets of an operation sent from a node to the Distaff, along its tree in reverse (R41). -/
def sendInward (s : State) (op : Op) (n : Nat) (ps : List LPkt) : State := linksSend s (linksIn s op.entry op.path 256 n) ps

/-- Packets of an operation sent from a node to its parent, or from the entry node to the Distaff. -/
def sendUp (s : State) (op : Op) (n : Nat) (ps : List LPkt) : State :=
  linksSend s ((linksIn s op.entry op.path 1 n).take 1) ps

/-- Packets of Flyer data on their way to hub memory (TYPE 9), over the tree of the bare path's entry point (DESIGN CHOICE, log entry
79). -/
def sendData (s : State) (n : Nat) (pays : List (List Word)) : State :=
  let e := issuerEntry s 8
  linksSend s (linksIn s e (waysOf s e [n]) 256 n) (pays.map fun pay => ⟨.request, packetHdr 9 0 0 2 8 0 0 pay, pay⟩)

/-- An epoch advance of an issuer (Table 2.6, step 5; R423): the close of its old epoch takes an ISEQ (R45) and goes out on the priority
channel over an entry point's ways, and SPN_EPOCH shows the advance. -/
def advanceEpoch (s : State) (links : List Nat) (i : Nat) : State :=
  let old := tget 0 s.spine.epochs i
  let n := tget 0 s.spine.iseqs i
  linksSend { s with spine := { s.spine with
      epochs := tput 0 s.spine.epochs i ((old + 1) % 16), iseqs := tput 0 s.spine.iseqs i (n + 1) } }
    links [⟨.priority, packetHdr 8 old 0 3 i 0 n [], []⟩]

/-- The link directions of a broadcast from an entry point to every live node. -/
def linksAll (s : State) (e : Nat) : List Nat := linksOut s e (waysOf s e (allClusters s))

/-! ### Detours (Table 2.6, step 2) -/

/-- Whether a node can send in a direction now. -/
def canSend (s : State) (n dir : Nat) : Bool :=
  (neighbour s n dir).any fun m => !(getLink s (4 * n + dir)).failed && !(getF s m).nodeFail

/-- The productive directions from a node to a destination, X first (R41). -/
def productive (n d : Nat) : List Nat :=
  (if n % 16 < d % 16 then [1] else if d % 16 < n % 16 then [3] else []) ++
    (if n / 16 < d / 16 then [2] else if d / 16 < n / 16 then [0] else [])

/-- The next direction of a detour: XY, the other productive dimension, else clockwise from the blocked direction, to a node not yet
passed (DESIGN CHOICE, log entry 81). -/
def detourDir (s : State) (n d : Nat) (passed : List Nat) : Option Nat :=
  let p := productive n d
  let from_ := p.headD 0
  (p ++ (List.range 3).map fun k => (from_ + 1 + k) % 4).find? fun dir =>
    canSend s n dir && !(neighbour s n dir).any passed.contains

/-- The link directions of a detour from a node to a destination: none where it finds no way. -/
def detour (s : State) (d : Nat) : Nat → Nat → List Nat → Option (List Nat)
  | 0, _, _ => none
  | k + 1, n, passed =>
    if n = d then some []
    else match detourDir s n d passed with
      | none => none
      | some dir => match neighbour s n dir with
        | none => none
        | some m => (detour s d k m (n :: passed)).map fun l => (4 * n + dir) :: l

/-- The node to which a packet goes on from a failed link direction: its destination; for a multicast, a broadcast and the inward way the
node beyond the link. -/
def packetDest (p : LPkt) (beyond : Nat) : Nat := if bits p.hdr 41 40 = 0 then bits p.hdr 49 42 else beyond

/-- The packets that stood at a failed mesh link direction, its retry buffer and then its queues in order, sent on their detours. -/
def detourAll (s : State) (l : Nat) (old : Link) : State :=
  match neighbour s (l / 4) (l % 4) with
  | none => s
  | some m =>
    forAll (old.retry.map Pkt.p ++ old.pri ++ old.rep ++ old.req) (fun s p =>
      linksSend s ((detour s (packetDest p m) 256 (l / 4) []).getD []) [p]) s

/-! ### Credits (R47) -/

/-- The link direction that delivers an operation to a node. -/
def linkInto (s : State) (op : Op) (n : Nat) : Nat :=
  ((opParent op n).bind fun m => meshLink s m n).getD (entryLink op.entry 1)

/-- A Flyer's full window withholds request-channel credit for an issuer on the link that delivers its traffic. -/
def withhold (s : State) (l issuer : Nat) : State :=
  let x := getLink s l
  if x.noCredit.contains issuer then s else setLink s l { x with noCredit := x.noCredit ++ [issuer] }

/-- The credit withheld for an issuer on the links into a node returned. -/
def giveCredit (s : State) (n issuer : Nat) : State :=
  forAll ((s.spine.links.map Prod.fst).filter fun l =>
      if 1024 ≤ l then decide (entryNode s ((l - 1024) / 2) = n) else neighbour s (l / 4) (l % 4) == some n) (fun s l =>
    let x := getLink s l
    if x.noCredit.contains issuer then linkGo s l { x with noCredit := x.noCredit.filter fun i => i ≠ issuer } else s) s

end Sys2Proof.Machine
end

