-- ==== Sys2Proof/Machine/Counters.lean ====
section
/-! DEFINITION. Counters (07): always-on and programmable counters (R192 to R194), cluster sums and the always-on table (R195 to
R199), sampled profiles (R200 to R202), the sample ring (R203, R204); command events (R132) and power states (R137), which they
count. -/

namespace Sys2Proof.Machine

/-! ### Counters of a Bobbin -/

/-- A count of 48 bits that wraps. -/
def add48 (v : Word) (n : Nat) : Word := word ((v.toNat + n) % 2 ^ 48)

/-- Where a site's always-on increments are summed (R195): its home cluster's sums, or its own where it is a guest. -/
def aosKey (s : State) (i : Nat) : Nat := if isGuest s i then 4096 + 8 * i else 8 * homeCluster s i

/-- AOCk of a site and the cluster sum it belongs to, raised by n, from hub reset release on (R192, R195); `sumsNow` keeps what the present edge
has added (R202). -/
def aocAdd (s : State) (i k n : Nat) : State :=
  if n = 0 ∨ s.boot.inReset = true then s
  else
    let s1 := setAg s i (aAoc + k) (add48 (ag s i (aAoc + k)) n)
    match flyerOf s i with
    | none => s1
    | some f =>
      if (coreOf s i).isNone then s1
      else
        let x := getF s1 f
        let key := aosKey s i + k
        setF s1 f { x with sums := tput 0 x.sums key (tget 0 x.sums key + word n),
                           sumsNow := tput 0 x.sumsNow key (tget 0 x.sumsNow key + word n) }

/-- Whether a site's leaf holds CA_FREEZE (R94, R97): 0 in no partition. -/
def freezeAtSite (s : State) (i : Nat) : Bool := (partOf s i).any fun p => (getRP s p (regionOf i)).latch

/-- The always-on counts of one edge at a site (Table 7.1), CA_GATED as it stands behind its three stages (R192): a command that ended at it
has been counted by its own event. -/
def aocEdge (s : State) (i : Nat) : State :=
  let x := getS s i
  let fz := freezeAtSite s i
  let gated := x.gatedIn.out
  let s1 := aocAdd s i 0 (b2n (!x.inReset && !fz && !gated && !x.lp))
  let s2 := aocAdd s1 i 1 (b2n (!x.inReset && fz))
  let s3 := aocAdd s2 i 2 (b2n (!x.inReset && (x.lp || gated)))
  forAll (List.range 4) (fun s n => aocAdd s i (4 + n) (b2n (tget none x.cmdOpen n).isSome)) s3

/-- MODE of a programmable counter as it is in force at this edge: 1 PERIOD, 2 CMD, else OFF (R193, R194). -/
def pcMode (s : State) (i c : Nat) : Nat := bits (agEdge s i (aPcCfg + c)) 7 6
/-- STROBE of a programmable counter. -/
def pcStrobe (s : State) (i c : Nat) : Nat := bits (agEdge s i (aPcCfg + c)) 4 0

/-- Whether an agent has written a counter at this edge (R202). -/
def pcHeldAt (s : State) (i c : Nat) : Bool := (getS s i).pcHeld.testBit c

/-- The strobes of a site's slots that are present (R62, R193). -/
def presentStrobes (s : State) (i : Nat) (v : BitVec 32) : BitVec 32 :=
  (List.range 4).foldl (fun a n => if (slotsOf s i).getLsbD n then a ||| (v &&& BitVec.ofNat 32 (0xFF * 2 ^ (8 * n))) else a) 0

/-- The strobes of one edge at a site (R193): each selected strobe not seen at this edge yet adds 1 to its counters. -/
def perfEdge (s : State) (i : Nat) (v : BitVec 32) : State :=
  let x := getS s i
  let fresh := presentStrobes s i v &&& ~~~ x.perfNow
  let s1 := setS s i { x with perfNow := x.perfNow ||| fresh }
  forAll (List.range 8) (fun s c =>
    let on := pcMode s i c == 1 || pcMode s i c == 2
    if on && fresh.getLsbD (pcStrobe s i c) && !pcHeldAt s i c then setAgNext s i (aPc + c) (add48 (ag s i (aPc + c)) 1) else s) s1

/-- PERF_STROBE (R193). -/
def execPerfStrobe (site : Nat) (strobes : BitVec 32) (s : State) : Host.Outcome State Fault Refusal :=
  if wired s site ∧ (getS s site).failed = false then ok (perfEdge s site strobes) else ok s

/-! ### Command events (R132) and power states (R137) -/

/-- A counter's first count of a new run: the increment of the present edge (R202). -/
def pcFirst (s : State) (i c : Nat) : Word := word (b2n ((getS s i).perfNow.getLsbD (pcStrobe s i c)))

/-- Whether a CMD counter belongs to a slot. -/
def pcOfSlot (s : State) (i n c : Nat) : Bool := pcMode s i c == 2 && pcStrobe s i c / 8 == n

/-- RCF of a sample at the present edge: the CMD counters whose slots show a begin (R202). -/
def rcfOf (s : State) (i : Nat) : Nat :=
  ((List.range 8).map fun c => b2n ((List.range 4).any fun n => (getS s i).bgnNow.getLsbD n && pcOfSlot s i n c) * 2 ^ c).sum

/-- CMD counters of a slot restart at a begin, this edge's increment included, and a sample of this edge shows it in RCF (R193,
R202). -/
def pcBegin (s : State) (i n : Nat) : State :=
  let l := (List.range 8).filter fun c => pcOfSlot s i n c && !pcHeldAt s i c
  let s1 := forAll l (fun s c => setAgNext s i (aPc + c) (pcFirst s i c)) s
  let x := getS s1 i
  let s2 := setS s1 i { x with bgnNow := x.bgnNow ||| BitVec.ofNat 4 (2 ^ n) }
  match x.sample with
  | some (r, e) => if e = edgeOf s i then setS s2 i { getS s2 i with sample := some (⟨r.hdr ||| word (rcfOf s2 i * 2 ^ 16), r.pay⟩, e) } else s2
  | none => s2

/-- WANT of the entries that a begin matches (R167). -/
def tapWant (s : State) (i n : Nat) (ids : BitVec 56) : State :=
  forAll [0, 1] (fun s j =>
    let m := ag s i (tsIdx aTsMatch j)
    let cov := ag s i (tsIdx aTsCov j)
    if bit m 63 && bits m 62 61 == n && tagMatches m ids then
      setAg s i (tsIdx aTsCov j) (setBits cov 47 24 (satAdd 24 (bits cov 47 24) 1)) else s) s

/-- CMD_EVENT (R132, R167, R192, R193): a begin, an end, or both on one slot at one edge. -/
def execCmdEvent (site : Nat) (slot : Fin 4) (bgn fin : Bool) (ids : BitVec 56) (s : State) :
    Host.Outcome State Fault Refusal :=
  let x := getS s site
  let n : Nat := slot
  if !wired s site || x.failed || x.inReset || !(slotsOf s site).getLsbD n || (!bgn && !fin) then ok s
  else
    let e := edgeOf s site
    let s1 := if cmdOn s site && bit (btNow s site) (12 + n) then
        emitSrc s site (1 + n) e s.ht x.lastAddr e fun cyc =>
          mkRec (srcOf s site (1 + n)) 4 1 (cyc % 4096 * 2 ^ 24 + (if !bgn then 1 else if fin then 2 else 0) * 2 ^ 22)
            (if bgn then [word ids.toNat] else [])
      else s
    let wasOpen := (tget none x.cmdOpen n).isSome
    let y := getS s1 site
    let s2 := setS s1 site { y with open0 := some (y.open0.getD (y.cmdOpen, y.lastIds)),
                                    cmdOpen := tput none y.cmdOpen n (if fin then none else some ids),
                                    lastIds := if bgn then tput none y.lastIds n (some ids) else y.lastIds }
    let s3 := if bgn then tapWant (pcBegin s2 site n) site n ids else s2
    let s4 := if fin then aocAdd s3 site 3 1 else s3
    ok (if fin && (wasOpen || bgn) then aocAdd s4 site (4 + n) 1 else s4)

/-- CORE_POWER_CHANGE (R137): CA_LP and CA_GATED as they now stand. A change of CA_LP yields an LPWR record at once, one of CA_GATED once it
has passed its three stages. -/
def execCorePowerChange (site : Nat) (lp gated : Bool) (s : State) : Host.Outcome State Fault Refusal :=
  let x := getS s site
  if !wired s site || x.failed then ok s
  else
    let s1 := if lp = x.lp then s else lpwr (setS s site { x with lp := lp }) site (if lp then 0 else 1)
    ok (setS s1 site { getS s1 site with gated := gated })

/-- One edge of a site's clock at CA_GATED: a level that has stood through the three stages is delivered, and its change yields an LPWR
record (R55, R137). -/
def gatedEdge (s : State) (i : Nat) : State :=
  let x := getS s i
  let l := levelEdge x.gated x.gatedIn
  if l = x.gatedIn then s
  else
    let s1 := setS s i { x with gatedIn := l }
    if l.out = x.gatedIn.out ∨ x.failed then s1 else lpwr s1 i (if l.out then 2 else 3)

/-! ### The always-on table -/

/-- The period of the always-on table. -/
def aoPeriod : Nat := 4000000

/-- The guests that a Flyer serves (R195). -/
def guestsOf (s : State) (f : Nat) : List Nat := (sitesOf s f).filter fun i => isGuest s i && (coreOf s i).isSome

/-- Eight sums from a place of a Flyer's table, as they stood before the present edge (R202). -/
def sumsAt (x : Flyer) (key : Nat) : List Word := (List.range 8).map fun k => tget 0 x.sums (key + k) - tget 0 x.sumsNow (key + k)

/-- AO_BOUNDARY (R196, R198): the Flyer snapshots the sums of its clusters and guests; an unsent snapshot is discarded. -/
def execAoBoundary (flyer : Nat) (s : State) : Host.Outcome State Fault Refusal :=
  let x := getF s flyer
  if x.failed ∨ s.ht / aoPeriod * aoPeriod < max x.aoAt s.ring.aoFrom then ok s
  else
    let s0 := setF s flyer { x with aoAt := s.ht + 1 }
    if bit (reg s rCntAoCtrl) 31 = false then ok s0
    else
      let one (s : State) (k : Nat) : State :=
        let x := getF s flyer
        let lost := (tget none x.snap k).isSome
        let y := { x with snap := tput none x.snap k (some ⟨s.ht, sumsAt x (8 * k), 0⟩) }
        if lost then countF (setF s flyer { y with aoMiss := tput 0 y.aoMiss k (satAdd 16 (tget 0 y.aoMiss k) 1) }) rCntAoStat 63 48 1
        else setF s flyer y
      let guest (s : State) (i : Nat) : State :=
        let x := getF s flyer
        setF s flyer { x with snap := tput none x.snap (256 + i) (some ⟨s.ht, sumsAt x (4096 + 8 * i), 0⟩) }
      ok (forAll (guestsOf s flyer) guest (forAll (clustersOf s flyer) one s0))

/-- The hub-memory offset of a cluster's entry (R197). -/
def aoEntry (s : State) (k : Nat) : Nat := regF s rCntAoCtrl 22 15 * 2 ^ 15 + 128 * k

/-- The guests of a home cluster, with the Flyer that serves each. -/
def guestsOfHome (s : State) (k : Nat) : List (Nat × Nat) :=
  ((sitesOfHome s k).filter (isGuest s)).filterMap fun i => (flyerOf s i).map fun f => (i, f)

/-- Bobbins summed in a cluster's entry (Table 7.3). -/
def bobbinsOf (s : State) (cluster : Nat) : Nat :=
  16 + (if cluster % 16 = 15 then ((List.range 4).filter fun r => wired s (siteIdx (4 * (cluster / 16) + r) 64)).length else 0)

/-- Unit 0 of a cluster's entry (Table 7.3). -/
def aoUnit0 (s : State) (f cluster period miss : Nat) : Word :=
  word (period * 2 ^ 32 + min 0xFFFF miss * 2 ^ 16 + bobbinsOf s cluster * 2 ^ 8 + b2n (!tget false (getF s f).aoSent cluster) * 4 +
    b2n (decide (f ≠ cluster)) * 2 + 1)

/-- A snapshot leaves its Flyer (R196): ten payload flits in the order of Table 7.3, PERIOD 0 and the time of the ripple; in careful mode two
packets of five. Answers how many packets are on their way. -/
def aoSend (s : State) (f u0 time : Nat) (sums : List Word) : Nat × State :=
  let us := word u0 :: word (time % 2 ^ 24) :: sums
  let pays := if careful s then [us.take 5, us.drop 5] else [us]
  (pays.length, sendData s f pays)

/-- A guest's part of its home entry (R195): its snapshot of this period, taken from its Flyer, else its previous sums and a miss. -/
def guestSums (period : Nat) (s : State) (g : Nat × Nat) : State × List Word × Nat :=
  match tget none (getF s g.2).snap (256 + g.1) with
  | some sn =>
    if sn.time / aoPeriod % 2 ^ 32 = period then
      let s := (aoSend s g.2 (aoUnit0 s g.2 (homeCluster s g.1) 0 0).toNat sn.time sn.sums).2
      let x := getF s g.2
      let s1 := setF s g.2 { x with snap := tput none x.snap (256 + g.1) none }
      ({ s1 with guestAos := tput [] s.guestAos g.1 sn.sums }, sn.sums, 0)
    else (s, tget [] s.guestAos g.1, 1)
  | none => (s, tget [] s.guestAos g.1, 1)

/-- Sums added unit by unit. -/
def addSums (a b : List Word) : List Word := (List.range 8).map fun k => a.getD k 0 + b.getD k 0

/-- Whether a partition was RUNNING through the always-on period that ended at a boundary (R210). -/
def ranThrough (x : Part) (boundary : Nat) : Bool :=
  decide (x.runFrom ≠ 0) && decide (x.runFrom ≤ boundary - aoPeriod + 1) && (x.st == .running || decide (boundary < x.runTo))

/-- NOPROG (R210, cause 2): one cluster's entry of a period joins its partition's judgement; once every cluster's has been seen the
period counts or restarts the count. -/
def noProgress (s : State) (k time : Nat) (bad : Bool) (old new : List Word) : State :=
  match partOfCluster s k with
  | none => s
  | some p =>
    let x := getP s p
    let period := time / aoPeriod % 2 ^ 32
    let lim := if bit (reg s rCntAoCtrl) 31 then regF s rHngCtrl 39 32 else 0
    let fresh := decide (x.npPeriod ≠ period + 1)
    let cut := fresh && (!x.npSeen.isEmpty || x.npPeriod % 2 ^ 32 != period)
    let seen := (if fresh then [] else x.npSeen) ++ [k]
    let nb := (!fresh && x.npBad) || bad || old.getD 3 0 != new.getD 3 0
    let busy := (!fresh && x.npBusy) || [4, 5, 6, 7].any fun j => old.getD j 0 != new.getD j 0
    let n := if cut then 0 else x.noProg
    if (clustersOfPart s p).all seen.contains then
      let good := ranThrough x (time / aoPeriod * aoPeriod) && !nb && busy
      let n' := if good then n + 1 else 0
      let y := { x with npPeriod := period + 1, npSeen := [], npBad := false, npBusy := false, noProg := n' }
      if lim ≠ 0 ∧ lim ≤ n' then hangDeclare (setP s p { y with noProg := 0 }) p 2 0 else setP s p y
    else setP s p { x with npPeriod := period + 1, npSeen := seen, npBad := nb, npBusy := busy, noProg := n }

/-- A cluster's snapshot, all of it arrived, enters the table and the die totals (R197, R199). -/
def aoEnter (s : State) (f cluster : Nat) (sn : Snap) : State :=
  let x := getF s f
  let s0 := setF s f { x with snap := tput none x.snap cluster none }
  let time := extendTime s.ht (sn.time % 2 ^ 24)
  let period := time / aoPeriod % 2 ^ 32
  let at_ := aoEntry s cluster
  let old := readUnits s.hubMem at_ 10
  let valid := bit (old.getD 0 0) 0
  if valid && !(decide ((period + 2 ^ 32 - bits (old.getD 0 0) 63 32) % 2 ^ 32 < 2 ^ 31) &&
      decide (period ≠ bits (old.getD 0 0) 63 32)) then countF s0 rCntAoStat 47 32 1
  else
    let step (a : State × List Word × Nat) (g : Nat × Nat) : State × List Word × Nat :=
      let r := guestSums period a.1 g
      (r.1, addSums a.2.1 r.2.1, a.2.2 + r.2.2)
    let a := (guestsOfHome s cluster).foldl step (s0, sn.sums, tget 0 x.aoMiss cluster)
    let restart := !(tget false x.aoSent cluster)
    let u0 := aoUnit0 s f cluster period a.2.2
    let y := getF a.1 f
    let s1 := setF a.1 f { y with aoMiss := tput 0 y.aoMiss cluster 0, aoSent := tput false y.aoSent cluster true }
    let mem := writeUnits s1.hubMem (at_ + 8) (word time :: a.2.1 ++ List.replicate 6 0)
    let s2 : State := { s1 with hubMem := writeLe mem at_ 8 u0.toNat }
    let s3 := forAll (List.range 8) (fun s k =>
      let o := rCntDieSum + 8 * k
      let d := if restart || !valid then a.2.1.getD k 0 else a.2.1.getD k 0 - old.getD (2 + k) 0
      setReg s o (reg s o + d)) s2
    let s4 := setRegF s3 rCntAoStat 31 0 period
    noProgress s4 cluster time (restart || !valid || decide (a.2.2 ≠ 0)) (old.drop 2) a.2.1

/-- AO_ENTRY_WRITE (R197): a packet of a cluster's snapshot arrives, which its Flyer sends first where it has not yet. The entry is written once
every packet has arrived (DESIGN CHOICE, log entry 86: the command stands for one packet). -/
def execAoEntryWrite (cluster : Nat) (s : State) : Host.Outcome State Fault Refusal :=
  match servedBy s cluster with
  | none => ok s
  | some f =>
    match tget none (getF s f).snap cluster with
    | none => ok s
    | some sn =>
      let a := if sn.left = 0 then
          aoSend s f (aoUnit0 s f cluster 0 (tget 0 (getF s f).aoMiss cluster)).toNat sn.time sn.sums
        else (sn.left, s)
      if a.1 ≤ 1 then ok (aoEnter a.2 f cluster sn)
      else
        let x := getF a.2 f
        ok (setF a.2 f { x with snap := tput none x.snap cluster (some { sn with left := a.1 - 1 }) })

/-! ### Sampled profiles -/

/-- A CSAMP record (Table 7.4): counts, open commands and IDs as they stood before the present edge (R202). -/
def csamp (s : State) (i snum : Nat) : Rec :=
  let x := getS s i
  let before := x.open0.getD (x.cmdOpen, x.lastIds)
  let cnt (c : Nat) : Nat := if pcMode s i c = 1 ∨ pcMode s i c = 2 then (agEdge s i (aPc + c)).toNat else 0
  let maskOf (p : Nat → Bool) (n : Nat) : Nat := ((List.range n).map fun k => b2n (p k) * 2 ^ k).sum
  let ids := (List.range 4).filter fun n => bit (ag s i aCntBctrl) (1 + n) && (tget none before.2 n).isSome
  let c32 (c : Nat) : Nat := min (2 ^ 32 - 1) (cnt c)
  mkRec (srcFlyer (homeCluster s i) 2) 0x0B 2 (coreIdx s i * 2 ^ 24 + rcfOf s i * 2 ^ 16 + min 255 x.smpMiss * 2 ^ 8)
    ([word (s.ht % 2 ^ 24),
      word (snum * 2 ^ 32 + maskOf (fun c => decide (2 ^ 32 ≤ cnt c)) 8 * 2 ^ 24 + maskOf (fun c => pcMode s i c == 2) 8 * 2 ^ 16 +
        maskOf (fun n => (tget none before.1 n).isSome) 4 * 2 ^ 12 + maskOf (fun n => ids.contains n) 4 * 2 ^ 8)] ++
      ((List.range 4).map fun u => pair32 (c32 (2 * u + 1)) (c32 (2 * u))) ++
      ids.map fun n => (tget none before.2 n).elim 0 fun v => word v.toNat)

/-- One Bobbin at the sample edge (R200, R201). -/
def sampleSite (s : State) (i : Nat) : State :=
  if bit (ag s i aCntBctrl) 0 = false ∨ (getS s i).failed ∨ emits s i = false then s
  else
    let x := getS s i
    let st := ag s i aCntBstat
    let lost := x.sample.isSome
    let snum := (bits st 31 0 + 1) % 2 ^ 32
    let s1 := setAg s i aCntBstat (setBits (if lost then setBits st 63 48 (satAdd 16 (bits st 63 48) 1) else st) 31 0 snum)
    let s2 := setS s1 i { x with smpMiss := if lost then min 255 (x.smpMiss + 1) else x.smpMiss }
    let s3 := setS s2 i { getS s2 i with sample := some (csamp s2 i snum, edgeOf s i) }
    forAll ((List.range 8).filter fun c => pcMode s i c == 1 && !pcHeldAt s i c) (fun s c => setAgNext s i (aPc + c) (pcFirst s i c)) s3

/-- SAMPLE_EDGE (R200, R202): a detail boundary reaches the Bobbins of one cluster at one edge; `perf` are the strobes of that
edge, which belong to the next period. -/
def execSampleEdge (cluster : Nat) (perf : List (Nat × BitVec 32)) (s : State) : Host.Outcome State Fault Refusal :=
  match servedBy s cluster with
  | none => ok s
  | some f =>
    let x := getF s f
    let n := max 1 (regF s rCntSmpCtrl 63 32)
    if bit (reg s rCntSmpCtrl) 0 = false ∨ s.ht / n * n < max (tget 0 x.smpAt cluster) s.ring.smpFrom then ok s
    else
      let sites := (sitesOf s f).filter fun i => wiredCluster i = cluster
      let s1 := forAll sites sampleSite (setF s f { x with smpAt := tput 0 x.smpAt cluster (s.ht + 1) })
      ok (forAll (perf.filter fun e => sites.contains e.1) (fun s e => perfEdge s e.1 e.2) s1)

/-! ### The sample ring -/

/-- Units of the ring. -/
def ringSize (s : State) : Nat := 512 * regF s rCntRingSize 11 0

/-- Whether the ring runs past hub memory (CNT_RING_CTRL.ERR). -/
def ringErr (s : State) : Bool := decide (0x800000 < 4096 * regF s rCntRingBase 22 12 + 8 * ringSize s)

/-- Records written at WR, wrapping at the ring's end. -/
def ringPut (s : State) (us : List Word) : State :=
  let n := max 1 (ringSize s)
  let base := 4096 * regF s rCntRingBase 22 12
  let w := regF s rCntRingPtr 23 0
  let mem := ((List.range us.length).zip us).foldl (fun m e => writeLe m (base + 8 * ((w + e.1) % n)) 8 e.2.toNat) s.hubMem
  setRegF { s with hubMem := mem } rCntRingPtr 23 0 ((w + us.length) % n)

/-- RING_WRITE (R203, R204): the writer's first record, behind its source's pending gap, into the ring, or dropped. -/
def execRingWrite (s : State) : Host.Outcome State Fault Refusal :=
  match s.ring.q with
  | [] => ok s
  | r :: t =>
    let s0 : State := { s with ring := { s.ring with q := t } }
    let n := ringSize s
    if n = 0 ∨ ringErr s then ok s0
    else
      let l := gapAhead s.ring.gaps (recSrc r) ++ [r]
      let free := (regF s rCntRingPtr 55 32 + 2 * n - 1 - regF s rCntRingPtr 23 0) % n
      if unitsOf l ≤ free ∨ bit (reg s rCntRingCtrl) 0 then
        let s1 : State := { s0 with ring := { s0.ring with gaps := tput none s0.ring.gaps (recSrc r) none } }
        ok (ringPut s1 (l.flatMap recWords))
      else
        let s1 : State := { s0 with ring := { s0.ring with gaps := gapAdd s0.ring.gaps 4 s.ht r } }
        ok (if recType r = 6 then s1 else countF s1 rCntRingCtrl 63 48 1)

end Sys2Proof.Machine
end

