-- ==== Sys2Proof/Machine/Replies.lean ====
section
/-! DEFINITION. The way back of an agent operation: an agent's answer (R72, R87), the Flyer's window (R46), the in-network reductions
(R43) and the outcome at the issuer (R44, R268). -/

namespace Sys2Proof.Machine

/-! ### Outcome (R44, R72, Tables 10.1 and 10.4) -/

/-- Whether an agent's answer counts as done. Words that come back where the read was to stream count as a failure (R271). -/
def repGood (op : Op) (r : Reply) : Bool :=
  r.reason == 0 && !(op.type == .lmRead && op.str && !r.words.isEmpty)

/-- The better of two replies for MIN and MAX: a tie goes to the lower physical core index (Table 2.5). -/
def repPick (mx : Bool) (a b : Reply) : Reply :=
  let lt := if mx then decide (b.value < a.value) else decide (a.value < b.value)
  if lt || (a.value == b.value && decide (a.site < b.site)) then a else b

/-- The reduction of Table 2.5 over the agents that answered, and the winner's physical index. -/
def reduceReps (red : Red) (l : List Reply) : Word × Nat :=
  let vs := l.map Reply.value
  match red with
  | .none => (vs.headD 0, 0)
  | .or => (vs.foldl (· ||| ·) 0, 0)
  | .and => (vs.foldl (· &&& ·) (BitVec.allOnes 64), 0)
  | .sum => (vs.foldl (· + ·) 0, 0)
  | .count => (word (vs.filter fun v => v != 0).length, 0)
  | .collect => (0, 0)
  | .min => match l with
    | [] => (BitVec.allOnes 64, 0)
    | r :: t => let w := t.foldl (repPick false) r; (w.value, w.site)
  | .max => match l with
    | [] => (0, 0)
    | r :: t => let w := t.foldl (repPick true) r; (w.value, w.site)

/-- The COLLECT buffer of Table 10.4 as (offset, unit): unit 0 is written last. -/
def collectMem (s : State) (buf : Nat) (l : List Reply) : List (Nat × Word) :=
  let entry (e : Nat × Reply) : List (Nat × Word) :=
    [(buf + 16 + 16 * e.1, if e.2.reason = 0 then e.2.value else 0),
     (buf + 24 + 16 * e.1, word (coreIdx s e.2.site * 2 ^ 32 + e.2.site * 2 ^ 16 + e.2.reason))]
  ((List.range l.length).zip l).flatMap entry ++ [(buf + 8, 0), (buf, word l.length)]

/-- The outcome of an operation from the answers that reached its issuer (R44, R72, R268). A unit that the mill map now shows failed is not
named as having taken part, whatever it answered (R32). -/
def outcome (s : State) (op : Op) (answers : List Reply) : Arrival :=
  let reps := answers.filter fun r => !siteFailed s r.site
  let good := reps.filter (repGood op)
  let bad := op.sites.length - good.length
  let red := reduceReps op.red good
  let st : Status := match decide (op.sites.length = 1), reps with
    | true, [r] => if r.reason = 1 then .sideEffect else if r.reason = 2 then .locked else if bad = 0 then .ok else .noagent
    | _, _ => if bad = 0 then .ok else if good = [] then .noagent else .partial_
  let win := if st = .ok then red.2 else 0
  let count := match st with
    | .ok => if op.red = .collect then reps.length else win
    | .partial_ | .noagent => bad
    | _ => 0
  let mem := match op.type with
    | .read => if op.red = .collect then collectMem s op.buf reps else []
    | .lmRead => if op.str then [] else
        ((reps.filter fun r => r.reason == 0 || r.reason == 4).headD ⟨0, 0, 0, []⟩).words.zipIdx.map fun e => (op.buf + 8 * e.2, e.1)
    | _ => []
  { opId := op.id, status := st, count := BitVec.ofNat 32 count,
    result := if op.type = .read ∧ op.red ≠ .collect then some red.1 else none, mem := mem, win := win,
    reps := some answers }

/-! ### Nodes (R43) -/

/-- The operation of an issuer with an ISEQ. -/
def opOf (s : State) (issuer : Nat) (iseq : BitVec 16) : Option Op :=
  s.ops.find? fun o => o.issuer == issuer && o.iseq == iseq && o.held.isNone

/-- A node's part of a reduction. -/
def getAcc (s : State) (n issuer : Nat) (iseq : BitVec 16) : NodeAcc :=
  (s.spine.nodes.find? fun a => a.node == n && a.issuer == issuer && a.iseq == iseq).getD ⟨n, issuer, iseq, [], [], false⟩

/-- A node's part of a reduction replaced. -/
def setAcc (s : State) (a : NodeAcc) : State :=
  { s with spine := { s.spine with
    nodes := (s.spine.nodes.filter fun b => !(b.node == a.node && b.issuer == a.issuer && b.iseq == a.iseq)) ++ [a] } }

/-- The parts of an operation's reductions forgotten. -/
def dropAccs (s : State) (issuer : Nat) (iseq : BitVec 16) : State :=
  { s with spine := { s.spine with nodes := s.spine.nodes.filter fun b => !(b.issuer == issuer && b.iseq == iseq) } }

/-- SPN_LATE counts a reply (R44, R58). -/
def countLate (s : State) : State := countF s rSpnLate 63 0 1

/-- Answers reach a node from one contributor, `from` a tree child or the node itself for its own Flyer: a second share of one contributor
changes nothing (DESIGN CHOICE, log entry 84), and after the node has sent answers are counted and discarded (R44). -/
def contribute (s : State) (op : Op) (n from_ : Nat) (reps : List Reply) : State :=
  let a := getAcc s n op.issuer op.iseq
  if a.sent then countLate s
  else if a.got.contains from_ then s
  else setAcc s { a with got := a.got ++ [from_], reps := a.reps ++ reps }

/-- Whether an operation's outcome stands at its issuer. -/
def hasArrived (s : State) (opId : Nat) : Bool := s.arrivals.any fun a => a.opId == opId

/-- The answers of a Flyer's agents leave it: a single agent's go straight to the issuer over its tree in reverse (R41), others to the Flyer's
node. A single agent's second answer finds the outcome there and is counted (R44). -/
def flyerReply (s : State) (op : Op) (f : Nat) (reps : List Reply) : State :=
  if !op.one then contribute s op f f reps
  else
    let s1 := sendInward s op f (reps.flatMap (replyPackets op))
    if hasArrived s1 op.id then countLate s1 else postArrival s1 (outcome s1 op reps)

/-- The contributors that a node waits for: its own Flyer where that has members, and each tree child on the way to a member, as the
operation's own ways have them (R41). -/
def contributors (op : Op) (n : Nat) : List Nat :=
  (if op.nodes.contains n then [n] else []) ++ op.path.filterMap fun h => if h.2 = n + 1 then some h.1 else none

/-- Whether a node's Flyer reports a request's DL24 as passed (R38, R43). -/
def opLate (s : State) (op : Op) (node : Nat) : Bool := op.dl.any fun d => dlPassed (flyerTime s node) d

/-- Whether a node lies on an operation's way up from another, or is it. -/
def onWay (op : Op) (n : Nat) : Nat → Nat → Bool
  | 0, _ => false
  | k + 1, m => decide (m = n) || ((opParent op m).any fun q => onWay op n k q)

/-- The packets of a node's reduction (R43): value and counts, or the values of a COLLECT. -/
def reducePackets (s : State) (op : Op) (node : Nat) (reps : List Reply) : List LPkt :=
  if op.red = .collect then collectPackets op (reps.length + 1) reps
  else
    let good := reps.filter (repGood op)
    let red := reduceReps op.red good
    let members := op.sites.filter fun i => (flyerOf s i).any fun f => op.nodes.contains f && onWay op node 256 f
    let cnt := word (good.length % 65536 * 2 ^ 48 + (reps.length - good.length) % 65536 * 2 ^ 32 +
      (members.length - reps.length) % 65536 * 2 ^ 16 + red.2 % 65536)
    [inPacket op 4 [red.1, cnt]]

/-- What a node sends of its own Flyer at the deadline: the answers of the agents that have answered, where the Flyer's share has not come whole
(DESIGN CHOICE, log entry 85). -/
def partialReps (s : State) (op : Op) (node : Nat) : List Reply :=
  if (getAcc s node op.issuer op.iseq).got.contains node then []
  else ((getF s node).pend.filter fun e => e.opId == op.id).flatMap PendOp.reps

/-- REDUCTION_SEND (R43): once every contributor has answered, or the deadline has passed. From the entry node the reduction
reaches the issuer. -/
def execReductionSend (node : Nat) (issuer : Fin 9) (iseq : BitVec 16) (s : State) : Host.Outcome State Fault Refusal :=
  match opOf s issuer iseq with
  | none => ok s
  | some op =>
    let a := getAcc s node issuer iseq
    let want := contributors op node
    if op.one || a.sent || want.isEmpty || !(want.all a.got.contains || opLate s op node) then ok s
    else
      let reps := a.reps ++ partialReps s op node
      let s1 := sendUp (setAcc s { a with sent := true }) op node (reducePackets s op node reps)
      match opParent op node with
      | none => ok (postArrival s1 (outcome s1 op reps))
      | some m => ok (contribute s1 op m node reps)

/-- An operation kept in a Flyer's window of the last 8 of an issuer and cluster (R46, Table 3.8). -/
def windowPush (l : List WinEnt) (e : WinEnt) : List WinEnt :=
  let same := l.filter fun x => x.issuer == e.issuer && x.cluster == e.cluster
  let l' := if 8 ≤ same.length then l.erase (same.headD e) else l
  l' ++ [e]

/-- The shares of an operation whose agents under a Flyer have all answered leave the Flyer. -/
def settlePend (s : State) (f opId : Nat) : State :=
  let x := getF s f
  let mine := x.pend.filter fun e => e.opId == opId
  if mine = [] ∨ mine.any (fun e => !e.waiting.isEmpty) then s
  else
    let win := mine.foldl (fun l e => windowPush l ⟨e.issuer, e.iseq, e.cluster, e.reps⟩) x.window
    let s1 := setF s f { x with pend := x.pend.filter fun e => e.opId != opId, window := win }
    match s.ops.find? fun o => o.id == opId with
    | none => countLate s1
    | some op => flyerReply s1 op f (mine.flatMap PendOp.reps)

/-! ### Answers (R72) -/

/-- Whether ISEQ a is newer than b in serial arithmetic (R45). -/
def seqNewer (a b : BitVec 16) : Bool := decide (a ≠ b) && decide ((a - b).toNat < 2 ^ 15)

/-- An agent's answer to an operation: AG_LAST of the issuer's bank, the reply kept under R87, and the Flyer's share. -/
def answer (s : State) (i opId issuer : Nat) (iseq : BitVec 16) (rep : Reply) (count : Nat := 0) : State :=
  let s1 := setAgBank s i issuer aAgLast (word (iseq.toNat * 2 ^ 48 + count % 2 ^ 24 * 2 ^ 24 + rep.reason))
  let x := getS s1 i
  let s2 := setS s1 i { x with lastOps := match tget none x.lastOps issuer with
    | some l => if l.iseq = iseq then tput none x.lastOps issuer (some ⟨iseq, rep⟩) else x.lastOps
    | none => x.lastOps }
  match flyerOf s2 i with
  | none => s2
  | some f =>
    let y := getF s2 f
    settlePend (setF s2 f { y with pend := y.pend.map fun e =>
      if e.opId = opId ∧ e.waiting.contains i then
        { e with waiting := e.waiting.filter fun j => j != i, reps := e.reps ++ [rep] }
      else e }) f opId

end Sys2Proof.Machine
end

