-- ==== Sys2Proof/Machine/Bobbin.lean ====
section
/-! DEFINITION. The Bobbin: its agent registers (R66 to R68, R396), comparators (R80, R81), terminal pair (R82, R83, R134),
wake (R56, R74), register inspection (R69 to R73) and local memory (R75 to R79). -/

namespace Sys2Proof.Machine

/-! ### Comparators -/

/-- CMP_CTRLn of a site, as it is in force at the present edge (R81). -/
def cmpCtrl (s : State) (i n : Nat) : Word := agEdge s i (aCmpCtrl + 2 * n)
/-- CMP_VALn of a site, as it is in force at the present edge. -/
def cmpVal (s : State) (i n : Nat) : Word := agEdge s i (aCmpVal + 2 * n)

/-- CMP_CTRLn.ERR (R80): a reserved MODE, or a range at an odd n or with n + 1 absent. -/
def cmpErr (s : State) (i n : Nat) : Bool :=
  let m := bits (cmpCtrl s i n) 5 4
  decide (2 ≤ m) || (m == 1 && (n % 2 == 1 || decide (s.integ.cmpN ≤ n + 1)))

/-- Whether comparator n is the upper half of an armed pair (R80). -/
def cmpUpper (s : State) (i n : Nat) : Bool :=
  n % 2 == 1 && bit (cmpCtrl s i (n - 1)) 0 && bits (cmpCtrl s i (n - 1)) 5 4 == 1 && !cmpErr s i (n - 1)

/-- Whether an access is one that SRC watches (Table 3.3). -/
def srcWatches (src : Nat) : Access → Bool
  | .sched => src == 0
  | .dread => src == 1 || src == 3
  | .dwrite => src == 2 || src == 3

/-- Whether an armed comparator matches an address (R80). -/
def cmpMatch (s : State) (i n : Nat) (acc : Access) (a : BitVec 32) : Bool :=
  let c := cmpCtrl s i n
  let lo := bits (cmpVal s i n) 31 0
  bit c 0 && !cmpErr s i n && !cmpUpper s i n && srcWatches (bits c 7 6) acc &&
    (if bits c 5 4 = 1 then decide (lo ≤ a.toNat) && decide (a.toNat ≤ bits (cmpVal s i (n + 1)) 31 0)
     else decide (Nat.land (Nat.xor a.toNat lo) (2 ^ 32 - 1 - bits (cmpVal s i n) 63 32) = 0))

/-- An event at a site reaches a cross-trigger channel (R84). A guest's goes through a pulse crossing and waits for the Distaff (R91), and that of
a cluster served across regions goes through the alternate port's pulse crossing (R89). -/
def trigEvent (s : State) (i ch delay : Nat) : State :=
  if isGuest s i then
    match flyerOf s i with
    | none => s
    | some f =>
      if (getF s f).relay.contains (i, ch) then s
      else
        let a := trigPulse s (8 * wiredCluster i + 3)
        let x := getF a.2 f
        if a.1 then setF a.2 f { x with relay := x.relay ++ [(i, ch)] } else a.2
  else if isAlt s i && (flyerOf s i).any fun f => clusterRegion f != regionOf i then
    let a := trigPulse s (4096 + 8 * wiredCluster i + 3)
    if a.1 then xtEvent a.2 (homeCluster s i) ch delay else a.2
  else xtEvent s (homeCluster s i) ch delay

/-- The actions of one comparator's hit (R81): a write of its CMP_CTRL that landed at the hit's edge stands from the next edge on; a stop
prevails over a start of the same edge (R136). -/
def cmpAct (i : Nat) (s : State) (n : Nat) : State :=
  let c := cmpCtrl s i n
  let k := aCmpCtrl + 2 * n
  let c1 := setBits c 63 48 (satAdd 16 (bits c 63 48) 1)
  let s1 := if (tget none (getS s i).held k).isSome then s else setAg s i k (if bit c 8 then setBits c1 0 0 0 else c1)
  let s2 := if bit c 10 then traceStart s1 i else s1
  let s3 := if bit c 9 then traceStop s2 i else s2
  if bit c 11 then trigEvent s3 i (bits c 14 12) 1 else s3

/-- COMPARATOR_HIT (R81): the hit edge of an address presented at the edge before; TSTART and TSTOP act on the records of this
edge and after (R136). A gated core presents no address (R118). -/
def execComparatorHit (site : Nat) (acc : Access) (addr : BitVec 32) (s : State) : Host.Outcome State Fault Refusal :=
  let x := getS s site
  if !wired s site || x.failed || x.inReset || x.gated then ok s
  else
    let hits := (List.range s.integ.cmpN).filter fun n => cmpMatch s site n acc addr
    ok (forAll hits (cmpAct site) s)

/-- CORE_EVENT (R84, R208): the CA_EVT strobes of one edge. -/
def execCoreEvent (site : Nat) (evt : BitVec 8) (s : State) : Host.Outcome State Fault Refusal :=
  let x := getS s site
  if !wired s site || x.failed then ok s
  else
    let m := ag s site aAgEvtMap
    let s1 := forAll ((List.range 8).filter fun k => evt.getLsbD k && bit m (4 * k + 3))
      (fun s k => trigEvent s site (bits m (4 * k + 2) (4 * k)) 2) s
    ok (if (typeOf s site).wdgBit.any fun b => evt.getLsbD b then wdgPend s1 site else s1)

/-- FLY_XT_FIRE (R84, R85): a write that lands at the Flyer is an event at that edge. -/
def execFlyXtFire (cluster : Nat) (fire : BitVec 8) (s : State) : Host.Outcome State Fault Refusal :=
  ok (forAll ((List.range 8).filter fun n => fire.getLsbD n) (fun s n => xtEvent s cluster n 2) s)

/-- GUEST_TRIGGER_RELAY (R91): the Distaff fires the home cluster's channel through the bare path. -/
def execGuestTriggerRelay (site : Nat) (ch : Fin 8) (s : State) : Host.Outcome State Fault Refusal :=
  match flyerOf s site with
  | none => ok s
  | some f =>
    let x := getF s f
    if x.relay.contains (site, ch.val) then
      ok (xtEvent (setF s f { x with relay := x.relay.filter fun e => e != (site, ch.val) }) (homeCluster s site) ch 2)
    else ok s

/-! ### Virtual terminal (R82, R83, R134) -/

/-- VT_TX_WRITE (R82): a word into VT_TX, or dropped and counted while it holds 4. A word with CNT 0 holds a place until it is drained, and
counts in TX_DROP where it finds none (DESIGN CHOICE, log entry 63). -/
def execVtTxWrite (site : Nat) (v : Word) (s : State) : Host.Outcome State Fault Refusal :=
  let x := getS s site
  if !wired s site || x.failed || x.inReset then ok s
  else if 4 ≤ x.vtTx.length then
    let t := ag s site aVtStat
    ok (setAg s site aVtStat (setBits t 63 48 (satAdd 16 (bits t 63 48) 1)))
  else ok (setS s site { x with vtTx := x.vtTx ++ [(v, s.ht)] })

/-- VT_RX_POP (R83). -/
def execVtRxPop (site : Nat) (s : State) : Host.Outcome State Fault Refusal :=
  ok (setS s site { getS s site with vtRx := (getS s site).vtRx.drop 1 })

/-- VT_DRAIN (R82, R134, R139): the head word leaves VT_TX as a TERM record of class P1, which waits for its turn at the Flyer; a word with CNT 0
is discarded there. -/
def execVtDrain (site : Nat) (s : State) : Host.Outcome State Fault Refusal :=
  let x := getS s site
  match x.vtTx, flyerOf s site with
  | (v, t) :: l, some _ =>
    if x.failed || !emits s site then ok s
    else if bits v 58 56 = 0 then ok (setS s site { x with vtTx := l })
    else if x.term.isSome then ok s
    else ok (setS s site { x with vtTx := l, term := some (mkRec (0x4001 + 4 * coreIdx s site) 5 1 0 [word (t % 2 ^ 24), v]) })
  | _, _ => ok s

/-! ### Agent registers -/

/-- Whether a Bobbin may write through the window (R65, R71): the core shows CA_FROZEN, in time for its freeze. -/
def siteFrozen (s : State) (i : Nat) : Bool := (getS s i).frozen && !(getS s i).freezeLate

/-- AG_ID (Table 3.3). LCOL and LROW of a site that a spare has replaced read 0, as those of an unused spare do (DESIGN CHOICE, log entry 64:
the table gives the latter alone). -/
def agId (s : State) (i : Nat) : Word :=
  let c := (coreOf s i).getD 0
  word (s.integ.cmpN % 16 * 2 ^ 30 + (slotsOf s i).toNat * 2 ^ 26 + b2n (pcol i == 64) * 2 ^ 25 + pcol i % 128 * 2 ^ 18 +
    prow i % 64 * 2 ^ 12 + c % 64 * 2 ^ 6 + c / 64)

/-- AG_STATUS (Table 3.3). -/
def agStatus (s : State) (i : Nat) : Word :=
  let x := getS s i
  word (b2n x.freezeLate * 2 ^ 16 + (partOf s i).getD 0 * 2 ^ 10 + b2n (partOf s i).isNone * 2 ^ 9 + b2n (isAlt s i) * 2 ^ 8 +
    b2n x.inReset * 2 ^ 7 + b2n x.lp * 2 ^ 6 + b2n x.lock * 2 ^ 5 + b2n x.gated * 2 ^ 4 + b2n x.wakeReq * 2 ^ 3 +
    b2n x.frozen * 2 ^ 2)

/-- TS_CUR (Table 6.1). -/
def tsCur (s : State) (i : Nat) : Word :=
  let x := getS s i
  let j := (flyerOf s i).bind fun f => (getF s f).card.sel.bind fun c => if c.1 = i then some c.2 else none
  word (b2n (x.tapEn && j.isSome) * 2 ^ 7 + j.getD 0 * 2 ^ 6 + x.tapSel % 4 * 2 ^ 4)

/-- Whether an index below 0x80 is one that the agent answers with NOREG (R66, R91). -/
def agNoreg (s : State) (i idx : Nat) : Bool :=
  (agLayAt idx).isNone || (decide (aCmpCtrl ≤ idx) && decide (idx < aCmpCtrl + 16) &&
    decide (s.integ.cmpN ≤ (idx - aCmpCtrl) / 2)) || (decide (0x60 ≤ idx) && isGuest s i)

/-- A cluster-shared register changed from the next edge on: the value in force at the present edge is kept (R85). -/
def setFlyNext (s : State) (c idx : Nat) (v : Word) : State :=
  let x := getF s c
  let s1 := if (tget none x.held idx).isSome then s else setF s c { x with held := tput none x.held idx (some (flyReg s c idx)) }
  setFlyReg s1 c idx v

/-- A cluster-shared register as it is in force at the present edge. -/
def flyEdge (s : State) (c idx : Nat) : Word := (tget none (getF s c).held idx).getD (flyReg s c idx)

/-- A read of an agent register below 0x80: reason, value, and the state after its clearing of RC fields (R68, R13). -/
def agRead (s : State) (i issuer idx : Nat) : Nat × Word × State :=
  if agNoreg s i idx then (3, 0, s)
  else if idx = aAgId then (0, agId s i, s)
  else if idx = aAgStatus then (0, agStatus s i, s)
  else if idx = aAgLast ∨ idx = aAgCwin ∨ idx = aAgLmCtrl then (0, agBank s i issuer idx, s)
  else if idx = aVtRx ∨ idx = aFlyXtFire ∨ (idx = aBtCtrl ∧ pcol i = 64 ∧ emits s i = false) then (0, 0, s)
  else if idx = aTsCur then (0, tsCur s i, s)
  else if 0x60 ≤ idx then (0, flyReg s (homeCluster s i) idx, s)
  else
    let v := ag s i idx
    let extra : Word :=
      if idx = aVtStat then word ((getS s i).vtRx.length % 8 * 2 ^ 4 + (getS s i).vtTx.length % 8)
      else if aCmpCtrl ≤ idx ∧ idx < aCmpCtrl + 16 ∧ idx % 2 = 0 ∧ cmpErr s i ((idx - aCmpCtrl) / 2) then 8
      else 0
    (0, v ||| extra, setAg s i idx ((agLayAt idx).elim v fun l => l.read v))

/-- A write of an agent register below 0x80: reason, and the state after it (R66, R68, R83, R84, R166, R202). -/
def agWrite (s : State) (i issuer idx : Nat) (v : Word) : Nat × State :=
  match agLayAt idx with
  | none => (3, s)
  | some l =>
    if agNoreg s i idx then (3, s)
    else if idx = aAgLast ∨ idx = aAgCwin ∨ idx = aAgLmCtrl then
      (0, setAgBank s i issuer idx (l.write (agBank s i issuer idx) v))
    else if idx = aVtRx then
      let x := getS s i
      if 4 ≤ x.vtRx.length then (9, s) else (0, setS s i { x with vtRx := x.vtRx ++ [v] })
    else if idx = aFlyXtFire then
      (0, forAll ((List.range 8).filter fun n => bit v n) (fun s n => xtEvent s (homeCluster s i) n 2) s)
    else if 0x60 ≤ idx then (0, setFlyNext s (homeCluster s i) idx (l.write 0 v))
    else if aCmpCtrl ≤ idx ∧ idx < aCmpCtrl + 16 ∧ idx % 2 = 0 then (0, setAgNext s i idx (l.write 0 v))
    else if idx = aBtCtrl then
      if pcol i = 64 ∧ coreOf s i = none then (3, s) else (0, setAgNext s i idx (l.write (ag s i idx) v))
    else if idx = tsIdx aTsMatch 0 ∨ idx = tsIdx aTsMatch 1 then
      let s1 := setAg s i idx (l.write (ag s i idx) v)
      (0, (flyerOf s i).elim s1 (settleCard s1))
    else if aPc ≤ idx ∧ idx < aPc + 8 then
      let s1 := setAgNext s i idx (l.write (ag s i idx) v)
      let x := getS s1 i
      let b := 2 ^ (idx - aPc)
      (0, setS s1 i { x with pcHeld := if x.pcHeld / b % 2 = 1 then x.pcHeld else x.pcHeld + b })
    else if idx = aCntBctrl then
      let s1 := if !bit (ag s i idx) 0 && bit v 0 then setAg s i aCntBstat (setBits (ag s i aCntBstat) 31 0 0) else s
      (0, setAg s1 i idx (l.write (ag s1 i idx) v))
    else (0, setAgNext s i idx (l.write (ag s i idx) v))

/-! ### Wake (R56, R74) -/

/-- A crossing into a site's core is wanted: true where it must wait for the wake acknowledge. -/
def wakeWant (s : State) (i : Nat) : Bool × State :=
  let x := getS s i
  if x.gated && !x.wakeAck then
    (true, if x.wakeReq then s else setS s i { x with wakeReq := true, wakeAt := s.ht })
  else (false, s)

/-- The end of an operation's last crossing: a wake request stands for 64 cycles more. -/
def wakeHold (s : State) (i : Nat) : State :=
  let x := getS s i
  if x.wakeReq then setS s i { x with wakeUntil := edgeOf s i + 64 } else s

/-! ### Register inspection (R69 to R71) -/

/-- The first edge at which a Bobbin may send a request: 16 cycles after a core reset release (R71). -/
def firstEdge (s : State) (i : Nat) : Nat := max (edgeOf s i) ((getS s i).rstEdge.elim 0 (· + 16))

/-- CA_RI_REQ rises for the request at the head of a Bobbin's queue, once its edge has come and the core's clock runs; a write is judged then:
it goes only while the core is frozen and not locked (R71, R73). -/
def riRaise : Nat → State → Nat → State
  | 0, s, _ => s
  | n + 1, s, i =>
    let x := getS s i
    match x.ri with
    | [] => wakeHold s i
    | q :: t =>
      if q.sent || q.waking || decide (edgeOf s i < max q.at_ (firstEdge s i)) then s
      else
        let w := wakeWant s i
        let y := getS w.2 i
        if w.1 then setS w.2 i { y with ri := { q with waking := true } :: t }
        else if q.wr && (!siteFrozen s i || x.lock) then
          riRaise n (answer (setS s i { x with ri := t }) i q.opId q.issuer q.iseq ⟨i, 2, 0, []⟩) i
        else setS s i { x with ri := { q with sent := true, at_ := edgeOf s i } :: t }

/-- The request at the head of a Bobbin's queue may rise from an edge on; a core whose clock is gated is asked to wake (R56, Table 3.4). -/
def riNext (s : State) (i edge : Nat) : State :=
  let x := getS s i
  match x.ri with
  | [] => wakeHold s i
  | q :: t =>
    let w := wakeWant s i
    let y := getS w.2 i
    riRaise (x.ri.length + 1) (setS w.2 i { y with ri := (if q.sent then q else { q with waking := w.1, at_ := edge }) :: t }) i

/-! ### Local memory (R75 to R79) -/

/-- The words of a stream in records of up to 14 (R79, R229), from local-memory address a and word number k on. -/
def lmChunks (src core : Nat) (q : LmReq) : Nat → Nat → List Word → List Rec
  | 0, _, _ => []
  | _, _, [] => []
  | n + 1, k, ws =>
    let d := ws.take 14
    let bad := ((List.range d.length).filter fun j => q.bad.contains (k + j)).foldl (fun a j => a + 2 ^ j) 0
    let st := if bad ≠ 0 then 2 else if q.corr then 1 else 0
    mkRec src 0x0C 4 (2 * 2 ^ 32 + st * 2 ^ 28 + core * 2 ^ 16)
      (word (d.length * 2 ^ 60 + bad * 2 ^ 46 + (q.addr + k) % 2 ^ 46) :: d) :: lmChunks src core q n (k + 14) (ws.drop 14)

/-- A local-memory operation has left a Bobbin's queue: a streamed read sends what it read (R79), a site without a core's number nothing
(R125), and the agent answers. -/
def lmDone (s : State) (i : Nat) (q : LmReq) (reason count : Nat) : State :=
  let x := getS s i
  let recs := if q.stream && !q.wr && emits s i then
      lmChunks (0x4002 + 4 * coreIdx s i) (coreIdx s i) q (q.got.length + 1) 0 q.got else []
  answer (setS s i { x with dOut := x.dOut ++ recs }) i q.opId q.issuer q.iseq
    ⟨i, reason, 0, if q.wr || q.stream then [] else q.got⟩ count

/-- The first local-memory operation leaves a Bobbin with a reason. -/
def lmEnd (s : State) (i : Nat) (reason count : Nat) : State :=
  let x := getS s i
  match x.lm with
  | [] => s
  | q :: t => wakeHold (lmDone (setS s i { x with lm := t }) i q reason count) i

/-! ### Operations at a Bobbin -/

/-- The register writes that come before an operation's own access, up to the first that fails (R276, R277, R394). -/
def doPre (i issuer : Nat) : List (Nat × Word) → State → Nat × State
  | [], s => (0, s)
  | (idx, v) :: t, s =>
    let r := agWrite s i issuer idx v
    if r.1 = 0 then doPre i issuer t r.2 else r

/-- An access through the core register window (R63, R70, R71, R73): answered here, or queued for the core. -/
def windowAccess (s : State) (op : Op) (i : Nat) (wr : Bool) : State :=
  let x := getS s i
  let cw := agBank s i op.issuer aAgCwin
  let creg := 128 * bits cw 11 7 + (op.reg - 0x80)
  if x.inReset then answer s i op.id op.issuer op.iseq ⟨i, 8, 0, []⟩
  else if (typeOf s i).cregN ≤ creg then answer s i op.id op.issuer op.iseq ⟨i, 3, 0, []⟩
  else
    let q : RiReq := { opId := op.id, issuer := op.issuer, iseq := op.iseq, creg := creg, wr := wr, force := !wr && bit cw 31,
                       data := op.data.headD 0, waking := false, sent := false, at_ := 0 }
    let s1 := setS s i { x with ri := x.ri ++ [q] }
    if x.ri.isEmpty then riNext s1 i (edgeOf s i) else s1

/-- A local-memory access (R63, R71, R73, R75 to R79): answered here, or queued for stealing. -/
def lmAccess (s : State) (op : Op) (i : Nat) (wr : Bool) : State :=
  let x := getS s i
  let no (r : Nat) : State := answer s i op.id op.issuer op.iseq ⟨i, r, 0, []⟩
  if x.inReset then no 8
  else if (typeOf s i).lmWords < op.lmAddr + op.nWords then no 3
  else if wr && x.lock then no 2
  else
    let w := wakeWant s i
    let y := getS w.2 i
    let q : LmReq := { opId := op.id, issuer := op.issuer, iseq := op.iseq, wr := wr, addr := op.lmAddr, n := op.nWords,
                       data := op.data, issued := 0, got := [], bad := [], corr := false,
                       stream := bit (agBank s i op.issuer aAgLmCtrl) 0, dl := op.dl, since := s.ht, waking := w.1 }
    setS w.2 i { y with lm := y.lm ++ [q] }

/-- An operation takes effect at a Bobbin. -/
def applyNow (op : Op) (s : State) (i : Nat) : State :=
  let x := getS s i
  let s1 := setS s i { x with lastOps := tput none x.lastOps op.issuer (some ⟨op.iseq, ⟨i, 0, 0, []⟩⟩) }
  let p := doPre i op.issuer op.pre s1
  let done (s : State) (r : Nat) (v : Word) : State := answer s i op.id op.issuer op.iseq ⟨i, r, v, []⟩
  if p.1 ≠ 0 then done p.2 p.1 0
  else match op.type with
    | .write => if 0x80 ≤ op.reg then windowAccess p.2 op i true
      else let r := agWrite p.2 i op.issuer op.reg (op.data.headD 0); done r.2 r.1 0
    | .read => if 0x80 ≤ op.reg then windowAccess p.2 op i false
      else let r := agRead p.2 i op.issuer op.reg; done r.2.2 r.1 r.2.1
    | .lmWrite => lmAccess p.2 op i true
    | .lmRead => lmAccess p.2 op i false

/-- Whether an operation of an issuer is under way at a Bobbin. -/
def issuerBusy (x : Site) (issuer : Nat) : Bool :=
  x.ri.any (fun q => q.issuer == issuer) || x.lm.any (fun q => q.issuer == issuer)

/-- Operations that wait take effect, each once none of its issuer's before it is under way (R27). -/
def drainWait : Nat → State → Nat → State
  | 0, s, _ => s
  | n + 1, s, i =>
    let x := getS s i
    match x.waitOps.find? fun o => !issuerBusy x o.issuer with
    | none => s
    | some op => drainWait n (applyNow op (setS s i { x with waitOps := x.waitOps.erase op }) i) i

/-- Whatever waits at a Bobbin and can go on now goes on. -/
def siteGo (s : State) (i : Nat) : State :=
  let s1 := riRaise ((getS s i).ri.length + 1) s i
  drainWait ((getS s1 i).waitOps.length + 1) s1 i

/-- An operation at one Bobbin: applied, answered from its last (R45, R46, R87), or behind an earlier one of its issuer (R27). -/
def applyAt (op : Op) (s : State) (i : Nat) : State :=
  let x := getS s i
  match (tget none x.lastOps op.issuer).filter fun l => !seqNewer op.iseq l.iseq with
  | some l => if l.iseq = op.iseq then answer s i op.id op.issuer op.iseq l.reply
      else answer s i op.id op.issuer op.iseq ⟨i, 0, 0, []⟩
  | none =>
    if issuerBusy x op.issuer || x.waitOps.any (fun o => o.issuer == op.issuer) then setS s i { x with waitOps := x.waitOps ++ [op] }
    else applyNow op s i

/-- A Bobbin with work left for a core that has gated its clock asks it to wake (R56, R74). -/
def wakeNeed (s : State) (i : Nat) : State :=
  let x := getS s i
  let ri := x.ri.any fun q => !q.sent
  if (ri || !x.lm.isEmpty) && x.gated && !x.wakeAck then
    let w := (wakeWant s i).2
    let y := getS w i
    setS w i { y with ri := y.ri.map (fun q => if q.sent then q else { q with waking := true }),
                      lm := y.lm.map fun q => { q with waking := true } }
  else s

/-! ### The commands of wake, inspection and local memory -/

/-- WAKE_ACK (R56): CA_WAKE_ACK rises, and the crossings that waited for it start; a write through the window is judged now (R71). -/
def execWakeAck (site : Nat) (s : State) : Host.Outcome State Fault Refusal :=
  let x := getS s site
  if x.wakeReq && !x.wakeAck then
    ok (siteGo (setS s site { x with wakeAck := true, ri := x.ri.map (fun q => { q with waking := false }),
                                     lm := x.lm.map fun q => { q with waking := false } }) site)
  else ok s

/-- WAKE_RELEASE (R74): 64 cycles after the last crossing the request is withdrawn, and the core lowers its acknowledge. -/
def execWakeRelease (site : Nat) (s : State) : Host.Outcome State Fault Refusal :=
  let x := getS s site
  if x.wakeReq && x.wakeAck && x.ri.isEmpty && x.lm.isEmpty && decide (x.wakeUntil ≤ edgeOf s site) then
    ok (setS s site { x with wakeReq := false, wakeAck := false })
  else ok s

/-- The head request of a Bobbin ends with a reply, and the next may be raised two edges later (Table 3.4). -/
def riEnd (s : State) (i : Nat) (rep : Reply) : State :=
  let x := getS s i
  match x.ri with
  | [] => s
  | q :: t =>
    siteGo (riNext (answer (setS s i { x with ri := t }) i q.opId q.issuer q.iseq rep) i (edgeOf s i + 2)) i

/-- The reason of a CA_RI_STAT (Table 3.1, Table 3.5). -/
def riReason (stat : Nat) : Nat :=
  match stat with
  | 0 => 0
  | 1 => 1
  | 2 => 2
  | 3 => 3
  | _ => 4

/-- INSPECTION_ACK (R69, R70): the core acknowledges the outstanding request, within 64 cycles of its strobe. -/
def execInspectionAck (site : Nat) (stat : Fin 8) (data : Word) (s : State) : Host.Outcome State Fault Refusal :=
  match (getS s site).ri with
  | [] => ok s
  | q :: _ =>
    if q.sent && decide (q.at_ < edgeOf s site) && decide (edgeOf s site ≤ q.at_ + 64) then
      ok (riEnd s site ⟨site, riReason stat, if q.wr || stat ≠ 0 then 0 else data, []⟩)
    else ok s

/-- INSPECTION_TIMEOUT (R69): no acknowledge within 64 cycles. -/
def execInspectionTimeout (site : Nat) (s : State) : Host.Outcome State Fault Refusal :=
  match (getS s site).ri with
  | [] => ok s
  | q :: _ => if q.sent && decide (q.at_ + 64 < edgeOf s site) then ok (riEnd s site ⟨site, 5, 0, []⟩) else ok s

/-- LM_STEAL (R75, R76): one word at an edge that the core promised free, at most one an edge. A write stops at a word that finds the core locked
(R73). -/
def execLmSteal (site : Nat) (s : State) : Host.Outcome State Fault Refusal :=
  let x := getS s site
  match x.lm with
  | [] => ok s
  | q :: t =>
    if q.waking || x.inReset || x.failed || !x.lmIdle || (x.gated && !x.wakeAck) || decide (x.lmAt = edgeOf s site + 1) ||
        decide (edgeOf s site < firstEdge s site) || decide (q.n ≤ q.issued) then ok s
    else if q.wr && x.lock then ok (siteGo (lmEnd s site 2 q.issued) site)
    else
      let s1 := setS s site { x with lm := { q with issued := q.issued + 1 } :: t, lmAt := edgeOf s site + 1 }
      ok (if q.wr && q.issued + 1 == q.n then siteGo (lmEnd s1 site 0 q.n) site else s1)

/-- LM_READ_RETURN (R78): data of the oldest read word not yet returned; 2 and 3 are uncorrectable. The read goes on to the end of its operation,
which one request packet carries (DESIGN CHOICE, log entry 62). -/
def execLmReadReturn (site : Nat) (err : Fin 4) (data : Word) (s : State) : Host.Outcome State Fault Refusal :=
  let x := getS s site
  match x.lm with
  | [] => ok s
  | q :: t =>
    if q.wr || decide (q.issued ≤ q.got.length) then ok s
    else
      let k := q.got.length
      let q1 : LmReq := { q with got := q.got ++ [data], bad := if 2 ≤ err.val then q.bad ++ [k] else q.bad,
                                 corr := q.corr || err.val == 1 }
      let s1 := setS s site { x with lm := q1 :: t }
      ok (if k + 1 = q.n then siteGo (match q1.bad with
          | [] => lmEnd s1 site 0 q.n
          | b :: _ => lmEnd s1 site 4 b) site else s1)

/-- Whether a local-memory operation's time has run out at a site (R77): its DL24 has passed, or 2 ^ 22 ht since it arrived. -/
def lmLate (s : State) (i : Nat) (q : LmReq) : Bool :=
  match q.dl with
  | some d => dlPassed (flyerTime s ((flyerOf s i).getD (wiredCluster i))) d
  | none => decide (q.since + 2 ^ 22 ≤ s.ht)

/-- LM_DEADLINE (R77): the first operation whose deadline has passed before its last word stops, wherever it stands in the queue. -/
def execLmDeadline (site : Nat) (s : State) : Host.Outcome State Fault Refusal :=
  let x := getS s site
  match x.lm.find? (lmLate s site) with
  | none => ok s
  | some q =>
    let s1 := lmDone (setS s site { x with lm := x.lm.erase q }) site q 7 (if q.wr then q.issued else q.got.length)
    ok (siteGo (wakeHold s1 site) site)

/-- WAKE_TIMEOUT (R56): 4,000 ht without an acknowledge. Every operation that waits is answered WAKE. -/
def execWakeTimeout (site : Nat) (s : State) : Host.Outcome State Fault Refusal :=
  let x := getS s site
  if x.wakeReq && !x.wakeAck && decide (x.wakeAt + 4000 ≤ s.ht) then
    let s1 := setS s site { x with wakeReq := false, ri := x.ri.filter fun q => !q.waking, lm := x.lm.filter fun q => !q.waking }
    let s2 := forAll (x.ri.filter (·.waking)) (fun s q => answer s site q.opId q.issuer q.iseq ⟨site, 6, 0, []⟩) s1
    let s3 := forAll (x.lm.filter (·.waking)) (fun s q => answer s site q.opId q.issuer q.iseq ⟨site, 6, 0, []⟩) s2
    ok (siteGo s3 site)
  else ok s

/-! ### Core reset (R71, R137) -/

/-- CORE_RESET_ASSERT (R71, R74, R137, R171): CA_RST_N falls. An operation that the reset ends has had its last crossing. -/
def execCoreResetAssert (site : Nat) (s : State) : Host.Outcome State Fault Refusal :=
  let x := getS s site
  if !wired s site || x.inReset then ok s
  else
    let s1 := lpwr (setS s site { x with inReset := true }) site 4
    let y := getS s1 site
    let s2 := setS s1 site { y with ri := [], lm := [], cmdOpen := [], lastIds := [], lock := false, frozen := false }
    let s3 := forAll y.ri (fun s q => answer s site q.opId q.issuer q.iseq ⟨site, 8, 0, []⟩) s2
    let s4' := forAll y.lm (fun s q => answer s site q.opId q.issuer q.iseq ⟨site, 8, 0, []⟩
      (if q.wr then q.issued else q.got.length)) s3
    let s4 := siteGo (if y.ri.isEmpty && y.lm.isEmpty then s4' else wakeHold s4' site) site
    match flyerOf s4 site with
    | none => ok s4
    | some f =>
      let c := (getF s4 f).card
      if c.sel.any fun e => e.1 = site then
        let s5 := if c.win.isSome then closeWindow s4 f 4 else s4
        ok (setCard s5 f { (getF s5 f).card with tag := none })
      else ok s4

/-- CORE_RESET_RELEASE (R71, R137): CA_RST_N rises; the Bobbin sends its next request 16 cycles later. -/
def execCoreResetRelease (site : Nat) (s : State) : Host.Outcome State Fault Refusal :=
  let x := getS s site
  if x.inReset then ok (lpwr (setS s site { x with inReset := false, rstEdge := some (edgeOf s site) }) site 5) else ok s

/-- FREEZE_LATE (R65): a frozen core without CA_FROZEN 64 cycles after its freeze. -/
def execFreezeLate (site : Nat) (s : State) : Host.Outcome State Fault Refusal :=
  match partOf s site with
  | none => ok s
  | some p =>
    let x := getRP s p (regionOf site)
    if x.latch && !(getS s site).frozen && decide (x.latchAt + 64 ≤ edgeOf s site) && wired s site then
      ok (setS s site { getS s site with freezeLate := true })
    else ok s

end Sys2Proof.Machine
end

