-- ==== Sys2Proof/Machine/Agents.lean ====
section
/-! DEFINITION. Agent operations from issue to completion: the issuers (R24, R41, R45, R112), the Flyers (R46, R47, R87),
tickets (R58, R240) and the control plane's links (R36 to R40, Table 2.6). -/

namespace Sys2Proof.Machine

/-! ### Flyers (R46, R47, R87) -/

/-- Whether an operation's engine mask names a slot present at a site (R16). -/
def namesSlot (s : State) (op : Op) (i : Nat) : Bool := decide ((slotsOf s i).toNat &&& setEng op.set ≠ 0)

/-- An operation that a Flyer receives is applied at the Bobbins it serves; a failed Bobbin gives no answer (R426), and an agent at which the
engine mask names only absent slots takes no part (R16). -/
def receiveAt (f : Nat) (s : State) (op : Op) : State :=
  let sites := op.sites.filter fun i => flyerOf s i == some f && !(getS s i).failed && namesSlot s op i
  let op1 : Op := { op with todo := op.todo.filter fun n => n != f }
  let s1 : State := { s with ops := s.ops.map fun o => if o.id = op.id then op1 else o }
  let x := getF s1 f
  let cl := (sites.map wiredCluster).eraseDups
  let pend := cl.map fun c => (⟨op.id, op.issuer, op.iseq, c, sites.filter fun i => wiredCluster i == c, []⟩ : PendOp)
  let s2 := setF s1 f { x with pend := x.pend ++ pend,
                               heldOps := x.heldOps.filter fun h => h != (op.issuer, op.iseq) }
  if sites = [] then flyerReply s2 op1 f [] else forAll sites (applyAt op1) s2

/-- A duplicate at a Flyer (R46, R87): its stored reply goes out again while the window holds it; an older one is discarded and counted. -/
def duplicate (s : State) (f issuer : Nat) (iseq : BitVec 16) : State :=
  match (getF s f).window.filter fun e => e.issuer == issuer && e.iseq == iseq with
  | [] =>
    if (sitesOf s f).any fun i => (tget none (getS s i).lastOps issuer).any fun l => !seqNewer iseq l.iseq then countF s rSpnDup 63 0 1
    else s
  | l => match opOf s issuer iseq with
    | none => countLate s
    | some op => flyerReply s op f (l.flatMap WinEnt.reps)

/-- Route epochs ahead of the one a Flyer knows for an issuer (R47). -/
def epochAhead (s : State) (f : Nat) (op : Op) : Bool :=
  let d := (op.epoch + 16 - tget 0 (getF s f).epochs op.issuer) % 16
  decide (1 ≤ d) && decide (d < 8)

/-- AGENT_OP_RECEIVE (R46, R47): packets of an issuer reach a Flyer in issue order; a new epoch's operations wait for the close of
the old one, at most 8 of an issuer for each cluster served (Table 3.8), and a full window withholds the issuer's credit. -/
def execAgentOpReceive (flyer : Nat) (issuer : Fin 9) (iseq : BitVec 16) (s : State) : Host.Outcome State Fault Refusal :=
  let x := getF s flyer
  if x.failed then ok s
  else match opOf s issuer iseq with
    | none => ok (duplicate s flyer issuer iseq)
    | some op =>
      if op.todo.contains flyer then
        if s.ops.any fun o => o.issuer == issuer.val && o.held.isNone && o.todo.contains flyer && seqNewer iseq o.iseq then ok s
        else if epochAhead s flyer op then
          let mine := x.heldOps.filter fun h => h.1 == issuer.val
          if mine.contains (issuer.val, iseq) then ok s
          else if 8 * (clustersOf s flyer).length ≤ mine.length then ok (withhold s (linkInto s op flyer) issuer)
          else ok (setF s flyer { x with heldOps := x.heldOps ++ [(issuer.val, iseq)] })
        else ok (receiveAt flyer s op)
      else if x.pend.any fun e => e.opId == op.id then ok s
      else ok (duplicate s flyer issuer iseq)

/-- EPOCH_CLOSE (R47, Table 2.6 step 6): the close of an issuer's old epoch; operations held are applied in ISEQ order, and the credit withheld
returns. -/
def execEpochClose (flyer : Nat) (issuer : Fin 9) (epoch : Fin 16) (s : State) : Host.Outcome State Fault Refusal :=
  let x := getF s flyer
  if x.failed || tget 0 x.epochs issuer != epoch.val || tget 0 s.spine.epochs issuer == epoch.val then ok s
  else
    let s1 := setF s flyer { x with epochs := tput 0 x.epochs issuer ((epoch.val + 1) % 16) }
    let held := (s1.ops.filter fun o => o.issuer == issuer.val && x.heldOps.contains (o.issuer, o.iseq)).filter fun o =>
      !epochAhead s1 flyer o
    let first := (held.head?.map Op.iseq).getD 0
    let s2 := forAll (sortBy (fun o => (o.iseq - first + 0x4000).toNat) held) (receiveAt flyer) s1
    ok (giveCredit s2 flyer issuer)

/-! ### Issue (R24, R38, R41, R112, R241) -/

/-- The partition that holds an operation back (R112): every agent lies in it, and it is HALTING or STEPPING. -/
def holdPart (s : State) (sites : List Nat) : Option Nat :=
  (sites.head?.bind (partOf s)).filter fun p =>
    (sites.all fun i => partOf s i == some p) && ((getP s p).st == .halting || (getP s p).st == .stepping)

/-- The deadline of the ticket, or of the bare path's operation, that waits for an operation (R241, R392). -/
def armDeadline (s : State) (op : Op) (dl : Nat) : State :=
  match op.owner with
  | .ticket w t =>
    let x := getW s w
    let k := getTk x t
    if k.st = .pending ∧ k.opId = op.id then setW s w (setTk x t { k with dl := some dl }) else s
  | .aga => if s.aga.opId = op.id then { s with aga := { s.aga with dl := some dl } } else s
  | .hub => s

/-- An operation leaves its issuer: ISEQ, epoch, ways and deadline are set, and its packets are on their way to every Flyer whose node is in
reach (R38, R41, R45). Agents out of reach count in N_MISS. -/
def sendOp (s : State) (op : Op) : State :=
  let n := tget 0 s.spine.iseqs op.issuer
  let e := issuerEntry s op.issuer
  let nodes := ((op.sites.filterMap (flyerOf s)).eraseDups).filter (reaches s op.issuer)
  let op1 : Op := { op with iseq := n, epoch := tget 0 s.spine.epochs op.issuer, held := none, nodes := nodes, todo := nodes,
                            entry := e, path := waysOf s e nodes, dl := if op.span ≤ 2 ^ 22 then some (s.ht + op.span) else none }
  let s0 := dropAccs s op.issuer n
  let s1 : State := { s0 with spine := { s0.spine with iseqs := tput 0 s0.spine.iseqs op.issuer (n + 1) },
                              ops := (s0.ops.filter fun o => o.id != op.id) ++ [op1] }
  let s2 := armDeadline s1 op1 (s.ht + op.span)
  if nodes = [] then postArrival s2 (outcome s2 op1 [])
  else forAll (opCasts s2 op1) (fun s c => if c.nodes = [] then s else linksSend s (linksOut s e c.path) (opPackets c)) s2

/-- Whether careful mode is being entered or left: the spine drains its links (R60). -/
def switching (s : State) : Bool := bit (reg s rSpnMode) 0 != bit (reg s rSpnMode) 1

/-- Whether an issuer may send one more operation: it holds fewer than 16,384 unacknowledged (R45), and the spine does not drain (DESIGN
CHOICE, log entry 82). -/
def mayIssue (s : State) (issuer : Nat) : Bool :=
  !switching s && decide ((s.ops.filter fun o => o.issuer == issuer && o.held.isNone && !hasArrived s o.id).length < 16384)

/-- An operation sent, or kept at its issuer until it may be sent. -/
def issueNow (s : State) (op : Op) : State :=
  if mayIssue s op.issuer then sendOp s op
  else { s with ops := (s.ops.filter fun o => o.id != op.id) ++ [{ op with held := some 64 }] }

/-- An agent operation issued: held under R112, or sent. -/
def issueOp (s : State) (op : Op) : State :=
  match holdPart s op.sites with
  | some p => { s with ops := s.ops ++ [{ op with held := some p }] }
  | none => issueNow s op

/-- The operations held for a partition leave their issuers (R112). -/
def releaseHeld (s : State) (p : Nat) : State := forAll (s.ops.filter fun o => o.held == some p) issueNow s

/-- The operations kept at their issuers go, in order, as far as they may. -/
def releaseIssue (s : State) : State := if s.ops.any fun o => o.held == some 64 then releaseHeld s 64 else s

/-! ### Tickets (R58, R240) -/

/-- Units written at hub-memory offsets, in order. -/
def putMem (s : State) (l : List (Nat × Word)) : State :=
  { s with hubMem := l.foldl (fun m e => writeLe m e.1 8 e.2.toNat) s.hubMem }

/-- Whether a record of a source is still on its way to the funnel (R26). -/
def inPlane (s : State) (src : Nat) : Bool :=
  let recIs (r : Rec) : Bool := recSrc r == src
  let groupIs (g : List Word) : Bool := (splitRecs g.length (g.drop 1)).any recIs
  (s.sites.any fun e => e.2.dOut.any recIs) ||
    (s.flyers.any fun e => e.2.q.any (fun q => recIs q.r) || e.2.local_.any groupIs || e.2.through.any groupIs) ||
    (s.funnel.arrive.any fun e => e.2.any groupIs) || (s.funnel.cols.any fun e => e.2.any recIs)

/-- Whether the records that an operation's result includes have all been accepted (R26). -/
def streamsDone (s : State) (opId : Nat) : Bool :=
  match s.ops.find? fun o => o.id == opId with
  | none => true
  | some op => !(op.type == .lmRead) || op.sites.all fun i => !inPlane s (0x4002 + 4 * coreIdx s i)

/-- An outcome that waits at an issuer and may be taken now: an agent operation's is formed as it is taken, so that it names no unit shown failed
by then (R32). -/
def arrived (s : State) (opId : Nat) : Option Arrival :=
  ((s.arrivals.find? fun a => a.opId == opId).filter fun _ => streamsDone s opId).map fun a =>
    match a.reps, s.ops.find? fun o => o.id == opId with
    | some reps, some op => outcome s op reps
    | _, _ => a

/-- An operation forgotten, its outcome taken or discarded. -/
def forget (s : State) (opId : Nat) : State :=
  let s1 : State := match s.ops.find? fun o => o.id == opId with
    | some op => dropAccs s op.issuer op.iseq
    | none => s
  releaseIssue { s1 with ops := s1.ops.filter fun o => o.id != opId, arrivals := s1.arrivals.filter fun a => a.opId != opId }

/-- Units put into a buffer at a Whorl address (Table 9.2): the Whorl's own local store, or hub memory. -/
def putBuf (s : State) (w a : Nat) (l : List Word) : State :=
  if 0x1000000 ≤ a then
    let x := getW s w
    setW s w { x with ls := writeUnits x.ls (a - 0x1000000) l }
  else { s with hubMem := writeUnits s.hubMem (a - 0x100000) l }

/-- A RECV takes the oldest message of its channel's queue (R286): RECVs of one channel are served in issue order. -/
def recvTake (s : State) (w t : Nat) : State :=
  let k := getTk (getW s w) t
  let ch := k.chan.getD 0
  let x := getC s ch
  match x.recvs, x.rxq with
  | r :: rs, m :: ms =>
    if r.opId ≠ k.opId then s
    else
      let head := word (m.src.toNat * 2 ^ 48 + m.sch * 2 ^ 40 + (m.units.length - 1))
      let s1 := putBuf (setC s ch { x with recvs := rs, rxq := ms }) w r.buf (head :: m.units.take r.units)
      setW s1 w (finishTk (getW s1 w) t .ok (BitVec.ofNat 32 m.units.length) none)
  | _, _ => s

/-- TICKET_COMPLETE (R240, R242, R58): the arrival wins. Buffers and the result register are written before the ticket is DONE. -/
def execTicketComplete (w : Fin 8) (t : Fin 64) (s : State) : Host.Outcome State Fault Refusal :=
  let k := getTk (getW s w) t
  if k.st ≠ .pending then ok s
  else if k.kind = .recv then ok (recvTake s w t)
  else match arrived s k.opId with
    | none => ok s
    | some a =>
      let s1 := putMem s a.mem
      ok (forget (setW s1 w (finishTk (getW s1 w) t a.status a.count a.result)) k.opId)

/-- A RECV that no longer waits (R286). -/
def dropRecv (s : State) (opId : Nat) : State :=
  { s with chans := tmap Chan.fresh (fun c => { c with recvs := c.recvs.filter fun r => r.opId != opId }) s.chans }

/-- An issuer gives an operation up at its deadline: an outcome already there is counted and discarded, one still to come will be
(R58). -/
def giveUp (s : State) (opId : Nat) : State :=
  if s.arrivals.any fun a => a.opId == opId then countLate (forget s opId)
  else { s with lateIds := s.lateIds ++ [opId] }

/-- TICKET_TIMEOUT (R58, R268): the deadline wins. -/
def execTicketTimeout (w : Fin 8) (t : Fin 64) (s : State) : Host.Outcome State Fault Refusal :=
  let k := getTk (getW s w) t
  if k.st = .pending ∧ k.dl.any fun d => decide (d ≤ s.ht) then
    let s1 := if k.kind = .recv then dropRecv s k.opId else giveUp s k.opId
    ok (setW s1 w (finishTk (getW s1 w) t .timeout 0xFFFFFFFF none))
  else ok s

/-! ### Failures of links and nodes (R39, R88, R423, R426, Table 2.6) -/

/-- Every mesh direction from or to a node has failed (Table 16.1, kind 3). -/
def nodeCut (s : State) (n : Nat) : Bool :=
  clusterIn s n && (List.range 4).all fun dir => match neighbour s n dir with
    | none => true
    | some m => (getLink s (4 * n + dir)).failed && (getLink s (4 * m + (dir + 2) % 4)).failed

/-- A node all of whose links have failed leaves service. -/
def checkNode (s : State) (n : Nat) : State :=
  if nodeCut s n && !(getF s n).nodeFail then healthChange (setF s n { getF s n with nodeFail := true }) 3 n true else s

/-- The trees in force as one table. -/
def treesNow (s : State) : Tab Nat :=
  (List.range 4).flatMap fun e => (allClusters s).filterMap fun n => (parentOf s e n).map fun m => (256 * e + n, m + 1)

/-- Two tables agree on an entry point's tree. -/
def sameTree (a b : Tab Nat) (e : Nat) : Bool :=
  (a.filter fun x => x.1 / 256 == e) == (b.filter fun x => x.1 / 256 == e)

/-- Careful mode in force, or left, once every link has drained (R60); entering it moves each issuer whose tree changes onto its XY tree. -/
def carefulSwitch (s : State) : State :=
  if !switching s || !drained s then s
  else
    let want := bit (reg s rSpnMode) 0
    let old := treesNow s
    let s2 := setReg s rSpnMode (word (3 * b2n want))
    let s3 := if want then
        let hit := (List.range 9).filter fun i => !sameTree old (treesNow s2) (issuerEntry s i)
        forAll hit (fun t i => advanceEpoch t (linksAll s (issuerEntry s i)) i)
          { s2 with spine := { s2.spine with rebuild := false, built := false, trees := [], removed := [], unreach := [] } }
      else { s2 with spine := { s2.spine with
        rebuild := (s2.spine.links.any fun e => e.2.failed && decide (e.1 < 1024)) && !s2.boot.recStop } }
    releaseIssue (publishMap s3)

/-- A link direction out of service: its buffers are empty. -/
def Link.dead (x : Link) : Link := { x with failed := true, retry := [], req := [], rep := [], pri := [], noCredit := [] }

/-- A mesh link direction declared failed (Table 2.6, steps 1 to 3): reported, what it held sent on a detour in normal service, and a repair
owed with the recovery engine at work (R59, R428). -/
def meshFail (s : State) (l : Nat) : State :=
  let x := getLink s l
  if x.failed then s
  else
    let s1 := healthChange (setLink s l x.dead) 1 l true
    let s2 := checkNode s1 (l / 4)
    let s3 := (neighbour s (l / 4) (l % 4)).elim s2 (checkNode s2)
    if careful s3 || s3.boot.recStop then carefulSwitch s3
    else
      let s4 := carefulSwitch (detourAll s3 l x)
      { s4 with spine := { s4.spine with rebuild := true } }

/-- A Distaff entry link direction fails (R423): the issuers of its entry point move to the next one in service, their epochs closed over the
tree of the new one. -/
def entryFail (s : State) (e d : Nat) : State :=
  let l := entryLink e d
  if (getLink s l).failed then s
  else
    let s1 := carefulSwitch (healthChange (setLink s l (getLink s l).dead) 2 (2 * e + d) true)
    let next := ((List.range 4).map fun k => (e + 1 + k) % 4).find? (entryUp s1)
    match next with
    | none => s1
    | some m =>
      forAll ((List.range 9).filter fun i => issuerEntry s i == e) (fun t i =>
        advanceEpoch { t with spine := { t.spine with entryOf := tput 0 t.spine.entryOf i (m + 1) } } (linksAll s1 m) i) s1

/-- ENTRY_LINK_FAIL (R423). -/
def execEntryLinkFail (e : Fin 4) (out : Bool) (s : State) : Host.Outcome State Fault Refusal := ok (entryFail s e (b2n out))

/-- A sender resends from the oldest packet not acknowledged, or declares the direction failed after 8 resends, 2 in careful
mode (R39). -/
def linkResend (s : State) (l : Nat) : State :=
  let x := getLink s l
  match x.retry with
  | [] => s
  | p :: _ =>
    if (if careful s || s.boot.recStop then 2 else 8) ≤ p.n then
      (if 1024 ≤ l then entryFail s ((l - 1024) / 2) (l % 2) else meshFail s l)
    else setLink s l { x with retry := x.retry.map fun p => { p with n := p.n + 1, sent := s.ht } }

/-- LINK_ACK (R39, R40): the packets up to the newest LSEQ taken leave the retry buffer; a flit whose CRC fails is ignored. The last of a draining
spine lets careful mode switch (R60). -/
def execLinkAck (link : Nat) (flit : Word) (s : State) : Host.Outcome State Fault Refusal :=
  let x := getLink s link
  match ctlSeq 1 flit with
  | none => ok s
  | some q =>
    if x.retry.any fun p => p.lseq == q then
      ok (carefulSwitch (linkGo s link { x with retry := (x.retry.dropWhile fun p => p.lseq != q).drop 1 }))
    else ok s

/-- LINK_NAK (R39, R40): the receiver expects an LSEQ; the packets before it have been taken. -/
def execLinkNak (link : Nat) (flit : Word) (s : State) : Host.Outcome State Fault Refusal :=
  let x := getLink s link
  match ctlSeq 2 flit with
  | none => ok s
  | some q =>
    if x.retry.any fun p => p.lseq == q then
      ok (linkResend (setLink s link { x with retry := x.retry.dropWhile fun p => p.lseq != q }) link)
    else ok s

/-- LINK_RETRY_TIMEOUT (R39): no acknowledgement has covered the oldest packet within 2,000 ht of its sending. -/
def execLinkRetryTimeout (link : Nat) (s : State) : Host.Outcome State Fault Refusal :=
  match (getLink s link).retry with
  | [] => ok s
  | p :: _ => if p.sent + 2000 ≤ s.ht then ok (linkResend s link) else ok s

/-- Whether a control packet is good (R34, R36, R37): header, sideband bytes, payload flits, and whether every code was good. -/
def packetOk (hdr : Word) (side : Nat) (pay : List (Word × Nat × Bool)) (codeOk : Bool) : Bool :=
  let ty := bits hdr 63 60
  let n := bits hdr 55 50
  codeOk && decide (side < 64) && decide (n ≤ 32) && decide (pay.length = n) && decide (1 ≤ ty) && decide (ty ≤ 9) &&
    decide (bits hdr 39 36 ≤ 8) && pay.zipIdx.all (fun e => e.1.2.2 && e.1.2.1 == sideOf n e.2) &&
    decide (crc16 ((bytesHigh hdr).take 6 ++ pay.flatMap fun e => bytesHigh e.1) = bits hdr 15 0)

/-- A packet taken whole from a link: a good one in order is acknowledged, one already taken is acknowledged again and discarded; a bad one is
discarded and counted. The receiver answers a bad packet, or one ahead of its turn, with NAK and the LSEQ it expects. -/
def packetIn (s : State) (link : Nat) (flits : List (Word × Nat × Bool)) : State :=
  let x := getLink s link
  match flits with
  | [] => s
  | (hdr, side, good) :: pay =>
    let lseq := BitVec.ofNat 6 side
    if !packetOk hdr side pay good then countF (setLink s link { x with ctl := some (ctlFlit 2 x.rxSeq) }) rSpnBadpkt 63 0 1
    else if lseq = x.rxSeq then setLink s link { x with rxSeq := x.rxSeq + 1, ctl := some (ctlFlit 1 x.rxSeq) }
    else if (lseq - x.rxSeq).toNat < 32 then setLink s link { x with ctl := some (ctlFlit 2 x.rxSeq) }
    else setLink s link { x with ctl := some (ctlFlit 1 (x.rxSeq - 1)) }

/-- PACKET_RECEIVE (R33, R34, R36, R39): the wires that a sender raises for a packet, one transfer after the other, those of the header flit first.
 A transfer without a value on
every group holds the link up with what has come so far; two wires of a group are a bad code, which does not (DESIGN CHOICE, log entry 83). -/
def execPacketReceive (link : Nat) (hdr : List (BitVec 32)) (hdrSide : List (BitVec 4)) (pay : List (BitVec 32)) (paySide : List (BitVec 4))
    (s : State) : Host.Outcome State Fault Refusal :=
  let x := getLink s link
  if x.failed then ok s
  else
    let r := wireTake (wiresOf hdr hdrSide ++ wiresOf pay paySide) x.wires
    let all := x.part ++ r.1
    if r.2.groups ≠ 0 ∨ all.length % 4 ≠ 0 then ok (setLink s link { x with wires := r.2, part := all })
    else ok (packetIn (setLink s link { x with wires := r.2, part := [] }) link (flitsOf all.length all))

/-- Agents under a Flyer that no longer answers: its share of every operation ends without answers (Table 3.7, step 1). -/
def flyerGone (s : State) (f : Nat) : State :=
  let mine := s.ops.filter fun o => o.nodes.contains f && o.held.isNone && !(getAcc s f o.issuer o.iseq).got.contains f
  let x := getF s f
  let share (o : Op) : List Reply := ((x.pend.filter fun e => e.opId == o.id).flatMap PendOp.reps)
  let s1 := setF s f { x with pend := [], heldOps := [], window := [] }
  forAll mine (fun s o =>
    let o1 : Op := { o with todo := o.todo.filter fun n => n != f }
    flyerReply { s with ops := s.ops.map fun q => if q.id = o.id then o1 else q } o1 f (share o)) s1

/-- The duplicate window of a Flyer that takes over a cluster, rebuilt from what its Bobbins keep (R87). -/
def rebuildWindow (s : State) (f c : Nat) : State :=
  let kept := ((allSites s).filter fun i => wiredCluster i == c && flyerOf s i == some f).flatMap fun i =>
    (getS s i).lastOps.filterMap fun e => e.2.map fun l => (e.1, l)
  let ids := (kept.map fun e => (e.1, e.2.iseq)).eraseDups
  let ents := ids.map fun d => (⟨d.1, d.2, c, (kept.filter fun e => e.1 == d.1 && e.2.iseq == d.2).map fun e => e.2.reply⟩ : WinEnt)
  setF s f { getF s f with window := ents.foldl windowPush (getF s f).window }

/-- A queue's resynchronisation (R57, R128, Table 2.7): items written and not read are discarded and counted; trace of the cluster
resynchronises. -/
def resyncQueue (index items : Nat) (s : State) : State :=
  if !crossingIn index then s
  else
    let r := xqResync (xqWrote (getXq s index) items)
    let s0 := setXq s index r.2
    let k := keyObj index rSpnXingStat
    let s1 := if r.1 = 0 then s0
      else
        let t := countObj s0 index rSpnXingStat 47 32 r.1
        regPut t k rSpnXingStat (regGet t k rSpnXingStat ||| 2)
    if (index < 2048 ∨ 4096 ≤ index) ∧ index % 8 = 2 then
      forAll ((allSites s1).filter fun i => wiredCluster i == crossingCluster index) (noteAll 3) s1
    else s1

/-- FLYER_TAKEOVER (R88, Table 3.7): the Flyer is declared failed, its agents' operations end with N_MISS, and its east neighbour
serves its cluster, the cluster-shared registers restored without their counts and the journal entry TAKEOVER written (Table 11.4). With the recovery engine stopped nothing is taken
over (R428): the cluster is lost. -/
def execFlyerTakeover (flyer : Nat) (s : State) : Host.Outcome State Fault Refusal :=
  let x := getF s flyer
  if !clusterIn s flyer || x.failed then ok s
  else
    let clusters := clustersOf s flyer
    let s1 := if x.card.win.isSome then closeWindow s flyer 5 else s
    let s2 := selectTap s1 flyer none
    let s3 := flyerGone s2 flyer
    let s4 := setF s3 flyer { getF s3 flyer with failed := true, alone := s.boot.recStop, declared := some s.ht, q := [], gaps := [], evts := [], relay := [],
                                                 wdg := [], sums := [], snap := [] }
    let s5 := forAll clusters (fun s c => forAll (List.range 8) (fun s n =>
      setFlyReg s c (aFlyXtCtrl + n) (flyReg s c (aFlyXtCtrl + n) &&& 0x1F)) s) s4
    let lost := unitsOf (x.q.map QRec.r)
    let s6 := forAll (clusters.filter fun c => servedBy s5 c != none) (fun s c =>
      let a := forAll [0, 1, 2] (fun s k => resyncQueue (4096 + 8 * c + k) (if k = 2 then b2n (c == flyer) * lost else 0) s) s
      (servedBy a c).elim a fun f => rebuildWindow a f c) s5
    let s7 := (servedBy s6 flyer).elim s6 (settleCard s6)
    let s8 := healthChange s7 5 flyer true
    ok (forAll (clusters.filter fun c => servedBy s8 c != none) (fun s c => journal s 0x8011 c [word s.ht, word s.ht]) s8)

/-- FLYER_PROBE (R88): three successive probes unanswered, in normal service, declare the Flyer failed. -/
def execFlyerProbe (flyer : Nat) (answered : Bool) (s : State) : Host.Outcome State Fault Refusal :=
  let x := getF s flyer
  if !clusterIn s flyer || x.failed || careful s || !((List.range 4).any fun e => (hopsTo s e flyer).isSome) then ok s
  else if answered then ok (setF s flyer { x with probes := 0 })
  else if 2 ≤ x.probes then execFlyerTakeover flyer (setF s flyer { x with probes := 3 })
  else ok (setF s flyer { x with probes := x.probes + 1 })

/-- BOBBIN_FAIL (R426): the site is shown failed, its agent answers nothing and it emits no record. -/
def execBobbinFail (site : Nat) (s : State) : Host.Outcome State Fault Refusal :=
  let x := getS s site
  if !wired s site || x.failed then ok s
  else
    let s1 := setS s site { x with failed := true, ri := [], lm := [], waitOps := [], term := none, fifo := [], dOut := [],
                                   gaps := [], sample := none }
    let s2 : State := { s1 with flyers := tmap Flyer.fresh (fun y => { y with pend := y.pend.map fun p =>
      { p with waiting := p.waiting.filter fun i => i != site } }) s1.flyers }
    let s3 := (flyerOf s2 site).elim s2 fun f =>
      forAll (((getF s2 f).pend.map PendOp.opId).eraseDups) (fun s id => settlePend s f id) s2
    let s4 := (flyerOf s3 site).elim s3 (settleCard s3)
    ok (healthChange s4 7 site true)

/-- CARD_ENGINE_FAIL (R425): the engine serves no entry any more. -/
def execCardEngineFail (flyer : Nat) (s : State) : Host.Outcome State Fault Refusal :=
  let x := getF s flyer
  if !clusterIn s flyer || x.card.failed then ok s
  else
    let s1 := setCard s flyer { x.card with win := none }
    let s2 := selectTap s1 flyer none
    ok (healthChange (setCard s2 flyer { (getF s2 flyer).card with failed := true, out := [] }) 6 flyer true)

/-- RECOVERY_ENGINE_FAIL (R428): repair stops. -/
def execRecoveryEngineFail (s : State) : Host.Outcome State Fault Refusal :=
  if s.boot.recStop then ok s
  else ok (healthChange { s with boot := { s.boot with recStop := true }, spine := { s.spine with rebuild := false } } 17 0 true)

/-- ROUTE_REBUILD (R438, Table 2.6 steps 3 to 5): trees over the live links, nodes without a route unreachable, and an epoch
advance for each issuer whose tree changes. -/
def execRouteRebuild (s : State) : Host.Outcome State Fault Refusal :=
  if !s.spine.rebuild || careful s || s.boot.recStop then ok s
  else
    let old := treesNow s
    let r := repairTrees s 256 []
    let s1 : State := { s with spine := { s.spine with rebuild := false, removed := r.1, built := true, trees := r.2, unreach := [] } }
    let un := (allClusters s1).filter fun n => s1.spine.removed.contains n || !((List.range 4).any fun e => (hopsTo s1 e n).isSome)
    let s2 : State := { s1 with spine := { s1.spine with unreach := un } }
    let hit := (List.range 9).filter fun i => !sameTree old r.2 (issuerEntry s i)
    let s3 := forAll hit (fun t i => advanceEpoch t (linksAll s (issuerEntry s i)) i) s2
    ok (publishMap (forAll un (fun s n => setF s n { getF s n with declared := some s.ht }) s3))

/-- A write of SPN_MODE.CAREFUL (R60): it shows what is asked for; ACTIVE follows once every link has drained. -/
def setCareful (s : State) (want : Bool) : State :=
  carefulSwitch (setReg s rSpnMode (word (b2n want + 2 * b2n (careful s))))

/-- SPN_MODE_WRITE (R60, R61). -/
def execSpnModeWrite (who : Who) (v : Word) (s : State) : Host.Outcome State Fault Refusal :=
  if isRoot s who 3 then ok (setCareful s (bit v 0)) else ok s

/-! ### Crossings (R54, R57) -/

/-- QUEUE_RESYNC (R57): a reset on one side of a queue that holds items. -/
def execQueueResync (index items : Nat) (s : State) : Host.Outcome State Fault Refusal := ok (resyncQueue index items s)

/-- The time by which a crossing's echo is judged: the edge of its region, or hub time for a port's. -/
def crossingNow (s : State) (index : Nat) : Nat :=
  if 2048 ≤ index ∧ index < 4096 then s.ht else (getR s (clusterRegion (crossingCluster index))).edge

/-- CROSSING_OVERRUN (R54): an event is offered to a pulse crossing. One that arrives before the echo of the last is counted and not
delivered. -/
def execCrossingOverrun (index : Nat) (s : State) : Host.Outcome State Fault Refusal :=
  if !crossingIn index then ok s else ok (pulseEvent s index (crossingNow s index)).2

/-- TRACE_LINK_FAIL (R50): the link south of a collector fails; its traffic goes on in the next column. -/
def execTraceLinkFail (node : Nat) (s : State) : Host.Outcome State Fault Refusal :=
  let x := getF s node
  if !clusterIn s node || x.trcFail then ok s else ok (healthChange (setF s node { x with trcFail := true }) 4 node true)

end Sys2Proof.Machine
end

