-- ==== Sys2Proof/Machine/RunControl.lean ====
section
/-! DEFINITION. Run control: stop-tree roots and leaves (R93 to R99), planned halts (R102, R103), cuts (R107 to R111), steps and
resumes (R113 to R115), lossless holds (R145 to R147), power (R120, R138), and cuts and rendezvous over several hubs (R333 to
R337). -/

namespace Sys2Proof.Machine

/-! ### Messages between hubs (R322) -/

/-- A message sent on an inter-hub channel that is up (Table 12.1), MSG, ACK and NAME with the number of their originating hub. -/
def chSend (s : State) (ch kind dst : Nat) (pay : List Word) (src : Option Nat := none) : State :=
  let x := getC s ch
  if !x.up then s
  else
    let own := regF s rIhbId 54 48
    let h := word (kind * 2 ^ 60 + (src.getD own) % 128 * 2 ^ 48 + dst % 128 * 2 ^ 40 + x.txSeq.toNat * 2 ^ 24 + pay.length * 2 ^ 16)
    let m : OutMsg := ⟨h + word (crc16 ((bytesHigh h).take 6 ++ pay.flatMap bytesHigh)), pay⟩
    setC s ch { x with txSeq := x.txSeq + 1, out := x.out ++ [m] }

/-- The sequence number of a message taken in (R322): the numbers missed since the last one add to IHB_CHn.LOST. -/
def seqIn (s : State) (ch : Nat) (lseq : BitVec 16) : State :=
  let x := getC s ch
  if !x.up then s
  else countF (setC s ch { x with rxSeq := lseq + 1 }) (rIhbCh + 8 * ch) 31 16 (lseq - x.rxSeq).toNat

/-- A message sent on each of some channels. -/
def chSendAll (s : State) (chs : List Nat) (kind : Nat) (pay : List Word) : State :=
  forAll chs (fun s ch => chSend s ch kind 0 pay) s

/-! ### Seams of a partition (R100, R101, R323) -/

/-- The seams that both ends of a partition join, or whose link carries them to a neighbouring hub. -/
def seamsOf (s : State) (p : Nat) : List Seam :=
  s.integ.seams.filter fun x => seamCut s x &&
    ((x.endK != 1 && partOf s x.prod == some p) || (x.endK == 1 && partOf s x.cons == some p))

/-- The seams of a partition whose consumer end is on this die. -/
def consumers (s : State) (p : Nat) : List Seam := (seamsOf s p).filter fun x => x.endK != 2

/-- The link channels that carry a seam of a partition. -/
def linkChans (s : State) (p : Nat) : List Nat := (((seamsOf s p).filter fun x => x.endK != 0).map Seam.chan).eraseDups

/-- A seam's place in the integration table. -/
def seamIdx (s : State) (x : Seam) : Nat := s.integ.seams.idxOf x

/-- Whether SM_MARKED stands at a seam's consumer end (R107, R323). -/
def seamMarked (s : State) (x : Seam) : Bool :=
  if x.endK = 1 then (getC s x.chan).marks.contains x.farPart else s.smMarked.contains (seamIdx s x)

/-! ### Roots (R96, R99) -/

/-- OPC of a stop-tree message (Table 4.1). -/
def opcCode : StOpc → Nat
  | .halt => 1
  | .run => 2
  | .step => 3
  | .mark => 4
  | .clrmark => 5

/-- The 26 bits of a stop-tree message (R96, Table 4.1). -/
def stEncode (part : Nat) (opc : StOpc) (arg : Nat) : BitVec 26 :=
  BitVec.ofNat 26 (2 ^ 25 + part % 64 * 2 ^ 19 + opcCode opc * 2 ^ 16 + arg % 2 ^ 16)

/-- The partition of a message. -/
def stPart (m : StMsg) : Nat := m.msg.toNat / 2 ^ 19 % 64

/-- The argument of a message. -/
def stArg (m : StMsg) : Nat := m.msg.toNat % 2 ^ 16

/-- What a leaf does with a message: nothing where VALID is 0, for no operation and for a reserved OPC (R96). -/
def stOpc (m : StMsg) : Option StOpc :=
  if m.msg.getLsbD 25 = false then none
  else match m.msg.toNat / 2 ^ 16 % 8 with
    | 1 => some .halt
    | 2 => some .run
    | 3 => some .step
    | 4 => some .mark
    | 5 => some .clrmark
    | _ => none

/-- A message put into a root's queue at the present edge. -/
def rootPush (s : State) (r kind p : Nat) (opc : StOpc) (arg cause : Nat) : State :=
  let x := getR s r
  setR s r { x with queue := x.queue ++ [⟨kind, p, opc, arg, x.edge, cause⟩] }

/-- A message of the cut controller to the roots of some regions, each through the take-flag crossing into its root (Table 1.2, R51). -/
def ctlPush (s : State) (rs : List Nat) (p : Nat) (opc : StOpc) (arg cause : Nat) : State :=
  forAll rs (fun s r =>
    let x := getR s r
    setR s r { x with port := tfSend x.port (.req ⟨3, p, opc, arg, x.edge, cause⟩) }) s

/-- The messages on their way to a root and in its queue. -/
def reqsOf (x : Region) : List RootReq :=
  x.queue ++ (tfItems x.port).filterMap fun q => match q with
    | .req q => some q
    | .chg _ => none

/-- Whether a message of a partition with one of some operations has not acted in a region. -/
def owes (x : Region) (p : Nat) (opcs : List StOpc) : Bool :=
  (reqsOf x).any (fun q => q.part == p && opcs.contains q.opc) || x.tree.any fun m => stPart m == p && (stOpc m).any opcs.contains

/-- The regions that a cut or a step of a partition waits for (R120). -/
def cutRegions (s : State) (p : Nat) : List Nat := (liveRegions s p).filter fun r => !(getRP s p r).away

/-- Whether a queued halt waits for a RUN that the cut controller still owes its partition in the region (R115). -/
def rootWaits (ahead : List RootReq) (q : RootReq) : Bool :=
  decide (q.kind ≤ 2) && ahead.any fun b => b.part == q.part && b.opc == .run

/-- The queue entry that a root sends next: kind, then partition, then order of arrival (R99); `ahead` are the messages before it and those that
have not crossed yet. -/
def rootPick : List RootReq → List RootReq → Option RootReq
  | _, [] => none
  | ahead, q :: t =>
    match rootPick (ahead ++ [q]) t with
    | none => if rootWaits ahead q then none else some q
    | some x => if rootWaits ahead q then some x
      else if x.kind < q.kind ∨ (x.kind = q.kind ∧ x.part < q.part) then some x else some q

/-- STOP_TREE_ROOT_SEND (R96, R97, R99): at most one message per edge; it acts at the leaves L edges later. -/
def execStopTreeRootSend (r : Fin 4) (s : State) : Host.Outcome State Fault Refusal :=
  let x := getR s r
  let due := x.edge + latOf s r
  if x.powerOff || x.tree.any fun m => m.due == due then ok s
  else match rootPick ((reqsOf x).drop x.queue.length) x.queue with
    | none => ok s
    | some q => ok (setR s r { x with queue := x.queue.erase q, qdly := max x.qdly (min 0xFFFF (x.edge - q.edge)),
                                      tree := x.tree ++ [⟨stEncode q.part q.opc q.arg, due, q.cause⟩] })

/-! ### The cut controller: starting a cut (R107 step 1 and 2, R110, R120, R333) -/

/-- The sites of a partition that count in NFAIL whatever the regions report: failed Bobbins and regions without supply. -/
def lostSites (s : State) (p : Nat) : List Nat :=
  (sitesOfPart s p).filter fun i => (getS s i).failed || !(cutRegions s p).contains (regionOf i)

/-- The seams of a partition, joined ends failed or not (R107). -/
def partSeams (s : State) (p : Nat) : List Seam :=
  s.integ.seams.filter fun x => (x.endK == 1 || partOf s x.prod == some p) && (x.endK == 2 || partOf s x.cons == some p)

/-- Whether a seam counts in NFAIL: its consumer end is among the sites lost (Table 4.3, step 6), or it leads into or out of a region that is off
(R120). -/
def seamLost (s : State) (p : Nat) (x : Seam) : Bool :=
  let out (r : Nat) : Bool := !(cutRegions s p).contains r
  (x.endK != 2 && ((lostSites s p).contains x.cons || out x.consReg)) || (x.endK != 1 && out x.prodReg)

/-- NFAIL of step 6 of Table 4.3 without what remote hubs report. -/
def nfailOf (s : State) (p : Nat) : Nat :=
  let late := ((cutRegions s p).map fun r => (getRP s p r).lateCnt).sum
  late + (lostSites s p).length + ((partSeams s p).filter (seamLost s p)).length

/-- A ticket that waits on a cut gets its status (R107 step 7, R109, R273). -/
def postWaiter (st : Status) (count : Nat) (s : State) (w : Waiter) : State :=
  if w.late then post s w.opId .late 0 else post s w.opId st count

/-- An operation number for a request that no ticket waits for. -/
def silentWaiter (s : State) : Waiter × State := (⟨s.opCtr, false⟩, { s with opCtr := s.opCtr + 1 })

/-- A hold ends (R146, R147): 0 drained, 1 timeout, 2 into a halt. -/
def holdEnded (s : State) (p arg : Nat) : State :=
  let x := getP s p
  hevt (setP s p { x with hold := none, holdReq := if arg = 1 then x.holdReq else [] }) 0x006 (arg * 2 ^ 8 + p) []

/-- The CUTID of a cut that this hub starts (R333). -/
def newCutId (s : State) : Word × State :=
  let id := word (s.integ.devid.toNat % 2 ^ 32 * 2 ^ 32 + s.cutCount.toNat)
  (id, { s with cutCount := s.cutCount + 1, knownCuts := s.knownCuts ++ [id] })

/-- HALT_REQ to the hubs at the far ends of a partition's link seams, but for the one the request came from. -/
def askHubs (s : State) (p : Nat) (cutId : Word) (deadline : Nat) (parent : Option Nat) : List Child × State :=
  let chs := (linkChans s p).filter fun ch => parent != some ch
  (chs.map fun ch => ⟨ch, false, 0, false⟩, chSendAll s chs 6 [cutId, word deadline, word p])

/-- A partition every region of which is off reads HALTED with CUT at 0, and what waits for its cut completes NOAGENT (R120). -/
def cutNone (s : State) (p : Nat) (ws : List Waiter) (n : Nat) (owed : Option Cut) : State :=
  let x := getP s p
  let s1 := setP s p { x with st := .halted, cut := false, nfail := min 0xFFFF n, planned := none, cutNow := none, owed := owed.or x.owed,
                              runTo := if x.st = .running then s.ht + 1 else x.runTo }
  releaseHeld (forAll ws (postWaiter .noagent n) s1) p

/-- CUT_START (R107): a halt is accepted, in region `at_` by its root or, with none, by the cut controller. A partition without a
region that has supply reads HALTED with CUT at 0 (R120). -/
def cutStart (s : State) (p : Nat) (at_ : Option Nat) (ws : List Waiter) (remote : Option (Word × Nat × Nat)) : State :=
  let x := getP s p
  let ws1 := x.planned.toList.map (fun q => (⟨q.opId, q.late⟩ : Waiter)) ++ (x.cutNow.elim [] Cut.waiters) ++ ws
  let s0 := forAll (liveRegions s p) (fun s r => setRP s p r { getRP s p r with away := false }) s
  let live := liveRegions s0 p
  if live = [] then
    cutNone (remote.elim s0 fun q => { s0 with knownCuts := s0.knownCuts ++ [q.1] }) p ws1 (nfailOf s0 p)
      (remote.map fun q => { tmoFrom := none, waiters := [], stepCut := false, cutId := q.1, parent := some q.2.1, deadline := some q.2.2,
                             children := [], acted := false, awaits := false })
  else
    let s1 := if x.hold.isSome then holdEnded s0 p 2 else s0
    let a : Word × State := match remote with
      | some q => (q.1, { s1 with knownCuts := s1.knownCuts ++ [q.1] })
      | none => newCutId s1
    let dl := remote.elim (s.ht + regF s rPrtCutTmo 31 0) fun q => q.2.2 - 2000
    let b := askHubs a.2 p a.1 dl (remote.map fun q => q.2.1)
    let cut : Cut := { tmoFrom := some s.ht, waiters := ws1, stepCut := false, cutId := a.1,
                       parent := remote.map fun q => q.2.1, deadline := remote.map fun q => q.2.2, children := b.1,
                       acted := false, awaits := false }
    let s2 := setP b.2 p { getP b.2 p with st := .halting, cut := false, cutNow := some cut, planned := none,
                                           runTo := if x.st = .running then s.ht + 1 else x.runTo }
    forAll live (fun s r =>
      let rp := getRP s p r
      let s := setRP s p r { rp with markSent := false, ready := false, lateCnt := 0, halted := true }
      if rp.halted ∨ at_ = some r then s else ctlPush s [r] p .halt 0 (if remote.isSome then 5 else 0x10)) s2

/-- The cause that a cut's HALT messages from the cut controller carry; PRT_STATE.CAUSE itself for a cut in which no HALT acts, every
region having frozen before (R93; log entry 24). -/
def setCause (s : State) (p cause : Nat) : State :=
  let live := liveRegions s p
  let sent := live.any fun r => (reqsOf (getR s r)).any fun q => q.part == p && q.opc == .halt && q.cause != 0
  let s1 := if (getP s p).cutNow.isSome && !sent then setP s p { getP s p with cause := cause } else s
  let mark (q : RootReq) : RootReq := if q.part = p ∧ q.opc = .halt ∧ q.cause = 0x10 then { q with cause := cause } else q
  let item (q : RootItem) : RootItem := match q with
    | .req q => .req (mark q)
    | .chg g => .chg g
  forAll live (fun s r =>
    let x := getR s r
    setR s r { x with queue := x.queue.map mark, port := { x.port with hold := x.port.hold.map item, queue := x.port.queue.map item } }) s1

/-- A halt or SNIP requested of the cut controller (R107, R110): cause 3 from Lopra and for a SNIP, 4 for PRT_CMD's HALT. On a partition that is
HALTED with CUT at 1 and every region of which has gone off it completes NOAGENT with CUT at 0 (R120), not OK (R110) (DESIGN CHOICE, log entry
66: no rule says which prevails). -/
def haltReq (s : State) (p cause : Nat) (w : Waiter) : State :=
  let x := getP s p
  match x.st with
  | .empty => postWaiter .noagent 0 s w
  | .halting => match x.cutNow with
    | some c => setP s p { x with cutNow := some { c with waiters := c.waiters ++ [w] } }
    | none => postWaiter .ok 0 s w
  | .halted =>
    if x.cut && !x.resuming && !(liveRegions s p).isEmpty then postWaiter .ok 0 s w else setCause (cutStart s p none [w] none) p cause
  | _ => setCause (cutStart s p none [w] none) p cause

/-- A triggered HALT that a root takes (R99, R104): dropped while its partition is HALTING or HALTED in the region. -/
def triggerHalt (s : State) (r p : Nat) : State :=
  let rp := getRP s p r
  if rp.halted || (getP s p).st == .empty || (getR s r).powerOff then s
  else setCause (cutStart (rootPush s r 2 p .halt 0 2) p (some r) [] none) p 2

/-! ### Runs and steps (R113, R115, R336) -/

/-- The partition's latest cut was started here and reached other hubs (R336). -/
def rdvTree (x : Part) : Option Tree := x.tree.filter fun t => t.parent.isNone && !t.children.isEmpty

/-- RUN messages to the roots of a partition. -/
def sendRun (s : State) (p : Nat) : State :=
  let live := liveRegions s p
  let s1 := forAll live (fun s r =>
    setRP s p r { getRP s p r with halted := false, owesRun := true, ready := false, markSent := false, away := false }) s
  ctlPush s1 live p .run 0 1

/-- STEP messages to the roots of a partition (R113, Table 4.4): the cut that ends the step is in progress from now. -/
def sendStep (s : State) (p n : Nat) (w : Waiter) : State :=
  let live := liveRegions s p
  let x := getP s p
  let cut : Cut := { tmoFrom := none, waiters := [w], stepCut := true, cutId := 0, parent := none, deadline := none,
                     children := [], acted := false, awaits := false }
  let s1 := setP s p { x with st := .stepping, cut := false, cutNow := some cut, runTo := if x.st = .running then s.ht + 1 else x.runTo }
  let s2 := forAll live (fun s r =>
    setRP s p r { getRP s p r with halted := false, stepDone := false, ready := false, markSent := false, lateCnt := 0,
                                   away := false }) s1
  ctlPush s2 live p .step (n - 1) 1

/-- CLRMARK to the roots of a partition (R115, Table 4.4). -/
def sendClr (s : State) (p : Nat) : State := ctlPush s (liveRegions s p) p .clrmark 0 1

/-- Every live region of a partition has cleared its marks. -/
def marksClear (s : State) (p : Nat) : Bool :=
  (liveRegions s p).all fun r => !(getRP s p r).marked && !owes (getR s r) p [.clrmark]

/-- Units of a rendezvous message (Table 12.2). -/
def rdvUnits (e : BitVec 16) (op : RdvOp) (cutId : Word) : List Word :=
  let o := match op with
    | .run => 1
    | .step n => 2 + n.toNat * 2 ^ 20
  [word (e.toNat * 2 ^ 48 + o), cutId]

/-- A rendezvous of a partition replaced by one with the same epoch. -/
def putRdv (s : State) (p : Nat) (v : Rdv) : State :=
  let x := getP s p
  setP s p { x with rdv := x.rdv.map fun u => if u.epoch = v.epoch then v else u }

/-- The partitions of this hub in a cut's tree (R333: one request can reach several). -/
def treeParts (s : State) (cutId : Word) : List Nat := (List.range 64).filter fun p => (getP s p).tree.any fun t => t.cutId == cutId

/-- RUN or STEP of a rendezvous to a partition's roots (Table 12.3, step 5). The cut that ends a STEP is taken over the tree (step 6): away from
the hub that started it, it waits for that hub's HALT_REQ (DEDUCED, log entry 93). -/
def rdvAct (v : Rdv) (s : State) (p : Nat) : State :=
  match v.op with
  | .run => sendRun (setP s p { getP s p with resuming := true }) p
  | .step n =>
    let a := silentWaiter s
    let s1 := sendStep a.2 p (n.toNat + 1) a.1
    let x := getP s1 p
    setP s1 p { x with cutNow := x.cutNow.map fun c => { c with awaits := v.parent.isSome } }

/-- The release of a rendezvous at a hub (Table 12.3, steps 4 and 5): forwarded, and RUN or STEP to its roots. -/
def rdvGo (s : State) (p : Nat) (v : Rdv) (missing : Nat) : State :=
  let s1 := putRdv s p { v with released := true, missing := missing }
  let s2 := chSendAll s1 v.children 11 (rdvUnits v.epoch v.op v.cutId)
  forAll (treeParts s2 v.cutId) (rdvAct v) s2

/-- The children that a rendezvous waits for to leave: those that arrived (R337: a member missing at step 4 stays halted). -/
def rdvLeavers (v : Rdv) : List Nat := v.children.filter fun c => v.missing = 0 || v.arrived.any fun a => a.1 == c

/-- What a rendezvous does next (Table 12.3, steps 3 to 6). -/
def rdvStep (s : State) (p : Nat) (e : BitVec 16) : State :=
  match (getP s p).rdv.find? fun v => v.epoch = e with
  | none => s
  | some v =>
    let all (l : List (Nat × Nat)) : Bool := v.children.all fun c => l.any fun a => a.1 == c
    let sum (l : List (Nat × Nat)) : Nat := (l.map Prod.snd).sum
    if !v.released then
      if !((treeParts s v.cutId).all (marksClear s) && all v.arrived) then s
      else match v.parent with
        | none => rdvGo s p v 0
        | some ch =>
          if v.missing = 0 then
            chSend (putRdv s p { v with missing := 1 }) ch 10 0 [word (e.toNat * 2 ^ 48 + 1 + sum v.arrived), v.cutId]
          else s
    else if (rdvLeavers v).all fun c => v.left.any fun a => a.1 == c then
      match v.parent with
      | some ch =>
        let s1 := setP s p { getP s p with rdv := (getP s p).rdv.filter fun u => u.epoch != e }
        chSend s1 ch 12 0 [word (e.toNat * 2 ^ 48 + 1 + sum v.left), v.cutId]
      | none =>
        let x := getP s p
        if x.resuming ∨ x.st ≠ .running ∧ v.op = .run then s
        else
          let s1 := setP s p { x with rdv := x.rdv.filter fun u => u.epoch != e }
          let st : Status := if v.missing = 0 then .ok else .partial_
          match v.op with
          | .run => forAll v.waiters (postWaiter st v.missing) s1
          | .step _ => match x.cutNow with
            | some c =>
              let gone : List Child := if v.missing = 0 then [] else [⟨8, true, v.missing, true⟩]
              setP s1 p { getP s1 p with cutNow := some { c with waiters := c.waiters ++ v.waiters, children := c.children ++ gone } }
            | none => forAll v.waiters (postWaiter st v.missing) s1
    else s

/-- The rendezvous of the trees that a partition is in go on (Table 12.3). -/
def rdvWake (s : State) (p : Nat) : State :=
  let ps := (List.range 64).filter fun q => (getP s q).rdv.any fun v => (getP s p).tree.any fun t => t.cutId == v.cutId
  forAll ps (fun s q => forAll ((getP s q).rdv.map Rdv.epoch) (fun s e => rdvStep s q e) s) s

/-- A hub that runs or steps a partition of its own leaves the tree in which it is not the hub that started the cut (R336). -/
def leaveTree (s : State) (p : Nat) : State :=
  match (getP s p).tree with
  | some t =>
    if t.parent.isNone then s
    else forAll (treeParts s t.cutId) (fun s q =>
      let x := getP s q
      setP s q { x with tree := none, rdv := x.rdv.filter fun v => v.cutId != t.cutId }) s
  | none => s

/-- Whether a rendezvous that this hub opened for a partition is under way. -/
def rdvBusy (x : Part) : Bool := x.rdv.any fun v => v.parent.isNone

/-- A RUN or STEP over the tree of the last cut opens a rendezvous (R336, Table 12.3, step 1). -/
def rdvOpenHere (s : State) (p : Nat) (t : Tree) (op : RdvOp) (w : Waiter) : State :=
  let x := getP s p
  let e := x.rdvEpoch + 1
  let v : Rdv := { epoch := e, op := op, cutId := t.cutId, parent := none, children := t.children, arrived := [], left := [],
                   released := false, started := s.ht, waiters := [w], missing := 0 }
  let s1 := setP s p { x with rdv := x.rdv ++ [v], rdvEpoch := e, cut := false }
  sendClr (chSendAll s1 t.children 9 (rdvUnits e op t.cutId)) p

/-- RUN on a HALTED partition (R115). -/
def runStart (s : State) (p : Nat) (ws : List Waiter) : State :=
  let x := getP s p
  match rdvTree x, ws with
  | some t, w :: _ => rdvOpenHere (setP s p { x with late := false }) p t .run w
  | _, _ =>
    let s1 := setP s p { x with cut := false, late := false, resuming := true, runOwed := x.runOwed ++ ws }
    sendRun (sendClr (leaveTree s1 p) p) p

/-- STEP accepted on a HALTED or a RUNNING partition (R113, R120). -/
def stepStart (s : State) (p n : Nat) (w : Waiter) : State :=
  let x := getP s p
  if liveRegions s p = [] then
    cutNone s p [w] (nfailOf s p) none
  else match rdvTree x, x.st with
    | some t, .halted => rdvOpenHere s p t (.step (BitVec.ofNat 16 (n - 1))) w
    | _, .halted => sendStep (sendClr (leaveTree s p) p) p n w
    | _, _ => sendStep (if x.hold.isSome then holdEnded s p 2 else s) p n w

/-- The runs and steps that waited act in order, once no cut and no resume is in progress. -/
def actAfter : Nat → State → Nat → State
  | 0, s, _ => s
  | k + 1, s, p =>
    let x := getP s p
    if x.cutNow.isSome || x.resuming || rdvBusy x then s
    else match x.after with
      | [] => s
      | (0, w) :: t =>
        let s1 := setP s p { x with after := t }
        actAfter k (if x.st = .running then postWaiter .ok 0 s1 w else runStart s1 p [w]) p
      | (n, w) :: t => actAfter k (stepStart (setP s p { x with after := t }) p n w) p

/-- RUN requested (R115, R275). -/
def runReq (s : State) (p : Nat) (w : Waiter) : State :=
  let x := getP s p
  match x.st with
  | .empty => postWaiter .noagent 0 s w
  | .running => postWaiter .ok 0 s w
  | .halted =>
    if x.resuming then setP s p { x with runOwed := x.runOwed ++ [w] }
    else if rdvBusy x then setP s p { x with after := x.after ++ [(0, w)] } else runStart s p [w]
  | _ => setP s p { x with after := x.after ++ [(0, w)] }

/-- STEP of n requested (R113, R275). -/
def stepReq (s : State) (p n : Nat) (w : Waiter) : State :=
  let x := getP s p
  if x.st = .empty then postWaiter .noagent 0 s w
  else if x.cutNow.isSome || x.resuming || rdvBusy x then setP s p { x with after := x.after ++ [(n, w)] }
  else stepStart s p n w

/-- Whether the dump program has a partition in its hands (R215): from step 2 to step 9, but not while it copies the window (R227). -/
def dumpOf (s : State) (p : Nat) : Bool := s.hang.running.any (fun d => d.part == p) && s.hang.work.phase != .copy

/-- A partition that the dump program holds against a requester (R215). -/
def dumpHolds (s : State) (who : Who) (p : Nat) : Bool :=
  dumpOf s p && !(match who with
    | .whorl n => s.hang.whorl == some n
    | _ => false)

/-! ### Cross-hub confirmation (R334) -/

/-- Whether every MARK that a partition expects on its links has arrived (R323). -/
def marksIn (s : State) (p : Nat) : Bool := (seamsOf s p).all fun x => x.endK != 1 || seamMarked s x

/-- A hub confirms a cut on its parent channel once its own part is complete, every MARK due has arrived, and its children have
confirmed or its DEADLINE has passed. -/
def tryConfirm (s : State) (cutId : Word) : State :=
  let mine := (List.range 64).filter fun p => (getP s p).owed.any fun c => c.cutId == cutId
  let busy := (List.range 64).any fun p => (getP s p).cutNow.any fun c => c.cutId == cutId && c.parent.isSome
  let open_ := mine.any fun p => (getP s p).owed.any fun c => c.children.any fun k => !k.done
  if busy || open_ || mine.isEmpty || !mine.all (marksIn s) then s
  else
    let n := (mine.map fun p => (getP s p).nfail + ((getP s p).owed.elim 0 fun c => (c.children.map Child.nfail).sum)).sum
    let ch := ((mine.head?.bind fun p => (getP s p).owed.bind Cut.parent)).getD 0
    let s1 := forAll mine (fun s p => setP s p { getP s p with owed := none }) s
    chSend s1 ch 7 0 [cutId, word (min 0xFFFF n)]

/-- A cut ends (R107 steps 6 and 7, R109): PRT_STATE, the tickets, line 0, and whatever waited for it. -/
def cutEnd (s : State) (p : Nat) (c : Cut) (n : Nat) (tmo : Bool) : State :=
  let x := getP s p
  let st : Status := if tmo then .timeout else if n = 0 then .ok else .partial_
  let chs := (c.children.filter fun k => !k.joined).map Child.ch
  let tree := if c.cutId = 0 then x.tree else if chs = [] ∧ c.parent = none then none else some ⟨c.cutId, c.parent, chs⟩
  let s1 := setP s p { x with st := .halted, cut := true, cutNow := none, nfail := min 0xFFFF n, partialF := st == .partial_,
                              cause := if c.stepCut && !c.acted then 6 else x.cause, planned := none, tree := tree,
                              rdvEpoch := if c.cutId = 0 then x.rdvEpoch else 0,
                              owed := if c.parent.isSome then some c else x.owed }
  let ws := c.waiters ++ x.planned.toList.map (fun q => (⟨q.opId, q.late⟩ : Waiter))
  let s2 := forAll ws (postWaiter st (if st = .ok then 0 else n)) s1
  let s3 := forAll (List.range 4) (fun s r => setRP s p r { getRP s p r with away := false }) s2
  let s4 := releaseHeld (raiseCut s3 p) p
  actAfter ((getP s4 p).after.length + 1) (tryConfirm s4 c.cutId) p

/-- A cut none of whose regions is left (R120). -/
def cutOff (s : State) (p : Nat) (c : Cut) (n : Nat) : State :=
  let s1 := cutNone s p c.waiters n (if c.parent.isSome then some c else none)
  let s2 := forAll (List.range 4) (fun s r => setRP s p r { getRP s p r with away := false }) s1
  actAfter ((getP s2 p).after.length + 1) (tryConfirm s2 c.cutId) p

/-- CUT_COMPLETE (R107, R111): every region that takes part is ready and, at the hub that started the cut, every remote hub has
confirmed. -/
def execCutComplete (p : Fin 64) (s : State) : Host.Outcome State Fault Refusal :=
  match (getP s p).cutNow with
  | none => ok s
  | some c =>
    let rs := cutRegions s p
    if rs = [] then ok (cutOff s p c (nfailOf s p))
    else if c.awaits then ok s
    else if rs.all (fun r => (getRP s p r).ready) && (c.parent.isSome || c.children.all fun k => k.done) then
      let remote := if c.parent.isSome then 0 else (c.children.map Child.nfail).sum
      ok (cutEnd s p c (nfailOf s p + remote) false)
    else ok s

/-- The cores of a region that a cut's timeout finds unfrozen (R109): those FREEZE_LATE count under that heading once the root has reported
them. -/
def unfrozen (s : State) (p r : Nat) : List Nat :=
  if (getRP s p r).frozen then [] else (sitesIn s p r).filter fun i => !(getS s i).frozen

/-- CUT_TIMEOUT (R109, R113): PRT_CUT_TMO has passed; cores not frozen, seams not marked and hubs not confirmed count in NFAIL. -/
def execCutTimeout (p : Fin 64) (s : State) : Host.Outcome State Fault Refusal :=
  match (getP s p).cutNow with
  | none => ok s
  | some c =>
    if c.tmoFrom.any fun t => decide (t + regF s rPrtCutTmo 31 0 ≤ s.ht) then
      let rs := cutRegions s p
      let lost := lostSites s p
      let hot := (rs.flatMap (unfrozen s p)).filter fun i => !lost.contains i
      let seams := (consumers s p).filter fun x => !seamLost s p x && !seamMarked s x
      let kids := if c.parent.isSome then 0 else (c.children.map fun k => if k.done then k.nfail else 1).sum
      let n := nfailOf s p + hot.length + seams.length + kids
      let s1 := if c.parent.isSome then s else countF s rIhbStat 31 16 (c.children.filter fun k => !k.done).length
      ok (if rs = [] then cutOff s1 p c n else cutEnd s1 p c n (!rs.any fun r => (getRP s p r).ready))
    else ok s

/-! ### Commands of the partition page (R122, R123) -/

/-- PRT_CMD_HALT (R122, R107): cause 4. -/
def execPrtCmdHalt (who : Who) (p : Fin 64) (s : State) : Host.Outcome State Fault Refusal :=
  if mayPart s who 2 p then let a := silentWaiter s; ok (haltReq a.2 p 4 a.1) else ok s

/-- PRT_CMD_SNIP (R122, R110): on a running partition a halt with cause 3. -/
def execPrtCmdSnip (who : Who) (p : Fin 64) (s : State) : Host.Outcome State Fault Refusal :=
  if mayPart s who 2 p then let a := silentWaiter s; ok (haltReq a.2 p 3 a.1) else ok s

/-- PRT_CMD_RUN (R122, R115, R215). -/
def execPrtCmdRun (who : Who) (p : Fin 64) (s : State) : Host.Outcome State Fault Refusal :=
  if !mayPart s who 2 p then ok s
  else if dumpHolds s who p then ok (countF s rDmpStat 15 0 1)
  else let a := silentWaiter s; ok (runReq a.2 p a.1)

/-- PRT_CMD_STEP (R122, R113, R215): ARG is N − 1. -/
def execPrtCmdStep (who : Who) (p : Fin 64) (arg : BitVec 16) (s : State) : Host.Outcome State Fault Refusal :=
  if !mayPart s who 2 p then ok s
  else if dumpHolds s who p then ok (countF s rDmpStat 15 0 1)
  else let a := silentWaiter s; ok (stepReq a.2 p (arg.toNat + 1) a.1)

/-! ### Leaves (R97) -/

/-- The first message of a region's tree, where it has the given operation and its edge has come. -/
def leafTake (s : State) (r : Nat) (opc : StOpc) : Option (StMsg × State) :=
  let x := getR s r
  match x.tree with
  | [] => none
  | m :: t => if stOpc m = some opc ∧ m.due ≤ x.edge ∧ x.powerOff = false then some (m, setR s r { x with tree := t }) else none

/-- A core is released: FREEZE_LATE clears (Table 3.3). -/
def clearLate (s : State) (p r : Nat) : State :=
  forAll ((sitesIn s p r).filter fun i => (getS s i).freezeLate) (fun s i => setS s i { getS s i with freezeLate := false }) s

/-- HALT acts at the leaves (R97, R106, R114, R146): the latches set; the first HALT that acts in a halt records step, time and cause. One that
finds the latches set again after a STEP's N steps has cut nothing short. The HALT of a lossless hold carries cause 0 and records nothing. -/
def leafHalt (r : Nat) (m : StMsg) (s1 : State) : State :=
  let p := stPart m
  let rp := getRP s1 p r
  let x := getP s1 p
  let e := (getR s1 r).edge
  if m.cause = 0 then
    if rp.latch then s1
    else setRP s1 p r { rp with latch := true, latchAt := e, holdLatch := true, stepLeft := 0, stepOn := false, phalt := true,
                                frozen := false, andAt := none }
  else
    let first := !rp.latch || rp.holdLatch
    let short := rp.stepOn && !rp.latch
    let rp1 : RPart := { rp with latch := true, latchAt := if rp.latch then rp.latchAt else e, stepLeft := 0, stepOn := rp.stepOn && rp.latch,
                                 holdLatch := false, phalt := true, frozen := rp.latch && rp.frozen,
                                 haltStep := if first then rp.stepNo else rp.haltStep,
                                 haltTime := if first then s1.ht else rp.haltTime }
    let acted := x.cutNow.any Cut.acted
    let x1 : Part := { x with cause := if first && !acted then m.cause else x.cause, late := x.late || short,
                              cutNow := x.cutNow.map fun c => { c with acted := c.acted || first } }
    setP (setRP s1 p r rp1) p x1

/-- RUN acts at the leaves (R97, R115, R117): the latches clear. The RUN that ends a hold carries cause 0 and gives no grace (R146). -/
def leafRun (r : Nat) (m : StMsg) (s1 : State) : State :=
  let p := stPart m
  let rp := getRP s1 p r
  setRP (clearLate s1 p r) p r
    { rp with latch := false, stepLeft := 0, stepOn := false, holdLatch := false, phalt := false, frozen := false, andAt := none,
              owesRun := if m.cause = 0 then rp.owesRun else false, runAt := if m.cause = 0 then rp.runAt else some s1.ht }

/-- STEP acts at the leaves (R97, Table 4.4): the latches clear for exactly N edges. -/
def leafStep (r : Nat) (m : StMsg) (s1 : State) : State :=
  let p := stPart m
  setRP (clearLate s1 p r) p r
    { getRP s1 p r with latch := false, stepLeft := stArg m + 1, stepOn := true, holdLatch := false, phalt := false,
                        frozen := false, andAt := none, owesRun := false }

/-- The places in the integration table of the seams with an end of a kind in a region for a partition: 0 producer ends, 1 consumer ends. -/
def seamEnds (s : State) (kind p r : Nat) : List Nat :=
  (s.integ.seams.zipIdx.filter fun e =>
    if kind = 0 then e.1.endK != 1 && e.1.prodReg == r && partOf s e.1.prod == some p
    else e.1.endK != 2 && e.1.consReg == r && partOf s e.1.cons == some p).map Prod.snd

/-- MARK acts at the leaves (R97, R107): SM_MARK pulses at the producer ends of the region, and the marks are on their way. -/
def leafMark (r : Nat) (m : StMsg) (s1 : State) : State :=
  let p := stPart m
  let ends_ := (seamEnds s1 0 p r).filter fun k => !s1.smSent.contains k
  { setRP s1 p r { getRP s1 p r with marked := true } with smSent := s1.smSent ++ ends_ }

/-- CLRMARK acts at the leaves (R97, R115, R323): SM_CLR pulses at the consumer ends of the region and SM_MARKED falls there, and the marks of
its link seams go. -/
def leafClrmark (r : Nat) (m : StMsg) (s1 : State) : State :=
  let p := stPart m
  let ends_ := seamEnds s1 1 p r
  let s2 : State := { setRP s1 p r { getRP s1 p r with marked := false, markAt := none } with
                      smMarked := s1.smMarked.filter fun k => !ends_.contains k }
  let links := (consumers s2 p).filter fun x => x.endK == 1 && x.consReg == r
  let s3 := forAll links (fun s x => let c := getC s x.chan; setC s x.chan { c with marks := c.marks.filter (· != x.farPart) }) s2
  rdvWake s3 p

/-- A message that has come to its edge acts at the leaves of a region (R96, R97). -/
def leafAct (r : Nat) (m : StMsg) (s : State) : State :=
  match stOpc m with
  | some .halt => leafHalt r m s
  | some .run => leafRun r m s
  | some .step => leafStep r m s
  | some .mark => leafMark r m s
  | some .clrmark => leafClrmark r m s
  | none => s

/-- Every message of a region that has come to its edge. -/
def leafDue (r : Nat) : Nat → State → State
  | 0, s => s
  | n + 1, s =>
    let x := getR s r
    match x.tree with
    | [] => s
    | m :: t => if m.due ≤ x.edge then leafDue r n (leafAct r m (setR s r { x with tree := t })) else s

/-- LEAF_HALT (R97, R106, R114, R146). -/
def execLeafHalt (r : Fin 4) (s : State) : Host.Outcome State Fault Refusal :=
  match leafTake s r .halt with
  | none => ok s
  | some (m, s1) => ok (leafHalt r m s1)

/-- LEAF_RUN (R97, R115, R117). -/
def execLeafRun (r : Fin 4) (s : State) : Host.Outcome State Fault Refusal :=
  match leafTake s r .run with
  | none => ok s
  | some (m, s1) => ok (leafRun r m s1)

/-- LEAF_STEP (R97, Table 4.4). -/
def execLeafStep (r : Fin 4) (s : State) : Host.Outcome State Fault Refusal :=
  match leafTake s r .step with
  | none => ok s
  | some (m, s1) => ok (leafStep r m s1)

/-- LEAF_MARK (R97, R107). -/
def execLeafMark (r : Fin 4) (s : State) : Host.Outcome State Fault Refusal :=
  match leafTake s r .mark with
  | none => ok s
  | some (m, s1) => ok (leafMark r m s1)

/-- LEAF_CLRMARK (R97, R115, R323). -/
def execLeafClrmark (r : Fin 4) (s : State) : Host.Outcome State Fault Refusal :=
  match leafTake s r .clrmark with
  | none => ok s
  | some (m, s1) => ok (leafClrmark r m s1)

/-- Once the latches of every region that takes part have set again after a STEP, its cut's time runs, and a cut over a tree of hubs asks them
(R113). -/
def stepTimed (s : State) (p : Nat) : State :=
  let x := getP s p
  match x.cutNow with
  | none => s
  | some c =>
    if c.stepCut && c.tmoFrom.isNone && (cutRegions s p).all fun q => (getRP s p q).stepDone then
      match rdvTree x with
      | some _ =>
        let a := newCutId s
        let b := askHubs a.2 p a.1 (s.ht + regF s rPrtCutTmo 31 0) none
        setP b.2 p { getP b.2 p with cutNow := some { c with tmoFrom := some s.ht, cutId := a.1, children := c.children ++ b.1 } }
      | none => setP s p { x with cutNow := some { c with tmoFrom := some s.ht } }
    else s

/-- LEAF_STEP_DONE (R113, Table 4.4): the latch has set again after N steps, which the root reports. -/
def execLeafStepDone (r : Fin 4) (p : Fin 64) (s : State) : Host.Outcome State Fault Refusal :=
  let rp := getRP s p r
  if rp.stepOn && rp.latch && rp.stepLeft == 0 then ok (stepTimed (setRP s p r { rp with stepOn := false, stepDone := true }) p)
  else ok s

/-! ### Channels that fire (R84, R85, R91) -/

/-- A channel's event at its firing edge (R84, R85): EN and the sinks of FLY_XT_CTRLn are judged as they are in force there, and a write of it
that landed at this edge stands from the next edge on. The EVT sink crosses to the Distaff as a pulse (R54), and the home cluster's NOTIFY and
TSTART reach a guest by the relay of R91. -/
def channelFire (s : State) (f : Nat) (v : XtEvt) : State :=
  let x := getF s f
  let cluster := v.cluster
  let s1 := setF s f { x with evts := x.evts.erase v }
  let k := aFlyXtCtrl + v.ch
  let c := flyEdge s cluster k
  if !bit c 0 then s1
  else
    let s2 := if (tget none (getF s1 cluster).held k).isSome then s1
      else setFlyReg s1 cluster k (setBits c 63 48 (satAdd 16 (bits c 63 48) 1))
    let s3 := if bit c 4 then
        let a := trigPulse s2 (8 * cluster + 3)
        if a.1 then raiseXt a.2 cluster else a.2
      else s2
    let cores := (sitesOfHome s cluster).filter fun i => !(getS s i).failed && wired s i
    let s4 := forAll cores (fun s i =>
      let y := getS s i
      setS s i { y with xtrigAt := if bit c 2 then some (edgeOf s i + 1) else y.xtrigAt,
                        trStart := if bit c 3 then edgeOf s i + 2 else y.trStart }) s3
    if bit c 1 then (partOfCluster s4 cluster).elim s4 (triggerHalt s4 (clusterRegion cluster)) else s4

/-- CHANNEL_FIRE (R84, R85): an event of a channel whose firing edge is the present one. -/
def execChannelFire (cluster : Nat) (ch : Fin 8) (s : State) : Host.Outcome State Fault Refusal :=
  match servedBy s cluster with
  | none => ok s
  | some f =>
    let e := (getR s (clusterRegion f)).edge
    match (getF s f).evts.find? fun v => v.cluster == cluster && v.ch == ch.val && decide (v.due = e) with
    | none => ok s
    | some v => ok (channelFire s f v)

/-- Every event of a Flyer whose firing edge is the present one. -/
def fireDue (s : State) (f : Nat) : State :=
  let e := (getR s (clusterRegion f)).edge
  forAll ((getF s f).evts.filter fun v => decide (v.due ≤ e)) (fun s v => channelFire s f v) s

/-! ### The partition map (R93, R94) -/

/-- A partition's shares of its regions after a change of the map: none where it holds no site any more. -/
def trimShares (s : State) (p : Nat) : State :=
  let rs := regionsOfPart s p
  forAll (List.range 4) (fun s r => if rs.contains r then s else setRP s p r RPart.fresh) s

/-- Whether every core of a cluster is in reset. -/
def allReset (s : State) (c : Nat) : Bool := (sitesOfHome s c).all fun i => (getS s i).inReset

/-- Whether a change of a cluster's byte is allowed (R93, R215). A partition that is resuming counts as no longer HALTED, though PRT_STATE
reads so until every region has resumed (DESIGN CHOICE, log entry 65). -/
def mapAllowed (s : State) (c new : Nat) : Bool :=
  let dst := (bytePart new).map fun p => getP s p
  match partOfCluster s c with
  | some p =>
    let x := getP s p
    x.st == .halted && !x.resuming && !dumpOf s p &&
      dst.elim true fun y => (y.st == .halted && !y.resuming) || y.st == .empty
  | none => allReset s c && dst.any fun y => y.st == .empty || y.st == .halted || y.st == .running

/-- A partition that a change creates starts HALTED (R93); it keeps its PRT_WDG. -/
def createPart (s : State) (p : Nat) : State :=
  let x := getP s p
  if x.st = .empty then setP s p { Part.fresh with st := .halted, grace := x.grace, supp := x.supp, wdgCount := 0 } else s

/-- One byte of a PRT_MAP write: an accepted change goes to the cluster's root through its take-flag crossing (R93). -/
def mapByteWrite (s : State) (c new : Nat) : State :=
  if !clusterIn s c || mapByte s c == new then s
  else if mapAllowed s c new then
    let r := clusterRegion c
    let s1 := (bytePart new).elim s (createPart s)
    let x := getR s1 r
    setR s1 r { x with port := tfSend x.port (.chg ⟨c, mapByte s c, new, 0⟩) }
  else countF s rPrtMapErr 63 0 1

/-- PRT_MAP_WRITE (R93, R123): ROOT, or the two-wire port at level 3. -/
def execPrtMapWrite (who : Who) (k : Fin 32) (v : Word) (s : State) : Host.Outcome State Fault Refusal :=
  if isRoot s who 3 then
    ok (forAll (List.range 8) (fun s j =>
      let b := bits v (8 * j + 7) (8 * j)
      mapByteWrite s (8 * k.val + j) (b / 128 * 128 + b % 64)) s)
  else ok s

/-- The changes of the map that have not acted in a region. -/
def chgsOf (x : Region) : List MapChg :=
  x.chg ++ (tfItems x.port).filterMap fun q => match q with
    | .chg g => some g
    | .req _ => none

/-- Whether a change of the map that gives a partition a cluster has not acted. -/
def joining (s : State) (p : Nat) : Bool := (List.range 4).any fun r => (chgsOf (getR s r)).any fun g => bytePart g.byte == some p

/-- The changes of the map, cluster and byte, that have not acted in any region. -/
def mapOwed (s : State) : List (Nat × Nat) :=
  (List.range 4).flatMap fun r => (chgsOf (getR s r)).map fun g => (g.cluster, g.byte)

/-- An answer whose changes of the map have all acted may be given; from then on it waits for the host (R93, R353). -/
def hostGive (s : State) : State :=
  let h := s.host
  match h.resp with
  | [] => s
  | r :: t =>
    if r.wait ≠ [] ∧ r.wait.all (fun g => !(mapOwed s).contains g) then { s with host := { h with resp := { r with wait := [] } :: t, since := s.ht } }
    else s

/-- A change acts at its cluster's leaves (R93, R94). A partition that has lost its last cluster is EMPTY, unless a cluster is still to join
it; and the mill map follows (R32, R101). -/
def applyChg (s1 : State) (g : MapChg) : State :=
  let before := (bytePart g.byte).elim [] (regionsOfPart s1)
  let s2 := setMapByte s1 g.cluster g.byte
  let s3 := match bytePart g.old with
    | none => s2
    | some p =>
      let s := trimShares s2 p
      if clustersOfPart s p = [] ∧ joining s p = false then
        setP s p { Part.fresh with grace := (getP s p).grace, supp := (getP s p).supp }
      else s
  hostGive (publishMap (match bytePart g.byte with
    | none => s3
    | some p =>
      let y := getP s3 p
      let fresh := (regionsOfPart s3 p).filter fun q => !before.contains q
      let run := y.st == .running
      let s4 := forAll fresh (fun s q =>
        setRP s p q { RPart.fresh with latch := !run, latchAt := (getR s q).edge, phalt := !run, halted := !run }) s3
      if y.st = .halted then setP s4 p { y with cut := false } else s4))

/-- Every change of a region that has come to its edge. -/
def chgDue (r : Nat) : Nat → State → State
  | 0, s => s
  | n + 1, s =>
    let x := getR s r
    match x.chg with
    | [] => s
    | g :: t => if g.due ≤ x.edge then chgDue r n (applyChg (setR s r { x with chg := t }) g) else s

/-- PRT_MAP_APPLY (R93, R94): the first change of a region acts at its cluster's leaves, once its edge has come. -/
def execPrtMapApply (r : Fin 4) (s : State) : Host.Outcome State Fault Refusal :=
  let x := getR s r
  match x.chg with
  | [] => ok s
  | g :: t => if x.edge < g.due then ok s else ok (applyChg (setR s r { x with chg := t }) g)

/-! ### A clock edge of a region (R51, R55, R64, R81, R95, R97, R98, R192) -/

/-- What the cut controller has sent crosses into a region's root: a message waits there for its turn, and a change of the map acts L edges
after its arrival (R51, R93). -/
def portEdge (s : State) (r : Nat) : State :=
  let x := getR s r
  let a := tfEdge x.port
  match a.1 with
  | none => if a.2 = x.port then s else setR s r { x with port := a.2 }
  | some (.req q) => setR s r { x with port := a.2, queue := x.queue ++ [{ q with edge := x.edge }] }
  | some (.chg g) => setR s r { x with port := a.2, chg := x.chg ++ [{ g with due := x.edge + latOf s r }] }

/-- The levels of one edge at a site: CA_LOCK moves only with a step the core begins (R73), CA_FROZEN stands only under CA_FREEZE (R65), and
CA_LM_IDLE stands while CA_FROZEN does (R75). -/
def siteLevels (lv : EdgeLevels) (s : State) (i : Nat) : State :=
  let y := getS s i
  let fz := freezeAtSite s i
  let lock := if fz || y.inReset then y.lock else lv.locks.contains i
  let frozen := fz && lv.frozen.contains i
  let idle := frozen || lv.idle.contains i
  if y.lock = lock ∧ y.frozen = frozen ∧ y.lmIdle = idle then s else setS s i { y with lock := lock, frozen := frozen, lmIdle := idle }

/-- What of a site belonged to the edge that has passed goes, and what was due at the new one happens: a write of BT_CTRL decides (R136), a
TSTART reaches the Bobbin (R85), CA_GATED passes a stage (R55), and what waits for an edge goes on. -/
def siteTurn (s : State) (i : Nat) : State :=
  let x := getS s i
  let old := btNow s i
  let s1 := if x.held = [] ∧ x.perfNow = 0 ∧ x.pcHeld = 0 ∧ x.bgnNow = 0 ∧ x.open0 = none then s
    else setS s i { x with held := [], perfNow := 0, pcHeld := 0, bgnNow := 0, open0 := none }
  let s2 := if old = ag s1 i aBtCtrl then s1 else btSwitch s1 i old (ag s1 i aBtCtrl)
  let s3 := gatedEdge (traceDue s2 i) i
  if x.ri.isEmpty && x.lm.isEmpty && x.waitOps.isEmpty then s3 else siteGo (wakeNeed s3 i) i

/-- The same of a Flyer: the resync level and the drift levels pass a stage (R142, R187). -/
def flyerTurn (s : State) (f : Nat) : State :=
  let x := getF s f
  let s1 := if x.held = [] ∧ x.sumsNow = [] then s else setF s f { x with held := [], sumsNow := [] }
  forAll (clustersOf s1 f) driftEdge (resyncEdge s1 f)

/-- The return path's ANDs at the leaves of a region for a partition (R98): the edge from which each has stood at 1. A site FREEZE_LATE counts
as frozen. -/
def andEdge (r : Nat) (s : State) (p : Nat) : State :=
  let rp := getRP s p r
  let e := (getR s r).edge
  let all := rp.latch && (sitesIn s p r).all fun i => (getS s i).frozen || (getS s i).freezeLate || (lostSites s p).contains i
  let ends_ := (consumers s p).filter fun x => x.consReg == r && !seamLost s p x
  let marked := ends_.all (seamMarked s)
  let a := if all then some (rp.andAt.getD e) else none
  let b := if marked then some (rp.markAt.getD e) else none
  if rp.andAt = a ∧ rp.markAt = b then s else setRP s p r { rp with andAt := a, markAt := b }

/-- One edge's step of a partition's share of a region (R95, R97): where its leaves hold CA_FREEZE at 0 a step begins; after the last of a STEP
the latches set again, and that halt records its step and time (R106, R113). -/
def partStep (r : Nat) (s : State) (p : Nat) : State :=
  let rp := getRP s p r
  let n := (rp.stepNo + 1) % 2 ^ 48
  if !rp.stepOn then setRP s p r { rp with stepNo := n }
  else if 1 < rp.stepLeft then setRP s p r { rp with stepNo := n, stepLeft := rp.stepLeft - 1 }
  else setRP s p r { rp with stepNo := n, stepLeft := 0, latch := true, latchAt := (getR s r).edge + 1, phalt := true, halted := true,
                             haltStep := n, haltTime := s.ht }

/-- SCHEDULE_STEP (R64, R95, R192, R195): one clock edge of a region. What is due at it acts; every core whose leaf holds CA_FREEZE at 0 begins
one step; the levels of cores and seams are taken; and the region comes to its next edge, at which each crossing into it moves on by a stage. -/
def execScheduleStep (r : Fin 4) (levels : EdgeLevels) (s : State) : Host.Outcome State Fault Refusal :=
  let x := getR s r
  if x.powerOff then ok s
  else
    let mine (t : State) : List Nat := (t.flyers.map Prod.fst).filter fun f => decide (f < 256) && clusterRegion f == r.val
    let own (t : State) : List Nat := (t.sites.map Prod.fst).filter fun i => regionOf i == r.val
    let s0 := chgDue r x.chg.length (leafDue r x.tree.length (forAll (mine s) fireDue s))
    let sites := (allSites s0).filter fun i => regionOf i = r
    let s1 := forAll sites (fun s i => siteLevels levels (aocEdge s i) i) s0
    let ends_ := (levels.marked.filter s1.smSent.contains).filter fun k => (s1.integ.seams[k]?).any fun m => m.consReg == r.val
    let s2 : State := { s1 with smMarked := s1.smMarked ++ ends_.filter (fun k => !s1.smMarked.contains k),
                                smSent := s1.smSent.filter fun k => !ends_.contains k }
    let parts := (List.range 64).filter fun p => !(sitesIn s2 p r).isEmpty
    let s3 := forAll (parts.filter fun p => !(getRP s2 p r).latch) (partStep r) s2
    let s4 := forAll parts (andEdge r) s3
    let turn := decide (x.rateWin + 4096 ≤ s.ht)
    let cnt := x.rateCnt + 1
    let s5 := setR s4 r { getR s4 r with edge := x.edge + 1, rateCnt := if turn then 0 else cnt,
                                         rateWin := if turn then s.ht else x.rateWin,
                                         rate := if turn then min 0xFFFF (cnt * 4096 / (s.ht - x.rateWin)) else x.rate }
    let s6 := forAll (own s5) siteTurn (forAll (mine s5) flyerTurn (portEdge s5 r))
    ok (pulseEchoes s6 (x.edge + 1) (crossingOfRegion r))

/-! ### Planned halts (R102, R103) -/

/-- The deadline of a ticket starts to run (R241, R273). -/
def armTicket (s : State) (opId : Nat) : State :=
  forAll (List.range 8) (fun s w =>
    let x := getW s w
    match x.tk.find? fun e => e.2.st == .pending && e.2.opId == opId && e.2.dl.isNone with
    | some e => setW s w (setTk x e.1 { e.2 with dl := some (s.ht + e.2.span) })
    | none => s) s

/-- The lead of a planned halt (R102). -/
def haltLead (s : State) : Nat := max (regF s rPrtLead 15 0) (regF s rPrtLead 47 32)

/-- PLANNED_HALT_DUE (R102, R103): the root's HALT would act at the leaf edge that begins step S, or later. -/
def execPlannedHaltDue (p : Fin 64) (s : State) : Host.Outcome State Fault Refusal :=
  let x := getP s p
  match x.planned with
  | none => ok s
  | some q =>
    let rp := getRP s p q.anchor
    let at_ := rp.stepNo + latOf s q.anchor
    if rp.latch || (getR s q.anchor).powerOff || decide (at_ < q.step) || (rp.stepOn && decide (rp.stepNo + rp.stepLeft < q.step)) then
      ok s
    else
      let late := decide (q.step < at_)
      let lat := max (regF s rPrtLead 31 16) (min 0xFFFF (s.ht - q.reqAt))
      let s1 := if late then setRegF (setRegF s rPrtLead 31 16 lat) rPrtLead 47 32 ((3 * lat + 4) / 5) else s
      let s2 := setP s1 p { x with planned := none, late := x.late || late }
      let s3 := armTicket s2 q.opId
      ok (setCause (cutStart (rootPush s3 q.anchor 1 p .halt 0 1) p (some q.anchor) [⟨q.opId, late⟩] none) p 1)

/-! ### Regions freeze and report (R98, R107) -/

/-- Whether what stands at the leaves of a region since an edge has come up the return path to its root (R98). -/
def rootSees (s : State) (r : Nat) (since : Option Nat) : Bool := since.any fun a => decide (a + latOf s r ≤ (getR s r).edge)

/-- REGION_FROZEN (R98, R107 steps 4 and 5): the AND of CA_FROZEN has come up at 1, sites that are FREEZE_LATE counted as frozen and as late, once
this cut's HALT and every RUN before it have acted. The root sends MARK, and MARK goes out on the links whose producers have all frozen
(R323). -/
def execRegionFrozen (r : Fin 4) (p : Fin 64) (s : State) : Host.Outcome State Fault Refusal :=
  let rp := getRP s p r
  if !rp.latch || rp.stepOn || (getR s r).powerOff || !rootSees s r rp.andAt || owes (getR s r) p [.halt, .run, .step] then ok s
  else
    let late := ((sitesIn s p r).filter fun i => (getS s i).freezeLate).length
    let s1 := setRP s p r { rp with frozen := true }
    match (getP s p).cutNow with
    | none => ok s1
    | some c =>
      if rp.markSent || rp.away || !rp.halted then ok s1
      else
        let s2 := rootPush (setRP s1 p r { rp with frozen := true, markSent := true, lateCnt := late }) r 3 p .mark 0 1
        let outs := (seamsOf s2 p).filter fun x => x.endK == 2
        let chs := ((outs.filter fun x => x.prodReg == r.val).map Seam.chan).eraseDups.filter fun ch =>
          outs.all fun x => x.chan != ch || (getRP s2 p x.prodReg).markSent || !(cutRegions s2 p).contains x.prodReg
        ok (chSendAll s2 chs 8 [c.cutId, word p.val])

/-- REGION_READY (R98, R107 step 5): the AND of SM_MARKED over the region's consumer ends has come up at 1. -/
def execRegionReady (r : Fin 4) (p : Fin 64) (s : State) : Host.Outcome State Fault Refusal :=
  let rp := getRP s p r
  if (getP s p).cutNow.isSome && rp.latch && rp.frozen && rp.markSent && !rp.ready && rootSees s r rp.markAt &&
      !owes (getR s r) p [.halt, .run, .step] then ok (setRP s p r { rp with ready := true })
  else ok s

/-- RUN_RESUMED (R115): every region has resumed. A hang dumped before reads as ended (R211). -/
def execRunResumed (p : Fin 64) (s : State) : Host.Outcome State Fault Refusal :=
  let x := getP s p
  if !x.resuming || (liveRegions s p).any fun r => (getRP s p r).owesRun then ok s
  else
    let s1 := setP s p { x with resuming := false, runOwed := [], st := if x.st = .halted then .running else x.st,
                                runFrom := if x.st = .halted then s.ht + 1 else x.runFrom }
    let s2 := forAll x.runOwed (postWaiter .ok 0) s1
    let s3 : State := if bit s2.hang.ended p then
        let b := word (2 ^ p.val)
        setReg { s2 with hang := { s2.hang with ended := s2.hang.ended &&& ~~~ b } } rHngHung (reg s2 rHngHung &&& ~~~ b)
      else s2
    let s4 := if (getP s3 p).st = .running then releaseHeld s3 p else s3
    let s5 := rdvWake s4 p
    ok (actAfter ((getP s5 p).after.length + 1) s5 p)

/-! ### Lossless holds (R145 to R147) -/

/-- Whether a queue lies below 25 % fill (R146). -/
def below25 (s : State) : DropPoint → Bool
  | .bobbin i => decide (4 * unitsOf (getS s i).fifo < 8)
  | .flyer f => decide (4 * unitsOf ((getF s f).q.map QRec.r) < 128)
  | .sink n => decide (4 * sinkFill n (getSink s n) < 16384)
  | .ring => true

/-- LL_HOLD_REQUEST (R145): a queue that reached its threshold for lossless records of p. -/
def execLlHoldRequest (point : DropPoint) (p : Fin 64) (s : State) : Host.Outcome State Fault Refusal :=
  let x := getP s p
  if x.llWant.contains point then
    ok (setP s p { x with llWant := x.llWant.filter fun q => q != point,
                          holdReq := if x.holdReq.contains point then x.holdReq else x.holdReq ++ [point] })
  else ok s

/-- LL_HOLD_START (R146): HALT to each region at the third precedence; nothing of PRT_STATE changes. -/
def execLlHoldStart (p : Fin 64) (s : State) : Host.Outcome State Fault Refusal :=
  let x := getP s p
  if x.holdReq = [] ∨ x.hold.isSome ∨ x.st ≠ .running ∨ x.holdTmo then ok s
  else
    let s1 := countF (setP s p { x with hold := some ⟨s.ht⟩ }) rTrcLlCtrl 63 48 1
    ok (hevt (ctlPush s1 (liveRegions s p) p .halt 0 0) 0x005 p [])

/-- LL_HOLD_END (R146, R147): every requesting queue lies below 25 %: the hold ends with RUN, or, after a hold that timed out, the
dropping with HOLD_TMO ends. -/
def execLlHoldEnd (p : Fin 64) (s : State) : Host.Outcome State Fault Refusal :=
  let x := getP s p
  if !(x.holdReq.all (below25 s)) then ok s
  else if x.hold.isSome then
    ok (ctlPush (holdEnded s p 0) (liveRegions s p) p .run 0 0)
  else if x.holdTmo then ok (setP s p { x with holdTmo := false, holdReq := [] })
  else ok s

/-- LL_HOLD_TIMEOUT (R147): TRC_LL_CTRL.TMO has passed; the hold ends with RUN, and records drop with reason HOLD_TMO. -/
def execLlHoldTimeout (p : Fin 64) (s : State) : Host.Outcome State Fault Refusal :=
  let x := getP s p
  match x.hold with
  | none => ok s
  | some h =>
    if s.ht < h.since + regF s rTrcLlCtrl 31 0 then ok s
    else
      let s1 := setP s p { x with holdTmo := true }
      ok (ctlPush (holdEnded s1 p 1) (liveRegions s p) p .run 0 0)

/-! ### Power (R120, R138) -/

/-- The clusters of a region. -/
def clustersIn (s : State) (r : Nat) : List Nat := (allClusters s).filter fun c => clusterRegion c == r

/-- A cluster's sums start at 0 again at the Flyer that serves it, and its next entry carries RESTART (R195). -/
def sumsGone (s : State) (c : Nat) : State :=
  match servedBy s c with
  | none => s
  | some f =>
    let x := getF s f
    let at_ (k : Nat) : Bool := k / 8 == c
    setF s f { x with sums := x.sums.filter (fun e => !at_ e.1), sumsNow := x.sumsNow.filter (fun e => !at_ e.1),
                      snap := tput none x.snap c none, aoSent := tput false x.aoSent c false }

/-- Bobbins and Flyers of a region at their reset values, their supply and reset domain being the region's (R66, R138), the counts of
TRC_FLY_STAT among them; groups of other regions' Flyers stay on the plane. -/
def regionReset (s : State) (r : Nat) : State :=
  let sites := (allSites s).filter fun i => regionOf i = r
  let cl := clustersIn s r
  let counts (k : Nat) : Bool := cl.any fun f => k == keyObj f rTrcFlyStat
  let s1 : State := { s with
    regs := s.regs.filter fun e => !counts e.1
    sites := s.sites.filterMap fun e => if regionOf e.1 = r ∧ e.1 < 8192 then
        (if e.2.failed then some (e.1, { Site.fresh with failed := true }) else none) else some e,
    areg := s.areg.filter fun e => if e.1 < 0x10000000 then !(sites.contains (e.1 / 0x1000)) else !(cl.contains ((e.1 - 0x10000000) / 0x100)) }
  forAll cl (fun s f =>
    let x := getF s f
    setF s f { Flyer.fresh with failed := x.failed, nodeFail := x.nodeFail, declared := x.declared, trcFail := x.trcFail,
                                through := x.through.filter fun g => !cl.contains (bits (g.headD 0) 57 50),
                                epochs := s.spine.epochs, card := { Card.fresh with failed := x.card.failed } }) (forAll cl sumsGone s1)

/-- REGION_POWER_OFF (R120, R138): the region is off; records there are lost, operations there end unanswered, the planned halts it anchors
are disarmed, engines of other regions leave its taps (R188), and a step that waited for it alone has ended (R113). -/
def execRegionPowerOff (r : Fin 4) (s : State) : Host.Outcome State Fault Refusal :=
  let x := getR s r
  if x.powerOff then ok s
  else
    let cl := clustersIn s r
    let sites := (allSites s).filter fun i => regionOf i = r
    let lostPend : State := { s with flyers := tmap Flyer.fresh (fun y => { y with pend := y.pend.map fun q =>
      { q with waiting := q.waiting.filter fun i => !sites.contains i } }) s.flyers }
    let others := (allClusters s).filter fun f => !cl.contains f
    let s1 := forAll others (fun s f =>
      forAll (((getF s f).pend.map PendOp.opId).eraseDups) (fun s id => settlePend s f id) s) lostPend
    let s2 := forAll cl flyerGone s1
    let taps := others.filter fun f => (getF s f).card.sel.any fun e => sites.contains e.1
    let shut (s : State) (f : Nat) : State := if (getF s f).card.win.isSome then closeWindow s f 3 else s
    let s3 := forAll taps settleCard (regionReset (forAll taps shut s2) r)
    let s4 := setR s3 r { x with powerOff := true, queue := [], tree := [], chg := chgsOf x, port := Region.fresh.port }
    let s5 := forAll (List.range 64) (fun s p =>
      let y := getP s p
      match y.planned with
      | some q => if q.anchor = r then post (setP s p { y with planned := none }) q.opId .noagent 0 else s
      | none => s) s4
    let s6 := forAll (List.range 64) (fun s p =>
      stepTimed (setRP s p r { getRP s p r with owesRun := false, stepOn := false, frozen := false, andAt := none, markAt := none }) p) s5
    let s7 := hevt s6 0x002 r.val []
    let s8 := forAll cl (fun s f => funnelGap s (srcFlyer f 0) 8 0) s7
    ok { s8 with funnel := { s8.funnel with srcE := s8.funnel.srcE.filter fun e => regionOfSrc s e.1 ≠ r.val ∨ 0xC000 ≤ e.1 } }

/-- REGION_POWER_ON (R57, R120, R138): its queues resynchronise, and the region's sites rejoin their partitions in their present state, with step count 0. -/
def execRegionPowerOn (r : Fin 4) (s : State) : Host.Outcome State Fault Refusal :=
  let x := getR s r
  if !x.powerOff then ok s
  else
    let s0 := forAll ((clustersIn s r).flatMap fun c => [8 * c, 8 * c + 1, 8 * c + 2]) (fun s k => resyncQueue k 0 s) (regionReset s r)
    let s1 := setR s0 r { x with powerOff := false, queue := [], tree := [], port := Region.fresh.port }
    let s2 := forAll ((List.range 64).filter fun p => (regionsOfPart s1 p).contains r) (fun s p =>
      let y := getP s p
      let fz := y.st != .running
      let away := y.st == .halting || y.st == .stepping
      let s := setRP s p r { RPart.fresh with latch := fz, latchAt := x.edge, phalt := fz, halted := fz, away := away }
      if y.st = .halted then setP s p { y with cut := false } else s) s1
    ok (hevt s2 0x003 r.val [])

/-! ### Cuts and rendezvous from other hubs (R333 to R337) -/

/-- The partitions at this hub's ends of a link's seams from a neighbour's partition. -/
def farParts (s : State) (ch part : Nat) : List Nat :=
  ((s.integ.seams.filter fun x => x.endK != 0 && x.chan == ch && x.farPart == part).filterMap fun x =>
    partOf s (if x.endK = 1 then x.cons else x.prod)).eraseDups

/-- The cut that ends a STEP of a rendezvous becomes part of the cut that the starting hub asks for (R333, Table 12.3, step 6). -/
def cutAdopt (s : State) (p : Nat) (c : Cut) (cutid : Word) (ch deadline : Nat) : State :=
  let b := askHubs { s with knownCuts := s.knownCuts ++ [cutid] } p cutid (deadline - 2000) (some ch)
  setP b.2 p { getP b.2 p with cutNow := some { c with cutId := cutid, parent := some ch, deadline := some deadline, children := b.1,
                                                       awaits := false } }

/-- HALT_REQ (R333): a cut with cause 5 of the partitions that the link's seams reach, or CONFIRM with JOINED at once. -/
def execHaltReq (ch : Fin 8) (lseq : BitVec 16) (cutid deadline : Word) (part : Fin 64) (s0 : State) : Host.Outcome State Fault Refusal :=
  let s := seqIn s0 ch lseq
  if !(getC s ch).up then ok s
  else
    let ps := farParts s ch part
    let run := ps.filter fun p => (getP s p).st == .running || (getP s p).st == .stepping || (getP s p).resuming
    if s.knownCuts.contains cutid ∨ run = [] ∧ ps ≠ [] then
      ok (chSend (countF s rIhbStat 47 32 1) ch 7 0 [cutid, word (2 ^ 63)])
    else if ps = [] then ok (chSend { s with knownCuts := s.knownCuts ++ [cutid] } ch 7 0 [cutid, 0])
    else
      let s1 := forAll run (fun s p => match (getP s p).cutNow.filter Cut.awaits with
        | some c => cutAdopt s p c cutid ch deadline.toNat
        | none => cutStart s p none [] (some (cutid, ch.val, deadline.toNat))) s
      ok (tryConfirm s1 cutid)

/-- Whether a cut waits for a child's answer. -/
def asks (c : Cut) (ch : Nat) (cutid : Word) : Bool := c.cutId == cutid && c.children.any fun k => k.ch == ch && !k.done

/-- A child's answer put into a partition's cut. -/
def childPut (s : State) (p ch : Nat) (cutid : Word) (nfail : Nat) (joined : Bool) : State :=
  let x := getP s p
  let put (k : Child) : Child := if k.ch = ch ∧ k.done = false then { k with done := true, nfail := nfail, joined := joined } else k
  let upd (c : Cut) : Cut := if c.cutId = cutid then { c with children := c.children.map put } else c
  let cut (t : Tree) : Tree := if joined && t.cutId == cutid then { t with children := t.children.filter fun c => c != ch } else t
  setP s p { x with cutNow := x.cutNow.map upd, owed := x.owed.map upd, tree := x.tree.map cut }

/-- A child's answer put into the cut that waits for it; where several partitions asked the same hub, the first request of a CUTID takes part in
the cut and the others are answered JOINED (R333). A hub that has JOINED is not a child of the tree (R336). -/
def childDone (s : State) (ch : Nat) (cutid : Word) (nfail : Nat) (joined : Bool) : State :=
  let ps := (List.range 64).filter fun p => ((getP s p).cutNow.any fun c => asks c ch cutid) || (getP s p).owed.any fun c => asks c ch cutid
  (if joined then ps.getLast? else ps.head?).elim s fun p => childPut s p ch cutid nfail joined

/-- CONFIRM (R334). -/
def execConfirm (ch : Fin 8) (lseq : BitVec 16) (cutid : Word) (joined : Bool) (nfail : BitVec 16) (s0 : State) : Host.Outcome State Fault Refusal :=
  let s := seqIn s0 ch lseq
  ok (tryConfirm (childDone s ch cutid (if joined then 0 else nfail.toNat) joined) cutid)

/-- CUT_CHILD_DEADLINE (R334): children that have not confirmed by DEADLINE count 1 each. -/
def execCutChildDeadline (p : Fin 64) (s : State) : Host.Outcome State Fault Refusal :=
  let x := getP s p
  match x.owed.or x.cutNow with
  | none => ok s
  | some c =>
    if c.parent.isSome && c.deadline.any fun d => decide (d ≤ s.ht) then
      let open_ := c.children.filter fun k => !k.done
      let s1 := countF s rIhbStat 31 16 open_.length
      ok (tryConfirm (forAll open_ (fun s k => childPut s p k.ch c.cutId 1 false) s1) c.cutId)
    else ok s

/-- MARK (R323): it stands for SM_MARKED on the link's seams from the sender's partition, and a CONFIRM may have waited for it (R334). -/
def execMark (ch : Fin 8) (lseq : BitVec 16) (_cutid : Word) (part : Fin 64) (s0 : State) : Host.Outcome State Fault Refusal :=
  let s := seqIn s0 ch lseq
  let c := getC s ch
  if !c.up || c.marks.contains part.val then ok s
  else
    let s1 := setC s ch { c with marks := c.marks ++ [part.val] }
    ok (forAll ((List.range 64).filterMap fun p => (getP s1 p).owed.map Cut.cutId) tryConfirm s1)

/-- The partition that keeps the rendezvous of a tree: the lowest in it. -/
def treePart (s : State) (cutid : Word) : Option Nat := (treeParts s cutid).head?

/-- A rendezvous message of another epoch, or of no tree, discarded (R337). -/
def stale (s : State) : State := countF s rIhbStat 63 48 1

/-- RDV_OPEN (R336, R337, Table 12.3 step 2). -/
def execRdvOpen (ch : Fin 8) (lseq : BitVec 16) (epoch : BitVec 16) (op : RdvOp) (cutid : Word) (s0 : State) : Host.Outcome State Fault Refusal :=
  let s := seqIn s0 ch lseq
  match treePart s cutid with
  | none => ok (stale s)
  | some p =>
    let x := getP s p
    match x.tree with
    | some t =>
      if t.parent ≠ some ch.val ∨ epoch ≠ x.rdvEpoch + 1 then ok (stale s)
      else
        let slot := x.rdv.find? fun v => v.epoch = epoch
        let mine := treeParts s cutid
        let kids := (mine.flatMap fun q => (getP s q).tree.elim [] Tree.children).eraseDups
        let v : Rdv := { epoch := epoch, op := op, cutId := cutid, parent := some ch.val, children := kids,
                         arrived := (slot.map Rdv.arrived).getD [], left := [], released := false, started := s.ht, waiters := [],
                         missing := 0 }
        let s1 := setP s p { x with rdv := (x.rdv.filter fun v => v.epoch != epoch) ++ [v], rdvEpoch := epoch }
        let s2 := forAll mine (fun s q => sendClr (setP s q { getP s q with cut := false }) q) (chSendAll s1 kids 9 (rdvUnits epoch op cutid))
        ok (rdvStep s2 p epoch)
    | none => ok (stale s)

/-- RDV_ARRIVE (R336, R337): counted for its epoch; one of the next epoch is kept for it. -/
def execRdvArrive (ch : Fin 8) (lseq : BitVec 16) (epoch : BitVec 16) (members : BitVec 16) (cutid : Word) (s0 : State) :
    Host.Outcome State Fault Refusal :=
  let s := seqIn s0 ch lseq
  match treePart s cutid with
  | none => ok (stale s)
  | some p =>
    let x := getP s p
    let add (v : Rdv) : Rdv := if v.epoch = epoch then { v with arrived := v.arrived ++ [(ch.val, members.toNat)] } else v
    if x.rdv.any fun v => v.epoch = epoch then ok (rdvStep (setP s p { x with rdv := x.rdv.map add }) p epoch)
    else if epoch = x.rdvEpoch + 1 then
      let v : Rdv := { epoch := epoch, op := .run, cutId := cutid, parent := some 8, children := [], arrived := [(ch.val, members.toNat)],
                       left := [], released := false, started := s.ht, waiters := [], missing := 1 }
      ok (setP s p { x with rdv := x.rdv ++ [v] })
    else ok (stale s)

/-- RDV_RELEASE (R336, Table 12.3 step 5). A hub that has not arrived stays halted (R337). -/
def execRdvRelease (ch : Fin 8) (lseq : BitVec 16) (epoch : BitVec 16) (_op : RdvOp) (cutid : Word) (s0 : State) : Host.Outcome State Fault Refusal :=
  let s := seqIn s0 ch lseq
  match treePart s cutid with
  | none => ok (stale s)
  | some p =>
    match (getP s p).rdv.find? fun v => v.epoch = epoch && v.parent == some ch.val && !v.released with
    | none => ok (stale s)
    | some v => if v.missing = 0 then ok s else ok (rdvStep (rdvGo s p v 0) p epoch)

/-- RDV_LEFT (R336, Table 12.3 step 6). -/
def execRdvLeft (ch : Fin 8) (lseq : BitVec 16) (epoch : BitVec 16) (members : BitVec 16) (cutid : Word) (s0 : State) :
    Host.Outcome State Fault Refusal :=
  let s := seqIn s0 ch lseq
  match treePart s cutid with
  | none => ok (stale s)
  | some p =>
    let x := getP s p
    if x.rdv.any fun v => v.epoch = epoch then
      ok (rdvStep (setP s p { x with rdv := x.rdv.map fun v =>
        if v.epoch = epoch then { v with left := v.left ++ [(ch.val, members.toNat)] } else v }) p epoch)
    else ok (stale s)

/-- RDV_TIMEOUT (R336, Table 12.3 step 4): PRT_CUT_TMO has passed since step 1; each child that has not arrived counts as missing. -/
def execRdvTimeout (p : Fin 64) (s : State) : Host.Outcome State Fault Refusal :=
  match (getP s p).rdv.find? fun v => v.parent.isNone && !v.released && decide (v.started + regF s rPrtCutTmo 31 0 ≤ s.ht) with
  | none => ok s
  | some v =>
    let gone := (v.children.filter fun c => !(v.arrived.any fun a => a.1 == c)).length
    ok (rdvGo s p v (max 1 gone))

/-- DUMP_REQ (R335): cause 4 for the partitions in that cut, and on to the children. -/
def execDumpReq (ch : Fin 8) (lseq : BitVec 16) (num cutid : Word) (s0 : State) : Host.Outcome State Fault Refusal :=
  let s := seqIn s0 ch lseq
  let ps := (List.range 64).filter fun p => (getP s p).tree.any fun t => t.cutId == cutid && t.parent == some ch.val
  let kids := (ps.flatMap fun p => (getP s p).tree.elim [] Tree.children).eraseDups
  ok (chSendAll (forAll ps (fun s p => hangDeclare s p 4 0) s) kids 13 [num, cutid])

end Sys2Proof.Machine
end

