-- ==== Sys2Proof/Machine/Time.lean ====
section
/-! DEFINITION. Hub time over several hubs: the time base (R318 to R320), hub numbers and routes (R324), the election (R325 to
R327), measurement and slewing (R328 to R332), channels (R322, R368) and messages (R285, R286). -/

namespace Sys2Proof.Machine

/-! ### TIM_STAT (R332, R339) -/

/-- Whether an election is open at this hub: from reset until the first has closed, and while one runs (R326, IHB_ROOT.ELECTING). -/
def electing (s : State) : Bool := s.elect.active || s.elect.cfg.isNone

/-- Whether the parent's channel is down (R331). -/
def parentLost (s : State) : Bool := s.time.parent.any fun ch => !(getC s ch).up

/-- The last θ as its size in 1/16 ht; none before the first measurement. -/
def thetaAbs (s : State) : Option Nat := s.time.lastTheta.map fun e => e.1.natAbs

/-- TIM_STAT.STATE (Table 12.4): HOLDOVER, then ALIGNING of a new hub whose election has closed, FREE of the configuration root,
LOCKED while |θ| ≤ 2 ht, MEASURING. -/
def timeState (s : State) : Nat :=
  if s.time.refLoss || parentLost s then 3
  else if s.time.isNew then (if electing s then 0 else 1)
  else if s.time.parent.isNone then 0
  else if !s.time.measuring && (thetaAbs s).any fun t => decide (t ≤ 32) then 2
  else 4

/-- TIM_STAT.ERR (R330, R332) in ps, 250 ps to the ht. -/
def errPs (s : State) : Nat :=
  (if s.time.parent.isNone then 0 else s.time.parentErr + 125 + regF s rTimAsym 15 0 / 2) +
    (if s.time.state = 4 then ((thetaAbs s).getD 0) * 250 / 16 else 0) +
    (s.time.holdSince.elim 0 fun t => (s.ht - t) / 80)

/-- A change of state is shown and recorded (R329). -/
def timeUpdate (s : State) : State :=
  let n := timeState s
  if n = s.time.state then s
  else hevt { s with time := { s.time with state := n, holdSince := if n = 3 then some (s.time.holdSince.getD s.ht) else none } }
    0xC00 n []

/-! ### Exchanges (R328, R329, R331) -/

/-- A full measurement starts: eight exchanges, 4,000 ht apart; a hub without a parent has none to make. -/
def startMeasure (s : State) : State :=
  if s.time.parent.isNone then s
  else { s with time := { s.time with measuring := true, exLeft := 8, exDone := [], exOut := [], nextEx := s.ht } }

/-- An integer kept within ± m. -/
def clampInt (m x : Int) : Int := if x < -m then -m else if m < x then m else x

/-- The slew in ppb that removes θ, in 1/16 ht, over the next 4,000,000 ht, at most ± 100 ppm (R320, R329). -/
def slewFor (theta : Int) : Int := clampInt 100000 ((theta * 1000).tdiv 64)

/-- A θ and d kept: TIM_OFFSET, TIM_DELAY, and the slew that removes θ. -/
def keepTheta (s : State) (d theta : Int) : State :=
  let s1 := setReg (setReg s rTimOffset (word (twos 64 theta))) rTimDelay (word (twos 32 d))
  { s1 with time := { s1.time with lastTheta := some (theta, s.ht),
                                   slew := if electing s then 0 else if s.time.isNew then s.time.slew else slewFor theta } }

/-- The exchange of least d. -/
def bestEx : List (Int × Int) → Option (Int × Int)
  | [] => none
  | e :: t => match bestEx t with
    | none => some e
    | some x => if x.1 < e.1 then some x else some e

/-- A measurement whose exchanges have all been made: repeated when fewer than four succeeded (R328). -/
def finishMeasure (s : State) : State :=
  if !s.time.measuring || s.time.exLeft != 0 || !s.time.exOut.isEmpty then s
  else if s.time.exDone.length < 4 then
    { s with time := { s.time with exLeft := 8, exDone := [], nextEx := s.ht + 4000 } }
  else match bestEx s.time.exDone with
    | none => s
    | some e => keepTheta { s with time := { s.time with measuring := false, exDone := [], nextEx := s.ht + 4000000 } } e.1 e.2

/-- A tracking exchange (R329): the trim takes the parent's rate over the last two exchanges, counting what the slew removed, and
stays within ± 300 ppm (R318). -/
def track (s : State) (d theta : Int) : State :=
  let t := s.time
  let trim := match t.lastTheta with
    | some (old, at_) =>
      if electing s || decide (s.ht ≤ at_) then t.trim
      else clampInt 300000 (t.trim + t.slew + ((theta - old) * 1000000000).tdiv (16 * (s.ht - at_ : Nat)))
    | none => t.trim
  keepTheta { s with time := { t with trim := trim } } d theta

/-- TIME_EXCHANGE_TICK (R328, R329): the next exchange of a measurement, or with TRACK the next tracking exchange, falls due. -/
def execTimeExchangeTick (s : State) : Host.Outcome State Fault Refusal :=
  let t := s.time
  match t.parent with
  | none => ok s
  | some ch =>
    let due := decide (t.nextEx ≤ s.ht) &&
      (if t.measuring then decide (t.exLeft ≠ 0) else !t.isNew && bit (reg s rTimCtrl) 1)
    if due then
      let s1 := chSend s ch 2 0 [word s.ht]
      ok { s1 with time := { t with exOut := t.exOut ++ [(s.ht, ch)], exLeft := t.exLeft - 1,
                                    nextEx := s.ht + if t.measuring && decide (1 < t.exLeft) then 4000 else 4000000 } }
    else ok s

/-- PROBE (R328): the parent answers with t2 and t3. -/
def execProbe (ch : Fin 8) (lseq : BitVec 16) (t1 : Word) (s0 : State) : Host.Outcome State Fault Refusal :=
  let s := seqIn s0 ch lseq
  ok (chSend s ch 3 0 [t1, word s.ht, word s.ht])

/-- PROBE_REPLY (R328): d and θ in 1/16 ht of the exchange that the reply answers within 8,000 ht. -/
def execProbeReply (ch : Fin 8) (lseq : BitVec 16) (t1 t2 t3 : Word) (s0 : State) : Host.Outcome State Fault Refusal :=
  let s := seqIn s0 ch lseq
  match s.time.exOut.find? fun e => e.2 == ch.val && t1 == word e.1 with
  | none => ok s
  | some (sent, c) =>
    if s.ht ≤ sent + 8000 then
      let a : Int := (s.ht : Int) - sent
      let b : Int := (t3.toNat : Int) - t2.toNat
      let u : Int := (t2.toNat : Int) - sent
      let v : Int := (t3.toNat : Int) - s.ht
      let d := (a - b) * 8
      let theta := (u + v) * 8
      let s1 : State := { s with time := { s.time with exOut := s.time.exOut.erase (sent, c) } }
      ok (timeUpdate (if s.time.measuring then
        finishMeasure { s1 with time := { s1.time with exDone := s1.time.exDone ++ [(d, theta)] } } else track s1 d theta))
    else ok s

/-- PROBE_TIMEOUT (R328): an exchange without a reply within 8,000 ht is not counted. -/
def execProbeTimeout (s : State) : Host.Outcome State Fault Refusal :=
  let left := s.time.exOut.filter fun e => s.ht ≤ e.1 + 8000
  if left = s.time.exOut then ok s else ok (timeUpdate (finishMeasure { s with time := { s.time with exOut := left } }))

/-- TIM_MEASURE (R331, R339). -/
def execTimMeasure (who : Who) (s : State) : Host.Outcome State Fault Refusal :=
  if isRoot s who 3 then ok (timeUpdate (startMeasure s)) else ok s

/-- REFCLK_LOSS (R319): the time base runs on with its last trim; HOLDOVER (Table 16.1, kind 15). -/
def execRefclkLoss (s : State) : Host.Outcome State Fault Refusal :=
  if s.time.refLoss then ok s
  else ok (timeUpdate (healthChange { s with time := { s.time with refLoss := true } } 15 0 true))

/-- REFCLK_RETURN (R319): REFLOSS clears and a full measurement starts. -/
def execRefclkReturn (s : State) : Host.Outcome State Fault Refusal :=
  if s.time.refLoss then
    ok (timeUpdate (startMeasure (healthChange { s with time := { s.time with refLoss := false } } 15 0 false)))
  else ok s

/-! ### The election (R325 to R327) -/

/-- A key as the number that is compared: NEW, PRIO, DEVID. -/
def keyNum (k : Key) : Nat := b2n k.isNew * 2 ^ 56 + k.prio.toNat * 2 ^ 48 + k.devid.toNat

/-- This hub's key (R325). -/
def ownKey (s : State) : Key :=
  ⟨s.time.isNew, BitVec.ofNat 8 (regF s rIhbId 63 56), s.integ.devid.setWidth 48⟩

/-- The channels that are up. -/
def upChans (s : State) : List Nat := (List.range 8).filter fun n => (getC s n).up

/-- Whether a channel's peer is of this hub's package. -/
def peerSamePkg (s : State) (ch : Nat) : Bool := s.integ.samePkg.getLsbD ch

/-- ELECT on a channel (R326): the keys, the distances and MAXTIME. -/
def electSend (s : State) (ch : Nat) : State :=
  let e := s.elect
  let same := peerSamePkg s ch
  chSend s ch 4 0 [word (e.cfg.elim 0 keyNum), word (if same then e.pkg.elim 0 keyNum else 0),
    word ((if same then e.pkgHops else 0) * 2 ^ 16 + e.cfgHops), word e.maxTime]

/-- ELECT on every channel that is up. -/
def electSendAll (s : State) : State := forAll (upChans s) electSend s

/-- An election begins (R326): this hub's own key is the best it knows, and the time base slews nothing. -/
def electStart (s : State) : State :=
  let k := ownKey s
  electSendAll { s with
    elect := { active := true, lastImp := s.ht, cfg := some k, cfgHops := 0, cfgCh := none, pkg := some k, pkgHops := 0,
               pkgCh := none, maxTime := max s.ht s.elect.maxTime },
    time := { s.time with slew := 0 } }

/-- Whether a key at a distance beats the best one known. -/
def better (k : Key) (h : Nat) (best : Option Key) (bh : Nat) : Bool :=
  best.elim true fun b => decide (keyNum k < keyNum b) || (decide (keyNum k = keyNum b) && decide (h < bh))

/-- Whether a channel only replaces a higher one of the same key and distance (R327: then the lower channel). -/
def lowerCh (k : Key) (h ch : Nat) (best : Option Key) (bh : Nat) (bc : Option Nat) : Bool :=
  best == some k && h == bh && bc.any fun c => decide (ch < c)

/-- The configuration key of an ELECT message taken in. -/
def takeCfg (e : ElectSt) (ch : Nat) (k : Key) (h : Nat) : ElectSt :=
  if better k h e.cfg e.cfgHops then { e with cfg := some k, cfgHops := h, cfgCh := some ch }
  else if lowerCh k h ch e.cfg e.cfgHops e.cfgCh then { e with cfgCh := some ch } else e

/-- The package key of an ELECT message taken in. -/
def takePkg (e : ElectSt) (ch : Nat) (k : Key) (h : Nat) : ElectSt :=
  if better k h e.pkg e.pkgHops then { e with pkg := some k, pkgHops := h, pkgCh := some ch }
  else if lowerCh k h ch e.pkg e.pkgHops e.pkgCh then { e with pkgCh := some ch } else e

/-- ELECT (R326): the best values are updated, and sent again on every channel whenever one improves. A hub whose election has
closed opens one. -/
def execElect (ch : Fin 8) (lseq : BitVec 16) (msg : ElectMsg) (s0 : State) : Host.Outcome State Fault Refusal :=
  let s := seqIn s0 ch lseq
  if !(getC s ch).up then ok s
  else
    let s1 := if s.elect.active then s else electStart s
    let e := s1.elect
    let pk := if peerSamePkg s ch then msg.pkg else none
    let e1 := takeCfg e ch msg.cfg (msg.cfgHops + 1)
    let e2 := pk.elim e1 fun x => takePkg e1 ch x.1 (x.2 + 1)
    let e3 : ElectSt := { e2 with maxTime := max e2.maxTime msg.maxTime }
    let improved := better msg.cfg (msg.cfgHops + 1) e.cfg e.cfgHops || (pk.any fun x => better x.1 (x.2 + 1) e.pkg e.pkgHops) ||
      decide (e.maxTime < msg.maxTime)
    if improved then ok (electSendAll { s1 with elect := { e3 with lastImp := s1.ht } })
    else ok { s1 with elect := e3 }

/-- A parent of the time tree taken (R327, R331): a change of it starts a full measurement. -/
def takeParent (s : State) (p : Option Nat) (depth : Nat) : State :=
  if p = s.time.parent then { s with time := { s.time with depth := depth } }
  else
    let s1 : State := { s with
      time := { s.time with parent := p, depth := depth, lastTheta := none, measuring := false, exLeft := 0, exDone := [], exOut := [],
                            parentErr := if p.isNone then 0 else Config.parentErr s.freeCtr },
      freeCtr := s.freeCtr + 1 }
    startMeasure s1

/-- ELECTION_CLOSE (R326, R327): 40,000 ht without an improvement; the roots and the time tree are set. -/
def execElectionClose (s : State) : Host.Outcome State Fault Refusal :=
  let e := s.elect
  if e.active ∧ e.lastImp + 40000 ≤ s.ht then
    let s1 : State := { s with elect := { e with active := false } }
    let s2 := hevt s1 0xC01 (b2n e.cfgCh.isNone * 2 + b2n e.pkgCh.isNone) [word (e.cfg.elim 0 fun k => k.devid.toNat)]
    let p := if e.pkgCh.isNone then e.cfgCh else e.pkgCh
    let s3 := takeParent s2 p e.cfgHops
    ok (timeUpdate (if s3.time.isNew && !s3.time.measuring then startMeasure s3 else s3))
  else ok s

/-- IHB_ELECT (R326, R340). -/
def execIhbElect (who : Who) (s : State) : Host.Outcome State Fault Refusal :=
  if isRoot s who 3 then ok (timeUpdate (electStart s)) else ok s

/-! ### The first alignment (R320, R329, R330) -/

/-- Hub time stepped forward, once (R320): NEW clears, and a hub with a parent measures again. -/
def alignTo (s : State) (t : Nat) : State :=
  let s1 : State := { s with ht := max s.ht t, time := { s.time with isNew := false, startedAt := none, lastTheta := none } }
  timeUpdate (startMeasure s1)

/-- MAXTIME + 400,000 ht. -/
def maxTimeStep (s : State) : Nat := max s.ht s.elect.maxTime + 400000

/-- What the first alignment makes of the state (R329): the configuration root steps to MAXTIME + 400,000 ht, any other hub by the
θ it has measured. -/
def alignStep (s : State) : Option State :=
  if !s.time.isNew || electing s then none
  else match s.time.parent with
    | none => some (alignTo s (maxTimeStep s))
    | some _ => if s.time.measuring then none else s.time.lastTheta.map fun e => alignTo s (s.ht + (e.1 / 16).toNat)

/-- What aligning on its own makes of the state (R330): without a channel, or 8,000,000 ht after the start. -/
def selfAlignStep (s : State) : Option State :=
  if s.time.isNew ∧ (s.time.startedAt.any fun t => (upChans s).isEmpty || decide (t + 8000000 ≤ s.ht)) then
    some (alignTo s (maxTimeStep s)) else none

/-! ### Channels (R322, R340, R368) -/

/-- CHANNEL_UP (R368): the channel's record, NAME on it, an election, and after a retrain of the parent's channel a measurement. -/
def execChannelUp (ch : Fin 8) (s : State) : Host.Outcome State Fault Refusal :=
  if (getC s ch).up || !s.integ.channels.getLsbD ch then ok s
  else
    let s1 := healthChange (hevt (setC s ch { getC s ch with up := true }) 0xC02 (2 ^ 8 + ch.val) []) 14 ch false
    let own := regF s1 rIhbId 54 48
    let s2 := if own = 0 then s1 else chSend s1 ch 5 0 [0] (some own)
    let s3 := if s2.time.parent = some ch.val then startMeasure s2 else s2
    ok (timeUpdate (electStart s3))

/-- CHANNEL_DOWN (R368). -/
def execChannelDown (ch : Fin 8) (s : State) : Host.Outcome State Fault Refusal :=
  if (getC s ch).up then
    ok (timeUpdate (electStart (healthChange (hevt (setC s ch { getC s ch with up := false, peer := 0 }) 0xC02 ch.val []) 14 ch true)))
  else ok s

/-- MESSAGE_DISCARD (R322): counted in IHB_CHn.BAD. -/
def execMessageDiscard (ch : Fin 8) (s : State) : Host.Outcome State Fault Refusal :=
  ok (countF s (rIhbCh + 8 * ch.val) 15 0 1)

/-! ### Hub numbers and routes (R324) -/

/-- NAME of a hub sent on the channels that are up, but for the one it came from. -/
def nameSend (s : State) (hub hops : Nat) (not_ : Option Nat) : State :=
  forAll ((upChans s).filter fun n => not_ != some n) (fun s n => chSend s n 5 0 [word hops] (some hub)) s

/-- NAME (R324): the fewest hops make the route, ties to the lower channel; the first NAME of a number and any with fewer hops go
on. This hub's own number from another hub is a conflict. -/
def execName (ch : Fin 8) (lseq : BitVec 16) (hub : BitVec 7) (hops : BitVec 16) (s0 : State) : Host.Outcome State Fault Refusal :=
  let s := seqIn s0 ch lseq
  let n := hub.toNat
  let own := regF s rIhbId 54 48
  if n = 0 ∨ (getC s ch).up = false then ok s
  else if n = own then
    let s1 := hevt (countF s rIhbStat 15 0 1) 0xC03 n []
    ok { s1 with blockedNums := if s1.blockedNums.contains n then s1.blockedNums else s1.blockedNums ++ [n] }
  else
    let h := hops.toNat + 1
    let s1 := if hops = 0 then setC s ch { getC s ch with peer := hub } else s
    let set_ (s : State) : State := { s with routes := tput none s.routes n (some ⟨ch.val, h⟩) }
    match tget none s.routes n with
    | none => ok (nameSend (set_ s1) n h (some ch.val))
    | some r =>
      if h < r.hops then ok (nameSend (set_ s1) n h (some ch.val))
      else if h = r.hops ∧ ch.val < r.ch then ok (set_ s1)
      else ok s1

/-- IHB_ID_WRITE (R324, R340): PRIO and HUB; a numbered hub sends NAME on every channel that is up. -/
def execIhbIdWrite (who : Who) (v : Word) (s : State) : Host.Outcome State Fault Refusal :=
  if isRoot s who 3 then
    let s1 := setReg s rIhbId ((layAt rIhbId).elim (reg s rIhbId) fun l => l.write (reg s rIhbId) v)
    let own := bits v 54 48
    ok (if own = 0 then s1 else nameSend s1 own 0 none)
  else ok s

/-! ### Messages (R285, R286) -/

/-- The route to a hub number, unless its number is in conflict. -/
def routeTo (s : State) (n : Nat) : Option Nat :=
  if s.blockedNums.contains n then none else (tget none s.routes n).map Route.ch

/-- MSG (R285): at its destination into the channel's queue of 16 messages, line 11 raised and an ACK returned; elsewhere
forwarded. -/
def execMsg (ch : Fin 8) (lseq : BitVec 16) (src dst : BitVec 7) (mtag : BitVec 32) (sch : Fin 8) (units : List Word) (s0 : State) :
    Host.Outcome State Fault Refusal :=
  let s := seqIn s0 ch lseq
  let own := regF s rIhbId 54 48
  let x := getC s ch
  if x.up = false ∨ units = [] ∨ 64 < units.length then ok s
  else if dst.toNat = own ∧ own ≠ 0 then
    let full := decide (16 ≤ x.rxq.length)
    let s1 := if full then s else raiseLine (setC s ch { x with rxq := x.rxq ++ [⟨src, sch, units⟩] }) 11
    ok (chSend s1 ((routeTo s src.toNat).getD ch) 1 src.toNat [word (mtag.toNat * 2 ^ 32 + b2n full)])
  else match routeTo s dst.toNat with
    | none => ok s
    | some r => ok (chSend s r 0 dst.toNat (word (mtag.toNat * 2 ^ 32 + sch.val) :: units) (some src.toNat))

/-- ACK (R285): the SEND completes OK, or LOCKED where the queue was full; elsewhere forwarded. -/
def execAck (ch : Fin 8) (lseq : BitVec 16) (src dst : BitVec 7) (mtag : BitVec 32) (full : Bool) (s0 : State) :
    Host.Outcome State Fault Refusal :=
  let s := seqIn s0 ch lseq
  let own := regF s rIhbId 54 48
  if (getC s ch).up = false then ok s
  else if dst.toNat = own ∧ own ≠ 0 then
    let hit (x : Chan) : Option SendReq := x.sends.find? fun q => q.mtag == mtag
    match (List.range 8).findSome? fun n => (hit (getC s n)).map fun q => (n, q) with
    | none => ok s
    | some (n, q) =>
      ok (post (setC s n { getC s n with sends := (getC s n).sends.erase q }) q.opId (if full then .locked else .ok) 0)
  else match routeTo s dst.toNat with
    | none => ok s
    | some r => ok (chSend s r 1 dst.toNat [word (mtag.toNat * 2 ^ 32 + b2n full)] (some src.toNat))

end Sys2Proof.Machine
end

