-- ==== Sys2Proof/Machine/Words.lean ====
section
/-! DEFINITION. Lopra instruction words (R254, R255, Tables 9.7 to 9.11): the decoder that load check 4 runs (R257). -/

namespace Sys2Proof.Machine

/-- A 5-bit field as a register. -/
def gField (n : Nat) : Fin 32 := Fin.ofNat 32 n

/-- A field that names a set register: its high bit must be 0 (R254). -/
def sField (n : Nat) : Option (Fin 16) := if n < 16 then some (Fin.ofNat 16 n) else none

/-- Table 9.9. -/
def aluFns : List AluFn :=
  [.add, .sub, .and, .or, .xor, .sll, .srl, .sra, .slt, .sltu, .mul, .mulhu, .min, .max, .minu, .maxu, .popc, .clz, .ctz]

/-- RED as in Table 2.3. -/
def redOf (n : Nat) : Red :=
  match n with
  | 1 => .or
  | 2 => .and
  | 3 => .min
  | 4 => .max
  | 5 => .sum
  | 6 => .count
  | 7 => .collect
  | _ => .none

/-- An instruction, where the fields it does not use are 0 (R255). -/
def when0 (zeros : List Nat) (i : Instr) : Option Instr := if zeros.all (· == 0) then some i else none

/-- The SYS sub-operations (Table 9.10). -/
def sysWord (w : Fin 8) (d a b sub aux : Nat) : Option Instr :=
  let t := Fin.ofNat 4 aux
  match sub with
  | 0 => when0 [d, a, b, aux] (.nop w)
  | 1 => when0 [d, b, aux] (.jr w (gField a))
  | 2 => when0 [b, aux] (.jalr w (gField d) (gField a))
  | 3 => when0 [a, b, aux] (.rdtime w (gField d))
  | 4 => when0 [d, b, aux / 4] (.tset w t (gField a))
  | 5 => when0 [d, a, b, aux / 4] (.tclr w t)
  | 6 => when0 [d, b, aux] (.setdl w (gField a))
  | 7 => when0 [a, b, aux] (.rddl w (gField d))
  | 8 => when0 [b, aux] (.tkst w (gField d) (gField a))
  | 9 => when0 [d, b, aux] (.tkfree w (gField a))
  | 10 => when0 [a, b, aux] (.tkpend w (gField d))
  | 11 => when0 [a, b, aux] (.whoami w (gField d))
  | 12 => when0 [d, a, b, aux] (.stopw w)
  | 13 => when0 [a, b, aux] (.fenceAg w (gField d))
  | 14 => when0 [a, b, aux] (.fenceAll w (gField d))
  | 15 => when0 [a, b, aux / 4] (.trd w (gField d) t)
  | _ => none

/-- The SET functions (Table 9.11). -/
def setWord (w : Fin 8) (sd sa ga gb fn : Nat) : Option Instr :=
  let D := Fin.ofNat 16 sd
  let A := Fin.ofNat 16 sa
  match fn with
  | 0 => when0 [sa] (.smk w D (gField ga) (gField gb))
  | 1 => when0 [sa, gb] (.sld w D (gField ga))
  | 2 => when0 [sd, gb] (.sst w A (gField ga))
  | 3 => when0 [ga, gb] (.smv w D A)
  | 4 => when0 [ga] (.seng w D A (gField gb))
  | 5 => when0 [sd] (.srd w A (gField ga) (gField gb))
  | _ => none

/-- The EVT functions (Table 9.8, op 0x1A). -/
def evtWord (w : Fin 8) (d a b tm fn low : Nat) : Option Instr :=
  let TM := BitVec.ofNat 4 tm
  match fn with
  | 0 => when0 [low] (.wait w (gField d) (gField a) (gField b) TM)
  | 1 => when0 [low] (.poll w (gField d) (gField a) (gField b) TM)
  | 2 => when0 [low, d, a, tm] (.evset w (gField b))
  | 3 => when0 [low, d, a, tm] (.evclr w (gField b))
  | 4 => when0 [low, a, b, tm] (.evrd w (gField d))
  | _ => none

/-- The asynchronous instructions and the leases (Table 9.8, ops 0x20 to 0x2F). -/
def asyncWord (w : Fin 8) (op d a b fn : Nat) : Option Instr :=
  let D := gField d
  let A := gField a
  let B := gField b
  let reg := BitVec.ofNat 8 (fn / 8)
  let j := Fin.ofNat 2 fn
  match op with
  | 0x20 => (sField a).bind fun S =>
      if fn / 4 % 2 = 0 then when0 [fn / 2 % 2, fn % 2] (.agw w D S B reg)
      else when0 [fn / 8, fn % 2] (.agrLm w D S B (fn / 2 % 2 == 1))
  | 0x21 => (sField a).map fun S => .agr w D S B reg (redOf (fn % 8))
  | 0x22 => if fn / 1024 = 0 then when0 [b, fn / 4 % 256] (.halt w D A)
      else when0 [fn / 4 % 256] (.haltPlanned w D A B (Fin.ofNat 4 fn))
  | 0x23 => when0 [b, fn] (.run w D A)
  | 0x24 => when0 [fn] (.step w D A B)
  | 0x25 => when0 [b, fn] (.snip w D A)
  | 0x26 => (sField a).bind fun S => when0 [b % 2, fn % 256] (.trig w D S B (Fin.ofNat 8 (fn / 256)))
  | 0x27 => (sField a).bind fun S => when0 [fn / 2] (.tap w D S B j)
  | 0x28 => (sField a).bind fun S => when0 [fn / 2] (.tapr w D S B j)
  | 0x29 => (sField a).bind fun S => when0 [b, fn / 2] (.tapc w D S j)
  | 0x2A =>
    let n := fn / 16 % 16
    if 3 < fn / 256 ∨ n = 0 ∨ n = 15 then none
    else when0 [fn % 16] (.emit w D A B (Fin.ofNat 8 (fn / 256)) (Fin.ofNat 16 n))
  | 0x2B => when0 [fn % 128] (.commit w D A B (Fin.ofNat 16 (fn / 128)))
  | 0x2C => when0 [fn] (.lease w D A B)
  | 0x2D => when0 [b, fn] (.release w D A)
  | 0x2E => when0 [fn / 64] (.send w D A B (Fin.ofNat 64 fn))
  | 0x2F => when0 [fn / 64] (.recv w D A B (Fin.ofNat 64 fn))
  | _ => none

/-- The instruction of Whorl w that a word encodes; none for a reserved encoding (R254, R255). -/
def lopra (w : Fin 8) (x : BitVec 32) : Option Instr :=
  let v := x.toNat
  let op := v / 2 ^ 26
  let d := v / 2 ^ 21 % 32
  let a := v / 2 ^ 16 % 32
  let b := v / 2 ^ 11 % 32
  let fn := v % 2 ^ 11
  let imm := BitVec.ofNat 16 v
  let D := gField d
  let A := gField a
  match op with
  | 0x00 => (aluFns[fn]?).bind fun f => when0 [if 16 ≤ fn then b else 0] (.alu w f D A (gField b))
  | 0x01 => some (.addi w D A imm)
  | 0x02 => some (.andi w D A imm)
  | 0x03 => some (.ori w D A imm)
  | 0x04 => some (.xori w D A imm)
  | 0x05 => some (.slti w D A imm)
  | 0x06 => some (.sltiu w D A imm)
  | 0x07 => when0 [a / 4] (.insh w D (Fin.ofNat 4 a) imm)
  | 0x08 => some (.ld8 w D A imm)
  | 0x09 => some (.ld4 w D A imm)
  | 0x0A => some (.ld2 w D A imm)
  | 0x0B => some (.ld1 w D A imm)
  | 0x0C => some (.st8 w D A imm)
  | 0x0D => some (.st4 w D A imm)
  | 0x0E => some (.st2 w D A imm)
  | 0x0F => some (.st1 w D A imm)
  | 0x10 => some (.beq w D A imm)
  | 0x11 => some (.bne w D A imm)
  | 0x12 => some (.blt w D A imm)
  | 0x13 => some (.bge w D A imm)
  | 0x14 => some (.bltu w D A imm)
  | 0x15 => some (.bgeu w D A imm)
  | 0x16 => some (.j w (BitVec.ofNat 26 v))
  | 0x17 => some (.jal w (BitVec.ofNat 26 v))
  | 0x18 => sysWord w d a b (fn / 64) (fn % 64)
  | 0x19 => setWord w (v / 2 ^ 22 % 16) (v / 2 ^ 18 % 16) (v / 2 ^ 13 % 32) (v / 2 ^ 8 % 32) (v % 256)
  | 0x1A => evtWord w d a b (fn / 128) (fn / 16 % 8) (fn % 16)
  | _ => asyncWord w op d a b fn

/-- The offset in instructions of a branch or jump from the instruction after it; none for any other instruction. -/
def branchOff : Instr → Option Int
  | .beq _ _ _ o | .bne _ _ _ o | .blt _ _ _ o | .bge _ _ _ o | .bltu _ _ _ o | .bgeu _ _ _ o => some o.toInt
  | .j _ o | .jal _ o => some o.toInt
  | _ => none

/-- Whether an instruction is a WAIT or POLL that names nothing (R257, check 4). -/
def waitsNothing : Instr → Bool
  | .wait _ _ a b t | .poll _ _ a b t => decide (a = 0) && decide (b = 0) && decide (t = 0)
  | _ => false

/-- Load check 4 (R257) of the word at instruction index i of a program of n instructions. -/
def wordLoads (n i : Nat) (x : BitVec 32) : Bool :=
  match lopra 0 x with
  | none => false
  | some c => !waitsNothing c && (branchOff c).all fun o =>
      let t : Int := (i : Int) + 1 + o
      decide (0 ≤ t) && decide (t < n)

end Sys2Proof.Machine
end

