-- ==== Sys2Proof/Machine/Whorl.lean ====
section
/-! DEFINITION. Whorls from outside: leases (R280 to R284), reset, stop, start and faults (R260, R261), loads (R256 to R259), local
store and debug reads (R263), timers (R247). -/

namespace Sys2Proof.Machine

/-! ### Lease requests (Table 9.13) -/

/-- RES of a lease request word. -/
def leaseRes (v : Word) : Nat := bits v 63 60
/-- UNIT of a lease request word. -/
def leaseUnit (v : Word) : Nat := bits v 59 52
/-- SCOPE of a lease request word. -/
def leaseScope (v : Word) : Nat := bits v 31 0

/-- Whether a request word follows Table 9.13 and names a unit that is fitted and in service (R280, NOAGENT otherwise). -/
def leaseForm (s : State) (v : Word) : Bool :=
  let u := leaseUnit v
  let c := leaseScope v
  bits v 51 32 == 0 &&
  match leaseRes v with
  | 0 => decide (u < 8) && decide (u < s.integ.cmpN) && decide (c < 64)
  | 1 => decide (u < 2) && decide (c < 4096) && coreIn s c && !(getS s (siteOf s c)).failed
  | 2 => decide (1 ≤ c) && decide (u + c ≤ 16) && (List.range c).all fun k => (getL s (u + k)).inSvc
  | 3 => u == 0 && decide (1 ≤ c / 2 ^ 16) && decide (c % 2 ^ 16 + c / 2 ^ 16 ≤ bufBlocks s)
  | 4 => decide (u < 64) && c == 0
  | 5 | 6 => u == 0 && c == 0
  | 7 => decide (u < 8) && c == 0 && s.integ.channels.getLsbD u && (getC s u).up
  | _ => false

/-- The Needs column of Table 10.7. -/
def leaseRights (s : State) (who : Who) (v : Word) : Bool :=
  match leaseRes v with
  | 0 => mayPart s who 3 (leaseScope v)
  | 1 => maySite s who 3 (siteOf s (leaseScope v))
  | _ => isRoot s who 3

/-- Whether two stretches overlap. -/
def overlap (a n b m : Nat) : Bool := decide (a < b + m) && decide (b < a + n)

/-- Whether two requests name a common resource. -/
def leaseClash (a b : Word) : Bool :=
  leaseRes a == leaseRes b &&
  match leaseRes a with
  | 0 | 1 => leaseUnit a == leaseUnit b && leaseScope a == leaseScope b
  | 2 => overlap (leaseUnit a) (leaseScope a) (leaseUnit b) (leaseScope b)
  | 3 => overlap (leaseScope a % 2 ^ 16) (leaseScope a / 2 ^ 16) (leaseScope b % 2 ^ 16) (leaseScope b / 2 ^ 16)
  | 4 | 7 => leaseUnit a == leaseUnit b
  | _ => true

/-- Lease h of a Whorl. -/
def getLease (x : Whorl) (h : Nat) : Option Lease := tget none x.leases h

/-- The handle under which a session holds exactly a request. -/
def heldExact (x : Whorl) (v : Word) : Option Nat := (List.range 64).find? fun h => (getLease x h).any fun l => l.req == v

/-- The handle under which a session holds a resource. -/
def heldBy (x : Whorl) (v : Word) : Option Nat := (List.range 64).find? fun h => (getLease x h).any fun l => leaseClash l.req v

/-- Whether any session holds a resource. -/
def heldAny (s : State) (v : Word) : Bool := (List.range 8).any fun w => (heldBy (getW s w) v).isSome

/-- A lease set or ended. -/
def setLease (s : State) (w h : Nat) (l : Option Lease) : State :=
  let x := getW s w
  setW s w { x with leases := tput none x.leases h l }

/-- The expiry of a span given now (R280). -/
def leaseExpiry (s : State) (span : Word) : Option Nat := if span = 0 then none else some (s.ht + min span.toNat (2 ^ 40))

/-- LEASE (R280): status, handle and expiry. -/
def leaseTry (s : State) (w : Nat) (v span : Word) : Status × Nat × State :=
  let x := getW s w
  if !leaseForm s v then (.noagent, 0, s)
  else if !leaseRights s (.whorl w) v then (.rights, 0, s)
  else match heldExact x v with
    | some h => (.ok, h, setLease s w h (some ⟨v, leaseExpiry s span⟩))
    | none =>
      if heldAny s v then (.locked, 0, s)
      else match (List.range 64).find? fun h => (getLease x h).isNone with
        | none => (.locked, 0, s)
        | some h => (.ok, h, setLease s w h (some ⟨v, leaseExpiry s span⟩))

/-! ### The end of a lease (R282, R284) -/

/-- The lanes held for the D stream by leases of kind 2 (TPT_CTRL.DLANES, R365). -/
def dLanes (s : State) : List Nat :=
  (List.range 16).filter fun n => (List.range 8).any fun w => (getW s w).leases.any fun e =>
    e.2.any fun l => leaseRes l.req == 2 && overlap (leaseUnit l.req) (leaseScope l.req) n 1

/-- Whether a PENDING ticket depends on a lease: issued under it, or a RECV on its channel (R282). -/
def dependsOn (code : Nat) (req : Word) (k : Ticket) : Bool :=
  k.st == .pending && (k.lease.contains code || (k.kind == .recv && leaseRes req == 7 && k.chan == some (leaseUnit req)))

/-- Step 1 of R282. -/
def wakeOwnerGone (s : State) (code : Nat) (req : Word) : State :=
  forAll (List.range 8) (fun s v =>
    forAll ((List.range 64).filter fun t => dependsOn code req (getTk (getW s v) t)) (fun s t =>
      let id := (getTk (getW s v) t).opId
      dropRecv (setW s v (finishTk (getW s v) t .ownerGone 0 none)) id) s) s

/-- TRC_D_ROUTE returns to 0 once the D queue is empty (Table 10.7). -/
def endDRoute (s : State) : State :=
  if s.funnel.dEnd ∧ s.funnel.dq = [] then
    setRegF { s with funnel := { s.funnel with dEnd := false } } rTrcDRoute 1 0 0
  else s

/-- Step 2 of R282: the reset of Table 10.7, through the bare path where it reaches agents. -/
def leaseReset (s : State) (req : Word) : State :=
  let u := leaseUnit req
  let c := leaseScope req
  match leaseRes req with
  | 0 => forAll ((sitesOfPart s c).filter fun i => !(getS s i).failed) (fun s i => (agWrite s i 8 (aCmpCtrl + 2 * u) 0).2) s
  | 1 => (agWrite s (siteOf s c) 8 (tsIdx aTsMatch u) 0).2
  | 4 => regPut s (keyObj u rCrdDrfCtrl) rCrdDrfCtrl (setBits (regGet s (keyObj u rCrdDrfCtrl) rCrdDrfCtrl) 0 0 0)
  | 5 => endDRoute { s with funnel := { s.funnel with dEnd := true } }
  | 6 => { s with master := { s.master with waiting := s.master.waiting.filter fun q => q.client != .dump },
                  hang := { s.hang with work := { s.hang.work with out := [] } } }
  | _ => s

/-- Steps 1 and 2 of R282 and the lease's end. -/
def leaseEnd (s : State) (w h : Nat) : State :=
  match getLease (getW s w) h with
  | none => s
  | some l => leaseReset (wakeOwnerGone (setLease s w h none) (64 * w + h) l.req) l.req

/-- A lapse (R282): steps 1 to 3, with its cause: 0 expiry, 1 reset or reload, 2 OUT, 3 two-wire port. -/
def leaseLapse (s : State) (w h cause : Nat) : State :=
  match getLease (getW s w) h with
  | none => s
  | some l => hevt (raiseLine (leaseEnd s w h) 10) 0x401 (cause * 2 ^ 10 + h * 2 ^ 3 + w) [l.req]

/-- The end of a session (R281): every lease lapses; the tickets of the session are discarded with the Whorl's reset. -/
def endSession (s : State) (w cause : Nat) : State :=
  let x := getW s w
  forAll (List.range 64) (fun s h => leaseLapse s w h cause) (setW s w { x with tk := [] })

/-- LEASE_LAPSE (R282): a lease reaches its expiry. -/
def execLeaseLapse (w : Fin 8) (h : Fin 64) (s : State) : Host.Outcome State Fault Refusal :=
  match getLease (getW s w) h with
  | none => ok s
  | some l => if l.expiry.any fun e => decide (e ≤ s.ht) then ok (leaseLapse s w h 0) else ok s

/-! ### Reset, stop, start (R236, R260) -/

/-- The RECVs of a Whorl wait no longer. -/
def dropRecvs (s : State) (w : Nat) : State :=
  { s with chans := tmap Chan.fresh (fun c => { c with recvs := c.recvs.filter fun r => r.w != w }) s.chans }

/-- A dump whose Whorl is reset stays without END (R233): it has ended for R211. -/
def dumpBroken (s : State) (w : Nat) : State :=
  match s.hang.running with
  | none => s
  | some d =>
    if s.hang.whorl = some w then
      let s1 := s.hang.work.op.elim s (giveUp s)
      { s1 with hang := { s1.hang with running := none, whorl := none, ended := s1.hang.ended ||| word (2 ^ d.part), work := DumpWork.fresh } }
    else s

/-- A Whorl reset (R236): Table 9.1, FCODE, WHL_FADDR and LOADST; NOTKT and the local store keep. An OUT Whorl stays OUT (R424). -/
def whorlReset (s : State) (w cause : Nat) : State :=
  let s1 := dropRecvs (endSession (dumpBroken s w) w cause) w
  let x := getW s1 w
  setPend (setW s1 w { Whorl.fresh with st := if x.st = .out then .out else .reset, notkt := x.notkt, ls := x.ls }) w 0

/-- A RUNNING Whorl stops (R260). -/
def whorlStop (s : State) (w : Nat) : State :=
  let x := getW s w
  if x.st = .running then raiseLine (setW s w { x with st := .stopped }) 6 else s

/-- WHORL_STOP (R260, R265). -/
def execWhorlStop (who : Who) (w : Fin 8) (s : State) : Host.Outcome State Fault Refusal :=
  if mayReg s who (rWhlCtrl + 0x100 * w.val) true 4 then ok (whorlStop s w) else ok s

/-- A LOADED or STOPPED Whorl runs at pc (R260). -/
def whorlStart (s : State) (w : Nat) : State :=
  let x := getW s w
  if x.st = .loaded ∨ x.st = .stopped then setW s w { x with st := .running } else s

/-- WHORL_START (R260, R265). -/
def execWhorlStart (who : Who) (w : Fin 8) (s : State) : Host.Outcome State Fault Refusal :=
  if mayReg s who (rWhlCtrl + 0x100 * w.val) true 2 then ok (whorlStart s w) else ok s

/-! ### Faults (R261) -/

/-- FCODE. -/
def fcodeNum : FCode → Nat
  | .fetch => 1
  | .illegal => 2
  | .align => 3
  | .addr => 4
  | .rights => 5
  | .ecc => 6
  | .timeout => 7

/-- A Whorl stops with a fault: STATE, FCODE, WHL_FADDR, line 6 and HEVT WHORL_FAULT. -/
def whorlFault (s : State) (w : Nat) (code : FCode) (addr : Word) : State :=
  let x := getW s w
  let s1 := raiseLine (setW s w { x with st := .fault, fcode := fcodeNum code, faddr := addr }) 6
  hevt s1 0x400 (fcodeNum code * 2 ^ 8 + w) [word (x.pc.toNat * 2 ^ 32 + bits addr 31 0)]

/-- WHORL_FAULT (R261): a RUNNING Whorl faults. -/
def execWhorlFault (w : Fin 8) (code : FCode) (addr : Word) (s : State) : Host.Outcome State Fault Refusal :=
  if (getW s w).st = .running then ok (whorlFault s w code addr) else ok s

/-! ### Loads (R256 to R259) -/

/-- A load begins: the Whorl is reset, and LOADING until LOAD_END. LOAD of a RUNNING Whorl is refused BUSY. -/
def whorlLoad (s : State) (who : Who) (w : Nat) : State :=
  let x := getW s w
  match x.st with
  | .out => s
  | .running => setW s w { x with loadst := 7 }
  | _ =>
    let s1 := whorlReset s w 1
    setW s1 w { getW s1 w with st := .loading, loading := some ⟨who, reg s1 (rWhlLoad + 0x100 * w)⟩ }

/-- WHORL_LOAD (R257, R265). -/
def execWhorlLoad (who : Who) (w : Fin 8) (s : State) : Host.Outcome State Fault Refusal :=
  if mayReg s who (rWhlCtrl + 0x100 * w.val) true 1 then ok (whorlLoad s who w) else ok s

/-- The class that WHL_OWNER names. -/
def ownerClass (s : State) (w : Nat) : Who :=
  let o := reg s (rWhlOwner + 0x100 * w)
  if bit o 8 then .tenant (bits o 7 0) else .root

/-- Whether a loader is entitled to load a Whorl (R265). -/
def entitled (s : State) (who : Who) (w : Nat) : Bool :=
  isRoot s who 3 || rightsOf s who == ownerClass s w

/-- The header of an image (Table 9.12), unit by unit. -/
structure Image where
  u0 : Word
  u1 : Word
  u2 : Word
  off : Nat
  deriving DecidableEq, Repr

/-- CODE of an image. -/
def imgCode (i : Image) : Nat := bits i.u1 63 48
/-- DATA of an image. -/
def imgData (i : Image) : Nat := bits i.u1 47 32
/-- ZERO of an image. -/
def imgZero (i : Image) : Nat := bits i.u1 31 16
/-- ENTRY of an image. -/
def imgEntry (i : Image) : Nat := bits i.u1 15 0
/-- NSET of an image. -/
def imgSets (i : Image) : Nat := bits i.u2 63 48
/-- NLEASE of an image. -/
def imgLeases (i : Image) : Nat := bits i.u2 47 32
/-- Units of code. -/
def imgCodeUnits (i : Image) : Nat := (imgCode i + 1) / 2
/-- Units after unit 2. -/
def imgRest (i : Image) : Nat := 2 * imgSets i + 2 * imgLeases i + imgCodeUnits i + imgData i

/-- The image at a hub-memory offset. -/
def imageAt (s : State) (off : Nat) : Image :=
  ⟨word (readLe s.hubMem off 8), word (readLe s.hubMem (off + 8) 8), word (readLe s.hubMem (off + 16) 8), off⟩

/-- Units of an image from a place after unit 2. -/
def imgUnits (s : State) (i : Image) (from_ n : Nat) : List Word := readUnits s.hubMem (i.off + 24 + 8 * from_) n

/-- Check 2. -/
def imgGood (s : State) (i : Image) : Bool :=
  decide (i.off + 24 + 8 * imgRest i ≤ 0x800000) && bits i.u0 63 32 == 0x4C505241 && bits i.u0 31 16 == 1 && bits i.u0 15 0 == 3 &&
    crc32 (imgUnits s i 0 (imgRest i)) == bits i.u2 31 0

/-- Check 3. -/
def imgFits (i : Image) : Bool :=
  decide (8 * (imgCodeUnits i + imgData i + imgZero i) ≤ 65536) && decide (imgEntry i < imgCode i)

/-- The code units of an image. -/
def imgCodeWords (s : State) (i : Image) : List Word := imgUnits s i (2 * imgSets i + 2 * imgLeases i) (imgCodeUnits i)

/-- Instruction word k of a list of code units. -/
def codeWord (us : List Word) (k : Nat) : BitVec 32 :=
  BitVec.ofNat 32 ((us.getD (k / 2) 0).toNat / 2 ^ (32 * (k % 2)))

/-- Pairs of units. -/
def pairUp : List Word → List (Word × Word)
  | a :: b :: t => (a, b) :: pairUp t
  | _ => []

/-- The set descriptors of an image. -/
def imgSetList (s : State) (i : Image) : List (BitVec 128) :=
  (pairUp (imgUnits s i 0 (2 * imgSets i))).map fun e => e.1 ++ e.2

/-- The lease requests of an image. -/
def imgLeaseList (s : State) (i : Image) : List (Word × Word) := pairUp (imgUnits s i (2 * imgSets i) (2 * imgLeases i))

/-- The first index of a list whose item fails a test. -/
def firstBad {α : Type} (p : Nat → α → Bool) : Nat → List α → Option Nat
  | _, [] => none
  | k, x :: t => if p k x then firstBad p (k + 1) t else some k

/-- The lease requests of a load granted in order: the index of the first that is refused, if any. -/
def grantAll (w : Nat) : Nat → List (Word × Word) → State → Option Nat × State
  | _, [], s => (none, s)
  | k, (v, span) :: t, s =>
    match leaseTry s w v span with
    | (.ok, _, s1) => grantAll w (k + 1) t s1
    | _ => (some k, s)

/-- Table 9.14 and the index of the offending item: what refuses an image before its leases. -/
def imageRefusal (s : State) (who : Who) (i : Image) : Option (Nat × Nat) :=
  let code := imgCodeWords s i
  let n := imgCode i
  if !imgGood s i then some (2, 0)
  else if !imgFits i then some (3, 0)
  else match firstBad (fun k _ => wordLoads n k (codeWord code k)) 0 (List.range n) with
    | some k => some (4, k)
    | none =>
      let sets := imgSetList s i
      if 16 < imgSets i then some (5, 16)
      else match firstBad (fun _ d => setForm s d && setRights s who 3 d) 0 sets with
        | some k => some (5, k)
        | none => if 64 < imgLeases i then some (6, 64) else none

/-- A refused load (R257): the Whorl is left in RESET with LOADST and WHL_FADDR. -/
def loadRefuse (s : State) (w code index : Nat) : State :=
  let x := getW s w
  raiseLine (setW s w { Whorl.fresh with notkt := x.notkt, ls := x.ls, loadst := code, faddr := word index }) 6

/-- A load that passes: LOADED, or with AUTO running at once (R258). -/
def loadPass (s : State) (w : Nat) (auto : Bool) : State :=
  let x := getW s w
  raiseLine (setW s w { x with st := if auto then .running else .loaded, loadst := 0, loading := none }) 6

/-- The program of a load put into the Whorl: rights of WHL_OWNER, ROM programs ROOT (R262). -/
def loadProgram (s : State) (w : Nat) (q : LoadReq) (rom : Option Nat) (codeBytes : Nat) (pc : Nat) (sets : List (BitVec 128)) : State :=
  let x := getW s w
  let sr := ((List.range sets.length).zip sets).foldl (fun t e => tput 0 t e.1 e.2) []
  setW s w { x with st := .loading, rights := if rom.isSome then .root else ownerClass s w,
                    owner := BitVec.ofNat 9 (bits (reg s (rWhlOwner + 0x100 * w)) 8 0), session := true, byTwp := q.who == .twp,
                    rom := rom, codeBytes := codeBytes, pc := BitVec.ofNat 32 pc, sr := sr }

/-- The end of a load of an image (R257). -/
def loadImage (s : State) (w : Nat) (q : LoadReq) : State :=
  let i := imageAt s (8 * bits q.word 22 3)
  match imageRefusal s q.who i with
  | some (code, k) => loadRefuse s w code k
  | none =>
    let s1 := loadProgram s w q none (4 * imgCode i) (0x1000000 + 4 * imgEntry i) (imgSetList s i)
    match grantAll w 0 (imgLeaseList s i) s1 with
    | (some k, s2) => loadRefuse (forAll (List.range 64) (fun s h => leaseEnd s w h) s2) w 6 k
    | (none, s2) =>
      let x := getW s2 w
      let body := imgUnits s i (2 * imgSets i + 2 * imgLeases i) (imgCodeUnits i + imgData i) ++ List.replicate (imgZero i) (0 : Word)
      loadPass (setW s2 w { x with ls := writeUnits x.ls 0 body }) w (bit q.word 62)

/-- The end of a load of a ROM program (R259): it skips checks 2 to 4 and starts with a zero-filled local store. -/
def loadRom (s : State) (w : Nat) (q : LoadReq) : State :=
  let k := bits q.word 55 48
  if 3 < k then loadRefuse s w 2 0
  else
    let s1 := loadProgram s w q (some k) 0 (0x2000000 + 4 * (Config.romEntry k % 2 ^ 17)) []
    loadPass (setW s1 w { getW s1 w with ls := [] }) w (bit q.word 62)

/-- LOAD_END's effect (R257, R258). -/
def loadEnd (s : State) (w : Nat) : State :=
  match (getW s w).loading with
  | none => s
  | some q =>
    if (getW s w).st ≠ .loading then s
    else if !entitled s q.who w then loadRefuse s w 1 0
    else if bit q.word 63 then loadRom s w q else loadImage s w q

/-- A ROM program loaded with AUTO by the hub itself, which is ROOT (R403, R213). -/
def loadRomAuto (s : State) (w idx : Nat) : State :=
  let s1 := whorlReset s w 1
  loadRom s1 w ⟨.root, word (2 ^ 63 + 2 ^ 62 + idx * 2 ^ 48)⟩

/-- The hub loads the ROM dump program on the Whorl that HNG_CTRL names, when that Whorl is in RESET and AUTO is 1 (R213). -/
def hangLoad (s : State) : State :=
  let w := regF s rHngCtrl 10 8
  if bit (reg s rHngCtrl) 0 && (getW s w).st == .reset then loadRomAuto s w 1 else s

/-- A write of HNG_CTRL (R213, R431): AUTO written to 1, or WHORL written while AUTO is 1, loads the dump program. -/
def hngWrite (s : State) (v : Word) : State :=
  hangLoad (setReg s rHngCtrl ((layAt rHngCtrl).elim 0 fun l => l.write (reg s rHngCtrl) v))

/-- HNG_CTRL_WRITE (R213, R235). -/
def execHngCtrlWrite (who : Who) (v : Word) (s : State) : Host.Outcome State Fault Refusal :=
  if mayReg s who rHngCtrl true v then ok (hngWrite s v) else ok s

/-- A Whorl reset from outside (R260): the dump program is loaded again on the Whorl named for it (R213). -/
def resetFrom (s : State) (w : Nat) : State := hangLoad (whorlReset s w 1)

/-- WHORL_RESET (R260, R265). -/
def execWhorlReset (who : Who) (w : Fin 8) (s : State) : Host.Outcome State Fault Refusal :=
  if mayReg s who (rWhlCtrl + 0x100 * w.val) true 8 then ok (resetFrom s w) else ok s

/-- LOAD_END (R257, R258): a refused load leaves the Whorl in RESET (R213). -/
def execLoadEnd (w : Fin 8) (s : State) : Host.Outcome State Fault Refusal := ok (hangLoad (loadEnd s w))

/-! ### Local store and registers from outside (R263) -/

/-- Whether the hub reads and writes a Whorl's local store and registers. -/
def whorlOpen (x : Whorl) : Bool := x.st == .reset || x.st == .loaded || x.st == .stopped || x.st == .fault

/-- An access to WHL_LS_DATA: the unit at the requester's own WHL_LS_ADDR, which advances by one unit, wrapping at 65,536 bytes. -/
def lsAccess (s : State) (who : Who) (w : Nat) (wr : Bool) (v : Word) : Word × State :=
  let o := rWhlLsAddr + 0x100 * w
  let k := keyWho who o
  let a := bits (regGet s k o) 15 3 * 8
  let s1 := regPut s k o (word ((a + 8) % 65536))
  let x := getW s1 w
  if !whorlOpen x then (0, s1)
  else if wr then (0, setW s1 w { x with ls := writeUnits x.ls a [v] })
  else (word (readLe x.ls a 8), s1)

/-- WHL_LS_DATA_ACCESS (R263, R265). -/
def execWhlLsDataAccess (who : Who) (w : Fin 8) (wr : Bool) (v : Word) (s : State) : Host.Outcome State Fault Refusal :=
  if mayReg s who (rWhlLsData + 0x100 * w.val) wr v then ok (lsAccess s who w wr v).2 else ok s

/-- Timer t of a Whorl. -/
def getTimer (x : Whorl) (t : Nat) : Timer := tget Timer.fresh x.timers t
/-- Timer t of a Whorl replaced. -/
def setTimer (x : Whorl) (t : Nat) (y : Timer) : Whorl := { x with timers := tput Timer.fresh x.timers t y }

/-- The register that WHL_DBG_SEL selects. -/
def dbgReg (s : State) (w sel : Nat) : Word :=
  let x := getW s w
  if sel < 32 then gReg x sel
  else if sel < 64 then
    let d := tget 0 x.sr ((sel - 32) / 2)
    if sel % 2 = 0 then (d >>> 64).setWidth 64 else d.setWidth 64
  else if sel = 64 then word x.dl
  else if sel < 69 then (getTimer x (sel - 65)).armed.getD (BitVec.allOnes 64)
  else if sel = 69 then tget 0 s.evPend w
  else 0

/-- WHL_DBG_DATA for a requester (R263). -/
def dbgRead (s : State) (who : Who) (w : Nat) : Word :=
  let o := rWhlDbgSel + 0x100 * w
  if whorlOpen (getW s w) then dbgReg s w (bits (regGet s (keyWho who o) o) 6 0) else 0

/-- TIMER_EXPIRE (R247): hub time has reached an armed timer. -/
def execTimerExpire (w : Fin 8) (t : Fin 4) (s : State) : Host.Outcome State Fault Refusal :=
  let x := getW s w
  let y := getTimer x t
  if y.armed.any fun a => decide (a.toNat ≤ s.ht) then ok (setW s w (setTimer x t { y with expired := true })) else ok s

end Sys2Proof.Machine
end

