-- ==== Sys2Proof/Machine/Unlock.lean ====
section
/-! DEFINITION. Unlocking the two-wire port (R385, R387, R416 to R419). -/

namespace Sys2Proof.Machine

/-- The sessions loaded from the two-wire port end, and their Whorls are reset (R281). -/
def endTwpSessions (s : State) : State :=
  forAll ((List.range 8).filter fun w => (getW s w).session && (getW s w).byTwp) (fun s w => whorlReset s w 3) s

/-- LEVEL changed; a level below 3 ends the port's sessions (R419). -/
def setLevel (s : State) (l : Nat) : State :=
  let s1 := setRegF s rRgtUnlock 1 0 l
  if l < 3 then endTwpSessions s1 else s1

/-- Whether a nonce is outstanding (NONCE_V). -/
def nonceValid (s : State) : Bool := bit (reg s rRgtUnlock) 6

/-- RGT_CHAL_NEW (R417): a fresh nonce in place of any earlier one; a failed entropy source draws nothing (Table 16.1, kind 16). -/
def execRgtChalNew (who : Who) (healthy : Bool) (s : State) : Host.Outcome State Fault Refusal :=
  if !mayReg s who rRgtChal true 1 then ok s
  else if healthy then
    ok (setRegF { s with unlock := { s.unlock with nonce := Config.nonce s.freeCtr, nonceAt := s.ht }, freeCtr := s.freeCtr + 1 }
      rRgtUnlock 6 6 1)
  else ok (healthChange (setRegF { s with unlock := { s.unlock with nonce := 0 } } rRgtUnlock 6 6 0) 16 0 true)

/-- A refused response: FAILS rises; one that counts brings the lockout nearer, each lockout before an acceptance twice as long
(R418). -/
def refuseResponse (s : State) (counts : Bool) : State :=
  let s1 := countF s rRgtUnlock 63 48 1
  let u := s1.unlock
  if !counts then s1
  else if u.refusals + 1 < 8 then { s1 with unlock := { u with refusals := u.refusals + 1 } }
  else { s1 with unlock := { u with refusals := 0, lockEnd := some (s1.ht + 2 ^ (38 + min 4 u.lockNo)), lockNo := u.lockNo + 1 } }

/-- RGT_RESP_SUBMIT (R418): the cases of Table 15.8 that need no check, or the check begins. -/
def execRgtRespSubmit (who : Who) (v : Word) (s : State) : Host.Outcome State Fault Refusal :=
  let u := s.unlock
  if !mayReg s who rRgtRespHi true v then ok s
  else if u.check.isSome || u.lockEnd.isSome || !nonceValid s then ok (refuseResponse s false)
  else ok { s with unlock := { u with check := some (v ++ u.respLo, u.nonce) } }

/-- Whether a response passes (Table 15.8): REQ in range, the key fuses programmed, and the MAC. -/
def responsePasses (s : State) (resp nonce : BitVec 128) : Bool :=
  let req := regF s rRgtUnlock 3 2
  decide (req ≠ 0) && decide (req ≤ regF s rRgtPolicy 1 0) &&
    s.integ.devKey.any fun k => unlockMac k nonce s.integ.devid req == resp

/-- RESPONSE_CHECK (R418): the check clears NONCE_V whatever its outcome. -/
def execResponseCheck (s : State) : Host.Outcome State Fault Refusal :=
  match s.unlock.check with
  | none => ok s
  | some (resp, nonce) =>
    let s1 := setRegF { s with unlock := { s.unlock with check := none, nonce := 0 } } rRgtUnlock 6 6 0
    if responsePasses s resp nonce then
      ok (setLevel { s1 with unlock := { s1.unlock with refusals := 0, lockNo := 0 } } (regF s rRgtUnlock 3 2))
    else ok (refuseResponse s1 true)

/-- NONCE_LAPSE (R417): 2 ^ 36 ht after it was drawn. -/
def execNonceLapse (s : State) : Host.Outcome State Fault Refusal :=
  if nonceValid s ∧ s.unlock.nonceAt + 2 ^ 36 ≤ s.ht then
    ok (setRegF { s with unlock := { s.unlock with nonce := 0 } } rRgtUnlock 6 6 0)
  else ok s

/-- LOCKOUT_END (R418). -/
def execLockoutEnd (s : State) : Host.Outcome State Fault Refusal :=
  if s.unlock.lockEnd.any fun t => decide (t ≤ s.ht) then ok { s with unlock := { s.unlock with lockEnd := none } } else ok s

/-- RGT_UNLOCK_WRITE (R419): REQ is stored, and one below LEVEL lowers it at once; LEVEL falls to 0 only at a reset, so a REQ of 0
leaves it. -/
def execRgtUnlockWrite (who : Who) (v : Word) (s : State) : Host.Outcome State Fault Refusal :=
  if !mayReg s who rRgtUnlock true v then ok s
  else
    let req := bits v 3 2
    let s1 := setRegF s rRgtUnlock 3 2 req
    if 0 < req ∧ req < unlockLevel s then ok (setLevel s1 req) else ok s1

/-- RGT_POLICY_WRITE (R387): MAXLEVEL, to which a higher LEVEL falls at once. -/
def execRgtPolicyWrite (who : Who) (v : Word) (s : State) : Host.Outcome State Fault Refusal :=
  if !mayReg s who rRgtPolicy true v then ok s
  else
    let m := bits v 1 0
    let s1 := setRegF s rRgtPolicy 1 0 m
    if m < unlockLevel s then ok (setLevel s1 m) else ok s1

end Sys2Proof.Machine
end

