-- ==== Sys2Proof/Machine/Boot.lean ====
section
/-! DEFINITION. Resets (R398 to R402), start-up (R403 to R408, R411), the first alignment (R329, R330), the mount (R314), repair
inputs (R407) and Whorls that leave service (R424). -/

namespace Sys2Proof.Machine

/-! ### Hub reset (R398 to R402) -/

/-- A site after a hub reset: its core's own levels keep, everything of the Bobbin is at reset (R66). -/
def siteKeep (x : Site) : Site :=
  { Site.fresh with inReset := x.inReset, lp := x.lp, gated := x.gated, lock := x.lock }

/-- A region after a hub reset: its clock and its supply keep. -/
def regionKeep (x : Region) : Region := { Region.fresh with edge := x.edge, powerOff := x.powerOff }

/-- The bits of a stored register that a hub reset keeps: DMP_STAT.NUM (R14), and the counts of the spine page, which only a read clears
(R61). -/
def keptMask (key : Nat) : Word :=
  if key = rDmpStat ∨ (2 ^ 33 ≤ key ∧ key % 2 ^ 16 = rSpnXingStat) then word (2 ^ 64 - 2 ^ 32)
  else if key = rSpnLate ∨ key = rSpnDup ∨ key = rSpnBadpkt ∨ key = rSpnTrcUe then BitVec.allOnes 64
  else 0

/-- The stored registers that keep some of their bits. -/
def keptRegs (t : Tab Word) : Tab Word := (t.map fun e => (e.1, e.2 &&& keptMask e.1)).filter fun e => decide (e.2 ≠ 0)

/-- A hub reset asserted (Table 15.1, R400 to R402): every frozen or held core resumes and is in no partition; what the retention
domain holds keeps (hub time, its trim and the aligned flag, the refusal count and the lockout), and so do the stored contents of
MRAM and NAND, the integration inputs, the fuses and the levels of the fabric. -/
def hubReset (s : State) : State :=
  { State.reset with
    pending := s.pending, integ := s.integ, ht := s.ht, regs := keptRegs s.regs,
    regions := tmap Region.fresh regionKeep s.regions, sites := tmap Site.fresh siteKeep s.sites,
    hank := { Hank.fresh with
      units := s.hank.units, retired := s.hank.retired, pinLow := s.hank.pinLow, pfwLast := s.hank.pfwLast, powerOn := s.hank.powerOn, poweredN := s.hank.poweredN,
      bad := s.hank.bad, durable := s.hank.durable, jHead := s.hank.jHead, jEnts := s.hank.jEnts, diHead := s.hank.diHead, l0Slot := s.hank.l0Slot },
    nands := tmap Nand.fresh (fun n => { n with
      mounted := false, out := false, opKind := 0, dqsTried := false, owes := false, buf := [], want := none, cache := none, erase := [] })
      s.nands,
    time := { TimeSt.fresh with isNew := s.time.isNew, trim := s.time.trim, refLoss := s.time.refLoss },
    unlock := { s.unlock with nonce := 0, nonceAt := 0, respLo := 0, check := none },
    boot := { s.boot with inReset := true, releasedAt := 0, whorl := none, restarts := 0, elected := false, recStop := false },
    freeCtr := s.freeCtr, opCtr := s.opCtr }

/-- HUB_RESET (R399 to R402). -/
def execHubReset (s : State) : Host.Outcome State Fault Refusal := ok (hubReset s)

/-- POWER_ON_RESET (R398, R399): the retention domain too: hub time restarts at 0, the hub is new, refusals and lockout are gone, and the
spine's counts with the supply (DESIGN CHOICE, log entry 78). -/
def execPowerOnReset (s : State) : Host.Outcome State Fault Refusal :=
  let s1 := hubReset s
  ok { s1 with ht := 0, regs := s1.regs.filter (fun e => e.1 = rDmpStat), time := TimeSt.fresh, unlock := State.reset.unlock,
               hank := { s1.hank with powerOn := true, poweredN := 0, pfwLast := 0 } }

/-! ### Start-up (R403, R404, R411) -/

/-- ID_BOOT.STAGE shown. -/
def setStage (s : State) (n : Nat) : State := setRegF s rIdBoot 15 8 n

/-- The lowest-numbered Whorl in service from a number on. -/
def nextWhorl (s : State) (from_ : Nat) : Option Nat :=
  (List.range 8).find? fun w => decide (from_ ≤ w) && decide ((getW s w).st ≠ .out)

/-- Stage 11: READY, and the boot program's Whorl reloaded with ROM program 2 (R403). -/
def stageReady (s : State) : State :=
  let s1 := setRegF (setRegF (setStage s 11) rIdBoot 2 2 0) rIdBoot 0 0 1
  s.boot.whorl.elim s1 fun w => loadRomAuto s1 w 2

/-- Stage 10 (R411): the debug boot hold. -/
def stageHold (s : State) : State :=
  if s.integ.holdEn && s.twp.everOn then setRegF (setStage s 10) rIdBoot 2 2 1 else stageReady s

/-- Stage 9's start once MRAM is mounted (R408, R330): the layout of hub memory, the election and the first alignment. -/
def stageElect (s : State) : State :=
  let s1 := setReg s rCntAoCtrl 0x80100000
  electStart { s1 with boot := { s1.boot with elected := true },
                       time := { s1.time with startedAt := if s1.time.isNew then some s1.ht else none } }

/-- Whether the boot program runs at stage 9. -/
def booting (s : State) : Bool :=
  regF s rIdBoot 15 8 == 9 && s.boot.whorl.any fun w => (getW s w).st == .running && (getW s w).rom == some 0

/-- The boot program goes on from stage 9 when what it waits for has come: the mount, then the alignment (R403). -/
def bootAdvance (s : State) : State :=
  if !booting s || s.hank.mount == 0 then s
  else
    let s1 := if s.boot.elected then s else stageElect s
    if s1.time.isNew then timeUpdate s1 else stageHold (setCareful (timeUpdate s1) false)

/-- Start-up without a boot program (R404): careful mode stays, a mill map of zero units, STAGE 0xFE, READY. -/
def bootless (s : State) : State :=
  let s1 := setRegF (setRegF s rIdMmap 63 44 0) rIdMmapGen 31 0 (regF s rIdMmapGen 31 0 + 2)
  { setRegF (setStage s1 0xFE) rIdBoot 0 0 1 with boot := { s1.boot with whorl := none } }

/-- Stages 3 to 8 on a Whorl: ROM program 0 with AUTO, the tests of R405, which every unit passes, and the mill map at hub-memory
offset 0 with CAREFUL 1; then stage 9. -/
def bootOn (s : State) (w : Nat) : State :=
  let s1 := loadRomAuto { s with boot := { s.boot with whorl := some w, elected := false } } w 0
  let s2 := publishMap (setRegF (setRegF s1 rIdMmap 63 44 1) rIdMmap 22 3 0)
  bootAdvance (setStage s2 9)

/-- The sequencer's stage 3: the next Whorl in service, if the ROM is whole (R404). -/
def bootFrom (s : State) (from_ : Nat) : State :=
  match if s.integ.romOk then nextWhorl s from_ else none with
  | none => bootless s
  | some w => bootOn s w

/-- HUB_RESET_RELEASE (R399, R403): start-up begins, hub memory and the local stores read 0 after stage 2, and the ports are up. -/
def execHubResetRelease (s : State) : Host.Outcome State Fault Refusal :=
  if s.boot.inReset then
    ok (bootFrom (irqUpdate { s with boot := { s.boot with inReset := false, releasedAt := s.ht }, hubMem := [] }) 0)
  else ok s

/-- A Whorl leaves service (R424): its session ends with cause 2, and it is OUT. -/
def whorlOut (s : State) (w : Nat) : State :=
  let s1 := whorlReset s w 2
  healthChange (setW s1 w { getW s1 w with st := .out }) 9 w true

/-- BOOT_STAGE_TIMEOUT (R404): stage 9 has not ended by its bound, 120,000,000 ht later for each restart; the next Whorl in service
takes the boot program. -/
def execBootStageTimeout (s : State) : Host.Outcome State Fault Refusal :=
  match s.boot.whorl with
  | none => ok s
  | some w =>
    if regF s rIdBoot 15 8 = 9 ∧ s.boot.releasedAt + 120000000 * (s.boot.restarts + 1) ≤ s.ht then
      ok (bootFrom (whorlOut { s with boot := { s.boot with restarts := s.boot.restarts + 1 } } w) (w + 1))
    else ok s

/-- The debug boot hold ends (R411). -/
def bootRelease (s : State) : State := if bit (reg s rIdBoot) 2 then stageReady s else s

/-- BOOT_RELEASE (R383, R411): ROOT, or the two-wire port at level 3. -/
def execBootRelease (who : Who) (v : Word) (s : State) : Host.Outcome State Fault Refusal :=
  if isRoot s who 3 ∧ bit v 1 then ok (bootRelease s) else ok s

/-- HANK_MOUNT (R314). -/
def execHankMount (s : State) : Host.Outcome State Fault Refusal := ok (bootAdvance (hankMount s))

/-- TIME_ALIGN (R329). -/
def execTimeAlign (s : State) : Host.Outcome State Fault Refusal :=
  match alignStep s with
  | none => ok s
  | some s1 => ok (bootAdvance s1)

/-- TIME_SELF_ALIGN (R330). -/
def execTimeSelfAlign (s : State) : Host.Outcome State Fault Refusal :=
  match selfAlignStep s with
  | none => ok s
  | some s1 => ok (bootAdvance s1)

/-! ### Spare sites (R407) -/

/-- REPAIR_SAMPLE (R407): a value above 63 counts as 0x7F; a change carries out the substitution, with the mill map, health and HEVT
SPARE_SUB (R148). -/
def execRepairSample (row : Fin 64) (v : BitVec 7) (s : State) : Host.Outcome State Fault Refusal :=
  let new := if v.toNat < 64 then v.toNat else 0x7F
  let old := tget 0x7F s.boot.repair row
  if new = old ∨ !bit s.integ.spareRows row ∨ s.integ.rows ≤ row then ok s
  else
    let spare := siteIdx row 64
    let s1 : State := { s with boot := { s.boot with repair := tput 0x7F s.boot.repair row new } }
    let core := 64 * row.val + (if new < 64 then new else old)
    let site := siteOf s1 core
    ok (hevt (healthChange s1 8 spare (decide (64 ≤ new))) 0x001 core [word site])

end Sys2Proof.Machine
end

