-- ==== Sys2Proof/Machine/Bch.lean ====
section
/-! DEFINITION. The BCH code of a NAND page's sectors (R304): over GF(2^14), correcting 32 bits, with 56 parity bytes. -/

namespace Sys2Proof.Machine

/-- The product of two elements of GF(2^14), polynomials in x below degree 14 modulo x^14 + x^5 + x^3 + x + 1. -/
def gfMul (a b : Nat) : Nat :=
  (List.range 14).foldr (fun k r =>
    let s := if 2 ^ 13 ≤ r then Nat.xor (2 * r) 0x402B else 2 * r
    if b.testBit k then Nat.xor s a else s) 0

/-- The n-th power of x. -/
def gfPow (n : Nat) : Nat := (gfMul 2)^[n] 1

/-- A polynomial over GF(2^14), its coefficients from degree 0, times (X + r). -/
def mulRoot (g : List Nat) (r : Nat) : List Nat := List.zipWith Nat.xor (0 :: g) (g.map (gfMul r) ++ [0])

/-- The roots of the generator polynomial: the powers of x at 1, 3, …, 63 and their conjugates, so that x^1 to x^64 are among them. -/
def bchRoots : List Nat := (List.range 32).flatMap fun k => (List.range 14).map fun j => gfPow ((2 * k + 1) * 2 ^ j % 16383)

/-- The generator polynomial, of degree 448: bit i is the coefficient of degree i. -/
def bchGen : Nat := (bchRoots.foldl mulRoot [1]).foldr (fun c n => c % 2 + 2 * n) 0

/-- One data bit taken into the remainder. -/
def bchBit (g r : Nat) (b : Bool) : Nat :=
  let s := 2 * r % 2 ^ 448
  if b != r.testBit 447 then Nat.xor s (g % 2 ^ 448) else s

/-- The place in a byte of its i-th bit in the code's order, which R304 leaves open. -/
def bchPlace (i : Nat) : Nat := if Config.bchLsbFirst then i else 7 - i

/-- The 56 parity bytes of a sector: its bits in address order are the coefficients from the highest degree, followed by those of the
remainder (DESIGN CHOICE, log entry 3). -/
def bchParity (sector : List Byte) : List Byte :=
  let g := bchGen
  let r := (sector.flatMap fun b => (List.range 8).map fun i => b.getLsbD (bchPlace i)).foldl (bchBit g) 0
  (List.range 56).map fun k => BitVec.ofNat 8 ((List.range 8).map fun i => b2n (r.testBit (447 - (8 * k + i))) * 2 ^ bchPlace i).sum

end Sys2Proof.Machine
end

