-- ==== Sys2Proof/Machine/Master.lean ====
section
/-! DEFINITION. The D route's stream (R155, R225), the master port (R357 to R362, R376) and the spill path (R162). -/

namespace Sys2Proof.Machine

/-! ### The D route's stream of blocks -/

/-- Whether a record is the END of a dump (Table 8.7). -/
def isEnd (r : Rec) : Bool := recType r == 0x0C && bits r.hdr 35 32 == 15

/-- A record of the D route laid into 4 KiB blocks (R225, R153); END closes its block. -/
def dAppend (now : Nat) (x : Sink) (r : Rec) : Sink :=
  let y := sinkAppend now x [r]
  if isEnd r then { y with q := y.q ++ List.replicate (512 - y.fill) (0 : Word), fill := 0 } else y

/-- The D queue moved into the stream of a sink while the stream holds fewer than `cap` units; the D route's end under a lapsed lease
follows when the queue is empty (Table 10.7). -/
def dPump (n cap : Nat) : Nat → State → State
  | 0, s => s
  | k + 1, s =>
    match s.funnel.dq with
    | [] => endDRoute s
    | r :: t =>
      if cap ≤ (getSink s n).q.length then s
      else dPump n cap k (setSink { s with funnel := { s.funnel with dq := t } } n (dAppend s.ht (getSink s n) r))

/-- TRC_D_ROUTE.ROUTE. -/
def dRoute (s : State) : Nat := regF s rTrcDRoute 1 0

/-! ### Requests -/

/-- The place of a client in Table 13.9. -/
def mpPlace : MpClient → Nat
  | .indirect _ => 0
  | .dump => 1
  | .spill => 2

/-- A request handed to the port by a client. -/
def mpAsk (s : State) (c : MpClient) (wr : Bool) (addr beats : Nat) (data : List Word) : State :=
  { s with master := { s.master with waiting := s.master.waiting ++ [⟨c, wr, addr, beats, data, 0, [], false, false, [], false⟩] } }

/-- MPT_ACC_STAT.STATE of a requester's copy (R362, R381). -/
def accState (s : State) (who : Who) : Nat := bits (regGet s (keyWho who rMptAccStat) rMptAccStat) 1 0

/-- The end of an indirect access: STATE, the data of a read, ADDR advanced by 8 (R362). -/
def accEnd (s : State) (who : Who) (fail : Bool) (data : Option Word) : State :=
  let kc := keyWho who rMptAccCtrl
  let c := regGet s kc rMptAccCtrl
  let s1 := regPut s kc rMptAccCtrl (setBits c 63 3 (bits c 63 3 + 1))
  let s2 := if fail then s1 else data.elim s1 fun d => regPut s1 (keyWho who rMptAccData) rMptAccData d
  regPut s2 (keyWho who rMptAccStat) rMptAccStat (if fail then 3 else 2)

/-- A write of MPT_ACC_CTRL (R362): GO asks for one access unless the copy is BUSY. -/
def accWrite (s : State) (who : Who) (v : Word) : State :=
  let kc := keyWho who rMptAccCtrl
  let s1 := regPut s kc rMptAccCtrl ((layAt rMptAccCtrl).elim 0 fun l => l.write (regGet s kc rMptAccCtrl) v)
  if bit v 0 && accState s who != 1 then
    let s2 := regPut s1 (keyWho who rMptAccStat) rMptAccStat 1
    mpAsk s2 (.indirect who) (bit v 1) (8 * bits v 63 3) 1
      (if bit v 1 then [regGet s (keyWho who rMptAccData) rMptAccData] else [])
  else s1

/-- MPT_ACC_GO (R362, R376). -/
def execMptAccGo (who : Who) (v : Word) (s : State) : Host.Outcome State Fault Refusal :=
  if mayReg s who rMptAccCtrl true v then ok (accWrite s who v) else ok s

/-! ### The dump window and the spill ring -/

/-- Whether the dump window offers a block (R226, Table 8.6). -/
def windowSpace (s : State) : Bool :=
  !bit (reg s rDmpWinStat) 0 && decide (s.hang.blocks < regF s rDmpWinSize 23 0)

/-- Whether a client has a request waiting or in flight. -/
def mpBusy (s : State) (c : MpClient) : Bool :=
  s.master.waiting.any (fun q => q.client == c) ||
    s.master.wrt.any fun e => e.2.any fun q => q.client == c && !q.quar

/-- The D route's next block asked of the port (R155 route 2, R226), one block at a time. -/
def dumpFeed (s : State) : State :=
  if dRoute s ≠ 2 then s
  else
    let s1 := dPump 3 1024 4097 s
    let x := getSink s1 3
    if mpBusy s1 .dump ∨ !windowSpace s1 ∨ x.q.length < 512 then s1
    else mpAsk (setSink s1 3 { x with q := x.q.drop 512 }) .dump true
      (4096 * bits (reg s1 rDmpWinBase) 63 12 + 4096 * s1.hang.blocks) 32 (x.q.take 512)

/-- A block in the spill ring: WR moves on, and the ring holds one block more, or has lost its oldest (R162). -/
def spillWritten (s : State) : State :=
  let size := max 1 (regF s rTrcSpillSize 23 0)
  setRegF { s with funnel := { s.funnel with spillHeld := min size (s.funnel.spillHeld + 1) } } rTrcSpillPtr 23 0
    ((regF s rTrcSpillPtr 23 0 + 1) % size)

/-- A write of TRC_SPILL_PTR that moved RD: the blocks from RD up to WR are those not consumed (R162; log entry 76). -/
def spillRead (s : State) (old : Nat) : State :=
  let size := max 1 (regF s rTrcSpillSize 23 0)
  let rd := regF s rTrcSpillPtr 55 32
  if rd = old then s
  else { s with funnel := { s.funnel with spillHeld := (regF s rTrcSpillPtr 23 0 + size - rd % size) % size } }

/-- SPILL_BLOCK_WRITE (R162): the next block of sink 2's stream asked of the port, unless the ring is full and not overwritten. -/
def execSpillBlockWrite (s : State) : Host.Outcome State Fault Refusal :=
  let full := spillFull s
  let ovw := bit (reg s rTrcSpillCtrl) 0
  let y := getSink s 2
  let x := if y.ringFull && !full then sinkGaps s.ht y else y
  if regF s rTrcSpillSize 23 0 = 0 ∨ mpBusy s .spill ∨ x.q.length < 512 ∨ (full ∧ !ovw) then ok s
  else
    let s1 := if full then countF s rTrcSpillCtrl 63 48 1 else s
    ok (mpAsk (setSink s1 2 (sinkDrop s.ht 2 512 x)) .spill true
      (4096 * bits (reg s rTrcSpillBase) 63 12 + 4096 * regF s rTrcSpillPtr 23 0) 32 (x.q.take 512))

/-! ### Issue (R357 to R360) -/

/-- The bucket's tokens at the present hub time, in 1/4,096 of a beat, and what it holds at most. -/
def tokensNow (s : State) : Nat :=
  min (s.master.tokens + regF s rMptRate 11 0 * (s.ht - s.master.tokenAt)) (4096 * regF s rMptRate 43 32)

/-- The tags of one space. -/
def tagsOf (s : State) (wr : Bool) : Tab (Option MpReq) := if wr then s.master.wrt else s.master.rd

/-- The lowest free tag of a space, within MPT_CFG.MAXRD read tags in flight. -/
def freeTag (s : State) (wr : Bool) : Option Nat :=
  let t := tagsOf s wr
  let live := (t.filter fun e => e.2.any fun q => !q.quar).length
  if !wr && decide (regF s rMptCfg 40 32 ≤ live) then none
  else (List.range 256).find? fun n => (tget none t n).isNone

/-- A tag's holder set. -/
def setTag (s : State) (wr : Bool) (tag : Nat) (q : Option MpReq) : State :=
  if wr then { s with master := { s.master with wrt := tput none s.master.wrt tag q } }
  else { s with master := { s.master with rd := tput none s.master.rd tag q } }

/-- Whether every byte of a request lies in [MPT_LO, MPT_HI) (R360). -/
def mpRange (s : State) (q : MpReq) : Bool :=
  let n := match q.client with
    | .indirect _ => 8
    | _ => 128 * q.beats
  decide (4096 * regF s rMptLo 63 12 ≤ q.addr) && decide (q.addr + n ≤ 4096 * regF s rMptHi 63 12)

/-- The waiting request that goes next: round robin over the clients, the first whose oldest request finds a tag (R359). -/
def mpNext (s : State) : Option MpReq :=
  ((List.range 3).map fun k => (s.master.rr + k) % 3).findSome? fun c =>
    (s.master.waiting.find? fun q => mpPlace q.client = c).filter fun q => !mpRange s q || (freeTag s q.wr).isSome

/-- The first request that equals one, taken out of a list. -/
def takeOut (q : MpReq) : List MpReq → List MpReq
  | [] => []
  | x :: t => if x = q then t else x :: takeOut q t

/-- A write counted in error, or a read's beats. -/
def countErr (s : State) (q : MpReq) (n : Nat) : State :=
  if q.wr then countF s rMptStat 47 32 1 else countF s rMptStat 63 48 n

/-- The end of a dump block's write (R226): USED, and HELD once the block that holds END is written. -/
def windowWritten (s : State) (q : MpReq) : State :=
  let n := s.hang.blocks + 1
  let s1 := setRegF { s with hang := { s.hang with blocks := n } } rDmpWinStat 55 32 n
  if (splitRecs 512 q.data).any isEnd then setRegF s1 rDmpWinStat 0 0 1 else s1

/-- What a client makes of its request's end. -/
def mpDone (s : State) (q : MpReq) (fail : Bool) : State :=
  match q.client with
  | .indirect who => accEnd s who fail (if q.wr then none else some (q.got.getD (q.addr % 128 / 8) 0))
  | .dump =>
    if q.wr then (if fail then s else windowWritten s q)
    else
      let hard := q.dec || decide (q.got.length < 16 * q.beats)
      { s with hang := { s.hang with work := { s.hang.work with
        rd := some (q.got.zipIdx.map fun e => (e.1, q.ue.contains (e.2 / 16)), hard) } } }
  | .spill =>
    if fail then s else spillWritten s

/-- MP_REQUEST_ISSUE (R358 to R360). -/
def execMpRequestIssue (s0 : State) : Host.Outcome State Fault Refusal :=
  let s := dumpFeed s0
  if !bit (reg s rMptCfg) 63 then ok s
  else match mpNext s with
    | none => ok s
    | some q =>
      let s1 : State := { s with master := { s.master with waiting := takeOut q s.master.waiting, rr := mpPlace q.client + 1 } }
      if !mpRange s q then
        let s2 := countF s1 rMptStat2 63 48 1
        ok (mpDone (match q.client with
          | .indirect _ => s2
          | _ => if q.wr then countErr s2 q q.beats else s2) q true)
      else if regF s rMptRate 11 0 = 0 ∨ tokensNow s < 4096 * q.beats then ok s
      else match freeTag s q.wr with
        | none => ok s
        | some tag =>
          ok (setTag { s1 with master := { s1.master with tokens := tokensNow s - 4096 * q.beats, tokenAt := s.ht } } q.wr tag
            (some { q with issued := s.ht }))

/-! ### Completions (R361) -/

/-- A completion for a quarantined tag: counted LATE, discarded, the tag free. -/
def lateDone (s : State) (wr : Bool) (tag : Nat) : State := setTag (countF s rMptStat 15 0 1) wr tag none

/-- MP_READ_BEAT (R357, R361, R362): err 2 uncorrectable, 3 decode error. -/
def execMpReadBeat (tag : BitVec 8) (last : Bool) (data : List Word) (err : Fin 4) (s : State) : Host.Outcome State Fault Refusal :=
  match tget none s.master.rd tag.toNat with
  | none => ok s
  | some q =>
    if q.quar then ok (if last then lateDone s false tag.toNat else s)
    else
      let fail := decide (2 ≤ err.val)
      let s1 := if fail then countF s rMptStat 63 48 1 else s
      let q1 := { q with got := q.got ++ (List.range 16).map fun k => data.getD k 0, bad := q.bad || fail,
                           ue := if err.val = 2 then q.ue ++ [q.got.length / 16] else q.ue, dec := q.dec || err.val == 3 }
      if last then ok (mpDone (setTag s1 false tag.toNat none) q1 q1.bad)
      else ok (setTag s1 false tag.toNat (some q1))

/-- MP_WRITE_COMPLETION (R361, R362). -/
def execMpWriteCompletion (tag : BitVec 8) (err : Fin 4) (s : State) : Host.Outcome State Fault Refusal :=
  match tget none s.master.wrt tag.toNat with
  | none => ok s
  | some q =>
    if q.quar then ok (lateDone s true tag.toNat)
    else
      let fail := decide (2 ≤ err.val)
      let s1 := if fail then countErr s q 1 else s
      ok (mpDone (setTag s1 true tag.toNat none) q fail)

/-- Tags quarantined in a space. -/
def quarantined (s : State) (wr : Bool) : Nat := ((tagsOf s wr).filter fun e => e.2.any MpReq.quar).length

/-- MP_TIMEOUT (R361): no completion within MPT_CFG.TMO. -/
def execMpTimeout (wr : Bool) (tag : BitVec 8) (s : State) : Host.Outcome State Fault Refusal :=
  match tget none (tagsOf s wr) tag.toNat with
  | none => ok s
  | some q =>
    if q.quar ∨ s.ht < q.issued + regF s rMptCfg 31 0 then ok s
    else
      let s1 := countErr (countF (setTag s wr tag.toNat (some { q with quar := true })) rMptStat 31 16 1) q
        (q.beats - q.got.length / 16)
      let s2 := mpDone s1 q true
      ok (if quarantined s2 wr = 256 then raiseLine s2 13 else s2)

end Sys2Proof.Machine
end

