-- ==== Sys2Proof/Machine/Lanes.lean ====
section
/-! DEFINITION. Trace lanes (R363 to R366, R375). -/

namespace Sys2Proof.Machine

/-- Whether a lane is wired, up and enabled (R366). -/
def laneFit (s : State) (n : Nat) : Bool :=
  s.integ.lanes.getLsbD n && (getL s n).up && bit (reg s rTptCtrl) (16 + n)

/-- The lanes in service of a stream: those that leases hold for the D stream, and the others (R365). -/
def streamLanes (s : State) (d : Bool) : List Nat :=
  (List.range 16).filter fun n => (getL s n).inSvc && (dLanes s).contains n == d

/-- Whether class D records form a stream of their own: route 1, and a lane held for them in service (R365). -/
def ownD (s : State) : Bool := dRoute s == 1 && !(streamLanes s true).isEmpty

/-- The next FSEQ of a stream (Table 13.14). -/
def nextFseq (s : State) (d : Bool) : Nat := if d then regF s rTptFseq 63 32 else regF s rTptFseq 31 0

/-- The next FSEQ of a stream set. -/
def setFseq (s : State) (d : Bool) (n : Nat) : State := if d then setRegF s rTptFseq 63 32 n else setRegF s rTptFseq 31 0 n

/-- CRC-32 of R256 over a number's bytes from bit `lo` on and then units, each low byte first. -/
def frameCrc (h lo n : Nat) (us : List Word) : Nat :=
  let bytes := (List.range n).map (fun k => (BitVec.ofNat 8 (h / 2 ^ (lo + 8 * k)) : Byte)) ++ us.flatMap unitBytes
  Nat.xor (bytes.foldl (crcByteR 0xEDB88320) 0xFFFFFFFF) 0xFFFFFFFF

/-- The header word of a frame (Table 13.11). -/
def laneHdr (dev fseq nl lane : Nat) (strm replay : Bool) (nw bstart : Nat) (pay : List Word) : BitVec 128 :=
  let h := 0xD5E1 * 2 ^ 112 + dev % 2 ^ 16 * 2 ^ 96 + fseq % 2 ^ 32 * 2 ^ 64 + nl % 32 * 2 ^ 59 + lane % 16 * 2 ^ 55 +
    b2n strm * 2 ^ 54 + b2n replay * 2 ^ 53 + nw % 64 * 2 ^ 47 + bstart % 64 * 2 ^ 41
  BitVec.ofNat 128 (h + frameCrc h 32 12 pay)

/-- NW of a frame's header. -/
def hdrNw (h : BitVec 128) : Nat := h.toNat / 2 ^ 47 % 64
/-- BSTART of a frame's header. -/
def hdrBstart (h : BitVec 128) : Nat := h.toNat / 2 ^ 41 % 64

/-- The lane after the one that carried the stream's last frame, in ascending order (R365). -/
def nextLane (s : State) (d : Bool) (l : List Nat) : Option Nat :=
  let last := (nextFseq s d + 2 ^ 32 - 1) % 2 ^ 32
  match (List.range 16).find? fun n => (getL s n).hist.any fun f => f.strm == d && f.fseq == last with
  | none => l.head?
  | some n => (l.find? fun m => decide (n < m)).orElse fun _ => l.head?

/-- A frame sent on a lane, which keeps its last 32 (R366). -/
def laneSend (s : State) (n : Nat) (f : LaneFrame) : State :=
  let x := getL s n
  setL s n { x with hist := (x.hist ++ [f]).drop (x.hist.length + 1 - 32), lastAt := s.ht }

/-- A new frame of a stream on a lane: its units, padded to 126, and the payload word at which a block begins. -/
def newFrame (s : State) (d : Bool) (n nl : Nat) (us : List Word) (bstart : Nat) : State :=
  let fseq := nextFseq s d
  let pay := us ++ List.replicate (126 - us.length) (0 : Word)
  let h := laneHdr s.integ.devid.toNat fseq nl n d false (us.length / 2) bstart pay
  setFseq (laneSend s n ⟨fseq, d, h, pay⟩) d (fseq + 1)

/-- BSTART: the payload word of a frame of n units at which a block begins, for a stream whose open block holds `fill` units
and whose queue holds `q` (R364). -/
def blockStart (fill q n : Nat) : Nat :=
  let phase := (fill + 512 * (q / 512 + 1) - q) % 512
  let o := (512 - phase) % 512
  if o < n then o / 2 + 1 else 0

/-- LANE_FRAME_SEND's effect (R364, R365): up to 63 words of the stream's units on its next lane. Class D records that form no stream
of their own join the trace stream. -/
def frameSend (s0 : State) (d : Bool) : State :=
  let own := ownD s0
  let s := if dRoute s0 ≠ 1 then s0 else if own then dPump 3 1024 4097 s0 else dPump 1 16384 4097 s0
  let l := streamLanes s d
  let n := if d then 3 else 1
  let x := getSink s n
  let k := min 126 (x.q.length / 2 * 2)
  if !bit (reg s rTptCtrl) 0 ∨ (d && !own) ∨ k = 0 then s
  else match nextLane s d l with
    | none => s
    | some lane =>
      newFrame (setSink s n (sinkDrop s.ht n k x)) d lane l.length (x.q.take k) (blockStart x.fill x.q.length k)

/-- LANE_FRAME_SEND (R364, R365). -/
def execLaneFrameSend (dstream : Bool) (s : State) : Host.Outcome State Fault Refusal := ok (frameSend s dstream)

/-- LANE_IDLE_FRAME (R365): a frame with NW 0, once the lane has been idle for 400 ht. -/
def execLaneIdleFrame (lane : Fin 16) (s : State) : Host.Outcome State Fault Refusal :=
  let d := (dLanes s).contains lane.val && dRoute s == 1
  if bit (reg s rTptCtrl) 0 ∧ (getL s lane).inSvc ∧ (getL s lane).lastAt + 400 ≤ s.ht then
    ok (newFrame s d lane (streamLanes s ((dLanes s).contains lane.val)).length [] 0)
  else ok s

/-- A frame sent again with REPLAY at 1 on the next lane of its stream, or not, when it lies too far back (R366). -/
def replayOne (s : State) (l : List Nat) (k : Nat) (f : LaneFrame) : State :=
  if 1023 < (nextFseq s f.strm + 2 ^ 32 - 1 - f.fseq) % 2 ^ 32 then countF s rTptErr 15 0 1
  else
    let lane := l.getD (k % max 1 l.length) 0
    let h := laneHdr s.integ.devid.toNat f.fseq l.length lane f.strm true (hdrNw f.hdr) (hdrBstart f.hdr) f.pay
    laneSend (countF s rTptErr 31 16 1) lane { f with hdr := h }

/-- The frames left on lanes out of service sent again on the remaining lanes of their streams, ahead of new frames (R366). -/
def replayOwed (s : State) : State :=
  forAll ((List.range 16).filter fun n => !(getL s n).inSvc) (fun s n =>
    let x := getL s n
    let go (f : LaneFrame) : Bool := !(streamLanes s f.strm).isEmpty
    let due := x.hist.filter go
    forAll ((List.range due.length).zip due) (fun s e => replayOne s (streamLanes s e.2.strm) e.1 e.2)
      (setL s n { x with hist := x.hist.filter fun f => !go f })) s

/-- A lane leaves service (R366): counted, replayed, and a health change of kind 13. -/
def laneLeave (s : State) (n : Nat) : State :=
  if (getL s n).inSvc then
    healthChange (replayOwed (countF (setL s n { getL s n with inSvc := false }) rTptErr 63 48 1)) 13 n true
  else s

/-- A lane joins service (R366). -/
def laneJoin (s : State) (n : Nat) : State :=
  if laneFit s n && !(getL s n).inSvc then healthChange (replayOwed (setL s n { getL s n with inSvc := true, lastAt := s.ht })) 13 n false else s

/-- A write of LANE_EN (R375) acts on every lane at its next frame boundary. -/
def laneEnable (s : State) : State :=
  forAll (List.range 16) (fun s n => if laneFit s n then laneJoin s n else laneLeave s n) s

/-- LANE_IN_SERVICE (R366): TLn_UP has stayed 1 for 40,000 ht. -/
def execLaneInService (lane : Fin 16) (s : State) : Host.Outcome State Fault Refusal :=
  if s.integ.lanes.getLsbD lane then ok (laneJoin (setL s lane { getL s lane with up := true }) lane) else ok s

/-- A lane that fails leaves service, or is only reported with the recovery engine stopped (R428). -/
def laneFail (s : State) (n : Nat) : State :=
  if s.boot.recStop && (getL s n).inSvc then healthChange s 13 n true else laneLeave s n

/-- LANE_DOWN (R366): TLn_UP falls. -/
def execLaneDown (lane : Fin 16) (s : State) : Host.Outcome State Fault Refusal :=
  ok (laneFail (setL s lane { getL s lane with up := false }) lane)

/-- LANE_STALL (R366): TLn_READY has stayed 0 for 40,000 ht. -/
def execLaneStall (lane : Fin 16) (s : State) : Host.Outcome State Fault Refusal :=
  if (getL s lane).inSvc then ok (laneFail (countF s rTptErr 47 32 1) lane) else ok s

end Sys2Proof.Machine
end

