-- ==== Sys2Proof/Machine/Nand.lean ====
section
/-! DEFINITION. The Hank store's NAND devices (R303 to R310, R314, R369 to R371), MRAM banks that retire (R316), pins (R310) and the
read window (R317). -/

namespace Sys2Proof.Machine

/-! ### Devices -/

/-- Whether a device is wired. -/
def fitted (s : State) (d : Nat) : Bool := s.integ.nand.getLsbD d

/-- The geometry limits of R303. -/
def geomOk (s : State) : Bool :=
  let b := s.integ.nBlocks
  let p := s.integ.nPages
  decide (64 ≤ p) && decide (p ≤ 256) && decide (b ≤ 131071) && decide (b * p * 4096 ≤ 2 ^ 35)

/-- Whether both mirrors of a device's map are gone (R287, R309). -/
def mirrorsGone (s : State) (d : Nat) : Bool := !(banks s).contains (2 * d) && !(banks s).contains (2 * d + 1)

/-- Whether a device is in service. -/
def nandUp (s : State) (d : Nat) : Bool := fitted s d && (getN s d).mounted && !(getN s d).out

/-- The blocks of a device in a state. -/
def blocksIn (s : State) (d st : Nat) : List Nat := (List.range s.integ.nBlocks).filter fun b => (getB s d b).state = st

/-- The block indices that a LOGSTATE body names. -/
def logNames : List Word → List Word
  | i :: _ :: t => i :: logNames t
  | _ => []

/-- Whether a LOGSTATE that names a block still waits to become durable. -/
def logPends (s : State) (d b : Nat) : Bool :=
  (s.hank.queue ++ s.hank.inq).any fun c => c.area == .logstate && (logNames (c.body.drop 2)).contains (word (d * 2 ^ 20 + b))

/-- Whether a block may be taken: FREE in the map, holding nothing, and in no LOGSTATE under way. -/
def blockFree (s : State) (d b : Nat) : Bool :=
  (getB s d b).state == 0 && (getB s d b).pages.isEmpty && !logPends s d b &&
    !(s.hank.stream.any fun t => t.dev == d && t.blk == b)

/-- The free blocks of a device. -/
def freeBlocks (s : State) (d : Nat) : List Nat := (List.range s.integ.nBlocks).filter (blockFree s d)

/-- The free block with the fewest erases. -/
def leastErased (s : State) (d : Nat) (l : List Nat) : Option Nat :=
  l.foldl (fun best b => match best with
    | none => some b
    | some c => if (getB s d b).erases < (getB s d c).erases then some b else best) none

/-- The reserve of a device (R310). -/
def nandReserve (s : State) : Nat := max 8 (s.integ.nBlocks * 2 / 100)

/-- The spread of ERASES among a device's blocks in service (R308). -/
def eraseSpread (s : State) (d : Nat) : Nat :=
  let l := ((List.range s.integ.nBlocks).filter fun b => (getB s d b).state ≠ 3).map fun b => (getB s d b).erases
  l.foldl max 0 - l.foldl min (l.headD 0)

/-- POWERED in units of 2 ^ 40 ht, as EAGE holds it (R305). -/
def eageNow (s : State) : Nat := counter s 2 / 256

/-! ### LOGSTATE (R306) -/

/-- LOGSTATE commits of entry changes, at most 13 in each (the slot of Table 11.1 holds no more). -/
def logCommit (s : State) : Nat → List (Nat × Nat × NBlk) → State
  | 0, _ => s
  | n + 1, l =>
    let body := [logHead s 0, logHead s 1] ++ (l.take 13).flatMap fun e => [word (e.1 * 2 ^ 20 + e.2.1), mapEntry e.2.2]
    let owing (k : Nat × Nand) : Nat × Nand := (k.1, { k.2 with owes := true })
    let s1 := submit { s with nands := s.nands.map owing } .logstate 9 body
    if l.length ≤ 13 then s1 else logCommit s1 n (l.drop 13)

/-- The log head of a device moved. -/
def setHead (s : State) (d b p : Nat) : State := setN s d { getN s d with head := some (b, p) }

/-! ### Dumps and their NAND copies -/

/-- A copy of a dump's newest entry appended with unit 0 changed. -/
def entryWith (s : State) (num : Nat) (f : Word → Word) : State :=
  match newestEntry s num with
  | none => s
  | some e => submit s .dindex 9 (e.set 0 (f (e.getD 0 0)))

/-- The dumps that have pages on a device's blocks. -/
def numsOn (s : State) (d : Nat) : List Nat := ((getN s d).blks.flatMap fun b => b.2.pages.map NPage.num).eraseDups

/-- The dumps with a copy and no page left on a device in service become LOST (R302, R309). -/
def lostDumps (s : State) (nums : List Nat) : State :=
  forAll (nums.filter fun n => n ≠ 0 && !((List.range 2).any fun d => !(getN s d).out && (numsOn s d).contains n))
    (fun s n => entryWith s n fun u => setBits u 31 28 4) s

/-- A device leaves service (R309), or is only reported with the recovery engine stopped (R428). -/
def nandOut (s : State) (d : Nat) : State :=
  if (getN s d).out then s
  else if s.boot.recStop then healthChange s 12 d true
  else
    let s1 := setN s d { getN s d with out := true, mounted := false, opKind := 0, want := none, cache := none, erase := [] }
    let s2 := { s1 with hank := { s1.hank with stream := s1.hank.stream.filter fun t => t.dev != d } }
    healthChange (lostDumps (hevt (journal s2 0x8032 d) 0xA03 d []) (numsOn s d)) 12 d true

/-- The pages of a block copied to a free block with KIND 1 (R308, R309): the target's entry, and the entry that names it next. -/
def relocate (s : State) (d b : Nat) : Option (Nat × State) :=
  let x := getB s d b
  (leastErased s d ((freeBlocks s d).filter fun c => c ≠ b)).map fun c =>
    let good := x.pages.filter fun p => !p.bad
    let seq := (getN s d).seq
    let copy := ((List.range good.length).zip good).map fun e => { e.2 with seq := seq + e.1, kind := 1 }
    let y := { getB s d c with pages := copy }
    let s1 := countF (setB s d c y) rHnkErr 15 0 1
    let s2 := setN s1 d { getN s1 d with seq := seq + good.length }
    let before := ((getN s2 d).blks.filter fun e => e.2.next = b ∧ e.2.state = 2).map fun e => (d, e.1, { e.2 with next := c })
    (c, logCommit s2 32 ((d, c, { y with state := x.state, next := x.next }) :: before))

/-- A block relocated and then to be erased, once the LOGSTATE is durable (R308). -/
def moveBlock (s : State) (d b : Nat) : State :=
  match relocate s d b with
  | none => s
  | some (_, s1) => setN s1 d { getN s1 d with erase := (getN s1 d).erase ++ [b] }

/-- A page lost to BCH (R309): counted, and its dump gets NAND_UE. -/
def pageLost (s : State) (d b p : Nat) : State :=
  let x := getB s d b
  match x.pages[p]? with
  | none => s
  | some y =>
    if y.bad then s
    else
      let s1 := setB s d b { x with pages := x.pages.set p { y with bad := true } }
      entryWith (countF s1 rHnkErr 31 16 1) y.num fun u => setBits u 17 17 1

/-- A block retires (R309): readable pages relocated, RETIRED in the map, counted, journalled, HEVT 0xA02; past 10 % the device
leaves service. A stream that was writing it goes on in the block its pages moved to. With the recovery engine stopped no block
retires (R428). -/
def blockRetire (s : State) (d b : Nat) : State :=
  if s.boot.recStop then s else
  let x := getB s d b
  let nums := (x.pages.map NPage.num).eraseDups
  let r := if x.pages.all NPage.bad then none else relocate s d b
  let s1 := r.elim s Prod.snd
  let s2 := setB s1 d b { x with pages := [] }
  let go := (r.map Prod.fst).orElse fun _ => leastErased s d ((freeBlocks s d).filter fun c => c ≠ b)
  let str := s2.hank.stream.bind fun t => if t.dev = d ∧ t.blk = b then go.map (fun c => { t with blk := c }) else some t
  let s3 : State := { s2 with hank := { s2.hank with stream := str } }
  let s4 := logCommit s3 32 [(d, b, { getB s3 d b with state := 3 })]
  let s5 := addCounter s4 7 1
  let arg := d * 2 ^ 20 + b
  let s6 := lostDumps (hevt (journal s5 0x8031 arg) 0xA02 arg []) nums
  if s.integ.nBlocks < 10 * ((blocksIn s6 d 3).length + b2n ((getB s6 d b).state ≠ 3)) then nandOut s6 d else s6

/-! ### Mount (R314) -/

/-- A device identified: pages beyond the committed head erased, or the device left out of service. -/
def mountDev (s : State) (d : Nat) : State :=
  if !fitted s d ∨ (getN s d).out then s
  else if !geomOk s ∨ mirrorsGone s d then nandOut s d
  else
    let n := getN s d
    let keep (e : Nat × NBlk) : Nat := match n.head with
      | some (b, p) => if e.1 = b then p else if e.2.state = 0 then 0 else e.2.pages.length
      | none => 0
    let gone := n.blks.filter fun e => e.2.pages.length ≠ 0 ∧ keep e = 0
    let back := (n.blks.map fun e => (e.1, { e.2 with pages := e.2.pages.take (keep e) })).filter fun e => e.2 ≠ NBlk.fresh
    let s1 := setN s d { n with mounted := true, blks := back }
    if gone = [] then s1
    else logCommit s1 (gone.length + 1) (gone.map fun e =>
      (d, e.1, { e.2 with state := 0, erases := e.2.erases + 1, next := 0x1FFFF, eage := eageNow s, pages := [] }))

/-- NAND_MOUNT (R314). -/
def execNandMount (s : State) : Host.Outcome State Fault Refusal :=
  if s.hank.mount = 1 then
    let s1 := mountDev (mountDev s 0) 1
    ok { s1 with hank := { s1.hank with mount := 2 } }
  else ok s

/-! ### Operations (R307, R371) -/

/-- A device's operation started; none is while a power-fail warning stands (Table 11.8). -/
def startOp (s : State) (d kind b p : Nat) (us : List Word) : State :=
  setN s d { getN s d with opKind := kind, opAt := s.ht, opBlk := b, opPage := p, dqsTried := false, buf := us }

/-- Space that the store reports (R310). -/
def hankSpace (s : State) : Nat :=
  if s.hank.mount ≠ 2 then 0
  else
    let own (d : Nat) : Nat := if nandUp s d then
        (freeBlocks s d).length - nandReserve s +
          ((getN s d).blks.filter fun e => match e.2.pages with
            | [] => false
            | p :: _ => (newestEntry s p.num).any fun u =>
                [2, 3, 4].contains (bits (u.getD 0 0) 31 28) && !bit (u.getD 0 0) 23).length
      else 0
    own 0 + own 1

/-- The oldest unpinned copy reclaimed whole (R310): its blocks are to be erased, and an entry RECLAIMED is appended. One copy is reclaimed at a
time: while erases stand, the stream waits for them. -/
def reclaim (s : State) : State :=
  if (List.range 2).any (fun d => nandUp s d && !(getN s d).erase.isEmpty) then s else
  let nums := sortBy id ((numsOn s 0 ++ numsOn s 1).eraseDups)
  match nums.find? fun n => (newestEntry s n).any fun u =>
      [2, 3, 4].contains (bits (u.getD 0 0) 31 28) && !bit (u.getD 0 0) 23 with
  | none => s
  | some n =>
    let s1 := forAll [0, 1] (fun s d =>
      let l := ((getN s d).blks.filter fun e => e.2.pages.any fun p => p.num = n).map Prod.fst
      setN s d { getN s d with erase := ((getN s d).erase ++ l).eraseDups }) s
    entryWith s1 n fun u => setBits u 31 28 5

/-- The device that a stream's next block comes from (R307), with a block free beyond the reserve. -/
def pickBlock (s : State) : Option (Nat × Nat) :=
  let free (d : Nat) : Nat := if nandUp s d then (freeBlocks s d).length - nandReserve s else 0
  let d := if free 0 < free 1 then 1 else 0
  if free d = 0 then none else (leastErased s d (freeBlocks s d)).map fun b => (d, b)

/-- The stream given a block for its next page: the one it writes, or another (R307). -/
def streamBlock (s : State) : State :=
  match s.hank.stream with
  | some t =>
    if (getB s t.dev t.blk).pages.length < s.integ.nPages then s
    else match pickBlock s with
      | some (d, b) => { s with hank := { s.hank with stream := some { t with dev := d, blk := b, prev := some (t.dev, t.blk) } } }
      | none => reclaim s
  | none =>
    match pickBlock s with
    | some (d, b) => { s with hank := { s.hank with stream := some ⟨s.hang.running.elim 0 Decl.num, 0, d, b, none⟩ } }
    | none => reclaim s

/-- Route 3's next page begins to be programmed on its device (R307). -/
def streamNext (s : State) (d : Nat) : State :=
  let s1 := dPump 3 1024 4097 s
  let x := getSink s1 3
  if x.q.length < 512 then s1
  else
    let s2 := streamBlock s1
    match s2.hank.stream with
    | none => s2
    | some t =>
      let n := (getB s2 t.dev t.blk).pages.length
      if t.dev = d ∧ n < s2.integ.nPages then
        startOp (setSink s2 3 { x with q := x.q.drop 512 }) d 1 t.blk n (x.q.take 512)
      else s2

/-- What an idle device begins: the page a reader waits for, an erase that the LOGSTATE allows, or the stream's next page. -/
def nandIdle (s : State) (d : Nat) : State :=
  let n := getN s d
  if s.hank.pfw ≠ 0 ∨ n.opKind ≠ 0 ∨ !nandUp s d then s
  else match n.want, n.erase with
    | some (b, p), _ => startOp s d 3 b p []
    | none, b :: _ => if n.owes then s else startOp s d 2 b 0 []
    | none, [] => if dRoute s = 3 then streamNext s d else s

/-- A page programmed (R307): at a block boundary and at END the LOGSTATE is committed with the new head. -/
def pageDone (s : State) (d : Nat) : State :=
  let n := getN s d
  match s.hank.stream with
  | none => s
  | some t =>
    let x := getB s d n.opBlk
    let y := { x with pages := x.pages ++ [⟨n.seq, t.num, t.pidx, 0, n.buf, false⟩] }
    let s1 := setB (setN s d { n with seq := n.seq + 1, opKind := 0, buf := [] }) d n.opBlk y
    let fin := (splitRecs 512 n.buf).any isEnd
    let s2 : State := { s1 with hank := { s1.hank with stream := if fin then none else some { t with pidx := t.pidx + 1 } } }
    let s3 : State := { s2 with hang := { s2.hang with blocks := s2.hang.blocks + 1 } }
    if fin ∨ y.pages.length = s.integ.nPages then
      let link := t.prev.elim [] fun e => [(e.1, e.2, { getB s3 e.1 e.2 with state := 2, next := n.opBlk })]
      logCommit (setHead s3 d n.opBlk y.pages.length) 2 ((d, n.opBlk, { y with state := 2 }) :: link)
    else s3

/-- A block erased (R305, R308). -/
def eraseDone (s : State) (d : Nat) : State :=
  let n := getN s d
  let x := getB s d n.opBlk
  let s1 := setB (setN s d { n with opKind := 0, erase := n.erase.filter fun b => b != n.opBlk }) d n.opBlk { x with pages := [] }
  logCommit s1 1 [(d, n.opBlk, { x with state := 0, erases := min 262143 (x.erases + 1), next := 0x1FFFF, eage := eageNow s })]

/-- A page fetched for the read window, correct or not. -/
def readDone (s : State) (d : Nat) (bad : Bool) : State :=
  let n := getN s d
  let lost := bad || ((getB s d n.opBlk).pages[n.opPage]?).any NPage.bad
  let s1 := setN s d { n with opKind := 0, want := none, cache := some (n.opBlk, n.opPage), cacheBad := lost }
  if bad then pageLost s1 d n.opBlk n.opPage else s1

/-- A status poll (R371): `done` says that the operation under way has completed without failure; an idle device begins its next. -/
def pollDone (s : State) (d : Nat) (done : Bool) : State :=
  let n := getN s d
  let s1 := if n.opKind = 0 ∨ !done then s
    else if n.opKind = 1 then pageDone s d
    else if n.opKind = 2 then eraseDone s d
    else readDone s d false
  nandIdle s1 d

/-- XSPI_STATUS_POLL (R371, R307). -/
def execXspiStatusPoll (dev : Fin 2) (done : Bool) (s : State) : Host.Outcome State Fault Refusal :=
  if nandUp s dev then ok (pollDone s dev done) else ok s

/-- The limit of an operation (R371). -/
def opLimit (kind : Nat) : Nat := if kind = 3 then 400000 else if kind = 1 then 8000000 else 40000000

/-- A program or erase that failed (R309): the block retires, and a page that was being programmed is owed again. -/
def opFail (s : State) (d b : Nat) : State :=
  let n := getN s d
  let hit := n.opBlk == b && (n.opKind == 1 || n.opKind == 2)
  let s1 := if hit then setN s d { n with opKind := 0, buf := [], erase := n.erase.filter fun c => c != b } else s
  let s2 := if hit && n.opKind == 1 then setSink s1 3 { getSink s1 3 with q := n.buf ++ (getSink s1 3).q } else s1
  blockRetire s2 d b

/-- NAND_BLOCK_RETIRE (R309): the device reports a program or erase failure. -/
def execNandBlockRetire (dev : Fin 2) (blk : Nat) (s : State) : Host.Outcome State Fault Refusal :=
  if nandUp s dev ∧ blk < s.integ.nBlocks ∧ (getB s dev blk).state ≠ 3 then ok (opFail s dev blk) else ok s

/-- XSPI_OP_TIMEOUT (R371): the operation's limit has passed, or identification's. -/
def execXspiOpTimeout (dev : Fin 2) (s : State) : Host.Outcome State Fault Refusal :=
  let n := getN s dev
  if s.hank.mount = 1 ∧ fitted s dev ∧ !n.out ∧ s.hank.mountAt + 4000000 ≤ s.ht then ok (nandOut (countF s rXspStat 63 48 1) dev)
  else if !nandUp s dev ∨ n.opKind = 0 ∨ s.ht < n.opAt + opLimit n.opKind then ok s
  else
    let s1 := countF s rXspStat 63 48 1
    ok (if n.opKind = 3 then readDone s1 dev true else opFail s1 dev n.opBlk)

/-- XSPI_DQS_TIMEOUT (R370, R371): a read without strobe is tried once more, and is then uncorrectable. Channel c carries the pages p of
device c / 2 with p mod 2 = c mod 2. -/
def execXspiDqsTimeout (c : Fin 4) (s : State) : Host.Outcome State Fault Refusal :=
  let dev := c.val / 2
  let n := getN s dev
  if !nandUp s dev ∨ n.opKind ≠ 3 ∨ n.opPage % 2 ≠ c.val % 2 then ok s
  else
    let s1 := countF s rXspStat 47 32 1
    if n.dqsTried then ok (readDone s1 dev true)
    else ok (setN s1 dev { n with dqsTried := true, opAt := s.ht })

/-! ### Wear and patrol (R308) -/

/-- NAND_WEAR_LEVEL (R308): at most once per 2 ^ 36 ht. -/
def execNandWearLevel (dev : Fin 2) (s : State) : Host.Outcome State Fault Refusal :=
  let n := getN s dev
  if nandUp s dev ∧ s.hank.pfw = 0 ∧ regF s rHnkNandCfg 43 32 < eraseSpread s dev ∧ (n.lastWl = 0 ∨ n.lastWl + 2 ^ 36 ≤ s.ht + 1) then
    match leastErased s dev ((blocksIn s dev 2).filter fun b => !n.erase.contains b) with
    | none => ok s
    | some b => ok (moveBlock (setN s dev { n with lastWl := s.ht + 1 }) dev b)
  else ok s

/-- NAND_PATROL (R308, R309): the patrol reads a programmed page whose worst sector needed `corr` corrections. Only a FULL block is relocated: the
stream still writes any other. -/
def execNandPatrol (dev : Fin 2) (blk page corr : Nat) (s : State) : Host.Outcome State Fault Refusal :=
  let x := getB s dev blk
  if !nandUp s dev ∨ s.hank.pfw ≠ 0 ∨ x.pages.length ≤ page ∨ (getN s dev).erase.contains blk then ok s
  else
    let s1 := if 32 < corr then pageLost s dev blk page else s
    if x.state = 2 ∧ (24 < corr ∨ x.eage + regF s rHnkNandCfg 63 44 < eageNow s) then ok (moveBlock s1 dev blk) else ok s1

/-! ### MRAM banks that retire (R316) -/

/-- Where a journal ring offset lies once the segment at place k has gone: none within it. -/
def ringClose (k o : Nat) : Option Nat := if o < 122880 * k then some o else if o < 122880 * (k + 1) then none else some (o - 122880)

/-- An MRAM bank retires (R316): the ring closes up, the entries of its segment count in JRN_LOST, its L0 slot is lost. -/
def bankRetire (s : State) (b : Nat) : State :=
  let h := s.hank
  let k := ((banks s).takeWhile fun c => c ≠ b).length
  let kept := h.jEnts.filterMap fun e => (ringClose k e.1).map fun o => (o, e.2)
  let lost := h.jEnts.length - kept.length
  let total := max 1 (122880 * ((banks s).length - 1))
  let s1 : State := { s with hank := { h with
      retired := h.retired ++ [b], jEnts := kept, jHead := (ringClose k h.jHead).getD (122880 * k % total),
      units := h.units.filter (fun e => e.1 / 2 ^ 19 ≠ b), bad := h.bad.filter (fun a => a / 2 ^ 19 ≠ b),
      bankErr := tput 0 h.bankErr b 0, wfaults := tput [] h.wfaults b [], l0Slot := h.l0Slot.filter fun e => e.2 != b } }
  if lost = 0 then s1 else addCounter s1 8 lost

/-- With no bank in service every commit ends NOAGENT (R316). -/
def commitsEnd (s : State) : State :=
  if (banks s).isEmpty then
    forAll (s.hank.queue ++ s.hank.inq) (fun s c => c.opId.elim s fun id => post s id .noagent 0)
      { s with hank := { s.hank with queue := [], inq := [] } }
  else s

/-- What the retirement of an MRAM bank brings with it (R316, R309); with the recovery engine stopped the bank is only reported (R428). -/
def mramGone (s : State) (bank : Nat) : State :=
  if !(banks s).contains bank then s
  else if s.boot.recStop then healthChange s 11 bank true
  else
    let s1 := addCounter (hevt (journal (bankRetire s bank) 0x8030 bank) 0xA01 bank []) 6 1
    let s2 := healthChange s1 11 bank true
    let s3 := forAll [0, 1] (fun s d => if fitted s d && mirrorsGone s d then nandOut s d else s) s2
    commitsEnd s3

/-- MRAM_BANK_RETIRE (R316): a bank that fails self-test, or whose errors retire it. -/
def execMramBankRetire (bank : Fin 4) (s : State) : Host.Outcome State Fault Refusal := ok (mramGone s bank)

/-- Banks that have recorded 8 write faults within 4,000,000,000 ht retire (R316). -/
def faultsRetire (s : State) : State :=
  forAll ((banks s).filter fun b => 8 ≤ ((tget [] s.hank.wfaults b).filter fun t => s.ht ≤ t + 4000000000).length) mramGone s

/-- A unit found to hold an uncorrectable error: counted, and its bank retires at the second within 4,000,000,000 ht (R316). -/
def mramError (s : State) (a : Nat) : State :=
  let b := a / 2 ^ 19
  let last := tget 0 s.hank.bankErr b
  let s1 := countF { s with hank := { s.hank with
    bad := a :: s.hank.bad.filter (fun c => c ≠ a), bankErr := tput 0 s.hank.bankErr b (s.ht + 1) } } rHnkErr 47 32 1
  if last ≠ 0 ∧ s.ht + 1 ≤ last + 4000000000 then mramGone s1 b else s1

/-- COMMIT_DURABLE (R292, R288): not once writes are inhibited (R311). -/
def execCommitDurable (s : State) : Host.Outcome State Fault Refusal :=
  if 1 ≤ s.hank.mount ∧ s.hank.pfw < 2 then ok (faultsRetire (makeDurable s)) else ok s

/-- A corrected unit written again with what it held, `weak` of its next writes from now on reading back wrong (R288, R315). -/
def scrubbed (s : State) (a weak : Nat) : State :=
  if weak = 0 ∧ tget 0 s.hank.weak a = 0 then s
  else
    let s1 : State := { s with hank := { s.hank with weak := tput 0 s.hank.weak a (max weak (tget 0 s.hank.weak a)) } }
    faultsRetire (hankPut s1 a [tget 0 s.hank.units a]).1

/-- MRAM_SCRUB (R315, R316): the patrol met a unit that needed correction, rewrote it and counts it; or one with an uncorrectable error. -/
def execMramScrub (bank : Fin 4) (cell : MramCell) (s : State) : Host.Outcome State Fault Refusal :=
  if (banks s).contains bank && decide (cell.unit < 2 ^ 19) && decide (1 ≤ s.hank.mount) then
    ok (if cell.ue then mramError s (bankBase bank + cell.unit) else scrubbed (addCounter s 9 1) (bankBase bank + cell.unit) cell.weak)
  else ok s

/-! ### HNK_PIN and the read window (R310, R317) -/

/-- A write of HNK_PIN (R310): a copy of the dump's newest entry with PIN changed. -/
def pinWrite (s : State) (v : Word) : State := entryWith s (bits v 31 0) fun u => setBits u 23 23 (bits v 32 32)

/-- HNK_PIN_WRITE (R310, R317). -/
def execHnkPinWrite (who : Who) (v : Word) (s : State) : Host.Outcome State Fault Refusal :=
  if mayReg s who rHnkPin true v then ok (pinWrite s v) else ok s

/-- The spare bytes of a page (Table 11.7), as units. -/
def spareUnits (p : NPage) : List Word :=
  let bytes := p.data.flatMap unitBytes
  let head := [word p.seq, word (p.num % 2 ^ 32 + p.pidx % 2 ^ 32 * 2 ^ 32)]
  let kind := (unitBytes (word (p.kind % 2 ^ 16))).take 4
  let crc := Nat.xor ((bytes ++ head.flatMap unitBytes ++ kind).foldl (crcByteR 0xEDB88320) 0xFFFFFFFF) 0xFFFFFFFF
  let parity := (List.range 4).flatMap fun k => bchParity ((bytes.drop (1024 * k)).take 1024)
  let unit (k : Nat) : Word := word ((parity.drop (8 * k)).take 8 |>.foldr (fun b n => b.toNat + 256 * n) 0)
  head ++ [word (p.kind % 2 ^ 16 + crc * 2 ^ 32), BitVec.allOnes 64] ++ (List.range 28).map unit

/-- A unit of a page in the read buffer (Table 11.10): data, spare bytes, or 0 with ECC 3. An erased page reads all ones (R304). -/
def pageUnit (s : State) (d b p u : Nat) (bad : Bool) : Word × Nat :=
  if 544 ≤ u then (0, 3)
  else match (getB s d b).pages[p]? with
    | none => (BitVec.allOnes 64, 0)
    | some y => (if u < 512 then y.data.getD u 0 else (spareUnits y).getD (u - 512) 0, if bad then 2 else 0)

/-- What a read of an MRAM unit finds wrong with it: one bit, corrected, or more. -/
abbrev ReadErr := Fin 3

/-- A read of HNK_RD_DATA (R317): the unit and the state after it; `err` is what the read finds wrong in an MRAM unit. A NAND page that is not in the buffer is fetched first; ADDR stays
meanwhile. -/
def hankRead (s : State) (who : Who) (err : ReadErr := 0) : Word × State :=
  let k := keyWho who rHnkRdSel
  let sel := regGet s k rHnkRdSel
  let a := bits sel 59 0
  let next (s : State) (e : Nat) : State :=
    regPut { s with hank := { s.hank with rdEcc := e } } k rHnkRdSel (setBits sel 59 0 (a + 1))
  if bits sel 63 60 = 5 then
    let d := bits sel 59 59
    let b := bits sel 48 32
    let p := bits sel 23 16
    if !nandUp s d ∨ s.integ.nBlocks ≤ b ∨ s.integ.nPages ≤ p then (0, next s 3)
    else
      let n := getN s d
      if n.cache = some (b, p) then
        let r := pageUnit s d b p (bits sel 9 0) n.cacheBad
        (r.1, next s r.2)
      else (0, nandIdle (setN s d { n with want := some (n.want.getD (b, p)) }) d)
  else
    match hankAddr s (bits sel 63 60) a with
    | none => let r := hankUnit s (bits sel 63 60) a; (r.1, next s r.2)
    | some k =>
      let s1 := if err.val = 2 ∨ s.hank.bad.contains k then mramError s k else s
      let r := hankUnit { s with hank := { s.hank with bad := if err.val = 2 then k :: s.hank.bad else s.hank.bad } } (bits sel 63 60) a
      (r.1, next s1 (if r.2 = 0 then err.val else r.2))

/-- HNK_RD_DATA_READ (R317). -/
def execHnkRdDataRead (r : UnitRead) (s : State) : Host.Outcome State Fault Refusal :=
  if mayReg s r.who rHnkRdData false 0 then ok (hankRead s r.who r.err).2 else ok s

/-- HNK_RD_STAT.BUSY: a page is being fetched. -/
def rdBusy (s : State) : Bool := (List.range 2).any fun d => (getN s d).want.isSome

end Sys2Proof.Machine
end

