-- ==== Sys2Proof/Machine/Dump.lean ====
section
/-! DEFINITION. The dump program's start and end (R213 to R215, R226, R228, R229, R231, R233) and Whorls that leave service (R424). -/

namespace Sys2Proof.Machine

/-! ### DUMP records (R228, R229) -/

/-- A DUMP record: KIND, STATUS, CORE and payload; its source is the Whorl that runs the program. -/
def dumpRec (w kind status core : Nat) (pay : List Word) : Rec :=
  mkRec (srcDistaff w) 0x0C 4 (kind * 2 ^ 32 + status * 2 ^ 28 + core * 2 ^ 16) pay

/-- The ADDR unit. -/
def dumpAddr (ndata bad addr : Nat) : Word := word (ndata * 2 ^ 60 + bad % 2 ^ 14 * 2 ^ 46 + addr % 2 ^ 46)

/-- The record of what was not written (status TRUNC): words not read from an address on. -/
def truncRec (w kind core addr n : Nat) : Rec := dumpRec w kind 12 core [dumpAddr 0 0 addr, word (n % 2 ^ 32)]

/-- END (Table 8.9). -/
def endRec (w num ldone flags time units bad failed : Nat) : Rec :=
  dumpRec w 15 0 0 [word (num * 2 ^ 32 + ldone * 2 ^ 30 + flags * 2 ^ 27), word time, word units,
    word (bad % 2 ^ 32 * 2 ^ 32 + failed % 2 ^ 32)]

/-! ### Start (R213, R214) -/

/-- The Whorl that runs the dump program, and whether it is another than the one named: the named one when it runs program 1, else the
lowest-numbered one in RESET, on which the hub loads it. -/
def dumpWhorl (s : State) : Option (Nat × Bool) :=
  let w := regF s rHngCtrl 10 8
  if (getW s w).st = .running ∧ (getW s w).rom = some 1 then some (w, false)
  else ((List.range 8).find? fun n => (getW s n).st = .reset).map fun n => (n, true)

/-- The cut of a dump that no Whorl can run (R213). -/
def dumpSnip (s : State) (p : Nat) : State := let a := silentWaiter s; haltReq a.2 p 3 a.1

/-- Whether a dump goes to the window first, to be copied to NAND (R227). -/
def dumpStaged (s : State) : Bool :=
  regF s rDmpCtrl 4 3 == 3 && decide (2 ≤ regF s rDmpCtrl 1 0) && bit (reg s rDmpCtrl) 7

/-- Step 2 of Table 8.1 on a Whorl: leases on the D route and the dump mover, the route for DMP_CTRL.DEST, or for the window that stands before
it, and SNIP. -/
def dumpBegin (s0 : State) (w : Nat) (d : Decl) : State :=
  let a := silentWaiter s0
  let s := a.2
  let staged := dumpStaged s
  let s1 : State := { s with hang := { s.hang with running := some d, whorl := some w, startAt := s.ht, blocks := 0, units := 0, bad := 0,
                                                   failed := 0, work := { DumpWork.fresh with waiter := a.1.opId, staged := staged } } }
  let s2 := (leaseTry s1 w (word (5 * 2 ^ 60)) 0).2.2
  let s3 := (leaseTry s2 w (word (6 * 2 ^ 60)) 0).2.2
  let dest := if staged then 2 else regF s rDmpCtrl 4 3
  let s4 := if dest = 0 then s3 else setRegF s3 rTrcDRoute 1 0 dest
  let s5 := setRegF (setRegF s4 rDmpStat 63 32 d.num) rDmpStat 31 25 0
  haltReq (setRegF s5 rDmpWinStat 55 32 0) d.part 3 a.1

/-- DUMP_PROGRAM_START (R213, R214 step 1): the next declaration, while no dump runs. -/
def execDumpProgramStart (s : State) : Host.Outcome State Fault Refusal :=
  match s.hang.queue with
  | [] => ok s
  | d :: t =>
    if s.hang.running.isSome ∨ !bit (reg s rHngCtrl) 0 then ok s
    else
      let s1 : State := { s with hang := { s.hang with queue := t } }
      match dumpWhorl s1 with
      | some (w, false) => ok (dumpBegin s1 w d)
      | some (w, true) => ok (dumpBegin (countF (loadRomAuto s1 w 1) rHngStat 6 6 1) w d)
      | none => ok (dumpSnip { s1 with hang := { s1.hang with ended := s1.hang.ended ||| word (2 ^ d.part) } } d.part)

/-! ### End (R212, R233) -/

/-- A dump ends (Table 8.1, step 9): DMP_STAT, HEVT DUMP_END, line 2, its leases released. Flags are TRUNC, ABORT, GRAPH_TRUNC and
PARTIAL, from bit 3 down. -/
def dumpFinish (s : State) (w : Nat) (d : Decl) (level flags : Nat) : State :=
  let s1 := setRegF (setRegF s rDmpStat 31 30 level) rDmpStat 29 26 flags
  let s2 := raiseLine (hevt s1 0x801 (flags * 2 ^ 10 + level * 2 ^ 8 + d.part) [word (d.num * 2 ^ 32 + s.hang.blocks % 2 ^ 32)]) 2
  let s3 := forAll ((List.range 64).filter fun h => (getLease (getW s2 w) h).any fun l => leaseRes l.req == 5 || leaseRes l.req == 6)
    (fun s h => leaseEnd s w h) s2
  let s4 := s3.hang.work.op.elim s3 (giveUp s3)
  { s4 with hang := { s4.hang with running := none, whorl := none, ended := s4.hang.ended ||| word (2 ^ d.part), work := DumpWork.fresh } }

/-- The dump program's commit of its final index entry ends the dump (Table 8.1, step 9). -/
def dumpCommitted (s : State) (w : Nat) (body : List Word) : State :=
  match s.hang.running with
  | none => s
  | some d =>
    let u := body.getD 0 0
    if s.hang.whorl = some w ∧ bits u 63 32 = d.num ∧ bits u 31 28 ≠ 1 then dumpFinish s w d (bits u 27 26) (bits u 21 18) else s

/-- The ranges of DMP_LIST that are not skipped (R224): address and length. -/
def dumpRanges (s : State) : List (Nat × Nat) :=
  let us := readUnits s.hubMem (8 * regF s rDmpList 22 3) (2 * min 16 (regF s rDmpList 27 23))
  ((pairUp us).map fun e => (e.1.toNat, e.2.toNat)).filter fun e => e.2 ≠ 0

/-- The cores of a partition, in ascending index. -/
def dumpCores (s : State) (p : Nat) : List Nat := sortBy id (((clustersOfPart s p).flatMap coresOfCluster).filter (coreIn s))

/-- A stretch cut into pieces of a size: the start and the length of each. -/
def pieces (size start n : Nat) : List (Nat × Nat) :=
  (List.range ((n + size - 1) / size)).map fun i => (start + size * i, min size (n - size * i))

/-- The cores of a partition in the order in which TRUNCATE takes them (R231): those with a marked engine node first. -/
def dumpOrder (s : State) (p : Nat) : List Nat :=
  let l := dumpCores s p
  l.filter (s.hang.work.marked.contains ·) ++ l.filter fun c => !s.hang.work.marked.contains c

/-- The seams of a partition's cut whose buffer lies on this die, by number (R100, R101). -/
def cutSeams (s : State) (p : Nat) : List Nat :=
  (List.range s.integ.seams.length).filter fun k => s.integ.seams[k]?.any fun m => decide (m ∈ partSeams s p) && m.endK != 2

/-- The pieces of one level, core by core or, with `all`, each piece of every core of a type at once. -/
def levelItems (s : State) (p level : Nat) (all : Bool) : List DumpItem :=
  let ty (c : Nat) : Nat := tget 0 s.integ.siteType (siteOf s c)
  let order := dumpOrder s p
  let types := (order.map ty).eraseDups
  let groups := if all then types.map fun t => order.filter fun c => ty c = t else order.map fun c => [c]
  match level with
  | 1 => (groups.flatMap fun l => ((typeOf s (siteOf s (l.headD 0))).dumpRegs.flatMap fun r => pieces 14 r.1 r.2).map fun e => .cregs l e.1 e.2) ++
      (cutSeams s p).map .seam
  | 2 =>
    if all ∧ types.length = 1 then (pieces 32 0 (typeOf s (siteOf s (order.headD 0))).lmWords).map fun e => .lmem none e.1 e.2 false
    else order.flatMap fun c => (pieces 32 0 (typeOf s (siteOf s c)).lmWords).map fun e => .lmem (some c) e.1 e.2 false
  | 3 => ((dumpRanges s).zipIdx).flatMap fun e => (pieces 14 (e.1.1 / 8) (e.1.2 / 8)).map fun x => .hbm e.2 (8 * x.1) x.2
  | _ => []

/-- The pieces of the levels from 1 up to one. -/
def itemsTo (s : State) (p level : Nat) (all : Bool) : List DumpItem :=
  (List.range level).flatMap fun n => levelItems s p (n + 1) all

/-- The level of a piece (Table 8.7). -/
def itemLevel : DumpItem → Nat
  | .waits _ | .object .. => 0
  | .cregs .. | .seam _ => 1
  | .lmem .. => 2
  | .hbm .. => 3

/-- What was not written of a piece: for each core, or for the range or seam as 4096 + its place, the kind, the address and the words. -/
def itemLost (s : State) (p : Nat) : DumpItem → List (Nat × Nat × Nat × Nat)
  | .cregs l r n => l.map fun c => (1, c, r, n)
  | .seam k => [(3, 4096 + k, k * 2 ^ 24, 1 + (s.integ.seams[k]?.elim 0 Seam.bufN))]
  | .lmem c a n _ => (c.elim (dumpCores s p) fun c => [c]).map fun c => (2, c, a, n)
  | .hbm k a n => [(8, 4096 + k, a / 8, n)]
  | _ => []

/-- One TRUNC record for each core or range not written (R231): from its first address on, the words of all its pieces. -/
def truncRecs (s : State) (w p : Nat) (l : List DumpItem) : List Rec :=
  let lost := l.flatMap (itemLost s p)
  let keys := (lost.map fun e => (e.1, e.2.1)).eraseDups
  keys.map fun k =>
    let mine := lost.filter fun e => (e.1, e.2.1) = k
    truncRec w k.1 (if 4096 ≤ k.2 then 0 else k.2) ((mine.map fun e => e.2.2.1).headD 0) ((mine.map fun e => e.2.2.2).sum)

/-- Whether the dump's destination accepts records (Table 8.6). -/
def destAccepts (s : State) : Bool :=
  match dRoute s with
  | 1 => bit (reg s rTptCtrl) 0 && (!(streamLanes s true).isEmpty || !(streamLanes s false).isEmpty)
  | 2 => windowSpace s
  | 3 => nandUp s 0 || nandUp s 1
  | _ => false

/-- The final dump index entry of a dump (Table 11.6): COMPLETE. -/
def finalEntry (s : State) (d : Decl) (level flags : Nat) : List Word :=
  let slot := s.hank.l0Slot.elim 0 fun e => if e.1 = d.num then 2 ^ 13 + e.2 * 2 ^ 8 else 0
  [word (d.num * 2 ^ 32 + 2 * 2 ^ 28 + level * 2 ^ 26 + regF s rDmpCtrl 4 3 * 2 ^ 24 + flags * 2 ^ 18 + d.cause * 2 ^ 14 + slot + d.part),
   word d.time, word s.ht, word (s.hang.blocks % 2 ^ 32 * 2 ^ 32 + (s.hang.bad + s.hang.failed) % 2 ^ 32), 0,
   s.integ.devid.setWidth 64, 0, 0]

/-- Whether a record is a DUMP record. -/
def isDump (r : Rec) : Bool := recType r == 0x0C

/-- END of the dump that runs, behind some records that are still to go: LDONE, TRUNC, ABORT and GRAPH_TRUNC, and the counts of the records
before it (Table 8.9). -/
def endOf (s : State) (w : Nat) (d : Decl) (ldone flags : Nat) (l : List Rec) : Rec :=
  let more := (s.hang.work.out ++ s.funnel.local_ ++ l).filter isDump
  let n (a b : Nat) : Nat := (more.filter fun r => decide (a ≤ bits r.hdr 31 28) && decide (bits r.hdr 31 28 ≤ b)).length
  endRec w d.num ldone flags s.ht (s.hang.units + unitsOf more) (s.hang.bad + n 1 2) (s.hang.failed + n 3 15)

/-- What is left to write of the dump that runs. -/
def dumpLeft (s : State) (p : Nat) : List DumpItem :=
  let x := s.hang.work
  match x.phase with
  | .last | .copy => []
  | .l0 => itemsTo s p x.lplan true
  | .level => x.skipped ++ x.item.toList ++ x.todo
  | _ => itemsTo s p (regF s rDmpCtrl 1 0) true

/-- The level that a dump completes when some pieces are not written. -/
def levelDone (lplan : Nat) (l : List DumpItem) : Nat := l.foldl (fun n x => min n (itemLevel x - 1)) lplan

/-- A dump's limit has passed (R214, R233): the program stops issuing, and TRUNC records for what remains and END with ABORT wait for the
mover. -/
def dumpAbort (s : State) (w : Nat) (d : Decl) : State :=
  let x := s.hang.work
  let s1 := x.op.elim s (giveUp s)
  let lost := dumpLeft s d.part
  let l := if x.mram then [] else truncRecs s w d.part lost
  let e := endOf s w d 0 (4 * b2n (!lost.isEmpty) + 2 + b2n x.cutShort) l
  { s1 with hang := { s1.hang with work := { x with phase := .abort, op := none, item := none, todo := [], skipped := lost, askedAt := s.ht,
                                                    out := if x.mram then [] else x.out ++ l ++ [e] } } }

/-- DUMP_TIMEOUT (R214, R233): DMP_TMO has passed since the dump's step 2. -/
def execDumpTimeout (s : State) : Host.Outcome State Fault Refusal :=
  match s.hang.running, s.hang.whorl with
  | some d, some w =>
    if s.hang.startAt + (reg s rDmpTmo).toNat ≤ s.ht ∧ s.hang.work.phase ≠ .abort then ok (dumpAbort s w d) else ok s
  | _, _ => ok s

/-! ### A Whorl that leaves service -/

/-- WHORL_OUT (R424). With the recovery engine stopped the failure is reported and the Whorl stays (R428). -/
def execWhorlOut (w : Fin 8) (s : State) : Host.Outcome State Fault Refusal :=
  if (getW s w).st = .out then ok s
  else if s.boot.recStop then ok (healthChange s 9 w true)
  else ok (whorlOut s w)

end Sys2Proof.Machine
end

