-- ==== Sys2Proof/Machine/Lopra.lean ====
section
/-! DEFINITION. The instructions that a Whorl completes itself: ALU, immediates, branches, SYS, set moves, timers, waits and event
lines (R236, R239 to R251, Tables 9.8 to 9.11). -/

namespace Sys2Proof.Machine

/-! ### Fetch and stalls -/

/-- Whether an instruction may be fetched at pc (R261, R256): the code area of the image, or ROM for a ROM program. -/
def codeAt (x : Whorl) : Bool :=
  x.pc.toNat % 4 == 0 &&
    (if x.rom.isSome then decide (0x2000000 ≤ x.pc.toNat) && decide (x.pc.toNat < 0x2080000)
     else decide (0x1000000 ≤ x.pc.toNat) && decide (x.pc.toNat < 0x1000000 + x.codeBytes))

/-- Whether a register waits for the result of a PENDING ticket (R242). -/
def busy (x : Whorl) (r : Nat) : Bool := r != 0 && x.tk.any fun e => e.2.st == .pending && e.2.result == some r

/-- An instruction of a RUNNING Whorl: FETCH when it cannot be fetched, a stall (no change) while a register it names is busy, and
otherwise its effect. -/
def insn (s : State) (w : Nat) (rs : List Nat) (f : Whorl → State) : Host.Outcome State Fault Refusal :=
  let x := getW s w
  if x.st ≠ .running then ok s
  else if !codeAt x then ok (whorlFault s w .fetch (x.pc.setWidth 64))
  else if rs.any (busy x) then ok s
  else ok (f x)

/-- The return address, and pc after an instruction that does not branch. -/
def nextPc (x : Whorl) : BitVec 32 := x.pc + 4

/-- pc moved to the next instruction. -/
def advance (x : Whorl) : Whorl := { x with pc := nextPc x }

/-- An instruction whose one result goes to g[d]. -/
def setD (s : State) (w d : Nat) (x : Whorl) (v : Word) : State := setW s w (advance (setG x d v))

/-! ### ALU (Table 9.9) -/

/-- Bits of a word that are 1. -/
def popc (a : Word) : Nat := ((List.range 64).filter fun i => a.getLsbD i).length

/-- Leading zeros, 64 for 0. -/
def clz (a : Word) : Nat := ((List.range 64).takeWhile fun i => !a.getLsbD (63 - i)).length

/-- Trailing zeros, 64 for 0. -/
def ctz (a : Word) : Nat := ((List.range 64).takeWhile fun i => !a.getLsbD i).length

/-- Table 9.9. -/
def aluOp (f : AluFn) (a b : Word) : Word :=
  match f with
  | .add => a + b
  | .sub => a - b
  | .and => a &&& b
  | .or => a ||| b
  | .xor => a ^^^ b
  | .sll => a <<< bits b 5 0
  | .srl => a >>> bits b 5 0
  | .sra => a.sshiftRight (bits b 5 0)
  | .slt => word (b2n (a.slt b))
  | .sltu => word (b2n (a.ult b))
  | .mul => a * b
  | .mulhu => word (a.toNat * b.toNat / 2 ^ 64)
  | .min => if b.slt a then b else a
  | .max => if a.slt b then b else a
  | .minu => if b.ult a then b else a
  | .maxu => if a.ult b then b else a
  | .popc => word (popc a)
  | .clz => word (clz a)
  | .ctz => word (ctz a)

/-- A 16-bit immediate, sign-extended (R254). -/
def immS (i : BitVec 16) : Word := i.signExtend 64
/-- A 16-bit immediate, zero-extended (R254). -/
def immZ (i : BitVec 16) : Word := i.setWidth 64

/-- ALU (R255, Table 9.9). -/
def execAlu (w : Fin 8) (fn : AluFn) (d a b : Fin 32) (s : State) : Host.Outcome State Fault Refusal :=
  insn s w [d, a, b] fun x => setD s w d x (aluOp fn (gReg x a) (gReg x b))

/-- ADDI. -/
def execAddi (w : Fin 8) (d a : Fin 32) (imm : BitVec 16) (s : State) : Host.Outcome State Fault Refusal :=
  insn s w [d, a] fun x => setD s w d x (gReg x a + immS imm)

/-- ANDI: zero-extended. -/
def execAndi (w : Fin 8) (d a : Fin 32) (imm : BitVec 16) (s : State) : Host.Outcome State Fault Refusal :=
  insn s w [d, a] fun x => setD s w d x (gReg x a &&& immZ imm)

/-- ORI: zero-extended. -/
def execOri (w : Fin 8) (d a : Fin 32) (imm : BitVec 16) (s : State) : Host.Outcome State Fault Refusal :=
  insn s w [d, a] fun x => setD s w d x (gReg x a ||| immZ imm)

/-- XORI: zero-extended. -/
def execXori (w : Fin 8) (d a : Fin 32) (imm : BitVec 16) (s : State) : Host.Outcome State Fault Refusal :=
  insn s w [d, a] fun x => setD s w d x (gReg x a ^^^ immZ imm)

/-- SLTI: signed. -/
def execSlti (w : Fin 8) (d a : Fin 32) (imm : BitVec 16) (s : State) : Host.Outcome State Fault Refusal :=
  insn s w [d, a] fun x => setD s w d x (word (b2n ((gReg x a).slt (immS imm))))

/-- SLTIU: the sign-extended immediate and g[a] compared unsigned. -/
def execSltiu (w : Fin 8) (d a : Fin 32) (imm : BitVec 16) (s : State) : Host.Outcome State Fault Refusal :=
  insn s w [d, a] fun x => setD s w d x (word (b2n ((gReg x a).ult (immS imm))))

/-- INSH: bits [16 lane + 15 : 16 lane] of g[d] replaced. -/
def execInsh (w : Fin 8) (d : Fin 32) (lane : Fin 4) (imm : BitVec 16) (s : State) : Host.Outcome State Fault Refusal :=
  insn s w [d] fun x => setD s w d x (setBits (gReg x d) (16 * lane.val + 15) (16 * lane.val) imm.toNat)

/-! ### Branches and jumps (R254) -/

/-- A target: the address of the instruction after this one plus 4 × the offset. -/
def target (x : Whorl) (off : BitVec 32) : BitVec 32 := nextPc x + off * 4

/-- A branch by a sign-extended 16-bit offset, taken or not. -/
def branch (s : State) (w : Nat) (x : Whorl) (taken : Bool) (imm : BitVec 16) : State :=
  setW s w { x with pc := if taken then target x (imm.signExtend 32) else nextPc x }

/-- BEQ. -/
def execBeq (w : Fin 8) (d a : Fin 32) (imm : BitVec 16) (s : State) : Host.Outcome State Fault Refusal :=
  insn s w [d, a] fun x => branch s w x (gReg x d == gReg x a) imm

/-- BNE. -/
def execBne (w : Fin 8) (d a : Fin 32) (imm : BitVec 16) (s : State) : Host.Outcome State Fault Refusal :=
  insn s w [d, a] fun x => branch s w x (gReg x d != gReg x a) imm

/-- BLT: signed. -/
def execBlt (w : Fin 8) (d a : Fin 32) (imm : BitVec 16) (s : State) : Host.Outcome State Fault Refusal :=
  insn s w [d, a] fun x => branch s w x ((gReg x d).slt (gReg x a)) imm

/-- BGE: signed. -/
def execBge (w : Fin 8) (d a : Fin 32) (imm : BitVec 16) (s : State) : Host.Outcome State Fault Refusal :=
  insn s w [d, a] fun x => branch s w x (!(gReg x d).slt (gReg x a)) imm

/-- BLTU. -/
def execBltu (w : Fin 8) (d a : Fin 32) (imm : BitVec 16) (s : State) : Host.Outcome State Fault Refusal :=
  insn s w [d, a] fun x => branch s w x ((gReg x d).ult (gReg x a)) imm

/-- BGEU. -/
def execBgeu (w : Fin 8) (d a : Fin 32) (imm : BitVec 16) (s : State) : Host.Outcome State Fault Refusal :=
  insn s w [d, a] fun x => branch s w x (!(gReg x d).ult (gReg x a)) imm

/-- J. -/
def execJ (w : Fin 8) (off : BitVec 26) (s : State) : Host.Outcome State Fault Refusal :=
  insn s w [] fun x => setW s w { x with pc := target x (off.signExtend 32) }

/-- JAL: g31 takes the return address. -/
def execJal (w : Fin 8) (off : BitVec 26) (s : State) : Host.Outcome State Fault Refusal :=
  insn s w [31] fun x =>
    setW s w { setG x 31 ((nextPc x).setWidth 64) with pc := target x (off.signExtend 32) }

/-! ### SYS (Table 9.10) -/

/-- NOP. -/
def execNop (w : Fin 8) (s : State) : Host.Outcome State Fault Refusal :=
  insn s w [] fun x => setW s w (advance x)

/-- JR: pc takes the low 32 bits of g[a]. -/
def execJr (w : Fin 8) (a : Fin 32) (s : State) : Host.Outcome State Fault Refusal :=
  insn s w [a] fun x => setW s w { x with pc := (gReg x a).setWidth 32 }

/-- JALR: g[a] is read before g[d] is written. -/
def execJalr (w : Fin 8) (d a : Fin 32) (s : State) : Host.Outcome State Fault Refusal :=
  insn s w [d, a] fun x => setW s w { setG x d ((nextPc x).setWidth 64) with pc := (gReg x a).setWidth 32 }

/-- RDTIME. -/
def execRdtime (w : Fin 8) (d : Fin 32) (s : State) : Host.Outcome State Fault Refusal :=
  insn s w [d] fun x => setD s w d x (word s.ht)

/-- A timer armed (R247): at once expired when its value has passed. -/
def armTimer (s : State) (v : Word) : Timer := ⟨some v, decide (v.toNat ≤ s.ht)⟩

/-- TSET (R247). -/
def execTset (w : Fin 8) (t : Fin 4) (a : Fin 32) (s : State) : Host.Outcome State Fault Refusal :=
  insn s w [a] fun x => setW s w (advance (setTimer x t (armTimer s (gReg x a))))

/-- TCLR (R247). -/
def execTclr (w : Fin 8) (t : Fin 4) (s : State) : Host.Outcome State Fault Refusal :=
  insn s w [] fun x => setW s w (advance (setTimer x t Timer.fresh))

/-- TRD (R247). -/
def execTrd (w : Fin 8) (d : Fin 32) (t : Fin 4) (s : State) : Host.Outcome State Fault Refusal :=
  insn s w [d] fun x => setD s w d x ((getTimer x t).armed.getD (BitVec.allOnes 64))

/-- A deadline span as SETDL stores it (R241). -/
def clampDl (v : Word) : Nat := max 400 (min v.toNat (2 ^ 40))

/-- SETDL (R241). -/
def execSetdl (w : Fin 8) (a : Fin 32) (s : State) : Host.Outcome State Fault Refusal :=
  insn s w [a] fun x => setW s w (advance { x with dl := clampDl (gReg x a) })

/-- RDDL. -/
def execRddl (w : Fin 8) (d : Fin 32) (s : State) : Host.Outcome State Fault Refusal :=
  insn s w [d] fun x => setD s w d x (word x.dl)

/-- A wake word (Table 9.5). -/
def wakeWord (why num status count : Nat) : Word := word (why * 2 ^ 62 + num * 2 ^ 56 + status * 2 ^ 48 + count)

/-- The wake word of WHY NONE. -/
def wakeNone : Word := wakeWord 3 0 0 0

/-- The wake word of a ticket, as TKST reports it (Table 9.10). -/
def tkWord (x : Whorl) (t : Nat) : Word :=
  let k := getTk x t
  match k.st with
  | .free => wakeNone
  | .pending => wakeWord 0 t 0xFF 0
  | .done => wakeWord 0 t (statusCode k.status) k.count.toNat

/-- TKST. -/
def execTkst (w : Fin 8) (d a : Fin 32) (s : State) : Host.Outcome State Fault Refusal :=
  insn s w [d, a] fun x => setD s w d x (tkWord x (bits (gReg x a) 5 0))

/-- TKFREE (R240): it stalls while the ticket is PENDING. -/
def execTkfree (w : Fin 8) (a : Fin 32) (s : State) : Host.Outcome State Fault Refusal :=
  insn s w [a] fun x =>
    let t := bits (gReg x a) 5 0
    if (getTk x t).st = .pending then s else setW s w (advance (setTk x t Ticket.fresh))

/-- The mask of PENDING tickets. -/
def pendMask (x : Whorl) : Word :=
  word (((List.range 64).filter fun t => (getTk x t).st = .pending).map fun t => 2 ^ t).sum

/-- TKPEND. -/
def execTkpend (w : Fin 8) (d : Fin 32) (s : State) : Host.Outcome State Fault Refusal :=
  insn s w [d] fun x => setD s w d x (pendMask x)

/-- WHOAMI: Whorl number, TENANT and TEN at the load, and whether the program runs from ROM. -/
def execWhoami (w : Fin 8) (d : Fin 32) (s : State) : Host.Outcome State Fault Refusal :=
  insn s w [d] fun x => setD s w d x (word (b2n x.rom.isSome * 2 ^ 17 + x.owner.toNat * 2 ^ 8 + w.val))

/-- STOPW (R260): STOPPED after this instruction. -/
def execStopw (w : Fin 8) (s : State) : Host.Outcome State Fault Refusal :=
  insn s w [] fun x => whorlStop (setW s w (advance x)) w

/-! ### Fences (R251) -/

/-- Whether FENCE.AG waits for a kind of operation. -/
def isAgent : TkKind → Bool
  | .agent => true
  | _ => false

/-- Whether FENCE.ALL waits for a kind of operation: all but SEND and RECV. -/
def isFenced : TkKind → Bool
  | .send | .recv => false
  | _ => true

/-- A fence over some kinds: it stalls while one is PENDING, and counts those that ended TIMEOUT. -/
def fence (s : State) (w d : Nat) (p : TkKind → Bool) (x : Whorl) : State :=
  let l := (List.range 64).map fun t => getTk x t
  if l.any fun k => k.st == .pending && p k.kind then s
  else setD s w d x (word (l.filter fun k => k.st == .done && p k.kind && k.status == .timeout).length)

/-- FENCE_AG. -/
def execFenceAg (w : Fin 8) (d : Fin 32) (s : State) : Host.Outcome State Fault Refusal :=
  insn s w [d] fun x => fence s w d isAgent x

/-- FENCE_ALL. -/
def execFenceAll (w : Fin 8) (d : Fin 32) (s : State) : Host.Outcome State Fault Refusal :=
  insn s w [d] fun x => fence s w d isFenced x

/-! ### Set registers (Table 9.11) -/

/-- Set register n. -/
def sReg (x : Whorl) (n : Nat) : BitVec 128 := tget 0 x.sr n
/-- Set register n written. -/
def setSr (x : Whorl) (n : Nat) (v : BitVec 128) : Whorl := { x with sr := tput 0 x.sr n v }

/-- SMK. -/
def execSmk (w : Fin 8) (sd : Fin 16) (ga gb : Fin 32) (s : State) : Host.Outcome State Fault Refusal :=
  insn s w [ga, gb] fun x => setW s w (advance (setSr x sd (gReg x ga ++ gReg x gb)))

/-- SMV. -/
def execSmv (w : Fin 8) (sd sa : Fin 16) (s : State) : Host.Outcome State Fault Refusal :=
  insn s w [] fun x => setW s w (advance (setSr x sd (sReg x sa)))

/-- A descriptor with ENG, bits [123:120], replaced. -/
def withEng (d : BitVec 128) (e : Nat) : BitVec 128 :=
  (d &&& ~~~ (0xF#128 <<< 120)) ||| (BitVec.ofNat 128 (e % 16) <<< 120)

/-- SENG. -/
def execSeng (w : Fin 8) (sd sa : Fin 16) (gb : Fin 32) (s : State) : Host.Outcome State Fault Refusal :=
  insn s w [gb] fun x => setW s w (advance (setSr x sd (withEng (sReg x sa) (bits (gReg x gb) 3 0))))

/-- SRD: the high half to g[ga], then the low half to g[gb]. -/
def execSrd (w : Fin 8) (sa : Fin 16) (ga gb : Fin 32) (s : State) : Host.Outcome State Fault Refusal :=
  insn s w [ga, gb] fun x =>
    let v := sReg x sa
    setD s w gb (setG x ga ((v >>> 64).setWidth 64)) (setLo v)

/-! ### Waiting (R248, R249) -/

/-- What WAIT reports. -/
inductive Ready where
  | ticket (t : Nat)
  | line (n : Nat)
  | timer (t : Nat)
  deriving DecidableEq, Repr

/-- The item of the ready set that is reported: tickets, then lines, then timers, each in ascending number. -/
def readyItem (s : State) (w : Nat) (x : Whorl) (tm em : Word) (tmask : BitVec 4) : Option Ready :=
  match (List.range 64).find? fun t => bit tm t && (getTk x t).st == .done with
  | some t => some (.ticket t)
  | none => match (List.range 64).find? fun n => bit em n && bit (tget 0 s.evPend w) n with
    | some n => some (.line n)
    | none => ((List.range 4).find? fun t => tmask.getLsbD t && (getTimer x t).expired).map .timer

/-- Whether a WAIT with an empty ready set has anything to wait for. -/
def waitsFor (x : Whorl) (tm em : Word) (tmask : BitVec 4) : Bool :=
  (List.range 64).any (fun t => bit tm t && (getTk x t).st != .free) || em != 0 ||
    (List.range 4).any fun t => tmask.getLsbD t && (getTimer x t).armed.isSome

/-- An item reported in g[d] and taken: the ticket freed, the line cleared or the timer disarmed. -/
def reportItem (s : State) (w d : Nat) (x : Whorl) : Ready → State
  | .ticket t => setD s w d (setTk x t Ticket.fresh) (tkWord x t)
  | .line n => setPend (setD s w d x (wakeWord 1 n 0 0)) w (tget 0 s.evPend w &&& ~~~ word (2 ^ n))
  | .timer t => setD s w d (setTimer x t Timer.fresh) (wakeWord 2 t 0 0)

/-- WAIT (R248): it stalls while the ready set is empty and something may still come. -/
def execWait (w : Fin 8) (d a b : Fin 32) (tm : BitVec 4) (s : State) : Host.Outcome State Fault Refusal :=
  insn s w [d, a, b] fun x =>
    match readyItem s w x (gReg x a) (gReg x b) tm with
    | some r => reportItem s w d x r
    | none => if waitsFor x (gReg x a) (gReg x b) tm then s else setD s w d x wakeNone

/-- POLL (R248). -/
def execPoll (w : Fin 8) (d a b : Fin 32) (tm : BitVec 4) (s : State) : Host.Outcome State Fault Refusal :=
  insn s w [d, a, b] fun x =>
    match readyItem s w x (gReg x a) (gReg x b) tm with
    | some r => reportItem s w d x r
    | none => setD s w d x wakeNone

/-! ### Event lines (R246) -/

/-- EVSET: lines 16 to 63 of g[b]. -/
def execEvset (w : Fin 8) (b : Fin 32) (s : State) : Host.Outcome State Fault Refusal :=
  insn s w [b] fun x => raiseLines (setW s w (advance x)) (gReg x b &&& ~~~ 0xFFFF)

/-- EVCLR. -/
def execEvclr (w : Fin 8) (b : Fin 32) (s : State) : Host.Outcome State Fault Refusal :=
  insn s w [b] fun x => setPend (setW s w (advance x)) w (tget 0 s.evPend w &&& ~~~ gReg x b)

/-- EVRD. -/
def execEvrd (w : Fin 8) (d : Fin 32) (s : State) : Host.Outcome State Fault Refusal :=
  insn s w [d] fun x => setD s w d x (tget 0 s.evPend w)

end Sys2Proof.Machine
end

