-- ==== Sys2Proof/Machine/Async.lean ====
section
/-! DEFINITION. The asynchronous Lopra instructions and the leases: address checks, tickets, form, rights and lease checks, and the
operation each hands to the hub (10 R267 to R286, 09 R239 to R243). -/

namespace Sys2Proof.Machine

/-! ### Operand buffers (R237, R267, R414) -/

/-- Why a buffer of n bytes at a Whorl address cannot be used, if so: ALIGN, then ADDR, then RIGHTS. -/
def bufBad (s : State) (w : Nat) (x : Whorl) (a n align : Nat) (wr : Bool) : Option FCode :=
  if a % align ≠ 0 then some .align
  else if 0x1000000 ≤ a ∧ a + n ≤ 0x1010000 then (if wr ∧ a < 0x1000000 + x.codeBytes then some .addr else none)
  else if 0x100000 ≤ a ∧ a + n ≤ 0x900000 then (if mayMem s (.whorl w) (a - 0x100000) n wr then none else some .rights)
  else some .addr

/-- The units of a buffer, the Whorl's own local store or hub memory. -/
def bufUnits (s : State) (x : Whorl) (a n : Nat) : List Word :=
  if 0x1000000 ≤ a then readUnits x.ls (a - 0x1000000) n else readUnits s.hubMem (a - 0x100000) n

/-- An instruction that goes on only when its buffer is good, and faults otherwise (R267). -/
def withBuf (s : State) (w a : Nat) (bad : Option FCode) (go : State) : State :=
  match bad with
  | some c => whorlFault s w c (word a)
  | none => go

/-! ### Issue (R239, R240, R267, R268) -/

/-- The lowest FREE ticket. -/
def freeTk (x : Whorl) : Option Nat := (List.range 64).find? fun t => (getTk x t).st == .free

/-- The first of the three checks that fails: form NOAGENT, rights RIGHTS, leases LOCKED. -/
def checks (form rights leases : Bool) : Option Status :=
  if !form then some .noagent else if !rights then some .rights else if !leases then some .locked else none

/-- The ticket of an operation: DONE at once with count 0 when a check failed, else PENDING, with a deadline when it leaves the Whorl
now (R241). -/
def mkTicket (s : State) (x : Whorl) (kind : TkKind) (bad : Option Status) (now : Bool) (result chan : Option Nat) (lease : List Nat)
    (id : Nat) : Ticket :=
  match bad with
  | some st => ⟨.done, st, 0, kind, none, x.dl, none, [], none, id⟩
  | none => ⟨.pending, .ok, 0, kind, if now then some (s.ht + x.dl) else none, x.dl, result, lease, chan, id⟩

/-- Issue: the lowest FREE ticket's number to g[d], or all ones and NOTKT; then, unless a check failed, the operation, which is given
the ticket's number and an operation number. -/
def issue (s : State) (w d : Nat) (x : Whorl) (kind : TkKind) (bad : Option Status) (now : Bool) (result chan : Option Nat)
    (lease : List Nat) (act : State → Nat → Nat → State) : State :=
  match freeTk x with
  | none => setW s w (advance (setG { x with notkt := satAdd 16 x.notkt 1 } d (BitVec.allOnes 64)))
  | some t =>
    let id := s.opCtr
    let k := mkTicket s x kind bad now result chan lease id
    let s1 := setW { s with opCtr := id + 1 } w (advance (setG (setTk x t k) d (word t)))
    if bad.isSome then s1 else act s1 t id

/-- The handle under which a Whorl holds each of some resources, or none when one is not held: codes 64 × Whorl + handle. -/
def leaseCodes (x : Whorl) (w : Nat) : List Word → Option (List Nat)
  | [] => some []
  | v :: t => (heldBy x v).bind fun h => (leaseCodes x w t).map fun l => (64 * w + h) :: l

/-! ### Agent operations (R252, R270 to R272) -/

/-- The agents that an operation names: those of the set, none where its ENG names only absent slots at every one of them (R16). -/
def opSites (s : State) (d : BitVec 128) : List Nat :=
  let l := setSites s d
  if l.all fun i => decide ((slotsOf s i).toNat &&& setEng d = 0) then [] else l

/-- KIND ONE. -/
def kindOne (d : BitVec 128) : Bool := setKind d == 4

/-- An agent operation as its issuer hands it to the spine. -/
def mkOp (id issuer span : Nat) (owner : Owner) (d : BitVec 128) (sites : List Nat) (type : OpType) (reg : Nat) : Op :=
  { id := id, issuer := issuer, iseq := 0, epoch := 0, type := type, pre := [], reg := reg, set := d, sites := sites, todo := [],
    nodes := [], entry := 0, path := [], data := [], nWords := 0, lmAddr := 0, str := false, red := .none, one := setKind d == 4 || setKind d == 6,
    dl := none, span := span, buf := 0, owner := owner, held := none }

/-- An agent operation of a Whorl: its sites are taken at issue, and a set that names no agent completes NOAGENT (R253, R268). -/
def agentIssue (s : State) (w d : Nat) (x : Whorl) (kind : TkKind) (set : BitVec 128) (bad : Option Status) (result : Option Nat)
    (lease : List Nat) (mk : Op → Op) (type : OpType) (reg : Nat) : State :=
  let sites := opSites s set
  let bad1 := bad.or (if sites = [] then some .noagent else none)
  issue s w d x kind bad1 false result none lease fun s t id =>
    issueOp s (mk (mkOp id w x.dl (.ticket w t) set sites type reg))

/-- AGW (R270). -/
def execAgw (w : Fin 8) (d : Fin 32) (sa : Fin 16) (b : Fin 32) (reg : BitVec 8) (s : State) : Host.Outcome State Fault Refusal :=
  insn s w [d, b] fun x =>
    let set := sReg x sa
    agentIssue s w d x .agent set (checks (setForm s set) (setRights s (.whorl w) 3 set) true) none []
      (fun o => { o with data := [gReg x b] }) .write reg.toNat

/-- AGR (R270, R272): RED none needs KIND ONE; COLLECT needs a 16-byte aligned buffer in hub memory. -/
def execAgr (w : Fin 8) (d : Fin 32) (sa : Fin 16) (b : Fin 32) (reg : BitVec 8) (red : Red) (s : State) :
    Host.Outcome State Fault Refusal :=
  insn s w [d, b] fun x =>
    let set := sReg x sa
    let a := (gReg x b).toNat
    let col := decide (red = .collect)
    let bad := if col then bufBad s w x a (16 + 16 * (opSites s set).length) 16 true else none
    let form := setForm s set && (decide (red ≠ .none) || kindOne set) && (!col || decide (a < 0x1000000))
    withBuf s w a bad
      (agentIssue s w d x .agent set (checks form (setRights s (.whorl w) 3 set) true) (if col then none else some b.val) []
        (fun o => { o with red := red, buf := a - 0x100000 }) .read reg.toNat)

/-- BUF of a local-memory descriptor, as a hub-memory offset (Table 10.3). -/
def lmdBuf (v : Word) : Nat := 8 * bits v 63 44
/-- Words of a local-memory descriptor. -/
def lmdWords (v : Word) : Nat := bits v 43 36 + 1
/-- STR of a local-memory descriptor. -/
def lmdStr (v : Word) : Bool := bit v 35

/-- The form of a local-memory operation (R271): its field that must be 0, KIND ONE for a read that does not stream, a buffer inside
hub memory. -/
def lmdForm (s : State) (set : BitVec 128) (v : Word) (rd : Bool) : Bool :=
  setForm s set && bits v 34 24 == 0 && (!rd || lmdStr v || kindOne set) && decide (lmdBuf v + 8 * lmdWords v ≤ 0x800000)

/-- A local-memory operation's own part of an Op. -/
def lmdOp (s : State) (v : Word) (rd : Bool) (o : Op) : Op :=
  { o with nWords := lmdWords v, lmAddr := bits v 23 0, str := lmdStr v, buf := lmdBuf v,
           data := if rd then [] else readUnits s.hubMem (lmdBuf v) (lmdWords v) }

/-- AGR_LM (R271). -/
def execAgrLm (w : Fin 8) (d : Fin 32) (sa : Fin 16) (b : Fin 32) (rd : Bool) (s : State) : Host.Outcome State Fault Refusal :=
  insn s w [d, b] fun x =>
    let set := sReg x sa
    let v := gReg x b
    let inHub := decide (lmdBuf v + 8 * lmdWords v ≤ 0x800000)
    let used := inHub && !(rd && lmdStr v)
    let bad := if used && !mayMem s (.whorl w) (lmdBuf v) (8 * lmdWords v) rd then some FCode.rights else none
    withBuf s w (0x100000 + lmdBuf v) bad
      (agentIssue s w d x .agent set (checks (lmdForm s set v rd) (setRights s (.whorl w) 3 set) true) none []
        (lmdOp s v rd) (if rd then .lmRead else .lmWrite) 0)

/-! ### Comparators and taps (R276, R277) -/

/-- The request word of comparator n in a partition (Table 9.13). -/
def cmpLease (n p : Nat) : Word := word (n * 2 ^ 52 + p)
/-- The request word of tap entry j of a core. -/
def tapLease (j c : Nat) : Word := word (2 ^ 60 + j * 2 ^ 52 + c)

/-- TRIG (R276): the comparator lease of every partition in which an agent lies; an agent in none needs ROOT. An odd b is a reserved
encoding (R255). -/
def execTrig (w : Fin 8) (d : Fin 32) (sa : Fin 16) (b : Fin 32) (n : Fin 8) (s : State) : Host.Outcome State Fault Refusal :=
  insn s w (if b.val % 2 = 1 then [] else [d, b, b + 1]) fun x =>
    if b.val % 2 = 1 then whorlFault s w .illegal (x.pc.setWidth 64)
    else
      let set := sReg x sa
      let sites := opSites s set
      let codes := leaseCodes x w ((sites.filterMap (partOf s)).eraseDups.map (cmpLease n))
      let rights := setRights s (.whorl w) 3 set && (isRoot s (.whorl w) 3 || sites.all fun i => (partOf s i).isSome)
      agentIssue s w d x .trig set (checks (setForm s set) rights codes.isSome) none (codes.getD [])
        (fun o => { o with pre := [(aCmpVal + 2 * n.val, gReg x b)], data := [gReg x (b + 1)] }) .write (aCmpCtrl + 2 * n.val)

/-- The lease codes of tap entry j at every core of a set. -/
def tapCodes (s : State) (x : Whorl) (w j : Nat) (set : BitVec 128) : Option (List Nat) :=
  leaseCodes x w (((opSites s set).filterMap (coreOf s)).map (tapLease j))

/-- TAP (R277): the block of TS_MATCH, TS_CFG, TS_VH and TS_SEED is copied at issue; TS_MATCH is written first with EN at 0, and last
as the block holds it. -/
def execTap (w : Fin 8) (d : Fin 32) (sa : Fin 16) (b : Fin 32) (j : Fin 2) (s : State) : Host.Outcome State Fault Refusal :=
  insn s w [d, b] fun x =>
    let set := sReg x sa
    let a := (gReg x b).toNat
    let codes := tapCodes s x w j set
    let u := bufUnits s x a 4
    withBuf s w a (bufBad s w x a 32 8 false)
      (agentIssue s w d x .tap set (checks (setForm s set && kindOne set) (setRights s (.whorl w) 3 set) codes.isSome) none (codes.getD [])
        (fun o => { o with pre := [(tsIdx aTsMatch j, setBits (u.getD 0 0) 63 63 0), (tsIdx aTsCfg j, u.getD 1 0),
                                   (tsIdx aTsVh j, u.getD 2 0), (tsIdx aTsSeed j, u.getD 3 0)],
                           data := [u.getD 0 0] }) .write (tsIdx aTsMatch j))

/-- TAPR (R277): TS_COV to g[b]; the read clears WANT and GOT. -/
def execTapr (w : Fin 8) (d : Fin 32) (sa : Fin 16) (b : Fin 32) (j : Fin 2) (s : State) : Host.Outcome State Fault Refusal :=
  insn s w [d, b] fun x =>
    let set := sReg x sa
    let codes := tapCodes s x w j set
    agentIssue s w d x .tap set (checks (setForm s set && kindOne set) (setRights s (.whorl w) 3 set) codes.isSome) (some b.val)
      (codes.getD []) id .read (tsIdx aTsCov j)

/-- TAPC (R277): 0 to TS_MATCH at every agent. -/
def execTapc (w : Fin 8) (d : Fin 32) (sa : Fin 16) (j : Fin 2) (s : State) : Host.Outcome State Fault Refusal :=
  insn s w [d] fun x =>
    let set := sReg x sa
    let codes := tapCodes s x w j set
    agentIssue s w d x .tap set (checks (setForm s set) (setRights s (.whorl w) 3 set) codes.isSome) none (codes.getD [])
      (fun o => { o with data := [0] }) .write (tsIdx aTsMatch j)

/-! ### Run control (R273 to R275) -/

/-- The partition of a run-control instruction and whether g[a] has the form R273 asks. -/
def rcPart (v : Word) : Nat × Bool := (bits v 5 0, bits v 63 6 == 0)

/-- HALT, immediate (R273): a cut with cause 3. -/
def execHalt (w : Fin 8) (d a : Fin 32) (s : State) : Host.Outcome State Fault Refusal :=
  insn s w [d, a] fun x =>
    let q := rcPart (gReg x a)
    issue s w d x .runctl (checks q.2 (mayPart s (.whorl w) 3 q.1) true) true none none [] fun s _ id => haltReq s q.1 3 ⟨id, false⟩

/-- An accepted planned halt arms the comparator at the anchor root (R102). -/
def armPlanned (s : State) (p anchor step opId : Nat) : State :=
  setP s p { getP s p with planned := some ⟨anchor, step, opId, s.ht, false⟩ }

/-- HALT, planned (R102, R273, R274). -/
def execHaltPlanned (w : Fin 8) (d a b : Fin 32) (region : Fin 4) (s : State) : Host.Outcome State Fault Refusal :=
  insn s w [d, a, b] fun x =>
    let q := rcPart (gReg x a)
    let step := bits (gReg x b) 47 0
    let form := q.2 && bits (gReg x b) 63 48 == 0 && (regionsOfPart s q.1).contains region.val
    let bad := checks form (mayPart s (.whorl w) 3 q.1) true
    let bad1 := bad.or
      (if (getR s region).powerOff then some .noagent
       else if (getP s q.1).planned.isSome then some .locked
       else if step < (getRP s q.1 region).stepNo + haltLead s then some .late
       else none)
    issue s w d x .runctl bad1 false none none [] fun s _ id => armPlanned s q.1 region step id

/-- RUN (R275, R115, R215). -/
def execRun (w : Fin 8) (d a : Fin 32) (s : State) : Host.Outcome State Fault Refusal :=
  insn s w [d, a] fun x =>
    let q := rcPart (gReg x a)
    issue s w d x .runctl (checks q.2 (mayPart s (.whorl w) 3 q.1) (!dumpHolds s (.whorl w) q.1)) true none none []
      fun s _ id => runReq s q.1 ⟨id, false⟩

/-- STEP (R275, R113, R215): N from 1 to 65,536. -/
def execStep (w : Fin 8) (d a b : Fin 32) (s : State) : Host.Outcome State Fault Refusal :=
  insn s w [d, a, b] fun x =>
    let q := rcPart (gReg x a)
    let n := (gReg x b).toNat
    let form := q.2 && decide (1 ≤ n) && decide (n ≤ 65536)
    issue s w d x .runctl (checks form (mayPart s (.whorl w) 3 q.1) (!dumpHolds s (.whorl w) q.1)) true none none []
      fun s _ id => stepReq s q.1 n ⟨id, false⟩

/-- SNIP (R110, R275). -/
def execSnip (w : Fin 8) (d a : Fin 32) (s : State) : Host.Outcome State Fault Refusal :=
  insn s w [d, a] fun x =>
    let q := rcPart (gReg x a)
    issue s w d x .runctl (checks q.2 (mayPart s (.whorl w) 3 q.1) true) true none none [] fun s _ id => haltReq s q.1 3 ⟨id, false⟩

/-! ### Records and commits (R278, R279) -/

/-- An EMIT record into the local input, or behind those that wait for room in it. -/
def emitPut (s : State) (id : Nat) (r : Rec) : State :=
  let f := s.funnel
  if f.held = [] ∧ f.emitQ = [] ∧ localFits s r then
    { s with funnel := { f with local_ := f.local_ ++ [r], emits := f.emits ++ [id] } }
  else { s with funnel := { f with emitQ := f.emitQ ++ [(id, r)] } }

/-- EMIT (R278): hub time of issue and the data units copied at issue. A class above 3, or 0 or 15 data units, is a reserved encoding
(R255). -/
def execEmit (w : Fin 8) (d a b : Fin 32) (cls : Fin 8) (units : Fin 16) (s : State) : Host.Outcome State Fault Refusal :=
  insn s w (if 3 < cls.val ∨ units.val = 0 ∨ units.val = 15 then [] else [d, a, b]) fun x =>
    if 3 < cls.val ∨ units.val = 0 ∨ units.val = 15 then whorlFault s w .illegal (x.pc.setWidth 64)
    else
      let at_ := (gReg x a).toNat
      let r := mkRec (srcDistaff w) 9 cls (bits (gReg x b) 35 0) (word s.ht :: bufUnits s x at_ units)
      withBuf s w at_ (bufBad s w x at_ (8 * units.val) 8 false)
        (issue s w d x .emit (checks true (isRoot s (.whorl w) 3) true) true none none [] fun s _ id => emitPut s id r)

/-- Table 10.5: the area and whether a length lies in its range. -/
def commitArea (area n : Nat) : Option Area :=
  match area with
  | 0 => if 8 ≤ n ∧ n ≤ 256 ∧ n % 8 = 0 then some .journal else none
  | 1 => if 16 ≤ n ∧ n ≤ 256 ∧ n % 16 = 0 then some .counters else none
  | 2 => if 8 ≤ n ∧ n ≤ 4096 ∧ n % 8 = 0 then some .calib else none
  | 3 => if 8 ≤ n ∧ n ≤ 2097120 ∧ n % 8 = 0 then some .l0 else none
  | 4 => if n = 64 then some .dindex else none
  | _ => none

/-- The request word of the dump mover. -/
def moverLease : Word := word (6 * 2 ^ 60)

/-- COMMIT (R279): the buffer is read at issue; a dump index entry of the dump program may end the dump (Table 8.1). -/
def execCommit (w : Fin 8) (d a b : Fin 32) (area : Fin 16) (s : State) : Host.Outcome State Fault Refusal :=
  insn s w [d, a, b] fun x =>
    let at_ := (gReg x a).toNat
    let n := (gReg x b).toNat
    let ar := commitArea area n
    let codes := if area.val = 3 ∨ area.val = 4 then leaseCodes x w [moverLease] else some []
    withBuf s w at_ (bufBad s w x at_ n 8 false)
      (issue s w d x .commit (checks ar.isSome (isRoot s (.whorl w) 3) codes.isSome) true none none (codes.getD []) fun s _ id =>
        let body := bufUnits s x at_ (n / 8)
        let s1 := submit s (ar.getD .journal) w body (some id)
        if area.val = 4 then dumpCommitted s1 w body else s1)

/-! ### Leases (R280, R284) -/

/-- The lease word of Table 10.6. -/
def leaseWord (st : Status) (h : Nat) (expiry : Option Nat) : Word :=
  word (statusCode st * 2 ^ 56 + (if st = .ok then h * 2 ^ 48 + expiry.getD 0 % 2 ^ 48 else 0))

/-- LEASE (R280). -/
def execLease (w : Fin 8) (d a b : Fin 32) (s : State) : Host.Outcome State Fault Refusal :=
  insn s w [d, a, b] fun x =>
    let r := leaseTry s w (gReg x a) (gReg x b)
    setD r.2.2 w d (getW r.2.2 w) (leaseWord r.1 r.2.1 (leaseExpiry s (gReg x b)))

/-- RELEASE (R284). -/
def execRelease (w : Fin 8) (d a : Fin 32) (s : State) : Host.Outcome State Fault Refusal :=
  insn s w [d, a] fun x =>
    let h := bits (gReg x a) 5 0
    let s1 := leaseEnd s w h
    setD s1 w d (getW s1 w) (word (statusCode (if (getLease x h).isSome then .ok else .noagent)))

/-! ### Messages (R285, R286) -/

/-- The request word of an inter-hub channel. -/
def chanLease (ch : Nat) : Word := word (7 * 2 ^ 60 + ch * 2 ^ 52)

/-- SEND (R285): the buffer is read at issue. A hub without a route is one the mill map does not know. -/
def execSend (w : Fin 8) (d a b : Fin 32) (units : Fin 64) (s : State) : Host.Outcome State Fault Refusal :=
  insn s w [d, a, b] fun x =>
    let v := gReg x a
    let at_ := (gReg x b).toNat
    let ch := bits v 2 0
    let dst := bits v 14 8
    let n := units.val + 1
    let codes := leaseCodes x w [chanLease ch]
    let bad := checks (bits v 63 15 == 0 && bits v 7 3 == 0) (isRoot s (.whorl w) 3) codes.isSome
    let bad1 := bad.or (if (routeTo s dst).isNone then some .noagent else none)
    withBuf s w at_ (bufBad s w x at_ (8 * n) 8 false)
      (issue s w d x .send bad1 true none none (codes.getD []) fun s _ id =>
        let c := getC s ch
        chSend (setC s ch { c with sends := c.sends ++ [⟨BitVec.ofNat 32 id, id⟩] }) ch 0 dst
          (word (id % 2 ^ 32 * 2 ^ 32 + ch) :: bufUnits s x at_ n))

/-- RECV (R286): it waits in issue order for the channel's oldest message. -/
def execRecv (w : Fin 8) (d a b : Fin 32) (units : Fin 64) (s : State) : Host.Outcome State Fault Refusal :=
  insn s w [d, a, b] fun x =>
    let v := gReg x a
    let at_ := (gReg x b).toNat
    let ch := bits v 2 0
    let form := bits v 63 3 == 0 && s.integ.channels.getLsbD ch
    withBuf s w at_ (bufBad s w x at_ (8 * (units.val + 2)) 8 true)
      (issue s w d x .recv (checks form (isRoot s (.whorl w) 3) true) true none (some ch) [] fun s _ id =>
        let c := getC s ch
        setC s ch { c with recvs := c.recvs ++ [⟨w, id, at_, units.val + 1⟩] })

end Sys2Proof.Machine
end

