-- ==== Sys2Proof/Machine/Aga.lean ====
section
/-! DEFINITION. Indirect agent access: the AGA block and the bare path's queue (R390 to R395). -/

namespace Sys2Proof.Machine

/-- A register of a requester's copy of the block (R381). -/
def agaReg (s : State) (who : Who) (o : Nat) : Word := regGet s (keyWho who o) o
/-- A register of a requester's copy of the block, replaced. -/
def setAgaReg (s : State) (who : Who) (o : Nat) (v : Word) : State := regPut s (keyWho who o) o v
/-- AGA_STAT.STATE: 0 IDLE, 1 BUSY, 2 DONE. -/
def agaState (s : State) (who : Who) : Nat := bits (agaReg s who rAgaStat) 1 0

/-! ### The operation (Tables 14.6 and 14.7) -/

/-- OP of a command word. -/
def cmdOp (v : Word) : Nat := bits v 3 1
/-- RED of a command word. -/
def cmdRed (v : Word) : Red := redOf (bits v 6 4)
/-- CREG of a command word. -/
def cmdCreg (v : Word) : Nat := bits v 27 16
/-- Whether the operation collects. -/
def agaCollects (a : AgaOp) : Bool := (cmdOp a.cmd == 2 || cmdOp a.cmd == 5) && cmdRed a.cmd == .collect

/-- The form check (R393, R270 to R272). -/
def agaForm (s : State) (a : AgaOp) : Bool :=
  match cmdOp a.cmd with
  | 2 | 5 =>
    setForm s a.set && (cmdRed a.cmd != .none || kindOne a.set) &&
      (!agaCollects a || (lmdBuf a.lmd % 16 == 0 && decide (lmdBuf a.lmd + 16 + 16 * (opSites s a.set).length ≤ 0x800000)))
  | 3 => lmdForm s a.set a.lmd false
  | 4 => lmdForm s a.set a.lmd true
  | _ => setForm s a.set

/-- The rights check (Table 14.8). -/
def agaRights (s : State) (a : AgaOp) : Bool :=
  if agaCollects a ∨ cmdOp a.cmd = 3 ∨ cmdOp a.cmd = 4 then isRoot s a.who 3 else setRights s a.who 2 a.set

/-- The operation as the bare path issues it, issuer 8 (R24, R394). -/
def agaOpOf (s : State) (a : AgaOp) (id : Nat) : Op :=
  let sites := opSites s a.set
  let mk := mkOp id 8 a.span .aga a.set sites
  let creg := cmdCreg a.cmd
  let cwin (force : Nat) : List (Nat × Word) := [(aAgCwin, word (force * 2 ^ 31 + (creg &&& 0xF80)))]
  let strm : List (Nat × Word) := [(aAgLmCtrl, word (b2n (lmdStr a.lmd)))]
  match cmdOp a.cmd with
  | 1 => { mk .write (bits a.cmd 15 8) with data := [a.wdata] }
  | 2 => { mk .read (bits a.cmd 15 8) with red := cmdRed a.cmd, buf := lmdBuf a.lmd }
  | 3 => { lmdOp s a.lmd false (mk .lmWrite 0) with pre := strm }
  | 4 => { lmdOp s a.lmd true (mk .lmRead 0) with pre := strm }
  | 5 => { mk .read (0x80 + creg % 128) with red := cmdRed a.cmd, buf := lmdBuf a.lmd, pre := cwin (bits a.cmd 28 28) }
  | _ => { mk .write (0x80 + creg % 128) with data := [a.wdata], pre := cwin 0 }

/-- The end of an operation (R393): AGA_RDATA for OK and PARTIAL, then COUNT, WIN and STATUS, and STATE DONE. -/
def agaFinish (s : State) (who : Who) (st : Status) (count : Nat) (result : Option Word) (win : Nat) : State :=
  let s1 := if st = .ok ∨ st = .partial_ then result.elim s (setAgaReg s who rAgaRdata) else s
  let win1 := if st = .ok then win else 0
  setAgaReg s1 who rAgaStat (word (count % 2 ^ 32 * 2 ^ 32 + win1 % 2 ^ 13 * 2 ^ 19 + statusCode st * 2 ^ 8 + 2))

/-- What ends an operation before it is issued, if anything does. -/
def agaBad (s : State) (a : AgaOp) : Option Status :=
  (checks (agaForm s a) (agaRights s a) true).or (if opSites s a.set = [] then some .noagent else none)

/-- The bare path, when it is free, takes the oldest queued operation: one that fails a check ends at once (R392, R393). -/
def agaNext : Nat → State → State
  | 0, s => s
  | n + 1, s =>
    match s.aga.cur, s.aga.q with
    | none, a :: t =>
      let s1 : State := { s with aga := { s.aga with q := t } }
      match agaBad s1 a with
      | some st => agaNext n (agaFinish s1 a.who st 0 none 0)
      | none =>
        let id := s1.opCtr
        issueOp { s1 with opCtr := id + 1, aga := { s1.aga with cur := some a, opId := id, dl := none } } (agaOpOf s1 a id)
    | _, _ => s

/-- The operations that wait are taken. -/
def agaRun (s : State) : State := agaNext s.aga.q.length s

/-- A write of AGA_CMD (R391). -/
def agaGo (s : State) (who : Who) (v : Word) : State :=
  if !bit v 0 || cmdOp v == 0 || cmdOp v == 7 then s
  else if agaState s who = 1 then
    setAgaReg s who rAgaRefused (setBits (agaReg s who rAgaRefused) 15 0 (satAdd 16 (bits (agaReg s who rAgaRefused) 15 0) 1))
  else
    let a : AgaOp := ⟨who, v, agaReg s who rAgaSetHi ++ agaReg s who rAgaSetLo, agaReg s who rAgaWdata, agaReg s who rAgaLmd,
      bits (agaReg s who rAgaDl) 47 0⟩
    let s1 := setAgaReg s who rAgaStat 1
    agaRun { s1 with aga := { s1.aga with q := s1.aga.q ++ [a] } }

/-- AGA_CMD with its OP and GO: the row's own, whatever the value says there. -/
def agaCmdOf (v : Word) (op : Nat) : Word := setBits (setBits v 3 1 op) 0 0 1

/-- A GO for operation op from a requester that reaches the block (R390, R395). -/
def agaRow (s : State) (who : Who) (v : Word) (op : Nat) : Host.Outcome State Fault Refusal :=
  if mayReg s who rAgaCmd true v then ok (agaGo s who (agaCmdOf v op)) else ok s

/-- AGA_AGENT_WRITE: OP 1. -/
def execAgaAgentWrite (who : Who) (v : Word) (s : State) : Host.Outcome State Fault Refusal := agaRow s who v 1
/-- AGA_AGENT_READ: OP 2. -/
def execAgaAgentRead (who : Who) (v : Word) (s : State) : Host.Outcome State Fault Refusal := agaRow s who v 2
/-- AGA_LM_WRITE: OP 3. -/
def execAgaLmWrite (who : Who) (v : Word) (s : State) : Host.Outcome State Fault Refusal := agaRow s who v 3
/-- AGA_LM_READ: OP 4. -/
def execAgaLmRead (who : Who) (v : Word) (s : State) : Host.Outcome State Fault Refusal := agaRow s who v 4
/-- AGA_CREG_READ: OP 5 (R394). -/
def execAgaCregRead (who : Who) (v : Word) (s : State) : Host.Outcome State Fault Refusal := agaRow s who v 5
/-- AGA_CREG_WRITE: OP 6 (R394). -/
def execAgaCregWrite (who : Who) (v : Word) (s : State) : Host.Outcome State Fault Refusal := agaRow s who v 6

/-- The bare path is free and goes on with its queue. -/
def agaFree (s : State) : State := agaRun { s with aga := { s.aga with cur := none, dl := none } }

/-- AGA_COMPLETE (R393): the outcome at the bare path is taken. -/
def execAgaComplete (s : State) : Host.Outcome State Fault Refusal :=
  match s.aga.cur, arrived s s.aga.opId with
  | some a, some r =>
    let s1 := putMem s r.mem
    ok (agaFree (agaFinish (forget s1 s1.aga.opId) a.who r.status r.count.toNat r.result r.win))
  | _, _ => ok s

/-- AGA_TIMEOUT (R392, R58): the deadline wins over the reply. -/
def execAgaTimeout (s : State) : Host.Outcome State Fault Refusal :=
  match s.aga.cur with
  | none => ok s
  | some a =>
    if s.aga.dl.any fun d => decide (d ≤ s.ht) then
      ok (agaFree (agaFinish (giveUp s s.aga.opId) a.who .timeout 0xFFFFFFFF none 0))
    else ok s

end Sys2Proof.Machine
end

