-- ==== Sys2Proof/Machine/Capture.lean ====
section
/-! DEFINITION. The trace buffer's commands from a requester, and its banks (R156 to R158, R161, R164). -/

namespace Sys2Proof.Machine

/-- BUFFER_BANK_RETIRE's effect (R156, R32): the bank closes up, HEVT BANK_RETIRED, and the health change of kind 10. With the recovery engine stopped
the failure is reported and the bank stays (R428). -/
def bankGone (s : State) (bank : Nat) : State :=
  if s.buffer.out.contains bank then s
  else if s.boot.recStop then healthChange s 10 bank true
  else healthChange (hevt (retireBank s bank) 0x004 bank []) 10 bank true

/-- The bank that holds a unit: the block indices count over the banks in service in ascending order (R156). -/
def bankOf (s : State) (a : Nat) : Option Nat := ((List.range 8).filter fun n => !s.buffer.out.contains n)[a / 512 / 4096]?

/-- A bank reports an uncorrectable error (R156): a second one within 4,000,000,000 ht retires it. -/
def bankError (s : State) (bank : Nat) : State :=
  let last := tget 0 s.buffer.errAt bank
  let s1 : State := { s with buffer := { s.buffer with errAt := tput 0 s.buffer.errAt bank (s.ht + 1) } }
  if last ≠ 0 ∧ s.ht + 1 ≤ last + 4000000000 then bankGone s1 bank else s1

/-- The value of TRC_BUF_RDATA for a requester and its advance of the requester's own TRC_BUF_RADDR (R161, R381). A unit with an uncorrectable
error reads as NULL, counts in UE, and is an error that its bank reports (R156). -/
def bufRead (s : State) (who : Who) : Word × State :=
  let k := keyWho who rTrcBufRaddr
  let a := (regGet s k rTrcBufRaddr).toNat
  let s1 := regPut s k rTrcBufRaddr (word ((a + 1) % 2 ^ 24))
  let u := a % max 1 (512 * bufBlocks s)
  if s.buffer.bad.contains u then (0, (bankOf s u).elim s1 (bankError (countF s1 rTrcBufStat 63 48 1)))
  else (bufUnit s who a, s1)

/-- BUFFER_MODE_WRITE (R157, R164). -/
def execBufferModeWrite (who : Who) (v : Word) (s : State) : Host.Outcome State Fault Refusal :=
  if mayReg s who rTrcWinCtrl true v then ok (bufferMode s v) else ok s

/-- A write of TRC_WIN_FIRE with FIRE at 1 (R158). -/
def swTrigger (s : State) : State :=
  let fires := decide (bufMode s = 2) && decide (s.buffer.st = 2)
  fireTrigger (if fires then { s with freeCtr := s.freeCtr + 1 } else s) s.ht (Config.swTrigLine s.freeCtr).toNat true

/-- TRC_WIN_FIRE (R158, R164). -/
def execTrcWinFire (who : Who) (s : State) : Host.Outcome State Fault Refusal :=
  if mayReg s who rTrcWinFire true 1 then ok (swTrigger s) else ok s

/-- A unit of the buffer found to hold an uncorrectable error: every read finds it until it is written again (R156). -/
def markBad (s : State) (who : Who) : State :=
  let a := (regGet s (keyWho who rTrcBufRaddr) rTrcBufRaddr).toNat % max 1 (512 * bufBlocks s)
  if s.buffer.bad.contains a then s else { s with buffer := { s.buffer with bad := s.buffer.bad ++ [a] } }

/-- TRC_BUF_RDATA_READ (R161, R164, R156): a unit read with an uncorrectable error reads NULL. -/
def execTrcBufRdataRead (r : UnitRead) (s : State) : Host.Outcome State Fault Refusal :=
  if mayReg s r.who rTrcBufRdata false 0 then ok (bufRead (if r.err = 2 then markBad s r.who else s) r.who).2 else ok s

/-- BUFFER_BANK_RETIRE (R156): a bank that fails self-test, or one whose second uncorrectable error in 1 s has been reported. -/
def execBufferBankRetire (bank : Fin 8) (s : State) : Host.Outcome State Fault Refusal := ok (bankGone s bank)

end Sys2Proof.Machine
end

