-- ==== Sys2Proof/Machine/Window.lean ====
section
/-! DEFINITION. The host window: what a read of each register shows and what a write of it does (R12, R378 to R381), whoever makes
the access, and with it mailboxes and hub memory (R356, R414). -/

namespace Sys2Proof.Machine

/-! ### Keys of the stored copies (R381) -/

/-- The registers of Table 14.2. -/
def perWho (o : Nat) : Bool :=
  [rPrtSel, rTrcFlySel, rTrcBufRaddr, rCrdEngSel, rCrdDrfSel, rCntAoSel, rHnkRdSel, rSpnXingSel, rMptAccCtrl, rMptAccData,
    rMptAccStat].contains o || (decide (rAgaSetHi ≤ o) && decide (o ≤ rAgaRefused)) ||
    (o / 0x1000 == 4 && (o % 0x100 == 0x30 || o % 0x100 == 0x40))

/-- A field of a requester's own selector. -/
def selOf (s : State) (who : Who) (o hi lo : Nat) : Nat := bits (regGet s (keyWho who o) o) hi lo

/-- The key under which a requester's access finds a register's stored bits: its own copy, the selected object's, or the one. -/
def regKey (s : State) (who : Who) (o : Nat) : Nat :=
  if perWho o then keyWho who o
  else if o = rTrcFlyStat then keyObj (selOf s who rTrcFlySel 7 0) o
  else if o = rCrdEngStat then keyObj (selOf s who rCrdEngSel 7 0) o
  else if rCrdDrfCtrl ≤ o ∧ o ≤ rCrdDrfLastw then keyObj (selOf s who rCrdDrfSel 5 0) o
  else if o = rSpnXingStat then keyObj (selOf s who rSpnXingSel 12 0) o
  else o

/-! ### What the hub shows (RO fields) -/

/-- A mask of the numbers below n that have a property. -/
def maskOf (n : Nat) (p : Nat → Bool) : Nat := (((List.range n).filter p).map fun i => 2 ^ i).sum

/-- Identity and capability (Table 14.3). -/
def idBits (s : State) (o : Nat) : Nat :=
  let i := s.integ
  if o = rIdPart then 0x54424D02 * 2 ^ 32 + i.rev.toNat * 2 ^ 16 + i.romRev.toNat
  else if o = rIdDevidLo then i.devid.toNat % 2 ^ 64
  else if o = rIdDevidHi then i.devid.toNat / 2 ^ 64
  else if o = rCapGrid then i.rows % 128 * 2 ^ 40 + i.cols % 128 * 2 ^ 32 + i.slots.toNat * 2 ^ 16 + i.cmpN % 16 * 2 ^ 12
  else if o = rCapSpare then i.spareRows.toNat
  else if o = rCapRegion then
    maskOf 4 (fun r => (allSites s).any fun k => regionOf k == r) * 2 ^ 32 +
      ((List.range 4).map fun r => latOf s r % 256 * 2 ^ (8 * r)).sum
  else if o = rCapPorts then i.lanes.toNat * 2 ^ 48 + i.channels.toNat * 2 ^ 40 + i.nand.toNat * 2 ^ 38 + i.dies.toNat * 2 ^ 32
  else if o = rCapMem then 0xFF * 2 ^ 56 + 0xFF * 2 ^ 48 + 0xF * 2 ^ 44 + 0x2000
  else 0

/-- Rights and unlock (Table 14.4). -/
def rgtBits (s : State) (o : Nat) : Nat :=
  if o = rRgtNonceLo then s.unlock.nonce.toNat % 2 ^ 64
  else if o = rRgtNonceHi then s.unlock.nonce.toNat / 2 ^ 64
  else if o = rRgtUnlock then b2n s.unlock.lockEnd.isSome * 2 ^ 7
  else 0

/-- PRT_STATE.STATE. -/
def pstNum : PSt → Nat
  | .empty => 0
  | .running => 1
  | .halting => 2
  | .halted => 3
  | .stepping => 4

/-- The partition page (Table 4.6) for a requester's PRT_SEL. -/
def partBits (s : State) (who : Who) (o : Nat) : Nat :=
  let p := selOf s who rPrtSel 5 0
  let r := selOf s who rPrtSel 9 8
  let x := getP s p
  if o = rPrtState then
    min 0xFFFF x.nfail * 2 ^ 16 + maskOf 4 (fun r => (regionsOfPart s p).contains r) * 2 ^ 12 + x.cause % 16 * 2 ^ 8 +
      b2n x.partialF * 2 ^ 7 + b2n x.late * 2 ^ 6 + b2n x.cut * 2 ^ 5 + pstNum x.st
  else if o = rPrtStep then (getRP s p r).stepNo % 2 ^ 48
  else if o = rPrtHaltStep then (getRP s p r).haltStep % 2 ^ 48
  else if o = rPrtHaltTime then (getRP s p r).haltTime
  else if o = rPrtWdg then min 0xFFFF x.supp * 2 ^ 48 + x.grace.toNat
  else if o = rStStat then min 0xFFFF (getR s r).qdly * 2 ^ 48 + (getR s r).rate % 2 ^ 16 * 2 ^ 32 + latOf s r % 256
  else 0

/-- The time page (Table 12.4). -/
def timBits (s : State) (o : Nat) : Nat :=
  if o = rTimNow then s.ht
  else if o = rTimStat then
    min 0xFFFF (errPs s) * 2 ^ 48 + s.time.depth % 256 * 2 ^ 32 + b2n (decide (750 < errPs s)) * 2 ^ 7 + b2n s.time.refLoss * 2 ^ 6 +
      s.time.state
  else if o = rTimTrim then twos 32 (s.time.trim + s.time.slew)
  else 0

/-- WHL_STAT.STATE (Table 9.15). -/
def wstNum : WSt → Nat
  | .reset => 0
  | .loaded => 1
  | .running => 2
  | .stopped => 3
  | .fault => 4
  | .loading => 5
  | .out => 6

/-- A Whorl's block (Table 9.16). -/
def whlBits (s : State) (who : Who) (n o : Nat) : Nat :=
  let x := getW s n
  if o = 0x10 then
    x.notkt * 2 ^ 48 + ((List.range 64).filter fun h => (getLease x h).isSome).length * 2 ^ 40 +
      ((List.range 64).filter fun t => (getTk x t).st != .free).length * 2 ^ 32 + x.fcode * 2 ^ 24 + x.loadst * 2 ^ 16 + wstNum x.st
  else if o = 0x18 then (if x.st = .running then (Config.runningPc s.freeCtr).toNat else x.pc.toNat)
  else if o = 0x20 then x.faddr.toNat
  else if o = 0x48 then (dbgRead s who n).toNat
  else 0

/-- The partitions a requester may see in EVT_CUT_PEND (R266). -/
def cutMask (s : State) (who : Who) : Word :=
  match rightsOf s who with
  | .tenant k => reg s (rRgtTen + 8 * k)
  | _ => BitVec.allOnes 64

/-- The clusters a requester may see in EVT_XT_PENDk (R266). -/
def xtMask (s : State) (who : Who) (k : Nat) : Word :=
  match rightsOf s who with
  | .tenant t => word (maskOf 64 fun j => (partOfCluster s (64 * k + j)).any (tenHas s t))
  | _ => BitVec.allOnes 64

/-- The event page (Table 9.17): the reader's own copies. -/
def evtBits (s : State) (who : Who) (o : Nat) : Nat :=
  let k := readerOf who
  if o = rEvtPend then (tget 0 s.evPend k).toNat
  else if o = rEvtCutPend then (tget 0 s.evCut k &&& cutMask s who).toNat
  else if rEvtXtPend ≤ o ∧ o < rEvtIrqStat then
    let n := (o - rEvtXtPend) / 8
    (tget 0 s.evXt (xtKey k n) &&& xtMask s who n).toNat
  else if o = rEvtIrqStat then b2n s.hubIrq
  else 0

/-- Funnel and buffer (Table 5.15). -/
def trcBits (s : State) (who : Who) (o : Nat) : Nat :=
  if o = rTrcWinStat then (s.buffer.trigBlk.getD 0) % 2 ^ 16 * 2 ^ 32 + b2n s.buffer.torn * 2 ^ 3 + s.buffer.st
  else if o = rTrcBufStat then
    maskOf 8 (fun b => !s.buffer.out.contains b) * 2 ^ 40 + s.buffer.wr % 2 ^ 16 * 2 ^ 16 + s.buffer.oldest % 2 ^ 16
  else if o = rTrcFlyStat then (tget 0 s.funnel.gseq (selOf s who rTrcFlySel 7 0)).toNat
  else 0

/-- The trace port (Table 13.14). -/
def tptBits (s : State) (o : Nat) : Nat :=
  if o = rTptCtrl then maskOf 16 (fun n => (dLanes s).contains n) * 2 ^ 32
  else if o = rTptStat then
    s.integ.lanes.toNat * 2 ^ 48 + maskOf 16 (fun n => (getL s n).up) * 2 ^ 32 + maskOf 16 (fun n => (getL s n).inSvc) * 2 ^ 16
  else 0

/-- The candidates of each engine on the die. -/
def candCounts (s : State) : List Nat := (allClusters s).map fun f => (candidates s f).length

/-- Whether a Flyer's Card engine is in service. -/
def engineUp (s : State) (f : Nat) : Bool := !(getF s f).card.failed && !(getF s f).failed

/-- Card engines (Table 6.8). -/
def crdBits (s : State) (who : Who) (o : Nat) : Nat :=
  if o = rCrdPlan then
    let l := candCounts s
    let ens := ((allSites s).map fun i => ([0, 1].filter fun j => bit (ag s i (tsIdx aTsMatch j)) 63).length).sum
    ens * 2 ^ 48 + ((allClusters s).filter (engineUp s)).length * 2 ^ 32 + (l.filter fun n => 1 < n).length * 2 ^ 16 +
      min 0xFF (l.foldl max 0) * 2 ^ 8
  else if o = rCrdEngStat then
    let f := selOf s who rCrdEngSel 7 0
    min 0xFF (candidates s f).length * 2 ^ 8 + b2n (!engineUp s f) * 2 + b2n (decide (1 < (clustersOf s f).length))
  else 0

/-- Counters (Table 7.6). -/
def cntBits (s : State) (who : Who) (o : Nat) : Nat :=
  if o = rCntAoData ∧ 9 < selOf s who rCntAoSel 11 8 then 0
  else if o = rCntAoData then readLe s.hubMem (aoEntry s (selOf s who rCntAoSel 7 0) + 8 * selOf s who rCntAoSel 11 8) 8
  else if o = rCntRingCtrl then b2n (ringErr s) * 2
  else 0

/-- Hank store, hang and dump (Tables 11.10 and 8.10). -/
def hnkBits (s : State) (o : Nat) : Nat :=
  let h := s.hank
  if o = rHnkStat then
    maskOf 4 (fun b => (banks s).contains b) * 2 ^ 16 + maskOf 2 (nandUp s) * 2 ^ 12 + h.mount % 4 * 2 ^ 8 + h.pfw % 8 * 2 ^ 4 +
      b2n (banks s).isEmpty * 2 ^ 3
  else if o = rHnkCnum then h.durable
  else if o = rHnkQueue then (backlog s).length % 32 * 2 ^ 32 + backlogBytes s % 2 ^ 13
  else if o = rHnkJrn then (h.jEnts.headD (0, 0)).1 % 2 ^ 19 * 2 ^ 32 + (h.jEnts.getLastD (0, 0)).1 % 2 ^ 19
  else if o = rHnkRdStat then b2n (rdBusy s) * 4 + h.rdEcc % 4
  else if o = rHnkNandStat ∨ o = rHnkNandStat + 8 then
    let d := (o - rHnkNandStat) / 8
    (if (getN s d).mounted then
        (freeBlocks s d).length % 2 ^ 17 * 2 ^ 47 + (blocksIn s d 3).length % 2 ^ 17 * 2 ^ 30 +
          min (2 ^ 14 - 1) (eraseSpread s d) * 2 ^ 16
      else 0) + b2n (getN s d).out
  else if o = rHnkSpace then hankSpace s % 2 ^ 32
  else if o = rHngStat then
    min 4 s.hang.queue.length * 2 ^ 13 + b2n s.hang.running.isSome * 2 ^ 12 + (s.hang.running.elim 0 Decl.part) % 64
  else 0

/-- A register that only a tenant sees in part: HNG_HUNG shows it its own partitions (R235). -/
def shownMask (s : State) (who : Who) (o : Nat) : Word := if o = rHngHung then cutMask s who else BitVec.allOnes 64

/-- HLT_CLUk (Table 14.5). -/
def hltClu (s : State) (k : Nat) : Nat :=
  let v := servedBy s k
  let f := getF s k
  if regF s rIdMmap 63 44 = 0 then k * 2 ^ 40
  else v.getD 0xFF * 2 ^ 40 +
    (if k % 16 = 15 then maskOf 4 fun r => siteState s (siteIdx (4 * (k / 16) + r) 64) == 1 else 0) * 2 ^ 32 +
    b2n (v == some (k + 1)) * 2 ^ 31 + b2n v.isNone * 2 ^ 30 + b2n f.failed * 2 ^ 29 + b2n f.card.failed * 2 ^ 28 +
    b2n f.nodeFail * 2 ^ 27 + b2n (s.spine.unreach.contains k) * 2 ^ 26 + b2n f.trcFail * 2 ^ 25 + b2n f.trcFail * 2 ^ 24 +
    maskOf 4 (fun dir => (getLink s (4 * k + dir)).failed) * 2 ^ 20

/-- Spine and health (Tables 2.8 and 14.5). What start-up sets shows 0 until the mill map is built (R388). -/
def spnBits (s : State) (o : Nat) : Nat :=
  if o = rSpnEpoch then ((List.range 9).map fun i => tget 0 s.spine.epochs i % 16 * 2 ^ (4 * i)).sum
  else if rHltClu ≤ o ∧ o < rHltClu + 2048 then hltClu s ((o - rHltClu) / 8)
  else if regF s rIdMmap 63 44 = 0 then 0
  else if o = rHltSum then
    maskOf 8 (fun n => (getW s n).st != .out) * 2 ^ 56 + maskOf 8 (fun b => !s.buffer.out.contains b) * 2 ^ 48 +
      maskOf 4 (fun b => (banks s).contains b) * 2 ^ 44 + maskOf 2 (nandUp s) * 2 ^ 42 +
      (s.spine.links.filter fun e => e.2.failed).length * 2 ^ 32 + (s.flyers.filter fun e => e.2.failed).length * 2 ^ 23 +
      (s.flyers.filter fun e => e.2.card.failed).length * 2 ^ 14 +
      ((List.range 64).filter fun r => siteState s (siteIdx r 64) == 1).length * 2 ^ 7 +
      ((List.range 16).filter fun n => (getL s n).inSvc).length
  else if o = rHltEntry then
    maskOf 4 (fun e => (getLink s (entryLink e 1)).failed) * 2 ^ 4 + maskOf 4 (fun e => (getLink s (entryLink e 0)).failed)
  else 0

/-- Quarantined tags. -/
def quarCount (s : State) : Nat := ((s.master.rd ++ s.master.wrt).filter fun e => e.2.any MpReq.quar).length

/-- Whether a root of the election is this hub: its best key came by no channel. -/
def ownRoot (k : Option Key) (ch : Option Nat) : Bool := k.isSome && ch.isNone

/-- Master port, inter-hub page, two-wire, xSPI and pin page (Tables 13.15, 12.5, 13.16). -/
def portBits (s : State) (o : Nat) : Nat :=
  if o = rMptStat2 then min 511 (quarCount s)
  else if o = rIhbId then s.integ.pkg.toNat * 2 ^ 8 + s.integ.die.toNat
  else if rIhbCh ≤ o ∧ o < rIhbCtrl then
    let n := (o - rIhbCh) / 8
    let c := getC s n
    tget 0 s.integ.chLink n % 64 * 2 ^ 58 + b2n (s.integ.channels.getLsbD n) * 2 ^ 57 + b2n c.up * 2 ^ 56 +
      b2n (s.time.parent == some n) * 2 ^ 55 + c.peer.toNat * 2 ^ 48
  else if o = rIhbRoot then
    let e := s.elect
    (e.cfg.elim 0 fun k => k.devid.toNat * 2 ^ 16 + k.prio.toNat * 2 ^ 8) + b2n (electing s) * 4 + b2n (ownRoot e.pkg e.pkgCh) * 2 +
      b2n (ownRoot e.cfg e.cfgCh)
  else if o = rTwpStat then b2n s.twp.done.isSome * 2 ^ 6 + unlockLevel s
  else if o = rHptStat then b2n s.host.stall
  else if o = rXspStat then
    maskOf 4 (fun c => fitted s (c / 2) && (getN s (c / 2)).mounted) * 2 ^ 4 + maskOf 4 fun c => fitted s (c / 2)
  else if o = rPinStat then b2n s.hubIrq * 2 + b2n s.hank.pinLow
  else 0

/-- The bits that the hub shows in a register beside the stored ones. -/
def shownBits (s : State) (who : Who) (o : Nat) : Nat :=
  match o / 0x1000 with
  | 0x0 => idBits s o
  | 0x1 => rgtBits s o
  | 0x2 => partBits s who o
  | 0x3 => timBits s o
  | 0x4 => if o < 0x4800 then whlBits s who ((o - 0x4000) / 0x100) (o % 0x100) else 0
  | 0x5 => evtBits s who o
  | 0x6 => trcBits s who o
  | 0x7 => tptBits s o
  | 0x8 => crdBits s who o
  | 0x9 => cntBits s who o
  | 0xA => hnkBits s o
  | 0xB => spnBits s o
  | _ => portBits s o

/-! ### Reads (R12, R379) -/

/-- What a read clears beside the stored RC fields: SUPP of the selected partition, QDLY_MAX of the selected region, NOTKT of a Whorl;
and a running Whorl's WHL_PC takes a fresh free value each time. -/
def readClears (s : State) (who : Who) (o : Nat) : State :=
  let p := selOf s who rPrtSel 5 0
  let r := selOf s who rPrtSel 9 8
  if o = rPrtWdg then setP s p { getP s p with supp := 0 }
  else if o = rStStat then setR s r { getR s r with qdly := 0 }
  else if o / 0x1000 = 4 ∧ o < 0x4800 ∧ o % 0x100 = 0x10 then
    let n := (o - 0x4000) / 0x100
    setW s n { getW s n with notkt := 0 }
  else if o / 0x1000 = 4 ∧ o < 0x4800 ∧ o % 0x100 = 0x18 ∧ (getW s ((o - 0x4000) / 0x100)).st = .running then
    { s with freeCtr := s.freeCtr + 1 }
  else s

/-- A read of the register at an offset of a page: its value and its effect. A reserved offset reads 0. -/
def regRead (s : State) (who : Who) (o : Nat) : Word × State :=
  match layAt o with
  | none => (0, s)
  | some l =>
    if o = rTrcBufRdata then bufRead s who
    else if o = rHnkRdData then hankRead s who
    else if o / 0x1000 = 4 ∧ o % 0x100 = 0x38 then lsAccess s who ((o - 0x4000) / 0x100) false 0
    else
      let k := regKey s who o
      let v := regGet s k o
      (((v ||| word (shownBits s who o)) &&& shownMask s who o), readClears (regPut s k o (l.read v)) who o)

/-! ### Writes (R12, R379) -/

/-- The value a register stores for a value written, where its chapter limits it (R123, R163, R176, R200, R235, R376, R390). -/
def clampReg (o : Nat) (v : Word) : Word :=
  let lim (hi lo a b : Nat) (v : Word) : Word := setBits v hi lo (max a (min (bits v hi lo) b))
  if o = rAgaDl then lim 47 0 400 (2 ^ 40) v
  else if o = rPrtCutTmo then lim 31 0 2000 (2 ^ 32) v
  else if o = rCntSmpCtrl then lim 63 32 40000 4000000000 v
  else if o = rTrcFunCtrl then lim 31 16 400 16000 v
  else if o = rTrcLlCtrl then lim 31 0 0 0x400000 v
  else if o = rDmpStage then lim 22 12 0 0x600 v
  else if o = rMptCfg then lim 40 32 1 256 v
  else if o = rMptRate then lim 43 32 1 2048 (lim 11 0 0 2048 v)
  else v

/-- A write of a register whose fields only keep what is written (R379). -/
def plainWrite (s : State) (who : Who) (o : Nat) (v : Word) : State :=
  match layAt o with
  | none => s
  | some l => let k := regKey s who o; regPut s k o (l.write (regGet s k o) (clampReg o v))

/-- The state that an answered command leaves. -/
def after (s : State) : Host.Outcome State Fault Refusal → State
  | .next t => t
  | _ => s

/-- WHL_CTRL (Table 9.16): of several bits written as 1, the highest acts. -/
def whlCtrl (s : State) (who : Who) (n : Nat) (v : Word) : State :=
  if bit v 3 then resetFrom s n
  else if bit v 2 then whorlStop s n
  else if bit v 1 then whorlStart s n
  else if bit v 0 then whorlLoad s who n
  else s

/-- PRT_CMD (Table 4.6). -/
def prtCmd (s : State) (who : Who) (v : Word) : State :=
  let p := Fin.ofNat 64 (bits v 13 8)
  match bits v 2 0 with
  | 1 => after s (execPrtCmdHalt who p s)
  | 2 => after s (execPrtCmdRun who p s)
  | 3 => after s (execPrtCmdStep who p (BitVec.ofNat 16 (bits v 47 32)) s)
  | 4 => after s (execPrtCmdSnip who p s)
  | _ => s

/-- A write to the event page (Table 9.17): W1C in the reader's own copy, for a tenant only the bits it may see. -/
def evtWrite (s : State) (who : Who) (o : Nat) (v : Word) : State :=
  let k := readerOf who
  if o = rEvtPend then setPend s k (tget 0 s.evPend k &&& ~~~ v)
  else if o = rEvtIrqEn then irqUpdate (setReg s o v)
  else if o = rEvtRaise then raiseLines s (v &&& ~~~ 0xFFFF)
  else if o = rEvtCutPend then { s with evCut := tput 0 s.evCut k (tget 0 s.evCut k &&& ~~~ (v &&& cutMask s who)) }
  else if rEvtXtPend ≤ o ∧ o < rEvtIrqStat then
    let n := (o - rEvtXtPend) / 8
    let j := xtKey k n
    { s with evXt := tput 0 s.evXt j (tget 0 s.evXt j &&& ~~~ (v &&& xtMask s who n)) }
  else s

/-- A write of the identity or the rights page (R383, R385, R387, R411, R417 to R419). -/
def rgtWrite (s : State) (who : Who) (o : Nat) (v : Word) : State :=
  if o = rIdBoot then (if bit v 1 then bootRelease s else s)
  else if o = rRgtChal then (if bit v 0 then after s (execRgtChalNew who true s) else s)
  else if o = rRgtRespLo then { s with unlock := { s.unlock with respLo := v } }
  else if o = rRgtRespHi then after s (execRgtRespSubmit who v s)
  else if o = rRgtUnlock then after s (execRgtUnlockWrite who v s)
  else if o = rRgtPolicy then after s (execRgtPolicyWrite who v s)
  else plainWrite s who o v

/-- A write of the time or the inter-hub page (R324, R326, R331). -/
def ihbWrite (s : State) (who : Who) (o : Nat) (v : Word) : State :=
  if o = rTimCtrl then
    let s1 := plainWrite s who o v
    if bit v 0 then after s1 (execTimMeasure who s1) else s1
  else if o = rIhbId then after s (execIhbIdWrite who v s)
  else if o = rIhbCtrl then (if bit v 0 then after s (execIhbElect who s) else s)
  else plainWrite s who o v

/-- A write of the Hank store page (R210, R213, R310). -/
def hnkWrite (s : State) (who : Who) (o : Nat) (v : Word) : State :=
  if o = rHngCtrl then hngWrite s v
  else if o = rDmpReq then (if bit v 0 then after s (execDmpReq who (Fin.ofNat 64 (bits v 13 8)) s) else s)
  else if o = rHnkPin then pinWrite s v
  else plainWrite s who o v

/-- The tokens of the master port counted up to now, before a write changes their rate (R359). -/
def settleTokens (s : State) : State := { s with master := { s.master with tokens := tokensNow s, tokenAt := s.ht } }

/-- A write of CNT_AO_CTRL or CNT_SMP_CTRL: a boundary before EN has become 1, or before INTERVAL was written, is none of the new setting
(R196, R200). -/
def cntWrite (s : State) (who : Who) (o : Nat) (v : Word) : State :=
  let t := plainWrite s who o v
  let on := bit (reg t o) 0 && !bit (reg s o) 0
  if o = rCntAoCtrl ∧ on then { t with ring := { t.ring with aoFrom := s.ht } }
  else if o = rCntSmpCtrl ∧ (on || bits (reg t o) 63 32 != bits (reg s o) 63 32) then { t with ring := { t.ring with smpFrom := s.ht } }
  else t

/-- A write of the register at an offset of a page, by a requester that may make it. -/
def regWrite (s : State) (who : Who) (o : Nat) (v : Word) : State :=
  match o / 0x1000 with
  | 0x0 | 0x1 => rgtWrite s who o v
  | 0x2 =>
    if o < rPrtSel then after s (execPrtMapWrite who (Fin.ofNat 32 ((o - rPrtMap) / 8)) v s)
    else if o = rPrtCmd then prtCmd s who v
    else if o = rPrtWdg then
      let p := selOf s who rPrtSel 5 0
      setP s p { getP s p with grace := BitVec.ofNat 32 v.toNat }
    else plainWrite s who o v
  | 0x3 | 0xD => ihbWrite s who o v
  | 0x4 =>
    let n := (o - 0x4000) / 0x100
    if 8 ≤ n then s
    else if o % 0x100 = 0 then whlCtrl s who n v
    else if o % 0x100 = 0x38 then (lsAccess s who n true v).2
    else plainWrite s who o v
  | 0x5 => evtWrite s who o v
  | 0x6 =>
    if o = rTrcWinCtrl then bufferMode s v
    else if o = rTrcWinFire then (if bit v 0 then swTrigger s else s)
    else if o = rTrcSpillPtr then spillRead (plainWrite s who o v) (regF s rTrcSpillPtr 55 32)
    else plainWrite s who o v
  | 0x7 => if o = rTptCtrl then laneEnable (plainWrite s who o v) else plainWrite s who o v
  | 0x9 => cntWrite s who o v
  | 0xA => hnkWrite s who o v
  | 0xB =>
    if o = rSpnMode then setCareful s (bit v 0)
    else if o = rAgaCmd then agaGo s who v
    else plainWrite s who o v
  | 0xC =>
    if o = rMptAccCtrl then accWrite s who v
    else if o = rMptRate then plainWrite (settleTokens s) who o v
    else plainWrite s who o v
  | _ => plainWrite s who o v

/-! ### The whole window (R354, R356, R378, R414) -/

/-- An answer to an access of the window (Table 13.5, HRS_RESP): 0 DONE, 1 RIGHTS, 2 NOADDR, 3 FAILED. -/
abbrev WinCode := Nat

/-- Whether a window offset lies in a register page. -/
def inPages (o : Nat) : Bool := decide (o < 0xF000)
/-- Whether a window offset lies in the mailboxes. -/
def inMail (o : Nat) : Bool := decide (0x10000 ≤ o) && decide (o < 0x20000)
/-- Whether a window offset lies in hub memory. -/
def inHub (o : Nat) : Bool := decide (0x100000 ≤ o) && decide (o < 0x900000)

/-- A read of the 8 bytes at an aligned window offset. -/
def winRead (s : State) (who : Who) (o : Nat) : WinCode × Word × State :=
  if inPages o then
    if mayReg s who o false 0 then let r := regRead s who o; (0, r.1, r.2) else (1, 0, s)
  else if inMail o then (if mayReadMail s who o then (0, word (readLe s.mail (o - 0x10000) 8), s) else (1, 0, s))
  else if inHub o then
    (if mayMem s who (o - 0x100000) 8 false then (0, word (readLe s.hubMem (o - 0x100000) 8), s) else (1, 0, s))
  else (2, 0, s)

/-- The bytes of a unit with those of a write put in where their strobe is 1. -/
def strobed (old v : Word) (strb : BitVec 8) : Word :=
  word ((List.range 8).map fun i =>
    (if strb.getLsbD i then bits v (8 * i + 7) (8 * i) else bits old (8 * i + 7) (8 * i)) * 256 ^ i).sum

/-- A write of a mailbox unit: a doorbell raises its line, and reads 0 (Table 13.7). -/
def mailWrite (s : State) (o : Nat) (v : Word) : State :=
  if o = 0x10FF8 then raiseLine s 7
  else if o = 0x12FF8 then raiseLine s 8
  else { s with mail := writeLe s.mail (o - 0x10000) 8 v.toNat }

/-- A write of the 8 bytes at an aligned window offset. Only hub memory takes byte strobes (R354). -/
def winWrite (s : State) (who : Who) (o : Nat) (v : Word) (strb : BitVec 8) : WinCode × State :=
  if inPages o then
    if strb ≠ 0xFF then (2, s)
    else if !mayReg s who o true v || (o == rIdBoot && bit v 1 && !isRoot s who 3) then (1, s)
    else (0, regWrite s who o v)
  else if inMail o then
    if strb ≠ 0xFF then (2, s) else if mayWriteMail s who o then (0, mailWrite s o v) else (1, s)
  else if inHub o then
    let a := o - 0x100000
    if mayMem s who a 8 true then
      (0, { s with hubMem := writeLe s.hubMem a 8 (strobed (word (readLe s.hubMem a 8)) v strb).toNat })
    else (1, s)
  else (2, s)

/-- REGISTER_WRITE (R379): a write of a whole register, by any requester. -/
def execRegisterWrite (who : Who) (off : Nat) (v : Word) (s : State) : Host.Outcome State Fault Refusal :=
  if off % 8 = 0 ∧ inPages off then ok (winWrite s who off v 0xFF).2 else ok s

/-- EVT_RAISE (R244, R266). -/
def execEvtRaise (who : Who) (v : Word) (s : State) : Host.Outcome State Fault Refusal :=
  if mayReg s who rEvtRaise true v then ok (raiseLines s (v &&& ~~~ 0xFFFF)) else ok s

end Sys2Proof.Machine
end

