-- ==== Sys2Proof/Machine/Mem.lean ====
section
/-! DEFINITION. The loads and stores of a Whorl over its address map (09 R237, R238, R250, R252; Table 9.2). -/

namespace Sys2Proof.Machine

/-- n bytes of ROM from an offset, little-endian. -/
def romLe (a : Nat) : Nat → Nat
  | 0 => 0
  | n + 1 => (Config.romByte a).toNat + 256 * romLe (a + 1) n

/-- What an access of the window answers a Whorl with: RIGHTS and ADDR are faults (R237, R378). -/
def codeFault (c : WinCode) : FCode := if c = 1 then .rights else .addr

/-- A load of n bytes at a Whorl address: its fault, or the value and the state after it. The register pages and mailboxes take only
8-byte accesses. -/
def loadAt (s : State) (w : Nat) (x : Whorl) (a n : Nat) : FCode ⊕ (Word × State) :=
  if a % n ≠ 0 then .inl .align
  else if a < 0x20000 then
    if n ≠ 8 then .inl .addr
    else
      let r := winRead s (.whorl w) a
      if r.1 = 0 then .inr r.2 else .inl (codeFault r.1)
  else if inHub a then
    (if mayMem s (.whorl w) (a - 0x100000) n false then .inr (word (readLe s.hubMem (a - 0x100000) n), s) else .inl .rights)
  else if 0x1000000 ≤ a ∧ a < 0x1010000 then .inr (word (readLe x.ls (a - 0x1000000) n), s)
  else if 0x2000000 ≤ a ∧ a < 0x2080000 then .inr (word (romLe (a - 0x2000000) n), s)
  else .inl .addr

/-- A store of the low n bytes of a value at a Whorl address: its fault, or the state after it. The code area takes no stores. -/
def storeAt (s : State) (w a n : Nat) (v : Word) : FCode ⊕ State :=
  let x := getW s w
  if a % n ≠ 0 then .inl .align
  else if a < 0x20000 then
    if n ≠ 8 then .inl .addr
    else
      let r := winWrite s (.whorl w) a v 0xFF
      if r.1 = 0 then .inr r.2 else .inl (codeFault r.1)
  else if inHub a then
    (if mayMem s (.whorl w) (a - 0x100000) n true then .inr { s with hubMem := writeLe s.hubMem (a - 0x100000) n v.toNat }
     else .inl .rights)
  else if 0x1000000 + x.codeBytes ≤ a ∧ 0x1000000 ≤ a ∧ a < 0x1010000 then
    .inr (setW s w { x with ls := writeLe x.ls (a - 0x1000000) n v.toNat })
  else .inl .addr

/-- The address of a load or store: g[a] plus the sign-extended immediate. -/
def effAddr (x : Whorl) (a : Nat) (imm : BitVec 16) : Word := gReg x a + immS imm

/-- A load of n bytes into g[d], zero-extended. -/
def loadInsn (s : State) (w d a n : Nat) (imm : BitVec 16) (x : Whorl) : State :=
  let ad := effAddr x a imm
  match loadAt s w x ad.toNat n with
  | .inl c => whorlFault s w c ad
  | .inr r => setD r.2 w d (getW r.2 w) r.1

/-- A store of the low n bytes of g[d]. The Whorl stands at the next instruction when the store acts, so one that stops or resets this
same Whorl leaves it as that action does. -/
def storeInsn (s : State) (w d a n : Nat) (imm : BitVec 16) (x : Whorl) : State :=
  let ad := effAddr x a imm
  match storeAt (setW s w (advance x)) w ad.toNat n (gReg x d) with
  | .inl c => whorlFault s w c ad
  | .inr s1 => s1

/-- LD8. -/
def execLd8 (w : Fin 8) (d a : Fin 32) (imm : BitVec 16) (s : State) : Host.Outcome State Fault Refusal :=
  insn s w [d, a] fun x => loadInsn s w d a 8 imm x
/-- LD4. -/
def execLd4 (w : Fin 8) (d a : Fin 32) (imm : BitVec 16) (s : State) : Host.Outcome State Fault Refusal :=
  insn s w [d, a] fun x => loadInsn s w d a 4 imm x
/-- LD2. -/
def execLd2 (w : Fin 8) (d a : Fin 32) (imm : BitVec 16) (s : State) : Host.Outcome State Fault Refusal :=
  insn s w [d, a] fun x => loadInsn s w d a 2 imm x
/-- LD1. -/
def execLd1 (w : Fin 8) (d a : Fin 32) (imm : BitVec 16) (s : State) : Host.Outcome State Fault Refusal :=
  insn s w [d, a] fun x => loadInsn s w d a 1 imm x
/-- ST8. -/
def execSt8 (w : Fin 8) (d a : Fin 32) (imm : BitVec 16) (s : State) : Host.Outcome State Fault Refusal :=
  insn s w [d, a] fun x => storeInsn s w d a 8 imm x
/-- ST4. -/
def execSt4 (w : Fin 8) (d a : Fin 32) (imm : BitVec 16) (s : State) : Host.Outcome State Fault Refusal :=
  insn s w [d, a] fun x => storeInsn s w d a 4 imm x
/-- ST2. -/
def execSt2 (w : Fin 8) (d a : Fin 32) (imm : BitVec 16) (s : State) : Host.Outcome State Fault Refusal :=
  insn s w [d, a] fun x => storeInsn s w d a 2 imm x
/-- ST1. -/
def execSt1 (w : Fin 8) (d a : Fin 32) (imm : BitVec 16) (s : State) : Host.Outcome State Fault Refusal :=
  insn s w [d, a] fun x => storeInsn s w d a 1 imm x

/-! ### Set registers in memory (R252) -/

/-- Whether a Whorl address takes a 16-byte access: aligned, and in no register page or mailbox. -/
def setAddrBad (a : Nat) : Option FCode := if a % 16 ≠ 0 then some .align else if a < 0x20000 then some .addr else none

/-- The 16 bytes at an address, the lower 8 bytes bits [63:0]. -/
def loadSet (s : State) (w : Nat) (x : Whorl) (a : Nat) : FCode ⊕ BitVec 128 :=
  match setAddrBad a, loadAt s w x a 8, loadAt s w x (a + 8) 8 with
  | some c, _, _ => .inl c
  | none, .inl c, _ => .inl c
  | none, _, .inl c => .inl c
  | none, .inr lo, .inr hi => .inr (hi.1 ++ lo.1)

/-- SLD. -/
def execSld (w : Fin 8) (sd : Fin 16) (ga : Fin 32) (s : State) : Host.Outcome State Fault Refusal :=
  insn s w [ga] fun x =>
    match loadSet s w x (gReg x ga).toNat with
    | .inl c => whorlFault s w c (gReg x ga)
    | .inr v => setW s w (advance (setSr x sd v))

/-- The 16 bytes of a set register stored at an address. -/
def storeSet (s : State) (w a : Nat) (v : BitVec 128) : FCode ⊕ State :=
  match setAddrBad a, storeAt s w a 8 (setLo v) with
  | some c, _ => .inl c
  | none, .inl c => .inl c
  | none, .inr s1 => storeAt s1 w (a + 8) 8 ((v >>> 64).setWidth 64)

/-- SST. -/
def execSst (w : Fin 8) (sa : Fin 16) (ga : Fin 32) (s : State) : Host.Outcome State Fault Refusal :=
  insn s w [ga] fun x =>
    match storeSet (setW s w (advance x)) w (gReg x ga).toNat (sReg x sa) with
    | .inl c => whorlFault s w c (gReg x ga)
    | .inr s1 => s1

end Sys2Proof.Machine
end

