-- ==== Sys2Proof/Machine/Ports.lean ====
section
/-! DEFINITION. The two-wire debug port (R344 to R351), the host register port (R352 to R355) and the doorbells (R356). -/

namespace Sys2Proof.Machine

/-! ### Answers of the two-wire port (Table 13.4) -/

/-- ACK or WACK OK. -/
def ackOk : Nat := 6
/-- ACK WAIT. -/
def ackWait : Nat := 10
/-- ACK or WACK FAULT. -/
def ackFault : Nat := 12

/-- The port's CRC-8 over bits in the order in which they are sent (R346). -/
def crc8 (sent : List Bool) : BitVec 8 := BitVec.ofNat 8 (sent.foldl (crcBit 8 0x07) 0)

/-- The bits of a field, bit 0 first. -/
def sentBits {n : Nat} (v : BitVec n) : List Bool := (List.range n).map v.getLsbD

/-- The port answers; a read's data carry their CRC-8 behind them (Table 13.4). -/
def twpSay (s : State) (ack : Nat) (data : Word) : State := { s with twp := { s.twp with ans := ⟨ack, data, crc8 (sentBits data)⟩ } }

/-- A FAULT: CAUSE recorded and STICKY set (R349). -/
def twpFault (s : State) (cause : Nat) : State :=
  twpSay (setRegF (setRegF s rTwpStat 15 8 cause) rTwpStat 7 7 1) ackFault 0

/-- A header rejected: the hub drives no ACK and counts it (R347). -/
def twpReject (s : State) : State := twpSay (countF s rTwpStat 47 32 1) 0 0

/-- STICKY. -/
def twpSticky (s : State) : Bool := bit (reg s rTwpStat) 7

/-- A read is under way in the background (R348). -/
def twpBusy (s : State) : Bool := s.twp.pend.isSome && s.twp.done.isNone

/-- A held result, or the wait for one, is given up. -/
def twpDrop (s : State) : State := { s with twp := { s.twp with pend := none, done := none } }

/-- The window offset that a request addresses. -/
def twpOff (a : BitVec 21) : Nat := 8 * a.toNat

/-- A header reaches the port: nothing while the hub is in reset, a rejection in RESET (R347), else what the request does. -/
def twpHeader (s : State) (go : State) : Host.Outcome State Fault Refusal :=
  if s.boot.inReset then ok s else if s.twp.st = .reset then ok (twpReject s) else ok go

/-! ### Line reset and activation (R344) -/

/-- TWP_LINE_RESET (R344, R400): level 0, STICKY and CAUSE cleared, the port's sessions ended (R281), the port in RESET. -/
def execTwpLineReset (s : State) : Host.Outcome State Fault Refusal :=
  if s.boot.inReset then ok s
  else
    let s1 := setLevel (setRegF (twpDrop s) rTwpStat 15 7 0) 0
    ok { s1 with twp := { s1.twp with st := .reset } }

/-- TWP_ACTIVATE. -/
def execTwpActivate (s : State) : Host.Outcome State Fault Refusal :=
  if s.boot.inReset then ok s else ok { s with twp := { s.twp with st := .idle, everOn := true } }

/-! ### Reads (R345, R348, R349) -/

/-- The answer to the header of the read that is held or under way. -/
def twpAgain (s : State) : State :=
  match s.twp.done with
  | none => twpSay s ackWait 0
  | some (some v) => twpSay s ackOk v
  | some none => twpSay s ackFault 0

/-- A RD or RDN of a window address: `zero` says that its ADDR keeps R345. -/
def twpRead (s : State) (op : Nat) (addr eff : BitVec 21) (zero : Bool) : State :=
  if s.twp.pend = some (op, addr) then twpAgain s
  else if twpBusy s then twpSay s ackWait 0
  else
    let s1 := twpDrop s
    if twpSticky s then twpFault s1 7
    else if !zero then twpFault s1 2
    else
      let s2 : State := { s1 with twp := { s1.twp with prev := eff } }
      match (winRead s2 .twp (twpOff eff)).1 with
      | 0 => twpSay { s2 with twp := { s2.twp with pend := some (op, addr), startAt := s.ht } } ackWait 0
      | 1 => twpFault s2 1
      | _ => twpFault s2 2

/-- TWP_RD. -/
def execTwpRd (addr : BitVec 21) (s : State) : Host.Outcome State Fault Refusal := twpHeader s (twpRead s 0 addr addr true)

/-- TWP_RDN: the address of the previous request plus 8, wrapping at 16 MiB. -/
def execTwpRdn (addr : BitVec 21) (s : State) : Host.Outcome State Fault Refusal :=
  twpHeader s (twpRead s 2 addr (s.twp.prev + 1) (addr == 0))

/-- TWP_READ_COMPLETE (R348, R349): the result is held; an access that ends in error, or past 40,000 ht, leaves a FAULT for the repeated
header. -/
def execTwpReadComplete (done : Bool) (s : State) : Host.Outcome State Fault Refusal :=
  if !twpBusy s then ok s
  else
    let fail (c : Nat) : State :=
      let s1 := setRegF (setRegF s rTwpStat 15 8 c) rTwpStat 7 7 1
      { s1 with twp := { s1.twp with done := some none } }
    if s.twp.startAt + 40000 < s.ht then ok (fail 3)
    else
      let r := winRead s .twp (twpOff s.twp.prev)
      if done ∧ r.1 = 0 then ok { r.2.2 with twp := { r.2.2.twp with done := some (some r.2.1) } } else ok (fail 5)

/-! ### Writes (R347, R349) -/

/-- A WR or WRN of a window address, with the CRC-8 that follows its data. The WACK of a write of PRT_MAP comes in its place of the
exchange, before the changes have acted (R347; DESIGN CHOICE, log entry 65). -/
def twpWrite (s : State) (eff : BitVec 21) (zero : Bool) (data : Word) (crc : BitVec 8) : State :=
  if twpBusy s then twpSay s ackWait 0
  else
    let s1 := twpDrop s
    if twpSticky s then twpFault s1 7
    else if !zero then twpFault s1 2
    else
      let s2 : State := { s1 with twp := { s1.twp with prev := eff } }
      let r := winWrite s2 .twp (twpOff eff) data 0xFF
      match r.1 with
      | 0 => if crc = crc8 (sentBits data) then twpSay r.2 ackOk 0 else twpFault (countF s2 rTwpStat 31 16 1) 4
      | 1 => twpFault s2 1
      | _ => twpFault s2 2

/-- TWP_WR. -/
def execTwpWr (addr : BitVec 21) (data : Word) (crc : BitVec 8) (s : State) : Host.Outcome State Fault Refusal :=
  twpHeader s (twpWrite s addr true data crc)

/-- TWP_WRN: the address of the previous request plus 8. -/
def execTwpWrn (addr : BitVec 21) (data : Word) (crc : BitVec 8) (s : State) : Host.Outcome State Fault Refusal :=
  twpHeader s (twpWrite s (s.twp.prev + 1) (addr == 0) data crc)

/-! ### STATUS, ABORT and what is not answered (R347 to R350) -/

/-- Another request's header discards a held result; a read under way goes on (R348). -/
def twpOther (s : State) : State := if twpBusy s then s else twpDrop s

/-- TWP_STATUS: TWP_STAT at once, at every level, once its header has discarded a held result (R348). -/
def execTwpStatus (addr : BitVec 21) (s : State) : Host.Outcome State Fault Refusal :=
  twpHeader s (if addr ≠ 0 then twpFault (twpOther s) 2
    else let r := regRead (twpOther s) .twp rTwpStat; twpSay r.2 ackOk r.1)

/-- TWP_ABORT: STICKY and CAUSE cleared, a held or pending result discarded; an access already started completes, and its result counts
LATE. -/
def execTwpAbort (addr : BitVec 21) (s : State) : Host.Outcome State Fault Refusal :=
  twpHeader s (if addr ≠ 0 then twpFault (twpOther s) 2
    else
      let s1 := if twpBusy s then countLate (winRead s .twp (twpOff s.twp.prev)).2.2 else s
      twpSay (twpDrop (setRegF { s1 with freeCtr := s1.freeCtr + 1 } rTwpStat 15 7 0)) ackOk (Config.abortData s1.freeCtr))

/-- TWP_REQUEST_TIMEOUT (R350): a request only partly received is discarded and counted. -/
def execTwpRequestTimeout (s : State) : Host.Outcome State Fault Refusal :=
  if s.boot.inReset ∨ s.twp.st = .reset then ok s else ok (countF s rTwpStat 63 48 1)

/-- The CRC-8 of a request header, over OP and ADDR as they are sent (Table 13.3, R346). -/
def hdrCrc (hdr : BitVec 34) : BitVec 8 := crc8 (sentBits (hdr.extractLsb' 1 24))

/-- TWP_HEADER_REJECT (R345 to R347, R349): a header with a STOP of 1 or a bad CRC is counted and not answered, and a reserved OP is answered
FAULT. A header that is in order, or that has no START, is none of these. -/
def execTwpHeaderReject (hdr : BitVec 34) (s : State) : Host.Outcome State Fault Refusal :=
  let bad := hdr.getLsbD 33 || hdr.extractLsb' 25 8 != hdrCrc hdr
  if !hdr.getLsbD 0 || (!bad && decide ((hdr.extractLsb' 1 3).toNat < 6)) then ok s
  else twpHeader s (if bad then twpReject s else if twpBusy s then twpSay s ackWait 0 else twpFault (twpDrop s) 6)

/-! ### Doorbells (R356, Table 13.7) -/

/-- TWP_DOOR: line 7, for the two-wire port from level 1. -/
def execTwpDoor (_v : Word) (s : State) : Host.Outcome State Fault Refusal :=
  if mayWriteMail s .twp 0x10FF8 then ok (raiseLine s 7) else ok s

/-- HOST_DOOR: line 8, for ROOT. -/
def execHostDoor (_v : Word) (s : State) : Host.Outcome State Fault Refusal :=
  if mayWriteMail s .root 0x12FF8 then ok (raiseLine s 8) else ok s

/-! ### Host register port (R352 to R355) -/

/-- HRQ_READY: the port takes a request while it holds fewer than 16 unanswered, no response is stalled, and the hub is out of reset. -/
def hostReady (s : State) : Bool := !s.boot.inReset && !s.host.stall && decide (s.host.resp.length < 16)

/-- An answer put behind those that wait; it waits itself for some changes of the map to act (R93). -/
def hostAnswer (s : State) (wr : Bool) (code : Nat) (data : Word) (wait : List (Nat × Nat) := []) : State :=
  let h := s.host
  { s with host := { h with resp := h.resp ++ [⟨wr, code, if code = 0 then data else 0, wait⟩],
                            since := if h.resp = [] then s.ht else h.since } }

/-- Whether the answer at the front stands at the port, HRS_VALID (R353). -/
def hostValid (s : State) : Bool := s.host.resp.head?.any fun r => r.wait.isEmpty

/-- The class of a request (Table 13.5); 2 and 3 are reserved. -/
def hostWho (cls : Nat) (tenant : BitVec 8) : Option Who :=
  match cls with
  | 0 => some .root
  | 1 => some (.tenant tenant.toNat)
  | _ => none

/-- Whether HRQ_ADDR lies in the host window (R378). -/
def inWindow (o : Nat) : Bool := inPages o || inMail o || inHub o

/-- A write of a register page or mailbox without all strobes is refused NOADDR and counted (R354). -/
def strbBad (o : Nat) (wr : Bool) (strb : BitVec 8) : Bool := wr && strb != 0xFF && (inPages o || inMail o)

/-- HOST_REQUEST (R353, R354): the checks in order, and one answer per request. -/
def execHostRequest (wr : Bool) (addr : BitVec 21) (strb : BitVec 8) (data : Word) (cls : Fin 4) (tenant : BitVec 8) (s : State) :
    Host.Outcome State Fault Refusal :=
  let o := twpOff addr
  if !hostReady s then ok s
  else if !inWindow o then ok (hostAnswer s wr 2 0)
  else if strbBad o wr strb then ok (hostAnswer (countF s rHptStat 47 32 1) wr 2 0)
  else match hostWho cls tenant with
    | none => ok (hostAnswer s wr 1 0)
    | some who =>
      if wr then
        let r := winWrite s who o data strb
        ok (hostAnswer r.2 true r.1 0 ((mapOwed r.2).filter fun g => !(mapOwed s).contains g))
      else let r := winRead s who o; ok (hostAnswer r.2.2 false r.1 r.2.1)

/-- HOST_ACCESS_TIMEOUT (R354): the access of the request taken last, still unanswered and not refused, has passed its limit: FAILED, and
counted. -/
def execHostAccessTimeout (s : State) : Host.Outcome State Fault Refusal :=
  match s.host.resp.getLast? with
  | none => ok s
  | some r =>
    if r.resp ≠ 0 then ok s
    else
    let s1 := countF s rHptStat 63 48 1
    ok { s1 with host := { s1.host with resp := s1.host.resp.dropLast ++ [⟨r.wr, 3, 0, []⟩] } }

/-- HOST_RESPONSE_STALL (R355): a response has waited 4,000,000 ht. -/
def execHostResponseStall (s : State) : Host.Outcome State Fault Refusal :=
  if hostValid s ∧ s.host.stall = false ∧ s.host.since + 4000000 ≤ s.ht then
    ok (raiseLine { s with host := { s.host with stall := true } } 13)
  else ok s

/-- HOST_RESPONSE_TAKE (R353, R355). -/
def execHostResponseTake (s : State) : Host.Outcome State Fault Refusal :=
  if hostValid s then ok (hostGive { s with host := ⟨s.host.resp.drop 1, false, s.ht⟩ }) else ok s

/-- HOST_PORT_RESET (R352): the requests not yet answered are discarded, and the port's crossing resynchronises (Table 2.7). -/
def execHostPortReset (s : State) : Host.Outcome State Fault Refusal :=
  ok (resyncQueue 2049 s.host.resp.length { s with host := ⟨[], false, s.ht⟩ })

end Sys2Proof.Machine
end

