-- ==== Sys2Proof/Machine/Dispatch.lean ====
section
/-! DEFINITION. The meaning of each command: one arm per row of the opcode table. -/

namespace Sys2Proof.Machine

/-- The effect of a command on everything but the queue of commands. -/
def exec (i : Instr) (s : State) : Host.Outcome State Fault Refusal :=
  match i with
  | .alu w fn d a b => Sys2Proof.Machine.execAlu w fn d a b s
  | .addi w d a imm => Sys2Proof.Machine.execAddi w d a imm s
  | .andi w d a imm => Sys2Proof.Machine.execAndi w d a imm s
  | .ori w d a imm => Sys2Proof.Machine.execOri w d a imm s
  | .xori w d a imm => Sys2Proof.Machine.execXori w d a imm s
  | .slti w d a imm => Sys2Proof.Machine.execSlti w d a imm s
  | .sltiu w d a imm => Sys2Proof.Machine.execSltiu w d a imm s
  | .insh w d lane imm => Sys2Proof.Machine.execInsh w d lane imm s
  | .ld8 w d a imm => Sys2Proof.Machine.execLd8 w d a imm s
  | .ld4 w d a imm => Sys2Proof.Machine.execLd4 w d a imm s
  | .ld2 w d a imm => Sys2Proof.Machine.execLd2 w d a imm s
  | .ld1 w d a imm => Sys2Proof.Machine.execLd1 w d a imm s
  | .st8 w d a imm => Sys2Proof.Machine.execSt8 w d a imm s
  | .st4 w d a imm => Sys2Proof.Machine.execSt4 w d a imm s
  | .st2 w d a imm => Sys2Proof.Machine.execSt2 w d a imm s
  | .st1 w d a imm => Sys2Proof.Machine.execSt1 w d a imm s
  | .beq w d a imm => Sys2Proof.Machine.execBeq w d a imm s
  | .bne w d a imm => Sys2Proof.Machine.execBne w d a imm s
  | .blt w d a imm => Sys2Proof.Machine.execBlt w d a imm s
  | .bge w d a imm => Sys2Proof.Machine.execBge w d a imm s
  | .bltu w d a imm => Sys2Proof.Machine.execBltu w d a imm s
  | .bgeu w d a imm => Sys2Proof.Machine.execBgeu w d a imm s
  | .j w off => Sys2Proof.Machine.execJ w off s
  | .jal w off => Sys2Proof.Machine.execJal w off s
  | .nop w => Sys2Proof.Machine.execNop w s
  | .jr w a => Sys2Proof.Machine.execJr w a s
  | .jalr w d a => Sys2Proof.Machine.execJalr w d a s
  | .rdtime w d => Sys2Proof.Machine.execRdtime w d s
  | .tset w t a => Sys2Proof.Machine.execTset w t a s
  | .tclr w t => Sys2Proof.Machine.execTclr w t s
  | .setdl w a => Sys2Proof.Machine.execSetdl w a s
  | .rddl w d => Sys2Proof.Machine.execRddl w d s
  | .tkst w d a => Sys2Proof.Machine.execTkst w d a s
  | .tkfree w a => Sys2Proof.Machine.execTkfree w a s
  | .tkpend w d => Sys2Proof.Machine.execTkpend w d s
  | .whoami w d => Sys2Proof.Machine.execWhoami w d s
  | .stopw w => Sys2Proof.Machine.execStopw w s
  | .fenceAg w d => Sys2Proof.Machine.execFenceAg w d s
  | .fenceAll w d => Sys2Proof.Machine.execFenceAll w d s
  | .trd w d t => Sys2Proof.Machine.execTrd w d t s
  | .smk w sd ga gb => Sys2Proof.Machine.execSmk w sd ga gb s
  | .sld w sd ga => Sys2Proof.Machine.execSld w sd ga s
  | .sst w sa ga => Sys2Proof.Machine.execSst w sa ga s
  | .smv w sd sa => Sys2Proof.Machine.execSmv w sd sa s
  | .seng w sd sa gb => Sys2Proof.Machine.execSeng w sd sa gb s
  | .srd w sa ga gb => Sys2Proof.Machine.execSrd w sa ga gb s
  | .wait w d a b tm => Sys2Proof.Machine.execWait w d a b tm s
  | .poll w d a b tm => Sys2Proof.Machine.execPoll w d a b tm s
  | .evset w b => Sys2Proof.Machine.execEvset w b s
  | .evclr w b => Sys2Proof.Machine.execEvclr w b s
  | .evrd w d => Sys2Proof.Machine.execEvrd w d s
  | .agw w d sa b reg => Sys2Proof.Machine.execAgw w d sa b reg s
  | .agr w d sa b reg red => Sys2Proof.Machine.execAgr w d sa b reg red s
  | .agrLm w d sa b rd => Sys2Proof.Machine.execAgrLm w d sa b rd s
  | .halt w d a => Sys2Proof.Machine.execHalt w d a s
  | .haltPlanned w d a b region => Sys2Proof.Machine.execHaltPlanned w d a b region s
  | .run w d a => Sys2Proof.Machine.execRun w d a s
  | .step w d a b => Sys2Proof.Machine.execStep w d a b s
  | .snip w d a => Sys2Proof.Machine.execSnip w d a s
  | .trig w d sa b n => Sys2Proof.Machine.execTrig w d sa b n s
  | .tap w d sa b j => Sys2Proof.Machine.execTap w d sa b j s
  | .tapr w d sa b j => Sys2Proof.Machine.execTapr w d sa b j s
  | .tapc w d sa j => Sys2Proof.Machine.execTapc w d sa j s
  | .emit w d a b cls units => Sys2Proof.Machine.execEmit w d a b cls units s
  | .commit w d a b area => Sys2Proof.Machine.execCommit w d a b area s
  | .lease w d a b => Sys2Proof.Machine.execLease w d a b s
  | .release w d a => Sys2Proof.Machine.execRelease w d a s
  | .send w d a b units => Sys2Proof.Machine.execSend w d a b units s
  | .recv w d a b units => Sys2Proof.Machine.execRecv w d a b units s
  | .ticketComplete w t => Sys2Proof.Machine.execTicketComplete w t s
  | .ticketTimeout w t => Sys2Proof.Machine.execTicketTimeout w t s
  | .timerExpire w t => Sys2Proof.Machine.execTimerExpire w t s
  | .leaseLapse w h => Sys2Proof.Machine.execLeaseLapse w h s
  | .whorlFault w code addr => Sys2Proof.Machine.execWhorlFault w code addr s
  | .whorlReset who w => Sys2Proof.Machine.execWhorlReset who w s
  | .whorlStop who w => Sys2Proof.Machine.execWhorlStop who w s
  | .whorlStart who w => Sys2Proof.Machine.execWhorlStart who w s
  | .whorlLoad who w => Sys2Proof.Machine.execWhorlLoad who w s
  | .loadEnd w => Sys2Proof.Machine.execLoadEnd w s
  | .whlLsDataAccess who w wr v => Sys2Proof.Machine.execWhlLsDataAccess who w wr v s
  | .whorlOut w => Sys2Proof.Machine.execWhorlOut w s
  | .registerWrite who off v => Sys2Proof.Machine.execRegisterWrite who off v s
  | .evtRaise who v => Sys2Proof.Machine.execEvtRaise who v s
  | .prtCmdHalt who p => Sys2Proof.Machine.execPrtCmdHalt who p s
  | .prtCmdRun who p => Sys2Proof.Machine.execPrtCmdRun who p s
  | .prtCmdStep who p arg => Sys2Proof.Machine.execPrtCmdStep who p arg s
  | .prtCmdSnip who p => Sys2Proof.Machine.execPrtCmdSnip who p s
  | .prtMapWrite who k v => Sys2Proof.Machine.execPrtMapWrite who k v s
  | .prtMapApply r => Sys2Proof.Machine.execPrtMapApply r s
  | .stopTreeRootSend r => Sys2Proof.Machine.execStopTreeRootSend r s
  | .leafHalt r => Sys2Proof.Machine.execLeafHalt r s
  | .leafRun r => Sys2Proof.Machine.execLeafRun r s
  | .leafStep r => Sys2Proof.Machine.execLeafStep r s
  | .leafStepDone r p => Sys2Proof.Machine.execLeafStepDone r p s
  | .leafMark r => Sys2Proof.Machine.execLeafMark r s
  | .leafClrmark r => Sys2Proof.Machine.execLeafClrmark r s
  | .plannedHaltDue p => Sys2Proof.Machine.execPlannedHaltDue p s
  | .regionFrozen r p => Sys2Proof.Machine.execRegionFrozen r p s
  | .regionReady r p => Sys2Proof.Machine.execRegionReady r p s
  | .cutComplete p => Sys2Proof.Machine.execCutComplete p s
  | .cutTimeout p => Sys2Proof.Machine.execCutTimeout p s
  | .runResumed p => Sys2Proof.Machine.execRunResumed p s
  | .freezeLate site => Sys2Proof.Machine.execFreezeLate site s
  | .comparatorHit site acc addr => Sys2Proof.Machine.execComparatorHit site acc addr s
  | .coreEvent site evt => Sys2Proof.Machine.execCoreEvent site evt s
  | .flyXtFire cluster bits => Sys2Proof.Machine.execFlyXtFire cluster bits s
  | .channelFire cluster ch => Sys2Proof.Machine.execChannelFire cluster ch s
  | .guestTriggerRelay site ch => Sys2Proof.Machine.execGuestTriggerRelay site ch s
  | .agentOpReceive flyer issuer iseq => Sys2Proof.Machine.execAgentOpReceive flyer issuer iseq s
  | .inspectionAck site stat data => Sys2Proof.Machine.execInspectionAck site stat data s
  | .inspectionTimeout site => Sys2Proof.Machine.execInspectionTimeout site s
  | .lmSteal site => Sys2Proof.Machine.execLmSteal site s
  | .lmReadReturn site err data => Sys2Proof.Machine.execLmReadReturn site err data s
  | .lmDeadline site => Sys2Proof.Machine.execLmDeadline site s
  | .wakeAck site => Sys2Proof.Machine.execWakeAck site s
  | .wakeTimeout site => Sys2Proof.Machine.execWakeTimeout site s
  | .wakeRelease site => Sys2Proof.Machine.execWakeRelease site s
  | .coreResetAssert site => Sys2Proof.Machine.execCoreResetAssert site s
  | .coreResetRelease site => Sys2Proof.Machine.execCoreResetRelease site s
  | .vtTxWrite site v => Sys2Proof.Machine.execVtTxWrite site v s
  | .vtRxPop site => Sys2Proof.Machine.execVtRxPop site s
  | .vtDrain site => Sys2Proof.Machine.execVtDrain site s
  | .flowEvent site iaddr br ind => Sys2Proof.Machine.execFlowEvent site iaddr br ind s
  | .cmdEvent site slot bgn fin ids => Sys2Proof.Machine.execCmdEvent site slot bgn fin ids s
  | .corePowerChange site lp gated => Sys2Proof.Machine.execCorePowerChange site lp gated s
  | .flyerTake flyer => Sys2Proof.Machine.execFlyerTake flyer s
  | .recordAgeDrop flyer => Sys2Proof.Machine.execRecordAgeDrop flyer s
  | .groupSend flyer => Sys2Proof.Machine.execGroupSend flyer s
  | .collectorArbitrate node => Sys2Proof.Machine.execCollectorArbitrate node s
  | .traceWordError node bad => Sys2Proof.Machine.execTraceWordError node bad s
  | .groupArrival col => Sys2Proof.Machine.execGroupArrival col s
  | .funnelParse input => Sys2Proof.Machine.execFunnelParse input s
  | .funnelRelease => Sys2Proof.Machine.execFunnelRelease s
  | .gapFlush point src => Sys2Proof.Machine.execGapFlush point src s
  | .bufferModeWrite who v => Sys2Proof.Machine.execBufferModeWrite who v s
  | .bufferTrigger => Sys2Proof.Machine.execBufferTrigger s
  | .trcWinFire who => Sys2Proof.Machine.execTrcWinFire who s
  | .captureEnd => Sys2Proof.Machine.execCaptureEnd s
  | .trcBufRdataRead r => Sys2Proof.Machine.execTrcBufRdataRead r s
  | .bufferBankRetire bank => Sys2Proof.Machine.execBufferBankRetire bank s
  | .spillBlockWrite => Sys2Proof.Machine.execSpillBlockWrite s
  | .llHoldRequest point p => Sys2Proof.Machine.execLlHoldRequest point p s
  | .llHoldStart p => Sys2Proof.Machine.execLlHoldStart p s
  | .llHoldEnd p => Sys2Proof.Machine.execLlHoldEnd p s
  | .llHoldTimeout p => Sys2Proof.Machine.execLlHoldTimeout p s
  | .tapEdge flyer edge => Sys2Proof.Machine.execTapEdge flyer edge s
  | .tapRotate flyer => Sys2Proof.Machine.execTapRotate flyer s
  | .driftCompare n => Sys2Proof.Machine.execDriftCompare n s
  | .driftLevelDeferred cluster ch => Sys2Proof.Machine.execDriftLevelDeferred cluster ch s
  | .aoBoundary flyer => Sys2Proof.Machine.execAoBoundary flyer s
  | .aoEntryWrite cluster => Sys2Proof.Machine.execAoEntryWrite cluster s
  | .sampleEdge cluster perf => Sys2Proof.Machine.execSampleEdge cluster perf s
  | .ringWrite => Sys2Proof.Machine.execRingWrite s
  | .wdgReport site => Sys2Proof.Machine.execWdgReport site s
  | .wdgFetch cluster => Sys2Proof.Machine.execWdgFetch cluster s
  | .dmpReq who p => Sys2Proof.Machine.execDmpReq who p s
  | .dumpProgramStart => Sys2Proof.Machine.execDumpProgramStart s
  | .dumpTimeout => Sys2Proof.Machine.execDumpTimeout s
  | .hngCtrlWrite who v => Sys2Proof.Machine.execHngCtrlWrite who v s
  | .hnkPinWrite who v => Sys2Proof.Machine.execHnkPinWrite who v s
  | .commitAdmit => Sys2Proof.Machine.execCommitAdmit s
  | .commitDurable => Sys2Proof.Machine.execCommitDurable s
  | .poweredTick => Sys2Proof.Machine.execPoweredTick s
  | .pfwAssert => Sys2Proof.Machine.execPfwAssert s
  | .pfwGlitch => Sys2Proof.Machine.execPfwGlitch s
  | .pfwClear => Sys2Proof.Machine.execPfwClear s
  | .hankMount => Sys2Proof.Machine.execHankMount s
  | .nandMount => Sys2Proof.Machine.execNandMount s
  | .mramScrub bank cell => Sys2Proof.Machine.execMramScrub bank cell s
  | .mramBankRetire bank => Sys2Proof.Machine.execMramBankRetire bank s
  | .nandWearLevel dev => Sys2Proof.Machine.execNandWearLevel dev s
  | .nandPatrol dev blk page corr => Sys2Proof.Machine.execNandPatrol dev blk page corr s
  | .nandBlockRetire dev blk => Sys2Proof.Machine.execNandBlockRetire dev blk s
  | .xspiStatusPoll dev ok => Sys2Proof.Machine.execXspiStatusPoll dev ok s
  | .xspiOpTimeout dev => Sys2Proof.Machine.execXspiOpTimeout dev s
  | .hnkRdDataRead r => Sys2Proof.Machine.execHnkRdDataRead r s
  | .refclkLoss => Sys2Proof.Machine.execRefclkLoss s
  | .refclkReturn => Sys2Proof.Machine.execRefclkReturn s
  | .ihbElect who => Sys2Proof.Machine.execIhbElect who s
  | .elect ch lseq msg => Sys2Proof.Machine.execElect ch lseq msg s
  | .electionClose => Sys2Proof.Machine.execElectionClose s
  | .probe ch lseq t1 => Sys2Proof.Machine.execProbe ch lseq t1 s
  | .probeReply ch lseq t1 t2 t3 => Sys2Proof.Machine.execProbeReply ch lseq t1 t2 t3 s
  | .probeTimeout => Sys2Proof.Machine.execProbeTimeout s
  | .timeExchangeTick => Sys2Proof.Machine.execTimeExchangeTick s
  | .timeAlign => Sys2Proof.Machine.execTimeAlign s
  | .timeSelfAlign => Sys2Proof.Machine.execTimeSelfAlign s
  | .timMeasure who => Sys2Proof.Machine.execTimMeasure who s
  | .msg ch lseq src dst mtag sch units => Sys2Proof.Machine.execMsg ch lseq src dst mtag sch units s
  | .ack ch lseq src dst mtag full => Sys2Proof.Machine.execAck ch lseq src dst mtag full s
  | .name ch lseq hub hops => Sys2Proof.Machine.execName ch lseq hub hops s
  | .ihbIdWrite who v => Sys2Proof.Machine.execIhbIdWrite who v s
  | .haltReq ch lseq cutid deadline part => Sys2Proof.Machine.execHaltReq ch lseq cutid deadline part s
  | .confirm ch lseq cutid joined nfail => Sys2Proof.Machine.execConfirm ch lseq cutid joined nfail s
  | .cutChildDeadline p => Sys2Proof.Machine.execCutChildDeadline p s
  | .mark ch lseq cutid part => Sys2Proof.Machine.execMark ch lseq cutid part s
  | .rdvOpen ch lseq epoch op cutid => Sys2Proof.Machine.execRdvOpen ch lseq epoch op cutid s
  | .rdvArrive ch lseq epoch members cutid => Sys2Proof.Machine.execRdvArrive ch lseq epoch members cutid s
  | .rdvRelease ch lseq epoch op cutid => Sys2Proof.Machine.execRdvRelease ch lseq epoch op cutid s
  | .rdvLeft ch lseq epoch members cutid => Sys2Proof.Machine.execRdvLeft ch lseq epoch members cutid s
  | .rdvTimeout p => Sys2Proof.Machine.execRdvTimeout p s
  | .dumpReq ch lseq num cutid => Sys2Proof.Machine.execDumpReq ch lseq num cutid s
  | .channelUp ch => Sys2Proof.Machine.execChannelUp ch s
  | .channelDown ch => Sys2Proof.Machine.execChannelDown ch s
  | .packetReceive link hdr hdrSide pay paySide => Sys2Proof.Machine.execPacketReceive link hdr hdrSide pay paySide s
  | .linkAck link flit => Sys2Proof.Machine.execLinkAck link flit s
  | .linkNak link flit => Sys2Proof.Machine.execLinkNak link flit s
  | .linkRetryTimeout link => Sys2Proof.Machine.execLinkRetryTimeout link s
  | .routeRebuild => Sys2Proof.Machine.execRouteRebuild s
  | .epochClose flyer issuer epoch => Sys2Proof.Machine.execEpochClose flyer issuer epoch s
  | .reductionSend node issuer iseq => Sys2Proof.Machine.execReductionSend node issuer iseq s
  | .entryLinkFail e out => Sys2Proof.Machine.execEntryLinkFail e out s
  | .spnModeWrite who v => Sys2Proof.Machine.execSpnModeWrite who v s
  | .queueResync index items => Sys2Proof.Machine.execQueueResync index items s
  | .crossingOverrun index => Sys2Proof.Machine.execCrossingOverrun index s
  | .flyerProbe flyer answered => Sys2Proof.Machine.execFlyerProbe flyer answered s
  | .flyerTakeover flyer => Sys2Proof.Machine.execFlyerTakeover flyer s
  | .cardEngineFail flyer => Sys2Proof.Machine.execCardEngineFail flyer s
  | .bobbinFail site => Sys2Proof.Machine.execBobbinFail site s
  | .recoveryEngineFail => Sys2Proof.Machine.execRecoveryEngineFail s
  | .regionPowerOff r => Sys2Proof.Machine.execRegionPowerOff r s
  | .regionPowerOn r => Sys2Proof.Machine.execRegionPowerOn r s
  | .repairSample row v => Sys2Proof.Machine.execRepairSample row v s
  | .twpLineReset => Sys2Proof.Machine.execTwpLineReset s
  | .twpActivate => Sys2Proof.Machine.execTwpActivate s
  | .twpRd addr => Sys2Proof.Machine.execTwpRd addr s
  | .twpWr addr data crc => Sys2Proof.Machine.execTwpWr addr data crc s
  | .twpRdn addr => Sys2Proof.Machine.execTwpRdn addr s
  | .twpWrn addr data crc => Sys2Proof.Machine.execTwpWrn addr data crc s
  | .twpStatus addr => Sys2Proof.Machine.execTwpStatus addr s
  | .twpAbort addr => Sys2Proof.Machine.execTwpAbort addr s
  | .twpReadComplete ok => Sys2Proof.Machine.execTwpReadComplete ok s
  | .twpRequestTimeout => Sys2Proof.Machine.execTwpRequestTimeout s
  | .twpDoor v => Sys2Proof.Machine.execTwpDoor v s
  | .hostDoor v => Sys2Proof.Machine.execHostDoor v s
  | .hostRequest wr addr strb data cls tenant => Sys2Proof.Machine.execHostRequest wr addr strb data cls tenant s
  | .hostAccessTimeout => Sys2Proof.Machine.execHostAccessTimeout s
  | .hostResponseStall => Sys2Proof.Machine.execHostResponseStall s
  | .hostPortReset => Sys2Proof.Machine.execHostPortReset s
  | .mpRequestIssue => Sys2Proof.Machine.execMpRequestIssue s
  | .mpReadBeat tag last data err => Sys2Proof.Machine.execMpReadBeat tag last data err s
  | .mpWriteCompletion tag err => Sys2Proof.Machine.execMpWriteCompletion tag err s
  | .mpTimeout wr tag => Sys2Proof.Machine.execMpTimeout wr tag s
  | .mptAccGo who v => Sys2Proof.Machine.execMptAccGo who v s
  | .laneFrameSend dstream => Sys2Proof.Machine.execLaneFrameSend dstream s
  | .laneIdleFrame lane => Sys2Proof.Machine.execLaneIdleFrame lane s
  | .laneInService lane => Sys2Proof.Machine.execLaneInService lane s
  | .laneDown lane => Sys2Proof.Machine.execLaneDown lane s
  | .laneStall lane => Sys2Proof.Machine.execLaneStall lane s
  | .rgtChalNew who healthy => Sys2Proof.Machine.execRgtChalNew who healthy s
  | .rgtRespSubmit who v => Sys2Proof.Machine.execRgtRespSubmit who v s
  | .responseCheck => Sys2Proof.Machine.execResponseCheck s
  | .nonceLapse => Sys2Proof.Machine.execNonceLapse s
  | .lockoutEnd => Sys2Proof.Machine.execLockoutEnd s
  | .rgtUnlockWrite who v => Sys2Proof.Machine.execRgtUnlockWrite who v s
  | .rgtPolicyWrite who v => Sys2Proof.Machine.execRgtPolicyWrite who v s
  | .bootRelease who v => Sys2Proof.Machine.execBootRelease who v s
  | .agaAgentWrite who v => Sys2Proof.Machine.execAgaAgentWrite who v s
  | .agaAgentRead who v => Sys2Proof.Machine.execAgaAgentRead who v s
  | .agaLmWrite who v => Sys2Proof.Machine.execAgaLmWrite who v s
  | .agaLmRead who v => Sys2Proof.Machine.execAgaLmRead who v s
  | .agaCregRead who v => Sys2Proof.Machine.execAgaCregRead who v s
  | .agaCregWrite who v => Sys2Proof.Machine.execAgaCregWrite who v s
  | .agaComplete => Sys2Proof.Machine.execAgaComplete s
  | .agaTimeout => Sys2Proof.Machine.execAgaTimeout s
  | .powerOnReset => Sys2Proof.Machine.execPowerOnReset s
  | .hubReset => Sys2Proof.Machine.execHubReset s
  | .hubResetRelease => Sys2Proof.Machine.execHubResetRelease s
  | .bootStageTimeout => Sys2Proof.Machine.execBootStageTimeout s
  | .scheduleStep r levels => Sys2Proof.Machine.execScheduleStep r levels s
  | .perfStrobe site strobes => Sys2Proof.Machine.execPerfStrobe site strobes s
  | .traceLinkFail node => Sys2Proof.Machine.execTraceLinkFail node s
  | .messageDiscard ch => Sys2Proof.Machine.execMessageDiscard ch s
  | .hostResponseTake => Sys2Proof.Machine.execHostResponseTake s
  | .twpHeaderReject hdr => Sys2Proof.Machine.execTwpHeaderReject hdr s
  | .xspiDqsTimeout c => Sys2Proof.Machine.execXspiDqsTimeout c s

end Sys2Proof.Machine
end

