-- ==== Sys2Proof/Machine/Tangle.lean ====
section
/-! DEFINITION. The sync object table (R218) and the tangle graph: nodes, edges, marks and words (R216, R217, R219 to R222). -/

namespace Sys2Proof.Machine

/-! ### The sync object table (R218, Table 8.3) -/

/-- A signaller of an object: source ID, and the hub of one that lies on another hub. -/
structure Signaller where
  src    : Nat
  remote : Bool
  hub    : Nat
  deriving DecidableEq, Repr

/-- An entry of the table: its descriptor, the place of its descriptor among the entries, and its signallers. -/
structure SotEntry where
  desc : Word
  idx  : Nat
  sigs : List Signaller
  deriving DecidableEq, Repr

/-- OBJ of an entry. -/
def SotEntry.obj (e : SotEntry) : Nat := bits e.desc 23 0
/-- Whether an entry is a barrier (TYPE 1). -/
def SotEntry.barrier (e : SotEntry) : Bool := bits e.desc 63 62 == 1
/-- OWNER of an entry: the core that holds the state. -/
def SotEntry.owner (e : SotEntry) : Nat := bits e.desc 42 31
/-- REG of an entry. -/
def SotEntry.reg (e : SotEntry) : Nat := bits e.desc 54 43

/-- A signaller unit. -/
def sigOf (u : Word) : Signaller := ⟨bits u 63 48, bit u 47, if bit u 47 then bits u 46 40 else 0⟩

/-- The entries from some units on, with at most n more, behind k entries the last of which is `last`; and whether one of them has a fault, at
which the reading stops. -/
def sotEntries (k : Nat) (last : Option Nat) : Nat → List Word → List SotEntry × Bool
  | 0, _ => ([], false)
  | _, [] => ([], false)
  | n + 1, d :: t =>
    let ns := bits d 61 57 + 1
    if k = 65536 ∨ bits d 63 62 = 3 ∨ t.length < ns ∨ last.any (bits d 23 0 ≤ ·) then ([], true)
    else
      let r := sotEntries (k + 1) (some (bits d 23 0)) n (t.drop ns)
      (⟨d, k, (t.take ns).map sigOf⟩ :: r.1, r.2)

/-- The table of some units: its entries up to the first faulty one, and whether there is one (DMP_STAT.SOT_ERR). -/
def readSot (us : List Word) : List SotEntry × Bool := sotEntries 0 none us.length us

/-! ### What the graph is built from -/

/-- An engine: hub and source, whether its core lies in a cut, whether its slot is present, whether its core is in reset, whether it counts in
NFAIL, its wait registers where they could be read, and whether a running core answered for it. -/
structure Engine where
  remote  : Bool
  hub     : Nat
  src     : Nat
  inCut   : Bool
  present : Bool
  reset   : Bool
  nfail   : Bool
  regs    : Option (Word × Word)
  live    : Bool
  deriving DecidableEq, Repr

/-- W of an engine's wait register (Table 8.2). -/
def Engine.waits (e : Engine) : Bool := e.regs.any fun r => bit r.1 63
/-- KIND of an engine that waits. -/
def Engine.kind (e : Engine) : Option Nat := if e.waits then e.regs.map fun r => bits r.1 62 60 else none
/-- OBJ of an engine's wait. -/
def Engine.obj (e : Engine) : Nat := e.regs.elim 0 fun r => bits r.1 55 32
/-- WANT of an engine's wait. -/
def Engine.want (e : Engine) : Nat := e.regs.elim 0 fun r => bits r.1 31 0
/-- ENTRY of an engine's wait. -/
def Engine.entry (e : Engine) : Option Nat := e.regs.map fun r => bits r.2 63 48

/-- The sync object that an engine waits for: KIND 0 or 1. -/
def Engine.object (e : Engine) : Option Nat := e.kind.bind fun k => if k ≤ 1 then some e.obj else none

/-- An object of the graph: its entry, and its state where it could be read. -/
structure TObject where
  entry : SotEntry
  state : Option Word
  deriving DecidableEq, Repr

/-- A seam of the graph: its number, the slot 2 engines of its producer and of its consumer where this die holds the end, and SM_LEVEL. -/
structure TSeam where
  num   : Nat
  prod  : Option Engine
  cons  : Option Engine
  level : Nat
  deriving DecidableEq, Repr

/-- A node (R219). -/
inductive TNode where
  | engine (e : Engine)
  | object (o : TObject)
  | seam (m : TSeam)
  | memory
  deriving DecidableEq, Repr

/-- What names a node: its place in the four kinds, hub and number. -/
def TNode.key : TNode → Nat × Nat × Nat
  | .engine e => (if e.remote then 1 else 0, e.hub, e.src)
  | .object o => (2, 0, o.entry.obj)
  | .seam m => (3, 0, m.num)
  | .memory => (4, 0, 0)

/-- An edge between two nodes, by their names: NEED, else WAIT. -/
structure TEdge where
  need : Bool
  src  : Nat × Nat × Nat
  dst  : Nat × Nat × Nat
  deriving DecidableEq, Repr

/-- What the program has when it builds the graph: the engines of the cut and the remote ones, any other engine of this hub by its source ID,
the objects and the seams that a waiting engine names. -/
structure TInput where
  engines : List Engine
  other   : Nat → Engine
  objects : List TObject
  seams   : List TSeam

/-! ### Edges (R219, R221) -/

/-- The engine that a signaller is. -/
def signallerEngine (g : TInput) (x : Signaller) : Engine :=
  (g.engines.find? fun e => e.remote == x.remote && e.hub == x.hub && e.src == x.src).getD
    (if x.remote then ⟨true, x.hub, x.src, false, true, false, false, none, false⟩ else g.other x.src)

/-- The engines of the graph that wait for an object. -/
def waitersOf (g : TInput) (obj : Nat) : List Engine := g.engines.filter fun e => e.object == some obj

/-- Whether a barrier needs a participant: it has not entered the generation GEN. One whose registers could not be read counts as not having
entered (DESIGN CHOICE, log entry 88). -/
def notEntered (gen : Nat) (e : Engine) : Bool := e.entry.elim true (· == gen)

/-- The engines that an object needs. An object without a state needs none (DESIGN CHOICE, log entry 88). -/
def objectNeeds (g : TInput) (o : TObject) : List Engine :=
  let sigs := o.entry.sigs.map (signallerEngine g)
  match o.state with
  | none => []
  | some v =>
    if o.entry.barrier then sigs.filter (notEntered (bits v 63 48))
    else if (waitersOf g o.entry.obj).any fun e => decide (bits v 31 0 < e.want) then sigs else []

/-- The engines that a seam needs: slot 2 of the producer's core where an engine waits for it while empty, of the consumer's while full. -/
def seamNeeds (g : TInput) (m : TSeam) : List Engine :=
  let waited (k : Nat) : Bool := g.engines.any fun e => !e.remote && e.kind == some k && e.obj == m.num
  (if waited 2 then m.prod.toList else []) ++ (if waited 3 then m.cons.toList else [])

/-- The nodes that an engine waits for. Of a remote engine only an object of this hub's table is named (R221). -/
def waitTarget (g : TInput) (e : Engine) : Option TNode :=
  match e.kind with
  | none => none
  | some k =>
    if k ≤ 1 then (g.objects.find? fun o => o.entry.obj == e.obj).map .object
    else if e.remote then none
    else if k ≤ 3 then (g.seams.find? fun m => m.num == e.obj).map .seam
    else if k = 4 then some .memory else none

/-- The engines that stand as nodes: those of the input, and those that an object or a seam needs beside them. -/
def allEngines (g : TInput) : List Engine :=
  (g.engines ++ g.objects.flatMap (objectNeeds g) ++ g.seams.flatMap (seamNeeds g)).eraseDups

/-- The nodes in the order of R222. -/
def tangleNodes (g : TInput) : List TNode :=
  let es := allEngines g
  (sortBy Engine.src (es.filter fun e => !e.remote)).map .engine ++
    (sortBy (fun e => e.hub * 65536 + e.src) (es.filter Engine.remote)).map .engine ++
    (sortBy (fun o => o.entry.obj) g.objects).map .object ++ (sortBy TSeam.num g.seams).map .seam ++ [.memory]

/-- The edges, in no order. -/
def tangleEdges (g : TInput) : List TEdge :=
  ((allEngines g).filterMap fun e => (waitTarget g e).map fun n => ⟨false, (TNode.engine e).key, n.key⟩) ++
    (g.objects.flatMap fun o => (objectNeeds g o).map fun e => ⟨true, (TNode.object o).key, (TNode.engine e).key⟩) ++
    (g.seams.flatMap fun m => (seamNeeds g m).map fun e => ⟨true, (TNode.seam m).key, (TNode.engine e).key⟩)

/-! ### Components (R220) -/

/-- The numbers reached from some, over at most n more edges. -/
def reachFrom (es : List (Nat × Nat)) : Nat → List Nat → List Nat
  | 0, seen => seen
  | n + 1, seen =>
    let new := ((es.filter fun e => seen.contains e.1 && !seen.contains e.2).map Prod.snd).eraseDups
    if new = [] then seen else reachFrom es n (seen ++ new)

/-- The strongly connected components of two or more of n nodes, each as its members in ascending index, in order of their lowest node. -/
def components (n : Nat) (es : List (Nat × Nat)) : List (List Nat) :=
  let reach := (List.range n).map fun i => reachFrom es n [i]
  let comp (i : Nat) : List Nat := (List.range n).filter fun j => (reach.getD i []).contains j && (reach.getD j []).contains i
  ((List.range n).map comp).filter (fun c => decide (2 ≤ c.length)) |>.eraseDups

/-- The component number of a node, 0 for none. -/
def sccOf (cs : List (List Nat)) (i : Nat) : Nat :=
  let k := cs.findIdx fun c => c.contains i
  if k < cs.length then k + 1 else 0

/-! ### Marks (R220, R221) -/

/-- Whether a participant that waits at a barrier is two or more generations ahead of it (DEDUCED, log entry 88: ENTRY counts the generations of
the OBJ that the engine waits for). -/
def reenters (o : TObject) (e : Engine) : Bool :=
  o.entry.barrier && e.object == some o.entry.obj &&
    (o.entry.sigs.any fun x => x.remote == e.remote && x.hub == e.hub && x.src == e.src) &&
    (match o.state, e.entry with
     | some v, some n => decide (2 ≤ (n + 65536 - bits v 63 48) % 65536)
     | _, _ => false)

/-- The marks of a node but for CYCLE: MISSING, BUSY, REMOTE, UNKNOWN, REENTRY and LIVE, at bits 1 to 6. `need` says that it is a NEED
target. A remote engine lies in a cut when its hub says so; without an answer it is UNKNOWN alone (DESIGN CHOICE, log entry 88). -/
def nodeMarks (g : TInput) (need : Bool) : TNode → Nat
  | .engine e =>
    let silent := e.remote && e.regs.isNone
    let missing := need && !silent && (!e.inCut || !e.present || e.reset || e.kind == some 5)
    let busy := need && e.inCut && e.regs.isSome && !e.waits
    let unknown := e.nfail || silent || (!e.remote && e.inCut && e.present && e.regs.isNone)
    b2n missing * 2 + b2n busy * 4 + b2n e.remote * 8 + b2n unknown * 16 + b2n (g.objects.any fun o => reenters o e) * 32 + b2n e.live * 64
  | .object o =>
    let tooMany := o.entry.barrier && o.state.any fun v => decide (o.entry.sigs.length < bits v 47 32)
    b2n o.state.isNone * 16 + b2n (tooMany || (allEngines g).any (reenters o)) * 32
  | _ => 0

/-- Whether an edge is the WAIT of a participant that carries REENTRY. -/
def edgeReenters (g : TInput) (x : TEdge) : Bool :=
  !x.need && g.objects.any fun o => (TNode.object o).key == x.dst && (allEngines g).any fun e => (TNode.engine e).key == x.src && reenters o e

/-! ### The graph (R222, Table 8.4) -/

/-- A node with its index, marks and component number. -/
structure GNode where
  idx   : Nat
  node  : TNode
  marks : Nat
  scc   : Nat
  deriving DecidableEq, Repr

/-- An edge with the indices of its ends and its marks. -/
structure GEdge where
  need  : Bool
  src   : Nat
  dst   : Nat
  marks : Nat
  deriving DecidableEq, Repr

/-- The graph with its marks: nodes in order of index, edges in ascending FROM, then TO. -/
def tangle (g : TInput) : List GNode × List GEdge :=
  let nodes := tangleNodes g
  let edges := tangleEdges g
  let keys := nodes.map TNode.key
  let ends (x : TEdge) : Nat × Nat := (keys.idxOf x.src, keys.idxOf x.dst)
  let cs := components nodes.length (edges.map ends)
  let isNeed (n : TNode) : Bool := edges.any fun x => x.need && x.dst == n.key
  (nodes.zipIdx.map fun e => ⟨e.2, e.1, b2n (sccOf cs e.2 != 0) + nodeMarks g (isNeed e.1) e.1, sccOf cs e.2⟩,
   sortBy (fun x => x.src * 2 ^ 24 + x.dst) (edges.map fun x =>
     let a := sccOf cs (ends x).1
     ⟨x.need, (ends x).1, (ends x).2, b2n (a != 0 && a == sccOf cs (ends x).2) + b2n (edgeReenters g x) * 32⟩))

/-- The two words of a node. -/
def nodeWords (x : GNode) : List Word :=
  let head (nk hub id : Nat) (remote : Bool) : Word :=
    word (nk * 2 ^ 62 + x.marks * 2 ^ 55 + x.scc % 32768 * 2 ^ 40 + b2n remote * 2 ^ 39 + hub % 128 * 2 ^ 32 + id)
  match x.node with
  | .engine e => [head 0 e.hub e.src e.remote, e.regs.elim 0 Prod.fst]
  | .object o => [head 1 0 o.entry.obj false, o.state.getD 0]
  | .seam m => [head 2 0 m.num false, word (m.level % 256)]
  | .memory => [head 3 0 0 false, 0]

/-- The word of an edge. -/
def edgeWord (x : GEdge) : Word := word (b2n x.need * 2 ^ 62 + x.marks * 2 ^ 55 + x.src % 2 ^ 24 * 2 ^ 24 + x.dst % 2 ^ 24)

end Sys2Proof.Machine
end

