-- ==== Sys2Proof/Machine/DumpRun.lean ====
section
/-! DEFINITION. The dump program's work between its cut and its end (Table 8.1, R214, R218 to R233): the reads, the remote queries, the graph,
L0, the plan, the levels, END, and the copy of the window. The hub takes one such action at a tick (DESIGN CHOICE, log entry 44). -/

namespace Sys2Proof.Machine

/-- The dump program's run replaced. -/
def setWork (s : State) (x : DumpWork) : State := { s with hang := { s.hang with work := x } }

/-- The staging area, as an offset in hub memory (DMP_STAGE). -/
def stageAt (s : State) : Nat := 4096 * regF s rDmpStage 22 12

/-! ### Register reads (Table 8.1 steps 3 and 4, R223) -/

/-- The set of a whole partition. -/
def partSet (p : Nat) : BitVec 128 := BitVec.ofNat 128 (2 ^ 124 + p)
/-- The set of one core. -/
def oneSet (c : Nat) : BitVec 128 := BitVec.ofNat 128 (4 * 2 ^ 124 + c)

/-- The k-th read of an item: the agents, and a core register or, with none, AG_STATUS. -/
def itemRead (s : State) (p : Nat) (x : DumpItem) (k : Nat) : Option (BitVec 128 × Option Nat) :=
  match x with
  | .waits t =>
    if k = 0 then some (partSet p, none)
    else if k ≤ 8 then some (partSet p, some ((s.integ.types[t]?.elim 0 CoreType.waitBase) + (k - 1))) else none
  | .object _ c r => if k = 0 then some (oneSet c, some r) else none
  | .cregs l r n => if k < n then some (if l.length = 1 then oneSet (l.headD 0) else partSet p, some (r + k)) else none
  | .seam j => (s.integ.seams[j]?).bind fun m => if k < m.bufN then some (oneSet (coreIdx s m.cons), some (m.bufReg + k)) else none
  | _ => none

/-- An operation of the dump program, as its Whorl issues it, within 400,000 ht (Table 8.1). -/
def dumpOp (s : State) (w : Nat) (mk : Nat → Op) : State :=
  let id := s.opCtr
  issueOp (setWork { s with opCtr := id + 1 } { s.hang.work with op := some id, opEnd := s.ht + 400000 }) { mk id with issuer := w }

/-- AGR with COLLECT into the staging area, of AG_STATUS or of a core register with CA_RI_FORCE at 0. -/
def dumpAgr (s : State) (w : Nat) (set : BitVec 128) (creg : Option Nat) : State :=
  dumpOp s w fun id =>
    { mkOp id w 400000 .hub set (setSites s set) .read (creg.elim aAgStatus fun r => 0x80 + r % 128) with
      red := .collect, buf := stageAt s, pre := creg.elim [] fun r => [(aAgCwin, word (r &&& 0xF80))] }

/-- AGR_LM with STREAM of n words from an address on (R79, R223). -/
def dumpLm (s : State) (w : Nat) (set : BitVec 128) (a n : Nat) : State :=
  dumpOp s w fun id =>
    { mkOp id w 400000 .hub set (setSites s set) .lmRead 0 with nWords := n, lmAddr := a, str := true, pre := [(aAgLmCtrl, 1)] }

/-- Table 8.8's status of an agent's reason (Table 3.5). -/
def reasonStatus (r : Nat) : Nat :=
  match r with
  | 0 => 0
  | 1 => 7
  | 2 => 6
  | 3 => 3
  | 4 => 2
  | 5 => 4
  | 6 => 5
  | 7 => 9
  | 8 => 8
  | _ => 10

/-- The values that a COLLECT has left in the staging area (Table 10.4), for the k-th read of an item. -/
def collected (s : State) (x : DumpItem) (k : Nat) : List DumpVal :=
  let n := readLe s.hubMem (stageAt s) 8
  (pairUp (readUnits s.hubMem (stageAt s + 16) (2 * n))).map fun e => ⟨x, k, bits e.2 43 32, reasonStatus (bits e.2 15 0), e.1⟩

/-- What was read of a core: MISS where nothing came, or where the core counts in NFAIL (R214). -/
def valOf (x : DumpWork) (l : List DumpVal) (item : DumpItem) (k core : Nat) : Nat × Word :=
  if x.lost.contains core then (10, 0)
  else ((l.find? fun v => v.item == item && v.k == k && v.core == core).map fun v => (v.st, v.v)).getD (10, 0)

/-! ### Records (R228, R229) -/

/-- Records of words with their addresses and statuses: up to 14 words that were read to one, and one for each run of words that failed with
one status. -/
def wordRecs (w kind core : Nat) : Nat → List (Nat × Nat × Word) → List Rec
  | 0, _ => []
  | _, [] => []
  | n + 1, e :: t =>
    if 3 ≤ e.2.1 then
      let m := ((e :: t).takeWhile fun y => y.2.1 == e.2.1).length
      dumpRec w kind e.2.1 core [dumpAddr 0 0 e.1, word m] :: wordRecs w kind core n ((e :: t).drop m)
    else
      let l := ((e :: t).take 14).takeWhile fun y => decide (y.2.1 < 3)
      let bad : Nat := ((l.zipIdx.filter fun y => y.1.2.1 == 2).map fun y => 2 ^ y.2).sum
      let st : Nat := if bad ≠ 0 then 2 else if l.any fun y => y.2.1 == 1 then 1 else 0
      dumpRec w kind st core (dumpAddr l.length bad e.1 :: l.map fun y => y.2.2) :: wordRecs w kind core n ((e :: t).drop l.length)

/-- Words in records of their own kind, each with its index as its address: a run of following indices to a record. -/
def indexRecs (w kind : Nat) : Nat → List (Nat × Word) → List Rec
  | 0, _ => []
  | _, [] => []
  | n + 1, e :: t =>
    let m := (((e :: t).take 14).zipIdx.takeWhile fun y => y.1.1 == e.1 + y.2).length
    dumpRec w kind 0 0 (dumpAddr m 0 e.1 :: ((e :: t).take m).map Prod.snd) :: indexRecs w kind n ((e :: t).drop m)

/-! ### What the graph is built from -/

/-- The type index of a core. -/
def coreType (s : State) (c : Nat) : Nat := tget 0 s.integ.siteType (siteOf s c)

/-- An engine of this hub by its source ID. -/
def localEngine (s : State) (x : DumpWork) (p src : Nat) : Engine :=
  let c := src / 4
  let n := src % 4
  let i := siteOf s c
  let lost := x.lost.contains c
  let there := coreIn s c
  let cut := there && partOf s i == some p && !lost
  let a := valOf x x.kept (.waits (coreType s c)) (1 + 2 * n) c
  let b := valOf x x.kept (.waits (coreType s c)) (2 + 2 * n) c
  { remote := false, hub := 0, src := src, inCut := cut, present := there && (slotsOf s i).getLsbD n, reset := there && (getS s i).inReset,
    nfail := lost, regs := if cut && decide (a.1 < 3) && decide (b.1 < 3) then some (a.2, b.2) else none, live := false }

/-- The engines of the cut, in ascending source ID: one for each slot present (R219). -/
def cutEngines (s : State) (x : DumpWork) (p : Nat) : List Engine :=
  ((dumpCores s p).flatMap fun c => (List.range 4).map fun n => localEngine s x p (4 * c + n)).filter Engine.present

/-- A remote signaller as its answer shows it. -/
def remoteEngine (x : DumpWork) (q : Nat × Nat) : Engine :=
  match x.answers.find? fun a => a.hub == q.1 && a.src == q.2 with
  | some a => ⟨true, q.1, q.2, a.cut, true, false, false, some (a.a, a.b), !a.cut⟩
  | none => ⟨true, q.1, q.2, false, true, false, false, none, false⟩

/-- The engines that the program knows: those of the cut and the remote ones asked. -/
def knownEngines (s : State) (x : DumpWork) (p : Nat) : List Engine := cutEngines s x p ++ x.asked.map (remoteEngine x)

/-- The sync object table that DMP_SOT names (R218). -/
def sotOf (s : State) : List SotEntry × Bool := readSot (readUnits s.hubMem (8 * regF s rDmpSot 22 3) (regF s rDmpSot 63 44))

/-- The entries that a waiting engine names. -/
def namedObjects (s : State) (x : DumpWork) (p : Nat) : List SotEntry :=
  let named := (knownEngines s x p).filterMap Engine.object
  (sotOf s).1.filter fun e => named.contains e.obj

/-- The state of an object, where its owner lies in the cut and could be read (R218). -/
def objectState (x : DumpWork) (e : SotEntry) : Option Word :=
  let r := valOf x x.kept (.object e.idx e.owner e.reg) 0 e.owner
  if r.1 < 3 then some r.2 else none

/-- The reads of the objects whose state has not been asked for: an owner outside the cut gives none. -/
def objectItems (s : State) (x : DumpWork) (p : Nat) : List DumpItem :=
  let cut := dumpCores s p
  (((namedObjects s x p).filter fun e => cut.contains e.owner && !x.lost.contains e.owner).map fun e => DumpItem.object e.idx e.owner e.reg).filter
    fun i => !x.kept.any fun v => v.item == i

/-- The remote signallers of the objects that a waiting engine names, in ascending hub, then source (R221). -/
def remoteAsks (s : State) (x : DumpWork) (p : Nat) : List (Nat × Nat) :=
  let l := (namedObjects s x p).flatMap fun e => (e.sigs.filter Signaller.remote).map fun g => (g.hub, g.src)
  sortBy (fun q => q.1 * 65536 + q.2) l.eraseDups

/-- The seams that a waiting engine of the cut names (R219). SM_LEVEL is the seam's own (Config.smLevel). -/
def namedSeams (s : State) (x : DumpWork) (p : Nat) : List TSeam :=
  let nums := ((cutEngines s x p).filter fun e => e.kind == some 2 || e.kind == some 3).map Engine.obj
  let slot2 (i : Nat) : Option Engine := (coreOf s i).map fun c => localEngine s x p (4 * c + 2)
  nums.eraseDups.filterMap fun n => (s.integ.seams[n]?).map fun m =>
    ⟨n, if m.endK = 1 then none else slot2 m.prod, if m.endK = 2 then none else slot2 m.cons, (Config.smLevel n s.ht).toNat⟩

/-- What the graph of a dump is built from. -/
def tangleInput (s : State) (x : DumpWork) (p : Nat) : TInput :=
  ⟨knownEngines s x p, localEngine s x p, (namedObjects s x p).map fun e => ⟨e, objectState x e⟩, namedSeams s x p⟩

/-! ### Remote queries (R221) -/

/-- The unit by which the program asks for a signaller: dump number and source ID (DESIGN CHOICE, log entry 89: no rule lays it out). -/
def askUnit (num src : Nat) : Word := word (num % 2 ^ 32 * 2 ^ 32 + src % 65536)

/-- The queries sent, each to its signaller's hub over the route there; a hub without a route is not reached. -/
def sendAsks (s : State) (d : Decl) (l : List (Nat × Nat)) : State :=
  forAll l (fun s q => match routeTo s q.1 with
    | none => s
    | some ch => chSend { s with opCtr := s.opCtr + 1 } ch 0 q.1 [word (s.opCtr % 2 ^ 32 * 2 ^ 32 + ch), askUnit d.num q.2]) s

/-- The answer at the head of a channel's queue, when it is one to a query of this dump: the query's unit with the flag of a cut in bit 16, then
the wait registers. -/
def takeAnswer (d : Decl) (s : State) (ch : Nat) : State :=
  let c := getC s ch
  let x := s.hang.work
  match c.rxq with
  | m :: t =>
    let u := m.units.getD 0 0
    let q := (m.src.toNat, bits u 15 0)
    if c.recvs = [] ∧ m.units.length = 3 ∧ bits u 63 32 = d.num % 2 ^ 32 ∧ bits u 31 17 = 0 ∧ x.asked.contains q ∧
        !(x.answers.any fun a => a.hub == q.1 && a.src == q.2) then
      setWork (setC s ch { c with rxq := t })
        { x with answers := x.answers ++ [⟨q.1, q.2, bit u 16, m.units.getD 1 0, m.units.getD 2 0⟩] }
    else s
  | [] => s

/-! ### L0 (Table 8.5) -/

/-- The WAIT record of a core: AG_STATUS, and the wait registers of each slot, 0 for an absent one. -/
def waitRec (s : State) (x : DumpWork) (w c : Nat) : Rec :=
  let slots := slotsOf s (siteOf s c)
  let v (k : Nat) : Nat × Word :=
    if k ≠ 0 ∧ slots.getLsbD ((k - 1) / 2) = false then (0, 0) else valOf x x.kept (.waits (coreType s c)) k c
  let l := (List.range 9).map v
  match l.find? fun r => decide (3 ≤ r.1) with
  | some r => dumpRec w 4 r.1 c [dumpAddr 0 0 0, 9]
  | none =>
    let bad : Nat := ((l.zipIdx.filter fun y => y.1.1 == 2).map fun y => 2 ^ y.2).sum
    dumpRec w 4 (if bad = 0 then 0 else 2) c (dumpAddr 9 bad 0 :: l.map Prod.snd)

/-- The SOBJ record of an object: descriptor and state register. -/
def objectRec (x : DumpWork) (w : Nat) (e : SotEntry) : Rec :=
  let r := valOf x x.kept (.object e.idx e.owner e.reg) 0 e.owner
  if 3 ≤ r.1 then dumpRec w 5 r.1 e.owner [dumpAddr 0 0 e.idx, 2]
  else dumpRec w 5 r.1 e.owner [dumpAddr 2 (if r.1 = 2 then 2 else 0) e.idx, e.desc, r.2]

/-- The REMOTE record of the n-th signaller asked. -/
def remoteRec (x : DumpWork) (d : Decl) (w n : Nat) (q : Nat × Nat) : Rec :=
  match x.answers.find? fun a => a.hub == q.1 && a.src == q.2 with
  | some a => dumpRec w 9 0 0 [dumpAddr 3 0 n, askUnit d.num q.2 + word (b2n a.cut * 65536), a.a, a.b]
  | none => dumpRec w 9 10 0 [dumpAddr 0 0 n, 3]

/-- The records of some of the graph: nodes and edges keep the indices of the whole graph (R222). -/
def graphRecs (w : Nat) (nodes : List GNode) (edges : List (GEdge × Nat)) : List Rec :=
  let ns := nodes.flatMap fun n => (nodeWords n).zipIdx.map fun y => (2 * n.idx + y.2, y.1)
  indexRecs w 6 ns.length ns ++ indexRecs w 7 edges.length (edges.map fun e => (e.2, edgeWord e.1))

/-- What is kept of a graph when `n` of its unmarked nodes and edges may stay: every marked one, and the first n of the others, nodes before
edges. -/
def graphKeep (g : List GNode × List GEdge) (n : Nat) : List GNode × List (GEdge × Nat) :=
  let plain := ((g.1.filter fun x => x.marks == 0).map GNode.idx).take n
  let rest := n - (g.1.filter fun x => x.marks == 0).length
  let edges := g.2.zipIdx
  let plainE := ((edges.filter fun e => e.1.marks == 0).map Prod.snd).take rest
  (g.1.filter fun x => x.marks != 0 || plain.contains x.idx, edges.filter fun e => e.1.marks != 0 || plainE.contains e.2)

/-- The units that L0 may hold: a COMMIT to its MRAM slot takes 2,097,120 bytes (Table 10.5). -/
def l0Units : Nat := 262140

/-- The graph's records that fit behind the rest of L0, what is kept, and whether something was dropped (R222). -/
def fitGraph (w : Nat) (g : List GNode × List GEdge) (room : Nat) : List Rec × (List GNode × List (GEdge × Nat)) × Bool :=
  let all := g.1.length + g.2.length
  let recs (n : Nat) : List Rec := let k := graphKeep g n; graphRecs w k.1 k.2
  let n := ((List.range (all + 1)).reverse.find? fun n => decide (unitsOf (recs n) ≤ room)).getD 0
  let k := graphKeep g n
  (recs n, k, decide (k.1.length + k.2.length < all))

/-- MANIFEST (Table 8.9). -/
def manifestRec (s : State) (x : DumpWork) (d : Decl) (w lplan plan engines objects nodes edges : Nat) : Rec :=
  let c := reg s rDmpCtrl
  let p := getP s d.part
  dumpRec w 0 0 0 [word (d.num * 2 ^ 32 + bits c 1 0 * 2 ^ 30 + lplan * 2 ^ 28 + bits c 4 3 * 2 ^ 26 + b2n (bits c 6 5 == 1) * 2 ^ 25 +
      b2n x.staged * 2 ^ 24 + d.cause * 2 ^ 21 + d.part),
    word d.time, word x.cutAt, word (p.nfail % 65536 * 2 ^ 48 + b2n (x.cutSt == some .timeout) * 2 + b2n p.partialF),
    word (engines * 2 ^ 32 + objects), word (nodes * 2 ^ 32 + edges), word plan, s.integ.devid.setWidth 64]

/-! ### The plan (R230, R231) -/

/-- The units of the records of n words: one header and one ADDR unit for every 14. -/
def chunkUnits (n : Nat) : Nat := n + 2 * ((n + 13) / 14)

/-- The units planned for a piece: the sum of LEN + 1 over its records. -/
def itemUnits (s : State) (p : Nat) : DumpItem → Nat
  | .cregs l _ n => l.length * chunkUnits n
  | .seam k => chunkUnits (1 + (s.integ.seams[k]?.elim 0 Seam.bufN))
  | .lmem (some _) _ n _ => chunkUnits n
  | .lmem none _ n _ => (dumpCores s p).length * chunkUnits n
  | .hbm _ _ n => chunkUnits n
  | _ => 0

/-- The units planned up to a level, L0's given. -/
def planUnits (s : State) (p l0 level : Nat) : Nat := l0 + ((itemsTo s p level true).map (itemUnits s p)).sum

/-- The plan in blocks. -/
def planBlocks (units : Nat) : Nat := (units + 494) / 495

/-- The blocks of the HBM window while it is not held (R226). -/
def windowBlocks (s : State) : Nat := if bit (reg s rDmpWinStat) 0 then 0 else regF s rDmpWinSize 23 0

/-- The space of the destination in blocks (Table 8.6), none where it is unbounded. A staged dump needs it in the window and on NAND. -/
def dumpSpace (s : State) (staged : Bool) : Option Nat :=
  let nand := hankSpace s * s.integ.nPages
  match regF s rDmpCtrl 4 3 with
  | 1 => if bit (reg s rTptCtrl) 0 && (!(streamLanes s true).isEmpty || !(streamLanes s false).isEmpty) then none else some 0
  | 2 => some (windowBlocks s)
  | 3 => some (if staged then min (windowBlocks s) nand else nand)
  | _ => some 0

/-- Whether some units fit: the space less the 2 blocks held back for END. -/
def planFits (space : Option Nat) (units : Nat) : Bool := space.all fun b => decide (planBlocks units + 2 ≤ b)

/-- The level planned, whether the dump goes to MRAM alone, and under TRUNCATE the units free behind L0 (R231). -/
def planLevel (s : State) (p l0 : Nat) (staged : Bool) : Nat × Bool × Option Nat :=
  let level := regF s rDmpCtrl 1 0
  let space := dumpSpace s staged
  if regF s rDmpCtrl 4 3 = 0 ∨ !planFits space l0 then (0, true, none)
  else if regF s rDmpCtrl 6 5 = 1 then (level, false, space.map fun b => 495 * (b - 2) - l0)
  else (((List.range (level + 1)).reverse.find? fun n => planFits space (planUnits s p l0 n)).getD 0, false, none)

/-! ### Steps 6 and 7: the graph and L0 -/

/-- The L0 of a dump laid into the staging area and committed to its MRAM slot; its records wait for the mover, and the levels that the plan
allows are to be read after it (Table 8.1 steps 6 to 8). -/
def buildL0 (s : State) (w : Nat) (d : Decl) : State :=
  let x := s.hang.work
  let g := tangle (tangleInput s x d.part)
  let objs := namedObjects s x d.part
  let base := (dumpCores s d.part).map (waitRec s x w) ++ objs.map (objectRec x w) ++
    x.asked.zipIdx.map fun q => remoteRec x d w q.2 q.1
  let f := fitGraph w g (l0Units - 9 - unitsOf base)
  let l0 := 9 + unitsOf base + unitsOf f.1
  let marked := ((g.1.filter fun n => n.marks != 0).filterMap fun n => match n.node with
    | .engine e => if e.remote then none else some (e.src / 4)
    | _ => none).eraseDups
  let x1 : DumpWork := { x with marked := marked, cutShort := f.2.2, sotErr := (sotOf s).2 }
  let s1 := setWork s x1
  let plan := planLevel s1 d.part l0 x.staged
  let man := manifestRec s1 x1 d w plan.1 (planUnits s1 d.part l0 plan.1)
    ((f.2.1.1.filter fun n => decide (n.node.key.1 ≤ 1)).length) objs.length f.2.1.1.length f.2.1.2.length
  let recs := man :: base ++ f.1
  let body := recs.flatMap fun r => r.hdr :: r.pay
  let id := s.opCtr
  let s2 : State := { s1 with opCtr := id + 1, hubMem := writeUnits s1.hubMem (stageAt s1) body }
  let s3 := setRegF s2 rDmpStat 25 25 (b2n (sotOf s).2)
  submit (setWork s3 { x1 with phase := .l0, waiter := id, out := if plan.2.1 then [] else recs, lplan := plan.1, mram := plan.2.1,
                               left := plan.2.2 }) .l0 w body (some id)

/-! ### One action of the program -/

/-- A record passes from the mover into the funnel's local input, two units in one ht (R224). -/
def moverPush (s : State) : State :=
  let x := s.hang.work
  match x.out with
  | [] => s
  | r :: t =>
    if x.moveAt ≤ s.ht ∧ s.funnel.held = [] ∧ localFits s r then
      setWork { s with funnel := { s.funnel with local_ := s.funnel.local_ ++ [r] } } { x with out := t, moveAt := s.ht + (recUnits r + 1) / 2 }
    else s

/-- The records of the registers of some cores that an item has read. -/
def cregRecs (w : Nat) (x : DumpWork) (l : List Nat) (r n : Nat) : List Rec :=
  l.flatMap fun c => wordRecs w 1 c n ((List.range n).map fun k => (r + k, valOf x x.vals (.cregs l r n) k c))

/-- The records of a seam's buffer: SM_LEVEL, then the items (Table 8.7). -/
def seamRecs (s : State) (w : Nat) (x : DumpWork) (j : Nat) (m : Seam) : List Rec :=
  wordRecs w 3 0 (m.bufN + 1) ((j * 2 ^ 24, 0, (Config.smLevel j s.ht).setWidth 64) ::
    (List.range m.bufN).map fun k => (j * 2 ^ 24 + 1 + k, valOf x x.vals (.seam j) k (coreIdx s m.cons)))

/-- The records of n units that the master port read from a fabric address on. -/
def hbmRecs (w a n : Nat) (r : List (Word × Bool) × Bool) : List Rec :=
  let got := r.1.drop (a % 128 / 8)
  wordRecs w 8 0 n ((List.range n).map fun k =>
    let v := got.getD k (0, false)
    (a / 8 + k, if r.2 then 11 else if v.2 then 2 else 0, v.1))

/-- What an item's end gives: values kept for the graph, or records for the mover. -/
def itemDone (s : State) (w : Nat) (x : DumpWork) : DumpItem → DumpWork
  | .cregs l r n => { x with out := x.out ++ cregRecs w x l r n }
  | .seam j => (s.integ.seams[j]?).elim x fun m => { x with out := x.out ++ seamRecs s w x j m }
  | .hbm _ a n => { x with rd := none, out := x.out ++ x.rd.elim [] (hbmRecs w a n) }
  | _ => { x with kept := x.kept ++ x.vals }

/-- What an agent of a streamed local-memory read that failed leaves: the words asked again once after LM_DEADLINE (R77), and a record of the
words not read (Table 8.8). Words that were read have gone by the Flyers. -/
def lmFailed (s : State) (w p : Nat) (x : DumpWork) (core : Option Nat) (a n : Nat) (again : Bool) (reps : List Reply) : DumpWork :=
  (core.elim (dumpCores s p) fun c => [c]).foldl (fun x c =>
    let r := ((reps.find? fun r => coreOf s r.site == some c).map fun r => reasonStatus r.reason).getD 10
    if r < 3 then x
    else if r = 9 ∧ !again then { x with todo := .lmem (some c) a n true :: x.todo }
    else { x with out := x.out ++ [dumpRec w 2 r c [dumpAddr 0 0 a, word n]] }) x

/-- The read that is out has come back, or is given up at its end. -/
def dumpReply (s : State) (w p id : Nat) : State :=
  let x := s.hang.work
  match arrived s id, x.item with
  | some a, some it =>
    let s1 := forget (putMem s a.mem) id
    setWork s1 (match it with
      | .lmem c at_ n again => { lmFailed s w p { x with op := none, item := none } c at_ n again (a.reps.getD []) with step := 0 }
      | _ => { x with op := none, step := x.step + 1, vals := x.vals ++ (if a.mem = [] then [] else collected s1 it x.step) })
  | _, some it =>
    if s.ht < x.opEnd then s
    else
      setWork (giveUp s id) (match it with
        | .lmem c at_ n again => { lmFailed s w p { x with op := none, item := none } c at_ n again [] with step := 0 }
        | _ => { x with op := none, step := x.step + 1 })
  | _, none => setWork s { x with op := none }

/-- The next read of the item under way, or its end. -/
def itemStep (s : State) (w p : Nat) (it : DumpItem) : State :=
  let x := s.hang.work
  match it with
  | .lmem c a n _ => dumpLm s w (c.elim (partSet p) oneSet) a n
  | .hbm _ a n =>
    if x.rd.isSome then setWork s { itemDone s w x it with item := none, step := 0 }
    else if x.step = 0 then mpAsk (setWork s { x with step := 1 }) .dump false (a / 128 * 128) ((a % 128 + 8 * n + 127) / 128) []
    else s
  | _ =>
    match itemRead s p it x.step with
    | some r => dumpAgr s w r.1 r.2
    | none => setWork s { itemDone s w x it with item := none, step := 0, vals := [] }

/-- The next item begun: under TRUNCATE none that does not fit, and nothing after it (R231). A destination that has run out takes nothing more
(R232). -/
def itemBegin (s : State) (p : Nat) (it : DumpItem) (rest : List DumpItem) : State :=
  let x := s.hang.work
  let left := if x.phase = .level ∧ !x.mram ∧ !destAccepts s then some 0 else x.left
  let u := itemUnits s p it
  if left.any (· < u) then setWork s { x with left := left, todo := [], skipped := it :: rest }
  else setWork s { x with left := left.map (· - u), todo := rest, item := some it, step := 0 }

/-- The state of a dump whose reads are all done for its phase. -/
def toPhase (s : State) (ph : DPhase) (todo : List DumpItem) : State := setWork s { s.hang.work with phase := ph, todo := todo }

/-- DUMP_REQ along the tree of the dump's cut (R335): the dump number and the CUTID to the hubs that the cut reached from here. A dump that a
DUMP_REQ declared sends none: that hub has forwarded it (DESIGN CHOICE, log entry 44). -/
def dumpRequest (s : State) (d : Decl) : State :=
  match (getP s d.part).tree with
  | some t => if d.cause = 4 then s else chSendAll s t.children 13 [word d.num, t.cutId]
  | none => s

/-- The cut has completed (Table 8.1 step 3): DUMP_REQ goes out, and the failed agents and the waits to read are noted. -/
def cutDone (s : State) (d : Decl) (st : Status) : State :=
  let p := d.part
  let hot := (cutRegions s p).flatMap (unfrozen s p)
  let lost := ((lostSites s p) ++ hot).filterMap (coreOf s)
  let types := ((dumpCores s p).map (coreType s)).eraseDups
  setWork (dumpRequest s d) { s.hang.work with phase := .waits, cutSt := some st, cutAt := s.ht, lost := lost.eraseDups, todo := types.map .waits }

/-- Whether an END is still on its way to the destination: before the D route, or in the block or page that the route is to write. -/
def endOut (s : State) : Bool :=
  (s.hang.work.out ++ s.funnel.local_ ++ s.funnel.dq).any isEnd ||
    (match dRoute s with
     | 2 => !(getSink s 3).q.isEmpty || mpBusy s .dump
     | 3 => !(getSink s 3).q.isEmpty || s.hank.stream.isSome
     | _ => false)

/-- The flags of DMP_STAT for the dump that ends: TRUNC, ABORT, GRAPH_TRUNC and PARTIAL. -/
def endFlags (s : State) (d : Decl) (abort : Bool) : Nat :=
  let x := s.hang.work
  8 * b2n (!x.skipped.isEmpty) + 4 * b2n abort + 2 * b2n x.cutShort + b2n (getP s d.part).partialF

/-- Step 9 (Table 8.1): the dump index entry is committed, and the dump ends. -/
def dumpLast (s : State) (w : Nat) (d : Decl) (level : Nat) (abort : Bool) : State :=
  let flags := endFlags s d abort
  dumpFinish (submit s .dindex w (finalEntry s d level flags)) w d level flags

/-- The copy of the window to NAND begins: route 3, and counts of its own (R227). -/
def copyBegin (s : State) : State :=
  setRegF { s with hang := { s.hang with units := 0, bad := 0, failed := 0, work := { s.hang.work with phase := .copy, step := 0 } } }
    rTrcDRoute 1 0 3

/-- The copy's next action: a block read from the window, its records to the mover, and after the last block its own END (R227). -/
def copyStep (s : State) (w : Nat) (d : Decl) : State :=
  let x := s.hang.work
  let done := levelDone x.lplan x.skipped
  match x.rd with
  | some r =>
    let recs := (splitRecs 512 (r.1.map Prod.fst)).filter fun r => isDump r && !isEnd r
    setWork s { x with rd := none, step := 0, copied := x.copied + 1, out := x.out ++ recs }
  | none =>
    if x.step = 2 then
      (if endOut s then s else dumpLast (setRegF s rDmpWinStat 0 0 0) w d done false)
    else if x.copied < regF s rDmpWinStat 55 32 then
      (if x.step = 1 ∨ x.out ≠ [] then s
       else mpAsk (setWork s { x with step := 1 }) .dump false (4096 * bits (reg s rDmpWinBase) 63 12 + 4096 * x.copied) 32 [])
    else if x.out ≠ [] then s
    else setWork s { x with step := 2, out := [endOf s w d done (4 * b2n (!x.skipped.isEmpty) + b2n x.cutShort) []] }

/-- What follows when a phase has nothing left to read. -/
def phaseEnd (s : State) (w : Nat) (d : Decl) : State :=
  let x := s.hang.work
  let p := d.part
  match x.phase with
  | .cut => match arrived s x.waiter with
    | some a => cutDone (forget s x.waiter) d a.status
    | none => s
  | .waits => toPhase s .objects (objectItems s x p)
  | .objects =>
    let l := remoteAsks s x p
    sendAsks (setWork s { x with phase := .remote, asked := l, askedAt := s.ht }) d l
  | .remote =>
    let s1 := forAll (List.range 8) (takeAnswer d) s
    let y := s1.hang.work
    if y.answers.length = y.asked.length ∨ y.askedAt + regF s rHngRemoteTmo 31 0 ≤ s.ht then toPhase s1 .late (objectItems s1 y p) else s1
  | .late => buildL0 s w d
  | .l0 => match arrived s x.waiter with
    | some _ => toPhase (forget s x.waiter) .level (if x.mram then [] else itemsTo s p x.lplan x.left.isNone)
    | none => s
  | .level =>
    if x.out ≠ [] then s
    else
      let l := if x.mram then [] else truncRecs s w p x.skipped
      let e := endOf s w d (levelDone x.lplan x.skipped) (4 * b2n (!x.skipped.isEmpty) + b2n x.cutShort) l
      setWork s { x with phase := .last, out := if x.mram then [] else l ++ [e] }
  | .last =>
    if endOut s then s
    else if x.staged && !x.mram then copyBegin s
    else dumpLast s w d (levelDone x.lplan x.skipped) false
  | .copy => copyStep s w d
  | .abort =>
    if !endOut s then dumpLast s w d 0 true
    else if x.askedAt + 400000 ≤ s.ht then
      let drop (l : List Rec) : List Rec := l.filter fun r => !isEnd r
      dumpFinish { s with funnel := { s.funnel with local_ := drop s.funnel.local_, dq := drop s.funnel.dq } } w d 0 (endFlags s d true)
    else s

/-- One action of the dump program (Table 8.1), on the Whorl that runs it. -/
def dumpTick (s0 : State) : State :=
  match s0.hang.running, s0.hang.whorl with
  | some d, some w =>
    if (getW s0 w).st ≠ .running then s0
    else
      let s := moverPush s0
      let x := s.hang.work
      match x.op, x.item, x.todo with
      | some id, _, _ => dumpReply s w d.part id
      | none, some it, _ => itemStep s w d.part it
      | none, none, it :: t => itemBegin s d.part it t
      | none, none, [] => phaseEnd s w d
  | _, _ => s0

end Sys2Proof.Machine
end

