-- ==== Sys2Proof/Machine/Tick.lean ====
section
/-! DEFINITION. What one ht of hub time does while no command waits (DESIGN CHOICE, log entry 1). -/

namespace Sys2Proof.Machine

/-- Whether a crossing lies between the hub and a port: its echoes return in hub time (Table 13.1, R54). -/
def portCrossing (i : Nat) : Bool := decide (2048 ≤ i) && decide (i < 4096)

/-- One ht of hub time: echoes return at the ports' crossings (R54), the trace buffer takes what its banks can (R154, log entry 75), careful
mode takes effect and operations kept at their issuers leave as far as they may (R60, R45, log entry 82), and the dump program takes one
action (R214, log entry 44). -/
def tick (s : State) : State :=
  let s1 : State := { s with ht := s.ht + 1 }
  dumpTick (releaseIssue (carefulSwitch (bufferTick (pulseEchoes s1 s1.ht portCrossing))))

end Sys2Proof.Machine
end

