-- ==== Sys2Proof/WellFormed.lean ====
section
/-! DEFINITION. Which commands the spec's numbering admits: requesters, sites, clusters, links, crossings, window offsets. -/

namespace Sys2Proof

/-- A requester: tenants 0 to 255 (R412), Whorls 0 to 7 (R235). -/
def Who.wf : Who → Bool
  | .root => true
  | .tenant k => decide (k < 256)
  | .twp => true
  | .whorl n => decide (n < 8)

/-- A site's physical index (Table 9.6, PHYS): PROW 0 to 63, PCOL 0 to 64. -/
def siteWf (i : Nat) : Bool := decide (i / 128 < 64) && decide (i % 128 ≤ 64)

/-- A drop point (R143): a Bobbin, a Flyer, one of the three sinks, the sample ring. -/
def DropPoint.wf : DropPoint → Bool
  | .bobbin i => siteWf i
  | .flyer f => decide (f < 256)
  | .sink n => decide (n < 3)
  | .ring => true

/-- An edge of a tapped stream (R169): CA_TAP_CNT 0 to 64, with a lane for each element. -/
def TapEdge.wf (e : TapEdge) : Bool := decide (e.cnt ≤ 64) && decide (e.cnt ≤ e.lanes.length) && decide (e.lanes.length ≤ 64)

/-- An ELECT message whose distances and MAXTIME fit their fields (DESIGN CHOICE, log entry 12). -/
def ElectMsg.wf (m : ElectMsg) : Bool :=
  decide (m.cfgHops < 0x10000) && decide (m.maxTime < 2 ^ 64) && (m.pkg.all fun p => decide (p.2 < 0x10000))

/-- Whether every operand of a command lies in the range the spec numbers. -/
def Instr.wf : Instr → Bool
  | .alu .. => true
  | .addi .. => true
  | .andi .. => true
  | .ori .. => true
  | .xori .. => true
  | .slti .. => true
  | .sltiu .. => true
  | .insh .. => true
  | .ld8 .. => true
  | .ld4 .. => true
  | .ld2 .. => true
  | .ld1 .. => true
  | .st8 .. => true
  | .st4 .. => true
  | .st2 .. => true
  | .st1 .. => true
  | .beq .. => true
  | .bne .. => true
  | .blt .. => true
  | .bge .. => true
  | .bltu .. => true
  | .bgeu .. => true
  | .j .. => true
  | .jal .. => true
  | .nop .. => true
  | .jr .. => true
  | .jalr .. => true
  | .rdtime .. => true
  | .tset .. => true
  | .tclr .. => true
  | .setdl .. => true
  | .rddl .. => true
  | .tkst .. => true
  | .tkfree .. => true
  | .tkpend .. => true
  | .whoami .. => true
  | .stopw .. => true
  | .fenceAg .. => true
  | .fenceAll .. => true
  | .trd .. => true
  | .smk .. => true
  | .sld .. => true
  | .sst .. => true
  | .smv .. => true
  | .seng .. => true
  | .srd .. => true
  | .wait .. => true
  | .poll .. => true
  | .evset .. => true
  | .evclr .. => true
  | .evrd .. => true
  | .agw .. => true
  | .agr .. => true
  | .agrLm .. => true
  | .halt .. => true
  | .haltPlanned .. => true
  | .run .. => true
  | .step .. => true
  | .snip .. => true
  | .trig .. => true
  | .tap .. => true
  | .tapr .. => true
  | .tapc .. => true
  | .emit .. => true
  | .commit .. => true
  | .lease .. => true
  | .release .. => true
  | .send .. => true
  | .recv .. => true
  | .ticketComplete .. => true
  | .ticketTimeout .. => true
  | .timerExpire .. => true
  | .leaseLapse .. => true
  | .whorlFault .. => true
  | .whorlReset who _ => who.wf
  | .whorlStop who _ => who.wf
  | .whorlStart who _ => who.wf
  | .whorlLoad who _ => who.wf
  | .loadEnd .. => true
  | .whlLsDataAccess who _ _ _ => who.wf
  | .whorlOut .. => true
  | .registerWrite who off _ => who.wf && decide (off < 0xF000) && off % 8 == 0
  | .evtRaise who _ => who.wf
  | .prtCmdHalt who _ => who.wf
  | .prtCmdRun who _ => who.wf
  | .prtCmdStep who _ _ => who.wf
  | .prtCmdSnip who _ => who.wf
  | .prtMapWrite who _ _ => who.wf
  | .prtMapApply .. => true
  | .stopTreeRootSend .. => true
  | .leafHalt .. => true
  | .leafRun .. => true
  | .leafStep .. => true
  | .leafStepDone .. => true
  | .leafMark .. => true
  | .leafClrmark .. => true
  | .plannedHaltDue .. => true
  | .regionFrozen .. => true
  | .regionReady .. => true
  | .cutComplete .. => true
  | .cutTimeout .. => true
  | .runResumed .. => true
  | .freezeLate site => siteWf site
  | .comparatorHit site _ _ => siteWf site
  | .coreEvent site _ => siteWf site
  | .flyXtFire cluster _ => decide (cluster < 256)
  | .channelFire cluster _ => decide (cluster < 256)
  | .guestTriggerRelay site _ => siteWf site
  | .agentOpReceive flyer _ _ => decide (flyer < 256)
  | .inspectionAck site _ _ => siteWf site
  | .inspectionTimeout site => siteWf site
  | .lmSteal site => siteWf site
  | .lmReadReturn site _ _ => siteWf site
  | .lmDeadline site => siteWf site
  | .wakeAck site => siteWf site
  | .wakeTimeout site => siteWf site
  | .wakeRelease site => siteWf site
  | .coreResetAssert site => siteWf site
  | .coreResetRelease site => siteWf site
  | .vtTxWrite site _ => siteWf site
  | .vtRxPop site => siteWf site
  | .vtDrain site => siteWf site
  | .flowEvent site _ _ _ => siteWf site
  | .cmdEvent site _ _ _ _ => siteWf site
  | .corePowerChange site _ _ => siteWf site
  | .flyerTake flyer => decide (flyer < 256)
  | .recordAgeDrop flyer => decide (flyer < 256)
  | .groupSend flyer => decide (flyer < 256)
  | .collectorArbitrate node => decide (node < 256)
  | .traceWordError node _ => decide (node < 256)
  | .groupArrival .. => true
  | .funnelParse .. => true
  | .funnelRelease => true
  | .gapFlush point _ => point.wf
  | .bufferModeWrite who _ => who.wf
  | .bufferTrigger => true
  | .trcWinFire who => who.wf
  | .captureEnd => true
  | .trcBufRdataRead r => r.who.wf
  | .bufferBankRetire .. => true
  | .spillBlockWrite => true
  | .llHoldRequest point _ => point.wf
  | .llHoldStart .. => true
  | .llHoldEnd .. => true
  | .llHoldTimeout .. => true
  | .tapEdge flyer edge => decide (flyer < 256) && edge.wf
  | .tapRotate flyer => decide (flyer < 256)
  | .driftCompare .. => true
  | .driftLevelDeferred cluster _ => decide (cluster < 256)
  | .aoBoundary flyer => decide (flyer < 256)
  | .aoEntryWrite cluster => decide (cluster < 256)
  | .sampleEdge cluster perf => decide (cluster < 256) && perf.all fun e => siteWf e.1
  | .ringWrite => true
  | .wdgReport site => siteWf site
  | .wdgFetch cluster => decide (cluster < 256)
  | .dmpReq who _ => who.wf
  | .dumpProgramStart => true
  | .dumpTimeout => true
  | .hngCtrlWrite who _ => who.wf
  | .hnkPinWrite who _ => who.wf
  | .commitAdmit => true
  | .commitDurable => true
  | .poweredTick => true
  | .pfwAssert => true
  | .pfwGlitch => true
  | .pfwClear => true
  | .hankMount => true
  | .nandMount => true
  | .mramScrub _ cell => decide (cell.unit < 0x80000)
  | .mramBankRetire .. => true
  | .nandWearLevel .. => true
  | .nandPatrol _ blk page corr => decide (blk < 0x20000) && decide (page < 0x100) && decide (corr ≤ 33)
  | .nandBlockRetire _ blk => decide (blk < 0x20000)
  | .xspiStatusPoll .. => true
  | .xspiOpTimeout .. => true
  | .hnkRdDataRead r => r.who.wf
  | .refclkLoss => true
  | .refclkReturn => true
  | .ihbElect who => who.wf
  | .elect _ _ m => m.wf
  | .electionClose => true
  | .probe .. => true
  | .probeReply .. => true
  | .probeTimeout => true
  | .timeExchangeTick => true
  | .timeAlign => true
  | .timeSelfAlign => true
  | .timMeasure who => who.wf
  | .msg _ _ _ _ _ _ units => decide (1 ≤ units.length) && decide (units.length ≤ 64)
  | .ack .. => true
  | .name .. => true
  | .ihbIdWrite who _ => who.wf
  | .haltReq .. => true
  | .confirm .. => true
  | .cutChildDeadline .. => true
  | .mark .. => true
  | .rdvOpen .. => true
  | .rdvArrive .. => true
  | .rdvRelease .. => true
  | .rdvLeft .. => true
  | .rdvTimeout .. => true
  | .dumpReq .. => true
  | .channelUp .. => true
  | .channelDown .. => true
  | .packetReceive link _ _ _ _ => decide (link < 1032)
  | .linkAck link _ => decide (link < 1032)
  | .linkNak link _ => decide (link < 1032)
  | .linkRetryTimeout link => decide (link < 1032)
  | .routeRebuild => true
  | .epochClose flyer _ _ => decide (flyer < 256)
  | .reductionSend node _ _ => decide (node < 256)
  | .entryLinkFail .. => true
  | .spnModeWrite who _ => who.wf
  | .queueResync index items => decide (index < 6144) && decide (items < 0x10000)
  | .crossingOverrun index => decide (index < 6144)
  | .flyerProbe flyer _ => decide (flyer < 256)
  | .flyerTakeover flyer => decide (flyer < 256)
  | .cardEngineFail flyer => decide (flyer < 256)
  | .bobbinFail site => siteWf site
  | .recoveryEngineFail => true
  | .regionPowerOff .. => true
  | .regionPowerOn .. => true
  | .repairSample .. => true
  | .twpLineReset => true
  | .twpActivate => true
  | .twpRd .. => true
  | .twpWr .. => true
  | .twpRdn .. => true
  | .twpWrn .. => true
  | .twpStatus .. => true
  | .twpAbort .. => true
  | .twpReadComplete .. => true
  | .twpRequestTimeout => true
  | .twpDoor .. => true
  | .hostDoor .. => true
  | .hostRequest .. => true
  | .hostAccessTimeout => true
  | .hostResponseStall => true
  | .hostPortReset => true
  | .mpRequestIssue => true
  | .mpReadBeat _ _ data _ => data.length == 16
  | .mpWriteCompletion .. => true
  | .mpTimeout .. => true
  | .mptAccGo who _ => who.wf
  | .laneFrameSend .. => true
  | .laneIdleFrame .. => true
  | .laneInService .. => true
  | .laneDown .. => true
  | .laneStall .. => true
  | .rgtChalNew who _ => who.wf
  | .rgtRespSubmit who _ => who.wf
  | .responseCheck => true
  | .nonceLapse => true
  | .lockoutEnd => true
  | .rgtUnlockWrite who _ => who.wf
  | .rgtPolicyWrite who _ => who.wf
  | .bootRelease who _ => who.wf
  | .agaAgentWrite who _ => who.wf
  | .agaAgentRead who _ => who.wf
  | .agaLmWrite who _ => who.wf
  | .agaLmRead who _ => who.wf
  | .agaCregRead who _ => who.wf
  | .agaCregWrite who _ => who.wf
  | .agaComplete => true
  | .agaTimeout => true
  | .powerOnReset => true
  | .hubReset => true
  | .hubResetRelease => true
  | .bootStageTimeout => true
  | .scheduleStep _ levels => levels.locks.all siteWf && levels.frozen.all siteWf && levels.idle.all siteWf
  | .perfStrobe site _ => siteWf site
  | .traceLinkFail node => decide (node < 256)
  | .messageDiscard .. => true
  | .hostResponseTake => true
  | .twpHeaderReject .. => true
  | .xspiDqsTimeout .. => true
end Sys2Proof
end

