-- ==== Sys2Proof/Safety.lean ====
section
/-! DEFINITION. The terms the claims use: a Whorl that executes, states in canonical form, leases that do not clash. -/

namespace Sys2Proof.Machine

/-- A Whorl executes an instruction that names some registers (R236, R242, R261): it is RUNNING, its pc can be fetched, and no
register named waits for the result of a PENDING ticket. -/
def Executes (s : State) (w : Nat) (rs : List Nat) : Prop :=
  (getW s w).st = .running ∧ codeAt (getW s w) = true ∧ rs.any (busy (getW s w)) = false

/-- A Whorl's tables and local store in canonical form. -/
def whorlWf (x : Whorl) : Bool :=
  memWf x.ls && tabWf 0 x.g && tabWf 0 x.sr && tabWf Timer.fresh x.timers && tabWf Ticket.fresh x.tk && tabWf none x.leases

/-- The memories, the registers and the tables of State in canonical form: keys rise, and no entry is listed that equals what an
unlisted one reads as. -/
def canonical (s : State) : Bool :=
  memWf s.hubMem && memWf s.mail && tabWf 0 s.regs && tabWf 0 s.areg && tabWf 0 s.evPend && tabWf 0 s.evCut && tabWf 0 s.evXt &&
    tabWf Whorl.fresh s.whorls && (s.whorls.all fun e => whorlWf e.2) && tabWf Part.fresh s.parts &&
    tabWf RPart.fresh s.rparts && tabWf Region.fresh s.regions && tabWf Site.fresh s.sites && tabWf Flyer.fresh s.flyers &&
    tabWf Chan.fresh s.chans && tabWf Nand.fresh s.nands && tabWf Lane.fresh s.lanes && tabWf 0 s.hank.units && tabWf 0 s.buffer.units

/-- No two leases held name a common resource (R280). -/
def LeasesApart (s : State) : Prop :=
  ∀ w v h k : Nat, w < 8 → v < 8 → h < 64 → k < 64 → ∀ a b : Lease, (w, h) ≠ (v, k) →
    getLease (getW s w) h = some a → getLease (getW s v) k = some b →
    leaseClash a.req b.req = false

end Sys2Proof.Machine
end

