-- ==== Sys2Proof/Certificates/Slice0/Obligations.lean ====
section
/-! DEFINITION. What is claimed of the model, rule by rule; each docstring says what its statement says. -/

section

open Sys2Proof Sys2Proof.Machine

/-- The load of n bytes. -/
def loadOf (n : Nat) (w : Fin 8) (d a : Fin 32) (imm : BitVec 16) : Instr :=
  match n with
  | 1 => .ld1 w d a imm
  | 2 => .ld2 w d a imm
  | 4 => .ld4 w d a imm
  | _ => .ld8 w d a imm

/-- The store of n bytes. -/
def storeOf (n : Nat) (w : Fin 8) (d a : Fin 32) (imm : BitVec 16) : Instr :=
  match n with
  | 1 => .st1 w d a imm
  | 2 => .st2 w d a imm
  | 4 => .st4 w d a imm
  | _ => .st8 w d a imm

/-- t is the lowest-numbered FREE ticket of a Whorl. -/
def LowestFree (x : Whorl) (t : Nat) : Prop := t < 64 ∧ (getTk x t).st = .free ∧ ∀ u : Nat, u < t → (getTk x u).st ≠ .free

/-- A Whorl's state after it has taken ticket t: the ticket holds k, g[d] its number, and pc is at the next instruction. -/
def Ticketed (s : State) (w d : Nat) (t : Nat) (k : Ticket) : State :=
  setW { s with opCtr := s.opCtr + 1 } w (advance (setG (setTk (getW s w) t k) d (word t)))

/-- A PENDING ticket of an operation that has not left the Whorl yet, or whose deadline is given. -/
def PendingTicket (s : State) (w : Nat) (kind : TkKind) (dl result chan : Option Nat) (lease : List Nat) : Ticket :=
  ⟨.pending, .ok, 0, kind, dl, (getW s w).dl, result, lease, chan, s.opCtr⟩

/-- A ticket DONE at issue with count 0: a check has failed. -/
def RefusedTicket (s : State) (w : Nat) (kind : TkKind) (status : Status) : Ticket :=
  ⟨.done, status, 0, kind, none, (getW s w).dl, none, [], none, s.opCtr⟩

/-- The asynchronous instructions that take no buffer: Whorl, g[d] and the registers each names. -/
def asyncPlain : Instr → Option (Fin 8 × Fin 32 × List Nat)
  | .agw w d _ b _ => some (w, d, [d, b])
  | .halt w d a => some (w, d, [d, a])
  | .haltPlanned w d a b _ => some (w, d, [d, a, b])
  | .run w d a => some (w, d, [d, a])
  | .step w d a b => some (w, d, [d, a, b])
  | .snip w d a => some (w, d, [d, a])
  | .tapr w d _ b _ => some (w, d, [d, b])
  | .tapc w d _ _ => some (w, d, [d])
  | _ => none

/-- Event line n is set in the copy of every reader: the eight Whorls and the host. -/
def LineRaised (t : State) (n : Nat) : Prop := ∀ k : Nat, k < 9 → (tget 0 t.evPend k).getLsbD n = true


/-- What the two-wire port answers: a code, and data with their CRC-8 behind them. -/
def TwpSaid (ack : Nat) (v : Word) : TwpAns := ⟨ack, v, crc8 (sentBits v)⟩
/-- For every state with a command c at the front of its queue, a step is exec of c on the state with the rest of the queue. On an
empty queue a step is one tick: hub time advances by one ht and what the hub does with time alone goes on (the model's choice,
log entry 1); where no echo, buffer record, kept operation, mode switch or dump waits for time, hub time alone changes. -/
def Obligations.StepRunsTheFrontCommand : Prop :=
  (∀ (s : State) (c : Instr) (rest : List Instr), s.pending = c :: rest → step s = exec c { s with pending := rest }) ∧
  (∀ s : State, s.pending = [] → step s = .next (tick s) ∧
    (s.pulses = [] → (getSink s 0).recs = [] → switching s = false → (∀ o : Op, o ∈ s.ops → o.held ≠ some 64) → s.hang.running = none →
      step s = .next { s with ht := s.ht + 1 }))

/-- After a power-on reset hub time is 0, no command waits, every Whorl holds the values of Table 9.1 with STATE RESET, every
general register reads 0 and dl reads 40,000, the unlock level is 0, every partition is EMPTY and PRT_CUT_TMO, PRT_LEAD and
DMP_TMO hold their table values. The reset state meets the invariants that every command keeps: its tables are in canonical
form, and no two leases clash. -/
def Obligations.ResetLeavesTheTablesValues : Prop :=
  State.reset.ht = 0 ∧ State.reset.pending = [] ∧ unlockLevel State.reset = 0 ∧
  (∀ w : Nat, getW State.reset w = Whorl.fresh) ∧ Whorl.fresh.st = .reset ∧ (∀ r : Nat, gReg Whorl.fresh r = 0) ∧
  Whorl.fresh.dl = 40000 ∧ Whorl.fresh.pc = 0 ∧ (∀ t : Nat, (getTk Whorl.fresh t).st = .free) ∧
  (∀ t : Nat, getTimer Whorl.fresh t = ⟨none, false⟩) ∧ (∀ n : Nat, sReg Whorl.fresh n = 0) ∧
  (∀ p : Nat, (getP State.reset p).st = .empty) ∧
  reg State.reset rPrtCutTmo = 4000 ∧ reg State.reset rPrtLead = 512 ∧ reg State.reset rDmpTmo = 4000000000 ∧
  canonical State.reset = true ∧ LeasesApart State.reset

/-- For all operands: ADD, SUB, MUL wrap modulo 2^64 and MULHU is the high half of the 128-bit product; SLL, SRL and SRA shift by b
modulo 64, SRA as a division of the signed value rounded down; SLT, SLTU, MIN, MAX, MINU and MAXU compare signed or unsigned;
CLZ and CTZ are 64 for 0 and otherwise locate the highest and lowest 1 bit; POPC of a word and of its complement add to 64. -/
def Obligations.AluOperationsFollowTable99 : Prop :=
  ∀ a b : Word,
    (aluOp .add a b).toNat = (a.toNat + b.toNat) % 2 ^ 64 ∧
    ((aluOp .sub a b).toNat + b.toNat) % 2 ^ 64 = a.toNat ∧
    (aluOp .mul a b).toNat = a.toNat * b.toNat % 2 ^ 64 ∧
    (aluOp .mulhu a b).toNat = a.toNat * b.toNat / 2 ^ 64 ∧
    (∀ i : Nat, (aluOp .and a b).getLsbD i = (a.getLsbD i && b.getLsbD i) ∧
      (aluOp .or a b).getLsbD i = (a.getLsbD i || b.getLsbD i) ∧ (aluOp .xor a b).getLsbD i = (a.getLsbD i != b.getLsbD i)) ∧
    (aluOp .sll a b).toNat = a.toNat * 2 ^ (b.toNat % 64) % 2 ^ 64 ∧
    (aluOp .srl a b).toNat = a.toNat / 2 ^ (b.toNat % 64) ∧
    (aluOp .sra a b).toInt = a.toInt / 2 ^ (b.toNat % 64) ∧
    (aluOp .slt a b).toNat = (if a.toInt < b.toInt then 1 else 0) ∧
    (aluOp .sltu a b).toNat = (if a.toNat < b.toNat then 1 else 0) ∧
    (aluOp .min a b).toInt = min a.toInt b.toInt ∧ (aluOp .max a b).toInt = max a.toInt b.toInt ∧
    (aluOp .minu a b).toNat = min a.toNat b.toNat ∧ (aluOp .maxu a b).toNat = max a.toNat b.toNat ∧
    (aluOp .popc a b).toNat + (aluOp .popc (~~~ a) b).toNat = 64 ∧
    (a = 0 → (aluOp .clz a b).toNat = 64 ∧ (aluOp .ctz a b).toNat = 64) ∧
    (a ≠ 0 → (aluOp .clz a b).toNat < 64 ∧ a.toNat / 2 ^ (63 - (aluOp .clz a b).toNat) = 1 ∧
      (aluOp .ctz a b).toNat < 64 ∧ a.toNat % 2 ^ (aluOp .ctz a b).toNat = 0 ∧ a.getLsbD (aluOp .ctz a b).toNat = true)

/-- When the Whorl executes it, ALU writes the operation of g[a] and g[b] to g[d]; ADDI, SLTI and SLTIU take the sign-extended
immediate, ANDI, ORI and XORI the zero-extended one; INSH replaces lane aux of g[d]. The next state is the old one with that
register written (a write to g0 is discarded) and pc at the next instruction: no other register, no memory and no other state
changes. -/
def Obligations.RegisterInstructionsWriteOneRegister : Prop :=
  ∀ (s : State) (w : Fin 8) (d a b : Fin 32) (imm : BitVec 16) (x : Whorl), x = getW s w →
    (∀ fn : AluFn, Executes s w [d, a, b] →
      exec (.alu w fn d a b) s = .next (setW s w (advance (setG x d (aluOp fn (gReg x a) (gReg x b)))))) ∧
    (Executes s w [d, a] →
      exec (.addi w d a imm) s = .next (setW s w (advance (setG x d (gReg x a + imm.signExtend 64)))) ∧
      exec (.andi w d a imm) s = .next (setW s w (advance (setG x d (gReg x a &&& imm.setWidth 64)))) ∧
      exec (.ori w d a imm) s = .next (setW s w (advance (setG x d (gReg x a ||| imm.setWidth 64)))) ∧
      exec (.xori w d a imm) s = .next (setW s w (advance (setG x d (gReg x a ^^^ imm.setWidth 64)))) ∧
      exec (.slti w d a imm) s =
        .next (setW s w (advance (setG x d (if (gReg x a).toInt < imm.toInt then 1 else 0)))) ∧
      exec (.sltiu w d a imm) s =
        .next (setW s w (advance (setG x d (if (gReg x a).toNat < (imm.signExtend 64).toNat then 1 else 0))))) ∧
    (∀ lane : Fin 4, Executes s w [d] → ∃ v : Word,
      exec (.insh w d lane imm) s = .next (setW s w (advance (setG x d v))) ∧
      ∀ i : Nat, i < 64 → v.getLsbD i =
        if 16 * lane.val ≤ i ∧ i < 16 * lane.val + 16 then imm.getLsbD (i - 16 * lane.val) else (gReg x d).getLsbD i)

/-- When the Whorl executes it, BEQ, BNE, BLT, BGE, BLTU and BGEU compare g[d] with g[a] and, when taken, move pc to the address of
the next instruction plus 4 times the sign-extended immediate, and otherwise to the next instruction. J does so by imm26, JAL
also writes the return address to g31; JR moves pc to g[a], JALR also writes the return address to g[d] (g[a] read first); NOP
moves to the next instruction. Nothing else changes. -/
def Obligations.BranchesAndJumpsMoveThePc : Prop :=
  ∀ (s : State) (w : Fin 8) (d a : Fin 32) (imm : BitVec 16) (off : BitVec 26) (x : Whorl), x = getW s w →
    (Executes s w [d, a] → ∀ goes : Bool → BitVec 32,
      goes = (fun taken => if taken then x.pc + 4 + 4 * imm.signExtend 32 else x.pc + 4) →
      exec (.beq w d a imm) s = .next (setW s w { x with pc := goes (decide (gReg x d = gReg x a)) }) ∧
      exec (.bne w d a imm) s = .next (setW s w { x with pc := goes (decide (gReg x d ≠ gReg x a)) }) ∧
      exec (.blt w d a imm) s = .next (setW s w { x with pc := goes (decide ((gReg x d).toInt < (gReg x a).toInt)) }) ∧
      exec (.bge w d a imm) s = .next (setW s w { x with pc := goes (decide ((gReg x a).toInt ≤ (gReg x d).toInt)) }) ∧
      exec (.bltu w d a imm) s = .next (setW s w { x with pc := goes (decide ((gReg x d).toNat < (gReg x a).toNat)) }) ∧
      exec (.bgeu w d a imm) s = .next (setW s w { x with pc := goes (decide ((gReg x a).toNat ≤ (gReg x d).toNat)) })) ∧
    (Executes s w [] →
      exec (.j w off) s = .next (setW s w { x with pc := x.pc + 4 + 4 * off.signExtend 32 }) ∧
      exec (.nop w) s = .next (setW s w { x with pc := x.pc + 4 })) ∧
    (Executes s w [31] →
      exec (.jal w off) s = .next (setW s w { setG x 31 ((x.pc + 4).setWidth 64) with pc := x.pc + 4 + 4 * off.signExtend 32 })) ∧
    (Executes s w [a] → exec (.jr w a) s = .next (setW s w { x with pc := (gReg x a).setWidth 32 })) ∧
    (Executes s w [d, a] →
      exec (.jalr w d a) s = .next (setW s w { setG x d ((x.pc + 4).setWidth 64) with pc := (gReg x a).setWidth 32 }))

/-- When the Whorl executes it, RDTIME writes hub time to g[d]; TSET arms a timer with g[a] and leaves it expired only when that
time has passed; TCLR disarms it; TRD writes the armed value or all ones; SETDL stores g[a] clamped to 400 to 2^40 ht; RDDL
writes dl; WHOAMI writes the Whorl number, the owner rights of the load and the ROM flag. pc moves to the next instruction and
nothing else changes. STOPW leaves the Whorl STOPPED after this instruction with line 6 raised. -/
def Obligations.TimerAndSystemInstructions : Prop :=
  ∀ (s : State) (w : Fin 8) (d a : Fin 32) (t : Fin 4) (x : Whorl), x = getW s w →
    (Executes s w [d] →
      exec (.rdtime w d) s = .next (setW s w (advance (setG x d (word s.ht)))) ∧
      exec (.trd w d t) s = .next (setW s w (advance (setG x d ((getTimer x t).armed.getD (BitVec.allOnes 64))))) ∧
      exec (.rddl w d) s = .next (setW s w (advance (setG x d (word x.dl)))) ∧
      ∃ v : Word, exec (.whoami w d) s = .next (setW s w (advance (setG x d v))) ∧ bits v 7 0 = w.val ∧
        bits v 16 8 = x.owner.toNat ∧ bit v 17 = x.rom.isSome) ∧
    (Executes s w [a] →
      (∃ y : Timer, exec (.tset w t a) s = .next (setW s w (advance (setTimer x t y))) ∧ y.armed = some (gReg x a) ∧
        (y.expired = true ↔ (gReg x a).toNat ≤ s.ht)) ∧
      exec (.setdl w a) s = .next (setW s w (advance { x with dl :=
        if (gReg x a).toNat < 400 then 400 else if 2 ^ 40 < (gReg x a).toNat then 2 ^ 40 else (gReg x a).toNat }))) ∧
    (Executes s w [] →
      exec (.tclr w t) s = .next (setW s w (advance (setTimer x t ⟨none, false⟩))) ∧
      exec (.stopw w) s = .next (raiseLine (setW s w { advance x with st := .stopped }) 6))

/-- When the Whorl executes it, TKST writes the wake word of a ticket; TKPEND writes the mask of PENDING tickets; TKFREE on a
PENDING ticket stalls, and otherwise frees it; FENCE.AG stalls while an agent operation is PENDING and FENCE.ALL while any
operation but SEND and RECV is, and each writes to g[d] the number of its operations that ended TIMEOUT (of those whose tickets
the Whorl still holds, log entry 5) and frees no ticket. -/
def Obligations.TicketInstructionsAndFences : Prop :=
  ∀ (s : State) (w : Fin 8) (d a : Fin 32) (x : Whorl), x = getW s w →
    (Executes s w [d, a] → ∃ v : Word, exec (.tkst w d a) s = .next (setW s w (advance (setG x d v))) ∧
      ∀ t : Nat, t = (gReg x a).toNat % 64 → ((getTk x t).st = .free → v = wakeWord 3 0 0 0) ∧
        ((getTk x t).st = .pending → v = wakeWord 0 t 0xFF 0) ∧
        ((getTk x t).st = .done → v = wakeWord 0 t (statusCode (getTk x t).status) (getTk x t).count.toNat)) ∧
    (Executes s w [a] → ∀ t : Nat, t = (gReg x a).toNat % 64 →
      ((getTk x t).st = .pending → exec (.tkfree w a) s = .next s) ∧
      ((getTk x t).st ≠ .pending → exec (.tkfree w a) s = .next (setW s w (advance (setTk x t Ticket.fresh))))) ∧
    (Executes s w [d] →
      (∃ v : Word, exec (.tkpend w d) s = .next (setW s w (advance (setG x d v))) ∧
        ∀ t : Nat, t < 64 → v.getLsbD t = decide ((getTk x t).st = .pending)) ∧
      (∀ n : Nat,
        n = ((List.range 64).filter fun t => (getTk x t).st == .done && (getTk x t).kind == .agent && (getTk x t).status == .timeout).length →
        (∀ t : Nat, t < 64 → (getTk x t).st = .pending → (getTk x t).kind ≠ .agent) →
        exec (.fenceAg w d) s = .next (setW s w (advance (setG x d (word n))))) ∧
      ((∃ t : Nat, t < 64 ∧ (getTk x t).st = .pending ∧ (getTk x t).kind = .agent) → exec (.fenceAg w d) s = .next s) ∧
      (∀ n : Nat,
        n = ((List.range 64).filter fun t => (getTk x t).st == .done && (getTk x t).kind != .send && (getTk x t).kind != .recv &&
          (getTk x t).status == .timeout).length →
        (∀ t : Nat, t < 64 → (getTk x t).st = .pending → (getTk x t).kind = .send ∨ (getTk x t).kind = .recv) →
        exec (.fenceAll w d) s = .next (setW s w (advance (setG x d (word n))))) ∧
      ((∃ t : Nat, t < 64 ∧ (getTk x t).st = .pending ∧ (getTk x t).kind ≠ .send ∧ (getTk x t).kind ≠ .recv) →
        exec (.fenceAll w d) s = .next s))

/-- When the Whorl executes it, SMK builds a set register from g[ga] (high half) and g[gb] (low half); SMV copies one; SENG copies
one with its engine mask, bits [123:120], replaced; SRD writes the high half to g[ga] and then the low half to g[gb]; SLD loads
16 aligned bytes of local store or hub memory, the low half from the lower address; SST stores them there, outside the code area
and within rights. An address not aligned to 16 faults ALIGN. -/
def Obligations.SetRegisterInstructions : Prop :=
  ∀ (s : State) (w : Fin 8) (sd sa : Fin 16) (ga gb : Fin 32) (x : Whorl), x = getW s w →
    (Executes s w [ga, gb] →
      exec (.smk w sd ga gb) s = .next (setW s w (advance (setSr x sd (gReg x ga ++ gReg x gb)))) ∧
      exec (.srd w sa ga gb) s =
        .next (setW s w (advance (setG (setG x ga ((sReg x sa).extractLsb' 64 64)) gb ((sReg x sa).extractLsb' 0 64))))) ∧
    (Executes s w [] → exec (.smv w sd sa) s = .next (setW s w (advance (setSr x sd (sReg x sa))))) ∧
    (Executes s w [gb] → ∃ v : BitVec 128, exec (.seng w sd sa gb) s = .next (setW s w (advance (setSr x sd v))) ∧
      ∀ i : Nat, i < 128 → v.getLsbD i =
        if 120 ≤ i ∧ i < 124 then (gReg x gb).getLsbD (i - 120) else (sReg x sa).getLsbD i) ∧
    (Executes s w [ga] → ∀ o : Nat, o % 16 = 0 → o < 0x10000 → gReg x ga = word (0x1000000 + o) →
      exec (.sld w sd ga) s =
        .next (setW s w (advance (setSr x sd (word (readLe x.ls (o + 8) 8) ++ word (readLe x.ls o 8))))) ∧
      (x.codeBytes ≤ o → exec (.sst w sa ga) s =
        .next (setW s w { advance x with
          ls := writeLe (writeLe x.ls o 8 ((sReg x sa).toNat % 2 ^ 64)) (o + 8) 8 ((sReg x sa).toNat / 2 ^ 64) }))) ∧
    (Executes s w [ga] → ∀ o : Nat, o % 16 = 0 → o < 0x800000 → gReg x ga = word (0x100000 + o) →
      (mayMem s (.whorl w) o 8 false = true → mayMem s (.whorl w) (o + 8) 8 false = true → exec (.sld w sd ga) s =
        .next (setW s w (advance (setSr x sd (word (readLe s.hubMem (o + 8) 8) ++ word (readLe s.hubMem o 8)))))) ∧
      (mayMem s (.whorl w) o 8 true = true → mayMem s (.whorl w) (o + 8) 8 true = true → exec (.sst w sa ga) s =
        .next { setW s w (advance x) with
          hubMem := writeLe (writeLe s.hubMem o 8 ((sReg x sa).toNat % 2 ^ 64)) (o + 8) 8 ((sReg x sa).toNat / 2 ^ 64) })) ∧
    (Executes s w [ga] → (gReg x ga).toNat % 16 ≠ 0 →
      exec (.sld w sd ga) s = .next (whorlFault s w .align (gReg x ga)) ∧
      exec (.sst w sa ga) s = .next (whorlFault s w .align (gReg x ga)))

/-- For n of 8, 4, 2 and 1: when the Whorl executes it, a load at an address aligned to n writes to g[d], zero-extended, the n bytes
of its local store or, where it has rights, of hub memory, moves pc by 4 and changes nothing else; of ROM it reads the free
bytes of log entry 7, and LD8 of a register or mailbox what that read shows; without rights it faults RIGHTS, at an address not
aligned to n it faults ALIGN, and with the address saved in WHL_FADDR. -/
def Obligations.LoadsReadLocalStoreAndHubMemory : Prop :=
  ∀ (s : State) (w : Fin 8) (d a : Fin 32) (imm : BitVec 16) (n : Nat) (x : Whorl) (ad : Word),
    x = getW s w → n = 8 ∨ n = 4 ∨ n = 2 ∨ n = 1 → ad = gReg x a + imm.signExtend 64 → Executes s w [d, a] →
    (∀ o : Nat, o % n = 0 → o < 0x10000 → ad = word (0x1000000 + o) →
      exec (loadOf n w d a imm) s = .next (setW s w (advance (setG x d (word (readLe x.ls o n)))))) ∧
    (∀ o : Nat, o % n = 0 → o < 0x800000 → ad = word (0x100000 + o) →
      exec (loadOf n w d a imm) s =
        if mayMem s (.whorl w) o n false then .next (setW s w (advance (setG x d (word (readLe s.hubMem o n)))))
        else .next (whorlFault s w .rights ad)) ∧
    (∀ o : Nat, o % n = 0 → o < 0x80000 → ad = word (0x2000000 + o) →
      exec (loadOf n w d a imm) s = .next (setW s w (advance (setG x d (word (romLe o n)))))) ∧
    (∀ (v : Word) (t : State), n = 8 → ad.toNat % 8 = 0 → ad.toNat < 0x20000 → winRead s (.whorl w) ad.toNat = (0, v, t) →
      exec (loadOf n w d a imm) s = .next (setW t w (advance (setG (getW t w) d v)))) ∧
    (ad.toNat % n ≠ 0 → exec (loadOf n w d a imm) s = .next (whorlFault s w .align ad))

/-- For n of 8, 4, 2 and 1: when the Whorl executes it, a store at an address aligned to n changes the n bytes there to the low n
bytes of g[d], in its local store outside the code area or, with rights, in hub memory; every byte outside them and everything
else but pc keeps. ST8 to a register or mailbox is that write. A store into the code area faults ADDR, one without rights
RIGHTS, one not aligned ALIGN, and then no byte changes. -/
def Obligations.StoresWriteLocalStoreAndHubMemory : Prop :=
  ∀ (s : State) (w : Fin 8) (d a : Fin 32) (imm : BitVec 16) (n : Nat) (x : Whorl) (ad : Word),
    x = getW s w → n = 8 ∨ n = 4 ∨ n = 2 ∨ n = 1 → ad = gReg x a + imm.signExtend 64 → Executes s w [d, a] →
    (∀ o : Nat, o % n = 0 → o < 0x10000 → ad = word (0x1000000 + o) → x.codeBytes ≤ o → memWf x.ls = true →
      ∃ m : List Host.Cell, exec (storeOf n w d a imm) s = .next (setW s w { advance x with ls := m }) ∧
        readLe m o n = (gReg x d).toNat % 256 ^ n ∧ ∀ b : Nat, b < o ∨ o + n ≤ b → tget 0 m b = tget 0 x.ls b) ∧
    (∀ o : Nat, o % n = 0 → o < x.codeBytes → x.codeBytes ≤ 0x10000 → ad = word (0x1000000 + o) →
      exec (storeOf n w d a imm) s = .next (whorlFault s w .addr ad)) ∧
    (∀ o : Nat, o % n = 0 → o < 0x800000 → ad = word (0x100000 + o) → memWf s.hubMem = true → mayMem s (.whorl w) o n true = true →
      ∃ m : List Host.Cell, exec (storeOf n w d a imm) s = .next { setW s w (advance x) with hubMem := m } ∧
        readLe m o n = (gReg x d).toNat % 256 ^ n ∧ ∀ b : Nat, b < o ∨ o + n ≤ b → tget 0 m b = tget 0 s.hubMem b) ∧
    (∀ o : Nat, o % n = 0 → o < 0x800000 → ad = word (0x100000 + o) → mayMem s (.whorl w) o n true = false →
      exec (storeOf n w d a imm) s = .next (whorlFault s w .rights ad)) ∧
    (∀ t : State, n = 8 → ad.toNat % 8 = 0 → ad.toNat < 0x20000 →
      winWrite (setW s w (advance x)) (.whorl w) ad.toNat (gReg x d) 0xFF = (0, t) → exec (storeOf n w d a imm) s = .next t) ∧
    (ad.toNat % n ≠ 0 → exec (storeOf n w d a imm) s = .next (whorlFault s w .align ad))

/-- When the Whorl executes it, WAIT and POLL report in g[d] the lowest DONE ticket named, and free it; with none, the lowest
pending event line named, and clear it in the Whorl's own copy; with none, the lowest expired timer named, and disarm it. With
an empty ready set POLL reports WHY NONE; WAIT stalls while a ticket named is not FREE, an event line is named or a timer named
is armed, and otherwise reports WHY NONE. -/
def Obligations.WaitAndPollReportTheReadySet : Prop :=
  ∀ (s : State) (w : Fin 8) (d a b : Fin 32) (tm : BitVec 4) (x : Whorl) (report : State → Prop), x = getW s w →
    Executes s w [d, a, b] →
    (∀ u : State, report u ↔ exec (.wait w d a b tm) s = .next u ∧ exec (.poll w d a b tm) s = .next u) →
    let ticket (t : Nat) : Prop := t < 64 ∧ (gReg x a).getLsbD t = true ∧ (getTk x t).st = .done
    let line (n : Nat) : Prop := n < 64 ∧ (gReg x b).getLsbD n = true ∧ (tget 0 s.evPend w).getLsbD n = true
    let timer (t : Nat) : Prop := t < 4 ∧ tm.getLsbD t = true ∧ (getTimer x t).expired = true
    (∀ t : Nat, ticket t → (∀ u : Nat, u < t → ¬ ticket u) →
      report (setW s w (advance (setG (setTk x t Ticket.fresh) d
        (wakeWord 0 t (statusCode (getTk x t).status) (getTk x t).count.toNat))))) ∧
    (∀ n : Nat, (∀ t : Nat, ¬ ticket t) → line n → (∀ m : Nat, m < n → ¬ line m) →
      report (setPend (setW s w (advance (setG x d (wakeWord 1 n 0 0)))) w (tget 0 s.evPend w &&& ~~~ word (2 ^ n)))) ∧
    (∀ t : Nat, (∀ u : Nat, ¬ ticket u) → (∀ n : Nat, ¬ line n) → timer t → (∀ u : Nat, u < t → ¬ timer u) →
      report (setW s w (advance (setG (setTimer x t Timer.fresh) d (wakeWord 2 t 0 0))))) ∧
    ((∀ u : Nat, ¬ ticket u) → (∀ n : Nat, ¬ line n) → (∀ t : Nat, ¬ timer t) →
      exec (.poll w d a b tm) s = .next (setW s w (advance (setG x d (wakeWord 3 0 0 0)))) ∧
      ((∃ t : Nat, t < 64 ∧ (gReg x a).getLsbD t = true ∧ (getTk x t).st ≠ .free) ∨ gReg x b ≠ 0 ∨
          (∃ t : Nat, t < 4 ∧ tm.getLsbD t = true ∧ (getTimer x t).armed ≠ none) →
        exec (.wait w d a b tm) s = .next s) ∧
      (gReg x b = 0 → (∀ t : Nat, t < 64 → (gReg x a).getLsbD t = true → (getTk x t).st = .free) →
        (∀ t : Nat, t < 4 → tm.getLsbD t = true → (getTimer x t).armed = none) →
        exec (.wait w d a b tm) s = .next (setW s w (advance (setG x d (wakeWord 3 0 0 0))))))

/-- When the Whorl executes it, EVSET sets lines 16 to 63 of g[b] in the copy of every reader (the eight Whorls and the host) and no
other line; EVRD writes the Whorl's own copy to g[d]; EVCLR clears the bits of g[b] in its own copy alone. A write of EVT_RAISE
by a requester with rights does what EVSET does with the value written, and one without rights changes nothing. -/
def Obligations.EventLinesReachEveryReader : Prop :=
  (∀ (s : State) (w : Fin 8) (d b : Fin 32) (x : Whorl), x = getW s w → tabWf 0 s.evPend = true →
    (Executes s w [b] → ∃ t : State, exec (.evset w b) s = .next t ∧ getW t w = advance x ∧
      (∀ k i : Nat, k < 9 → (tget 0 t.evPend k).getLsbD i =
        ((tget 0 s.evPend k).getLsbD i || (decide (16 ≤ i) && (gReg x b).getLsbD i))) ∧
      t.evCut = s.evCut ∧ t.evXt = s.evXt ∧ t.hubMem = s.hubMem ∧ t.regs = s.regs) ∧
    (Executes s w [b] → ∃ t : State, exec (.evclr w b) s = .next t ∧ getW t w = advance x ∧
      (∀ i : Nat, (tget 0 t.evPend w).getLsbD i = ((tget 0 s.evPend w).getLsbD i && !(gReg x b).getLsbD i)) ∧
      (∀ k : Nat, k ≠ w.val → tget 0 t.evPend k = tget 0 s.evPend k) ∧ t.hubMem = s.hubMem ∧ t.regs = s.regs) ∧
    (Executes s w [d] → exec (.evrd w d) s = .next (setW s w (advance (setG x d (tget 0 s.evPend w)))))) ∧
  (∀ (s : State) (who : Who) (v : Word), tabWf 0 s.evPend = true →
    (mayReg s who rEvtRaise true v = true → ∃ t : State, exec (.evtRaise who v) s = .next t ∧ t.whorls = s.whorls ∧ t.regs = s.regs ∧
      ∀ k i : Nat, k < 9 → (tget 0 t.evPend k).getLsbD i =
        ((tget 0 s.evPend k).getLsbD i || (decide (16 ≤ i) && v.getLsbD i))) ∧
    (mayReg s who rEvtRaise true v = false → exec (.evtRaise who v) s = .next s))

/-- AGW, HALT in both forms, RUN, STEP, SNIP, TAPR and TAPC, executed by a Whorl that has no FREE ticket, issue nothing: the next
state is the old one with all ones in g[d], NOTKT one higher (it stops at 65,535) and pc at the next instruction. -/
def Obligations.IssueWithoutAFreeTicket : Prop :=
  ∀ (s : State) (i : Instr) (w : Fin 8) (d : Fin 32) (rs : List Nat), asyncPlain i = some (w, d, rs) → Executes s w rs →
    (∀ t : Nat, t < 64 → (getTk (getW s w) t).st ≠ .free) →
    exec i s = .next (setW s w (advance (setG { getW s w with notkt := min ((getW s w).notkt + 1) 65535 } d (BitVec.allOnes 64))))

/-- With a lowest FREE ticket t, a set of good form within rights that names agents, and (AGR.LM, and AGR with COLLECT) a good
buffer, the instruction writes t to g[d], marks t PENDING under the next operation number and hands the issuer one operation: a
write of g[b] to the register (AGW), a read of it with its reduction, whose result goes to g[b] unless it is COLLECT (AGR), or
the local-memory words of the descriptor in g[b] (AGR.LM), to the sites of the set. -/
def Obligations.AgentInstructionsIssueTheirOperation : Prop :=
  ∀ (s : State) (w : Fin 8) (d b : Fin 32) (sa : Fin 16) (reg : BitVec 8) (red : Red) (rd : Bool) (x : Whorl) (set : BitVec 128) (t : Nat),
    x = getW s w → set = sReg x sa → Executes s w [d, b] → LowestFree x t → setForm s set = true →
    setRights s (.whorl w) 3 set = true → opSites s set ≠ [] →
    let mine (op : Op) : Prop := op.id = s.opCtr ∧ op.issuer = w ∧ op.owner = .ticket w t ∧ op.set = set ∧
      op.sites = opSites s set ∧ op.span = x.dl ∧ op.pre = []
    (∃ op : Op, mine op ∧ op.type = .write ∧ op.reg = reg.toNat ∧ op.data = [gReg x b] ∧
      exec (.agw w d sa b reg) s = .next (issueOp (Ticketed s w d t (PendingTicket s w .agent none none none [])) op)) ∧
    (red ≠ .none ∨ setKind set = 4 → red ≠ .collect → ∃ op : Op, mine op ∧ op.type = .read ∧ op.reg = reg.toNat ∧ op.red = red ∧
      exec (.agr w d sa b reg red) s =
        .next (issueOp (Ticketed s w d t (PendingTicket s w .agent none (some b.val) none [])) op)) ∧
    (∀ o : Nat, gReg x b = word (0x100000 + o) → o % 16 = 0 → o + 16 + 16 * (opSites s set).length ≤ 0x800000 →
      mayMem s (.whorl w) o (16 + 16 * (opSites s set).length) true = true →
      ∃ op : Op, mine op ∧ op.type = .read ∧ op.reg = reg.toNat ∧ op.red = .collect ∧ op.buf = o ∧
        exec (.agr w d sa b reg .collect) s =
          .next (issueOp (Ticketed s w d t (PendingTicket s w .agent none none none [])) op)) ∧
    (∀ o n : Nat, o = 8 * bits (gReg x b) 63 44 → n = bits (gReg x b) 43 36 + 1 → bits (gReg x b) 34 24 = 0 → o + 8 * n ≤ 0x800000 →
      (rd = false ∨ bit (gReg x b) 35 = false → mayMem s (.whorl w) o (8 * n) rd = true) → (rd = true → bit (gReg x b) 35 = true ∨ setKind set = 4) →
      ∃ op : Op, mine op ∧ op.type = (if rd then .lmRead else .lmWrite) ∧ op.lmAddr = bits (gReg x b) 23 0 ∧ op.nWords = n ∧
        op.buf = o ∧ op.str = bit (gReg x b) 35 ∧ (rd = false → op.data = readUnits s.hubMem o n) ∧
        exec (.agrLm w d sa b rd) s =
          .next (issueOp (Ticketed s w d t (PendingTicket s w .agent none none none [])) op))

/-- When AGW executes with a FREE ticket and its set has a bad form, the lowest ticket is DONE with NOAGENT at once, with a good
form but outside rights with RIGHTS; TAPC over a good set within rights whose tap lease the Whorl does not hold completes
LOCKED. In each case g[d] takes the ticket number, the count is 0, and nothing is issued. TAP, EMIT, COMMIT, SEND and RECV check
their buffer before they take a ticket: one not aligned to 8 bytes faults ALIGN; one in neither local store nor hub memory
faults ADDR, as does one that RECV would write into the code area; one in hub memory without rights faults RIGHTS. WHL_FADDR
holds its address and no ticket changes. -/
def Obligations.ChecksAndBuffersAtIssue : Prop :=
  (∀ (s : State) (w : Fin 8) (d b : Fin 32) (sa : Fin 16) (reg : BitVec 8) (j : Fin 2) (x : Whorl) (set : BitVec 128) (t : Nat),
    x = getW s w → set = sReg x sa → LowestFree x t →
    (Executes s w [d, b] → setForm s set = false →
      exec (.agw w d sa b reg) s = .next (Ticketed s w d t (RefusedTicket s w .agent .noagent))) ∧
    (Executes s w [d, b] → setForm s set = true → setRights s (.whorl w) 3 set = false →
      exec (.agw w d sa b reg) s = .next (Ticketed s w d t (RefusedTicket s w .agent .rights))) ∧
    (Executes s w [d, b] → setForm s set = true → setRights s (.whorl w) 3 set = true → opSites s set = [] →
      exec (.agw w d sa b reg) s = .next (Ticketed s w d t (RefusedTicket s w .agent .noagent))) ∧
    (Executes s w [d] → setForm s set = true → setRights s (.whorl w) 3 set = true →
      (∃ i c : Nat, i ∈ opSites s set ∧ coreOf s i = some c ∧ heldBy x (tapLease j c) = none) →
      exec (.tapc w d sa j) s = .next (Ticketed s w d t (RefusedTicket s w .tap .locked)))) ∧
  (∀ (s : State) (w : Fin 8) (d a b : Fin 32) (sa : Fin 16) (j : Fin 2) (cls : Fin 8) (units area : Fin 16) (n : Fin 64) (x : Whorl)
      (c : FCode), x = getW s w →
    (Executes s w [d, b] → bufBad s w x (gReg x b).toNat 32 8 false = some c →
      exec (.tap w d sa b j) s = .next (whorlFault s w c (gReg x b))) ∧
    (Executes s w [d, a, b] →
      (cls.val ≤ 3 → 1 ≤ units.val → units.val ≤ 14 → bufBad s w x (gReg x a).toNat (8 * units.val) 8 false = some c →
        exec (.emit w d a b cls units) s = .next (whorlFault s w c (gReg x a))) ∧
      (bufBad s w x (gReg x a).toNat (gReg x b).toNat 8 false = some c →
        exec (.commit w d a b area) s = .next (whorlFault s w c (gReg x a))) ∧
      (bufBad s w x (gReg x b).toNat (8 * (n.val + 1)) 8 false = some c →
        exec (.send w d a b n) s = .next (whorlFault s w c (gReg x b))) ∧
      (bufBad s w x (gReg x b).toNat (8 * (n.val + 2)) 8 true = some c →
        exec (.recv w d a b n) s = .next (whorlFault s w c (gReg x b))))) ∧
  (∀ (s : State) (w : Nat) (x : Whorl) (a n : Nat) (wr : Bool),
    (a % 8 ≠ 0 → bufBad s w x a n 8 wr = some .align) ∧
    (a % 8 = 0 → 0x1000000 ≤ a → a + n ≤ 0x1010000 →
      bufBad s w x a n 8 wr = if wr ∧ a < 0x1000000 + x.codeBytes then some .addr else none) ∧
    (a % 8 = 0 → 0x100000 ≤ a → a + n ≤ 0x900000 →
      bufBad s w x a n 8 wr = if mayMem s (.whorl w) (a - 0x100000) n wr then none else some .rights) ∧
    (a % 8 = 0 → ¬ (0x1000000 ≤ a ∧ a + n ≤ 0x1010000) → ¬ (0x100000 ≤ a ∧ a + n ≤ 0x900000) →
      bufBad s w x a n 8 wr = some .addr))

/-- With a lowest FREE ticket, a good set within rights that names agents, and a lease held on every comparator or tap entry named,
TRIG hands the issuer one operation that writes CMP_VALn with g[b] and then CMP_CTRLn with g[b+1]; TAP one that writes TS_MATCH
with EN 0, TS_CFG, TS_VH and TS_SEED and last TS_MATCH as the block in memory gives it; TAPR one that reads TS_COV into g[b];
TAPC one that writes 0 to TS_MATCH. -/
def Obligations.TriggerAndTapInstructionsIssue : Prop :=
  ∀ (s : State) (w : Fin 8) (d b : Fin 32) (sa : Fin 16) (n : Fin 8) (j : Fin 2) (x : Whorl) (set : BitVec 128) (t : Nat),
    x = getW s w → set = sReg x sa → LowestFree x t → setForm s set = true → setRights s (.whorl w) 3 set = true →
    opSites s set ≠ [] →
    let mine (op : Op) : Prop := op.id = s.opCtr ∧ op.issuer = w ∧ op.owner = .ticket w t ∧ op.sites = opSites s set
    (∀ codes : List Nat, Executes s w [d, b, b + 1] → b.val % 2 = 0 → isRoot s (.whorl w) 3 = true →
      leaseCodes x w ((((opSites s set).filterMap (partOf s)).eraseDups).map (cmpLease n)) = some codes →
      ∃ op : Op, mine op ∧ op.type = .write ∧ op.pre = [(aCmpVal + 2 * n.val, gReg x b)] ∧ op.reg = aCmpCtrl + 2 * n.val ∧
        op.data = [gReg x (b + 1)] ∧
        exec (.trig w d sa b n) s = .next (issueOp (Ticketed s w d t (PendingTicket s w .trig none none none codes)) op)) ∧
    (∀ codes : List Nat, tapCodes s x w j set = some codes →
      (Executes s w [d, b] → setKind set = 4 → bufBad s w x (gReg x b).toNat 32 8 false = none →
        ∃ (op : Op) (u : Nat → Word), mine op ∧ (∀ k : Nat, k < 4 → (bufUnits s x (gReg x b).toNat 4)[k]? = some (u k)) ∧ op.type = .write ∧
          op.pre = [(tsIdx aTsMatch j, setBits (u 0) 63 63 0), (tsIdx aTsCfg j, u 1), (tsIdx aTsVh j, u 2), (tsIdx aTsSeed j, u 3)] ∧
          op.reg = tsIdx aTsMatch j ∧ op.data = [u 0] ∧
          exec (.tap w d sa b j) s = .next (issueOp (Ticketed s w d t (PendingTicket s w .tap none none none codes)) op)) ∧
      (Executes s w [d, b] → setKind set = 4 → ∃ op : Op, mine op ∧ op.type = .read ∧ op.reg = tsIdx aTsCov j ∧ op.pre = [] ∧
        exec (.tapr w d sa b j) s = .next (issueOp (Ticketed s w d t (PendingTicket s w .tap none (some b.val) none codes)) op)) ∧
      (Executes s w [d] → ∃ op : Op, mine op ∧ op.type = .write ∧ op.reg = tsIdx aTsMatch j ∧ op.data = [0] ∧ op.pre = [] ∧
        exec (.tapc w d sa j) s = .next (issueOp (Ticketed s w d t (PendingTicket s w .tap none none none codes)) op)))

/-- With a lowest FREE ticket t and, in g[a], a partition within rights: HALT and SNIP ask for a cut with cause 3, RUN for a resume
and STEP for n steps (n of 1 to 65,536, in g[b]) of that partition, RUN and STEP only when no dump holds it; a planned HALT of
an unarmed partition at a step that is at least the lead of R102 ahead arms the comparator of its anchor region. Each writes t
to g[d], and t is PENDING under the next operation number, with the deadline dl from now (the planned halt's starts later). -/
def Obligations.RunControlInstructionsIssue : Prop :=
  ∀ (s : State) (w : Fin 8) (d a b : Fin 32) (region : Fin 4) (x : Whorl) (t p : Nat), x = getW s w → LowestFree x t → p < 64 →
    gReg x a = word p → mayPart s (.whorl w) 3 p = true →
    ∀ s1 s2 : State, s1 = Ticketed s w d t (PendingTicket s w .runctl (some (s.ht + x.dl)) none none []) →
      s2 = Ticketed s w d t (PendingTicket s w .runctl none none none []) →
    (Executes s w [d, a] →
      exec (.halt w d a) s = .next (haltReq s1 p 3 ⟨s.opCtr, false⟩) ∧
      exec (.snip w d a) s = .next (haltReq s1 p 3 ⟨s.opCtr, false⟩) ∧
      (dumpHolds s (.whorl w) p = false → exec (.run w d a) s = .next (runReq s1 p ⟨s.opCtr, false⟩))) ∧
    (∀ n : Nat, Executes s w [d, a, b] → gReg x b = word n →
      (1 ≤ n → n ≤ 65536 → dumpHolds s (.whorl w) p = false →
        exec (.step w d a b) s = .next (stepReq s1 p n ⟨s.opCtr, false⟩)) ∧
      (n < 2 ^ 48 → region.val ∈ regionsOfPart s p → (getR s region).powerOff = false → (getP s p).planned = none →
        (getRP s p region).stepNo + haltLead s ≤ n →
        exec (.haltPlanned w d a b region) s =
          .next (setP s2 p { getP s p with planned := some ⟨region, n, s.opCtr, s.ht, false⟩ })))

/-- With a lowest FREE ticket, ROOT rights and a buffer that passes the checks of R267: EMIT puts an EMIT record with the hub time
of issue and the units of the buffer into the funnel's local input or behind those that wait for it; COMMIT submits the units to
the Hank store for the area, when the length lies in its range and, for L0 and DINDEX, the dump mover is leased; SEND on a
channel held under lease to a hub with a route sends one MSG with MTAG, channel and units; RECV is put at the end of those that
wait on its channel. -/
def Obligations.EmitCommitSendAndReceiveIssue : Prop :=
  ∀ (s : State) (w : Fin 8) (d a b : Fin 32) (cls : Fin 8) (units : Fin 16) (area : Fin 16) (n : Fin 64) (x : Whorl) (t o : Nat),
    x = getW s w → LowestFree x t → isRoot s (.whorl w) 3 = true → Executes s w [d, a, b] →
    let tk (kind : TkKind) (chan : Option Nat) (lease : List Nat) : Ticket :=
      PendingTicket s w kind (some (s.ht + x.dl)) none chan lease
    (cls.val ≤ 3 → 1 ≤ units.val → units.val ≤ 14 → o = (gReg x a).toNat → bufBad s w x o (8 * units.val) 8 false = none →
      ∃ r : Rec, recSrc r = srcDistaff w ∧ recType r = 9 ∧ recCls r = cls.val ∧ recBody r = bits (gReg x b) 35 0 ∧
        r.pay = word s.ht :: bufUnits s x o units ∧
        exec (.emit w d a b cls units) s = .next (emitPut (Ticketed s w d t (tk .emit none [])) s.opCtr r)) ∧
    (∀ (len : Nat) (ar : Area) (codes : List Nat) (s1 : State), o = (gReg x a).toNat → len = (gReg x b).toNat →
      commitArea area len = some ar → bufBad s w x o len 8 false = none →
      (area.val < 3 → codes = []) → (3 ≤ area.val → leaseCodes x w [moverLease] = some codes) →
      s1 = submit (Ticketed s w d t (tk .commit none codes)) ar w (bufUnits s x o (len / 8)) (some s.opCtr) →
      exec (.commit w d a b area) s = .next (if area.val = 4 then dumpCommitted s1 w (bufUnits s x o (len / 8)) else s1)) ∧
    (∀ (ch dst h : Nat), ch < 8 → dst < 128 → gReg x a = word (dst * 2 ^ 8 + ch) → o = (gReg x b).toNat →
      bufBad s w x o (8 * (n.val + 1)) 8 false = none → heldBy x (chanLease ch) = some h → (routeTo s dst).isSome = true →
      ∀ (s1 : State) (c : Chan), s1 = Ticketed s w d t (tk .send none [64 * w.val + h]) → c = getC s1 ch →
        exec (.send w d a b n) s =
          .next (chSend (setC s1 ch { c with sends := c.sends ++ [⟨BitVec.ofNat 32 s.opCtr, s.opCtr⟩] }) ch 0 dst
            (word (s.opCtr % 2 ^ 32 * 2 ^ 32 + ch) :: bufUnits s x o (n.val + 1)))) ∧
    (∀ ch : Nat, ch < 8 → gReg x a = word ch → s.integ.channels.getLsbD ch = true → o = (gReg x b).toNat →
      bufBad s w x o (8 * (n.val + 2)) 8 true = none →
      exec (.recv w d a b n) s = .next (setC (Ticketed s w d t (tk .recv (some ch) [])) ch
        { getC s ch with recvs := (getC s ch).recvs ++ [⟨w, s.opCtr, o, n.val + 1⟩] }))

/-- When the Whorl executes it, LEASE of a resource that is fitted and within rights is granted under the lowest free handle when no
session holds any part of it, and renewed under its own handle when this session holds exactly it; it is LOCKED when another
lease clashes, RIGHTS without rights, NOAGENT when the request names nothing in service. The answer in g[d] holds the status
and, when OK, handle and expiry. RELEASE of a handle held writes OK and of one not held NOAGENT. -/
def Obligations.LeasesAreGrantedRenewedAndReleased : Prop :=
  ∀ (s : State) (w : Fin 8) (d a b : Fin 32) (x : Whorl) (v span : Word) (e : Option Nat), x = getW s w → v = gReg x a → span = gReg x b →
    e = (if span = 0 then none else some (s.ht + min span.toNat (2 ^ 40))) →
    (Executes s w [d, a, b] →
      (∀ h : Nat, leaseForm s v = true → leaseRights s (.whorl w) v = true → heldAny s v = false → heldExact x v = none → h < 64 →
        getLease x h = none → (∀ k : Nat, k < h → getLease x k ≠ none) →
        exec (.lease w d a b) s = .next (setW s w (advance (setG { x with leases := tput none x.leases h (some ⟨v, e⟩) } d
          (word (h * 2 ^ 48 + e.getD 0 % 2 ^ 48)))))) ∧
      (∀ h : Nat, leaseForm s v = true → leaseRights s (.whorl w) v = true → heldExact x v = some h →
        exec (.lease w d a b) s = .next (setW s w (advance (setG { x with leases := tput none x.leases h (some ⟨v, e⟩) } d
          (word (h * 2 ^ 48 + e.getD 0 % 2 ^ 48)))))) ∧
      (leaseForm s v = true → leaseRights s (.whorl w) v = true → heldExact x v = none → heldAny s v = true →
        exec (.lease w d a b) s = .next (setW s w (advance (setG x d (word (6 * 2 ^ 56)))))) ∧
      (leaseForm s v = true → leaseRights s (.whorl w) v = false →
        exec (.lease w d a b) s = .next (setW s w (advance (setG x d (word (7 * 2 ^ 56)))))) ∧
      (leaseForm s v = false → exec (.lease w d a b) s = .next (setW s w (advance (setG x d (word (2 * 2 ^ 56))))))) ∧
    (Executes s w [d, a] → ∀ h : Nat, h = (gReg x a).toNat % 64 →
      (getLease x h = none → exec (.release w d a) s = .next (setW s w (advance (setG x d (word 2))))) ∧
      (∀ l : Lease, getLease x h = some l → leaseRes l.req = 2 ∨ leaseRes l.req = 3 ∨ leaseRes l.req = 7 →
        (∀ v k : Nat, v < 8 → k < 64 → dependsOn (64 * w.val + h) l.req (getTk (getW s v) k) = false) →
        exec (.release w d a) s = .next (setW s w (advance (setG { x with leases := tput none x.leases h none } d (word 0))))))

/-- TICKET_COMPLETE on a PENDING ticket whose outcome has arrived writes the outcome's buffers, its result (with OK or PARTIAL, when
a register is named) and marks the ticket DONE with its status and count; a RECV at the head of its channel takes the oldest
message. TICKET_TIMEOUT, once hub time has reached the deadline, marks it DONE with TIMEOUT and count 0xFFFF_FFFF and writes no
register. Neither changes anything when the ticket is not PENDING. -/
def Obligations.TicketsCompleteOnce : Prop :=
  ∀ (s : State) (w : Fin 8) (t : Fin 64) (x : Whorl) (k : Ticket), x = getW s w → k = getTk x t →
    (k.st ≠ .pending → exec (.ticketComplete w t) s = .next s ∧ exec (.ticketTimeout w t) s = .next s) ∧
    (∀ a : Arrival, k.st = .pending → k.kind ≠ .recv → arrived s k.opId = some a →
      ∃ y : Whorl, exec (.ticketComplete w t) s = .next (forget (setW (putMem s a.mem) w y) k.opId) ∧
        y.tk = tput Ticket.fresh x.tk t { k with st := .done, status := a.status, count := a.count } ∧ y.pc = x.pc ∧ y.st = x.st ∧
        ∀ r : Nat, tabWf 0 x.g = true → gReg y r =
          if r ≠ 0 ∧ k.result = some r ∧ (a.status = .ok ∨ a.status = .partial_) then a.result.getD (gReg x r) else gReg x r) ∧
    (∀ (ch : Nat) (c : Chan) (q : RecvReq) (qs : List RecvReq) (m : ChMsg) (ms : List ChMsg), k.st = .pending → k.kind = .recv →
      k.chan = some ch → c = getC s ch → c.recvs = q :: qs → c.rxq = m :: ms → q.opId = k.opId →
      ∃ (head : Word) (s1 : State), bits head 54 48 = m.src.toNat ∧ bits head 15 0 = (m.units.length - 1) % 2 ^ 16 ∧
        s1 = putBuf (setC s ch { c with recvs := qs, rxq := ms }) w q.buf (head :: m.units.take q.units) ∧
        exec (.ticketComplete w t) s = .next (setW s1 w
          { getW s1 w with tk := tput Ticket.fresh x.tk t { k with st := .done, status := .ok, count := BitVec.ofNat 32 m.units.length } })) ∧
    (∀ d : Nat, k.st = .pending → k.dl = some d → d ≤ s.ht →
      ∃ s1 : State, exec (.ticketTimeout w t) s = .next (setW s1 w
          { x with tk := tput Ticket.fresh x.tk t { k with st := .done, status := .timeout, count := 0xFFFFFFFF } }) ∧
        s1.whorls = s.whorls ∧ s1.hubMem = s.hubMem ∧ s1.areg = s.areg ∧ s1.sites = s.sites) ∧
    (∀ d : Nat, k.dl = some d → s.ht < d → exec (.ticketTimeout w t) s = .next s)

/-- TIMER_EXPIRE sets the expired flag of a timer whose armed value hub time has reached, and does nothing before. LEASE_LAPSE of a
lease whose expiry hub time has reached ends it, raises line 10 and writes HEVT LEASE_LAPSE with cause 0, the handle and the
Whorl; it does nothing before the expiry or without an expiry. (The full next state is given for the leases that reset nothing
and on which no ticket waits.) -/
def Obligations.TimersExpireAndLeasesLapse : Prop :=
  (∀ (s : State) (w : Fin 8) (t : Fin 4) (y : Timer) (v : Word), y = getTimer (getW s w) t → y.armed = some v →
    exec (.timerExpire w t) s =
      .next (if v.toNat ≤ s.ht then setW s w (setTimer (getW s w) t ⟨some v, true⟩) else s)) ∧
  (∀ (s : State) (w : Fin 8) (t : Fin 4), (getTimer (getW s w) t).armed = none → exec (.timerExpire w t) s = .next s) ∧
  (∀ (s : State) (w : Fin 8) (h : Fin 64) (l : Lease), getLease (getW s w) h = some l →
    (∀ e : Nat, l.expiry = some e → e ≤ s.ht →
      exec (.leaseLapse w h) s = .next (hevt (raiseLine (leaseEnd s w h) 10) 0x401 (h.val * 2 ^ 3 + w.val) [l.req]) ∧
      (leaseRes l.req = 2 ∨ leaseRes l.req = 3 ∨ leaseRes l.req = 7 → getW s w ≠ Whorl.fresh →
        (∀ v k : Nat, v < 8 → k < 64 → dependsOn (64 * w.val + h) l.req (getTk (getW s v) k) = false) →
        leaseEnd s w h = setW s w { getW s w with leases := tput none (getW s w).leases h none })) ∧
    ((∀ e : Nat, l.expiry = some e → s.ht < e) → exec (.leaseLapse w h) s = .next s)) ∧
  (∀ (s : State) (w : Fin 8) (h : Fin 64), getLease (getW s w) h = none → exec (.leaseLapse w h) s = .next s)

/-- By a requester with rights: STOP of a RUNNING Whorl leaves it STOPPED with line 6 raised and START of a LOADED or STOPPED one
leaves it RUNNING at its pc; in any other state they change nothing, nor does a requester without rights. A fault of a RUNNING
Whorl leaves it in FAULT with FCODE and WHL_FADDR, raises line 6 and writes HEVT WHORL_FAULT; registers, tickets, leases and
local store keep. -/
def Obligations.WhorlStopStartAndFault : Prop :=
  ∀ (s : State) (who : Who) (w : Fin 8) (code : FCode) (addr : Word) (x : Whorl), x = getW s w →
    (mayReg s who (rWhlCtrl + 0x100 * w.val) true 4 = true →
      (x.st = .running → exec (.whorlStop who w) s = .next (raiseLine (setW s w { x with st := .stopped }) 6)) ∧
      (x.st ≠ .running → exec (.whorlStop who w) s = .next s)) ∧
    (mayReg s who (rWhlCtrl + 0x100 * w.val) true 2 = true →
      (x.st = .loaded ∨ x.st = .stopped → exec (.whorlStart who w) s = .next (setW s w { x with st := .running })) ∧
      (x.st ≠ .loaded → x.st ≠ .stopped → exec (.whorlStart who w) s = .next s)) ∧
    (mayReg s who (rWhlCtrl + 0x100 * w.val) true 4 = false → exec (.whorlStop who w) s = .next s) ∧
    (mayReg s who (rWhlCtrl + 0x100 * w.val) true 2 = false → exec (.whorlStart who w) s = .next s) ∧
    (x.st = .running → ∃ t : State, exec (.whorlFault w code addr) s = .next t ∧
      getW t w = { x with st := .fault, fcode := fcodeNum code, faddr := addr } ∧ LineRaised t 6 ∧
      t.funnel = (hevt s 0x400 (fcodeNum code * 2 ^ 8 + w.val) [word (x.pc.toNat * 2 ^ 32 + bits addr 31 0)]).funnel ∧
      t.hubMem = s.hubMem ∧ t.regs = s.regs ∧ ∀ v : Nat, v ≠ w.val → getW t v = getW s v) ∧
    (x.st ≠ .running → exec (.whorlFault w code addr) s = .next s)

/-- WHL_CTRL.RESET by a requester with rights gives the Whorl the values of Table 9.1, with FCODE, WHL_FADDR and LOADST cleared and
its copy of EVPEND at 0, keeps NOTKT and the local store, and leaves it in RESET (an OUT Whorl stays OUT). WHORL_OUT of a Whorl
in service does the same and leaves it OUT, with the health change of kind 9 published; with the recovery engine stopped it is
published and the Whorl keeps. (For a Whorl that holds no lease and runs no dump, with HNG_CTRL.AUTO at 0.) -/
def Obligations.WhorlResetAndOutClearTheWhorl : Prop :=
  ∀ (s : State) (who : Who) (w : Fin 8) (x : Whorl), x = getW s w → canonical s = true → (∀ h : Nat, getLease x h = none) →
    s.hang.whorl ≠ some w.val → bit (reg s rHngCtrl) 0 = false →
    (mayReg s who (rWhlCtrl + 0x100 * w.val) true 8 = true → ∃ t : State, exec (.whorlReset who w) s = .next t ∧
      getW t w = { Whorl.fresh with st := if x.st = .out then .out else .reset, notkt := x.notkt, ls := x.ls } ∧
      tget 0 t.evPend w = 0 ∧ (∀ v : Nat, v ≠ w.val → getW t v = getW s v ∧ tget 0 t.evPend v = tget 0 s.evPend v) ∧
      t.hubMem = s.hubMem ∧ t.regs = s.regs ∧ t.parts = s.parts ∧ t.sites = s.sites) ∧
    (mayReg s who (rWhlCtrl + 0x100 * w.val) true 8 = false → exec (.whorlReset who w) s = .next s) ∧
    (x.st ≠ .out → s.boot.recStop = false → ∃ t : State, exec (.whorlOut w) s = .next t ∧
      getW t w = { Whorl.fresh with st := .out, notkt := x.notkt, ls := x.ls } ∧ LineRaised t 5 ∧
      (∀ v : Nat, v ≠ w.val → getW t v = getW s v)) ∧
    (x.st ≠ .out → s.boot.recStop = true → ∃ t : State, exec (.whorlOut w) s = .next t ∧ getW t w = x ∧ LineRaised t 5) ∧
    (x.st = .out → exec (.whorlOut w) s = .next s)

/-- WHL_CTRL.LOAD by a requester with rights refuses a RUNNING Whorl BUSY (LOADST 7), leaves an OUT one alone, and otherwise leaves
the Whorl LOADING with WHL_LOAD as it stands (first reset). LOAD_END of a LOADING Whorl refuses a loader without entitlement
with LOADST 1 and an image with the code and index of its first failed check, in RESET with line 6 raised; an image that passes
and whose leases are all granted is LOADED, or RUNNING with AUTO, at its entry, with its code area, sets and rights, its local
store holding code, data and zeros, and line 6 raised; a ROM program of number 0 to 3 skips the image checks and starts with a
zero-filled local store. -/
def Obligations.WhorlLoadChecksTheImage : Prop :=
  ∀ (s : State) (who : Who) (w : Fin 8) (x : Whorl), x = getW s w → bit (reg s rHngCtrl) 0 = false →
    (mayReg s who (rWhlCtrl + 0x100 * w.val) true 1 = true →
      (x.st = .running → exec (.whorlLoad who w) s = .next (setW s w { x with loadst := 7 })) ∧
      (x.st = .out → exec (.whorlLoad who w) s = .next s) ∧
      (x.st ≠ .running → x.st ≠ .out → ∃ t : State, exec (.whorlLoad who w) s = .next t ∧
        (getW t w).st = .loading ∧ (getW t w).loading = some ⟨who, reg s (rWhlLoad + 0x100 * w.val)⟩)) ∧
    (∀ q : LoadReq, x.st = .loading → x.loading = some q →
      let refused (code index : Nat) : State :=
        raiseLine (setW s w { Whorl.fresh with notkt := x.notkt, ls := x.ls, loadst := code, faddr := word index }) 6
      (entitled s q.who w = false → exec (.loadEnd w) s = .next (refused 1 0)) ∧
      (entitled s q.who w = true → bit q.word 63 = false → ∀ i : Image, i = imageAt s (8 * bits q.word 22 3) →
        (∀ code k : Nat, imageRefusal s q.who i = some (code, k) → exec (.loadEnd w) s = .next (refused code k)) ∧
        (imageRefusal s q.who i = none → memWf x.ls = true →
          (grantAll w 0 (imgLeaseList s i)
            (loadProgram s w q none (4 * imgCode i) (0x1000000 + 4 * imgEntry i) (imgSetList s i))).1 = none → ∃ t : State, exec (.loadEnd w) s = .next t ∧
          (getW t w).st = (if bit q.word 62 then .running else .loaded) ∧ (getW t w).loadst = 0 ∧
          (getW t w).pc = BitVec.ofNat 32 (0x1000000 + 4 * imgEntry i) ∧ (getW t w).codeBytes = 4 * imgCode i ∧
          (getW t w).rights = ownerClass s w ∧ LineRaised t 6 ∧
          (∀ k : Nat, k < imgCodeUnits i + imgData i → readLe (getW t w).ls (8 * k) 8 =
            readLe s.hubMem (i.off + 24 + 8 * (2 * imgSets i + 2 * imgLeases i + k)) 8) ∧
          (∀ k : Nat, k < imgZero i → readLe (getW t w).ls (8 * (imgCodeUnits i + imgData i + k)) 8 = 0))) ∧
      (entitled s q.who w = true → bit q.word 63 = true →
        (3 < bits q.word 55 48 → exec (.loadEnd w) s = .next (refused 2 0)) ∧
        (bits q.word 55 48 ≤ 3 → ∃ t : State, exec (.loadEnd w) s = .next t ∧
          (getW t w).st = (if bit q.word 62 then .running else .loaded) ∧ (getW t w).rom = some (bits q.word 55 48) ∧
          (getW t w).rights = .root ∧ (getW t w).ls = [] ∧ (getW t w).loadst = 0 ∧ LineRaised t 6)))

/-- By a requester with rights, a write through WHL_LS_DATA stores the unit at the requester's own WHL_LS_ADDR in the local store of
a Whorl that is RESET, LOADED, STOPPED or in FAULT, and stores nothing otherwise; a read changes no store. Either way that
requester's address advances by 8, wrapping at 65,536 (that it also advances while the Whorl runs is the model's choice, log
entry 5), and nothing else changes. -/
def Obligations.LocalStoreWindowAdvances : Prop :=
  ∀ (s : State) (who : Who) (w : Fin 8) (wr : Bool) (v : Word) (x : Whorl) (k a : Nat), x = getW s w →
    k = keyWho who (rWhlLsAddr + 0x100 * w.val) → a = bits (regGet s k (rWhlLsAddr + 0x100 * w.val)) 15 3 * 8 →
    (mayReg s who (rWhlLsData + 0x100 * w.val) wr v = true → ∃ t : State, exec (.whlLsDataAccess who w wr v) s = .next t ∧
      (tabWf 0 s.regs = true → regGet t k (rWhlLsAddr + 0x100 * w.val) = word ((a + 8) % 65536)) ∧
      (∀ j o : Nat, j ≠ k → regGet t j o = regGet s j o) ∧
      { t with regs := s.regs } =
        (if wr ∧ (x.st = .reset ∨ x.st = .loaded ∨ x.st = .stopped ∨ x.st = .fault) then setW s w { x with ls := writeLe x.ls a 8 v.toNat }
         else s)) ∧
    (mayReg s who (rWhlLsData + 0x100 * w.val) wr v = false → exec (.whlLsDataAccess who w wr v) s = .next s)

/-- REGISTER_WRITE by a requester without rights, or at an offset that is no aligned register offset, changes nothing. With rights
(releasing the cores also asks ROOT) it acts as the register's page says. For a register of the Card-engine or counter page
every RW field takes the value, every W1C bit written as 1 clears and every other bit keeps, in the copy the requester's access
finds, and no other register and nothing else changes (but for the times from which the boundaries of CNT_AO_CTRL and
CNT_SMP_CTRL count); a reserved offset keeps everything. PRT_CUT_TMO stores at least 2,000 and a recovery deadline 400 to 2^40. -/
def Obligations.RegisterWritesFollowTheLayout : Prop :=
  (∀ (s : State) (who : Who) (off : Nat) (v : Word),
    (off % 8 ≠ 0 ∨ inPages off = false → exec (.registerWrite who off v) s = .next s) ∧
    (mayReg s who off true v = false → exec (.registerWrite who off v) s = .next s) ∧
    (off % 8 = 0 → inPages off = true → mayReg s who off true v = true → (off = rIdBoot → bit v 1 = true → isRoot s who 3 = true) →
      exec (.registerWrite who off v) s = .next (regWrite s who off v)) ∧
    (off / 0x1000 = 8 ∨ off / 0x1000 = 9 → off % 8 = 0 → mayReg s who off true v = true → ∀ k : Nat, k = regKey s who off →
      (layAt off = none → exec (.registerWrite who off v) s = .next s) ∧
      (∀ l : RegLay, layAt off = some l → tabWf 0 s.regs = true → ∃ t : State, exec (.registerWrite who off v) s = .next t ∧
        (∀ j o : Nat, j ≠ k → regGet t j o = regGet s j o) ∧
        { t with regs := s.regs, ring := { t.ring with aoFrom := s.ring.aoFrom, smpFrom := s.ring.smpFrom } } = s ∧
        (off ≠ rCntAoCtrl → off ≠ rCntSmpCtrl → t.ring = s.ring) ∧
        ∀ i : Nat, i < 64 → (regGet t k off).getLsbD i =
          if (word l.w1c).getLsbD i ∧ (clampReg off v).getLsbD i then false
          else if (word l.rw).getLsbD i then (clampReg off v).getLsbD i else (regGet s k off).getLsbD i))) ∧
  (∀ v : Word, bits (clampReg rPrtCutTmo v) 31 0 = max 2000 (bits v 31 0) ∧
    bits (clampReg rAgaDl v) 47 0 = max 400 (min (bits v 47 0) (2 ^ 40)) ∧
    ∀ o : Nat, o < 0x2000 → clampReg o v = v)

/-- PRT_CMD HALT and SNIP of a partition the requester has rights to: on a RUNNING or STEPPING one with a region that has supply
they leave it HALTING with PRT_STATE.CUT at 0 and a cut in progress whose time runs from now, and send a HALT, with cause 4 for
HALT and 3 for SNIP, to the root of every such region not yet halted. On a HALTING one they join the cut in progress; a HALTED
one with CUT at 1 that is not resuming and has a region with supply, or an EMPTY one, keeps its partition, roots and shares. One
that is neither EMPTY nor HALTING and whose regions are all without supply reads HALTED with CUT at 0 (for one HALTED with CUT
at 1 that is the choice of log entry 66). Without rights nothing changes. -/
def Obligations.HaltAndSnipCommandsStartACut : Prop :=
  ∀ (s : State) (who : Who) (p : Fin 64) (c : Instr) (cause : Nat) (x : Part),
    c = .prtCmdHalt who p ∧ cause = 4 ∨ c = .prtCmdSnip who p ∧ cause = 3 → x = getP s p → canonical s = true →
    (mayPart s who 2 p = false → exec c s = .next s) ∧
    (mayPart s who 2 p = true →
      (x.st = .running ∨ x.st = .stepping → liveRegions s p ≠ [] → ∃ (t : State) (q : Cut), exec c s = .next t ∧
        (getP t p).st = .halting ∧ (getP t p).cut = false ∧ (getP t p).cutNow = some q ∧ q.tmoFrom = some s.ht ∧ q.parent = none ∧
        (∀ o : Nat, o ≠ p.val → getP t o = getP s o) ∧ t.sites = s.sites ∧ t.hubMem = s.hubMem ∧ t.ht = s.ht ∧
        ∀ r : Nat, r ∈ liveRegions s p → (getRP t p r).halted = true ∧
          ((getRP s p r).halted = false →
            ∃ m : RootReq, m ∈ reqsOf (getR t r) ∧ m.kind = 3 ∧ m.part = p.val ∧ m.opc = .halt ∧ m.cause = cause)) ∧
      (∀ q : Cut, x.st = .halting → x.cutNow = some q → ∃ w : Waiter, exec c s =
        .next (setP { s with opCtr := s.opCtr + 1 } p { x with cutNow := some { q with waiters := q.waiters ++ [w] } })) ∧
      (x.st = .empty ∨ x.st = .halted ∧ x.cut = true ∧ x.resuming = false ∧ liveRegions s p ≠ [] → ∃ t : State, exec c s = .next t ∧
        t.parts = s.parts ∧ t.rparts = s.rparts ∧ t.regions = s.regions ∧ t.sites = s.sites ∧ t.whorls = s.whorls) ∧
      (x.st ≠ .empty → x.st ≠ .halting → liveRegions s p = [] → ∃ t : State, exec c s = .next t ∧ (getP t p).st = .halted ∧
        (getP t p).cut = false ∧ t.regions = s.regions ∧ t.sites = s.sites))

/-- By a requester with rights, on a HALTED partition with no resume, rendezvous or multi-hub tree of its own: RUN clears
PRT_STATE.CUT and sends CLRMARK and then RUN to the root of every region with supply, and the partition is resuming; STEP clears
CUT, sets STEPPING and sends CLRMARK and then STEP with ARG N − 1 there. RUN on a RUNNING partition keeps partitions, shares and
roots. While the dump program holds the partition, RUN and STEP of another requester only add 1 to DMP_STAT.BLOCKED. Without
rights nothing changes. -/
def Obligations.RunAndStepCommandsReleaseAPartition : Prop :=
  ∀ (s : State) (who : Who) (p : Fin 64) (arg : BitVec 16) (x : Part), x = getP s p → canonical s = true →
    (mayPart s who 2 p = false → exec (.prtCmdRun who p) s = .next s ∧ exec (.prtCmdStep who p arg) s = .next s) ∧
    (mayPart s who 2 p = true → dumpHolds s who p = true →
      exec (.prtCmdRun who p) s = .next (countF s rDmpStat 15 0 1) ∧ exec (.prtCmdStep who p arg) s = .next (countF s rDmpStat 15 0 1)) ∧
    (mayPart s who 2 p = true → dumpHolds s who p = false →
      (x.st = .running → ∃ t : State, exec (.prtCmdRun who p) s = .next t ∧ t.parts = s.parts ∧ t.rparts = s.rparts ∧
        t.regions = s.regions) ∧
      (x.st = .halted → x.resuming = false → x.rdv = [] → rdvTree x = none →
        (∃ t : State, exec (.prtCmdRun who p) s = .next t ∧ (getP t p).st = .halted ∧ (getP t p).cut = false ∧
          (getP t p).resuming = true ∧ t.sites = s.sites ∧ t.hubMem = s.hubMem ∧ ∀ r : Nat, r ∈ liveRegions s p →
            (getRP t p r).owesRun = true ∧ (getRP t p r).halted = false ∧
            reqsOf (getR t r) = reqsOf (getR s r) ++ [⟨3, p.val, .clrmark, 0, (getR s r).edge, 1⟩, ⟨3, p.val, .run, 0, (getR s r).edge, 1⟩]) ∧
        (x.cutNow = none → liveRegions s p ≠ [] → ∃ t : State, exec (.prtCmdStep who p arg) s = .next t ∧
          (getP t p).st = .stepping ∧ (getP t p).cut = false ∧ t.sites = s.sites ∧ t.hubMem = s.hubMem ∧
          ∀ r : Nat, r ∈ liveRegions s p → (getRP t p r).halted = false ∧
            reqsOf (getR t r) = reqsOf (getR s r) ++
              [⟨3, p.val, .clrmark, 0, (getR s r).edge, 1⟩, ⟨3, p.val, .step, arg.toNat, (getR s r).edge, 1⟩])))

/-- PRT_MAP_WRITE without ROOT changes nothing; with ROOT it handles the eight bytes in turn. A byte of a cluster outside the grid,
or with the value it has, changes nothing; a change not allowed only adds 1 to PRT_MAP_ERR; an allowed one joins the changes on
their way to its region's root, and a partition it creates starts HALTED with CUT at 0. A change that has crossed to its root at
edge e is due at e + L. PRT_MAP_APPLY does nothing before that edge; from it the cluster's byte reads the new value, the change
is done, and a HALTED partition that gains the cluster has CUT at 0. -/
def Obligations.PartitionMapChangesAreChecked : Prop :=
  (∀ (s : State) (who : Who) (k : Fin 32) (v : Word),
    (isRoot s who 3 = false → exec (.prtMapWrite who k v) s = .next s) ∧
    (isRoot s who 3 = true → exec (.prtMapWrite who k v) s = .next (forAll (List.range 8) (fun s j =>
      mapByteWrite s (8 * k.val + j) (bits v (8 * j + 7) (8 * j) / 128 * 128 + bits v (8 * j + 7) (8 * j) % 64)) s))) ∧
  (∀ (s : State) (c new : Nat),
    (clusterIn s c = false ∨ mapByte s c = new → mapByteWrite s c new = s) ∧
    (clusterIn s c = true → mapByte s c ≠ new → mapAllowed s c new = false → mapByteWrite s c new = countF s rPrtMapErr 63 0 1) ∧
    (clusterIn s c = true → mapByte s c ≠ new → mapAllowed s c new = true → tabWf Region.fresh s.regions = true →
      tabWf Part.fresh s.parts = true →
      chgsOf (getR (mapByteWrite s c new) (clusterRegion c)) = chgsOf (getR s (clusterRegion c)) ++ [⟨c, mapByte s c, new, 0⟩] ∧
      ∀ p : Nat, bytePart new = some p → (getP s p).st = .empty →
        (getP (mapByteWrite s c new) p).st = .halted ∧ (getP (mapByteWrite s c new) p).cut = false)) ∧
  (∀ (s : State) (r : Nat) (g : MapChg) (y : TakeFlag RootItem), canonical s = true → tfEdge (getR s r).port = (some (.chg g), y) →
    (getR (portEdge s r) r).chg = (getR s r).chg ++ [{ g with due := (getR s r).edge + latOf s r }]) ∧
  (∀ (s : State) (r : Fin 4) (g : MapChg) (rest : List MapChg), (getR s r).chg = g :: rest → canonical s = true →
    ((getR s r).edge < g.due → exec (.prtMapApply r) s = .next s) ∧
    (g.due ≤ (getR s r).edge → g.byte < 256 → g.cluster < 256 → ∃ t : State, exec (.prtMapApply r) s = .next t ∧
      mapByte t g.cluster = g.byte ∧ (getR t r).chg = rest ∧ t.sites = s.sites ∧ t.whorls = s.whorls ∧
      ∀ p : Nat, bytePart g.byte = some p → (getP t p).st = .halted → (getP t p).cut = false)) ∧
  (∀ (s : State) (r : Fin 4), (getR s r).chg = [] → exec (.prtMapApply r) s = .next s)

/-- STOP_TREE_ROOT_SEND of a root with supply, a queue and no message sent at this edge moves the entry chosen from the queue to the
tree, encoded in 26 bits from which the leaves read partition, operation and argument, with due edge e + L, and keeps the
largest queueing delay. Without a RUN in the queue the entry chosen has the lowest kind, and of those the lowest partition; no
planned or triggered halt overtakes a RUN of its partition. At its due edge HALT sets the latches and abandons a step count,
with LATE where it cut one short (the first HALT of a halt records step, time and cause); RUN clears the latches; STEP clears
them for ARG + 1 steps; MARK sets the region's mark and pulses SM_MARK at its producer ends; CLRMARK clears the mark and
SM_MARKED at its consumer ends. A leaf event whose message has not come does nothing; LEAF_STEP_DONE reports a step whose count
is used up and does nothing otherwise. -/
def Obligations.TheStopTreeCarriesMessagesToTheLeaves : Prop :=
  (∀ (s : State) (r : Fin 4) (x : Region) (q : RootReq), x = getR s r → rootPick ((reqsOf x).drop x.queue.length) x.queue = some q →
    x.powerOff = false → (x.tree.any fun m => m.due == x.edge + latOf s r) = false → exec (.stopTreeRootSend r) s = .next (setR s r
      { x with queue := x.queue.erase q, qdly := max x.qdly (min 0xFFFF (x.edge - q.edge)),
               tree := x.tree ++ [⟨stEncode q.part q.opc q.arg, x.edge + latOf s r, q.cause⟩] })) ∧
  (∀ (s : State) (r : Fin 4), (getR s r).queue = [] ∨ (getR s r).powerOff = true ∨
    ((getR s r).tree.any fun m => m.due == (getR s r).edge + latOf s r) = true → exec (.stopTreeRootSend r) s = .next s) ∧
  (∀ (part arg due cause : Nat) (opc : StOpc) (m : StMsg), part < 64 → arg < 65536 → m = ⟨stEncode part opc arg, due, cause⟩ →
    stPart m = part ∧ stOpc m = some opc ∧ stArg m = arg ∧ m.msg.getLsbD 25 = true ∧ (m.msg.toNat / 2 ^ 16) % 8 = opcCode opc) ∧
  (∀ (l ahead : List RootReq) (q : RootReq), rootPick ahead l = some q → q ∈ l ∧
    (q.kind ≤ 2 → ∀ z : RootReq, z ∈ ahead → z.part = q.part → z.opc ≠ .run) ∧
    ((∀ z : RootReq, z ∈ ahead ++ l → z.opc ≠ .run) → ∀ z : RootReq, z ∈ l → q.kind < z.kind ∨ q.kind = z.kind ∧ q.part ≤ z.part)) ∧
  (∀ (s : State) (r : Fin 4) (m : StMsg) (rest : List StMsg) (s1 : State) (p : Nat) (y : RPart), (getR s r).tree = m :: rest →
    m.due ≤ (getR s r).edge → (getR s r).powerOff = false → canonical s = true → s1 = setR s r { getR s r with tree := rest } →
    p = stPart m → y = getRP s p r →
    (stOpc m = some .halt → m.cause ≠ 0 → ∃ t : State, exec (.leafHalt r) s = .next t ∧ (getRP t p r).latch = true ∧
      (getRP t p r).stepLeft = 0 ∧ (getP t p).late = ((getP s p).late || (y.stepOn && !y.latch)) ∧
      (y.latch = false → (getRP t p r).haltStep = y.stepNo ∧ (getRP t p r).haltTime = s.ht ∧ (getRP t p r).stepOn = false ∧
        ((getP s p).cutNow.any Cut.acted = false → (getP t p).cause = m.cause)) ∧
      (y.latch = true → y.holdLatch = false → (getRP t p r).haltStep = y.haltStep ∧ (getRP t p r).haltTime = y.haltTime ∧
        (getP t p).cause = (getP s p).cause) ∧
      ∀ o q : Nat, q < 4 → (o, q) ≠ (p, r.val) → getRP t o q = getRP s o q) ∧
    (stOpc m = some .run → m.cause ≠ 0 → exec (.leafRun r) s = .next (setRP (clearLate s1 p r) p r
      { y with latch := false, stepLeft := 0, stepOn := false, holdLatch := false, phalt := false, frozen := false, andAt := none,
               owesRun := false, runAt := some s.ht })) ∧
    (stOpc m = some .step → exec (.leafStep r) s = .next (setRP (clearLate s1 p r) p r
      { y with latch := false, stepLeft := stArg m + 1, stepOn := true, holdLatch := false, phalt := false, frozen := false,
               andAt := none, owesRun := false })) ∧
    (stOpc m = some .mark → ∃ t : State, exec (.leafMark r) s = .next t ∧
      { t with smSent := s.smSent } = setRP s1 p r { y with marked := true } ∧
      ∀ k : Nat, k ∈ t.smSent ↔ k ∈ s.smSent ∨ k ∈ seamEnds s 0 p r) ∧
    (stOpc m = some .clrmark → (getP s p).tree = none → ∃ t : State, exec (.leafClrmark r) s = .next t ∧
      (getRP t p r).marked = false ∧ t.parts = s.parts ∧ t.sites = s.sites ∧
      ∀ k : Nat, k ∈ t.smMarked ↔ k ∈ s.smMarked ∧ k ∉ seamEnds s 1 p r)) ∧
  (∀ (s : State) (r : Fin 4), ((getR s r).tree = [] ∨ ∃ (m : StMsg) (rest : List StMsg), (getR s r).tree = m :: rest ∧
      (getR s r).edge < m.due) → exec (.leafHalt r) s = .next s ∧ exec (.leafRun r) s = .next s ∧ exec (.leafStep r) s = .next s ∧
      exec (.leafMark r) s = .next s ∧ exec (.leafClrmark r) s = .next s) ∧
  (∀ (s : State) (r : Fin 4) (p : Fin 64) (y : RPart), y = getRP s p r → canonical s = true →
    (y.stepOn = true → y.latch = true → y.stepLeft = 0 → (getP s p).cutNow = none → exec (.leafStepDone r p) s =
      .next (setRP s p r { y with stepOn := false, stepDone := true })) ∧
    (∀ q : Cut, y.stepOn = true → y.latch = true → y.stepLeft = 0 → (getP s p).cutNow = some q → q.stepCut = true → q.tmoFrom = none →
      ∃ t : State, exec (.leafStepDone r p) s = .next t ∧ (getRP t p r).stepOn = false ∧ (getRP t p r).stepDone = true ∧
      (getRP t p r).haltStep = y.haltStep ∧ (getRP t p r).haltTime = y.haltTime ∧
      ((∀ o : Nat, o ∈ cutRegions s p → o ≠ r.val → (getRP s p o).stepDone = true) →
        ∃ c : Cut, (getP t p).cutNow = some c ∧ c.tmoFrom = some s.ht) ∧
      ((∃ o : Nat, o ∈ cutRegions s p ∧ o ≠ r.val ∧ (getRP s p o).stepDone = false) → (getP t p).cutNow = some q)) ∧
    (y.stepOn = false ∨ y.latch = false ∨ y.stepLeft ≠ 0 → exec (.leafStepDone r p) s = .next s))

/-- With a cut in progress and no seams: REGION_FROZEN of a region whose latches are set, whose AND of CA_FROZEN has come up the
return path and which owes no HALT, RUN or STEP records it frozen and queues MARK at its root with the FREEZE_LATE count;
REGION_READY records ready once the AND of SM_MARKED has come up. CUT_COMPLETE with every region that takes part ready and every
hub confirmed, and CUT_TIMEOUT once PRT_CUT_TMO has passed, leave the partition HALTED with CUT at 1 (0 when no region takes
part any more), no cut in progress and NFAIL; a completed cut sets PARTIAL exactly when NFAIL is not 0. Line 0 is raised with
the partition's bit. Before their condition they change nothing. -/
def Obligations.CutsFreezeMarkAndComplete : Prop :=
  ∀ (s : State) (p : Fin 64) (x : Part), x = getP s p → canonical s = true →
    (∀ r : Fin 4, ∀ y : RPart, y = getRP s p r →
      let come (since : Option Nat) : Prop := ∃ a : Nat, since = some a ∧ a + latOf s r ≤ (getR s r).edge
      let still : Bool := owes (getR s r) p [.halt, .run, .step]
      (y.latch = false ∨ y.stepOn = true ∨ (getR s r).powerOff = true ∨ ¬ come y.andAt ∨ still = true →
        exec (.regionFrozen r p) s = .next s) ∧
      (y.latch = true → y.stepOn = false → (getR s r).powerOff = false → come y.andAt → still = false →
        (x.cutNow = none → exec (.regionFrozen r p) s = .next (setRP s p r { y with frozen := true })) ∧
        (x.cutNow.isSome = true → y.markSent = false → y.away = false → y.halted = true → s.integ.seams = [] → ∀ n : Nat,
          n = ((sitesIn s p r).filter fun i => (getS s i).freezeLate).length →
          exec (.regionFrozen r p) s = .next (rootPush (setRP s p r { y with frozen := true, markSent := true, lateCnt := n }) r 3 p
            .mark 0 1))) ∧
      (x.cutNow.isSome = true → y.latch = true → y.frozen = true → y.markSent = true → y.ready = false → come y.markAt → still = false →
        exec (.regionReady r p) s = .next (setRP s p r { y with ready := true })) ∧
      (x.cutNow = none ∨ y.latch = false ∨ y.frozen = false ∨ y.markSent = false ∨ y.ready = true ∨ ¬ come y.markAt ∨ still = true →
        exec (.regionReady r p) s = .next s)) ∧
    (x.cutNow = none → exec (.cutComplete p) s = .next s ∧ exec (.cutTimeout p) s = .next s) ∧
    (∀ q : Cut, x.cutNow = some q → q.parent = none → x.after = [] →
      (cutRegions s p ≠ [] → q.awaits = false → (cutRegions s p).all (fun r => (getRP s p r).ready) = true →
        q.children.all Child.done = true → ∃ t : State,
        exec (.cutComplete p) s = .next t ∧ (getP t p).st = .halted ∧ (getP t p).cut = true ∧ (getP t p).cutNow = none ∧
        (getP t p).nfail = min 0xFFFF (nfailOf s p + (q.children.map Child.nfail).sum) ∧
        (getP t p).partialF = decide (nfailOf s p + (q.children.map Child.nfail).sum ≠ 0) ∧ LineRaised t 0 ∧
        (∀ k : Nat, k < 9 → (tget 0 t.evCut k).getLsbD p = true)) ∧
      (cutRegions s p = [] → ∃ t : State, exec (.cutComplete p) s = .next t ∧ (getP t p).st = .halted ∧ (getP t p).cut = false ∧
        (getP t p).cutNow = none ∧ (getP t p).nfail = min 0xFFFF (nfailOf s p)) ∧
      ((cutRegions s p).any (fun r => !(getRP s p r).ready) = true → exec (.cutComplete p) s = .next s) ∧
      (∀ t0 : Nat, q.tmoFrom = some t0 → t0 + regF s rPrtCutTmo 31 0 ≤ s.ht → cutRegions s p ≠ [] → ∃ t : State,
        exec (.cutTimeout p) s = .next t ∧
        (getP t p).st = .halted ∧ (getP t p).cut = true ∧ (getP t p).cutNow = none ∧ min 0xFFFF (nfailOf s p) ≤ (getP t p).nfail ∧
        LineRaised t 0) ∧
      (∀ t0 : Nat, q.tmoFrom = some t0 → s.ht < t0 + regF s rPrtCutTmo 31 0 → exec (.cutTimeout p) s = .next s) ∧
      (q.tmoFrom = none → exec (.cutTimeout p) s = .next s))

/-- PLANNED_HALT_DUE of an armed planned halt whose anchor runs and whose step the next HALT would reach disarms it, leaves the
partition HALTING and queues a HALT of kind 1 and cause 1 at the anchor root; past its step PRT_STATE.LATE is also set and
MEAS_LEAD follows the latency seen. Before that edge, or with the anchor halted or without supply, nothing changes. RUN_RESUMED
of a resuming HALTED partition in which no region owes a RUN leaves it RUNNING; otherwise it changes nothing. -/
def Obligations.PlannedHaltsAndResumes : Prop :=
  ∀ (s : State) (p : Fin 64) (x : Part), x = getP s p → canonical s = true →
    (x.planned = none → exec (.plannedHaltDue p) s = .next s) ∧
    (∀ (q : Planned) (y : RPart), x.planned = some q → y = getRP s p q.anchor →
      (y.latch = true ∨ (getR s q.anchor).powerOff = true ∨ y.stepNo + latOf s q.anchor < q.step → exec (.plannedHaltDue p) s = .next s) ∧
      (y.latch = false → (getR s q.anchor).powerOff = false → q.step ≤ y.stepNo + latOf s q.anchor → y.stepOn = false →
        q.anchor ∈ liveRegions s p → ∃ t : State, exec (.plannedHaltDue p) s = .next t ∧ (getP t p).planned = none ∧
        (getP t p).st = .halting ∧ (getP t p).late = (x.late || decide (q.step < y.stepNo + latOf s q.anchor)) ∧
        (∃ m : RootReq, m ∈ (getR t q.anchor).queue ∧ m.kind = 1 ∧ m.part = p.val ∧ m.opc = .halt ∧ m.cause = 1) ∧
        (q.step = y.stepNo + latOf s q.anchor → reg t rPrtLead = reg s rPrtLead) ∧
        (q.step < y.stepNo + latOf s q.anchor → regF t rPrtLead 31 16 = max (regF s rPrtLead 31 16) (min 0xFFFF (s.ht - q.reqAt))))) ∧
    (x.resuming = false ∨ (∃ r : Nat, r ∈ liveRegions s p ∧ (getRP s p r).owesRun = true) → exec (.runResumed p) s = .next s) ∧
    (x.resuming = true → (∀ r : Nat, r ∈ liveRegions s p → (getRP s p r).owesRun = false) → x.st = .halted → x.after = [] → x.tree = none →
      ∃ t : State, exec (.runResumed p) s = .next t ∧ (getP t p).st = .running ∧ (getP t p).resuming = false ∧ (getP t p).runOwed = [] ∧
        (∀ o : Nat, o ≠ p.val → getP t o = getP s o) ∧ t.rparts = s.rparts ∧ t.regions = s.regions ∧ t.sites = s.sites)

/-- LL_HOLD_REQUEST of a queue that reached its threshold joins the partition's requests. LL_HOLD_START of a RUNNING partition with
a request and no hold sends HALT to each region's root and writes HEVT HOLD_START. LL_HOLD_END with every requesting queue below
25 % ends the hold with RUN to each root and HEVT HOLD_END; after a hold that timed out it ends the dropping. LL_HOLD_TIMEOUT
after TRC_LL_CTRL.TMO ends the hold with RUN and sets the dropping. PRT_STATE, CUT and the shares of the partition keep
throughout; without their condition the events change nothing. -/
def Obligations.LosslessHoldsStopAndRelease : Prop :=
  ∀ (s : State) (p : Fin 64) (x : Part), x = getP s p → canonical s = true →
    (∀ point : DropPoint,
      (point ∈ x.llWant → exec (.llHoldRequest point p) s = .next (setP s p { x with
          llWant := x.llWant.filter fun q => q != point, holdReq := if x.holdReq.contains point then x.holdReq else x.holdReq ++ [point] })) ∧
      (point ∉ x.llWant → exec (.llHoldRequest point p) s = .next s)) ∧
    (x.holdReq ≠ [] → x.hold = none → x.st = .running → x.holdTmo = false →
      exec (.llHoldStart p) s = .next (hevt (ctlPush (countF (setP s p { x with hold := some ⟨s.ht⟩ }) rTrcLlCtrl 63 48 1) (liveRegions s p) p .halt 0 0) 0x005 p [])) ∧
    (x.holdReq = [] ∨ x.hold.isSome = true ∨ x.st ≠ .running ∨ x.holdTmo = true → exec (.llHoldStart p) s = .next s) ∧
    (∀ h : Hold, x.hold = some h →
      ((∀ q : DropPoint, q ∈ x.holdReq → below25 s q = true) → exec (.llHoldEnd p) s =
        .next (ctlPush (hevt (setP s p { x with hold := none, holdReq := [] }) 0x006 p []) (liveRegions s p) p .run 0 0)) ∧
      ((∃ q : DropPoint, q ∈ x.holdReq ∧ below25 s q = false) → exec (.llHoldEnd p) s = .next s) ∧
      (h.since + regF s rTrcLlCtrl 31 0 ≤ s.ht → exec (.llHoldTimeout p) s =
        .next (ctlPush (hevt (setP s p { x with hold := none, holdTmo := true }) 0x006 (256 + p.val) []) (liveRegions s p) p .run 0 0)) ∧
      (s.ht < h.since + regF s rTrcLlCtrl 31 0 → exec (.llHoldTimeout p) s = .next s)) ∧
    (x.hold = none → exec (.llHoldTimeout p) s = .next s ∧
      (x.holdTmo = true → (∀ q : DropPoint, q ∈ x.holdReq → below25 s q = true) →
        exec (.llHoldEnd p) s = .next (setP s p { x with holdTmo := false, holdReq := [] })))

/-- REGION_POWER_OFF of a region with supply leaves every site of the region at its reset values (a failed Bobbin stays failed),
every agent register there at 0, its root without messages and its partitions owing it no RUN, and writes HEVT REGION_OFF; a
site of another region keeps all but the tap levels that an engine may move. REGION_POWER_ON of a region without supply restores
supply, with sites at reset values, and a share of each partition there with step count 0, frozen unless the partition is
RUNNING. Either changes nothing when the supply already stands so. -/
def Obligations.RegionsLoseAndRegainPower : Prop :=
  ∀ (s : State) (r : Fin 4), canonical s = true →
    ((getR s r).powerOff = true → exec (.regionPowerOff r) s = .next s) ∧
    ((getR s r).powerOff = false → exec (.regionPowerOn r) s = .next s) ∧
    ((getR s r).powerOff = false → ∃ t : State, exec (.regionPowerOff r) s = .next t ∧ (getR t r).powerOff = true ∧
      (getR t r).queue = [] ∧ (getR t r).tree = [] ∧ (getR t r).edge = (getR s r).edge ∧
      (∀ i : Nat, i < 8192 → regionOf i = r.val → getS t i = { Site.fresh with failed := (getS s i).failed }) ∧
      (∀ i : Nat, i < 8192 → regionOf i ≠ r.val → { getS t i with tapEn := (getS s i).tapEn, tapSel := (getS s i).tapSel } = getS s i) ∧
      (∀ i n : Nat, n < 256 → i ∈ allSites s → regionOf i = r.val → ag t i n = 0) ∧
      (∀ p : Nat, p < 64 → (getRP t p r).owesRun = false ∧ (getRP t p r).stepNo = (getRP s p r).stepNo)) ∧
    ((getR s r).powerOff = true → ∃ t : State, exec (.regionPowerOn r) s = .next t ∧ (getR t r).powerOff = false ∧
      (∀ i : Nat, i < 8192 → regionOf i = r.val → getS t i = { Site.fresh with failed := (getS s i).failed }) ∧
      (∀ i n : Nat, n < 256 → i ∈ allSites s → regionOf i = r.val → ag t i n = 0) ∧
      ∀ p : Nat, p < 64 → r.val ∈ regionsOfPart s p → (getRP t p r).stepNo = 0 ∧
        (getRP t p r).latch = decide ((getP s p).st ≠ .running))

/-- HALT_REQ on a channel that is up, for one running partition with no cut at the far ends, leaves that partition HALTING in a cut
with the CUTID, the channel as its parent and the deadline, and puts a HALT with cause 5 into each root not yet halted; a CUTID
already known sends CONFIRM with JOINED on the channel and counts it, keeping every partition; on a channel that is down nothing
changes. CONFIRM marks the child done, with its NFAIL or as JOINED, in the cut of the one partition that waits for it.
CUT_CHILD_DEADLINE at the deadline marks every open child done with NFAIL 1 and adds their number to IHB_STAT.NOCONF. MARK
records the sender's partition for the channel once, and where no cut owes a confirmation it does no more. -/
def Obligations.CutsReachOtherHubs : Prop :=
  (∀ (s0 s : State) (ch : Fin 8) (lseq : BitVec 16), canonical s0 = true → s = seqIn s0 ch lseq →
    (∀ (cutid deadline : Word) (part : Fin 64),
      ((getC s ch).up = false → exec (.haltReq ch lseq cutid deadline part) s0 = .next s) ∧
      ((getC s ch).up = true → s.knownCuts.contains cutid = true → ∃ (t : State) (h : Word),
        exec (.haltReq ch lseq cutid deadline part) s0 = .next t ∧ bits h 63 60 = 7 ∧
        (getC t ch).out = (getC s ch).out ++ [⟨h, [cutid, word (2 ^ 63)]⟩] ∧
        regF t rIhbStat 47 32 = min (regF s rIhbStat 47 32 + 1) 0xFFFF ∧ t.parts = s.parts ∧ t.rparts = s.rparts) ∧
      (∀ p : Nat, p < 64 → (getC s ch).up = true → s.knownCuts.contains cutid = false → farParts s ch part = [p] →
        (getP s p).st = .running → (getP s p).cutNow = none → liveRegions s p ≠ [] → ∃ (t : State) (q : Cut),
        exec (.haltReq ch lseq cutid deadline part) s0 = .next t ∧ (getP t p).st = .halting ∧ (getP t p).cutNow = some q ∧
        q.cutId = cutid ∧ q.parent = some ch.val ∧ q.deadline = some deadline.toNat ∧ t.knownCuts.contains cutid = true ∧
        ∀ r : Nat, r ∈ liveRegions s p → (getRP s p r).halted = false →
          ∃ m : RootReq, m ∈ reqsOf (getR t r) ∧ m.part = p ∧ m.opc = .halt ∧ m.cause = 5)) ∧
    (∀ (cutid : Word) (joined : Bool) (nfail : BitVec 16) (p : Nat) (q : Cut), p < 64 → (getP s p).cutNow = some q → q.cutId = cutid →
      (getP s p).owed = none → (∀ o : Nat, o < 64 → o ≠ p → ((getP s o).cutNow.any fun c => asks c ch cutid) = false ∧
        ((getP s o).owed.any fun c => asks c ch cutid) = false) → ∃ (t : State) (q2 : Cut), exec (.confirm ch lseq cutid joined nfail) s0 = .next t ∧ (getP t p).cutNow = some q2 ∧
        q2.children = (q.children.map fun k => if k.ch = ch.val ∧ k.done = false then
          (⟨k.ch, true, if joined then 0 else nfail.toNat, joined⟩ : Child) else k) ∧ (getP t p).st = (getP s p).st ∧ t.rparts = s.rparts) ∧
    (∀ (cutid : Word) (part : Fin 64) (c : Chan), c = getC s ch →
      (c.up = true → part.val ∉ c.marks → (∃ t : State, exec (.mark ch lseq cutid part) s0 = .next t ∧
        (getC t ch).marks = c.marks ++ [part.val] ∧ t.rparts = s.rparts) ∧ ((∀ p : Nat, p < 64 → (getP s p).owed = none) →
          exec (.mark ch lseq cutid part) s0 = .next (setC s ch { c with marks := c.marks ++ [part.val] }))) ∧
      (c.up = false ∨ part.val ∈ c.marks → exec (.mark ch lseq cutid part) s0 = .next s))) ∧
  (∀ (s : State) (p : Fin 64) (q : Cut) (d : Nat), canonical s = true → (getP s p).owed = none → (getP s p).cutNow = some q →
      q.parent.isSome = true → q.deadline = some d →
      (s.ht < d → exec (.cutChildDeadline p) s = .next s) ∧
      (d ≤ s.ht → ∃ (t : State) (q2 : Cut), exec (.cutChildDeadline p) s = .next t ∧ (getP t p).cutNow = some q2 ∧
        q2.children.all Child.done = true ∧
        regF t rIhbStat 31 16 = min (regF s rIhbStat 31 16 + (q.children.filter fun k => !k.done).length) 0xFFFF))

/-- A rendezvous message for no tree of this hub only adds 1 to IHB_STAT.STALE. For the next epoch, from the tree's parent, RDV_OPEN
opens the epoch, clears PRT_STATE.CUT and puts CLRMARK into the roots. RDV_ARRIVE and RDV_LEFT of an open epoch are counted with
their members in that epoch; RDV_ARRIVE of the next epoch is kept in a slot of its own. RDV_RELEASE from the parent, to a hub
that has arrived, and RDV_TIMEOUT after PRT_CUT_TMO release the epoch: RUN, or STEP with its count, goes to every root with
supply, for every partition of the tree; a hub that has not arrived stays halted. -/
def Obligations.TheRendezvousReleasesAllHubsTogether : Prop :=
  (∀ (s0 s : State) (ch : Fin 8) (lseq epoch members : BitVec 16) (op : RdvOp) (cutid : Word), canonical s0 = true →
    s = seqIn s0 ch lseq →
    (treePart s cutid = none → ∀ c : Instr, c = .rdvOpen ch lseq epoch op cutid ∨
      c = .rdvArrive ch lseq epoch members cutid ∨ c = .rdvRelease ch lseq epoch op cutid ∨
      c = .rdvLeft ch lseq epoch members cutid → exec c s0 = .next (countF s rIhbStat 63 48 1)) ∧
    (∀ (p : Nat) (x : Part), treePart s cutid = some p → x = getP s p →
      (∀ tr : Tree, x.tree = some tr → tr.parent = some ch.val → epoch = x.rdvEpoch + 1 → x.rdv = [] → liveRegions s p ≠ [] →
        ∃ (t : State) (v : Rdv), exec (.rdvOpen ch lseq epoch op cutid) s0 = .next t ∧ (getP t p).rdv = [v] ∧ v.epoch = epoch ∧ v.op = op ∧
          v.parent = some ch.val ∧ v.released = false ∧ (getP t p).rdvEpoch = epoch ∧ (getP t p).cut = false ∧
          ∀ r : Nat, r ∈ liveRegions s p → ∃ m : RootReq, m ∈ reqsOf (getR t r) ∧ m.part = p ∧ m.opc = .clrmark) ∧
      (∀ tr : Tree, x.tree = some tr → tr.parent ≠ some ch.val ∨ epoch ≠ x.rdvEpoch + 1 →
        exec (.rdvOpen ch lseq epoch op cutid) s0 = .next (countF s rIhbStat 63 48 1)) ∧
      (∀ v : Rdv, x.rdv = [v] → v.epoch = epoch → v.released = false → (∃ c ∈ v.children, c ≠ ch.val ∧ ∀ a ∈ v.arrived, a.1 ≠ c) →
        exec (.rdvArrive ch lseq epoch members cutid) s0 =
          .next (setP s p { x with rdv := [{ v with arrived := v.arrived ++ [(ch.val, members.toNat)] }] })) ∧
      (x.rdv = [] → epoch = x.rdvEpoch + 1 → ∃ v : Rdv, v.epoch = epoch ∧ v.arrived = [(ch.val, members.toNat)] ∧
        exec (.rdvArrive ch lseq epoch members cutid) s0 = .next (setP s p { x with rdv := [v] })) ∧
      (x.rdv = [] → epoch ≠ x.rdvEpoch + 1 → exec (.rdvArrive ch lseq epoch members cutid) s0 = .next (countF s rIhbStat 63 48 1)) ∧
      (∀ v : Rdv, x.rdv = [v] → v.epoch = epoch → v.released = true → v.parent.isSome = true →
        (∃ c ∈ rdvLeavers v, c ≠ ch.val ∧ ∀ a ∈ v.left, a.1 ≠ c) →
        exec (.rdvLeft ch lseq epoch members cutid) s0 =
          .next (setP s p { x with rdv := [{ v with left := v.left ++ [(ch.val, members.toNat)] }] })) ∧
      (∀ v : Rdv, x.rdv = [v] → v.epoch = epoch → v.released = false → v.parent = some ch.val → v.cutId = cutid →
        (v.missing = 0 → exec (.rdvRelease ch lseq epoch op cutid) s0 = .next s) ∧
        (v.missing ≠ 0 → ∃ t : State, exec (.rdvRelease ch lseq epoch op cutid) s0 = .next t ∧
          ∀ q r : Nat, q ∈ treeParts s cutid → r ∈ liveRegions s q →
            (v.op = .run → ⟨3, q, .run, 0, (getR s r).edge, 1⟩ ∈ reqsOf (getR t r)) ∧
            ∀ n : BitVec 16, v.op = .step n → ⟨3, q, .step, n.toNat, (getR s r).edge, 1⟩ ∈ reqsOf (getR t r))))) ∧
  (∀ s : State, canonical s = true →
    (∀ (p : Fin 64) (v : Rdv), (getP s p).rdv = [v] → v.parent = none → v.released = false → p.val ∈ treeParts s v.cutId →
      (s.ht < v.started + regF s rPrtCutTmo 31 0 → exec (.rdvTimeout p) s = .next s) ∧
      (v.started + regF s rPrtCutTmo 31 0 ≤ s.ht → v.op = .run → ∃ (t : State) (u : Rdv), exec (.rdvTimeout p) s = .next t ∧
        (getP t p).rdv = [u] ∧ u.released = true ∧ 0 < u.missing ∧ (getP t p).resuming = true ∧ ∀ r : Nat, r ∈ liveRegions s p →
          ⟨3, p.val, .run, 0, (getR s r).edge, 1⟩ ∈ reqsOf (getR t r))) ∧
    (∀ p : Fin 64, (getP s p).rdv = [] → exec (.rdvTimeout p) s = .next s))

/-- DMP_REQ by a requester with rights to a partition that is not EMPTY declares cause 3 and DUMP_REQ declares cause 4 for the
partitions of that cut: with the partition not hung and room in the queue HNG_HUNG gains its bit, line 1 is raised and the
declaration joins the queue; a partition already hung only counts in HNG_STAT. WDG_REPORT of a wired core with a watchdog bit
sets the core's bit in its Flyer's mask; WDG_FETCH clears the mask, and a report of a RUNNING partition after its grace adds 1
to HNG_STAT.WDG with line 12. HNG_CTRL_WRITE with rights stores the register. Without rights nothing changes. In the tangle
graph of any input the nodes are numbered from 0 in order and every edge ends in nodes; each waiting engine has a WAIT edge to
its target; a node is marked CYCLE exactly when its component number is not 0, an edge exactly when both its ends have one such
number; two edges that lead there and back put both ends into a component. The plan is the fewest blocks of 495 units that hold
the sum. -/
def Obligations.HangsAreDeclaredOnce : Prop :=
  (∀ s : State, canonical s = true →
    (∀ (who : Who) (p : Fin 64),
      (mayPart s who 2 p = false ∨ (getP s p).st = .empty → exec (.dmpReq who p) s = .next s) ∧
      (mayPart s who 2 p = true → (getP s p).st ≠ .empty →
        (bit (reg s rHngHung) p = true → exec (.dmpReq who p) s = .next (countF s rHngStat 31 24 1)) ∧
        (bit (reg s rHngHung) p = false → hangFull s = false → ∃ (t : State) (d : Decl), exec (.dmpReq who p) s = .next t ∧
          bit (reg t rHngHung) p = true ∧ LineRaised t 1 ∧ t.hang.queue = s.hang.queue ++ [d] ∧ d.part = p.val ∧ d.cause = 3 ∧
          t.parts = s.parts ∧ t.sites = s.sites))) ∧
    (∀ (s2 : State) (ch : Fin 8) (lseq : BitVec 16) (num cutid : Word), s2 = seqIn s ch lseq →
      ((∀ p : Nat, p < 64 → (getP s p).tree.any (fun t => t.cutId == cutid && t.parent == some ch.val) = false) →
        exec (.dumpReq ch lseq num cutid) s = .next s2) ∧
      (∀ p : Nat, p < 64 → (∀ q : Nat, q < 64 → (getP s q).tree.any (fun t => t.cutId == cutid && t.parent == some ch.val) = decide (q = p)) →
        bit (reg s rHngHung) p = false → hangFull s = false → ∃ (t : State) (d : Decl), exec (.dumpReq ch lseq num cutid) s = .next t ∧
          bit (reg t rHngHung) p = true ∧ LineRaised t 1 ∧ t.hang.queue = s.hang.queue ++ [d] ∧ d.part = p ∧ d.cause = 4)) ∧
    (∀ (site f : Nat), flyerOf s site = some f → (wired s site = true → (getS s site).failed = false → (typeOf s site).wdgBit.isSome = true →
        ∃ t : State, exec (.wdgReport site) s = .next t ∧ t = setF s f { getF s f with wdg := (getF t f).wdg } ∧
          ∀ k : Nat, (tget 0 (getF t f).wdg k).testBit (wdgBitOf site) = true ∨ k ≠ wiredCluster site) ∧
      (wired s site = false ∨ (getS s site).failed = true ∨ (typeOf s site).wdgBit = none → exec (.wdgReport site) s = .next s)) ∧
    (∀ (cluster f : Nat), servedBy s cluster = some f → tabWf 0 (getF s f).wdg = true → ∃ t : State, exec (.wdgFetch cluster) s = .next t ∧
      tget 0 (getF t f).wdg cluster = 0 ∧
      ∀ (n p : Nat), n < 20 → tget 0 (getF s f).wdg cluster = 2 ^ n → partOf s (wdgSite cluster n) = some p → (getP s p).st = .running →
        (getP s p).hold = none → (getP s p).grace = 0 → LineRaised t 12 ∧
          regF t rHngStat 63 48 = min (regF s rHngStat 63 48 + 1) 0xFFFF) ∧
    (∀ (who : Who) (v : Word),
      (mayReg s who rHngCtrl true v = false → exec (.hngCtrlWrite who v) s = .next s) ∧
      (mayReg s who rHngCtrl true v = true → bit v 0 = false → exec (.hngCtrlWrite who v) s =
        .next (setReg s rHngCtrl ((layAt rHngCtrl).elim 0 fun l => l.write (reg s rHngCtrl) v))))) ∧
  (∀ (g : TInput) (nodes : List GNode) (edges : List GEdge), tangle g = (nodes, edges) →
    nodes.map GNode.idx = List.range nodes.length ∧
    (∀ x : GEdge, x ∈ edges → x.src < nodes.length ∧ x.dst < nodes.length) ∧
    (∀ (e : Engine) (n : TNode), e ∈ allEngines g → waitTarget g e = some n → ∃ x : GEdge, x ∈ edges ∧ x.need = false ∧
      (nodes[x.src]?).map (fun y => y.node.key) = some (TNode.engine e).key ∧ (nodes[x.dst]?).map (fun y => y.node.key) = some n.key) ∧
    (∀ x : GNode, x ∈ nodes → (x.marks.testBit 0 = true ↔ x.scc ≠ 0)) ∧
    (∀ x : GEdge, x ∈ edges → (x.marks.testBit 0 = true ↔ ∃ c : Nat, c ≠ 0 ∧
      (nodes[x.src]?).map GNode.scc = some c ∧ (nodes[x.dst]?).map GNode.scc = some c)) ∧
    (∀ x y : GEdge, x ∈ edges → y ∈ edges → x.src ≠ x.dst → y.src = x.dst → y.dst = x.src →
      ∀ z : GNode, z ∈ nodes → z.idx = x.src ∨ z.idx = x.dst → z.scc ≠ 0)) ∧
  (∀ u k : Nat, u ≤ 495 * k ↔ planBlocks u ≤ k)

/-- COMMIT_ADMIT moves the first waiting commit into the commit order with the next commit number and the hub time when it may
enter, and does nothing otherwise. COMMIT_DURABLE, mounted and with writes not inhibited, takes the first commit of the order
and makes its number the durable one, whatever writes read back wrong; before the mount or inhibited it changes nothing, nor
with an empty order and no bank due for retirement. Where no unit reads back wrong four times in a row, a CALIB commit's frame
stands in one slot of every bank in service. POWERED_TICK hands in one count per 2^32 ht of powered time. MRAM_SCRUB of a unit
of a bank in service raises counter 9 (and counts a write fault where the unit then reads back wrong four times), or for an
uncorrectable error, the first in the bank, HNK_ERR.UE, and the unit is bad. -/
def Obligations.CommitsEnterTheOrderAndBecomeDurable : Prop :=
  ∀ s : State, canonical s = true →
    (s.hank.inq = [] → exec .commitAdmit s = .next s) ∧
    (∀ (c : Commit) (rest : List Commit), s.hank.inq = c :: rest →
      (mayEnter s c = true → exec .commitAdmit s = .next { s with hank := { s.hank with
        inq := rest, nextC := s.hank.nextC + 1, queue := s.hank.queue ++ [{ c with cnum := s.hank.nextC, time := s.ht }] } }) ∧
      (mayEnter s c = false → exec .commitAdmit s = .next s)) ∧
    (s.hank.mount = 0 ∨ 2 ≤ s.hank.pfw → exec .commitDurable s = .next s) ∧
    (s.hank.queue = [] → (∀ b : Nat, b ∈ banks s → (tget [] s.hank.wfaults b).length < 8) → exec .commitDurable s = .next s) ∧
    (∀ (c : Commit) (rest : List Commit), 1 ≤ s.hank.mount → s.hank.pfw < 2 → s.hank.queue = c :: rest →
      ∃ t : State, exec .commitDurable s = .next t ∧ t.hank.durable = c.cnum) ∧
    (∀ (c : Commit) (rest : List Commit), 1 ≤ s.hank.mount → s.hank.pfw < 2 → s.hank.queue = c :: rest →
      (∀ b : Nat, b ∈ banks s → (tget [] s.hank.wfaults b).length < 8) → tabWf 0 s.hank.weak = true → (∀ a : Nat, tget 0 s.hank.weak a ≤ 3) → ∃ t : State,
      exec .commitDurable s = .next t ∧ t.hank.queue = rest ∧ t.hank.durable = c.cnum ∧ t.hank.inq = s.hank.inq ∧
      (c.area = .calib → c.body.length + 4 ≤ 1024 → ∀ b : Nat, b ∈ banks s → ∃ k : Nat, k < 2 ∧ ∀ i : Nat, i < c.body.length + 4 →
        tget 0 t.hank.units (bankBase b + 0x800 + 1024 * k + i) =
          (mkFrame 2 c.origin c.cnum c.time (counter s 0) c.body).getD i 0)) ∧
    (s.hank.poweredN < s.ht / 2 ^ 32 → exec .poweredTick s =
      .next (addCounter { s with hank := { s.hank with poweredN := s.hank.poweredN + 1 } } 2 1)) ∧
    (s.ht / 2 ^ 32 ≤ s.hank.poweredN → exec .poweredTick s = .next s) ∧
    (∀ (bank : Fin 4) (unit : Nat), unit < 2 ^ 19 → 1 ≤ s.hank.mount →
      (bank.val ∉ s.hank.retired → tget 0 s.hank.weak (bankBase bank + unit) = 0 →
        exec (.mramScrub bank ⟨unit, false, 0⟩) s = .next (addCounter s 9 1)) ∧
      (∀ n : Nat, bank.val ∉ s.hank.retired → tabWf 0 s.hank.weak = true → 4 ≤ n → (∀ b : Nat, b ∈ banks s → (tget [] s.hank.wfaults b).length < 7) → ∃ t : State,
        exec (.mramScrub bank ⟨unit, false, n⟩) s = .next t ∧ regF t rHnkErr 63 48 = min (regF s rHnkErr 63 48 + 1) 0xFFFF ∧
        bankBase bank + unit ∈ t.hank.bad) ∧
      (bank.val ∉ s.hank.retired → tget 0 s.hank.bankErr bank = 0 → ∃ t : State, exec (.mramScrub bank ⟨unit, true, 0⟩) s = .next t ∧
        regF t rHnkErr 47 32 = min (regF s rHnkErr 47 32 + 1) 0xFFFF ∧ bankBase bank + unit ∈ t.hank.bad ∧
        t.hank.units = s.hank.units) ∧
      (bank.val ∈ s.hank.retired → ∀ (ue : Bool) (n : Nat), exec (.mramScrub bank ⟨unit, ue, n⟩) s = .next s))

/-- PFW_ASSERT of a mounted store with no warning records the pin low, raises line 9, and leaves writes inhibited (PFW 2) with
nothing but an L0 commit first in the order, stopped where it stood first; a second one, one in reset, or one before the mount
with the pin low already, records the pin and its time only; another before the mount raises line 9 too. PFW_GLITCH only counts.
PFW_CLEAR at least 400,000 ht after the last assertion of an inhibiting warning lifts the inhibit and the pin and hands in the
PFW_CLEAR journal entry; earlier or without a warning it changes nothing. A write of HNK_PIN without rights changes nothing. -/
def Obligations.PowerFailStopsAndResumesTheHankStore : Prop :=
  ∀ s : State,
    (s.hank.pfw ≠ 0 ∨ s.boot.inReset = true ∨ s.hank.mount = 0 ∧ s.hank.pinLow = true → exec .pfwAssert s = .next { s with hank := { s.hank with pinLow := true, pfwLast := s.ht } }) ∧
    (s.hank.pfw = 0 → s.boot.inReset = false → s.hank.mount = 0 → s.hank.pinLow = false → canonical s = true → ∃ t : State,
      exec .pfwAssert s = .next t ∧ LineRaised t 9 ∧ t.hank = { s.hank with pinLow := true, pfwLast := s.ht }) ∧
    (s.hank.pfw = 0 → s.boot.inReset = false → s.hank.mount ≠ 0 → s.hank.queue.length ≤ 17 → canonical s = true → ∃ t : State, exec .pfwAssert s = .next t ∧
      t.hank.pfw = 2 ∧ t.hank.pfwAt = s.ht ∧ t.hank.pfwLast = s.ht ∧ t.hank.pinLow = true ∧ LineRaised t 9 ∧ t.sites = s.sites ∧
      t.parts = s.parts ∧ t.hank.stopped = (s.hank.queue.head?.filter fun c => c.area == .l0) ∧
      ∀ c : Commit, t.hank.queue.head? = some c → c.area = .l0) ∧
    exec .pfwGlitch s = .next (countF s rPinStat 63 48 1) ∧
    (s.hank.pfw < 2 ∨ s.ht < s.hank.pfwLast + 400000 → exec .pfwClear s = .next s) ∧
    (2 ≤ s.hank.pfw → s.hank.pfwLast + 400000 ≤ s.ht → exec .pfwClear s =
      .next (journal { s with hank := { s.hank with pfw := 0, pinLow := false, stopped := none } } 0x8003
        ((s.ht - 400000 - s.hank.pfwAt) % 2 ^ 32))) ∧
    (∀ (who : Who) (v : Word), mayReg s who rHnkPin true v = false → exec (.hnkPinWrite who v) s = .next s)

/-- COMPARATOR_HIT of the one comparator that matches adds 1 to its HIT_CNT, saturating, and with ONCE disarms it; with no match it
changes nothing, nor does an event at a site that is absent, failed or (for a hit) in reset or gated. An event enters the
channel queue of the Flyer that serves the cluster with its firing edge. CHANNEL_FIRE takes the event at its firing edge and at
no other; with EN at 0 that is all; with EN at 1 FIRE_CNT gains 1, NOTIFY, unless the crossing was overrun, raises line 4 with
the cluster's bit, and XTRIG gives each core of the cluster its CA_XTRIG_IN edge. GUEST_TRIGGER_RELAY moves a waiting event to
the home cluster; FREEZE_LATE is set 64 edges after a freeze without the core's CA_FROZEN. -/
def Obligations.TriggersReachTheirSinks : Prop :=
  ∀ s : State, canonical s = true →
    (∀ (site : Nat) (acc : Access) (addr : BitVec 32) (x : Site), x = getS s site →
      (wired s site = false ∨ x.failed = true ∨ x.inReset = true ∨ x.gated = true → exec (.comparatorHit site acc addr) s = .next s) ∧
      ((∀ n : Nat, n < s.integ.cmpN → cmpMatch s site n acc addr = false) →
        exec (.comparatorHit site acc addr) s = .next s) ∧
      (∀ n : Nat, n < 8 → wired s site = true → x.failed = false → x.inReset = false → x.gated = false →
        tget none x.held (aCmpCtrl + 2 * n) = none → ((List.range s.integ.cmpN).filter fun k => cmpMatch s site k acc addr) = [n] → ∃ t : State,
        exec (.comparatorHit site acc addr) s = .next t ∧
        bits (cmpCtrl t site n) 63 48 = min (bits (cmpCtrl s site n) 63 48 + 1) 0xFFFF ∧
        (bit (cmpCtrl t site n) 0 = !bit (cmpCtrl s site n) 8) ∧ t.rparts = s.rparts)) ∧
    (∀ (site : Nat) (evt : BitVec 8),
      (wired s site = false ∨ (getS s site).failed = true → exec (.coreEvent site evt) s = .next s) ∧
      (∀ k : Nat, k < 8 → wired s site = true → (getS s site).failed = false → evt = BitVec.ofNat 8 (2 ^ k) →
        bit (ag s site aAgEvtMap) (4 * k + 3) = true → (typeOf s site).wdgBit ≠ some k →
        isGuest s site = false → isAlt s site = false → exec (.coreEvent site evt) s =
          .next (xtEvent s (homeCluster s site) (bits (ag s site aAgEvtMap) (4 * k + 2) (4 * k)) 2))) ∧
    (∀ (cluster : Nat) (fire : BitVec 8), exec (.flyXtFire cluster fire) s =
      .next (forAll ((List.range 8).filter fun n => fire.getLsbD n) (fun s n => xtEvent s cluster n 2) s)) ∧
    (∀ cluster ch delay f : Nat, servedBy s cluster = some f →
      ⟨cluster, ch, (getR s (clusterRegion f)).edge + delay⟩ ∈ (getF (xtEvent s cluster ch delay) f).evts) ∧
    (∀ (cluster f : Nat) (ch : Fin 8) (v : XtEvt) (k : Nat), servedBy s cluster = some f → k = aFlyXtCtrl + ch.val →
      (getF s f).evts = [v] → v.cluster = cluster → v.ch = ch.val →
      (v.due ≠ (getR s (clusterRegion f)).edge → exec (.channelFire cluster ch) s = .next s) ∧
      (v.due = (getR s (clusterRegion f)).edge → bit (flyEdge s cluster k) 0 = false →
        exec (.channelFire cluster ch) s = .next (setF s f { getF s f with evts := [] })) ∧
      (v.due = (getR s (clusterRegion f)).edge → tget none (getF s cluster).held k = none → bit (flyReg s cluster k) 0 = true → ∃ t : State,
        exec (.channelFire cluster ch) s = .next t ∧ (getF t f).evts = [] ∧
        bits (flyReg t cluster k) 63 48 = min (bits (flyReg s cluster k) 63 48 + 1) 0xFFFF ∧
        (bit (flyReg s cluster k) 4 = true → cluster < 256 → (trigPulse s (8 * cluster + 3)).1 = true → LineRaised t 4 ∧ ∀ r : Nat, r < 9 →
          (tget 0 t.evXt (xtKey r (cluster / 64))).getLsbD (cluster % 64) = true) ∧
        (bit (flyReg s cluster k) 2 = true → ∀ i ∈ sitesOfHome s cluster, (getS s i).failed = false → wired s i = true →
          (getS t i).xtrigAt = some (edgeOf s i + 1)))) ∧
    (∀ (site f : Nat) (ch : Fin 8), flyerOf s site = some f →
      ((site, ch.val) ∈ (getF s f).relay → exec (.guestTriggerRelay site ch) s = .next (xtEvent
        (setF s f { getF s f with relay := (getF s f).relay.filter fun e => e != (site, ch.val) }) (homeCluster s site) ch 2)) ∧
      ((site, ch.val) ∉ (getF s f).relay → exec (.guestTriggerRelay site ch) s = .next s)) ∧
    (∀ (site p : Nat) (y : RPart), partOf s site = some p → y = getRP s p (regionOf site) →
      (wired s site = true → y.latch = true → (getS s site).frozen = false → y.latchAt + 64 ≤ edgeOf s site →
        exec (.freezeLate site) s = .next (setS s site { getS s site with freezeLate := true })) ∧
      (y.latch = false ∨ (getS s site).frozen = true ∨ edgeOf s site < y.latchAt + 64 → exec (.freezeLate site) s = .next s))

/-- SCHEDULE_STEP of a region without supply changes nothing. Otherwise, with no stop-tree message, change of the map or channel
event at its edge, the region's edge count gains 1, its root takes what crosses to it, every partition with a site in the region
and its latches clear has its step number raised by 1 modulo 2^48, a latched partition keeps its step number, and under a STEP
the count left falls by 1 and at 0 the latches set; the AND of CA_FROZEN is 0 while they are clear; shares in other regions
keep. -/
def Obligations.EdgesCountSteps : Prop :=
  ∀ (s : State) (r : Fin 4) (levels : EdgeLevels), canonical s = true →
    ((getR s r).powerOff = true → exec (.scheduleStep r levels) s = .next s) ∧
    ((getR s r).powerOff = false → (∀ m : StMsg, m ∈ (getR s r).tree → (getR s r).edge < m.due) →
      (∀ g : MapChg, g ∈ (getR s r).chg → (getR s r).edge < g.due) → (∀ f : Nat, (getF s f).evts = []) →
      ∃ t : State, exec (.scheduleStep r levels) s = .next t ∧
      (getR t r).edge = (getR s r).edge + 1 ∧ (getR t r).tree = (getR s r).tree ∧
      ((tfEdge (getR s r).port).1 = none → (getR t r).queue = (getR s r).queue) ∧
      (∀ q : RootReq, (tfEdge (getR s r).port).1 = some (.req q) →
        (getR t r).queue = (getR s r).queue ++ [{ q with edge := (getR s r).edge + 1 }]) ∧
      (∀ q : Nat, q ≠ r.val → getR t q = getR s q) ∧ t.whorls = s.whorls ∧ t.hubMem = s.hubMem ∧
      ∀ p : Nat, p < 64 →
        ((getRP s p r).latch = true ∨ sitesIn s p r = [] →
          { getRP t p r with andAt := (getRP s p r).andAt, markAt := (getRP s p r).markAt } = getRP s p r) ∧
        ((getRP s p r).latch = false → sitesIn s p r ≠ [] → (getRP t p r).stepNo = ((getRP s p r).stepNo + 1) % 2 ^ 48 ∧
          ((getRP s p r).stepOn = false → (getRP t p r).latch = false ∧ (getRP t p r).andAt = none) ∧
          ((getRP s p r).stepOn = true → (getRP t p r).stepLeft = (getRP s p r).stepLeft - 1 ∧
            (getRP t p r).latch = decide ((getRP s p r).stepLeft ≤ 1))) ∧
        ∀ q : Nat, q < 4 → q ≠ r.val → getRP t p q = getRP s p q)

/-- AGENT_OP_RECEIVE of the oldest operation that a live Flyer has still to receive, of a known epoch, is applied at the agents it
serves; a failed Flyer does nothing. A write of AG_EVT_MAP to one agent stores the value and leaves reason 0 with the ISEQ in
AG_LAST. INSPECTION_ACK within 64 edges and INSPECTION_TIMEOUT after them end a site's only outstanding request with the reason
of CA_RI_STAT or 5, in AG_LAST. LM_STEAL issues one word at a free edge, one at most at an edge, or ends a write at a locked
core with reason 2, LM_READ_RETURN takes the next word, and LM_DEADLINE at the deadline by the Flyer's time, or 2^22 ht after
the arrival of an operation without one, ends the transfer with reason 7. Without a request the events change nothing. -/
def Obligations.AgentOperationsAreAppliedAndAnswered : Prop :=
  (∀ (s : State) (f : Nat) (issuer : Fin 9) (iseq : BitVec 16),
    ((getF s f).failed = true → exec (.agentOpReceive f issuer iseq) s = .next s) ∧
    (∀ op : Op, (getF s f).failed = false → opOf s issuer iseq = some op → f ∈ op.todo → epochAhead s f op = false →
      (∀ o ∈ s.ops, o.issuer = issuer.val → o.held = none → f ∈ o.todo → seqNewer iseq o.iseq = false) →
      exec (.agentOpReceive f issuer iseq) s = .next (receiveAt f s op) ∧
      ∀ (i : Nat) (v : Word) (l : RegLay), canonical s = true → op.type = .write → op.reg = aAgEvtMap → op.pre = [] → op.data = [v] →
        op.sites = [i] → flyerOf s i = some f → (getS s i).failed = false → namesSlot s op i = true →
        tget none (getS s i).lastOps op.issuer = none → issuerBusy (getS s i) op.issuer = false → (getS s i).waitOps = [] →
        agLayAt aAgEvtMap = some l → ag (receiveAt f s op) i aAgEvtMap = l.write (ag s i aAgEvtMap) v ∧
          agBank (receiveAt f s op) i op.issuer aAgLast = word (op.iseq.toNat * 2 ^ 48))) ∧
  (∀ (s : State) (site : Nat) (q : RiReq) (stat : Fin 8) (data : Word), (getS s site).ri = [q] → canonical s = true →
    (getS s site).waitOps = [] →
    (q.sent = true → q.at_ < edgeOf s site → edgeOf s site ≤ q.at_ + 64 → ∃ t : State,
      exec (.inspectionAck site stat data) s = .next t ∧ (getS t site).ri = [] ∧
      agBank t site q.issuer aAgLast = word (q.iseq.toNat * 2 ^ 48 + riReason stat)) ∧
    (q.sent = false ∨ edgeOf s site ≤ q.at_ ∨ q.at_ + 64 < edgeOf s site →
      exec (.inspectionAck site stat data) s = .next s) ∧
    (q.sent = true → q.at_ + 64 < edgeOf s site → ∃ t : State, exec (.inspectionTimeout site) s = .next t ∧
      (getS t site).ri = [] ∧ agBank t site q.issuer aAgLast = word (q.iseq.toNat * 2 ^ 48 + 5)) ∧
    (q.sent = false ∨ edgeOf s site ≤ q.at_ + 64 → exec (.inspectionTimeout site) s = .next s)) ∧
  (∀ (s : State) (site : Nat) (stat : Fin 8) (data : Word), (getS s site).ri = [] →
    exec (.inspectionAck site stat data) s = .next s ∧ exec (.inspectionTimeout site) s = .next s) ∧
  (∀ (s : State) (site : Nat) (q : LmReq) (rest : List LmReq) (x : Site) (err : Fin 4) (data : Word), x = getS s site →
    x.lm = q :: rest → canonical s = true →
    (q.waking = false → x.inReset = false → x.failed = false → x.lmIdle = true → x.gated = false ∨ x.wakeAck = true →
      x.lmAt ≠ edgeOf s site + 1 → firstEdge s site ≤ edgeOf s site → q.wr = false ∨ x.lock = false → q.issued + 1 < q.n →
      exec (.lmSteal site) s = .next (setS s site { x with lm := { q with issued := q.issued + 1 } :: rest, lmAt := edgeOf s site + 1 })) ∧
    (q.waking = true ∨ x.inReset = true ∨ x.failed = true ∨ x.lmIdle = false ∨ x.gated = true ∧ x.wakeAck = false ∨
      x.lmAt = edgeOf s site + 1 ∨ q.n ≤ q.issued → exec (.lmSteal site) s = .next s) ∧
    (q.waking = false → x.inReset = false → x.failed = false → x.lmIdle = true → x.gated = false → x.lmAt ≠ edgeOf s site + 1 →
      firstEdge s site ≤ edgeOf s site → q.wr = true → x.lock = true → q.issued < q.n → x.ri = [] → x.waitOps = [] →
      ∃ (t : State) (v : Word), exec (.lmSteal site) s = .next t ∧ (getS t site).lm = rest ∧
        agBank t site q.issuer aAgLast = v ∧ bits v 63 48 = q.iseq.toNat ∧ bits v 23 0 = 2) ∧
    (q.wr = false → q.got.length < q.issued → q.got.length + 1 < q.n → ∃ q2 : LmReq,
      exec (.lmReadReturn site err data) s = .next (setS s site { x with lm := q2 :: rest }) ∧ q2.got = q.got ++ [data] ∧
      q2.bad = (if 2 ≤ err.val then q.bad ++ [q.got.length] else q.bad) ∧ q2.issued = q.issued ∧ q2.addr = q.addr) ∧
    (q.wr = true ∨ q.issued ≤ q.got.length → exec (.lmReadReturn site err data) s = .next s) ∧
    ((∀ k : LmReq, k ∈ x.lm → lmLate s site k = false) → exec (.lmDeadline site) s = .next s) ∧
    (lmLate s site q = true → x.ri = [] → x.waitOps = [] → ∃ (t : State) (v : Word), exec (.lmDeadline site) s = .next t ∧
      (getS t site).lm = rest ∧ agBank t site q.issuer aAgLast = v ∧ bits v 63 48 = q.iseq.toNat ∧ bits v 23 0 = 7) ∧
    (q.dl = none → (lmLate s site q = true ↔ q.since + 2 ^ 22 ≤ s.ht)) ∧
    (∀ d f : Nat, flyerOf s site = some f → q.dl = some d → flyerTime s f = d % 2 ^ 24 → lmLate s site q = true)) ∧
  (∀ (s : State) (site : Nat) (err : Fin 4) (data : Word), (getS s site).lm = [] → exec (.lmSteal site) s = .next s ∧
    exec (.lmReadReturn site err data) s = .next s ∧ exec (.lmDeadline site) s = .next s)

/-- WAKE_ACK of a standing request sets the acknowledge; WAKE_RELEASE 64 edges after the last crossing, and WAKE_TIMEOUT after 4,000
ht with every operation waiting, withdraw the request. CORE_RESET_ASSERT leaves the core in reset with no request, transfer,
open command or lock; CORE_RESET_RELEASE leaves reset and notes the edge. VT_TX_WRITE appends a word with its time or, at four
words, adds 1 to VT_STAT.TX_DROP; VT_RX_POP removes the first word; VT_DRAIN takes the head word, a TERM record for the Flyer
unless its CNT is 0, once the one before is taken. CORE_POWER_CHANGE leaves LP and GATED as given. -/
def Obligations.CoreAttachEventsFollowTheirRules : Prop :=
  ∀ (s : State) (site : Nat) (x : Site), x = getS s site → canonical s = true →
    (x.wakeReq = true → x.wakeAck = false → x.waitOps = [] → ∃ (t : State) (y : Site), exec (.wakeAck site) s = .next t ∧ y = getS t site ∧
      y.wakeAck = true ∧ y.wakeReq = true ∧ y.fifo = x.fifo ∧ (∀ q ∈ y.ri, q.waking = false) ∧ (∀ q ∈ y.lm, q.waking = false) ∧
      y.lm.length = x.lm.length ∧ ((∀ q ∈ x.ri, q.wr = false) → y.ri.length = x.ri.length)) ∧
    (x.wakeReq = false ∨ x.wakeAck = true → exec (.wakeAck site) s = .next s ∧ exec (.wakeTimeout site) s = .next s) ∧
    (x.wakeReq = true → x.wakeAck = true → x.ri = [] → x.lm = [] →
      (x.wakeUntil ≤ edgeOf s site → exec (.wakeRelease site) s = .next (setS s site { x with wakeReq := false, wakeAck := false })) ∧
      (edgeOf s site < x.wakeUntil → exec (.wakeRelease site) s = .next s)) ∧
    (x.wakeReq = false → exec (.wakeRelease site) s = .next s) ∧
    (x.wakeReq = true → x.wakeAck = false → x.wakeAt + 4000 ≤ s.ht → (∀ q ∈ x.ri, q.waking = true) → (∀ q ∈ x.lm, q.waking = true) →
      x.waitOps = [] →      ∃ t : State, exec (.wakeTimeout site) s = .next t ∧ (getS t site).wakeReq = false ∧ (getS t site).ri = [] ∧ (getS t site).lm = []) ∧
    (wired s site = true → x.inReset = false → ∃ t : State, exec (.coreResetAssert site) s = .next t ∧ (getS t site).inReset = true ∧
      (x.waitOps = [] → (getS t site).ri = [] ∧ (getS t site).lm = []) ∧ (getS t site).cmdOpen = [] ∧ (getS t site).lock = false ∧
      (getS t site).frozen = false) ∧
    (wired s site = false ∨ x.inReset = true → exec (.coreResetAssert site) s = .next s) ∧
    (x.inReset = true → ∃ t : State, exec (.coreResetRelease site) s = .next t ∧ (getS t site).inReset = false ∧
      (getS t site).rstEdge = some (edgeOf s site)) ∧
    (x.inReset = false → exec (.coreResetRelease site) s = .next s) ∧
    (∀ v : Word, wired s site = true → x.failed = false → x.inReset = false →
      (x.vtTx.length < 4 → exec (.vtTxWrite site v) s = .next (setS s site { x with vtTx := x.vtTx ++ [(v, s.ht)] })) ∧
      (4 ≤ x.vtTx.length → exec (.vtTxWrite site v) s = .next (setAg s site aVtStat
        (setBits (ag s site aVtStat) 63 48 (min (bits (ag s site aVtStat) 63 48 + 1) (2 ^ 16 - 1)))))) ∧
    (∀ v : Word, wired s site = false ∨ x.failed = true ∨ x.inReset = true → exec (.vtTxWrite site v) s = .next s) ∧
    exec (.vtRxPop site) s = .next (setS s site { x with vtRx := x.vtRx.drop 1 }) ∧
    (∀ (v : Word) (t0 : Nat) (rest : List (Word × Nat)) (f : Nat), x.vtTx = (v, t0) :: rest → flyerOf s site = some f → x.failed = false →
      emits s site = true → exec (.vtDrain site) s = .next (if bits v 58 56 = 0 then setS s site { x with vtTx := rest }
        else if x.term.isSome then s else setS s site { x with
          vtTx := rest, term := some (mkRec (0x4001 + 4 * coreIdx s site) 5 1 0 [word (t0 % 2 ^ 24), v]) })) ∧
    (x.vtTx = [] ∨ emits s site = false → exec (.vtDrain site) s = .next s) ∧
    (∀ lp gated : Bool, (wired s site = true → x.failed = false → ∃ t : State, exec (.corePowerChange site lp gated) s = .next t ∧
        (getS t site).lp = lp ∧ (getS t site).gated = gated ∧ (getS t site).ri = x.ri ∧ t.rparts = s.rparts) ∧
      (wired s site = false ∨ x.failed = true → exec (.corePowerChange site lp gated) s = .next s))

/-- FLOW_EVENT of an absent, failed, reset or gated site changes nothing; with FLOW_ON at 0 it only keeps the schedule address; with
it at 1 and room, an indirect transfer with no branch pending and no TSYNC due puts a FLOW_IND record with the cycles since the
last record and the target into the Bobbin's FIFO, and a branch joins the pending branches. CMD_EVENT on a present slot keeps
the identifiers of a begun command open until its end, and while CMD_ON and the slot's bit are 1 with room a begin without an
end puts a CMD record of kind 0 with the identifiers into the FIFO. -/
def Obligations.EncodersMakeTraceRecords : Prop :=
  ∀ (s : State) (site : Nat) (x : Site), x = getS s site → canonical s = true → tabWf Src.fresh x.srcs = true →
    (∀ (iaddr : Option (BitVec 32)) (br : Option Bool) (ind : Option (BitVec 32)),
      (wired s site = false ∨ x.failed = true ∨ x.inReset = true ∨ x.gated = true → exec (.flowEvent site iaddr br ind) s = .next s) ∧
      (wired s site = true → x.failed = false → x.inReset = false → x.gated = false → flowOn s site = false → exec (.flowEvent site iaddr br ind) s =
        .next (if iaddr.isSome then setS s site { x with lastAddr := iaddr } else s))) ∧
    (∀ c : Src, wired s site = true → x.failed = false → x.inReset = false → x.gated = false → emits s site = true → flowOn s site = true → c = tget Src.fresh x.srcs 0 →
      c.tnt = [] → c.pendTs = none → c.last ≤ edgeOf s site → edgeOf s site ≤ c.last + 4095 → c.count < 256 → x.fifo = [] →
      tget none x.gaps (srcOf s site 0) = none → isLossless s (partOf s site) = false →
      (∀ tgt : BitVec 32, ∃ t : State, exec (.flowEvent site none none (some tgt)) s = .next t ∧
        (getS t site).fifo = [mkRec (srcOf s site 0) 2 3 ((edgeOf s site - c.last) * 2 ^ 24) [word tgt.toNat]]) ∧
      (∀ taken : Bool, ∃ t : State, exec (.flowEvent site none (some taken) none) s = .next t ∧ (getS t site).fifo = [] ∧
        tntOf t site = [⟨taken, edgeOf s site, s.ht, x.lastAddr⟩])) ∧
    (∀ (slot : Fin 4) (bgn fin : Bool) (ids : BitVec 56),
      (wired s site = false ∨ x.failed = true ∨ x.inReset = true ∨ (slotsOf s site).getLsbD slot = false ∨ bgn = false ∧ fin = false →
        exec (.cmdEvent site slot bgn fin ids) s = .next s) ∧
      (wired s site = true → x.failed = false → x.inReset = false → (slotsOf s site).getLsbD slot = true → tabWf none x.cmdOpen = true →
        ∃ t : State, exec (.cmdEvent site slot true fin ids) s = .next t ∧
          tget none (getS t site).cmdOpen slot = (if fin then none else some ids) ∧
          tget none (getS t site).lastIds slot = some ids ∧
          (∀ c : Src, fin = false → cmdOn s site = true → bit (btNow s site) (12 + slot.val) = true → emits s site = true →
            c = tget Src.fresh x.srcs (1 + slot.val) → c.pendTs = none → c.last ≤ edgeOf s site → edgeOf s site ≤ c.last + 4095 →
            c.count < 256 → x.fifo = [] → tget none x.gaps (srcOf s site (1 + slot.val)) = none →
            isLossless s (partOf s site) = false → (getS t site).fifo =
              [mkRec (srcOf s site (1 + slot.val)) 4 1 ((edgeOf s site - c.last) * 2 ^ 24) [word ids.toNat]])))

/-- FLYER_TAKE with one Bobbin record waiting moves it with the hub time into an empty Flyer queue, once per edge. RECORD_AGE_DROP
discards the head record, neither of class D nor a GAP, after 2^22 ht into a gap of its source with reason AGE that stands ahead
of the source's next record. GROUP_SEND with a free collector input sends the longest front of up to 16 units as one group with
the next GSEQ. COLLECTOR_ARBITRATE, with the next hop free, sends the local group when D is at most 0, adding the row times its
words, and otherwise the through group, taking its words from D; with the next hop full, or empty, it changes nothing.
TRACE_WORD_ERROR of up to one flipped bit is corrected; more count, and cut the through group before the word. GROUP_ARRIVAL
stalls when the column's queue of 256 units is full. A failed Flyer sends nothing. -/
def Obligations.TheTracePlaneCarriesRecords : Prop :=
  ∀ (s : State) (f : Nat) (x : Flyer), x = getF s f → canonical s = true →
    (x.failed = true → exec (.flyerTake f) s = .next s ∧ exec (.groupSend f) s = .next s) ∧
    (x.takeAt = flyerEdge s f + 1 → exec (.flyerTake f) s = .next s) ∧ (x.local_ ≠ [] → exec (.groupSend f) s = .next s) ∧
    (∀ (i : Nat) (r : Rec) (rest : List Rec), x.failed = false → x.takeAt ≠ flyerEdge s f + 1 → sitesOf s f = [i] →
      (getS s i).fifo = r :: rest → (getS s i).sample = none → (getS s i).term = none → (getS s i).dOut = [] → x.card.out = [] → x.q = [] → tget none x.gaps (recSrc r) = none →
      recUnits r ≤ 128 → isLossless s (partOfSrc s (recSrc r)) = false → ∃ t : State, exec (.flyerTake f) s = .next t ∧
      (getS t i).fifo = rest ∧ (getF t f).q = [⟨r, s.ht⟩]) ∧
    (∀ (e : QRec) (rest : List QRec), x.q = e :: rest →
      (∀ (k : Nat) (h : Gap), k = recSrc e.r → h = gapOf 2 s.ht e.r → recCls e.r ≠ 4 → recType e.r ≠ 6 → e.ent + 2 ^ 22 ≤ s.ht →
        ∃ t : State, exec (.recordAgeDrop f) s = .next t ∧ (getF t f).q = rest ∧ t.sites = s.sites ∧
        bits (regGet t (keyObj f rTrcFlyStat) rTrcFlyStat) 47 32 = min (bits (regGet s (keyObj f rTrcFlyStat) rTrcFlyStat) 47 32 + 1) 0xFFFF ∧
        ((∃ y ∈ rest, recSrc y.r = k) → tget none (getF t f).ages k = some ((tget none x.ages k).elim h fun g => gapJoin g h)) ∧
        ((∀ y ∈ rest, recSrc y.r ≠ k) → tget none x.ages k = none → tget none x.gaps k = none →
          tget none (getF t f).gaps k = some h)) ∧
      (recCls e.r = 4 ∨ recType e.r = 6 ∨ s.ht < e.ent + 2 ^ 22 → exec (.recordAgeDrop f) s = .next s)) ∧
    (x.q = [] → exec (.recordAgeDrop f) s = .next s ∧ exec (.groupSend f) s = .next s) ∧
    (∀ (l : List Rec) (q : List QRec) (a : Tab (Option Gap)), (l, q, a) = takeUnits 16 x.ages x.q → x.failed = false → x.local_ = [] →
      l ≠ [] → exec (.groupSend f) s = .next (setF s f { x with
        q := q, ages := a, gseq := x.gseq + 1, local_ := [mkGroup f x.gseq l] }) ∧ unitsOf l ≤ 16) ∧
    (southFree s f = false → exec (.collectorArbitrate f) s = .next s) ∧
    (∀ (g h : List Word) (t u : List (List Word)), southFree s f = true →
      (x.local_ = g :: t → x.through = h :: u → x.colD ≤ 0 → exec (.collectorArbitrate f) s =
        .next (sendSouth (setF s f { x with local_ := t, colD := x.colD + ((f / 16 : Nat) : Int) * ((groupWords g : Nat) : Int) }) f g)) ∧
      (x.local_ = g :: t → x.through = h :: u → 0 < x.colD → exec (.collectorArbitrate f) s =
        .next (sendSouth (setF s f { x with through := u, colD := x.colD - ((groupWords h : Nat) : Int) }) f h)) ∧
      (x.local_ = g :: t → x.through = [] → exec (.collectorArbitrate f) s =
        .next (sendSouth (setF s f { x with local_ := t, colD := 0 }) f g)) ∧
      (x.local_ = [] → x.through = h :: u → exec (.collectorArbitrate f) s =
        .next (sendSouth (setF s f { x with through := u, colD := 0 }) f h))) ∧
    (∀ (h : List Word) (u : List (List Word)) (w : Nat) (flips : List (Fin 137)), x.through = h :: u →
      (flips.eraseDups.length ≤ 1 ∨ groupWords h ≤ w → exec (.traceWordError f ⟨w, flips⟩) s = .next s) ∧
      (2 ≤ flips.eraseDups.length → w < groupWords h → ∃ t2 : State, exec (.traceWordError f ⟨w, flips⟩) s = .next t2 ∧
        (getF t2 f).local_ = x.local_ ∧ regF t2 rSpnTrcUe 63 0 = min (regF s rSpnTrcUe 63 0 + 1) (2 ^ 64 - 1) ∧
        (0 < w → (getF t2 f).through = h.take (2 * w) :: u))) ∧
    (x.local_ = [] → x.through = [] → exec (.collectorArbitrate f) s = .next s) ∧
    (∀ (w : Nat) (flips : List (Fin 137)), x.through = [] → exec (.traceWordError f ⟨w, flips⟩) s = .next s) ∧
    (clusterIn s f = true → x.trcFail = false → exec (.traceLinkFail f) s = .next (healthChange (setF s f { x with trcFail := true }) 4 f true)) ∧
    (clusterIn s f = false ∨ x.trcFail = true → exec (.traceLinkFail f) s = .next s) ∧
    (∀ (col : Fin 16) (g : List Word) (rest : List (List Word)) (y : List (Word × List Rec)) (b : Bool) (l q : List Rec),
      tget [] s.funnel.arrive col = g :: rest → l = y.flatMap Prod.snd → q = tget [] s.funnel.cols col →
      (y, b) = funnelRead (groupHeader (throughColumn s col)) (2 * g.length + 2) (tget false s.funnel.hunt col) g →
      (256 < unitsOf q + unitsOf l → exec (.groupArrival col) s = .next s) ∧
      (unitsOf q + unitsOf l ≤ 256 → ∀ h : Word, y.map Prod.fst = [h] →
        bits h 35 20 = (tget 0 s.funnel.gseq (bits h 57 50)).toNat →
        tabWf [] s.funnel.cols = true → tabWf [] s.funnel.arrive = true → ∃ t : State, exec (.groupArrival col) s = .next t ∧
          tget [] t.funnel.cols col = q ++ l ∧ tget [] t.funnel.arrive col = rest ∧ { t with funnel := s.funnel } = s)) ∧
    (∀ col : Fin 16, tget [] s.funnel.arrive col = [] → exec (.groupArrival col) s = .next s)

/-- FUNNEL_PARSE of an empty input changes nothing; a class D record with room joins the D queue; an HEVT record in time, alone in
its source with room, joins the reorder store with its own time as E. FUNNEL_RELEASE before E + W, or with an empty store,
changes nothing; from then on it hands on the record of least E. GAP_FLUSH of a gap whose run began 40,000 ht ago puts its GAP
record into a Bobbin's, Flyer's or the ring writer's queue with room, and otherwise changes nothing. -/
def Obligations.TheFunnelOrdersRecordsAndPlacesGaps : Prop :=
  ∀ s : State, canonical s = true →
    (∀ n : Fin 17, inputHead s n = none → exec (.funnelParse n) s = .next s) ∧
    (∀ (n : Fin 17) (r : Rec), inputHead s n = some r → recCls r = 4 → unitsOf s.funnel.dq + recUnits r ≤ 4096 → ∃ t : State,
      exec (.funnelParse n) s = .next t ∧ t.funnel.dq = s.funnel.dq ++ [r] ∧ t.funnel.store = s.funnel.store ∧ t.sites = s.sites) ∧
    (∀ (r : Rec) (rest : List Rec), s.funnel.local_ = r :: rest → recType r = 8 → recCls r = 0 →
      tget none s.funnel.srcE (recSrc r) = none → s.ht ≤ (recPay r 0).toNat + winW s → storeUnits s + recUnits r ≤ 32768 →
      s.funnel.held = [] → s.funnel.emitQ = [] → ∃ t : State, exec (.funnelParse 16) s = .next t ∧ t.funnel.local_ = rest ∧
      t.funnel.store = s.funnel.store ++ [⟨r, (((recPay r 0).toNat : Nat) : Rat), 16, s.funnel.seq⟩] ∧ t.funnel.dq = s.funnel.dq) ∧
    (s.funnel.store = [] → exec .funnelRelease s = .next s) ∧
    (∀ x : Store, firstOut s.funnel.store = some x →
      (x ∈ s.funnel.store ∧ ∀ y ∈ s.funnel.store, x.e ≤ y.e) ∧
      ((s.ht : Rat) < x.e + (winW s : Rat) → exec .funnelRelease s = .next s) ∧
      (x.e + (winW s : Rat) ≤ (s.ht : Rat) → exec .funnelRelease s = .next (release
        { s with funnel := { s.funnel with store := s.funnel.store.filter fun y => y.seq ≠ x.seq } } x.r))) ∧
    (∀ (src : BitVec 16) (i : Nat) (g : Gap), tget none (getS s i).gaps src.toNat = some g →
      (g.since + 40000 ≤ s.ht → unitsOf (getS s i).fifo + 3 ≤ 8 → exec (.gapFlush (.bobbin i) src) s = .next (setS s i { getS s i with
        fifo := (getS s i).fifo ++ [gapRec src.toNat g], gaps := tput none (getS s i).gaps src.toNat none })) ∧
      (s.ht < g.since + 40000 ∨ 8 < unitsOf (getS s i).fifo + 3 → exec (.gapFlush (.bobbin i) src) s = .next s)) ∧
    (∀ (src : BitVec 16) (f : Nat) (g : Gap), tget none (getF s f).gaps src.toNat = some g → tget none (getF s f).ages src.toNat = none →
      (g.since + 40000 ≤ s.ht → unitsOf ((getF s f).q.map QRec.r) + 3 ≤ 128 → exec (.gapFlush (.flyer f) src) s = .next (setF s f { getF s f with
        q := (getF s f).q ++ [⟨gapRec src.toNat g, s.ht⟩], gaps := tput none (getF s f).gaps src.toNat none }))) ∧
    (∀ (src : BitVec 16) (g : Gap), tget none s.ring.gaps src.toNat = some g → g.since + 40000 ≤ s.ht → unitsOf s.ring.q + 3 ≤ 1024 →
      exec (.gapFlush .ring src) s = .next { s with ring := { s.ring with
        q := gapRec src.toNat g :: s.ring.q, gaps := tput none s.ring.gaps src.toNat none } }) ∧
    (∀ (src : BitVec 16) (g : Gap), tget none s.ring.qgaps src.toNat = some g → tget none s.ring.gaps src.toNat = none →
      g.since + 40000 ≤ s.ht → unitsOf s.ring.q + 3 ≤ 1024 → exec (.gapFlush .ring src) s = .next { s with ring := { s.ring with
        q := s.ring.q ++ [gapRec src.toNat g], qgaps := tput none s.ring.qgaps src.toNat none } }) ∧
    (∀ (src : BitVec 16) (i : Nat), tget none (getS s i).gaps src.toNat = none → exec (.gapFlush (.bobbin i) src) s = .next s)

/-- By a requester with rights: a write of TRC_WIN_CTRL outside a capture empties the buffer and leaves it OFF, RING or FILL, or
armed in WINDOW mode; TRC_WIN_FIRE of an armed buffer in WINDOW mode starts the post region at the present time with a TRIG
record, and one that is not armed only counts; a read of TRC_BUF_RDATA, of a good unit or a bad one, advances the requester's
own address. BUFFER_TRIGGER does so for the oldest rise of TLINE. CAPTURE_END of a full capture, or one whose TRC_WIN_TMO has
passed, leaves it CAPTURED with line 3 raised. BUFFER_BANK_RETIRE takes the bank out once, while the recovery engine runs.
Without rights nothing changes. -/
def Obligations.TheTraceBufferCaptures : Prop :=
  ∀ s : State, canonical s = true →
    (∀ (who : Who) (v : Word),
      (mayReg s who rTrcWinCtrl true v = false → exec (.bufferModeWrite who v) s = .next s) ∧
      (mayReg s who rTrcWinCtrl true v = true → s.buffer.st ≠ 3 → ∃ t : State, exec (.bufferModeWrite who v) s = .next t ∧
        t.buffer.units = [] ∧ t.buffer.held = 0 ∧ t.buffer.out = s.buffer.out ∧ t.buffer.trigAt = none ∧
        t.buffer.st = (if bits v 1 0 = 0 then 0 else if bits v 1 0 = 2 then 2 else 1) ∧ t.sites = s.sites ∧ t.hubMem = s.hubMem)) ∧
    (∀ who : Who,
      (mayReg s who rTrcWinFire true 1 = false → exec (.trcWinFire who) s = .next s) ∧
      (mayReg s who rTrcWinFire true 1 = true → bufMode s ≠ 2 → exec (.trcWinFire who) s = .next s) ∧
      (mayReg s who rTrcWinFire true 1 = true → bufMode s = 2 → s.buffer.st ≠ 2 →
        exec (.trcWinFire who) s = .next (countF s rTrcWinStat 63 48 1)) ∧
      (mayReg s who rTrcWinFire true 1 = true → bufMode s = 2 → s.buffer.st = 2 → ∃ (t : State) (r : Rec), exec (.trcWinFire who) s = .next t ∧
        t.buffer = { s.buffer with st := 3, trigAt := some s.ht } ∧ t = pushLocal { s with buffer := t.buffer, freeCtr := t.freeCtr } r ∧ recType r = 0x0D ∧
        bit r.hdr 29 = true ∧ r.pay = [word s.ht]) ∧
      (mayReg s who rTrcBufRdata false 0 = true → ∀ k : Nat, k = keyWho who rTrcBufRaddr → ∀ a : Nat, a = (regGet s k rTrcBufRaddr).toNat →
        (a % max 1 (512 * bufBlocks s) ∉ s.buffer.bad → exec (.trcBufRdataRead ⟨who, 0⟩) s =
          .next (regPut s k rTrcBufRaddr (word ((a + 1) % 2 ^ 24)))) ∧
        ∃ t : State, exec (.trcBufRdataRead ⟨who, 2⟩) s = .next t ∧ regGet t k rTrcBufRaddr = word ((a + 1) % 2 ^ 24)) ∧
      (mayReg s who rTrcBufRdata false 0 = false → ∀ err : Fin 3, exec (.trcBufRdataRead ⟨who, err⟩) s = .next s)) ∧
    (s.buffer.rises = [] → exec .bufferTrigger s = .next s) ∧
    (∀ (t0 : Nat) (rest : List Nat), s.buffer.rises = t0 :: rest → bufMode s = 2 → s.buffer.st = 2 → ∃ (t : State) (r : Rec),
      exec .bufferTrigger s = .next t ∧ t.buffer = { s.buffer with rises := rest, st := 3, trigAt := some t0 } ∧
      t = pushLocal { s with buffer := t.buffer } r ∧ recType r = 0x0D ∧ bit r.hdr 29 = false ∧ r.pay = [word t0]) ∧
    (s.buffer.st ≠ 3 → exec .captureEnd s = .next s) ∧
    (s.buffer.st = 3 → s.buffer.full = false → regF s rTrcWinTmo 31 0 = 0 → exec .captureEnd s = .next s) ∧
    (s.buffer.st = 3 → (s.buffer.full = true ∨ regF s rTrcWinTmo 31 0 ≠ 0 ∧ ∃ t0 : Nat, s.buffer.trigAt = some t0 ∧
      t0 + regF s rTrcWinTmo 31 0 ≤ s.ht) → ∃ t : State, exec .captureEnd s = .next t ∧ t.buffer.st = 4 ∧ t.buffer.trigAt = none ∧
        LineRaised t 3 ∧ t.sites = s.sites) ∧
    (∀ bank : Fin 8, (bank.val ∈ s.buffer.out → exec (.bufferBankRetire bank) s = .next s) ∧
      (bank.val ∉ s.buffer.out → s.boot.recStop = false → ∃ t : State, exec (.bufferBankRetire bank) s = .next t ∧ t.buffer.out = s.buffer.out ++ [bank.val] ∧
        t.sites = s.sites ∧ t.parts = s.parts)) ∧
    (regF s rTrcSpillSize 23 0 = 0 ∨ mpBusy s .spill = true ∨ spillFull s = true ∧ bit (reg s rTrcSpillCtrl) 0 = false →
      exec .spillBlockWrite s = .next s) ∧
    (∀ x : Sink, x = getSink s 2 → regF s rTrcSpillSize 23 0 ≠ 0 → mpBusy s .spill = false → x.ringFull = false → 512 ≤ x.q.length →
      spillFull s = false → exec .spillBlockWrite s = .next (mpAsk (setSink s 2 (sinkDrop s.ht 2 512 x)) .spill true
        (4096 * bits (reg s rTrcSpillBase) 63 12 + 4096 * regF s rTrcSpillPtr 23 0) 32 (x.q.take 512)) ∧
        (x.wait = [] → (sinkDrop s.ht 2 512 x).q = x.q.drop 512))

/-- TAP_EDGE of an engine on no entry, failed, or on a site in reset changes nothing; on an enabled entry a tag that matches opens a
window under it, and with no tag elements count as untagged; in an open window elements of one format join it with their
indices. TAP_ROTATE of an engine on no entry takes the first candidate; on its only candidate it stays, and on an entry with no
candidate left it leaves it. DRIFT_COMPARE takes the waiting compare of its comparator and, with the comparator off, has no
other effect; a compare of another comparator waits. DRIFT_LEVEL_DEFERRED does nothing while no change waits or before 40 ht;
then the level inverts. -/
def Obligations.CardEnginesTakeWindows : Prop :=
  ∀ (s : State) (f : Nat) (x : Card), x = (getF s f).card → canonical s = true →
    (∀ e : TapEdge,
      (x.sel = none → exec (.tapEdge f e) s = .next s) ∧
      (∀ i j : Nat, x.sel = some (i, j) →
        (x.failed = true ∨ (getF s f).failed = true ∨ (getS s i).inReset = true → exec (.tapEdge f e) s = .next s) ∧
        (x.failed = false → (getF s f).failed = false → (getS s i).inReset = false →
          (∀ t0 : BitVec 56, e.tag = some t0 → e.cnt = 0 → e.fin = false → x.win = none → bit (ag s i (tsIdx aTsMatch j)) 63 = true →
            tagMatches (ag s i (tsIdx aTsMatch j)) t0 = true → ∃ (t : State) (w : Window), exec (.tapEdge f e) s = .next t ∧
            (getF t f).card.win = some w ∧ (getF t f).card.tag = some t0 ∧ w.tag = t0 ∧ w.n = 0 ∧
            w.cfg = ag s i (tsIdx aTsCfg j) ∧ t.sites = s.sites ∧ t.areg = s.areg) ∧
          (e.tag = none → e.fin = false → x.tag = none → 0 < e.cnt → exec (.tapEdge f e) s =
            .next (setCard s f { x with untag := min (x.untag + min e.cnt 64) (2 ^ 32 - 1), lastEdge := (tapRate s f i).2 })) ∧
          (∀ (t0 : BitVec 56) (w : Window), e.tag = none → e.fin = false → x.tag = some t0 → x.win = some w → 0 < e.cnt → e.cnt ≤ 64 →
            w.n + e.cnt < 2 ^ 32 → (tapRate s f i).1 = false → w.fmt = some e.fmt.toNat → (fmtWidth e.fmt.toNat).isSome = true →
            ∃ (t : State) (w2 : Window), exec (.tapEdge f e) s = .next t ∧ (getF t f).card.win = some w2 ∧ w2.n = w.n + e.cnt ∧
              w2.elems = w.elems ++ (List.range e.cnt).map (fun k => (w.n + k, e.lanes.getD k 0)) ∧ w2.xel = w.xel ∧ w2.tag = w.tag)))) ∧
    (x.failed = true ∨ (getF s f).failed = true → exec (.tapRotate f) s = .next s) ∧
    (x.failed = false → (getF s f).failed = false → x.sel = none → candidates s f = [] → exec (.tapRotate f) s = .next s) ∧
    (∀ (c : Nat × Nat) (l : List (Nat × Nat)), x.failed = false → (getF s f).failed = false → x.sel = none → candidates s f = c :: l →
      exec (.tapRotate f) s = .next (selectTap s f (some c))) ∧
    (∀ c : Nat × Nat, x.sel = some c → c ∈ candidates s f → (candidates s f).length ≤ 1 → exec (.tapRotate f) s = .next s) ∧
    (∀ c : Nat × Nat, x.failed = false → (getF s f).failed = false → x.sel = some c → x.win = none → candidates s f = [] →
      exec (.tapRotate f) s = .next (selectTap s f none)) ∧
    (s.funnel.drifts = [] → ∀ n : Fin 64, exec (.driftCompare n) s = .next s) ∧
    (∀ (n : Fin 64) (m : Nat) (sum : Rec) (parts : List Rec) (rest : List (Nat × List Rec)), s.funnel.drifts = (m, sum :: parts) :: rest →
      (m ≠ n.val → exec (.driftCompare n) s = .next s) ∧
      (m = n.val → bit (drfCtrl s n) 0 = false →
        exec (.driftCompare n) s = .next { s with funnel := { s.funnel with drifts := rest } }) ∧
      (m = n.val → ∃ t : State, exec (.driftCompare n) s = .next t ∧ t.funnel.drifts = rest ∧ t.sites = s.sites ∧ t.areg = s.areg)) ∧
    (∀ (ch : Fin 8) (d : Nat × Nat), tabWf (false, ⟨false, 0⟩) (getF s f).driftLv = true → d = tget (0, 0) (getF s f).drift (8 * f + ch.val) →
      (d.2 = 0 ∨ s.ht + 1 < d.1 + 40 → exec (.driftLevelDeferred f ch) s = .next s) ∧
      (d.2 ≠ 0 → d.1 + 40 ≤ s.ht + 1 → ∃ t : State, exec (.driftLevelDeferred f ch) s = .next t ∧
        tget (0, 0) (getF t f).drift (8 * f + ch.val) = (s.ht + 1, d.2 - 1) ∧
        (tget (false, ⟨false, 0⟩) (getF t f).driftLv (8 * f + ch.val)).1 =
          !(tget (false, ⟨false, 0⟩) (getF s f).driftLv (8 * f + ch.val)).1 ∧ t.sites = s.sites ∧ t.areg = s.areg))

/-- PERF_STROBE of a live site raises by one each counter in PERIOD or CMD mode whose strobe is new at this edge and which no agent
wrote at it. AO_BOUNDARY of a live Flyer in a new period with the table enabled snapshots the eight sums of its cluster; a
second in the same period changes nothing. AO_ENTRY_WRITE takes the snapshot once all its packets, two in careful mode, have
come; without a snapshot, and SAMPLE_EDGE with sampling off or a second one in a period, change nothing; a sample of an enabled
Bobbin makes one record and raises its sample number. RING_WRITE takes the oldest record and, with room, writes its units at WR,
which advances modulo the ring; with an empty queue it changes nothing. -/
def Obligations.CountersCountSnapshotAndSample : Prop :=
  ∀ s : State, canonical s = true →
    (∀ (site : Nat) (v : BitVec 32), wired s site = false ∨ (getS s site).failed = true → exec (.perfStrobe site v) s = .next s) ∧
    (∀ (site c k : Nat) (v : BitVec 32), c < 8 → k < 32 → wired s site = true → (getS s site).failed = false →
      (pcMode s site c = 1 ∨ pcMode s site c = 2) → pcStrobe s site c = k → (slotsOf s site).getLsbD (k / 8) = true →
      (getS s site).perfNow.getLsbD k = false → pcHeldAt s site c = false → ∃ t : State, exec (.perfStrobe site v) s = .next t ∧
      ag t site (aPc + c) = (if v.getLsbD k then word (((ag s site (aPc + c)).toNat + 1) % 2 ^ 48) else ag s site (aPc + c)) ∧
      t.parts = s.parts ∧ t.flyers = s.flyers) ∧
    (∀ (f : Nat) (x : Flyer), x = getF s f →
      (x.failed = true ∨ s.ht / aoPeriod * aoPeriod < max x.aoAt s.ring.aoFrom → exec (.aoBoundary f) s = .next s) ∧
      (x.failed = false → max x.aoAt s.ring.aoFrom ≤ s.ht / aoPeriod * aoPeriod → bit (reg s rCntAoCtrl) 31 = false →
        exec (.aoBoundary f) s = .next (setF s f { x with aoAt := s.ht + 1 })) ∧
      (x.failed = false → max x.aoAt s.ring.aoFrom ≤ s.ht / aoPeriod * aoPeriod → bit (reg s rCntAoCtrl) 31 = true → servedBy s f = some f → f < 256 → ∃ t : State, exec (.aoBoundary f) s = .next t ∧
        tget none (getF t f).snap f = some ⟨s.ht, sumsAt x (8 * f), 0⟩)) ∧
    (∀ cluster f : Nat, servedBy s cluster = some f → tget none (getF s f).snap cluster = none → exec (.aoEntryWrite cluster) s = .next s) ∧
    (∀ (cluster f : Nat) (sn : Snap), servedBy s cluster = some f → tget none (getF s f).snap cluster = some sn →
      tabWf none (getF s f).snap = true → ∃ t : State, exec (.aoEntryWrite cluster) s = .next t ∧ t.sites = s.sites ∧ t.areg = s.areg ∧
      (sn.left = 1 ∨ sn.left = 0 ∧ careful s = false → tget none (getF t f).snap cluster = none) ∧
      (sn.left = 0 → careful s = true → tget none (getF t f).snap cluster = some { sn with left := 1 } ∧ t.hubMem = s.hubMem) ∧
      (2 ≤ sn.left → tget none (getF t f).snap cluster = some { sn with left := sn.left - 1 } ∧ t.hubMem = s.hubMem)) ∧
    (∀ (cluster : Nat) (perf : List (Nat × BitVec 32)), bit (reg s rCntSmpCtrl) 0 = false → exec (.sampleEdge cluster perf) s = .next s) ∧
    (∀ cluster f i n : Nat, servedBy s cluster = some f → bit (reg s rCntSmpCtrl) 0 = true → n = max 1 (regF s rCntSmpCtrl 63 32) →
      (s.ht / n * n < max (tget 0 (getF s f).smpAt cluster) s.ring.smpFrom → exec (.sampleEdge cluster []) s = .next s) ∧
      (max (tget 0 (getF s f).smpAt cluster) s.ring.smpFrom ≤ s.ht / n * n → ((sitesOf s f).filter fun i => wiredCluster i = cluster) = [i] →
        bit (ag s i aCntBctrl) 0 = true → (getS s i).failed = false → emits s i = true → (getS s i).sample = none → ∃ (t : State) (r : Rec),
        exec (.sampleEdge cluster []) s = .next t ∧ (getS t i).sample = some (r, edgeOf s i) ∧ recType r = 0x0B ∧
        bits (ag t i aCntBstat) 31 0 = (bits (ag s i aCntBstat) 31 0 + 1) % 2 ^ 32)) ∧
    (s.ring.q = [] → exec .ringWrite s = .next s) ∧
    (∀ (r : Rec) (rest : List Rec), s.ring.q = r :: rest → ringSize s ≠ 0 → ringErr s = false → tget none s.ring.gaps (recSrc r) = none →
      recUnits r ≤ (regF s rCntRingPtr 55 32 + 2 * ringSize s - 1 - regF s rCntRingPtr 23 0) % ringSize s → ∃ t : State,
      exec .ringWrite s = .next t ∧ t.ring.q = rest ∧
      regF t rCntRingPtr 23 0 = (regF s rCntRingPtr 23 0 + recUnits r) % ringSize s ∧ t.sites = s.sites)

/-- HANK_MOUNT identifies MRAM: DURABLE is the highest number found, and the dump numbers follow the counter; NAND_MOUNT identifies
each fitted device or takes it out of service. XSPI_STATUS_POLL completes a program (the page is the block's next), an erase or
a read, and starts the next operation; XSPI_OP_TIMEOUT and the second XSPI_DQS_TIMEOUT end one in failure and count. While the
recovery engine runs NAND_BLOCK_RETIRE empties the block and MRAM_BANK_RETIRE takes the bank out of service and raises line 5;
wear levelling and patrol move a block to the least erased free one. HNK_PIN appends a copy of the newest entry, and HNK_RD_DATA
advances ADDR or fetches the page. DUMP_PROGRAM_START begins the oldest declaration, DUMP_TIMEOUT stops the dump's reads and
hands END with ABORT to the mover, and a dump's end sets DMP_STAT and raises line 2. -/
def Obligations.NandDevicesMountProgramAndRetire : Prop :=
  ∀ s : State, canonical s = true →
    (s.hank.mount = 0 → s.boot.inReset = false → banks s ≠ [] → ∃ t : State, exec .hankMount s = .next t ∧ t.hank.mount = 1 ∧
      t.hank.durable = highestCnum s ∧ t.hank.dumpNext = counter s 3 + 1 ∧ t.hank.pfw = (if s.hank.pinLow then 3 else 0)) ∧
    (s.hank.mount ≠ 0 → booting s = false → exec .hankMount s = .next s) ∧
    (s.hank.mount ≠ 1 → exec .nandMount s = .next s) ∧
    (s.hank.mount = 1 → ∃ t : State, exec .nandMount s = .next t ∧ t.hank.mount = 2 ∧ ∀ d : Nat, d < 2 → fitted s d = true →
      (getN s d).out = false → s.boot.recStop = false → ((getN t d).out = (!geomOk s || mirrorsGone s d)) ∧ ((getN t d).mounted = !(getN t d).out)) ∧
    (∀ (b : Fin 4), (b.val ∉ banks s → exec (.mramBankRetire b) s = .next s) ∧ (b.val ∈ banks s → s.boot.recStop = false → ∃ t : State,
      exec (.mramBankRetire b) s = .next t ∧ t.hank.retired = s.hank.retired ++ [b.val] ∧ LineRaised t 5 ∧
      (banks t = [] → t.hank.queue = [] ∧ t.hank.inq = []))) ∧
    (∀ (d : Fin 2) (n : Nand), n = getN s d → tabWf NBlk.fresh n.blks = true →
      (nandUp s d = false → (∀ done : Bool, exec (.xspiStatusPoll d done) s = .next s) ∧
        (∀ blk p corr : Nat, exec (.nandPatrol d blk p corr) s = .next s ∧ exec (.nandBlockRetire d blk) s = .next s) ∧
        exec (.nandWearLevel d) s = .next s ∧ (∀ c : Fin 4, c.val / 2 = d.val → exec (.xspiDqsTimeout c) s = .next s) ∧
        (s.hank.mount ≠ 1 ∨ fitted s d = false ∨ n.out = true ∨ s.ht < s.hank.mountAt + 4000000 → exec (.xspiOpTimeout d) s = .next s)) ∧
      (s.hank.mount = 1 → fitted s d = true → n.out = false → s.boot.recStop = false → s.hank.mountAt + 4000000 ≤ s.ht → ∃ t : State, exec (.xspiOpTimeout d) s = .next t ∧
        (getN t d).out = true) ∧
      (nandUp s d = true →
        (n.opKind ≠ 0 → exec (.xspiStatusPoll d false) s = .next s) ∧
        (n.opKind = 0 → s.hank.pfw = 0 → ∀ (b p : Nat), n.want = some (b, p) → ∃ t : State, exec (.xspiStatusPoll d true) s = .next t ∧
          (getN t d).opKind = 3 ∧ (getN t d).opBlk = b ∧ (getN t d).opPage = p ∧ (getN t d).opAt = s.ht) ∧
        (n.opKind = 1 → ∀ r : NStream, s.hank.stream = some r → ∃ t : State, exec (.xspiStatusPoll d true) s = .next t ∧
          (getB t d n.opBlk).pages = (getB s d n.opBlk).pages ++ [⟨n.seq, r.num, r.pidx, 0, n.buf, false⟩] ∧ (getN t d).seq = n.seq + 1) ∧
        (n.opKind = 2 → ∃ t : State, exec (.xspiStatusPoll d true) s = .next t ∧ (getB t d n.opBlk).pages = []) ∧
        (n.opKind = 3 → s.hank.pfw ≠ 0 → ∃ t : State, exec (.xspiStatusPoll d true) s = .next t ∧ (getN t d).opKind = 0 ∧
          (getN t d).want = none ∧ (getN t d).cache = some (n.opBlk, n.opPage)) ∧
        (s.hank.mount ≠ 1 → (n.opKind = 0 ∨ s.ht < n.opAt + opLimit n.opKind → exec (.xspiOpTimeout d) s = .next s) ∧
          (n.opAt + opLimit n.opKind ≤ s.ht → (n.opKind = 3 → ∃ t : State, exec (.xspiOpTimeout d) s = .next t ∧
              (getN t d).cacheBad = true ∧ (getN t d).opKind = 0 ∧ regF t rXspStat 63 48 = min (regF s rXspStat 63 48 + 1) 0xFFFF) ∧
            (n.opKind = 1 ∨ n.opKind = 2 → s.boot.recStop = false → ∃ t : State, exec (.xspiOpTimeout d) s = .next t ∧
              (getB t d n.opBlk).pages = [] ∧ (getN t d).opKind = 0 ∧ regF t rXspStat 63 48 = min (regF s rXspStat 63 48 + 1) 0xFFFF))) ∧
        (∀ c : Fin 4, c.val / 2 = d.val → (n.opKind ≠ 3 ∨ n.opPage % 2 ≠ c.val % 2 → exec (.xspiDqsTimeout c) s = .next s) ∧
          (n.opKind = 3 → n.opPage % 2 = c.val % 2 → ∃ t : State, exec (.xspiDqsTimeout c) s = .next t ∧
            regF t rXspStat 47 32 = min (regF s rXspStat 47 32 + 1) 0xFFFF ∧
            (n.dqsTried = false → getN t d = { n with dqsTried := true, opAt := s.ht }) ∧
            (n.dqsTried = true → (getN t d).cacheBad = true ∧ (getN t d).opKind = 0))) ∧
        (∀ blk : Nat, (s.integ.nBlocks ≤ blk ∨ (getB s d blk).state = 3 → exec (.nandBlockRetire d blk) s = .next s) ∧
          (blk < s.integ.nBlocks → (getB s d blk).state ≠ 3 → s.boot.recStop = false → ∃ t : State, exec (.nandBlockRetire d blk) s = .next t ∧
            (getB t d blk).pages = [])) ∧
        (∀ blk p corr : Nat, (s.hank.pfw ≠ 0 ∨ (getB s d blk).pages.length ≤ p ∨ (getB s d blk).state ≠ 2 ∧ corr ≤ 32 ∨
            n.erase.contains blk = true → exec (.nandPatrol d blk p corr) s = .next s) ∧
          (∀ c : Nat, s.hank.pfw = 0 → p < (getB s d blk).pages.length → (getB s d blk).state = 2 → n.erase.contains blk = false →
            leastErased s d ((freeBlocks s d).filter fun x => x ≠ blk) = some c → 24 < corr → corr ≤ 32 → ∃ t : State,
            exec (.nandPatrol d blk p corr) s = .next t ∧ (getN t d).erase = n.erase ++ [blk] ∧
            (getB t d c).pages.map NPage.data = ((getB s d blk).pages.filter fun y => !y.bad).map NPage.data)) ∧
        (∀ b c : Nat, leastErased s d ((blocksIn s d 2).filter fun x => !n.erase.contains x) = some b →
          leastErased s d ((freeBlocks s d).filter fun x => x ≠ b) = some c →
          ((eraseSpread s d ≤ regF s rHnkNandCfg 43 32 ∨ s.hank.pfw ≠ 0 ∨ (n.lastWl ≠ 0 ∧ s.ht + 1 < n.lastWl + 2 ^ 36)) →
            exec (.nandWearLevel d) s = .next s) ∧
          (regF s rHnkNandCfg 43 32 < eraseSpread s d → s.hank.pfw = 0 → n.lastWl = 0 ∨ n.lastWl + 2 ^ 36 ≤ s.ht + 1 → ∃ t : State,
            exec (.nandWearLevel d) s = .next t ∧ (getN t d).lastWl = s.ht + 1 ∧ (getN t d).erase = n.erase ++ [b])))) ∧
    (∀ (who : Who) (v : Word),
      (mayReg s who rHnkPin true v = false → exec (.hnkPinWrite who v) s = .next s) ∧
      (∀ e : List Word, mayReg s who rHnkPin true v = true → newestEntry s (bits v 31 0) = some e → exec (.hnkPinWrite who v) s =
        .next (submit s .dindex 9 (e.set 0 (setBits (e.getD 0 0) 23 23 (bits v 32 32))))) ∧
      (mayReg s who rHnkPin true v = true → newestEntry s (bits v 31 0) = none → exec (.hnkPinWrite who v) s = .next s)) ∧
    (∀ (who : Who) (k : Nat) (sel : Word), k = keyWho who rHnkRdSel → sel = regGet s k rHnkRdSel →
      (mayReg s who rHnkRdData false 0 = false → ∀ err : ReadErr, exec (.hnkRdDataRead ⟨who, err⟩) s = .next s) ∧
      (mayReg s who rHnkRdData false 0 = true → bits sel 63 60 ≠ 5 → ∀ err : ReadErr, ∃ t : State,
        exec (.hnkRdDataRead ⟨who, err⟩) s = .next t ∧ regGet t k rHnkRdSel = setBits sel 59 0 (bits sel 59 0 + 1) ∧
        (hankAddr s (bits sel 63 60) (bits sel 59 0) = none → t.nands = s.nands ∧
          t.hank = { s.hank with rdEcc := (hankUnit s (bits sel 63 60) (bits sel 59 0)).2 }) ∧
        ∀ a : Nat, hankAddr s (bits sel 63 60) (bits sel 59 0) = some a →
          t.hank.rdEcc = (if err.val = 2 ∨ a ∈ s.hank.bad then 2 else err.val) ∧
          (err.val ≠ 2 → a ∉ s.hank.bad → t.nands = s.nands ∧ t.hank = { s.hank with rdEcc := err.val })) ∧
      (∀ d : Nat, mayReg s who rHnkRdData false 0 = true → bits sel 63 60 = 5 → d = bits sel 59 59 → nandUp s d = true →
        bits sel 48 32 < s.integ.nBlocks → bits sel 23 16 < s.integ.nPages → (getN s d).cache ≠ some (bits sel 48 32, bits sel 23 16) →
        (getN s d).want = none → ∀ err : ReadErr, ∃ t : State, exec (.hnkRdDataRead ⟨who, err⟩) s = .next t ∧ t.regs = s.regs ∧
          (getN t d).want = some (bits sel 48 32, bits sel 23 16) ∧
          ((getN s d).opKind = 0 → s.hank.pfw = 0 → (getN t d).opKind = 3 ∧ (getN t d).opBlk = bits sel 48 32 ∧
            (getN t d).opPage = bits sel 23 16))) ∧
    (s.hang.queue = [] ∨ s.hang.running.isSome = true ∨ bit (reg s rHngCtrl) 0 = false → exec .dumpProgramStart s = .next s) ∧
    (∀ (d : Decl) (rest : List Decl), s.hang.queue = d :: rest → s.hang.running = none → bit (reg s rHngCtrl) 0 = true → d.part < 64 →
      ∃ t : State, exec .dumpProgramStart s = .next t ∧ t.hang.queue = rest ∧
        (∀ (w : Nat) (auto : Bool), dumpWhorl s = some (w, auto) → t.hang.running = some d ∧ t.hang.whorl = some w ∧
          t.hang.startAt = s.ht ∧ regF t rDmpStat 63 32 = d.num % 2 ^ 32) ∧
        (dumpWhorl s = none → t.hang.running = none ∧ bit t.hang.ended d.part = true)) ∧
    (s.hang.running = none ∨ s.hang.whorl = none → exec .dumpTimeout s = .next s) ∧
    (∀ (d : Decl) (w : Nat), s.hang.running = some d → s.hang.whorl = some w →
      (s.ht < s.hang.startAt + (reg s rDmpTmo).toNat ∨ s.hang.work.phase = .abort → exec .dumpTimeout s = .next s) ∧
      (s.hang.startAt + (reg s rDmpTmo).toNat ≤ s.ht → s.hang.work.phase ≠ .abort → ∃ t : State, exec .dumpTimeout s = .next t ∧
        t.hang.running = some d ∧ t.hang.work.phase = .abort ∧ t.hang.work.op = none ∧ t.hang.work.item = none ∧ t.hang.work.todo = [] ∧
        (s.hang.work.mram = false → ∃ e : Rec, t.hang.work.out.getLast? = some e ∧ isEnd e = true ∧ bit (e.pay.headD 0) 28 = true))) ∧
    (∀ (d : Decl) (w level flags : Nat) (t : State), d.part < 64 → level < 4 → flags < 16 → t = dumpFinish s w d level flags →
      t.hang.running = none ∧ t.hang.whorl = none ∧ regF t rDmpStat 31 30 = level ∧ regF t rDmpStat 29 26 = flags ∧
      LineRaised t 2 ∧ bit t.hang.ended d.part = true)

/-- A message taken in on a channel that is up adds the sequence numbers missed to IHB_CHn.LOST. PROBE is answered; PROBE_REPLY in
time yields the offset and the delay, late or foreign it changes nothing, and PROBE_TIMEOUT drops the exchanges that have waited
more than 8,000 ht. ELECT takes a better key with its distance and channel; ELECTION_CLOSE after 40,000 ht sets the parent and
the depth. TIME_ALIGN steps a root to MAXTIME + 400,000 ht and another hub by its offset; TIME_SELF_ALIGN steps a hub without a
channel, or after 8,000,000 ht. REFCLK_LOSS gives HOLDOVER and REFCLK_RETURN measures. A channel that comes up or goes down
raises line 5 and starts an election. NAME sets the shorter route; a hub's own number is a conflict. MSG enters the
destination's queue of 16 and raises line 11, or is forwarded; ACK ends the SEND with OK or LOCKED. -/
def Obligations.HubTimeElectionChannelsAndMessages : Prop :=
  ∀ s : State, canonical s = true →
    (∀ (ch : Fin 8) (lseq : BitVec 16), ((getC s ch).up = false → seqIn s ch lseq = s) ∧
      ((getC s ch).up = true → getC (seqIn s ch lseq) ch = { getC s ch with rxSeq := lseq + 1 } ∧ regF (seqIn s ch lseq) (rIhbCh + 8 * ch.val) 31 16 =
        min (regF s (rIhbCh + 8 * ch.val) 31 16 + (lseq - (getC s ch).rxSeq).toNat) 0xFFFF)) ∧
    (∀ (ch : Fin 8) (lseq : BitVec 16) (t1 : Word), ((getC s ch).up = false → exec (.probe ch lseq t1) s = .next s) ∧
      ((getC s ch).up = true → ∃ (t : State) (m : OutMsg), exec (.probe ch lseq t1) s = .next t ∧
        (getC t ch).out = (getC s ch).out ++ [m] ∧ bits m.hdr 63 60 = 3 ∧ m.pay = [t1, word s.ht, word s.ht])) ∧
    (∀ ch : Nat, s.time.parent = some ch →
      (s.time.nextEx ≤ s.ht → s.time.measuring = true ∧ s.time.exLeft ≠ 0 ∨
          s.time.measuring = false ∧ s.time.isNew = false ∧ bit (reg s rTimCtrl) 1 = true → ∃ t : State,
        exec .timeExchangeTick s = .next t ∧ t.time.exOut = s.time.exOut ++ [(s.ht, ch)] ∧ t.time.exLeft = s.time.exLeft - 1) ∧
      (s.ht < s.time.nextEx ∨ s.time.measuring = true ∧ s.time.exLeft = 0 ∨
          s.time.measuring = false ∧ (s.time.isNew = true ∨ bit (reg s rTimCtrl) 1 = false) →
        exec .timeExchangeTick s = .next s)) ∧
    (s.time.parent = none → exec .timeExchangeTick s = .next s) ∧
    ((∀ e : Nat × Nat, e ∈ s.time.exOut → s.ht ≤ e.1 + 8000) → exec .probeTimeout s = .next s) ∧
    ((∃ e : Nat × Nat, e ∈ s.time.exOut ∧ e.1 + 8000 < s.ht) → ∃ t : State, exec .probeTimeout s = .next t ∧
      t.time.exOut = (s.time.exOut.filter fun e => s.ht ≤ e.1 + 8000) ∧ t.ht = s.ht) ∧
    (s.time.exOut = [] → ∀ (ch : Fin 8) (lseq : BitVec 16) (t1 t2 t3 : Word),
      exec (.probeReply ch lseq t1 t2 t3) s = .next (seqIn s ch lseq)) ∧
    (∀ (sent c : Nat) (ch : Fin 8) (lseq : BitVec 16) (t1 t2 t3 : Word) (d theta : Int), s.time.exOut = [(sent, c)] →
      d = (((s.ht : Int) - sent) - ((t3.toNat : Int) - t2.toNat)) * 8 →
      theta = (((t2.toNat : Int) - sent) + ((t3.toNat : Int) - s.ht)) * 8 →
      (c ≠ ch.val ∨ t1 ≠ word sent ∨ sent + 8000 < s.ht → exec (.probeReply ch lseq t1 t2 t3) s = .next (seqIn s ch lseq)) ∧
      (c = ch.val → t1 = word sent → s.ht ≤ sent + 8000 → ∃ t : State, exec (.probeReply ch lseq t1 t2 t3) s = .next t ∧
        t.time.exOut = [] ∧ t.ht = s.ht ∧
        (s.time.measuring = true → s.time.exLeft ≠ 0 → t.time.exDone = s.time.exDone ++ [(d, theta)]) ∧
        (s.time.measuring = false → reg t rTimOffset = word (twos 64 theta) ∧ reg t rTimDelay = word (twos 32 d) ∧
          t.time.lastTheta = some (theta, s.ht)))) ∧
    (∀ who : Who, (isRoot s who 3 = false → exec (.timMeasure who) s = .next s ∧ exec (.ihbElect who) s = .next s) ∧
      (isRoot s who 3 = true → (s.time.parent ≠ none → ∃ t : State, exec (.timMeasure who) s = .next t ∧ t.time.measuring = true ∧
          t.time.exLeft = 8 ∧ t.time.exDone = []) ∧
        ∃ t : State, exec (.ihbElect who) s = .next t ∧ t.elect.active = true ∧ t.elect.cfg = some (ownKey s) ∧
          t.elect.pkg = some (ownKey s) ∧ t.elect.cfgHops = 0 ∧ t.elect.lastImp = s.ht ∧ t.time.slew = 0)) ∧
    (s.time.refLoss = true → exec .refclkLoss s = .next s ∧ ∃ t : State, exec .refclkReturn s = .next t ∧ t.time.refLoss = false ∧
      LineRaised t 5 ∧ (s.time.parent ≠ none → t.time.measuring = true ∧ t.time.exLeft = 8)) ∧
    (s.time.refLoss = false → exec .refclkReturn s = .next s ∧ ∃ t : State, exec .refclkLoss s = .next t ∧ t.time.refLoss = true ∧
      t.time.state = 3 ∧ t.time.trim = s.time.trim ∧ LineRaised t 5) ∧
    (∀ (ch : Fin 8) (lseq : BitVec 16) (m : ElectMsg), ((getC s ch).up = false → exec (.elect ch lseq m) s = .next s) ∧
      ((getC s ch).up = true → ∃ t : State, exec (.elect ch lseq m) s = .next t ∧ t.elect.active = true ∧ t.ht = s.ht ∧
        (s.elect.active = true → t.elect.maxTime = max s.elect.maxTime m.maxTime ∧ ∀ b : Key, s.elect.cfg = some b →
          (keyNum m.cfg < keyNum b → t.elect.cfg = some m.cfg ∧ t.elect.cfgHops = m.cfgHops + 1 ∧ t.elect.cfgCh = some ch.val ∧
            t.elect.lastImp = s.ht) ∧
          (keyNum b < keyNum m.cfg → t.elect.cfg = some b ∧ t.elect.cfgHops = s.elect.cfgHops ∧ t.elect.cfgCh = s.elect.cfgCh)))) ∧
    (s.elect.active = false ∨ s.ht < s.elect.lastImp + 40000 → exec .electionClose s = .next s) ∧
    (s.elect.active = true → s.elect.lastImp + 40000 ≤ s.ht → ∃ t : State, exec .electionClose s = .next t ∧ t.elect.active = false ∧
      t.time.parent = (if s.elect.pkgCh.isNone then s.elect.cfgCh else s.elect.pkgCh) ∧ t.time.depth = s.elect.cfgHops ∧ t.ht = s.ht) ∧
    (s.time.isNew = false ∨ electing s = true → exec .timeAlign s = .next s) ∧
    (s.time.isNew = true → electing s = false →
      (s.time.parent = none → ∃ t : State, exec .timeAlign s = .next t ∧ t.ht = max s.ht s.elect.maxTime + 400000 ∧
        t.time.isNew = false) ∧
      (s.time.parent ≠ none → (s.time.measuring = true ∨ s.time.lastTheta = none → exec .timeAlign s = .next s) ∧
        ∀ e : Int × Nat, s.time.measuring = false → s.time.lastTheta = some e → ∃ t : State, exec .timeAlign s = .next t ∧
          t.ht = s.ht + (e.1 / 16).toNat ∧ t.time.isNew = false)) ∧
    (s.time.isNew = false ∨ s.time.startedAt = none → exec .timeSelfAlign s = .next s) ∧
    (∀ t0 : Nat, s.time.isNew = true → s.time.startedAt = some t0 →
      (upChans s ≠ [] → s.ht < t0 + 8000000 → exec .timeSelfAlign s = .next s) ∧
      (upChans s = [] ∨ t0 + 8000000 ≤ s.ht → ∃ t : State, exec .timeSelfAlign s = .next t ∧
        t.ht = max s.ht s.elect.maxTime + 400000 ∧ t.time.isNew = false)) ∧
    (∀ ch : Fin 8,
      ((getC s ch).up = true ∨ s.integ.channels.getLsbD ch = false → exec (.channelUp ch) s = .next s) ∧
      ((getC s ch).up = false → s.integ.channels.getLsbD ch = true → ∃ t : State, exec (.channelUp ch) s = .next t ∧
        (getC t ch).up = true ∧ LineRaised t 5 ∧ t.elect.active = true) ∧
      ((getC s ch).up = false → exec (.channelDown ch) s = .next s) ∧
      ((getC s ch).up = true → ∃ t : State, exec (.channelDown ch) s = .next t ∧ (getC t ch).up = false ∧ (getC t ch).peer = 0 ∧
        LineRaised t 5 ∧ t.elect.active = true) ∧
      ∃ t : State, exec (.messageDiscard ch) s = .next t ∧
        regF t (rIhbCh + 8 * ch.val) 15 0 = min (regF s (rIhbCh + 8 * ch.val) 15 0 + 1) 0xFFFF) ∧
    (∀ (ch : Fin 8) (lseq : BitVec 16) (hub : BitVec 7) (hops : BitVec 16),
      (hub = 0 ∨ (getC s ch).up = false → exec (.name ch lseq hub hops) s = .next (seqIn s ch lseq)) ∧
      (hub ≠ 0 → (getC s ch).up = true → ∃ t : State, exec (.name ch lseq hub hops) s = .next t ∧
        (hub.toNat = regF s rIhbId 54 48 → t.routes = s.routes ∧ hub.toNat ∈ t.blockedNums ∧
          regF t rIhbStat 15 0 = min (regF s rIhbStat 15 0 + 1) 0xFFFF) ∧
        (hub.toNat ≠ regF s rIhbId 54 48 → (hops = 0 → (getC t ch).peer = hub) ∧
          (tget none s.routes hub.toNat = none → tget none t.routes hub.toNat = some ⟨ch.val, hops.toNat + 1⟩) ∧
          ∀ r : Route, tget none s.routes hub.toNat = some r →
            (hops.toNat + 1 < r.hops ∨ (hops.toNat + 1 = r.hops ∧ ch.val < r.ch) →
              tget none t.routes hub.toNat = some ⟨ch.val, hops.toNat + 1⟩) ∧
            (r.hops < hops.toNat + 1 ∨ (hops.toNat + 1 = r.hops ∧ r.ch ≤ ch.val) → t.routes = s.routes)))) ∧
    (∀ (who : Who) (v : Word), (isRoot s who 3 = false → exec (.ihbIdWrite who v) s = .next s) ∧
      (isRoot s who 3 = true → ∃ t : State, exec (.ihbIdWrite who v) s = .next t ∧ regF t rIhbId 54 48 = bits v 54 48 ∧
        regF t rIhbId 63 56 = bits v 63 56)) ∧
    (∀ (ch sch : Fin 8) (lseq : BitVec 16) (src dst : BitVec 7) (mtag : BitVec 32) (units : List Word) (own : Nat), own = regF s rIhbId 54 48 →
      ((getC s ch).up = false ∨ units = [] ∨ 64 < units.length → exec (.msg ch lseq src dst mtag sch units) s = .next (seqIn s ch lseq)) ∧
      ((getC s ch).up = true → units ≠ [] → units.length ≤ 64 → dst.toNat = own → own ≠ 0 → ∃ t : State,
        exec (.msg ch lseq src dst mtag sch units) s = .next t ∧
        ((getC s ch).rxq.length < 16 → (getC t ch).rxq = (getC s ch).rxq ++ [⟨src, sch, units⟩] ∧ LineRaised t 11) ∧
        (16 ≤ (getC s ch).rxq.length → (getC t ch).rxq = (getC s ch).rxq)) ∧
      ((getC s ch).up = true → units ≠ [] → units.length ≤ 64 → dst.toNat ≠ own →
        (routeTo s dst.toNat = none → exec (.msg ch lseq src dst mtag sch units) s = .next (seqIn s ch lseq)) ∧
        ∀ r : Nat, routeTo s dst.toNat = some r → exec (.msg ch lseq src dst mtag sch units) s =
          .next (chSend (seqIn s ch lseq) r 0 dst.toNat (word (mtag.toNat * 2 ^ 32 + sch.val) :: units) (some src.toNat)))) ∧
    (∀ (ch : Fin 8) (lseq : BitVec 16) (src dst : BitVec 7) (mtag : BitVec 32) (full : Bool) (own : Nat), own = regF s rIhbId 54 48 →
      ((getC s ch).up = false → exec (.ack ch lseq src dst mtag full) s = .next s) ∧
      ((getC s ch).up = true → dst.toNat ≠ own →
        (routeTo s dst.toNat = none → exec (.ack ch lseq src dst mtag full) s = .next (seqIn s ch lseq)) ∧
        ∀ r : Nat, routeTo s dst.toNat = some r → exec (.ack ch lseq src dst mtag full) s =
          .next (chSend (seqIn s ch lseq) r 1 dst.toNat [word (mtag.toNat * 2 ^ 32 + b2n full)] (some src.toNat))) ∧
      ((getC s ch).up = true → dst.toNat = own → own ≠ 0 →
        ((∀ n : Nat, n < 8 → ∀ q ∈ (getC s n).sends, q.mtag ≠ mtag) → exec (.ack ch lseq src dst mtag full) s = .next (seqIn s ch lseq)) ∧
        ∀ (n : Nat) (q : SendReq), n < 8 → (getC s n).sends = [q] → q.mtag = mtag → waited s q.opId = true →
          (∀ m : Nat, m < 8 → m ≠ n → ∀ x ∈ (getC s m).sends, x.mtag ≠ mtag) → ∃ t : State,
          exec (.ack ch lseq src dst mtag full) s = .next t ∧
          (getC t n).sends = [] ∧ t.arrivals = s.arrivals ++ [⟨q.opId, if full then .locked else .ok, 0, none, [], 0, none⟩]))

/-- A transfer raises one wire in each of nine groups, which read back as its 16 bits and sideband. PACKET_RECEIVE on a live link
keeps transfers that are no whole packet yet; a good packet in its turn moves the sequence on and is acknowledged, one already
taken is acknowledged again; one ahead of its turn, or a bad one, which counts in SPN_BADPKT, is answered with NAK. A link-
control flit that fails its CRC is ignored. LINK_ACK drops the packets taken and lets waiting ones into the retry buffer;
LINK_NAK and LINK_RETRY_TIMEOUT, after 2,000 ht, resend, and at 8 resends, 2 in careful mode or without the recovery engine, the
direction fails and line 5 rises. An entry link that fails moves its issuers to the next entry point with a new epoch;
ROUTE_REBUILD puts the repaired trees in force. EPOCH_CLOSE applies what was held. REDUCTION_SEND passes the node's answers to
its parent, or to the issuer. A write of SPN_MODE switches once every link has drained. A pulse before its echo is an overrun.
FLYER_PROBE unanswered three times is a takeover: with the recovery engine at work the east neighbour serves the cluster. Failed
Bobbins, Card engines and the recovery engine, and spare substitutions, show in health. -/
def Obligations.LinksRetryAndFailuresReroute : Prop :=
  ∀ s : State, canonical s = true → tabWf Link.fresh s.spine.links = true → tabWf 0 s.spine.epochs = true →
    tabWf 0x7F s.boot.repair = true →
    (∀ data side : Nat, data < 2 ^ 16 → side < 4 → allHold (transferWires data side) = true ∧ twoHigh (transferWires data side) = false ∧
      transferVal (transferWires data side) = (data, side)) ∧
    (∀ (l : Nat) (hd pd : List (BitVec 32)) (hs ps : List (BitVec 4)) (all : List (BitVec 36)) (x y : Link) (r : List (BitVec 36) × Wires),
      x = getLink s l → r = wireTake (wiresOf hd hs ++ wiresOf pd ps) x.wires → all = x.part ++ r.1 → y = { x with wires := r.2, part := [] } →
      (x.failed = true → exec (.packetReceive l hd hs pd ps) s = .next s) ∧
      (x.failed = false → r.2.groups ≠ 0 ∨ all.length % 4 ≠ 0 →
        exec (.packetReceive l hd hs pd ps) s = .next (setLink s l { x with wires := r.2, part := all })) ∧
      (∀ (hdr : Word) (side : Nat) (good : Bool) (pay : List (Word × Nat × Bool)) (lseq : BitVec 6), x.failed = false → r.2.groups = 0 →
        all.length % 4 = 0 → flitsOf all.length all = (hdr, side, good) :: pay → lseq = BitVec.ofNat 6 side → ∃ t : State,
        exec (.packetReceive l hd hs pd ps) s = .next t ∧ (∀ m : Nat, m ≠ l → getLink t m = getLink s m) ∧
        (packetOk hdr side pay good = true → t.regs = s.regs ∧ getLink t l =
          (if lseq = x.rxSeq then { y with rxSeq := x.rxSeq + 1, ctl := some (ctlFlit 1 x.rxSeq) }
            else if (lseq - x.rxSeq).toNat < 32 then { y with ctl := some (ctlFlit 2 x.rxSeq) }
            else { y with ctl := some (ctlFlit 1 (x.rxSeq - 1)) })) ∧
        (packetOk hdr side pay good = false → getLink t l = { y with ctl := some (ctlFlit 2 x.rxSeq) } ∧
          regF t rSpnBadpkt 63 0 = min (regF s rSpnBadpkt 63 0 + 1) (2 ^ 64 - 1)))) ∧
    (∀ (l : Nat) (flit : Word), (ctlSeq 1 flit = none → exec (.linkAck l flit) s = .next s) ∧
      (ctlSeq 2 flit = none → exec (.linkNak l flit) s = .next s)) ∧
    (∀ (l : Nat) (lseq : BitVec 6) (x : Link) (before after : List Pkt) (p : Pkt), x = getLink s l →
      (ctlSeq 1 (ctlFlit 1 lseq) = some lseq ∧ ctlSeq 2 (ctlFlit 2 lseq) = some lseq ∧ ctlSeq 2 (ctlFlit 1 lseq) = none) ∧
      ((∀ q ∈ x.retry, q.lseq ≠ lseq) → exec (.linkAck l (ctlFlit 1 lseq)) s = .next s ∧ exec (.linkNak l (ctlFlit 2 lseq)) s = .next s) ∧
      (x.retry = [] → exec (.linkRetryTimeout l) s = .next s) ∧
      (x.retry = before ++ p :: after → p.lseq = lseq → (∀ q ∈ before, q.lseq ≠ lseq) →
        (switching s = false → exec (.linkAck l (ctlFlit 1 lseq)) s = .next (setLink s l (linkFill 33 s.ht { x with retry := after }))) ∧
        (x.req = [] → x.rep = [] → x.pri = [] → linkFill 33 s.ht { x with retry := after } = { x with retry := after }) ∧
        (∀ n : Nat, n = (if careful s || s.boot.recStop then 2 else 8) →
          (p.n < n → ∃ t : State, exec (.linkNak l (ctlFlit 2 lseq)) s = .next t ∧
            getLink t l = { x with retry := (p :: after).map fun q => { q with n := q.n + 1, sent := s.ht } }) ∧
          (n ≤ p.n → x.failed = false → ∃ t : State, exec (.linkNak l (ctlFlit 2 lseq)) s = .next t ∧ (getLink t l).failed = true ∧
            (getLink t l).retry = [] ∧ LineRaised t 5) ∧
          (before = [] →
            (s.ht < p.sent + 2000 → exec (.linkRetryTimeout l) s = .next s) ∧
            (p.sent + 2000 ≤ s.ht → p.n < n → exec (.linkRetryTimeout l) s = .next (setLink s l
              { x with retry := x.retry.map fun q => { q with n := q.n + 1, sent := s.ht } })) ∧
            (p.sent + 2000 ≤ s.ht → n ≤ p.n → x.failed = false → ∃ t : State, exec (.linkRetryTimeout l) s = .next t ∧
              (getLink t l).failed = true ∧ (getLink t l).retry = [] ∧ LineRaised t 5))))) ∧
    (∀ (e : Fin 4) (out : Bool) (l : Nat), l = entryLink e (b2n out) →
      ((getLink s l).failed = true → exec (.entryLinkFail e out) s = .next s) ∧
      ((getLink s l).failed = false → ∃ t : State, exec (.entryLinkFail e out) s = .next t ∧ (getLink t l).failed = true ∧
        LineRaised t 5 ∧ (switching s = false → entryUp s ((e.val + 1) % 4) = true → ∀ i : Nat, i < 9 →
          (issuerEntry s i = e.val → issuerEntry t i = (e.val + 1) % 4 ∧ tget 0 t.spine.epochs i = (tget 0 s.spine.epochs i + 1) % 16) ∧
          (issuerEntry s i ≠ e.val → issuerEntry t i = issuerEntry s i ∧ tget 0 t.spine.epochs i = tget 0 s.spine.epochs i)))) ∧
    (s.spine.rebuild = false ∨ careful s = true ∨ s.boot.recStop = true → exec .routeRebuild s = .next s) ∧
    (s.spine.rebuild = true → careful s = false → s.boot.recStop = false → ∃ t : State, exec .routeRebuild s = .next t ∧
      t.spine.rebuild = false ∧ t.spine.built = true ∧ t.spine.removed = (repairTrees s 256 []).1 ∧
      t.spine.trees = (repairTrees s 256 []).2 ∧ ∀ i : Nat, i < 9 → tget 0 t.spine.epochs i =
        if sameTree (treesNow s) (repairTrees s 256 []).2 (issuerEntry s i) then tget 0 s.spine.epochs i
        else (tget 0 s.spine.epochs i + 1) % 16) ∧
    (∀ (f : Nat) (issuer : Fin 9) (epoch : Fin 16) (x : Flyer), x = getF s f →
      (x.failed = true ∨ tget 0 x.epochs issuer ≠ epoch.val ∨ tget 0 s.spine.epochs issuer = epoch.val →
        exec (.epochClose f issuer epoch) s = .next s) ∧
      (x.failed = false → tget 0 x.epochs issuer = epoch.val → tget 0 s.spine.epochs issuer ≠ epoch.val → ∀ s1 : State,
        s1 = setF s f { x with epochs := tput 0 x.epochs issuer ((epoch.val + 1) % 16) } →
        (x.heldOps = [] → exec (.epochClose f issuer epoch) s = .next (giveCredit s1 f issuer)) ∧
        ∀ o : Op, x.heldOps = [(issuer.val, o.iseq)] → (s.ops.filter fun q => q.issuer == issuer.val && q.iseq == o.iseq) = [o] →
          tabWf 0 x.epochs = true → o.issuer = issuer.val → o.epoch = (epoch.val + 1) % 16 →
          exec (.epochClose f issuer epoch) s = .next (giveCredit (receiveAt f s1 o) f issuer))) ∧
    (∀ (n : Nat) (issuer : Fin 9) (iseq : BitVec 16),
      (opOf s issuer iseq = none → exec (.reductionSend n issuer iseq) s = .next s) ∧
      ∀ (op : Op) (a : NodeAcc), opOf s issuer iseq = some op → op.issuer = issuer.val → op.iseq = iseq → a = getAcc s n issuer iseq →
        (op.one = true ∨ a.sent = true ∨ contributors op n = [] ∨
          ((∃ c ∈ contributors op n, c ∉ a.got) ∧ opLate s op n = false) → exec (.reductionSend n issuer iseq) s = .next s) ∧
        (op.one = false → a.sent = false → contributors op n ≠ [] → (∀ c ∈ contributors op n, c ∈ a.got) ∨ opLate s op n = true →
          ∀ reps : List Reply, reps = a.reps ++ partialReps s op n →
          (opParent op n = none → waited s op.id = true → ∃ t : State,
            exec (.reductionSend n issuer iseq) s = .next t ∧ t.arrivals = s.arrivals ++ [outcome s op reps]) ∧
          (∀ m : Nat, opParent op n = some m → m ≠ n → (getAcc s m issuer iseq).sent = false → n ∉ (getAcc s m issuer iseq).got →
            ∃ t : State, exec (.reductionSend n issuer iseq) s = .next t ∧
              (getAcc t n issuer iseq).sent = true ∧ (getAcc t m issuer iseq).got = (getAcc s m issuer iseq).got ++ [n] ∧
              (getAcc t m issuer iseq).reps = (getAcc s m issuer iseq).reps ++ reps))) ∧
    (∀ (who : Who) (v : Word), (isRoot s who 3 = false → exec (.spnModeWrite who v) s = .next s) ∧
      (isRoot s who 3 = true → ∃ t : State, exec (.spnModeWrite who v) s = .next t ∧ bit (reg t rSpnMode) 0 = bit v 0 ∧
        (drained s = true ∨ bit v 0 = careful s → careful t = bit v 0) ∧
        (drained s = false → bit v 0 ≠ careful s → careful t = careful s ∧ t.spine = s.spine))) ∧
    (∀ index items k : Nat, k = keyObj index rSpnXingStat →
      (crossingIn index = false → exec (.queueResync index items) s = .next s ∧ exec (.crossingOverrun index) s = .next s) ∧
      (∀ n : Nat, crossingIn index = true → n = xqItems (xqWrote (getXq s index) items) →
        (getXq s index = XQueue.fresh → items < 65536 → n = items) ∧
        (0 < n → ∃ t : State, exec (.queueResync index items) s = .next t ∧
          bits (regGet t k rSpnXingStat) 47 32 = min (bits (regGet s k rSpnXingStat) 47 32 + n) 0xFFFF ∧
          bit (regGet t k rSpnXingStat) 1 = true)) ∧
      (crossingIn index = true → pulseBusy (getPulse s index) = true → ∃ t : State, exec (.crossingOverrun index) s = .next t ∧
          bits (regGet t k rSpnXingStat) 63 48 = min (bits (regGet s k rSpnXingStat) 63 48 + 1) 0xFFFF ∧
          bit (regGet t k rSpnXingStat) 0 = true ∧ t.pulses = s.pulses) ∧
      (crossingIn index = true → pulseBusy (getPulse s index) = false → exec (.crossingOverrun index) s = .next (setPulse s index
        { getPulse s index with toggle := !(getPulse s index).toggle, at_ := crossingNow s index }))) ∧
    (∀ (f : Nat) (x : Flyer), x = getF s f →
      (clusterIn s f = false ∨ x.failed = true → exec (.flyerTakeover f) s = .next s ∧ ∀ b : Bool, exec (.flyerProbe f b) s = .next s) ∧
      (∀ e : Nat, clusterIn s f = true → x.failed = false → careful s = false → e < 4 → (hopsTo s e f).isSome = true →
        exec (.flyerProbe f true) s = .next (setF s f { x with probes := 0 }) ∧
        (x.probes < 2 → exec (.flyerProbe f false) s = .next (setF s f { x with probes := x.probes + 1 })) ∧
        (2 ≤ x.probes → exec (.flyerProbe f false) s = exec (.flyerTakeover f) (setF s f { x with probes := 3 }))) ∧
      (clusterIn s f = true → x.failed = false → ∃ t : State, exec (.flyerTakeover f) s = .next t ∧ (getF t f).failed = true ∧
        (getF t f).declared = some s.ht ∧ LineRaised t 5 ∧
        (s.boot.recStop = false → f % 16 < 15 → clusterIn s (f + 1) = true → (getF s (f + 1)).failed = false → servedBy t f = some (f + 1))) ∧
      (clusterIn s f = false ∨ x.card.failed = true → exec (.cardEngineFail f) s = .next s) ∧
      (clusterIn s f = true → x.card.failed = false → ∃ t : State, exec (.cardEngineFail f) s = .next t ∧
        (getF t f).card.failed = true ∧ (getF t f).card.win = none ∧ (getF t f).card.sel = none ∧ LineRaised t 5)) ∧
    (∀ site : Nat, (wired s site = false ∨ (getS s site).failed = true → exec (.bobbinFail site) s = .next s) ∧
      (wired s site = true → (getS s site).failed = false → ∃ t : State, exec (.bobbinFail site) s = .next t ∧
        (getS t site).failed = true ∧ (getS t site).ri = [] ∧ (getS t site).lm = [] ∧ LineRaised t 5)) ∧
    (s.boot.recStop = true → exec .recoveryEngineFail s = .next s) ∧
    (s.boot.recStop = false → ∃ t : State, exec .recoveryEngineFail s = .next t ∧ t.boot.recStop = true ∧ t.spine.rebuild = false ∧
      LineRaised t 5) ∧
    (∀ (row : Fin 64) (v : BitVec 7) (n : Nat), n = (if v.toNat < 64 then v.toNat else 0x7F) →
      (n = tget 0x7F s.boot.repair row ∨ bit s.integ.spareRows row = false ∨ s.integ.rows ≤ row.val →
        exec (.repairSample row v) s = .next s) ∧
      (n ≠ tget 0x7F s.boot.repair row → bit s.integ.spareRows row = true → row.val < s.integ.rows → ∃ t : State,
        exec (.repairSample row v) s = .next t ∧ tget 0x7F t.boot.repair row = n ∧ LineRaised t 5))

/-- In the hub's reset no two-wire event acts, and in the port's RESET a header is counted and not answered. A first RD or RDN
answers WAIT and keeps the address, TWP_READ_COMPLETE holds the result or a fault, and the repeated header takes it; a write
acts at once where its CRC-8 is that of its data. Read data carry their CRC-8. STICKY gives FAULT 7, a refused address 2, rights
1, a bad write CRC 4, an access past 40,000 ht 3. STATUS answers at once, ABORT clears STICKY and CAUSE and drops the read, a
line reset gives level 0. The doorbells raise lines 7 and 8. A host request is answered by NOADDR, RIGHTS or its access, in
order, a write of the map once its changes have acted; a timeout makes the newest answer FAILED; a response that has waited
4,000,000 ht stalls the port and raises line 13; HOST_PORT_RESET discards the answers and resynchronises crossing 2049. -/
def Obligations.ThePortsAnswerRequests : Prop :=
  ∀ s : State, canonical s = true →
    (∀ (a : BitVec 21) (v : Word) (k : BitVec 8) (c : Instr), c ∈ [Instr.twpRd a, .twpRdn a, .twpWr a v k, .twpWrn a v k, .twpStatus a,
        .twpAbort a] →
      (s.boot.inReset = true → exec c s = .next s ∧ exec .twpLineReset s = .next s ∧ exec .twpActivate s = .next s ∧
        exec .twpRequestTimeout s = .next s) ∧
      (s.boot.inReset = false → s.twp.st = .reset → exec .twpRequestTimeout s = .next s ∧ ∃ t : State, exec c s = .next t ∧
        t.twp = { s.twp with ans := TwpSaid 0 0 } ∧ regF t rTwpStat 47 32 = min (regF s rTwpStat 47 32 + 1) 0xFFFF)) ∧
    (∀ (hdr : BitVec 34) (bad : Bool), bad = (hdr.getLsbD 33 || hdr.extractLsb' 25 8 != hdrCrc hdr) →
      (hdr.getLsbD 0 = false ∨ bad = false ∧ (hdr.extractLsb' 1 3).toNat < 6 ∨ s.boot.inReset = true →
        exec (.twpHeaderReject hdr) s = .next s) ∧
      (hdr.getLsbD 0 = true → bad = true → s.boot.inReset = false → ∃ t : State, exec (.twpHeaderReject hdr) s = .next t ∧
        t.twp = { s.twp with ans := TwpSaid 0 0 } ∧ regF t rTwpStat 47 32 = min (regF s rTwpStat 47 32 + 1) 0xFFFF) ∧
      (hdr.getLsbD 0 = true → bad = false → 6 ≤ (hdr.extractLsb' 1 3).toNat → s.boot.inReset = false → s.twp.st = .idle →
        ∃ t : State, exec (.twpHeaderReject hdr) s = .next t ∧ (twpBusy s = true → t.twp.ans.ack = 10) ∧
        (twpBusy s = false → t.twp.ans.ack = 12 ∧ regF t rTwpStat 15 8 = 6 ∧ twpSticky t = true))) ∧
    (s.boot.inReset = false → exec .twpActivate s = .next { s with twp := { s.twp with st := .idle, everOn := true } } ∧
      ∃ t : State, exec .twpLineReset s = .next t ∧ t.twp.st = .reset ∧ t.twp.pend = none ∧ t.twp.done = none ∧ unlockLevel t = 0 ∧
        twpSticky t = false ∧ regF t rTwpStat 15 8 = 0) ∧
    (s.boot.inReset = false → s.twp.st = .idle →
      (∃ t : State, exec .twpRequestTimeout s = .next t ∧ regF t rTwpStat 63 48 = min (regF s rTwpStat 63 48 + 1) 0xFFFF) ∧
      (∃ t : State, exec (.twpStatus 0) s = .next t ∧ t.twp.ans = TwpSaid 6 (regRead (twpOther s) .twp rTwpStat).1) ∧
      (∃ t : State, exec (.twpAbort 0) s = .next t ∧ t.twp.ans.ack = 6 ∧ t.twp.pend = none ∧ t.twp.done = none ∧
        regF t rTwpStat 15 8 = 0 ∧ twpSticky t = false) ∧
      (∀ (a : BitVec 21) (v : Word) (k : BitVec 8) (c : Instr), a ≠ 0 → (c = .twpStatus a ∨ c = .twpAbort a) ∨
          (twpBusy s = false ∧ twpSticky s = false ∧ ((c = .twpRdn a ∧ s.twp.pend ≠ some (2, a)) ∨ c = .twpWrn a v k)) →
        ∃ t : State, exec c s = .next t ∧ t.twp.ans.ack = 12 ∧ regF t rTwpStat 15 8 = 2 ∧ twpSticky t = true) ∧
      (∀ (c : Instr) (op : Nat) (a eff : BitVec 21) (s2 : State),
        (c = .twpRd a ∧ op = 0 ∧ eff = a) ∨ (c = .twpRdn a ∧ a = 0 ∧ op = 2 ∧ eff = s.twp.prev + 1) →
        s2 = { s with twp := { s.twp with pend := none, done := none, prev := eff } } →
        (s.twp.pend = some (op, a) → ∃ t : State, exec c s = .next t ∧ t.twp.pend = s.twp.pend ∧ t.twp.done = s.twp.done ∧
          (s.twp.done = none → t.twp.ans = TwpSaid 10 0) ∧ (s.twp.done = some none → t.twp.ans = TwpSaid 12 0) ∧
          ∀ v : Word, s.twp.done = some (some v) → t.twp.ans = TwpSaid 6 v) ∧
        (s.twp.pend ≠ some (op, a) → twpBusy s = true → exec c s = .next { s with twp := { s.twp with ans := TwpSaid 10 0 } }) ∧
        (s.twp.pend ≠ some (op, a) → twpBusy s = false → twpSticky s = false → (winRead s2 .twp (8 * eff.toNat)).1 = 0 →
          exec c s = .next { s2 with twp := { s2.twp with pend := some (op, a), startAt := s.ht, ans := TwpSaid 10 0 } }) ∧
        (s.twp.pend ≠ some (op, a) → twpBusy s = false → twpSticky s = true ∨ (winRead s2 .twp (8 * eff.toNat)).1 ≠ 0 → ∃ t : State,
          exec c s = .next t ∧ t.twp.ans = TwpSaid 12 0 ∧ twpSticky t = true ∧ regF t rTwpStat 15 8 =
            if twpSticky s then 7 else if (winRead s2 .twp (8 * eff.toNat)).1 = 1 then 1 else 2)) ∧
      (∀ (c : Instr) (a eff : BitVec 21) (v : Word) (crc : BitVec 8) (s2 : State),
        (c = .twpWr a v crc ∧ eff = a) ∨ (c = .twpWrn a v crc ∧ a = 0 ∧ eff = s.twp.prev + 1) →
        s2 = { s with twp := { s.twp with pend := none, done := none, prev := eff } } →
        (twpBusy s = true → exec c s = .next { s with twp := { s.twp with ans := TwpSaid 10 0 } }) ∧
        (twpBusy s = false → twpSticky s = false → (winWrite s2 .twp (8 * eff.toNat) v 0xFF).1 = 0 → crc = crc8 (sentBits v) →
          exec c s = .next (twpSay (winWrite s2 .twp (8 * eff.toNat) v 0xFF).2 6 0)) ∧
        (twpBusy s = false → twpSticky s = true ∨ (winWrite s2 .twp (8 * eff.toNat) v 0xFF).1 ≠ 0 ∨ crc ≠ crc8 (sentBits v) → ∃ t : State,
          exec c s = .next t ∧ t.twp.ans = TwpSaid 12 0 ∧ twpSticky t = true ∧ regF t rTwpStat 15 8 =
            if twpSticky s then 7 else if (winWrite s2 .twp (8 * eff.toNat) v 0xFF).1 = 0 then 4
            else if (winWrite s2 .twp (8 * eff.toNat) v 0xFF).1 = 1 then 1 else 2))) ∧
    (∀ done : Bool, (twpBusy s = false → exec (.twpReadComplete done) s = .next s) ∧
      (twpBusy s = true → s.twp.startAt + 40000 < s.ht ∨ done = false ∨ (winRead s .twp (8 * s.twp.prev.toNat)).1 ≠ 0 → ∃ t : State,
        exec (.twpReadComplete done) s = .next t ∧ t.twp = { s.twp with done := some none } ∧ twpSticky t = true ∧
        regF t rTwpStat 15 8 = if s.twp.startAt + 40000 < s.ht then 3 else 5) ∧
      (twpBusy s = true → s.ht ≤ s.twp.startAt + 40000 → done = true → (winRead s .twp (8 * s.twp.prev.toNat)).1 = 0 → ∃ t : State,
        exec (.twpReadComplete done) s = .next t ∧ t.twp.done = some (some (winRead s .twp (8 * s.twp.prev.toNat)).2.1))) ∧
    (∀ v : Word, (mayWriteMail s .twp 0x10FF8 = false → exec (.twpDoor v) s = .next s) ∧
      (mayWriteMail s .twp 0x10FF8 = true → ∃ t : State, exec (.twpDoor v) s = .next t ∧ LineRaised t 7) ∧
      (mayWriteMail s .root 0x12FF8 = false → exec (.hostDoor v) s = .next s) ∧
      (mayWriteMail s .root 0x12FF8 = true → ∃ t : State, exec (.hostDoor v) s = .next t ∧ LineRaised t 8)) ∧
    (∀ (wr : Bool) (a : BitVec 21) (strb : BitVec 8) (v : Word) (cls : Fin 4) (ten : BitVec 8) (o : Nat), o = 8 * a.toNat →
      (hostReady s = false → exec (.hostRequest wr a strb v cls ten) s = .next s) ∧
      (hostReady s = true →
        (inWindow o = false → ∃ t : State, exec (.hostRequest wr a strb v cls ten) s = .next t ∧
          t.host.resp = s.host.resp ++ [⟨wr, 2, 0, []⟩]) ∧
        (inWindow o = true → strbBad o wr strb = true → ∃ t : State, exec (.hostRequest wr a strb v cls ten) s = .next t ∧
          t.host.resp = s.host.resp ++ [⟨wr, 2, 0, []⟩] ∧ regF t rHptStat 47 32 = min (regF s rHptStat 47 32 + 1) 0xFFFF) ∧
        (inWindow o = true → strbBad o wr strb = false → 2 ≤ cls.val → ∃ t : State,
          exec (.hostRequest wr a strb v cls ten) s = .next t ∧ t.host.resp = s.host.resp ++ [⟨wr, 1, 0, []⟩]) ∧
        (∀ who : Who, inWindow o = true → strbBad o wr strb = false →
          (cls.val = 0 ∧ who = .root) ∨ (cls.val = 1 ∧ who = .tenant ten.toNat) → ∃ t : State,
          exec (.hostRequest wr a strb v cls ten) s = .next t ∧
          (wr = true → t.host.resp = (winWrite s who o v strb).2.host.resp ++ [⟨true, (winWrite s who o v strb).1, 0,
            (mapOwed (winWrite s who o v strb).2).filter fun g => !(mapOwed s).contains g⟩]) ∧
          (wr = false → t.host.resp = (winRead s who o).2.2.host.resp ++ [⟨false, (winRead s who o).1,
            if (winRead s who o).1 = 0 then (winRead s who o).2.1 else 0, []⟩])))) ∧
    (s.host.resp = [] → exec .hostAccessTimeout s = .next s ∧ exec .hostResponseStall s = .next s) ∧
    (∀ (l : List HostResp) (r : HostResp), s.host.resp = l ++ [r] → (r.resp ≠ 0 → exec .hostAccessTimeout s = .next s) ∧
      (r.resp = 0 → ∃ t : State, exec .hostAccessTimeout s = .next t ∧
        t.host.resp = l ++ [⟨r.wr, 3, 0, []⟩] ∧ regF t rHptStat 63 48 = min (regF s rHptStat 63 48 + 1) 0xFFFF) ∧
      (hostValid s = false ∨ s.host.stall = true ∨ s.ht < s.host.since + 4000000 → exec .hostResponseStall s = .next s) ∧
      (hostValid s = true → s.host.stall = false → s.host.since + 4000000 ≤ s.ht → ∃ t : State, exec .hostResponseStall s = .next t ∧
        t.host.stall = true ∧ LineRaised t 13)) ∧
    (hostValid s = true → exec .hostResponseTake s = .next (hostGive { s with host := ⟨s.host.resp.drop 1, false, s.ht⟩ })) ∧
    (hostValid s = false → exec .hostResponseTake s = .next s) ∧
    (∃ (t : State) (k : Nat), k = keyObj 2049 rSpnXingStat ∧ exec .hostPortReset s = .next t ∧ t.host = ⟨[], false, s.ht⟩ ∧
      bits (regGet t k rSpnXingStat) 47 32 =
        min (bits (regGet s k rSpnXingStat) 47 32 + xqItems (xqWrote (getXq s 2049) s.host.resp.length)) 0xFFFF)

/-- MPT_ACC_GO with GO asks for one access unless the copy is BUSY. MP_REQUEST_ISSUE ends a request outside [MPT_LO, MPT_HI) in
error and issues one that finds tokens and a tag, the lowest free. A read's last beat frees the tag and gives MPT_ACC_DATA the
unit of the address; a write completion ends an indirect access, moves the spill pointer and the blocks the ring holds, or the
dump's USED; a dump read's last beat gives the program its words and errors; an access past TMO ends in error and quarantines
its tag, whose late completion is counted and frees it. LANE_FRAME_SEND sends up to 126 units on the stream's next lane under
the next FSEQ, LANE_IDLE_FRAME a frame with NW 0 once the lane has sent none for 400 ht. A lane comes into service when enabled,
and a lane that is down or stalled leaves it (with the recovery engine stopped it is only reported), counted and shown in
health. -/
def Obligations.TheMasterPortAndTheTraceLanesMoveData : Prop :=
  ∀ s : State, canonical s = true → tabWf none s.master.rd = true → tabWf none s.master.wrt = true →
    (∀ (who : Who) (v : Word), (mayReg s who rMptAccCtrl true v = false → exec (.mptAccGo who v) s = .next s) ∧
      (mayReg s who rMptAccCtrl true v = true → ∃ t : State, exec (.mptAccGo who v) s = .next t ∧
        (bit v 0 = false ∨ accState s who = 1 → t.master = s.master) ∧
        (bit v 0 = true → accState s who ≠ 1 → accState t who = 1 ∧ t.master.waiting = s.master.waiting ++
          [⟨.indirect who, bit v 1, 8 * bits v 63 3, 1, if bit v 1 then [regGet s (keyWho who rMptAccData) rMptAccData] else [],
            0, [], false, false, [], false⟩]))) ∧
    (dRoute s ≠ 2 → bit (reg s rMptCfg) 63 = false ∨ s.master.waiting = [] → exec .mpRequestIssue s = .next s) ∧
    (∀ q : MpReq, dRoute s ≠ 2 → bit (reg s rMptCfg) 63 = true → s.master.waiting = [q] →
      (∀ who : Who, mpRange s q = false → q.client = .indirect who → ∃ t : State, exec .mpRequestIssue s = .next t ∧
        t.master.waiting = [] ∧ accState t who = 3 ∧ regF t rMptStat2 63 48 = min (regF s rMptStat2 63 48 + 1) 0xFFFF ∧
        t.master.rd = s.master.rd ∧ t.master.wrt = s.master.wrt) ∧
      (∀ tag : Nat, mpRange s q = true → regF s rMptRate 11 0 ≠ 0 → 4096 * q.beats ≤ tokensNow s → freeTag s q.wr = some tag →
        ∃ t : State, exec .mpRequestIssue s = .next t ∧ t.master.waiting = [] ∧
          tget none (tagsOf t q.wr) tag = some { q with issued := s.ht } ∧ tokensNow t = tokensNow s - 4096 * q.beats) ∧
      (mpRange s q = true → regF s rMptRate 11 0 = 0 ∨ tokensNow s < 4096 * q.beats ∨ freeTag s q.wr = none →
        exec .mpRequestIssue s = .next s)) ∧
    (∀ (tag : BitVec 8) (last : Bool) (data : List Word) (err : Fin 4),
      (tget none s.master.rd tag.toNat = none → exec (.mpReadBeat tag last data err) s = .next s) ∧
      (tget none s.master.wrt tag.toNat = none → exec (.mpWriteCompletion tag err) s = .next s) ∧
      (∀ q : MpReq, tget none s.master.rd tag.toNat = some q → q.quar = true →
        exec (.mpReadBeat tag false data err) s = .next s ∧ ∃ t : State, exec (.mpReadBeat tag true data err) s = .next t ∧
          tget none t.master.rd tag.toNat = none ∧ regF t rMptStat 15 0 = min (regF s rMptStat 15 0 + 1) 0xFFFF) ∧
      (∀ q : MpReq, tget none s.master.wrt tag.toNat = some q → q.quar = true → ∃ t : State,
        exec (.mpWriteCompletion tag err) s = .next t ∧ tget none t.master.wrt tag.toNat = none ∧
        regF t rMptStat 15 0 = min (regF s rMptStat 15 0 + 1) 0xFFFF) ∧
      (∀ (q : MpReq) (who : Who), tget none s.master.rd tag.toNat = some q → q.quar = false → q.client = .indirect who →
        q.wr = false → q.got = [] → q.bad = false → data.length = 16 →
        (∃ (t : State) (q1 : MpReq), exec (.mpReadBeat tag false data err) s = .next t ∧
          tget none t.master.rd tag.toNat = some q1 ∧ q1.got = data ∧ q1.bad = decide (2 ≤ err.val)) ∧
        ∃ t : State, exec (.mpReadBeat tag true data err) s = .next t ∧ tget none t.master.rd tag.toNat = none ∧
          (2 ≤ err.val → accState t who = 3 ∧ regF t rMptStat 63 48 = min (regF s rMptStat 63 48 + 1) 0xFFFF) ∧
          (err.val < 2 → accState t who = 2 ∧
            regGet t (keyWho who rMptAccData) rMptAccData = data.getD (q.addr % 128 / 8) 0)) ∧
      (∀ q : MpReq, tget none s.master.rd tag.toNat = some q → q.quar = false → q.client = .dump → q.wr = false → q.got = [] →
        q.ue = [] → q.dec = false → q.beats = 1 → data.length = 16 → ∃ t : State, exec (.mpReadBeat tag true data err) s = .next t ∧
          tget none t.master.rd tag.toNat = none ∧ t.hang.work.rd = some (data.map fun d => (d, err.val == 2), err.val == 3)) ∧
      (∀ q : MpReq, tget none s.master.wrt tag.toNat = some q → q.quar = false → q.wr = true → ∃ t : State,
        exec (.mpWriteCompletion tag err) s = .next t ∧ tget none t.master.wrt tag.toNat = none ∧
        (∀ who : Who, q.client = .indirect who → accState t who = if 2 ≤ err.val then 3 else 2) ∧
        (q.client = .spill → err.val < 2 → regF t rTrcSpillPtr 23 0 =
          (regF s rTrcSpillPtr 23 0 + 1) % max 1 (regF s rTrcSpillSize 23 0) ∧
          t.funnel.spillHeld = min (max 1 (regF s rTrcSpillSize 23 0)) (s.funnel.spillHeld + 1)) ∧
        (q.client = .spill → 2 ≤ err.val → t.funnel = s.funnel) ∧
        (q.client = .dump → err.val < 2 → t.hang.blocks = s.hang.blocks + 1 ∧
          regF t rDmpWinStat 55 32 = (s.hang.blocks + 1) % 2 ^ 24) ∧
        (2 ≤ err.val → regF t rMptStat 47 32 = min (regF s rMptStat 47 32 + 1) 0xFFFF ∧ t.hang = s.hang))) ∧
    (∀ (wr : Bool) (tag : BitVec 8),
      (tget none (tagsOf s wr) tag.toNat = none → exec (.mpTimeout wr tag) s = .next s) ∧
      ∀ q : MpReq, tget none (tagsOf s wr) tag.toNat = some q →
        (q.quar = true ∨ s.ht < q.issued + regF s rMptCfg 31 0 → exec (.mpTimeout wr tag) s = .next s) ∧
        (q.quar = false → q.issued + regF s rMptCfg 31 0 ≤ s.ht → ∃ t : State, exec (.mpTimeout wr tag) s = .next t ∧
          tget none (tagsOf t wr) tag.toNat = some { q with quar := true } ∧
          regF t rMptStat 31 16 = min (regF s rMptStat 31 16 + 1) 0xFFFF ∧
          (∀ who : Who, q.client = .indirect who → accState t who = 3) ∧ (quarantined t wr = 256 → LineRaised t 13))) ∧
    (bit (reg s rTptCtrl) 0 = false → dRoute s ≠ 1 → ∀ d : Bool, exec (.laneFrameSend d) s = .next s) ∧
    (dRoute s ≠ 1 → exec (.laneFrameSend true) s = .next s ∧
      (nextLane s false (streamLanes s false) = none ∨ (getSink s 1).q.length < 2 → exec (.laneFrameSend false) s = .next s) ∧
      ∀ (lane k : Nat), bit (reg s rTptCtrl) 0 = true → nextLane s false (streamLanes s false) = some lane →
        k = min 126 ((getSink s 1).q.length / 2 * 2) → 0 < k → ∃ (t : State) (f : LaneFrame),
        exec (.laneFrameSend false) s = .next t ∧ (getL t lane).hist.getLast? = some f ∧ f.fseq = regF s rTptFseq 31 0 ∧
        (getL t lane).lastAt = s.ht ∧ f.pay.length = 126 ∧ f.pay.take k = (getSink s 1).q.take k ∧ hdrNw f.hdr = k / 2 ∧
        regF t rTptFseq 31 0 = (regF s rTptFseq 31 0 + 1) % 2 ^ 32) ∧
    (∀ (n : Fin 16) (x : Lane), x = getL s n →
      (bit (reg s rTptCtrl) 0 = false ∨ x.inSvc = false ∨ s.ht < x.lastAt + 400 → exec (.laneIdleFrame n) s = .next s) ∧
      (bit (reg s rTptCtrl) 0 = true → x.inSvc = true → x.lastAt + 400 ≤ s.ht → dRoute s ≠ 1 → ∃ (t : State) (f : LaneFrame),
        exec (.laneIdleFrame n) s = .next t ∧ (getL t n).hist.getLast? = some f ∧ hdrNw f.hdr = 0 ∧
        regF t rTptFseq 31 0 = (regF s rTptFseq 31 0 + 1) % 2 ^ 32 ∧ t.funnel = s.funnel) ∧
      (s.integ.lanes.getLsbD n = false → exec (.laneInService n) s = .next s) ∧
      (s.integ.lanes.getLsbD n = true → x.inSvc = true ∨ bit (reg s rTptCtrl) (16 + n.val) = false →
        exec (.laneInService n) s = .next (setL s n { x with up := true })) ∧
      (s.integ.lanes.getLsbD n = true → x.inSvc = false → bit (reg s rTptCtrl) (16 + n.val) = true → ∃ t : State,
        exec (.laneInService n) s = .next t ∧ (getL t n).inSvc = true ∧ (getL t n).up = true ∧ LineRaised t 5) ∧
      (x.inSvc = false → exec (.laneDown n) s = .next (setL s n { x with up := false }) ∧ exec (.laneStall n) s = .next s) ∧
      (x.inSvc = true → s.boot.recStop = true → (∃ t : State, exec (.laneDown n) s = .next t ∧ (getL t n).inSvc = true ∧
          (getL t n).up = false ∧ LineRaised t 5) ∧ ∃ t : State, exec (.laneStall n) s = .next t ∧ (getL t n).inSvc = true ∧
          regF t rTptErr 47 32 = min (regF s rTptErr 47 32 + 1) 0xFFFF ∧ LineRaised t 5) ∧
      (x.inSvc = true → s.boot.recStop = false → (∃ t : State, exec (.laneDown n) s = .next t ∧ (getL t n).inSvc = false ∧ (getL t n).up = false ∧
          regF t rTptErr 63 48 = min (regF s rTptErr 63 48 + 1) 0xFFFF ∧ LineRaised t 5) ∧
        ∃ t : State, exec (.laneStall n) s = .next t ∧ (getL t n).inSvc = false ∧
          regF t rTptErr 47 32 = min (regF s rTptErr 47 32 + 1) 0xFFFF ∧
          regF t rTptErr 63 48 = min (regF s rTptErr 63 48 + 1) 0xFFFF ∧ LineRaised t 5))

/-- RGT_CHAL_NEW draws a nonce, or with a failed source none and a health change; RGT_RESP_SUBMIT without an outstanding nonce,
under lockout or while a check runs is refused, else the check begins; RESPONSE_CHECK ends the nonce and sets LEVEL to REQ or
counts the refusal, the eighth giving a lockout of 2^(38 + k) ht; the nonce lapses after 2^36 ht and a lockout ends. A REQ or
MAXLEVEL below LEVEL lowers it. HUB_RESET keeps hub time, its trim, the refusals, the lockout, the stored units, DMP_STAT.NUM
and the spine page's counts, and sets the other registers to their reset values, and clears hub memory and the Whorls;
POWER_ON_RESET restarts hub time at 0 and clears the counts too (the model's choice, log entry 78). HUB_RESET_RELEASE starts ROM
program 0 on the lowest Whorl, or without a good ROM ends at stage 0xFE; a stage that times out puts its Whorl OUT; BOOT_RELEASE
ends the debug boot hold at stage 11. -/
def Obligations.UnlockingResetsAndStartUp : Prop :=
  ∀ s : State, canonical s = true →
    (∀ who : Who, (∀ b : Bool, mayReg s who rRgtChal true 1 = false → exec (.rgtChalNew who b) s = .next s) ∧
      (mayReg s who rRgtChal true 1 = true → (∃ t : State, exec (.rgtChalNew who true) s = .next t ∧ nonceValid t = true ∧
          t.unlock = { s.unlock with nonce := Config.nonce s.freeCtr, nonceAt := s.ht } ∧ t.freeCtr = s.freeCtr + 1) ∧
        ∃ t : State, exec (.rgtChalNew who false) s = .next t ∧ nonceValid t = false ∧ t.unlock.nonce = 0 ∧ LineRaised t 5)) ∧
    (∀ (who : Who) (v : Word), (mayReg s who rRgtRespHi true v = false → exec (.rgtRespSubmit who v) s = .next s) ∧
      (mayReg s who rRgtRespHi true v = true →
        (s.unlock.check ≠ none ∨ s.unlock.lockEnd ≠ none ∨ nonceValid s = false → ∃ t : State,
          exec (.rgtRespSubmit who v) s = .next t ∧ t.unlock = s.unlock ∧ unlockLevel t = unlockLevel s ∧
          regF t rRgtUnlock 63 48 = min (regF s rRgtUnlock 63 48 + 1) 0xFFFF) ∧
        (s.unlock.check = none → s.unlock.lockEnd = none → nonceValid s = true → exec (.rgtRespSubmit who v) s =
          .next { s with unlock := { s.unlock with check := some (v ++ s.unlock.respLo, s.unlock.nonce) } }))) ∧
    (s.unlock.check = none → exec .responseCheck s = .next s) ∧
    (∀ resp nonce : BitVec 128, s.unlock.check = some (resp, nonce) → ∃ t : State, exec .responseCheck s = .next t ∧
      t.unlock.check = none ∧ t.unlock.nonce = 0 ∧ nonceValid t = false ∧
      (responsePasses s resp nonce = true → unlockLevel t = regF s rRgtUnlock 3 2 ∧ t.unlock.refusals = 0 ∧ t.unlock.lockNo = 0 ∧
        t.unlock.lockEnd = s.unlock.lockEnd) ∧
      (responsePasses s resp nonce = false → unlockLevel t = unlockLevel s ∧
        regF t rRgtUnlock 63 48 = min (regF s rRgtUnlock 63 48 + 1) 0xFFFF ∧
        (s.unlock.refusals < 7 → t.unlock.refusals = s.unlock.refusals + 1 ∧ t.unlock.lockEnd = s.unlock.lockEnd) ∧
        (7 ≤ s.unlock.refusals → t.unlock.refusals = 0 ∧ t.unlock.lockEnd = some (s.ht + 2 ^ (38 + min 4 s.unlock.lockNo)) ∧
          t.unlock.lockNo = s.unlock.lockNo + 1))) ∧
    (nonceValid s = false ∨ s.ht < s.unlock.nonceAt + 2 ^ 36 → exec .nonceLapse s = .next s) ∧
    (nonceValid s = true → s.unlock.nonceAt + 2 ^ 36 ≤ s.ht → ∃ t : State, exec .nonceLapse s = .next t ∧ nonceValid t = false ∧
      t.unlock = { s.unlock with nonce := 0 } ∧ unlockLevel t = unlockLevel s) ∧
    (s.unlock.lockEnd = none → exec .lockoutEnd s = .next s) ∧
    (∀ e : Nat, s.unlock.lockEnd = some e → (s.ht < e → exec .lockoutEnd s = .next s) ∧
      (e ≤ s.ht → exec .lockoutEnd s = .next { s with unlock := { s.unlock with lockEnd := none } })) ∧
    (∀ (who : Who) (v : Word), (mayReg s who rRgtUnlock true v = false → exec (.rgtUnlockWrite who v) s = .next s) ∧
      (mayReg s who rRgtUnlock true v = true → ∃ t : State, exec (.rgtUnlockWrite who v) s = .next t ∧
        regF t rRgtUnlock 3 2 = bits v 3 2 ∧ unlockLevel t = if 0 < bits v 3 2 ∧ bits v 3 2 < unlockLevel s then bits v 3 2
          else unlockLevel s) ∧
      (mayReg s who rRgtPolicy true v = false → exec (.rgtPolicyWrite who v) s = .next s) ∧
      (mayReg s who rRgtPolicy true v = true → ∃ t : State, exec (.rgtPolicyWrite who v) s = .next t ∧
        regF t rRgtPolicy 1 0 = bits v 1 0 ∧ unlockLevel t = min (bits v 1 0) (unlockLevel s)) ∧
      (isRoot s who 3 = false ∨ bit v 1 = false ∨ bit (reg s rIdBoot) 2 = false → exec (.bootRelease who v) s = .next s) ∧
      (isRoot s who 3 = true → bit v 1 = true → bit (reg s rIdBoot) 2 = true → ∃ t : State,
        exec (.bootRelease who v) s = .next t ∧ regF t rIdBoot 15 8 = 11 ∧ bit (reg t rIdBoot) 2 = false ∧
        bit (reg t rIdBoot) 0 = true)) ∧
    (∀ c : Instr, c = .hubReset ∨ c = .powerOnReset → ∃ t : State, exec c s = .next t ∧ t.pending = s.pending ∧ (∀ key : Nat, keptMask key = 0 → tget 0 t.regs key = 0) ∧
      regF t rDmpStat 63 32 = regF s rDmpStat 63 32 ∧ regF t rDmpStat 31 0 = bits (regReset rDmpStat) 31 0 ∧
           t.areg = [] ∧ t.hubMem = [] ∧ t.whorls = [] ∧ t.parts = [] ∧ t.flyers = [] ∧ t.boot.inReset = true ∧ t.hubIrq = false ∧
      t.hank.units = s.hank.units ∧ t.hank.mount = 0 ∧ t.integ = s.integ ∧ (∀ d : Nat, (getN t d).blks = (getN s d).blks) ∧
      (c = .hubReset → (∀ o : Nat, o ∈ [rSpnLate, rSpnDup, rSpnBadpkt, rSpnTrcUe] → reg t o = reg s o) ∧ t.ht = s.ht ∧ t.time.isNew = s.time.isNew ∧ t.time.trim = s.time.trim ∧
        t.unlock.refusals = s.unlock.refusals ∧ t.unlock.lockEnd = s.unlock.lockEnd) ∧
      (c = .powerOnReset → (∀ o : Nat, o ≠ rDmpStat → tget 0 t.regs o = 0) ∧ t.ht = 0 ∧ t.time.isNew = true ∧ t.unlock.refusals = 0 ∧ t.unlock.lockEnd = none)) ∧
    (s.boot.inReset = false → exec .hubResetRelease s = .next s) ∧
    (s.boot.inReset = true → ∃ t : State, exec .hubResetRelease s = .next t ∧ t.boot.inReset = false ∧ t.boot.releasedAt = s.ht ∧
      (s.integ.romOk = false → regF t rIdBoot 15 8 = 0xFE ∧ bit (reg t rIdBoot) 0 = true ∧ t.boot.whorl = none) ∧
      (s.integ.romOk = true → (getW s 0).st ≠ .out → s.hank.mount = 0 → regF t rIdBoot 15 8 = 9 ∧ t.boot.whorl = some 0 ∧
        (getW t 0).st = .running ∧ (getW t 0).rom = some 0)) ∧
    (s.boot.whorl = none → exec .bootStageTimeout s = .next s) ∧
    (∀ w : Nat, s.boot.whorl = some w →
      (regF s rIdBoot 15 8 ≠ 9 ∨ s.ht < s.boot.releasedAt + 120000000 * (s.boot.restarts + 1) → exec .bootStageTimeout s = .next s) ∧
      (regF s rIdBoot 15 8 = 9 → s.boot.releasedAt + 120000000 * (s.boot.restarts + 1) ≤ s.ht → ∃ t : State,
        exec .bootStageTimeout s = .next t ∧ (getW t w).st = .out ∧ t.boot.restarts = s.boot.restarts + 1))

/-- Each of the six AGA commands, from a requester that reaches the block, takes the operation from the requester's own registers.
While STATE is BUSY it only counts in AGA_REFUSED. With the path busy it joins the queue; with the path free and idle an
operation that fails a check or names no agent is DONE at once with that status, and any other becomes the current one with the
next operation number. AGA_COMPLETE of an arrived outcome frees the path with STATE DONE, STATUS, COUNT and, for OK and PARTIAL,
AGA_RDATA; AGA_TIMEOUT at the deadline gives TIMEOUT with COUNT all ones. Without an operation, an outcome or a passed deadline
they change nothing. -/
def Obligations.TheBarePathRunsOneOperationAtATime : Prop :=
  ∀ s : State, canonical s = true →
    (∀ (who : Who) (v : Word) (n : Nat) (c : Instr) (a : AgaOp),
      (n, c) ∈ [(1, Instr.agaAgentWrite who v), (2, .agaAgentRead who v), (3, .agaLmWrite who v), (4, .agaLmRead who v),
        (5, .agaCregRead who v), (6, .agaCregWrite who v)] →
      a = ⟨who, agaCmdOf v n, agaReg s who rAgaSetHi ++ agaReg s who rAgaSetLo, agaReg s who rAgaWdata, agaReg s who rAgaLmd,
        bits (agaReg s who rAgaDl) 47 0⟩ →
      (mayReg s who rAgaCmd true v = false → exec c s = .next s) ∧
      (mayReg s who rAgaCmd true v = true → agaState s who = 1 → ∃ t : State, exec c s = .next t ∧ t.aga = s.aga ∧
        agaState t who = 1 ∧ bits (agaReg t who rAgaRefused) 15 0 = min (bits (agaReg s who rAgaRefused) 15 0 + 1) 0xFFFF) ∧
      (mayReg s who rAgaCmd true v = true → agaState s who ≠ 1 →
        (s.aga.cur ≠ none → ∃ t : State, exec c s = .next t ∧ t.aga = { s.aga with q := s.aga.q ++ [a] } ∧ agaState t who = 1 ∧
          t.ops = s.ops) ∧
        (s.aga.cur = none → s.aga.q = [] →
          (∀ st : Status, agaBad s a = some st → ∃ t : State, exec c s = .next t ∧ t.aga = s.aga ∧ agaState t who = 2 ∧
            bits (agaReg t who rAgaStat) 15 8 = statusCode st ∧ t.ops = s.ops) ∧
          (agaBad s a = none → ∃ t : State, exec c s = .next t ∧ t.aga.cur = some a ∧ t.aga.q = [] ∧ t.aga.opId = s.opCtr ∧
            agaState t who = 1 ∧ t.opCtr = s.opCtr + 1)))) ∧
    (∀ (a : AgaOp) (id : Nat), (agaOpOf s a id).issuer = 8 ∧ (agaOpOf s a id).owner = .aga ∧
      (cmdOp a.cmd = 1 → (agaOpOf s a id).type = .write ∧ (agaOpOf s a id).reg = bits a.cmd 15 8 ∧ (agaOpOf s a id).data = [a.wdata]) ∧
      (cmdOp a.cmd = 2 → (agaOpOf s a id).type = .read ∧ (agaOpOf s a id).reg = bits a.cmd 15 8 ∧ (agaOpOf s a id).red = cmdRed a.cmd) ∧
      (cmdOp a.cmd = 3 → (agaOpOf s a id).type = .lmWrite) ∧ (cmdOp a.cmd = 4 → (agaOpOf s a id).type = .lmRead) ∧
      (cmdOp a.cmd = 5 → (agaOpOf s a id).type = .read ∧ (agaOpOf s a id).reg = 0x80 + cmdCreg a.cmd % 128) ∧
      (cmdOp a.cmd = 6 → (agaOpOf s a id).type = .write ∧ (agaOpOf s a id).reg = 0x80 + cmdCreg a.cmd % 128)) ∧
    (s.aga.cur = none ∨ arrived s s.aga.opId = none → exec .agaComplete s = .next s) ∧
    (s.aga.cur = none ∨ s.aga.dl = none → exec .agaTimeout s = .next s) ∧
    (∀ a : AgaOp, s.aga.cur = some a → s.aga.q = [] →
      (∀ r : Arrival, arrived s s.aga.opId = some r → ∃ t : State, exec .agaComplete s = .next t ∧ t.aga.cur = none ∧
        agaState t a.who = 2 ∧ bits (agaReg t a.who rAgaStat) 15 8 = statusCode r.status ∧
        bits (agaReg t a.who rAgaStat) 63 32 = r.count.toNat ∧
        (∀ v : Word, r.result = some v → r.status = .ok ∨ r.status = .partial_ → agaReg t a.who rAgaRdata = v)) ∧
      (∀ d : Nat, s.aga.dl = some d → (s.ht < d → exec .agaTimeout s = .next s) ∧
        (d ≤ s.ht → ∃ t : State, exec .agaTimeout s = .next t ∧ t.aga.cur = none ∧ agaState t a.who = 2 ∧
          bits (agaReg t a.who rAgaStat) 15 8 = 3 ∧ bits (agaReg t a.who rAgaStat) 63 32 = 0xFFFFFFFF)))

/-- A health change adds 1 to HLT_GEN, raises line 5 and writes one HEVT record: code 0xB00, ARG [7:0] the kind, ARG [23:8] the
unit, payload 0 the hub time, payload 1 holding 1 when the unit left service and 0 when it entered it. The record goes to the
funnel's local input, or waits, or is counted when 64 hub events wait already. A failing recovery engine, a trace link and a
channel that goes down end in such a change. -/
def Obligations.HealthChangesAreReported : Prop :=
  (∀ (s t : State) (kind unit : Nat) (left : Bool) (r : Rec), canonical s = true → kind < 256 → unit < 2 ^ 16 → t = healthChange s kind unit left →
    r = mkRec (srcDistaff 11) 8 0 (0xB00 * 2 ^ 24 + unit * 2 ^ 8 + kind) [word s.ht, if left then 1 else 0] →
    regF t rHltGen 31 0 = (regF s rHltGen 31 0 + 1) % 2 ^ 32 ∧ LineRaised t 5 ∧
    (s.funnel.held = [] → localFits s r = true → t.funnel = { s.funnel with local_ := s.funnel.local_ ++ [r] }) ∧
    (s.funnel.held ≠ [] ∨ localFits s r = false → (s.funnel.held.filter fun x => recType x == 8).length < 64 →
      t.funnel = { s.funnel with held := s.funnel.held ++ [r] }) ∧
    (64 ≤ (s.funnel.held.filter fun x => recType x == 8).length →
      t.funnel = { s.funnel with overflow := min (s.funnel.overflow + 1) 0xFFFF })) ∧
  (∀ s : State, s.boot.recStop = true → exec .recoveryEngineFail s = .next s) ∧
  (∀ s : State, s.boot.recStop = false → exec .recoveryEngineFail s = .next (healthChange
    { s with boot := { s.boot with recStop := true }, spine := { s.spine with rebuild := false } } 17 0 true)) ∧
  (∀ (s : State) (n : Nat), clusterIn s n = true → (getF s n).trcFail = false → exec (.traceLinkFail n) s =
    .next (healthChange (setF s n { getF s n with trcFail := true }) 4 n true)) ∧
  (∀ (s : State) (ch : Fin 8), (getC s ch).up = true → exec (.channelDown ch) s = .next (timeUpdate (electStart (healthChange
    (hevt (setC s ch { getC s ch with up := false, peer := 0 }) 0xC02 ch.val []) 14 ch true))))

/-- A hub's own key holds NEW, which is 1 after a power-on reset and 0 from the first alignment, IHB_ID.PRIO and the low 48 bits of
the device identity. Keys compare by NEW, then PRIO, then DEVID. An ELECT message on a channel that is up replaces the best
configuration key of an election under way exactly when its key is lower, so a key of an aligned hub replaces any of a new one. -/
def Obligations.TheLowerKeyWins : Prop :=
  State.reset.time.isNew = true ∧
  (∀ s : State, ownKey s = ⟨s.time.isNew, (reg s rIhbId).extractLsb' 56 8, s.integ.devid.extractLsb' 0 48⟩ ∧
    (∃ t : State, exec .powerOnReset s = .next t ∧ t.time.isNew = true) ∧
    (s.time.isNew = true → electing s = false → s.time.parent = none → ∃ t : State, exec .timeAlign s = .next t ∧
      t.time.isNew = false)) ∧
  (∀ a b : Key, keyNum a < keyNum b ↔ (a.isNew = false ∧ b.isNew = true) ∨
    (a.isNew = b.isNew ∧ (a.prio < b.prio ∨ (a.prio = b.prio ∧ a.devid < b.devid)))) ∧
  (∀ (s t : State) (ch : Fin 8) (lseq : BitVec 16) (m : ElectMsg) (b : Key), (getC s ch).up = true → s.elect.active = true → s.elect.cfg = some b →
    exec (.elect ch lseq m) s = .next t → (keyNum m.cfg < keyNum b → t.elect.cfg = some m.cfg) ∧
      (¬ keyNum m.cfg < keyNum b → t.elect.cfg = some b) ∧
      (m.cfg.isNew = false → b.isNew = true → t.elect.cfg = some m.cfg))

/-- For every command and every state, exec answers a next state. It has the queue and the integration inputs of the old one. Hub
time changes only in the alignment commands, where it never falls, and in a power-on reset; the flag NEW changes only there too. -/
def Obligations.EveryCommandCompletes : Prop :=
  ∀ (i : Instr) (s : State), ∃ t : State, exec i s = .next t ∧ t.pending = s.pending ∧ t.integ = s.integ ∧
    (i ≠ .powerOnReset → s.ht ≤ t.ht) ∧
    (i ≠ .powerOnReset → i ≠ .timeAlign → i ≠ .timeSelfAlign → t.ht = s.ht ∧ t.time.isNew = s.time.isNew)

/-- From every state whose memories, registers and tables list their keys in rising order and no default value, and whose leases
name no common resource, a step that answers a next state keeps both. -/
def Obligations.EveryStepKeepsTheTablesCanonicalAndLeasesApart : Prop :=
  ∀ s t : State, canonical s = true → LeasesApart s → step s = .next t → canonical t = true ∧ LeasesApart t

end
end

