-- ==== Sys2Proof/Laws/Tab.lean ====
section
/-! SUPPORT. Sparse tables and byte memories: a read after a write, and that every operation keeps the canonical form. -/
namespace Sys2Proof.Machine

/-- The canonical form, one entry at a time. -/
theorem tabWf_cons {α : Type} [DecidableEq α] (d : α) (e : Nat × α) (t : Tab α) :
    tabWf d (e :: t) = true ↔ e.2 ≠ d ∧ (∀ f ∈ t, e.1 < f.1) ∧ tabWf d t = true := by
  induction t generalizing e with
  | nil => simp [tabWf]
  | cons f t ih =>
    rw [show tabWf d (e :: f :: t) = (decide (e.2 ≠ d) && decide (e.1 < f.1) && tabWf d (f :: t)) from rfl]
    simp only [Bool.and_eq_true, decide_eq_true_eq, List.mem_cons, forall_eq_or_imp]
    constructor
    · rintro ⟨⟨a, b⟩, c⟩
      exact ⟨a, ⟨b, fun g hg => lt_trans b (((ih f).1 c).2.1 g hg)⟩, c⟩
    · rintro ⟨a, ⟨b, _⟩, c⟩
      exact ⟨⟨a, b⟩, c⟩

/-- A key below every listed key reads the default. -/
theorem tget_lt {α : Type} (d : α) (t : Tab α) (k : Nat) (h : ∀ f ∈ t, k < f.1) : tget d t k = d := by
  induction t with
  | nil => rfl
  | cons e t ih =>
    have he := h e (by simp)
    rw [tget, if_neg (by omega)]
    exact ih fun f hf => h f (by simp [hf])

/-- What a write lists was listed or is what it writes. -/
theorem tput_mem {α : Type} [DecidableEq α] (d : α) (t : Tab α) (k : Nat) (v : α) (e : Nat × α)
    (h : e ∈ tput d t k v) : e = (k, v) ∨ e ∈ t := by
  induction t with
  | nil => by_cases hv : v = d <;> simp_all [tput]
  | cons f t ih =>
    simp only [tput] at h
    split at h
    · split at h <;> simp_all
    · split at h
      · split at h <;> simp_all
        tauto
      · simp only [List.mem_cons] at h ⊢
        tauto

/-- A read after a write. -/
theorem tget_tput {α : Type} [DecidableEq α] (d : α) (t : Tab α) (k j : Nat) (v : α) (h : tabWf d t = true) :
    tget d (tput d t k v) j = if j = k then v else tget d t j := by
  induction t with
  | nil =>
    by_cases hj : j = k
    · subst hj; by_cases hv : v = d <;> simp [tput, tget, hv]
    · by_cases hv : v = d <;> simp [tput, tget, hv, hj, Ne.symm hj]
  | cons e t ih =>
    obtain ⟨_, h2, h3⟩ := (tabWf_cons d e t).1 h
    simp only [tput]
    split
    next hlt =>
      have hd : tget d (e :: t) k = d := tget_lt d _ k (by
        intro f hf
        rcases List.mem_cons.1 hf with rfl | hf
        · exact hlt
        · exact lt_trans hlt (h2 f hf))
      split
      next hv =>
        subst hv
        by_cases hj : j = k
        · subst hj; simpa using hd
        · simp [hj]
      next hv =>
        by_cases hj : j = k
        · subst hj; simp [tget]
        · rw [tget, if_neg (Ne.symm hj), if_neg hj]
    next hlt =>
      split
      next heq =>
        subst heq
        split
        next hv =>
          subst hv
          by_cases hj : j = e.1
          · subst hj; simp [tget_lt _ t _ h2]
          · simp [tget, hj, Ne.symm hj]
        next hv =>
          by_cases hj : j = e.1
          · subst hj; simp [tget]
          · simp [tget, hj, Ne.symm hj]
      next hne =>
        simp only [tget, ih h3]
        by_cases hj : e.1 = j
        · have : j ≠ k := by omega
          simp [hj, this]
        · simp [hj]

/-- A read of another key after a write. -/
theorem tget_tput_ne {α : Type} [DecidableEq α] (d : α) (t : Tab α) (k j : Nat) (v : α) (h : j ≠ k) :
    tget d (tput d t k v) j = tget d t j := by
  induction t with
  | nil => by_cases hv : v = d <;> simp [tput, tget, hv, Ne.symm h]
  | cons e t ih =>
    simp only [tput]
    split
    · split
      · rfl
      · rw [tget, if_neg (Ne.symm h)]
    · split
      next heq => subst heq; split <;> simp [tget, Ne.symm h]
      · simp only [tget, ih]

/-- A read of the key written, when the value is not the default. -/
theorem tget_tput_self {α : Type} [DecidableEq α] (d : α) (t : Tab α) (k : Nat) (v : α) (h : v ≠ d) :
    tget d (tput d t k v) k = v := by
  induction t with
  | nil => simp [tput, tget, h]
  | cons e t ih =>
    simp only [tput, h, if_false]
    split
    · simp [tget]
    · split
      · simp [tget]
      next hne => rw [tget, if_neg (Ne.symm hne), ih]

/-- A write keeps the canonical form. -/
theorem tabWf_tput {α : Type} [DecidableEq α] (d : α) (t : Tab α) (k : Nat) (v : α) (h : tabWf d t = true) :
    tabWf d (tput d t k v) = true := by
  induction t with
  | nil => by_cases hv : v = d <;> simp [tput, tabWf, hv]
  | cons e t ih =>
    obtain ⟨h1, h2, h3⟩ := (tabWf_cons d e t).1 h
    simp only [tput]
    split
    next hlt =>
      split
      · exact h
      next hv =>
        refine (tabWf_cons _ _ _).2 ⟨hv, ?_, h⟩
        intro f hf
        rcases List.mem_cons.1 hf with rfl | hf
        · exact hlt
        · exact lt_trans hlt (h2 f hf)
    next hlt =>
      split
      next heq =>
        split
        · exact h3
        next hv => exact (tabWf_cons _ _ _).2 ⟨hv, by simpa [heq] using h2, h3⟩
      next hne =>
        refine (tabWf_cons _ _ _).2 ⟨h1, ?_, ih h3⟩
        intro f hf
        rcases tput_mem d t k v f hf with rfl | hf
        · show e.1 < k; omega
        · exact h2 f hf

/-- A change of every value keeps the canonical form. -/
theorem tabWf_tmap {α : Type} [DecidableEq α] (d : α) (f : α → α) (t : Tab α) (h : tabWf d t = true) :
    tabWf d (tmap d f t) = true := by
  induction t with
  | nil => rfl
  | cons e t ih =>
    obtain ⟨_, h2, h3⟩ := (tabWf_cons d e t).1 h
    have hc := ih h3
    simp only [tmap, List.map_cons, List.filter_cons] at hc ⊢
    split
    next hd =>
      refine (tabWf_cons _ _ _).2 ⟨by simpa using hd, ?_, hc⟩
      intro g hg
      have hg' := (List.mem_filter.1 hg).1
      obtain ⟨q, hq, rfl⟩ := List.mem_map.1 hg'
      exact h2 q hq
    · exact hc

/-- Removing entries keeps the canonical form. -/
theorem tabWf_filter {α : Type} [DecidableEq α] (d : α) (p : Nat × α → Bool) (t : Tab α) (h : tabWf d t = true) :
    tabWf d (t.filter p) = true := by
  induction t with
  | nil => rfl
  | cons e t ih =>
    obtain ⟨h1, h2, h3⟩ := (tabWf_cons d e t).1 h
    rw [List.filter_cons]
    split
    · exact (tabWf_cons _ _ _).2 ⟨h1, fun g hg => h2 g (List.mem_filter.1 hg).1, ih h3⟩
    · exact ih h3

/-- Two canonical tables that read alike are one table. -/
theorem tab_ext {α : Type} [DecidableEq α] (d : α) (t u : Tab α) (ht : tabWf d t = true) (hu : tabWf d u = true)
    (h : ∀ k, tget d t k = tget d u k) : t = u := by
  induction t generalizing u with
  | nil =>
    cases u with
    | nil => rfl
    | cons f u =>
      have := h f.1
      simp [tget] at this
      exact absurd this.symm ((tabWf_cons d f u).1 hu).1
  | cons e t ih =>
    obtain ⟨e1, e2, e3⟩ := (tabWf_cons d e t).1 ht
    cases u with
    | nil =>
      have := h e.1
      simp [tget] at this
      exact absurd this e1
    | cons f u =>
      obtain ⟨f1, f2, f3⟩ := (tabWf_cons d f u).1 hu
      have hk : e.1 = f.1 := by
        rcases lt_trichotomy e.1 f.1 with hlt | heq | hlt
        · have := h e.1
          rw [tget_lt d (f :: u) e.1 (by
            intro g hg
            rcases List.mem_cons.1 hg with rfl | hg
            · exact hlt
            · exact lt_trans hlt (f2 g hg))] at this
          simp [tget] at this
          exact absurd this e1
        · exact heq
        · have := h f.1
          rw [tget_lt d (e :: t) f.1 (by
            intro g hg
            rcases List.mem_cons.1 hg with rfl | hg
            · exact hlt
            · exact lt_trans hlt (e2 g hg))] at this
          simp [tget] at this
          exact absurd this.symm f1
      have hv : e.2 = f.2 := by
        have := h e.1
        simpa [tget, hk] using this
      have : e = f := Prod.ext hk hv
      subst this
      congr 1
      refine ih u e3 f3 fun k => ?_
      have := h k
      by_cases hke : e.1 = k
      · subst hke
        rw [tget_lt d t _ e2, tget_lt d u _ f2]
      · simpa [tget, hke] using this

/-! ### Byte memories -/

/-- A store keeps the canonical form. -/
theorem memWf_writeLe (m : List Host.Cell) (a n v : Nat) (h : memWf m = true) : memWf (writeLe m a n v) = true := by
  induction n generalizing m a v with
  | zero => exact h
  | succ n ih => exact ih _ _ _ (tabWf_tput _ _ _ _ h)

/-- A store of units keeps the canonical form. -/
theorem memWf_writeUnits (m : List Host.Cell) (a : Nat) (l : List Word) (h : memWf m = true) :
    memWf (writeUnits m a l) = true := by
  induction l generalizing m a with
  | nil => exact h
  | cons u us ih => exact ih _ _ (memWf_writeLe _ _ _ _ h)

/-- Every byte after a store. -/
theorem byte_writeLe (m : List Host.Cell) (a n v j : Nat) (h : memWf m = true) :
    tget 0 (writeLe m a n v) j = if a ≤ j ∧ j < a + n then BitVec.ofNat 8 (v / 256 ^ (j - a)) else tget 0 m j := by
  induction n generalizing m a v with
  | zero => rw [writeLe, if_neg (by omega)]
  | succ n ih =>
    rw [writeLe, ih _ _ _ (tabWf_tput _ _ _ _ h), tget_tput _ _ _ _ _ h]
    by_cases hj : j = a
    · subst hj; simp
    · by_cases hin : a + 1 ≤ j ∧ j < a + 1 + n
      · have hin' : a ≤ j ∧ j < a + (n + 1) := by omega
        obtain ⟨q, hq⟩ : ∃ q, j - a = q + 1 := ⟨j - a - 1, by omega⟩
        rw [if_pos hin, if_pos hin', show j - (a + 1) = q by omega, hq, pow_succ, Nat.div_div_eq_div_mul, Nat.mul_comm 256]
      · rw [if_neg hin, if_neg hj, if_neg (by omega)]

/-- A read depends on its bytes alone. -/
theorem readLe_congr (m m' : List Host.Cell) (a b n : Nat) (h : ∀ i < n, tget 0 m (a + i) = tget 0 m' (b + i)) :
    readLe m a n = readLe m' b n := by
  induction n generalizing a b with
  | zero => rfl
  | succ n ih =>
    have h0 := h 0 (by omega)
    simp only [Nat.add_zero] at h0
    rw [readLe, readLe, h0, ih (a + 1) (b + 1) fun i hi => by
      have := h (i + 1) (by omega)
      rwa [show a + 1 + i = a + (i + 1) by omega, show b + 1 + i = b + (i + 1) by omega]]

/-- A read of the bytes of a number. -/
theorem readLe_bytes (m : List Host.Cell) (a n v : Nat)
    (h : ∀ i < n, tget 0 m (a + i) = BitVec.ofNat 8 (v / 256 ^ i)) : readLe m a n = v % 256 ^ n := by
  induction n generalizing a v with
  | zero => simp [readLe, Nat.mod_one]
  | succ n ih =>
    have h0 := h 0 (by omega)
    simp only [Nat.add_zero, pow_zero, Nat.div_one] at h0
    rw [readLe, h0, ih (a + 1) (v / 256) fun i hi => by
      rw [show a + 1 + i = a + (i + 1) by omega, h (i + 1) (by omega), Nat.div_div_eq_div_mul, pow_succ, Nat.mul_comm]]
    rw [pow_succ, Nat.mul_comm (256 ^ n), Nat.mod_mul]
    simp

/-- A read of what a store wrote. -/
theorem readLe_writeLe (m : List Host.Cell) (a n v : Nat) (h : memWf m = true) :
    readLe (writeLe m a n v) a n = v % 256 ^ n :=
  readLe_bytes _ _ _ _ fun i hi => by
    rw [byte_writeLe _ _ _ _ _ h, if_pos (by omega), show a + i - a = i by omega]

/-- A read apart from a store. -/
theorem readLe_writeLe_apart (m : List Host.Cell) (a n v b k : Nat) (h : memWf m = true) (hd : b + k ≤ a ∨ a + n ≤ b) :
    readLe (writeLe m a n v) b k = readLe m b k :=
  readLe_congr _ _ _ _ _ fun i hi => by rw [byte_writeLe _ _ _ _ _ h, if_neg (by omega)]

end Sys2Proof.Machine
end

