-- ==== Sys2Proof/Laws/State.lean ====
section
/-! SUPPORT. Each named update of State changes one part and keeps every other: one lemma per field per update, and the reads of the
part it changes. -/

namespace Sys2Proof.Machine

variable (s : State)

/-! ### setW -/

@[simp] theorem setW_pending (w : Nat) (x : Whorl) : (setW s w x).pending = s.pending := rfl
@[simp] theorem setW_integ (w : Nat) (x : Whorl) : (setW s w x).integ = s.integ := rfl
@[simp] theorem setW_ht (w : Nat) (x : Whorl) : (setW s w x).ht = s.ht := rfl
@[simp] theorem setW_regs (w : Nat) (x : Whorl) : (setW s w x).regs = s.regs := rfl
@[simp] theorem setW_areg (w : Nat) (x : Whorl) : (setW s w x).areg = s.areg := rfl
@[simp] theorem setW_hubMem (w : Nat) (x : Whorl) : (setW s w x).hubMem = s.hubMem := rfl
@[simp] theorem setW_mail (w : Nat) (x : Whorl) : (setW s w x).mail = s.mail := rfl
@[simp] theorem setW_evPend (w : Nat) (x : Whorl) : (setW s w x).evPend = s.evPend := rfl
@[simp] theorem setW_evCut (w : Nat) (x : Whorl) : (setW s w x).evCut = s.evCut := rfl
@[simp] theorem setW_evXt (w : Nat) (x : Whorl) : (setW s w x).evXt = s.evXt := rfl
@[simp] theorem setW_hubIrq (w : Nat) (x : Whorl) : (setW s w x).hubIrq = s.hubIrq := rfl
@[simp] theorem setW_parts (w : Nat) (x : Whorl) : (setW s w x).parts = s.parts := rfl
@[simp] theorem setW_rparts (w : Nat) (x : Whorl) : (setW s w x).rparts = s.rparts := rfl
@[simp] theorem setW_regions (w : Nat) (x : Whorl) : (setW s w x).regions = s.regions := rfl
@[simp] theorem setW_sites (w : Nat) (x : Whorl) : (setW s w x).sites = s.sites := rfl
@[simp] theorem setW_flyers (w : Nat) (x : Whorl) : (setW s w x).flyers = s.flyers := rfl
@[simp] theorem setW_spine (w : Nat) (x : Whorl) : (setW s w x).spine = s.spine := rfl
@[simp] theorem setW_pulses (w : Nat) (x : Whorl) : (setW s w x).pulses = s.pulses := rfl
@[simp] theorem setW_xqueues (w : Nat) (x : Whorl) : (setW s w x).xqueues = s.xqueues := rfl
@[simp] theorem setW_smSent (w : Nat) (x : Whorl) : (setW s w x).smSent = s.smSent := rfl
@[simp] theorem setW_smMarked (w : Nat) (x : Whorl) : (setW s w x).smMarked = s.smMarked := rfl
@[simp] theorem setW_ops (w : Nat) (x : Whorl) : (setW s w x).ops = s.ops := rfl
@[simp] theorem setW_arrivals (w : Nat) (x : Whorl) : (setW s w x).arrivals = s.arrivals := rfl
@[simp] theorem setW_lateIds (w : Nat) (x : Whorl) : (setW s w x).lateIds = s.lateIds := rfl
@[simp] theorem setW_funnel (w : Nat) (x : Whorl) : (setW s w x).funnel = s.funnel := rfl
@[simp] theorem setW_buffer (w : Nat) (x : Whorl) : (setW s w x).buffer = s.buffer := rfl
@[simp] theorem setW_lanes (w : Nat) (x : Whorl) : (setW s w x).lanes = s.lanes := rfl
@[simp] theorem setW_master (w : Nat) (x : Whorl) : (setW s w x).master = s.master := rfl
@[simp] theorem setW_ring (w : Nat) (x : Whorl) : (setW s w x).ring = s.ring := rfl
@[simp] theorem setW_guestAos (w : Nat) (x : Whorl) : (setW s w x).guestAos = s.guestAos := rfl
@[simp] theorem setW_hang (w : Nat) (x : Whorl) : (setW s w x).hang = s.hang := rfl
@[simp] theorem setW_hank (w : Nat) (x : Whorl) : (setW s w x).hank = s.hank := rfl
@[simp] theorem setW_nands (w : Nat) (x : Whorl) : (setW s w x).nands = s.nands := rfl
@[simp] theorem setW_time (w : Nat) (x : Whorl) : (setW s w x).time = s.time := rfl
@[simp] theorem setW_elect (w : Nat) (x : Whorl) : (setW s w x).elect = s.elect := rfl
@[simp] theorem setW_chans (w : Nat) (x : Whorl) : (setW s w x).chans = s.chans := rfl
@[simp] theorem setW_routes (w : Nat) (x : Whorl) : (setW s w x).routes = s.routes := rfl
@[simp] theorem setW_blockedNums (w : Nat) (x : Whorl) : (setW s w x).blockedNums = s.blockedNums := rfl
@[simp] theorem setW_cutCount (w : Nat) (x : Whorl) : (setW s w x).cutCount = s.cutCount := rfl
@[simp] theorem setW_knownCuts (w : Nat) (x : Whorl) : (setW s w x).knownCuts = s.knownCuts := rfl
@[simp] theorem setW_twp (w : Nat) (x : Whorl) : (setW s w x).twp = s.twp := rfl
@[simp] theorem setW_host (w : Nat) (x : Whorl) : (setW s w x).host = s.host := rfl
@[simp] theorem setW_aga (w : Nat) (x : Whorl) : (setW s w x).aga = s.aga := rfl
@[simp] theorem setW_unlock (w : Nat) (x : Whorl) : (setW s w x).unlock = s.unlock := rfl
@[simp] theorem setW_boot (w : Nat) (x : Whorl) : (setW s w x).boot = s.boot := rfl
@[simp] theorem setW_freeCtr (w : Nat) (x : Whorl) : (setW s w x).freeCtr = s.freeCtr := rfl
@[simp] theorem setW_opCtr (w : Nat) (x : Whorl) : (setW s w x).opCtr = s.opCtr := rfl

/-! ### setP -/

@[simp] theorem setP_pending (p : Nat) (x : Part) : (setP s p x).pending = s.pending := rfl
@[simp] theorem setP_integ (p : Nat) (x : Part) : (setP s p x).integ = s.integ := rfl
@[simp] theorem setP_ht (p : Nat) (x : Part) : (setP s p x).ht = s.ht := rfl
@[simp] theorem setP_regs (p : Nat) (x : Part) : (setP s p x).regs = s.regs := rfl
@[simp] theorem setP_areg (p : Nat) (x : Part) : (setP s p x).areg = s.areg := rfl
@[simp] theorem setP_hubMem (p : Nat) (x : Part) : (setP s p x).hubMem = s.hubMem := rfl
@[simp] theorem setP_mail (p : Nat) (x : Part) : (setP s p x).mail = s.mail := rfl
@[simp] theorem setP_whorls (p : Nat) (x : Part) : (setP s p x).whorls = s.whorls := rfl
@[simp] theorem setP_evPend (p : Nat) (x : Part) : (setP s p x).evPend = s.evPend := rfl
@[simp] theorem setP_evCut (p : Nat) (x : Part) : (setP s p x).evCut = s.evCut := rfl
@[simp] theorem setP_evXt (p : Nat) (x : Part) : (setP s p x).evXt = s.evXt := rfl
@[simp] theorem setP_hubIrq (p : Nat) (x : Part) : (setP s p x).hubIrq = s.hubIrq := rfl
@[simp] theorem setP_rparts (p : Nat) (x : Part) : (setP s p x).rparts = s.rparts := rfl
@[simp] theorem setP_regions (p : Nat) (x : Part) : (setP s p x).regions = s.regions := rfl
@[simp] theorem setP_sites (p : Nat) (x : Part) : (setP s p x).sites = s.sites := rfl
@[simp] theorem setP_flyers (p : Nat) (x : Part) : (setP s p x).flyers = s.flyers := rfl
@[simp] theorem setP_spine (p : Nat) (x : Part) : (setP s p x).spine = s.spine := rfl
@[simp] theorem setP_pulses (p : Nat) (x : Part) : (setP s p x).pulses = s.pulses := rfl
@[simp] theorem setP_xqueues (p : Nat) (x : Part) : (setP s p x).xqueues = s.xqueues := rfl
@[simp] theorem setP_smSent (p : Nat) (x : Part) : (setP s p x).smSent = s.smSent := rfl
@[simp] theorem setP_smMarked (p : Nat) (x : Part) : (setP s p x).smMarked = s.smMarked := rfl
@[simp] theorem setP_ops (p : Nat) (x : Part) : (setP s p x).ops = s.ops := rfl
@[simp] theorem setP_arrivals (p : Nat) (x : Part) : (setP s p x).arrivals = s.arrivals := rfl
@[simp] theorem setP_lateIds (p : Nat) (x : Part) : (setP s p x).lateIds = s.lateIds := rfl
@[simp] theorem setP_funnel (p : Nat) (x : Part) : (setP s p x).funnel = s.funnel := rfl
@[simp] theorem setP_buffer (p : Nat) (x : Part) : (setP s p x).buffer = s.buffer := rfl
@[simp] theorem setP_lanes (p : Nat) (x : Part) : (setP s p x).lanes = s.lanes := rfl
@[simp] theorem setP_master (p : Nat) (x : Part) : (setP s p x).master = s.master := rfl
@[simp] theorem setP_ring (p : Nat) (x : Part) : (setP s p x).ring = s.ring := rfl
@[simp] theorem setP_guestAos (p : Nat) (x : Part) : (setP s p x).guestAos = s.guestAos := rfl
@[simp] theorem setP_hang (p : Nat) (x : Part) : (setP s p x).hang = s.hang := rfl
@[simp] theorem setP_hank (p : Nat) (x : Part) : (setP s p x).hank = s.hank := rfl
@[simp] theorem setP_nands (p : Nat) (x : Part) : (setP s p x).nands = s.nands := rfl
@[simp] theorem setP_time (p : Nat) (x : Part) : (setP s p x).time = s.time := rfl
@[simp] theorem setP_elect (p : Nat) (x : Part) : (setP s p x).elect = s.elect := rfl
@[simp] theorem setP_chans (p : Nat) (x : Part) : (setP s p x).chans = s.chans := rfl
@[simp] theorem setP_routes (p : Nat) (x : Part) : (setP s p x).routes = s.routes := rfl
@[simp] theorem setP_blockedNums (p : Nat) (x : Part) : (setP s p x).blockedNums = s.blockedNums := rfl
@[simp] theorem setP_cutCount (p : Nat) (x : Part) : (setP s p x).cutCount = s.cutCount := rfl
@[simp] theorem setP_knownCuts (p : Nat) (x : Part) : (setP s p x).knownCuts = s.knownCuts := rfl
@[simp] theorem setP_twp (p : Nat) (x : Part) : (setP s p x).twp = s.twp := rfl
@[simp] theorem setP_host (p : Nat) (x : Part) : (setP s p x).host = s.host := rfl
@[simp] theorem setP_aga (p : Nat) (x : Part) : (setP s p x).aga = s.aga := rfl
@[simp] theorem setP_unlock (p : Nat) (x : Part) : (setP s p x).unlock = s.unlock := rfl
@[simp] theorem setP_boot (p : Nat) (x : Part) : (setP s p x).boot = s.boot := rfl
@[simp] theorem setP_freeCtr (p : Nat) (x : Part) : (setP s p x).freeCtr = s.freeCtr := rfl
@[simp] theorem setP_opCtr (p : Nat) (x : Part) : (setP s p x).opCtr = s.opCtr := rfl

/-! ### setRP -/

@[simp] theorem setRP_pending (p r : Nat) (x : RPart) : (setRP s p r x).pending = s.pending := rfl
@[simp] theorem setRP_integ (p r : Nat) (x : RPart) : (setRP s p r x).integ = s.integ := rfl
@[simp] theorem setRP_ht (p r : Nat) (x : RPart) : (setRP s p r x).ht = s.ht := rfl
@[simp] theorem setRP_regs (p r : Nat) (x : RPart) : (setRP s p r x).regs = s.regs := rfl
@[simp] theorem setRP_areg (p r : Nat) (x : RPart) : (setRP s p r x).areg = s.areg := rfl
@[simp] theorem setRP_hubMem (p r : Nat) (x : RPart) : (setRP s p r x).hubMem = s.hubMem := rfl
@[simp] theorem setRP_mail (p r : Nat) (x : RPart) : (setRP s p r x).mail = s.mail := rfl
@[simp] theorem setRP_whorls (p r : Nat) (x : RPart) : (setRP s p r x).whorls = s.whorls := rfl
@[simp] theorem setRP_evPend (p r : Nat) (x : RPart) : (setRP s p r x).evPend = s.evPend := rfl
@[simp] theorem setRP_evCut (p r : Nat) (x : RPart) : (setRP s p r x).evCut = s.evCut := rfl
@[simp] theorem setRP_evXt (p r : Nat) (x : RPart) : (setRP s p r x).evXt = s.evXt := rfl
@[simp] theorem setRP_hubIrq (p r : Nat) (x : RPart) : (setRP s p r x).hubIrq = s.hubIrq := rfl
@[simp] theorem setRP_parts (p r : Nat) (x : RPart) : (setRP s p r x).parts = s.parts := rfl
@[simp] theorem setRP_regions (p r : Nat) (x : RPart) : (setRP s p r x).regions = s.regions := rfl
@[simp] theorem setRP_sites (p r : Nat) (x : RPart) : (setRP s p r x).sites = s.sites := rfl
@[simp] theorem setRP_flyers (p r : Nat) (x : RPart) : (setRP s p r x).flyers = s.flyers := rfl
@[simp] theorem setRP_spine (p r : Nat) (x : RPart) : (setRP s p r x).spine = s.spine := rfl
@[simp] theorem setRP_pulses (p r : Nat) (x : RPart) : (setRP s p r x).pulses = s.pulses := rfl
@[simp] theorem setRP_xqueues (p r : Nat) (x : RPart) : (setRP s p r x).xqueues = s.xqueues := rfl
@[simp] theorem setRP_smSent (p r : Nat) (x : RPart) : (setRP s p r x).smSent = s.smSent := rfl
@[simp] theorem setRP_smMarked (p r : Nat) (x : RPart) : (setRP s p r x).smMarked = s.smMarked := rfl
@[simp] theorem setRP_ops (p r : Nat) (x : RPart) : (setRP s p r x).ops = s.ops := rfl
@[simp] theorem setRP_arrivals (p r : Nat) (x : RPart) : (setRP s p r x).arrivals = s.arrivals := rfl
@[simp] theorem setRP_lateIds (p r : Nat) (x : RPart) : (setRP s p r x).lateIds = s.lateIds := rfl
@[simp] theorem setRP_funnel (p r : Nat) (x : RPart) : (setRP s p r x).funnel = s.funnel := rfl
@[simp] theorem setRP_buffer (p r : Nat) (x : RPart) : (setRP s p r x).buffer = s.buffer := rfl
@[simp] theorem setRP_lanes (p r : Nat) (x : RPart) : (setRP s p r x).lanes = s.lanes := rfl
@[simp] theorem setRP_master (p r : Nat) (x : RPart) : (setRP s p r x).master = s.master := rfl
@[simp] theorem setRP_ring (p r : Nat) (x : RPart) : (setRP s p r x).ring = s.ring := rfl
@[simp] theorem setRP_guestAos (p r : Nat) (x : RPart) : (setRP s p r x).guestAos = s.guestAos := rfl
@[simp] theorem setRP_hang (p r : Nat) (x : RPart) : (setRP s p r x).hang = s.hang := rfl
@[simp] theorem setRP_hank (p r : Nat) (x : RPart) : (setRP s p r x).hank = s.hank := rfl
@[simp] theorem setRP_nands (p r : Nat) (x : RPart) : (setRP s p r x).nands = s.nands := rfl
@[simp] theorem setRP_time (p r : Nat) (x : RPart) : (setRP s p r x).time = s.time := rfl
@[simp] theorem setRP_elect (p r : Nat) (x : RPart) : (setRP s p r x).elect = s.elect := rfl
@[simp] theorem setRP_chans (p r : Nat) (x : RPart) : (setRP s p r x).chans = s.chans := rfl
@[simp] theorem setRP_routes (p r : Nat) (x : RPart) : (setRP s p r x).routes = s.routes := rfl
@[simp] theorem setRP_blockedNums (p r : Nat) (x : RPart) : (setRP s p r x).blockedNums = s.blockedNums := rfl
@[simp] theorem setRP_cutCount (p r : Nat) (x : RPart) : (setRP s p r x).cutCount = s.cutCount := rfl
@[simp] theorem setRP_knownCuts (p r : Nat) (x : RPart) : (setRP s p r x).knownCuts = s.knownCuts := rfl
@[simp] theorem setRP_twp (p r : Nat) (x : RPart) : (setRP s p r x).twp = s.twp := rfl
@[simp] theorem setRP_host (p r : Nat) (x : RPart) : (setRP s p r x).host = s.host := rfl
@[simp] theorem setRP_aga (p r : Nat) (x : RPart) : (setRP s p r x).aga = s.aga := rfl
@[simp] theorem setRP_unlock (p r : Nat) (x : RPart) : (setRP s p r x).unlock = s.unlock := rfl
@[simp] theorem setRP_boot (p r : Nat) (x : RPart) : (setRP s p r x).boot = s.boot := rfl
@[simp] theorem setRP_freeCtr (p r : Nat) (x : RPart) : (setRP s p r x).freeCtr = s.freeCtr := rfl
@[simp] theorem setRP_opCtr (p r : Nat) (x : RPart) : (setRP s p r x).opCtr = s.opCtr := rfl

/-! ### setR -/

@[simp] theorem setR_pending (r : Nat) (x : Region) : (setR s r x).pending = s.pending := rfl
@[simp] theorem setR_integ (r : Nat) (x : Region) : (setR s r x).integ = s.integ := rfl
@[simp] theorem setR_ht (r : Nat) (x : Region) : (setR s r x).ht = s.ht := rfl
@[simp] theorem setR_regs (r : Nat) (x : Region) : (setR s r x).regs = s.regs := rfl
@[simp] theorem setR_areg (r : Nat) (x : Region) : (setR s r x).areg = s.areg := rfl
@[simp] theorem setR_hubMem (r : Nat) (x : Region) : (setR s r x).hubMem = s.hubMem := rfl
@[simp] theorem setR_mail (r : Nat) (x : Region) : (setR s r x).mail = s.mail := rfl
@[simp] theorem setR_whorls (r : Nat) (x : Region) : (setR s r x).whorls = s.whorls := rfl
@[simp] theorem setR_evPend (r : Nat) (x : Region) : (setR s r x).evPend = s.evPend := rfl
@[simp] theorem setR_evCut (r : Nat) (x : Region) : (setR s r x).evCut = s.evCut := rfl
@[simp] theorem setR_evXt (r : Nat) (x : Region) : (setR s r x).evXt = s.evXt := rfl
@[simp] theorem setR_hubIrq (r : Nat) (x : Region) : (setR s r x).hubIrq = s.hubIrq := rfl
@[simp] theorem setR_parts (r : Nat) (x : Region) : (setR s r x).parts = s.parts := rfl
@[simp] theorem setR_rparts (r : Nat) (x : Region) : (setR s r x).rparts = s.rparts := rfl
@[simp] theorem setR_sites (r : Nat) (x : Region) : (setR s r x).sites = s.sites := rfl
@[simp] theorem setR_flyers (r : Nat) (x : Region) : (setR s r x).flyers = s.flyers := rfl
@[simp] theorem setR_spine (r : Nat) (x : Region) : (setR s r x).spine = s.spine := rfl
@[simp] theorem setR_pulses (r : Nat) (x : Region) : (setR s r x).pulses = s.pulses := rfl
@[simp] theorem setR_xqueues (r : Nat) (x : Region) : (setR s r x).xqueues = s.xqueues := rfl
@[simp] theorem setR_smSent (r : Nat) (x : Region) : (setR s r x).smSent = s.smSent := rfl
@[simp] theorem setR_smMarked (r : Nat) (x : Region) : (setR s r x).smMarked = s.smMarked := rfl
@[simp] theorem setR_ops (r : Nat) (x : Region) : (setR s r x).ops = s.ops := rfl
@[simp] theorem setR_arrivals (r : Nat) (x : Region) : (setR s r x).arrivals = s.arrivals := rfl
@[simp] theorem setR_lateIds (r : Nat) (x : Region) : (setR s r x).lateIds = s.lateIds := rfl
@[simp] theorem setR_funnel (r : Nat) (x : Region) : (setR s r x).funnel = s.funnel := rfl
@[simp] theorem setR_buffer (r : Nat) (x : Region) : (setR s r x).buffer = s.buffer := rfl
@[simp] theorem setR_lanes (r : Nat) (x : Region) : (setR s r x).lanes = s.lanes := rfl
@[simp] theorem setR_master (r : Nat) (x : Region) : (setR s r x).master = s.master := rfl
@[simp] theorem setR_ring (r : Nat) (x : Region) : (setR s r x).ring = s.ring := rfl
@[simp] theorem setR_guestAos (r : Nat) (x : Region) : (setR s r x).guestAos = s.guestAos := rfl
@[simp] theorem setR_hang (r : Nat) (x : Region) : (setR s r x).hang = s.hang := rfl
@[simp] theorem setR_hank (r : Nat) (x : Region) : (setR s r x).hank = s.hank := rfl
@[simp] theorem setR_nands (r : Nat) (x : Region) : (setR s r x).nands = s.nands := rfl
@[simp] theorem setR_time (r : Nat) (x : Region) : (setR s r x).time = s.time := rfl
@[simp] theorem setR_elect (r : Nat) (x : Region) : (setR s r x).elect = s.elect := rfl
@[simp] theorem setR_chans (r : Nat) (x : Region) : (setR s r x).chans = s.chans := rfl
@[simp] theorem setR_routes (r : Nat) (x : Region) : (setR s r x).routes = s.routes := rfl
@[simp] theorem setR_blockedNums (r : Nat) (x : Region) : (setR s r x).blockedNums = s.blockedNums := rfl
@[simp] theorem setR_cutCount (r : Nat) (x : Region) : (setR s r x).cutCount = s.cutCount := rfl
@[simp] theorem setR_knownCuts (r : Nat) (x : Region) : (setR s r x).knownCuts = s.knownCuts := rfl
@[simp] theorem setR_twp (r : Nat) (x : Region) : (setR s r x).twp = s.twp := rfl
@[simp] theorem setR_host (r : Nat) (x : Region) : (setR s r x).host = s.host := rfl
@[simp] theorem setR_aga (r : Nat) (x : Region) : (setR s r x).aga = s.aga := rfl
@[simp] theorem setR_unlock (r : Nat) (x : Region) : (setR s r x).unlock = s.unlock := rfl
@[simp] theorem setR_boot (r : Nat) (x : Region) : (setR s r x).boot = s.boot := rfl
@[simp] theorem setR_freeCtr (r : Nat) (x : Region) : (setR s r x).freeCtr = s.freeCtr := rfl
@[simp] theorem setR_opCtr (r : Nat) (x : Region) : (setR s r x).opCtr = s.opCtr := rfl

/-! ### setS -/

@[simp] theorem setS_pending (i : Nat) (x : Site) : (setS s i x).pending = s.pending := rfl
@[simp] theorem setS_integ (i : Nat) (x : Site) : (setS s i x).integ = s.integ := rfl
@[simp] theorem setS_ht (i : Nat) (x : Site) : (setS s i x).ht = s.ht := rfl
@[simp] theorem setS_regs (i : Nat) (x : Site) : (setS s i x).regs = s.regs := rfl
@[simp] theorem setS_areg (i : Nat) (x : Site) : (setS s i x).areg = s.areg := rfl
@[simp] theorem setS_hubMem (i : Nat) (x : Site) : (setS s i x).hubMem = s.hubMem := rfl
@[simp] theorem setS_mail (i : Nat) (x : Site) : (setS s i x).mail = s.mail := rfl
@[simp] theorem setS_whorls (i : Nat) (x : Site) : (setS s i x).whorls = s.whorls := rfl
@[simp] theorem setS_evPend (i : Nat) (x : Site) : (setS s i x).evPend = s.evPend := rfl
@[simp] theorem setS_evCut (i : Nat) (x : Site) : (setS s i x).evCut = s.evCut := rfl
@[simp] theorem setS_evXt (i : Nat) (x : Site) : (setS s i x).evXt = s.evXt := rfl
@[simp] theorem setS_hubIrq (i : Nat) (x : Site) : (setS s i x).hubIrq = s.hubIrq := rfl
@[simp] theorem setS_parts (i : Nat) (x : Site) : (setS s i x).parts = s.parts := rfl
@[simp] theorem setS_rparts (i : Nat) (x : Site) : (setS s i x).rparts = s.rparts := rfl
@[simp] theorem setS_regions (i : Nat) (x : Site) : (setS s i x).regions = s.regions := rfl
@[simp] theorem setS_flyers (i : Nat) (x : Site) : (setS s i x).flyers = s.flyers := rfl
@[simp] theorem setS_spine (i : Nat) (x : Site) : (setS s i x).spine = s.spine := rfl
@[simp] theorem setS_pulses (i : Nat) (x : Site) : (setS s i x).pulses = s.pulses := rfl
@[simp] theorem setS_xqueues (i : Nat) (x : Site) : (setS s i x).xqueues = s.xqueues := rfl
@[simp] theorem setS_smSent (i : Nat) (x : Site) : (setS s i x).smSent = s.smSent := rfl
@[simp] theorem setS_smMarked (i : Nat) (x : Site) : (setS s i x).smMarked = s.smMarked := rfl
@[simp] theorem setS_ops (i : Nat) (x : Site) : (setS s i x).ops = s.ops := rfl
@[simp] theorem setS_arrivals (i : Nat) (x : Site) : (setS s i x).arrivals = s.arrivals := rfl
@[simp] theorem setS_lateIds (i : Nat) (x : Site) : (setS s i x).lateIds = s.lateIds := rfl
@[simp] theorem setS_funnel (i : Nat) (x : Site) : (setS s i x).funnel = s.funnel := rfl
@[simp] theorem setS_buffer (i : Nat) (x : Site) : (setS s i x).buffer = s.buffer := rfl
@[simp] theorem setS_lanes (i : Nat) (x : Site) : (setS s i x).lanes = s.lanes := rfl
@[simp] theorem setS_master (i : Nat) (x : Site) : (setS s i x).master = s.master := rfl
@[simp] theorem setS_ring (i : Nat) (x : Site) : (setS s i x).ring = s.ring := rfl
@[simp] theorem setS_guestAos (i : Nat) (x : Site) : (setS s i x).guestAos = s.guestAos := rfl
@[simp] theorem setS_hang (i : Nat) (x : Site) : (setS s i x).hang = s.hang := rfl
@[simp] theorem setS_hank (i : Nat) (x : Site) : (setS s i x).hank = s.hank := rfl
@[simp] theorem setS_nands (i : Nat) (x : Site) : (setS s i x).nands = s.nands := rfl
@[simp] theorem setS_time (i : Nat) (x : Site) : (setS s i x).time = s.time := rfl
@[simp] theorem setS_elect (i : Nat) (x : Site) : (setS s i x).elect = s.elect := rfl
@[simp] theorem setS_chans (i : Nat) (x : Site) : (setS s i x).chans = s.chans := rfl
@[simp] theorem setS_routes (i : Nat) (x : Site) : (setS s i x).routes = s.routes := rfl
@[simp] theorem setS_blockedNums (i : Nat) (x : Site) : (setS s i x).blockedNums = s.blockedNums := rfl
@[simp] theorem setS_cutCount (i : Nat) (x : Site) : (setS s i x).cutCount = s.cutCount := rfl
@[simp] theorem setS_knownCuts (i : Nat) (x : Site) : (setS s i x).knownCuts = s.knownCuts := rfl
@[simp] theorem setS_twp (i : Nat) (x : Site) : (setS s i x).twp = s.twp := rfl
@[simp] theorem setS_host (i : Nat) (x : Site) : (setS s i x).host = s.host := rfl
@[simp] theorem setS_aga (i : Nat) (x : Site) : (setS s i x).aga = s.aga := rfl
@[simp] theorem setS_unlock (i : Nat) (x : Site) : (setS s i x).unlock = s.unlock := rfl
@[simp] theorem setS_boot (i : Nat) (x : Site) : (setS s i x).boot = s.boot := rfl
@[simp] theorem setS_freeCtr (i : Nat) (x : Site) : (setS s i x).freeCtr = s.freeCtr := rfl
@[simp] theorem setS_opCtr (i : Nat) (x : Site) : (setS s i x).opCtr = s.opCtr := rfl

/-! ### setF -/

@[simp] theorem setF_pending (f : Nat) (x : Flyer) : (setF s f x).pending = s.pending := rfl
@[simp] theorem setF_integ (f : Nat) (x : Flyer) : (setF s f x).integ = s.integ := rfl
@[simp] theorem setF_ht (f : Nat) (x : Flyer) : (setF s f x).ht = s.ht := rfl
@[simp] theorem setF_regs (f : Nat) (x : Flyer) : (setF s f x).regs = s.regs := rfl
@[simp] theorem setF_areg (f : Nat) (x : Flyer) : (setF s f x).areg = s.areg := rfl
@[simp] theorem setF_hubMem (f : Nat) (x : Flyer) : (setF s f x).hubMem = s.hubMem := rfl
@[simp] theorem setF_mail (f : Nat) (x : Flyer) : (setF s f x).mail = s.mail := rfl
@[simp] theorem setF_whorls (f : Nat) (x : Flyer) : (setF s f x).whorls = s.whorls := rfl
@[simp] theorem setF_evPend (f : Nat) (x : Flyer) : (setF s f x).evPend = s.evPend := rfl
@[simp] theorem setF_evCut (f : Nat) (x : Flyer) : (setF s f x).evCut = s.evCut := rfl
@[simp] theorem setF_evXt (f : Nat) (x : Flyer) : (setF s f x).evXt = s.evXt := rfl
@[simp] theorem setF_hubIrq (f : Nat) (x : Flyer) : (setF s f x).hubIrq = s.hubIrq := rfl
@[simp] theorem setF_parts (f : Nat) (x : Flyer) : (setF s f x).parts = s.parts := rfl
@[simp] theorem setF_rparts (f : Nat) (x : Flyer) : (setF s f x).rparts = s.rparts := rfl
@[simp] theorem setF_regions (f : Nat) (x : Flyer) : (setF s f x).regions = s.regions := rfl
@[simp] theorem setF_sites (f : Nat) (x : Flyer) : (setF s f x).sites = s.sites := rfl
@[simp] theorem setF_spine (f : Nat) (x : Flyer) : (setF s f x).spine = s.spine := rfl
@[simp] theorem setF_pulses (f : Nat) (x : Flyer) : (setF s f x).pulses = s.pulses := rfl
@[simp] theorem setF_xqueues (f : Nat) (x : Flyer) : (setF s f x).xqueues = s.xqueues := rfl
@[simp] theorem setF_smSent (f : Nat) (x : Flyer) : (setF s f x).smSent = s.smSent := rfl
@[simp] theorem setF_smMarked (f : Nat) (x : Flyer) : (setF s f x).smMarked = s.smMarked := rfl
@[simp] theorem setF_ops (f : Nat) (x : Flyer) : (setF s f x).ops = s.ops := rfl
@[simp] theorem setF_arrivals (f : Nat) (x : Flyer) : (setF s f x).arrivals = s.arrivals := rfl
@[simp] theorem setF_lateIds (f : Nat) (x : Flyer) : (setF s f x).lateIds = s.lateIds := rfl
@[simp] theorem setF_funnel (f : Nat) (x : Flyer) : (setF s f x).funnel = s.funnel := rfl
@[simp] theorem setF_buffer (f : Nat) (x : Flyer) : (setF s f x).buffer = s.buffer := rfl
@[simp] theorem setF_lanes (f : Nat) (x : Flyer) : (setF s f x).lanes = s.lanes := rfl
@[simp] theorem setF_master (f : Nat) (x : Flyer) : (setF s f x).master = s.master := rfl
@[simp] theorem setF_ring (f : Nat) (x : Flyer) : (setF s f x).ring = s.ring := rfl
@[simp] theorem setF_guestAos (f : Nat) (x : Flyer) : (setF s f x).guestAos = s.guestAos := rfl
@[simp] theorem setF_hang (f : Nat) (x : Flyer) : (setF s f x).hang = s.hang := rfl
@[simp] theorem setF_hank (f : Nat) (x : Flyer) : (setF s f x).hank = s.hank := rfl
@[simp] theorem setF_nands (f : Nat) (x : Flyer) : (setF s f x).nands = s.nands := rfl
@[simp] theorem setF_time (f : Nat) (x : Flyer) : (setF s f x).time = s.time := rfl
@[simp] theorem setF_elect (f : Nat) (x : Flyer) : (setF s f x).elect = s.elect := rfl
@[simp] theorem setF_chans (f : Nat) (x : Flyer) : (setF s f x).chans = s.chans := rfl
@[simp] theorem setF_routes (f : Nat) (x : Flyer) : (setF s f x).routes = s.routes := rfl
@[simp] theorem setF_blockedNums (f : Nat) (x : Flyer) : (setF s f x).blockedNums = s.blockedNums := rfl
@[simp] theorem setF_cutCount (f : Nat) (x : Flyer) : (setF s f x).cutCount = s.cutCount := rfl
@[simp] theorem setF_knownCuts (f : Nat) (x : Flyer) : (setF s f x).knownCuts = s.knownCuts := rfl
@[simp] theorem setF_twp (f : Nat) (x : Flyer) : (setF s f x).twp = s.twp := rfl
@[simp] theorem setF_host (f : Nat) (x : Flyer) : (setF s f x).host = s.host := rfl
@[simp] theorem setF_aga (f : Nat) (x : Flyer) : (setF s f x).aga = s.aga := rfl
@[simp] theorem setF_unlock (f : Nat) (x : Flyer) : (setF s f x).unlock = s.unlock := rfl
@[simp] theorem setF_boot (f : Nat) (x : Flyer) : (setF s f x).boot = s.boot := rfl
@[simp] theorem setF_freeCtr (f : Nat) (x : Flyer) : (setF s f x).freeCtr = s.freeCtr := rfl
@[simp] theorem setF_opCtr (f : Nat) (x : Flyer) : (setF s f x).opCtr = s.opCtr := rfl

/-! ### setC -/

@[simp] theorem setC_pending (n : Nat) (x : Chan) : (setC s n x).pending = s.pending := rfl
@[simp] theorem setC_integ (n : Nat) (x : Chan) : (setC s n x).integ = s.integ := rfl
@[simp] theorem setC_ht (n : Nat) (x : Chan) : (setC s n x).ht = s.ht := rfl
@[simp] theorem setC_regs (n : Nat) (x : Chan) : (setC s n x).regs = s.regs := rfl
@[simp] theorem setC_areg (n : Nat) (x : Chan) : (setC s n x).areg = s.areg := rfl
@[simp] theorem setC_hubMem (n : Nat) (x : Chan) : (setC s n x).hubMem = s.hubMem := rfl
@[simp] theorem setC_mail (n : Nat) (x : Chan) : (setC s n x).mail = s.mail := rfl
@[simp] theorem setC_whorls (n : Nat) (x : Chan) : (setC s n x).whorls = s.whorls := rfl
@[simp] theorem setC_evPend (n : Nat) (x : Chan) : (setC s n x).evPend = s.evPend := rfl
@[simp] theorem setC_evCut (n : Nat) (x : Chan) : (setC s n x).evCut = s.evCut := rfl
@[simp] theorem setC_evXt (n : Nat) (x : Chan) : (setC s n x).evXt = s.evXt := rfl
@[simp] theorem setC_hubIrq (n : Nat) (x : Chan) : (setC s n x).hubIrq = s.hubIrq := rfl
@[simp] theorem setC_parts (n : Nat) (x : Chan) : (setC s n x).parts = s.parts := rfl
@[simp] theorem setC_rparts (n : Nat) (x : Chan) : (setC s n x).rparts = s.rparts := rfl
@[simp] theorem setC_regions (n : Nat) (x : Chan) : (setC s n x).regions = s.regions := rfl
@[simp] theorem setC_sites (n : Nat) (x : Chan) : (setC s n x).sites = s.sites := rfl
@[simp] theorem setC_flyers (n : Nat) (x : Chan) : (setC s n x).flyers = s.flyers := rfl
@[simp] theorem setC_spine (n : Nat) (x : Chan) : (setC s n x).spine = s.spine := rfl
@[simp] theorem setC_pulses (n : Nat) (x : Chan) : (setC s n x).pulses = s.pulses := rfl
@[simp] theorem setC_xqueues (n : Nat) (x : Chan) : (setC s n x).xqueues = s.xqueues := rfl
@[simp] theorem setC_smSent (n : Nat) (x : Chan) : (setC s n x).smSent = s.smSent := rfl
@[simp] theorem setC_smMarked (n : Nat) (x : Chan) : (setC s n x).smMarked = s.smMarked := rfl
@[simp] theorem setC_ops (n : Nat) (x : Chan) : (setC s n x).ops = s.ops := rfl
@[simp] theorem setC_arrivals (n : Nat) (x : Chan) : (setC s n x).arrivals = s.arrivals := rfl
@[simp] theorem setC_lateIds (n : Nat) (x : Chan) : (setC s n x).lateIds = s.lateIds := rfl
@[simp] theorem setC_funnel (n : Nat) (x : Chan) : (setC s n x).funnel = s.funnel := rfl
@[simp] theorem setC_buffer (n : Nat) (x : Chan) : (setC s n x).buffer = s.buffer := rfl
@[simp] theorem setC_lanes (n : Nat) (x : Chan) : (setC s n x).lanes = s.lanes := rfl
@[simp] theorem setC_master (n : Nat) (x : Chan) : (setC s n x).master = s.master := rfl
@[simp] theorem setC_ring (n : Nat) (x : Chan) : (setC s n x).ring = s.ring := rfl
@[simp] theorem setC_guestAos (n : Nat) (x : Chan) : (setC s n x).guestAos = s.guestAos := rfl
@[simp] theorem setC_hang (n : Nat) (x : Chan) : (setC s n x).hang = s.hang := rfl
@[simp] theorem setC_hank (n : Nat) (x : Chan) : (setC s n x).hank = s.hank := rfl
@[simp] theorem setC_nands (n : Nat) (x : Chan) : (setC s n x).nands = s.nands := rfl
@[simp] theorem setC_time (n : Nat) (x : Chan) : (setC s n x).time = s.time := rfl
@[simp] theorem setC_elect (n : Nat) (x : Chan) : (setC s n x).elect = s.elect := rfl
@[simp] theorem setC_routes (n : Nat) (x : Chan) : (setC s n x).routes = s.routes := rfl
@[simp] theorem setC_blockedNums (n : Nat) (x : Chan) : (setC s n x).blockedNums = s.blockedNums := rfl
@[simp] theorem setC_cutCount (n : Nat) (x : Chan) : (setC s n x).cutCount = s.cutCount := rfl
@[simp] theorem setC_knownCuts (n : Nat) (x : Chan) : (setC s n x).knownCuts = s.knownCuts := rfl
@[simp] theorem setC_twp (n : Nat) (x : Chan) : (setC s n x).twp = s.twp := rfl
@[simp] theorem setC_host (n : Nat) (x : Chan) : (setC s n x).host = s.host := rfl
@[simp] theorem setC_aga (n : Nat) (x : Chan) : (setC s n x).aga = s.aga := rfl
@[simp] theorem setC_unlock (n : Nat) (x : Chan) : (setC s n x).unlock = s.unlock := rfl
@[simp] theorem setC_boot (n : Nat) (x : Chan) : (setC s n x).boot = s.boot := rfl
@[simp] theorem setC_freeCtr (n : Nat) (x : Chan) : (setC s n x).freeCtr = s.freeCtr := rfl
@[simp] theorem setC_opCtr (n : Nat) (x : Chan) : (setC s n x).opCtr = s.opCtr := rfl

/-! ### setN -/

@[simp] theorem setN_pending (d : Nat) (x : Nand) : (setN s d x).pending = s.pending := rfl
@[simp] theorem setN_integ (d : Nat) (x : Nand) : (setN s d x).integ = s.integ := rfl
@[simp] theorem setN_ht (d : Nat) (x : Nand) : (setN s d x).ht = s.ht := rfl
@[simp] theorem setN_regs (d : Nat) (x : Nand) : (setN s d x).regs = s.regs := rfl
@[simp] theorem setN_areg (d : Nat) (x : Nand) : (setN s d x).areg = s.areg := rfl
@[simp] theorem setN_hubMem (d : Nat) (x : Nand) : (setN s d x).hubMem = s.hubMem := rfl
@[simp] theorem setN_mail (d : Nat) (x : Nand) : (setN s d x).mail = s.mail := rfl
@[simp] theorem setN_whorls (d : Nat) (x : Nand) : (setN s d x).whorls = s.whorls := rfl
@[simp] theorem setN_evPend (d : Nat) (x : Nand) : (setN s d x).evPend = s.evPend := rfl
@[simp] theorem setN_evCut (d : Nat) (x : Nand) : (setN s d x).evCut = s.evCut := rfl
@[simp] theorem setN_evXt (d : Nat) (x : Nand) : (setN s d x).evXt = s.evXt := rfl
@[simp] theorem setN_hubIrq (d : Nat) (x : Nand) : (setN s d x).hubIrq = s.hubIrq := rfl
@[simp] theorem setN_parts (d : Nat) (x : Nand) : (setN s d x).parts = s.parts := rfl
@[simp] theorem setN_rparts (d : Nat) (x : Nand) : (setN s d x).rparts = s.rparts := rfl
@[simp] theorem setN_regions (d : Nat) (x : Nand) : (setN s d x).regions = s.regions := rfl
@[simp] theorem setN_sites (d : Nat) (x : Nand) : (setN s d x).sites = s.sites := rfl
@[simp] theorem setN_flyers (d : Nat) (x : Nand) : (setN s d x).flyers = s.flyers := rfl
@[simp] theorem setN_spine (d : Nat) (x : Nand) : (setN s d x).spine = s.spine := rfl
@[simp] theorem setN_pulses (d : Nat) (x : Nand) : (setN s d x).pulses = s.pulses := rfl
@[simp] theorem setN_xqueues (d : Nat) (x : Nand) : (setN s d x).xqueues = s.xqueues := rfl
@[simp] theorem setN_smSent (d : Nat) (x : Nand) : (setN s d x).smSent = s.smSent := rfl
@[simp] theorem setN_smMarked (d : Nat) (x : Nand) : (setN s d x).smMarked = s.smMarked := rfl
@[simp] theorem setN_ops (d : Nat) (x : Nand) : (setN s d x).ops = s.ops := rfl
@[simp] theorem setN_arrivals (d : Nat) (x : Nand) : (setN s d x).arrivals = s.arrivals := rfl
@[simp] theorem setN_lateIds (d : Nat) (x : Nand) : (setN s d x).lateIds = s.lateIds := rfl
@[simp] theorem setN_funnel (d : Nat) (x : Nand) : (setN s d x).funnel = s.funnel := rfl
@[simp] theorem setN_buffer (d : Nat) (x : Nand) : (setN s d x).buffer = s.buffer := rfl
@[simp] theorem setN_lanes (d : Nat) (x : Nand) : (setN s d x).lanes = s.lanes := rfl
@[simp] theorem setN_master (d : Nat) (x : Nand) : (setN s d x).master = s.master := rfl
@[simp] theorem setN_ring (d : Nat) (x : Nand) : (setN s d x).ring = s.ring := rfl
@[simp] theorem setN_guestAos (d : Nat) (x : Nand) : (setN s d x).guestAos = s.guestAos := rfl
@[simp] theorem setN_hang (d : Nat) (x : Nand) : (setN s d x).hang = s.hang := rfl
@[simp] theorem setN_hank (d : Nat) (x : Nand) : (setN s d x).hank = s.hank := rfl
@[simp] theorem setN_time (d : Nat) (x : Nand) : (setN s d x).time = s.time := rfl
@[simp] theorem setN_elect (d : Nat) (x : Nand) : (setN s d x).elect = s.elect := rfl
@[simp] theorem setN_chans (d : Nat) (x : Nand) : (setN s d x).chans = s.chans := rfl
@[simp] theorem setN_routes (d : Nat) (x : Nand) : (setN s d x).routes = s.routes := rfl
@[simp] theorem setN_blockedNums (d : Nat) (x : Nand) : (setN s d x).blockedNums = s.blockedNums := rfl
@[simp] theorem setN_cutCount (d : Nat) (x : Nand) : (setN s d x).cutCount = s.cutCount := rfl
@[simp] theorem setN_knownCuts (d : Nat) (x : Nand) : (setN s d x).knownCuts = s.knownCuts := rfl
@[simp] theorem setN_twp (d : Nat) (x : Nand) : (setN s d x).twp = s.twp := rfl
@[simp] theorem setN_host (d : Nat) (x : Nand) : (setN s d x).host = s.host := rfl
@[simp] theorem setN_aga (d : Nat) (x : Nand) : (setN s d x).aga = s.aga := rfl
@[simp] theorem setN_unlock (d : Nat) (x : Nand) : (setN s d x).unlock = s.unlock := rfl
@[simp] theorem setN_boot (d : Nat) (x : Nand) : (setN s d x).boot = s.boot := rfl
@[simp] theorem setN_freeCtr (d : Nat) (x : Nand) : (setN s d x).freeCtr = s.freeCtr := rfl
@[simp] theorem setN_opCtr (d : Nat) (x : Nand) : (setN s d x).opCtr = s.opCtr := rfl

/-! ### setL -/

@[simp] theorem setL_pending (n : Nat) (x : Lane) : (setL s n x).pending = s.pending := rfl
@[simp] theorem setL_integ (n : Nat) (x : Lane) : (setL s n x).integ = s.integ := rfl
@[simp] theorem setL_ht (n : Nat) (x : Lane) : (setL s n x).ht = s.ht := rfl
@[simp] theorem setL_regs (n : Nat) (x : Lane) : (setL s n x).regs = s.regs := rfl
@[simp] theorem setL_areg (n : Nat) (x : Lane) : (setL s n x).areg = s.areg := rfl
@[simp] theorem setL_hubMem (n : Nat) (x : Lane) : (setL s n x).hubMem = s.hubMem := rfl
@[simp] theorem setL_mail (n : Nat) (x : Lane) : (setL s n x).mail = s.mail := rfl
@[simp] theorem setL_whorls (n : Nat) (x : Lane) : (setL s n x).whorls = s.whorls := rfl
@[simp] theorem setL_evPend (n : Nat) (x : Lane) : (setL s n x).evPend = s.evPend := rfl
@[simp] theorem setL_evCut (n : Nat) (x : Lane) : (setL s n x).evCut = s.evCut := rfl
@[simp] theorem setL_evXt (n : Nat) (x : Lane) : (setL s n x).evXt = s.evXt := rfl
@[simp] theorem setL_hubIrq (n : Nat) (x : Lane) : (setL s n x).hubIrq = s.hubIrq := rfl
@[simp] theorem setL_parts (n : Nat) (x : Lane) : (setL s n x).parts = s.parts := rfl
@[simp] theorem setL_rparts (n : Nat) (x : Lane) : (setL s n x).rparts = s.rparts := rfl
@[simp] theorem setL_regions (n : Nat) (x : Lane) : (setL s n x).regions = s.regions := rfl
@[simp] theorem setL_sites (n : Nat) (x : Lane) : (setL s n x).sites = s.sites := rfl
@[simp] theorem setL_flyers (n : Nat) (x : Lane) : (setL s n x).flyers = s.flyers := rfl
@[simp] theorem setL_spine (n : Nat) (x : Lane) : (setL s n x).spine = s.spine := rfl
@[simp] theorem setL_pulses (n : Nat) (x : Lane) : (setL s n x).pulses = s.pulses := rfl
@[simp] theorem setL_xqueues (n : Nat) (x : Lane) : (setL s n x).xqueues = s.xqueues := rfl
@[simp] theorem setL_smSent (n : Nat) (x : Lane) : (setL s n x).smSent = s.smSent := rfl
@[simp] theorem setL_smMarked (n : Nat) (x : Lane) : (setL s n x).smMarked = s.smMarked := rfl
@[simp] theorem setL_ops (n : Nat) (x : Lane) : (setL s n x).ops = s.ops := rfl
@[simp] theorem setL_arrivals (n : Nat) (x : Lane) : (setL s n x).arrivals = s.arrivals := rfl
@[simp] theorem setL_lateIds (n : Nat) (x : Lane) : (setL s n x).lateIds = s.lateIds := rfl
@[simp] theorem setL_funnel (n : Nat) (x : Lane) : (setL s n x).funnel = s.funnel := rfl
@[simp] theorem setL_buffer (n : Nat) (x : Lane) : (setL s n x).buffer = s.buffer := rfl
@[simp] theorem setL_master (n : Nat) (x : Lane) : (setL s n x).master = s.master := rfl
@[simp] theorem setL_ring (n : Nat) (x : Lane) : (setL s n x).ring = s.ring := rfl
@[simp] theorem setL_guestAos (n : Nat) (x : Lane) : (setL s n x).guestAos = s.guestAos := rfl
@[simp] theorem setL_hang (n : Nat) (x : Lane) : (setL s n x).hang = s.hang := rfl
@[simp] theorem setL_hank (n : Nat) (x : Lane) : (setL s n x).hank = s.hank := rfl
@[simp] theorem setL_nands (n : Nat) (x : Lane) : (setL s n x).nands = s.nands := rfl
@[simp] theorem setL_time (n : Nat) (x : Lane) : (setL s n x).time = s.time := rfl
@[simp] theorem setL_elect (n : Nat) (x : Lane) : (setL s n x).elect = s.elect := rfl
@[simp] theorem setL_chans (n : Nat) (x : Lane) : (setL s n x).chans = s.chans := rfl
@[simp] theorem setL_routes (n : Nat) (x : Lane) : (setL s n x).routes = s.routes := rfl
@[simp] theorem setL_blockedNums (n : Nat) (x : Lane) : (setL s n x).blockedNums = s.blockedNums := rfl
@[simp] theorem setL_cutCount (n : Nat) (x : Lane) : (setL s n x).cutCount = s.cutCount := rfl
@[simp] theorem setL_knownCuts (n : Nat) (x : Lane) : (setL s n x).knownCuts = s.knownCuts := rfl
@[simp] theorem setL_twp (n : Nat) (x : Lane) : (setL s n x).twp = s.twp := rfl
@[simp] theorem setL_host (n : Nat) (x : Lane) : (setL s n x).host = s.host := rfl
@[simp] theorem setL_aga (n : Nat) (x : Lane) : (setL s n x).aga = s.aga := rfl
@[simp] theorem setL_unlock (n : Nat) (x : Lane) : (setL s n x).unlock = s.unlock := rfl
@[simp] theorem setL_boot (n : Nat) (x : Lane) : (setL s n x).boot = s.boot := rfl
@[simp] theorem setL_freeCtr (n : Nat) (x : Lane) : (setL s n x).freeCtr = s.freeCtr := rfl
@[simp] theorem setL_opCtr (n : Nat) (x : Lane) : (setL s n x).opCtr = s.opCtr := rfl

/-! ### regPut -/

@[simp] theorem regPut_pending (k o : Nat) (v : Word) : (regPut s k o v).pending = s.pending := rfl
@[simp] theorem regPut_integ (k o : Nat) (v : Word) : (regPut s k o v).integ = s.integ := rfl
@[simp] theorem regPut_ht (k o : Nat) (v : Word) : (regPut s k o v).ht = s.ht := rfl
@[simp] theorem regPut_areg (k o : Nat) (v : Word) : (regPut s k o v).areg = s.areg := rfl
@[simp] theorem regPut_hubMem (k o : Nat) (v : Word) : (regPut s k o v).hubMem = s.hubMem := rfl
@[simp] theorem regPut_mail (k o : Nat) (v : Word) : (regPut s k o v).mail = s.mail := rfl
@[simp] theorem regPut_whorls (k o : Nat) (v : Word) : (regPut s k o v).whorls = s.whorls := rfl
@[simp] theorem regPut_evPend (k o : Nat) (v : Word) : (regPut s k o v).evPend = s.evPend := rfl
@[simp] theorem regPut_evCut (k o : Nat) (v : Word) : (regPut s k o v).evCut = s.evCut := rfl
@[simp] theorem regPut_evXt (k o : Nat) (v : Word) : (regPut s k o v).evXt = s.evXt := rfl
@[simp] theorem regPut_hubIrq (k o : Nat) (v : Word) : (regPut s k o v).hubIrq = s.hubIrq := rfl
@[simp] theorem regPut_parts (k o : Nat) (v : Word) : (regPut s k o v).parts = s.parts := rfl
@[simp] theorem regPut_rparts (k o : Nat) (v : Word) : (regPut s k o v).rparts = s.rparts := rfl
@[simp] theorem regPut_regions (k o : Nat) (v : Word) : (regPut s k o v).regions = s.regions := rfl
@[simp] theorem regPut_sites (k o : Nat) (v : Word) : (regPut s k o v).sites = s.sites := rfl
@[simp] theorem regPut_flyers (k o : Nat) (v : Word) : (regPut s k o v).flyers = s.flyers := rfl
@[simp] theorem regPut_spine (k o : Nat) (v : Word) : (regPut s k o v).spine = s.spine := rfl
@[simp] theorem regPut_pulses (k o : Nat) (v : Word) : (regPut s k o v).pulses = s.pulses := rfl
@[simp] theorem regPut_xqueues (k o : Nat) (v : Word) : (regPut s k o v).xqueues = s.xqueues := rfl
@[simp] theorem regPut_smSent (k o : Nat) (v : Word) : (regPut s k o v).smSent = s.smSent := rfl
@[simp] theorem regPut_smMarked (k o : Nat) (v : Word) : (regPut s k o v).smMarked = s.smMarked := rfl
@[simp] theorem regPut_ops (k o : Nat) (v : Word) : (regPut s k o v).ops = s.ops := rfl
@[simp] theorem regPut_arrivals (k o : Nat) (v : Word) : (regPut s k o v).arrivals = s.arrivals := rfl
@[simp] theorem regPut_lateIds (k o : Nat) (v : Word) : (regPut s k o v).lateIds = s.lateIds := rfl
@[simp] theorem regPut_funnel (k o : Nat) (v : Word) : (regPut s k o v).funnel = s.funnel := rfl
@[simp] theorem regPut_buffer (k o : Nat) (v : Word) : (regPut s k o v).buffer = s.buffer := rfl
@[simp] theorem regPut_lanes (k o : Nat) (v : Word) : (regPut s k o v).lanes = s.lanes := rfl
@[simp] theorem regPut_master (k o : Nat) (v : Word) : (regPut s k o v).master = s.master := rfl
@[simp] theorem regPut_ring (k o : Nat) (v : Word) : (regPut s k o v).ring = s.ring := rfl
@[simp] theorem regPut_guestAos (k o : Nat) (v : Word) : (regPut s k o v).guestAos = s.guestAos := rfl
@[simp] theorem regPut_hang (k o : Nat) (v : Word) : (regPut s k o v).hang = s.hang := rfl
@[simp] theorem regPut_hank (k o : Nat) (v : Word) : (regPut s k o v).hank = s.hank := rfl
@[simp] theorem regPut_nands (k o : Nat) (v : Word) : (regPut s k o v).nands = s.nands := rfl
@[simp] theorem regPut_time (k o : Nat) (v : Word) : (regPut s k o v).time = s.time := rfl
@[simp] theorem regPut_elect (k o : Nat) (v : Word) : (regPut s k o v).elect = s.elect := rfl
@[simp] theorem regPut_chans (k o : Nat) (v : Word) : (regPut s k o v).chans = s.chans := rfl
@[simp] theorem regPut_routes (k o : Nat) (v : Word) : (regPut s k o v).routes = s.routes := rfl
@[simp] theorem regPut_blockedNums (k o : Nat) (v : Word) : (regPut s k o v).blockedNums = s.blockedNums := rfl
@[simp] theorem regPut_cutCount (k o : Nat) (v : Word) : (regPut s k o v).cutCount = s.cutCount := rfl
@[simp] theorem regPut_knownCuts (k o : Nat) (v : Word) : (regPut s k o v).knownCuts = s.knownCuts := rfl
@[simp] theorem regPut_twp (k o : Nat) (v : Word) : (regPut s k o v).twp = s.twp := rfl
@[simp] theorem regPut_host (k o : Nat) (v : Word) : (regPut s k o v).host = s.host := rfl
@[simp] theorem regPut_aga (k o : Nat) (v : Word) : (regPut s k o v).aga = s.aga := rfl
@[simp] theorem regPut_unlock (k o : Nat) (v : Word) : (regPut s k o v).unlock = s.unlock := rfl
@[simp] theorem regPut_boot (k o : Nat) (v : Word) : (regPut s k o v).boot = s.boot := rfl
@[simp] theorem regPut_freeCtr (k o : Nat) (v : Word) : (regPut s k o v).freeCtr = s.freeCtr := rfl
@[simp] theorem regPut_opCtr (k o : Nat) (v : Word) : (regPut s k o v).opCtr = s.opCtr := rfl

/-! ### setReg -/

@[simp] theorem setReg_pending (o : Nat) (v : Word) : (setReg s o v).pending = s.pending := rfl
@[simp] theorem setReg_integ (o : Nat) (v : Word) : (setReg s o v).integ = s.integ := rfl
@[simp] theorem setReg_ht (o : Nat) (v : Word) : (setReg s o v).ht = s.ht := rfl
@[simp] theorem setReg_areg (o : Nat) (v : Word) : (setReg s o v).areg = s.areg := rfl
@[simp] theorem setReg_hubMem (o : Nat) (v : Word) : (setReg s o v).hubMem = s.hubMem := rfl
@[simp] theorem setReg_mail (o : Nat) (v : Word) : (setReg s o v).mail = s.mail := rfl
@[simp] theorem setReg_whorls (o : Nat) (v : Word) : (setReg s o v).whorls = s.whorls := rfl
@[simp] theorem setReg_evPend (o : Nat) (v : Word) : (setReg s o v).evPend = s.evPend := rfl
@[simp] theorem setReg_evCut (o : Nat) (v : Word) : (setReg s o v).evCut = s.evCut := rfl
@[simp] theorem setReg_evXt (o : Nat) (v : Word) : (setReg s o v).evXt = s.evXt := rfl
@[simp] theorem setReg_hubIrq (o : Nat) (v : Word) : (setReg s o v).hubIrq = s.hubIrq := rfl
@[simp] theorem setReg_parts (o : Nat) (v : Word) : (setReg s o v).parts = s.parts := rfl
@[simp] theorem setReg_rparts (o : Nat) (v : Word) : (setReg s o v).rparts = s.rparts := rfl
@[simp] theorem setReg_regions (o : Nat) (v : Word) : (setReg s o v).regions = s.regions := rfl
@[simp] theorem setReg_sites (o : Nat) (v : Word) : (setReg s o v).sites = s.sites := rfl
@[simp] theorem setReg_flyers (o : Nat) (v : Word) : (setReg s o v).flyers = s.flyers := rfl
@[simp] theorem setReg_spine (o : Nat) (v : Word) : (setReg s o v).spine = s.spine := rfl
@[simp] theorem setReg_pulses (o : Nat) (v : Word) : (setReg s o v).pulses = s.pulses := rfl
@[simp] theorem setReg_xqueues (o : Nat) (v : Word) : (setReg s o v).xqueues = s.xqueues := rfl
@[simp] theorem setReg_smSent (o : Nat) (v : Word) : (setReg s o v).smSent = s.smSent := rfl
@[simp] theorem setReg_smMarked (o : Nat) (v : Word) : (setReg s o v).smMarked = s.smMarked := rfl
@[simp] theorem setReg_ops (o : Nat) (v : Word) : (setReg s o v).ops = s.ops := rfl
@[simp] theorem setReg_arrivals (o : Nat) (v : Word) : (setReg s o v).arrivals = s.arrivals := rfl
@[simp] theorem setReg_lateIds (o : Nat) (v : Word) : (setReg s o v).lateIds = s.lateIds := rfl
@[simp] theorem setReg_funnel (o : Nat) (v : Word) : (setReg s o v).funnel = s.funnel := rfl
@[simp] theorem setReg_buffer (o : Nat) (v : Word) : (setReg s o v).buffer = s.buffer := rfl
@[simp] theorem setReg_lanes (o : Nat) (v : Word) : (setReg s o v).lanes = s.lanes := rfl
@[simp] theorem setReg_master (o : Nat) (v : Word) : (setReg s o v).master = s.master := rfl
@[simp] theorem setReg_ring (o : Nat) (v : Word) : (setReg s o v).ring = s.ring := rfl
@[simp] theorem setReg_guestAos (o : Nat) (v : Word) : (setReg s o v).guestAos = s.guestAos := rfl
@[simp] theorem setReg_hang (o : Nat) (v : Word) : (setReg s o v).hang = s.hang := rfl
@[simp] theorem setReg_hank (o : Nat) (v : Word) : (setReg s o v).hank = s.hank := rfl
@[simp] theorem setReg_nands (o : Nat) (v : Word) : (setReg s o v).nands = s.nands := rfl
@[simp] theorem setReg_time (o : Nat) (v : Word) : (setReg s o v).time = s.time := rfl
@[simp] theorem setReg_elect (o : Nat) (v : Word) : (setReg s o v).elect = s.elect := rfl
@[simp] theorem setReg_chans (o : Nat) (v : Word) : (setReg s o v).chans = s.chans := rfl
@[simp] theorem setReg_routes (o : Nat) (v : Word) : (setReg s o v).routes = s.routes := rfl
@[simp] theorem setReg_blockedNums (o : Nat) (v : Word) : (setReg s o v).blockedNums = s.blockedNums := rfl
@[simp] theorem setReg_cutCount (o : Nat) (v : Word) : (setReg s o v).cutCount = s.cutCount := rfl
@[simp] theorem setReg_knownCuts (o : Nat) (v : Word) : (setReg s o v).knownCuts = s.knownCuts := rfl
@[simp] theorem setReg_twp (o : Nat) (v : Word) : (setReg s o v).twp = s.twp := rfl
@[simp] theorem setReg_host (o : Nat) (v : Word) : (setReg s o v).host = s.host := rfl
@[simp] theorem setReg_aga (o : Nat) (v : Word) : (setReg s o v).aga = s.aga := rfl
@[simp] theorem setReg_unlock (o : Nat) (v : Word) : (setReg s o v).unlock = s.unlock := rfl
@[simp] theorem setReg_boot (o : Nat) (v : Word) : (setReg s o v).boot = s.boot := rfl
@[simp] theorem setReg_freeCtr (o : Nat) (v : Word) : (setReg s o v).freeCtr = s.freeCtr := rfl
@[simp] theorem setReg_opCtr (o : Nat) (v : Word) : (setReg s o v).opCtr = s.opCtr := rfl

/-! ### setRegF -/

@[simp] theorem setRegF_pending (o hi lo x : Nat) : (setRegF s o hi lo x).pending = s.pending := rfl
@[simp] theorem setRegF_integ (o hi lo x : Nat) : (setRegF s o hi lo x).integ = s.integ := rfl
@[simp] theorem setRegF_ht (o hi lo x : Nat) : (setRegF s o hi lo x).ht = s.ht := rfl
@[simp] theorem setRegF_areg (o hi lo x : Nat) : (setRegF s o hi lo x).areg = s.areg := rfl
@[simp] theorem setRegF_hubMem (o hi lo x : Nat) : (setRegF s o hi lo x).hubMem = s.hubMem := rfl
@[simp] theorem setRegF_mail (o hi lo x : Nat) : (setRegF s o hi lo x).mail = s.mail := rfl
@[simp] theorem setRegF_whorls (o hi lo x : Nat) : (setRegF s o hi lo x).whorls = s.whorls := rfl
@[simp] theorem setRegF_evPend (o hi lo x : Nat) : (setRegF s o hi lo x).evPend = s.evPend := rfl
@[simp] theorem setRegF_evCut (o hi lo x : Nat) : (setRegF s o hi lo x).evCut = s.evCut := rfl
@[simp] theorem setRegF_evXt (o hi lo x : Nat) : (setRegF s o hi lo x).evXt = s.evXt := rfl
@[simp] theorem setRegF_hubIrq (o hi lo x : Nat) : (setRegF s o hi lo x).hubIrq = s.hubIrq := rfl
@[simp] theorem setRegF_parts (o hi lo x : Nat) : (setRegF s o hi lo x).parts = s.parts := rfl
@[simp] theorem setRegF_rparts (o hi lo x : Nat) : (setRegF s o hi lo x).rparts = s.rparts := rfl
@[simp] theorem setRegF_regions (o hi lo x : Nat) : (setRegF s o hi lo x).regions = s.regions := rfl
@[simp] theorem setRegF_sites (o hi lo x : Nat) : (setRegF s o hi lo x).sites = s.sites := rfl
@[simp] theorem setRegF_flyers (o hi lo x : Nat) : (setRegF s o hi lo x).flyers = s.flyers := rfl
@[simp] theorem setRegF_spine (o hi lo x : Nat) : (setRegF s o hi lo x).spine = s.spine := rfl
@[simp] theorem setRegF_pulses (o hi lo x : Nat) : (setRegF s o hi lo x).pulses = s.pulses := rfl
@[simp] theorem setRegF_xqueues (o hi lo x : Nat) : (setRegF s o hi lo x).xqueues = s.xqueues := rfl
@[simp] theorem setRegF_smSent (o hi lo x : Nat) : (setRegF s o hi lo x).smSent = s.smSent := rfl
@[simp] theorem setRegF_smMarked (o hi lo x : Nat) : (setRegF s o hi lo x).smMarked = s.smMarked := rfl
@[simp] theorem setRegF_ops (o hi lo x : Nat) : (setRegF s o hi lo x).ops = s.ops := rfl
@[simp] theorem setRegF_arrivals (o hi lo x : Nat) : (setRegF s o hi lo x).arrivals = s.arrivals := rfl
@[simp] theorem setRegF_lateIds (o hi lo x : Nat) : (setRegF s o hi lo x).lateIds = s.lateIds := rfl
@[simp] theorem setRegF_funnel (o hi lo x : Nat) : (setRegF s o hi lo x).funnel = s.funnel := rfl
@[simp] theorem setRegF_buffer (o hi lo x : Nat) : (setRegF s o hi lo x).buffer = s.buffer := rfl
@[simp] theorem setRegF_lanes (o hi lo x : Nat) : (setRegF s o hi lo x).lanes = s.lanes := rfl
@[simp] theorem setRegF_master (o hi lo x : Nat) : (setRegF s o hi lo x).master = s.master := rfl
@[simp] theorem setRegF_ring (o hi lo x : Nat) : (setRegF s o hi lo x).ring = s.ring := rfl
@[simp] theorem setRegF_guestAos (o hi lo x : Nat) : (setRegF s o hi lo x).guestAos = s.guestAos := rfl
@[simp] theorem setRegF_hang (o hi lo x : Nat) : (setRegF s o hi lo x).hang = s.hang := rfl
@[simp] theorem setRegF_hank (o hi lo x : Nat) : (setRegF s o hi lo x).hank = s.hank := rfl
@[simp] theorem setRegF_nands (o hi lo x : Nat) : (setRegF s o hi lo x).nands = s.nands := rfl
@[simp] theorem setRegF_time (o hi lo x : Nat) : (setRegF s o hi lo x).time = s.time := rfl
@[simp] theorem setRegF_elect (o hi lo x : Nat) : (setRegF s o hi lo x).elect = s.elect := rfl
@[simp] theorem setRegF_chans (o hi lo x : Nat) : (setRegF s o hi lo x).chans = s.chans := rfl
@[simp] theorem setRegF_routes (o hi lo x : Nat) : (setRegF s o hi lo x).routes = s.routes := rfl
@[simp] theorem setRegF_blockedNums (o hi lo x : Nat) : (setRegF s o hi lo x).blockedNums = s.blockedNums := rfl
@[simp] theorem setRegF_cutCount (o hi lo x : Nat) : (setRegF s o hi lo x).cutCount = s.cutCount := rfl
@[simp] theorem setRegF_knownCuts (o hi lo x : Nat) : (setRegF s o hi lo x).knownCuts = s.knownCuts := rfl
@[simp] theorem setRegF_twp (o hi lo x : Nat) : (setRegF s o hi lo x).twp = s.twp := rfl
@[simp] theorem setRegF_host (o hi lo x : Nat) : (setRegF s o hi lo x).host = s.host := rfl
@[simp] theorem setRegF_aga (o hi lo x : Nat) : (setRegF s o hi lo x).aga = s.aga := rfl
@[simp] theorem setRegF_unlock (o hi lo x : Nat) : (setRegF s o hi lo x).unlock = s.unlock := rfl
@[simp] theorem setRegF_boot (o hi lo x : Nat) : (setRegF s o hi lo x).boot = s.boot := rfl
@[simp] theorem setRegF_freeCtr (o hi lo x : Nat) : (setRegF s o hi lo x).freeCtr = s.freeCtr := rfl
@[simp] theorem setRegF_opCtr (o hi lo x : Nat) : (setRegF s o hi lo x).opCtr = s.opCtr := rfl

/-! ### countF -/

@[simp] theorem countF_pending (o hi lo n : Nat) : (countF s o hi lo n).pending = s.pending := rfl
@[simp] theorem countF_integ (o hi lo n : Nat) : (countF s o hi lo n).integ = s.integ := rfl
@[simp] theorem countF_ht (o hi lo n : Nat) : (countF s o hi lo n).ht = s.ht := rfl
@[simp] theorem countF_areg (o hi lo n : Nat) : (countF s o hi lo n).areg = s.areg := rfl
@[simp] theorem countF_hubMem (o hi lo n : Nat) : (countF s o hi lo n).hubMem = s.hubMem := rfl
@[simp] theorem countF_mail (o hi lo n : Nat) : (countF s o hi lo n).mail = s.mail := rfl
@[simp] theorem countF_whorls (o hi lo n : Nat) : (countF s o hi lo n).whorls = s.whorls := rfl
@[simp] theorem countF_evPend (o hi lo n : Nat) : (countF s o hi lo n).evPend = s.evPend := rfl
@[simp] theorem countF_evCut (o hi lo n : Nat) : (countF s o hi lo n).evCut = s.evCut := rfl
@[simp] theorem countF_evXt (o hi lo n : Nat) : (countF s o hi lo n).evXt = s.evXt := rfl
@[simp] theorem countF_hubIrq (o hi lo n : Nat) : (countF s o hi lo n).hubIrq = s.hubIrq := rfl
@[simp] theorem countF_parts (o hi lo n : Nat) : (countF s o hi lo n).parts = s.parts := rfl
@[simp] theorem countF_rparts (o hi lo n : Nat) : (countF s o hi lo n).rparts = s.rparts := rfl
@[simp] theorem countF_regions (o hi lo n : Nat) : (countF s o hi lo n).regions = s.regions := rfl
@[simp] theorem countF_sites (o hi lo n : Nat) : (countF s o hi lo n).sites = s.sites := rfl
@[simp] theorem countF_flyers (o hi lo n : Nat) : (countF s o hi lo n).flyers = s.flyers := rfl
@[simp] theorem countF_spine (o hi lo n : Nat) : (countF s o hi lo n).spine = s.spine := rfl
@[simp] theorem countF_pulses (o hi lo n : Nat) : (countF s o hi lo n).pulses = s.pulses := rfl
@[simp] theorem countF_xqueues (o hi lo n : Nat) : (countF s o hi lo n).xqueues = s.xqueues := rfl
@[simp] theorem countF_smSent (o hi lo n : Nat) : (countF s o hi lo n).smSent = s.smSent := rfl
@[simp] theorem countF_smMarked (o hi lo n : Nat) : (countF s o hi lo n).smMarked = s.smMarked := rfl
@[simp] theorem countF_ops (o hi lo n : Nat) : (countF s o hi lo n).ops = s.ops := rfl
@[simp] theorem countF_arrivals (o hi lo n : Nat) : (countF s o hi lo n).arrivals = s.arrivals := rfl
@[simp] theorem countF_lateIds (o hi lo n : Nat) : (countF s o hi lo n).lateIds = s.lateIds := rfl
@[simp] theorem countF_funnel (o hi lo n : Nat) : (countF s o hi lo n).funnel = s.funnel := rfl
@[simp] theorem countF_buffer (o hi lo n : Nat) : (countF s o hi lo n).buffer = s.buffer := rfl
@[simp] theorem countF_lanes (o hi lo n : Nat) : (countF s o hi lo n).lanes = s.lanes := rfl
@[simp] theorem countF_master (o hi lo n : Nat) : (countF s o hi lo n).master = s.master := rfl
@[simp] theorem countF_ring (o hi lo n : Nat) : (countF s o hi lo n).ring = s.ring := rfl
@[simp] theorem countF_guestAos (o hi lo n : Nat) : (countF s o hi lo n).guestAos = s.guestAos := rfl
@[simp] theorem countF_hang (o hi lo n : Nat) : (countF s o hi lo n).hang = s.hang := rfl
@[simp] theorem countF_hank (o hi lo n : Nat) : (countF s o hi lo n).hank = s.hank := rfl
@[simp] theorem countF_nands (o hi lo n : Nat) : (countF s o hi lo n).nands = s.nands := rfl
@[simp] theorem countF_time (o hi lo n : Nat) : (countF s o hi lo n).time = s.time := rfl
@[simp] theorem countF_elect (o hi lo n : Nat) : (countF s o hi lo n).elect = s.elect := rfl
@[simp] theorem countF_chans (o hi lo n : Nat) : (countF s o hi lo n).chans = s.chans := rfl
@[simp] theorem countF_routes (o hi lo n : Nat) : (countF s o hi lo n).routes = s.routes := rfl
@[simp] theorem countF_blockedNums (o hi lo n : Nat) : (countF s o hi lo n).blockedNums = s.blockedNums := rfl
@[simp] theorem countF_cutCount (o hi lo n : Nat) : (countF s o hi lo n).cutCount = s.cutCount := rfl
@[simp] theorem countF_knownCuts (o hi lo n : Nat) : (countF s o hi lo n).knownCuts = s.knownCuts := rfl
@[simp] theorem countF_twp (o hi lo n : Nat) : (countF s o hi lo n).twp = s.twp := rfl
@[simp] theorem countF_host (o hi lo n : Nat) : (countF s o hi lo n).host = s.host := rfl
@[simp] theorem countF_aga (o hi lo n : Nat) : (countF s o hi lo n).aga = s.aga := rfl
@[simp] theorem countF_unlock (o hi lo n : Nat) : (countF s o hi lo n).unlock = s.unlock := rfl
@[simp] theorem countF_boot (o hi lo n : Nat) : (countF s o hi lo n).boot = s.boot := rfl
@[simp] theorem countF_freeCtr (o hi lo n : Nat) : (countF s o hi lo n).freeCtr = s.freeCtr := rfl
@[simp] theorem countF_opCtr (o hi lo n : Nat) : (countF s o hi lo n).opCtr = s.opCtr := rfl

/-! ### countObj -/

@[simp] theorem countObj_pending (n o hi lo k : Nat) : (countObj s n o hi lo k).pending = s.pending := rfl
@[simp] theorem countObj_integ (n o hi lo k : Nat) : (countObj s n o hi lo k).integ = s.integ := rfl
@[simp] theorem countObj_ht (n o hi lo k : Nat) : (countObj s n o hi lo k).ht = s.ht := rfl
@[simp] theorem countObj_areg (n o hi lo k : Nat) : (countObj s n o hi lo k).areg = s.areg := rfl
@[simp] theorem countObj_hubMem (n o hi lo k : Nat) : (countObj s n o hi lo k).hubMem = s.hubMem := rfl
@[simp] theorem countObj_mail (n o hi lo k : Nat) : (countObj s n o hi lo k).mail = s.mail := rfl
@[simp] theorem countObj_whorls (n o hi lo k : Nat) : (countObj s n o hi lo k).whorls = s.whorls := rfl
@[simp] theorem countObj_evPend (n o hi lo k : Nat) : (countObj s n o hi lo k).evPend = s.evPend := rfl
@[simp] theorem countObj_evCut (n o hi lo k : Nat) : (countObj s n o hi lo k).evCut = s.evCut := rfl
@[simp] theorem countObj_evXt (n o hi lo k : Nat) : (countObj s n o hi lo k).evXt = s.evXt := rfl
@[simp] theorem countObj_hubIrq (n o hi lo k : Nat) : (countObj s n o hi lo k).hubIrq = s.hubIrq := rfl
@[simp] theorem countObj_parts (n o hi lo k : Nat) : (countObj s n o hi lo k).parts = s.parts := rfl
@[simp] theorem countObj_rparts (n o hi lo k : Nat) : (countObj s n o hi lo k).rparts = s.rparts := rfl
@[simp] theorem countObj_regions (n o hi lo k : Nat) : (countObj s n o hi lo k).regions = s.regions := rfl
@[simp] theorem countObj_sites (n o hi lo k : Nat) : (countObj s n o hi lo k).sites = s.sites := rfl
@[simp] theorem countObj_flyers (n o hi lo k : Nat) : (countObj s n o hi lo k).flyers = s.flyers := rfl
@[simp] theorem countObj_spine (n o hi lo k : Nat) : (countObj s n o hi lo k).spine = s.spine := rfl
@[simp] theorem countObj_pulses (n o hi lo k : Nat) : (countObj s n o hi lo k).pulses = s.pulses := rfl
@[simp] theorem countObj_xqueues (n o hi lo k : Nat) : (countObj s n o hi lo k).xqueues = s.xqueues := rfl
@[simp] theorem countObj_smSent (n o hi lo k : Nat) : (countObj s n o hi lo k).smSent = s.smSent := rfl
@[simp] theorem countObj_smMarked (n o hi lo k : Nat) : (countObj s n o hi lo k).smMarked = s.smMarked := rfl
@[simp] theorem countObj_ops (n o hi lo k : Nat) : (countObj s n o hi lo k).ops = s.ops := rfl
@[simp] theorem countObj_arrivals (n o hi lo k : Nat) : (countObj s n o hi lo k).arrivals = s.arrivals := rfl
@[simp] theorem countObj_lateIds (n o hi lo k : Nat) : (countObj s n o hi lo k).lateIds = s.lateIds := rfl
@[simp] theorem countObj_funnel (n o hi lo k : Nat) : (countObj s n o hi lo k).funnel = s.funnel := rfl
@[simp] theorem countObj_buffer (n o hi lo k : Nat) : (countObj s n o hi lo k).buffer = s.buffer := rfl
@[simp] theorem countObj_lanes (n o hi lo k : Nat) : (countObj s n o hi lo k).lanes = s.lanes := rfl
@[simp] theorem countObj_master (n o hi lo k : Nat) : (countObj s n o hi lo k).master = s.master := rfl
@[simp] theorem countObj_ring (n o hi lo k : Nat) : (countObj s n o hi lo k).ring = s.ring := rfl
@[simp] theorem countObj_guestAos (n o hi lo k : Nat) : (countObj s n o hi lo k).guestAos = s.guestAos := rfl
@[simp] theorem countObj_hang (n o hi lo k : Nat) : (countObj s n o hi lo k).hang = s.hang := rfl
@[simp] theorem countObj_hank (n o hi lo k : Nat) : (countObj s n o hi lo k).hank = s.hank := rfl
@[simp] theorem countObj_nands (n o hi lo k : Nat) : (countObj s n o hi lo k).nands = s.nands := rfl
@[simp] theorem countObj_time (n o hi lo k : Nat) : (countObj s n o hi lo k).time = s.time := rfl
@[simp] theorem countObj_elect (n o hi lo k : Nat) : (countObj s n o hi lo k).elect = s.elect := rfl
@[simp] theorem countObj_chans (n o hi lo k : Nat) : (countObj s n o hi lo k).chans = s.chans := rfl
@[simp] theorem countObj_routes (n o hi lo k : Nat) : (countObj s n o hi lo k).routes = s.routes := rfl
@[simp] theorem countObj_blockedNums (n o hi lo k : Nat) : (countObj s n o hi lo k).blockedNums = s.blockedNums := rfl
@[simp] theorem countObj_cutCount (n o hi lo k : Nat) : (countObj s n o hi lo k).cutCount = s.cutCount := rfl
@[simp] theorem countObj_knownCuts (n o hi lo k : Nat) : (countObj s n o hi lo k).knownCuts = s.knownCuts := rfl
@[simp] theorem countObj_twp (n o hi lo k : Nat) : (countObj s n o hi lo k).twp = s.twp := rfl
@[simp] theorem countObj_host (n o hi lo k : Nat) : (countObj s n o hi lo k).host = s.host := rfl
@[simp] theorem countObj_aga (n o hi lo k : Nat) : (countObj s n o hi lo k).aga = s.aga := rfl
@[simp] theorem countObj_unlock (n o hi lo k : Nat) : (countObj s n o hi lo k).unlock = s.unlock := rfl
@[simp] theorem countObj_boot (n o hi lo k : Nat) : (countObj s n o hi lo k).boot = s.boot := rfl
@[simp] theorem countObj_freeCtr (n o hi lo k : Nat) : (countObj s n o hi lo k).freeCtr = s.freeCtr := rfl
@[simp] theorem countObj_opCtr (n o hi lo k : Nat) : (countObj s n o hi lo k).opCtr = s.opCtr := rfl

/-! ### setAg -/

@[simp] theorem setAg_pending (i r : Nat) (v : Word) : (setAg s i r v).pending = s.pending := rfl
@[simp] theorem setAg_integ (i r : Nat) (v : Word) : (setAg s i r v).integ = s.integ := rfl
@[simp] theorem setAg_ht (i r : Nat) (v : Word) : (setAg s i r v).ht = s.ht := rfl
@[simp] theorem setAg_regs (i r : Nat) (v : Word) : (setAg s i r v).regs = s.regs := rfl
@[simp] theorem setAg_hubMem (i r : Nat) (v : Word) : (setAg s i r v).hubMem = s.hubMem := rfl
@[simp] theorem setAg_mail (i r : Nat) (v : Word) : (setAg s i r v).mail = s.mail := rfl
@[simp] theorem setAg_whorls (i r : Nat) (v : Word) : (setAg s i r v).whorls = s.whorls := rfl
@[simp] theorem setAg_evPend (i r : Nat) (v : Word) : (setAg s i r v).evPend = s.evPend := rfl
@[simp] theorem setAg_evCut (i r : Nat) (v : Word) : (setAg s i r v).evCut = s.evCut := rfl
@[simp] theorem setAg_evXt (i r : Nat) (v : Word) : (setAg s i r v).evXt = s.evXt := rfl
@[simp] theorem setAg_hubIrq (i r : Nat) (v : Word) : (setAg s i r v).hubIrq = s.hubIrq := rfl
@[simp] theorem setAg_parts (i r : Nat) (v : Word) : (setAg s i r v).parts = s.parts := rfl
@[simp] theorem setAg_rparts (i r : Nat) (v : Word) : (setAg s i r v).rparts = s.rparts := rfl
@[simp] theorem setAg_regions (i r : Nat) (v : Word) : (setAg s i r v).regions = s.regions := rfl
@[simp] theorem setAg_sites (i r : Nat) (v : Word) : (setAg s i r v).sites = s.sites := rfl
@[simp] theorem setAg_flyers (i r : Nat) (v : Word) : (setAg s i r v).flyers = s.flyers := rfl
@[simp] theorem setAg_spine (i r : Nat) (v : Word) : (setAg s i r v).spine = s.spine := rfl
@[simp] theorem setAg_pulses (i r : Nat) (v : Word) : (setAg s i r v).pulses = s.pulses := rfl
@[simp] theorem setAg_xqueues (i r : Nat) (v : Word) : (setAg s i r v).xqueues = s.xqueues := rfl
@[simp] theorem setAg_smSent (i r : Nat) (v : Word) : (setAg s i r v).smSent = s.smSent := rfl
@[simp] theorem setAg_smMarked (i r : Nat) (v : Word) : (setAg s i r v).smMarked = s.smMarked := rfl
@[simp] theorem setAg_ops (i r : Nat) (v : Word) : (setAg s i r v).ops = s.ops := rfl
@[simp] theorem setAg_arrivals (i r : Nat) (v : Word) : (setAg s i r v).arrivals = s.arrivals := rfl
@[simp] theorem setAg_lateIds (i r : Nat) (v : Word) : (setAg s i r v).lateIds = s.lateIds := rfl
@[simp] theorem setAg_funnel (i r : Nat) (v : Word) : (setAg s i r v).funnel = s.funnel := rfl
@[simp] theorem setAg_buffer (i r : Nat) (v : Word) : (setAg s i r v).buffer = s.buffer := rfl
@[simp] theorem setAg_lanes (i r : Nat) (v : Word) : (setAg s i r v).lanes = s.lanes := rfl
@[simp] theorem setAg_master (i r : Nat) (v : Word) : (setAg s i r v).master = s.master := rfl
@[simp] theorem setAg_ring (i r : Nat) (v : Word) : (setAg s i r v).ring = s.ring := rfl
@[simp] theorem setAg_guestAos (i r : Nat) (v : Word) : (setAg s i r v).guestAos = s.guestAos := rfl
@[simp] theorem setAg_hang (i r : Nat) (v : Word) : (setAg s i r v).hang = s.hang := rfl
@[simp] theorem setAg_hank (i r : Nat) (v : Word) : (setAg s i r v).hank = s.hank := rfl
@[simp] theorem setAg_nands (i r : Nat) (v : Word) : (setAg s i r v).nands = s.nands := rfl
@[simp] theorem setAg_time (i r : Nat) (v : Word) : (setAg s i r v).time = s.time := rfl
@[simp] theorem setAg_elect (i r : Nat) (v : Word) : (setAg s i r v).elect = s.elect := rfl
@[simp] theorem setAg_chans (i r : Nat) (v : Word) : (setAg s i r v).chans = s.chans := rfl
@[simp] theorem setAg_routes (i r : Nat) (v : Word) : (setAg s i r v).routes = s.routes := rfl
@[simp] theorem setAg_blockedNums (i r : Nat) (v : Word) : (setAg s i r v).blockedNums = s.blockedNums := rfl
@[simp] theorem setAg_cutCount (i r : Nat) (v : Word) : (setAg s i r v).cutCount = s.cutCount := rfl
@[simp] theorem setAg_knownCuts (i r : Nat) (v : Word) : (setAg s i r v).knownCuts = s.knownCuts := rfl
@[simp] theorem setAg_twp (i r : Nat) (v : Word) : (setAg s i r v).twp = s.twp := rfl
@[simp] theorem setAg_host (i r : Nat) (v : Word) : (setAg s i r v).host = s.host := rfl
@[simp] theorem setAg_aga (i r : Nat) (v : Word) : (setAg s i r v).aga = s.aga := rfl
@[simp] theorem setAg_unlock (i r : Nat) (v : Word) : (setAg s i r v).unlock = s.unlock := rfl
@[simp] theorem setAg_boot (i r : Nat) (v : Word) : (setAg s i r v).boot = s.boot := rfl
@[simp] theorem setAg_freeCtr (i r : Nat) (v : Word) : (setAg s i r v).freeCtr = s.freeCtr := rfl
@[simp] theorem setAg_opCtr (i r : Nat) (v : Word) : (setAg s i r v).opCtr = s.opCtr := rfl

/-! ### setAgBank -/

@[simp] theorem setAgBank_pending (i q r : Nat) (v : Word) : (setAgBank s i q r v).pending = s.pending := rfl
@[simp] theorem setAgBank_integ (i q r : Nat) (v : Word) : (setAgBank s i q r v).integ = s.integ := rfl
@[simp] theorem setAgBank_ht (i q r : Nat) (v : Word) : (setAgBank s i q r v).ht = s.ht := rfl
@[simp] theorem setAgBank_regs (i q r : Nat) (v : Word) : (setAgBank s i q r v).regs = s.regs := rfl
@[simp] theorem setAgBank_hubMem (i q r : Nat) (v : Word) : (setAgBank s i q r v).hubMem = s.hubMem := rfl
@[simp] theorem setAgBank_mail (i q r : Nat) (v : Word) : (setAgBank s i q r v).mail = s.mail := rfl
@[simp] theorem setAgBank_whorls (i q r : Nat) (v : Word) : (setAgBank s i q r v).whorls = s.whorls := rfl
@[simp] theorem setAgBank_evPend (i q r : Nat) (v : Word) : (setAgBank s i q r v).evPend = s.evPend := rfl
@[simp] theorem setAgBank_evCut (i q r : Nat) (v : Word) : (setAgBank s i q r v).evCut = s.evCut := rfl
@[simp] theorem setAgBank_evXt (i q r : Nat) (v : Word) : (setAgBank s i q r v).evXt = s.evXt := rfl
@[simp] theorem setAgBank_hubIrq (i q r : Nat) (v : Word) : (setAgBank s i q r v).hubIrq = s.hubIrq := rfl
@[simp] theorem setAgBank_parts (i q r : Nat) (v : Word) : (setAgBank s i q r v).parts = s.parts := rfl
@[simp] theorem setAgBank_rparts (i q r : Nat) (v : Word) : (setAgBank s i q r v).rparts = s.rparts := rfl
@[simp] theorem setAgBank_regions (i q r : Nat) (v : Word) : (setAgBank s i q r v).regions = s.regions := rfl
@[simp] theorem setAgBank_sites (i q r : Nat) (v : Word) : (setAgBank s i q r v).sites = s.sites := rfl
@[simp] theorem setAgBank_flyers (i q r : Nat) (v : Word) : (setAgBank s i q r v).flyers = s.flyers := rfl
@[simp] theorem setAgBank_spine (i q r : Nat) (v : Word) : (setAgBank s i q r v).spine = s.spine := rfl
@[simp] theorem setAgBank_pulses (i q r : Nat) (v : Word) : (setAgBank s i q r v).pulses = s.pulses := rfl
@[simp] theorem setAgBank_xqueues (i q r : Nat) (v : Word) : (setAgBank s i q r v).xqueues = s.xqueues := rfl
@[simp] theorem setAgBank_smSent (i q r : Nat) (v : Word) : (setAgBank s i q r v).smSent = s.smSent := rfl
@[simp] theorem setAgBank_smMarked (i q r : Nat) (v : Word) : (setAgBank s i q r v).smMarked = s.smMarked := rfl
@[simp] theorem setAgBank_ops (i q r : Nat) (v : Word) : (setAgBank s i q r v).ops = s.ops := rfl
@[simp] theorem setAgBank_arrivals (i q r : Nat) (v : Word) : (setAgBank s i q r v).arrivals = s.arrivals := rfl
@[simp] theorem setAgBank_lateIds (i q r : Nat) (v : Word) : (setAgBank s i q r v).lateIds = s.lateIds := rfl
@[simp] theorem setAgBank_funnel (i q r : Nat) (v : Word) : (setAgBank s i q r v).funnel = s.funnel := rfl
@[simp] theorem setAgBank_buffer (i q r : Nat) (v : Word) : (setAgBank s i q r v).buffer = s.buffer := rfl
@[simp] theorem setAgBank_lanes (i q r : Nat) (v : Word) : (setAgBank s i q r v).lanes = s.lanes := rfl
@[simp] theorem setAgBank_master (i q r : Nat) (v : Word) : (setAgBank s i q r v).master = s.master := rfl
@[simp] theorem setAgBank_ring (i q r : Nat) (v : Word) : (setAgBank s i q r v).ring = s.ring := rfl
@[simp] theorem setAgBank_guestAos (i q r : Nat) (v : Word) : (setAgBank s i q r v).guestAos = s.guestAos := rfl
@[simp] theorem setAgBank_hang (i q r : Nat) (v : Word) : (setAgBank s i q r v).hang = s.hang := rfl
@[simp] theorem setAgBank_hank (i q r : Nat) (v : Word) : (setAgBank s i q r v).hank = s.hank := rfl
@[simp] theorem setAgBank_nands (i q r : Nat) (v : Word) : (setAgBank s i q r v).nands = s.nands := rfl
@[simp] theorem setAgBank_time (i q r : Nat) (v : Word) : (setAgBank s i q r v).time = s.time := rfl
@[simp] theorem setAgBank_elect (i q r : Nat) (v : Word) : (setAgBank s i q r v).elect = s.elect := rfl
@[simp] theorem setAgBank_chans (i q r : Nat) (v : Word) : (setAgBank s i q r v).chans = s.chans := rfl
@[simp] theorem setAgBank_routes (i q r : Nat) (v : Word) : (setAgBank s i q r v).routes = s.routes := rfl
@[simp] theorem setAgBank_blockedNums (i q r : Nat) (v : Word) : (setAgBank s i q r v).blockedNums = s.blockedNums := rfl
@[simp] theorem setAgBank_cutCount (i q r : Nat) (v : Word) : (setAgBank s i q r v).cutCount = s.cutCount := rfl
@[simp] theorem setAgBank_knownCuts (i q r : Nat) (v : Word) : (setAgBank s i q r v).knownCuts = s.knownCuts := rfl
@[simp] theorem setAgBank_twp (i q r : Nat) (v : Word) : (setAgBank s i q r v).twp = s.twp := rfl
@[simp] theorem setAgBank_host (i q r : Nat) (v : Word) : (setAgBank s i q r v).host = s.host := rfl
@[simp] theorem setAgBank_aga (i q r : Nat) (v : Word) : (setAgBank s i q r v).aga = s.aga := rfl
@[simp] theorem setAgBank_unlock (i q r : Nat) (v : Word) : (setAgBank s i q r v).unlock = s.unlock := rfl
@[simp] theorem setAgBank_boot (i q r : Nat) (v : Word) : (setAgBank s i q r v).boot = s.boot := rfl
@[simp] theorem setAgBank_freeCtr (i q r : Nat) (v : Word) : (setAgBank s i q r v).freeCtr = s.freeCtr := rfl
@[simp] theorem setAgBank_opCtr (i q r : Nat) (v : Word) : (setAgBank s i q r v).opCtr = s.opCtr := rfl

/-! ### setFlyReg -/

@[simp] theorem setFlyReg_pending (c r : Nat) (v : Word) : (setFlyReg s c r v).pending = s.pending := rfl
@[simp] theorem setFlyReg_integ (c r : Nat) (v : Word) : (setFlyReg s c r v).integ = s.integ := rfl
@[simp] theorem setFlyReg_ht (c r : Nat) (v : Word) : (setFlyReg s c r v).ht = s.ht := rfl
@[simp] theorem setFlyReg_regs (c r : Nat) (v : Word) : (setFlyReg s c r v).regs = s.regs := rfl
@[simp] theorem setFlyReg_hubMem (c r : Nat) (v : Word) : (setFlyReg s c r v).hubMem = s.hubMem := rfl
@[simp] theorem setFlyReg_mail (c r : Nat) (v : Word) : (setFlyReg s c r v).mail = s.mail := rfl
@[simp] theorem setFlyReg_whorls (c r : Nat) (v : Word) : (setFlyReg s c r v).whorls = s.whorls := rfl
@[simp] theorem setFlyReg_evPend (c r : Nat) (v : Word) : (setFlyReg s c r v).evPend = s.evPend := rfl
@[simp] theorem setFlyReg_evCut (c r : Nat) (v : Word) : (setFlyReg s c r v).evCut = s.evCut := rfl
@[simp] theorem setFlyReg_evXt (c r : Nat) (v : Word) : (setFlyReg s c r v).evXt = s.evXt := rfl
@[simp] theorem setFlyReg_hubIrq (c r : Nat) (v : Word) : (setFlyReg s c r v).hubIrq = s.hubIrq := rfl
@[simp] theorem setFlyReg_parts (c r : Nat) (v : Word) : (setFlyReg s c r v).parts = s.parts := rfl
@[simp] theorem setFlyReg_rparts (c r : Nat) (v : Word) : (setFlyReg s c r v).rparts = s.rparts := rfl
@[simp] theorem setFlyReg_regions (c r : Nat) (v : Word) : (setFlyReg s c r v).regions = s.regions := rfl
@[simp] theorem setFlyReg_sites (c r : Nat) (v : Word) : (setFlyReg s c r v).sites = s.sites := rfl
@[simp] theorem setFlyReg_flyers (c r : Nat) (v : Word) : (setFlyReg s c r v).flyers = s.flyers := rfl
@[simp] theorem setFlyReg_spine (c r : Nat) (v : Word) : (setFlyReg s c r v).spine = s.spine := rfl
@[simp] theorem setFlyReg_pulses (c r : Nat) (v : Word) : (setFlyReg s c r v).pulses = s.pulses := rfl
@[simp] theorem setFlyReg_xqueues (c r : Nat) (v : Word) : (setFlyReg s c r v).xqueues = s.xqueues := rfl
@[simp] theorem setFlyReg_smSent (c r : Nat) (v : Word) : (setFlyReg s c r v).smSent = s.smSent := rfl
@[simp] theorem setFlyReg_smMarked (c r : Nat) (v : Word) : (setFlyReg s c r v).smMarked = s.smMarked := rfl
@[simp] theorem setFlyReg_ops (c r : Nat) (v : Word) : (setFlyReg s c r v).ops = s.ops := rfl
@[simp] theorem setFlyReg_arrivals (c r : Nat) (v : Word) : (setFlyReg s c r v).arrivals = s.arrivals := rfl
@[simp] theorem setFlyReg_lateIds (c r : Nat) (v : Word) : (setFlyReg s c r v).lateIds = s.lateIds := rfl
@[simp] theorem setFlyReg_funnel (c r : Nat) (v : Word) : (setFlyReg s c r v).funnel = s.funnel := rfl
@[simp] theorem setFlyReg_buffer (c r : Nat) (v : Word) : (setFlyReg s c r v).buffer = s.buffer := rfl
@[simp] theorem setFlyReg_lanes (c r : Nat) (v : Word) : (setFlyReg s c r v).lanes = s.lanes := rfl
@[simp] theorem setFlyReg_master (c r : Nat) (v : Word) : (setFlyReg s c r v).master = s.master := rfl
@[simp] theorem setFlyReg_ring (c r : Nat) (v : Word) : (setFlyReg s c r v).ring = s.ring := rfl
@[simp] theorem setFlyReg_guestAos (c r : Nat) (v : Word) : (setFlyReg s c r v).guestAos = s.guestAos := rfl
@[simp] theorem setFlyReg_hang (c r : Nat) (v : Word) : (setFlyReg s c r v).hang = s.hang := rfl
@[simp] theorem setFlyReg_hank (c r : Nat) (v : Word) : (setFlyReg s c r v).hank = s.hank := rfl
@[simp] theorem setFlyReg_nands (c r : Nat) (v : Word) : (setFlyReg s c r v).nands = s.nands := rfl
@[simp] theorem setFlyReg_time (c r : Nat) (v : Word) : (setFlyReg s c r v).time = s.time := rfl
@[simp] theorem setFlyReg_elect (c r : Nat) (v : Word) : (setFlyReg s c r v).elect = s.elect := rfl
@[simp] theorem setFlyReg_chans (c r : Nat) (v : Word) : (setFlyReg s c r v).chans = s.chans := rfl
@[simp] theorem setFlyReg_routes (c r : Nat) (v : Word) : (setFlyReg s c r v).routes = s.routes := rfl
@[simp] theorem setFlyReg_blockedNums (c r : Nat) (v : Word) : (setFlyReg s c r v).blockedNums = s.blockedNums := rfl
@[simp] theorem setFlyReg_cutCount (c r : Nat) (v : Word) : (setFlyReg s c r v).cutCount = s.cutCount := rfl
@[simp] theorem setFlyReg_knownCuts (c r : Nat) (v : Word) : (setFlyReg s c r v).knownCuts = s.knownCuts := rfl
@[simp] theorem setFlyReg_twp (c r : Nat) (v : Word) : (setFlyReg s c r v).twp = s.twp := rfl
@[simp] theorem setFlyReg_host (c r : Nat) (v : Word) : (setFlyReg s c r v).host = s.host := rfl
@[simp] theorem setFlyReg_aga (c r : Nat) (v : Word) : (setFlyReg s c r v).aga = s.aga := rfl
@[simp] theorem setFlyReg_unlock (c r : Nat) (v : Word) : (setFlyReg s c r v).unlock = s.unlock := rfl
@[simp] theorem setFlyReg_boot (c r : Nat) (v : Word) : (setFlyReg s c r v).boot = s.boot := rfl
@[simp] theorem setFlyReg_freeCtr (c r : Nat) (v : Word) : (setFlyReg s c r v).freeCtr = s.freeCtr := rfl
@[simp] theorem setFlyReg_opCtr (c r : Nat) (v : Word) : (setFlyReg s c r v).opCtr = s.opCtr := rfl

/-! ### irqUpdate -/

@[simp] theorem irqUpdate_pending : (irqUpdate s).pending = s.pending := rfl
@[simp] theorem irqUpdate_integ : (irqUpdate s).integ = s.integ := rfl
@[simp] theorem irqUpdate_ht : (irqUpdate s).ht = s.ht := rfl
@[simp] theorem irqUpdate_regs : (irqUpdate s).regs = s.regs := rfl
@[simp] theorem irqUpdate_areg : (irqUpdate s).areg = s.areg := rfl
@[simp] theorem irqUpdate_hubMem : (irqUpdate s).hubMem = s.hubMem := rfl
@[simp] theorem irqUpdate_mail : (irqUpdate s).mail = s.mail := rfl
@[simp] theorem irqUpdate_whorls : (irqUpdate s).whorls = s.whorls := rfl
@[simp] theorem irqUpdate_evPend : (irqUpdate s).evPend = s.evPend := rfl
@[simp] theorem irqUpdate_evCut : (irqUpdate s).evCut = s.evCut := rfl
@[simp] theorem irqUpdate_evXt : (irqUpdate s).evXt = s.evXt := rfl
@[simp] theorem irqUpdate_parts : (irqUpdate s).parts = s.parts := rfl
@[simp] theorem irqUpdate_rparts : (irqUpdate s).rparts = s.rparts := rfl
@[simp] theorem irqUpdate_regions : (irqUpdate s).regions = s.regions := rfl
@[simp] theorem irqUpdate_sites : (irqUpdate s).sites = s.sites := rfl
@[simp] theorem irqUpdate_flyers : (irqUpdate s).flyers = s.flyers := rfl
@[simp] theorem irqUpdate_spine : (irqUpdate s).spine = s.spine := rfl
@[simp] theorem irqUpdate_pulses : (irqUpdate s).pulses = s.pulses := rfl
@[simp] theorem irqUpdate_xqueues : (irqUpdate s).xqueues = s.xqueues := rfl
@[simp] theorem irqUpdate_smSent : (irqUpdate s).smSent = s.smSent := rfl
@[simp] theorem irqUpdate_smMarked : (irqUpdate s).smMarked = s.smMarked := rfl
@[simp] theorem irqUpdate_ops : (irqUpdate s).ops = s.ops := rfl
@[simp] theorem irqUpdate_arrivals : (irqUpdate s).arrivals = s.arrivals := rfl
@[simp] theorem irqUpdate_lateIds : (irqUpdate s).lateIds = s.lateIds := rfl
@[simp] theorem irqUpdate_funnel : (irqUpdate s).funnel = s.funnel := rfl
@[simp] theorem irqUpdate_buffer : (irqUpdate s).buffer = s.buffer := rfl
@[simp] theorem irqUpdate_lanes : (irqUpdate s).lanes = s.lanes := rfl
@[simp] theorem irqUpdate_master : (irqUpdate s).master = s.master := rfl
@[simp] theorem irqUpdate_ring : (irqUpdate s).ring = s.ring := rfl
@[simp] theorem irqUpdate_guestAos : (irqUpdate s).guestAos = s.guestAos := rfl
@[simp] theorem irqUpdate_hang : (irqUpdate s).hang = s.hang := rfl
@[simp] theorem irqUpdate_hank : (irqUpdate s).hank = s.hank := rfl
@[simp] theorem irqUpdate_nands : (irqUpdate s).nands = s.nands := rfl
@[simp] theorem irqUpdate_time : (irqUpdate s).time = s.time := rfl
@[simp] theorem irqUpdate_elect : (irqUpdate s).elect = s.elect := rfl
@[simp] theorem irqUpdate_chans : (irqUpdate s).chans = s.chans := rfl
@[simp] theorem irqUpdate_routes : (irqUpdate s).routes = s.routes := rfl
@[simp] theorem irqUpdate_blockedNums : (irqUpdate s).blockedNums = s.blockedNums := rfl
@[simp] theorem irqUpdate_cutCount : (irqUpdate s).cutCount = s.cutCount := rfl
@[simp] theorem irqUpdate_knownCuts : (irqUpdate s).knownCuts = s.knownCuts := rfl
@[simp] theorem irqUpdate_twp : (irqUpdate s).twp = s.twp := rfl
@[simp] theorem irqUpdate_host : (irqUpdate s).host = s.host := rfl
@[simp] theorem irqUpdate_aga : (irqUpdate s).aga = s.aga := rfl
@[simp] theorem irqUpdate_unlock : (irqUpdate s).unlock = s.unlock := rfl
@[simp] theorem irqUpdate_boot : (irqUpdate s).boot = s.boot := rfl
@[simp] theorem irqUpdate_freeCtr : (irqUpdate s).freeCtr = s.freeCtr := rfl
@[simp] theorem irqUpdate_opCtr : (irqUpdate s).opCtr = s.opCtr := rfl

/-! ### setPend -/

@[simp] theorem setPend_pending (k : Nat) (v : Word) : (setPend s k v).pending = s.pending := rfl
@[simp] theorem setPend_integ (k : Nat) (v : Word) : (setPend s k v).integ = s.integ := rfl
@[simp] theorem setPend_ht (k : Nat) (v : Word) : (setPend s k v).ht = s.ht := rfl
@[simp] theorem setPend_regs (k : Nat) (v : Word) : (setPend s k v).regs = s.regs := rfl
@[simp] theorem setPend_areg (k : Nat) (v : Word) : (setPend s k v).areg = s.areg := rfl
@[simp] theorem setPend_hubMem (k : Nat) (v : Word) : (setPend s k v).hubMem = s.hubMem := rfl
@[simp] theorem setPend_mail (k : Nat) (v : Word) : (setPend s k v).mail = s.mail := rfl
@[simp] theorem setPend_whorls (k : Nat) (v : Word) : (setPend s k v).whorls = s.whorls := rfl
@[simp] theorem setPend_evCut (k : Nat) (v : Word) : (setPend s k v).evCut = s.evCut := rfl
@[simp] theorem setPend_evXt (k : Nat) (v : Word) : (setPend s k v).evXt = s.evXt := rfl
@[simp] theorem setPend_parts (k : Nat) (v : Word) : (setPend s k v).parts = s.parts := rfl
@[simp] theorem setPend_rparts (k : Nat) (v : Word) : (setPend s k v).rparts = s.rparts := rfl
@[simp] theorem setPend_regions (k : Nat) (v : Word) : (setPend s k v).regions = s.regions := rfl
@[simp] theorem setPend_sites (k : Nat) (v : Word) : (setPend s k v).sites = s.sites := rfl
@[simp] theorem setPend_flyers (k : Nat) (v : Word) : (setPend s k v).flyers = s.flyers := rfl
@[simp] theorem setPend_spine (k : Nat) (v : Word) : (setPend s k v).spine = s.spine := rfl
@[simp] theorem setPend_pulses (k : Nat) (v : Word) : (setPend s k v).pulses = s.pulses := rfl
@[simp] theorem setPend_xqueues (k : Nat) (v : Word) : (setPend s k v).xqueues = s.xqueues := rfl
@[simp] theorem setPend_smSent (k : Nat) (v : Word) : (setPend s k v).smSent = s.smSent := rfl
@[simp] theorem setPend_smMarked (k : Nat) (v : Word) : (setPend s k v).smMarked = s.smMarked := rfl
@[simp] theorem setPend_ops (k : Nat) (v : Word) : (setPend s k v).ops = s.ops := rfl
@[simp] theorem setPend_arrivals (k : Nat) (v : Word) : (setPend s k v).arrivals = s.arrivals := rfl
@[simp] theorem setPend_lateIds (k : Nat) (v : Word) : (setPend s k v).lateIds = s.lateIds := rfl
@[simp] theorem setPend_funnel (k : Nat) (v : Word) : (setPend s k v).funnel = s.funnel := rfl
@[simp] theorem setPend_buffer (k : Nat) (v : Word) : (setPend s k v).buffer = s.buffer := rfl
@[simp] theorem setPend_lanes (k : Nat) (v : Word) : (setPend s k v).lanes = s.lanes := rfl
@[simp] theorem setPend_master (k : Nat) (v : Word) : (setPend s k v).master = s.master := rfl
@[simp] theorem setPend_ring (k : Nat) (v : Word) : (setPend s k v).ring = s.ring := rfl
@[simp] theorem setPend_guestAos (k : Nat) (v : Word) : (setPend s k v).guestAos = s.guestAos := rfl
@[simp] theorem setPend_hang (k : Nat) (v : Word) : (setPend s k v).hang = s.hang := rfl
@[simp] theorem setPend_hank (k : Nat) (v : Word) : (setPend s k v).hank = s.hank := rfl
@[simp] theorem setPend_nands (k : Nat) (v : Word) : (setPend s k v).nands = s.nands := rfl
@[simp] theorem setPend_time (k : Nat) (v : Word) : (setPend s k v).time = s.time := rfl
@[simp] theorem setPend_elect (k : Nat) (v : Word) : (setPend s k v).elect = s.elect := rfl
@[simp] theorem setPend_chans (k : Nat) (v : Word) : (setPend s k v).chans = s.chans := rfl
@[simp] theorem setPend_routes (k : Nat) (v : Word) : (setPend s k v).routes = s.routes := rfl
@[simp] theorem setPend_blockedNums (k : Nat) (v : Word) : (setPend s k v).blockedNums = s.blockedNums := rfl
@[simp] theorem setPend_cutCount (k : Nat) (v : Word) : (setPend s k v).cutCount = s.cutCount := rfl
@[simp] theorem setPend_knownCuts (k : Nat) (v : Word) : (setPend s k v).knownCuts = s.knownCuts := rfl
@[simp] theorem setPend_twp (k : Nat) (v : Word) : (setPend s k v).twp = s.twp := rfl
@[simp] theorem setPend_host (k : Nat) (v : Word) : (setPend s k v).host = s.host := rfl
@[simp] theorem setPend_aga (k : Nat) (v : Word) : (setPend s k v).aga = s.aga := rfl
@[simp] theorem setPend_unlock (k : Nat) (v : Word) : (setPend s k v).unlock = s.unlock := rfl
@[simp] theorem setPend_boot (k : Nat) (v : Word) : (setPend s k v).boot = s.boot := rfl
@[simp] theorem setPend_freeCtr (k : Nat) (v : Word) : (setPend s k v).freeCtr = s.freeCtr := rfl
@[simp] theorem setPend_opCtr (k : Nat) (v : Word) : (setPend s k v).opCtr = s.opCtr := rfl

/-! ### Reads of the part changed -/

theorem getW_setW (k j : Nat) (x : Whorl) (h : tabWf Whorl.fresh s.whorls = true) :
    getW (setW s k x) j = if j = k then x else getW s j := tget_tput _ _ _ _ _ h
@[simp] theorem getW_setW_ne (k j : Nat) (x : Whorl) (h : j ≠ k) : getW (setW s k x) j = getW s j := tget_tput_ne _ _ _ _ _ h
theorem setW_wf (k : Nat) (x : Whorl) (h : tabWf Whorl.fresh s.whorls = true) : tabWf Whorl.fresh (setW s k x).whorls = true :=
  tabWf_tput _ _ _ _ h

theorem getP_setP (k j : Nat) (x : Part) (h : tabWf Part.fresh s.parts = true) :
    getP (setP s k x) j = if j = k then x else getP s j := tget_tput _ _ _ _ _ h
@[simp] theorem getP_setP_ne (k j : Nat) (x : Part) (h : j ≠ k) : getP (setP s k x) j = getP s j := tget_tput_ne _ _ _ _ _ h
theorem setP_wf (k : Nat) (x : Part) (h : tabWf Part.fresh s.parts = true) : tabWf Part.fresh (setP s k x).parts = true :=
  tabWf_tput _ _ _ _ h

theorem getR_setR (k j : Nat) (x : Region) (h : tabWf Region.fresh s.regions = true) :
    getR (setR s k x) j = if j = k then x else getR s j := tget_tput _ _ _ _ _ h
@[simp] theorem getR_setR_ne (k j : Nat) (x : Region) (h : j ≠ k) : getR (setR s k x) j = getR s j := tget_tput_ne _ _ _ _ _ h
theorem setR_wf (k : Nat) (x : Region) (h : tabWf Region.fresh s.regions = true) : tabWf Region.fresh (setR s k x).regions = true :=
  tabWf_tput _ _ _ _ h

theorem getS_setS (k j : Nat) (x : Site) (h : tabWf Site.fresh s.sites = true) :
    getS (setS s k x) j = if j = k then x else getS s j := tget_tput _ _ _ _ _ h
@[simp] theorem getS_setS_ne (k j : Nat) (x : Site) (h : j ≠ k) : getS (setS s k x) j = getS s j := tget_tput_ne _ _ _ _ _ h
theorem setS_wf (k : Nat) (x : Site) (h : tabWf Site.fresh s.sites = true) : tabWf Site.fresh (setS s k x).sites = true :=
  tabWf_tput _ _ _ _ h

theorem getF_setF (k j : Nat) (x : Flyer) (h : tabWf Flyer.fresh s.flyers = true) :
    getF (setF s k x) j = if j = k then x else getF s j := tget_tput _ _ _ _ _ h
@[simp] theorem getF_setF_ne (k j : Nat) (x : Flyer) (h : j ≠ k) : getF (setF s k x) j = getF s j := tget_tput_ne _ _ _ _ _ h
theorem setF_wf (k : Nat) (x : Flyer) (h : tabWf Flyer.fresh s.flyers = true) : tabWf Flyer.fresh (setF s k x).flyers = true :=
  tabWf_tput _ _ _ _ h

theorem getC_setC (k j : Nat) (x : Chan) (h : tabWf Chan.fresh s.chans = true) :
    getC (setC s k x) j = if j = k then x else getC s j := tget_tput _ _ _ _ _ h
@[simp] theorem getC_setC_ne (k j : Nat) (x : Chan) (h : j ≠ k) : getC (setC s k x) j = getC s j := tget_tput_ne _ _ _ _ _ h
theorem setC_wf (k : Nat) (x : Chan) (h : tabWf Chan.fresh s.chans = true) : tabWf Chan.fresh (setC s k x).chans = true :=
  tabWf_tput _ _ _ _ h

theorem getN_setN (k j : Nat) (x : Nand) (h : tabWf Nand.fresh s.nands = true) :
    getN (setN s k x) j = if j = k then x else getN s j := tget_tput _ _ _ _ _ h
@[simp] theorem getN_setN_ne (k j : Nat) (x : Nand) (h : j ≠ k) : getN (setN s k x) j = getN s j := tget_tput_ne _ _ _ _ _ h
theorem setN_wf (k : Nat) (x : Nand) (h : tabWf Nand.fresh s.nands = true) : tabWf Nand.fresh (setN s k x).nands = true :=
  tabWf_tput _ _ _ _ h

theorem getL_setL (k j : Nat) (x : Lane) (h : tabWf Lane.fresh s.lanes = true) :
    getL (setL s k x) j = if j = k then x else getL s j := tget_tput _ _ _ _ _ h
@[simp] theorem getL_setL_ne (k j : Nat) (x : Lane) (h : j ≠ k) : getL (setL s k x) j = getL s j := tget_tput_ne _ _ _ _ _ h
theorem setL_wf (k : Nat) (x : Lane) (h : tabWf Lane.fresh s.lanes = true) : tabWf Lane.fresh (setL s k x).lanes = true :=
  tabWf_tput _ _ _ _ h

@[simp] theorem getW_setP (p : Nat) (x : Part) (j : Nat) : getW (setP s p x) j = getW s j := rfl
@[simp] theorem getW_setRP (p r : Nat) (x : RPart) (j : Nat) : getW (setRP s p r x) j = getW s j := rfl
@[simp] theorem getW_setR (r : Nat) (x : Region) (j : Nat) : getW (setR s r x) j = getW s j := rfl
@[simp] theorem getW_setS (i : Nat) (x : Site) (j : Nat) : getW (setS s i x) j = getW s j := rfl
@[simp] theorem getW_setF (f : Nat) (x : Flyer) (j : Nat) : getW (setF s f x) j = getW s j := rfl
@[simp] theorem getW_setC (n : Nat) (x : Chan) (j : Nat) : getW (setC s n x) j = getW s j := rfl
@[simp] theorem getW_setN (d : Nat) (x : Nand) (j : Nat) : getW (setN s d x) j = getW s j := rfl
@[simp] theorem getW_setL (n : Nat) (x : Lane) (j : Nat) : getW (setL s n x) j = getW s j := rfl
@[simp] theorem getW_regPut (k o : Nat) (v : Word) (j : Nat) : getW (regPut s k o v) j = getW s j := rfl
@[simp] theorem getW_setReg (o : Nat) (v : Word) (j : Nat) : getW (setReg s o v) j = getW s j := rfl
@[simp] theorem getW_setRegF (o hi lo x : Nat) (j : Nat) : getW (setRegF s o hi lo x) j = getW s j := rfl
@[simp] theorem getW_countF (o hi lo n : Nat) (j : Nat) : getW (countF s o hi lo n) j = getW s j := rfl
@[simp] theorem getW_countObj (n o hi lo k : Nat) (j : Nat) : getW (countObj s n o hi lo k) j = getW s j := rfl
@[simp] theorem getW_setAg (i r : Nat) (v : Word) (j : Nat) : getW (setAg s i r v) j = getW s j := rfl
@[simp] theorem getW_setAgBank (i q r : Nat) (v : Word) (j : Nat) : getW (setAgBank s i q r v) j = getW s j := rfl
@[simp] theorem getW_setFlyReg (c r : Nat) (v : Word) (j : Nat) : getW (setFlyReg s c r v) j = getW s j := rfl
@[simp] theorem getW_irqUpdate (j : Nat) : getW (irqUpdate s) j = getW s j := rfl
@[simp] theorem getW_setPend (k : Nat) (v : Word) (j : Nat) : getW (setPend s k v) j = getW s j := rfl
@[simp] theorem getP_setW (w : Nat) (x : Whorl) (j : Nat) : getP (setW s w x) j = getP s j := rfl
@[simp] theorem getP_setRP (p r : Nat) (x : RPart) (j : Nat) : getP (setRP s p r x) j = getP s j := rfl
@[simp] theorem getP_setR (r : Nat) (x : Region) (j : Nat) : getP (setR s r x) j = getP s j := rfl
@[simp] theorem getP_setS (i : Nat) (x : Site) (j : Nat) : getP (setS s i x) j = getP s j := rfl
@[simp] theorem getP_setF (f : Nat) (x : Flyer) (j : Nat) : getP (setF s f x) j = getP s j := rfl
@[simp] theorem getP_setC (n : Nat) (x : Chan) (j : Nat) : getP (setC s n x) j = getP s j := rfl
@[simp] theorem getP_setN (d : Nat) (x : Nand) (j : Nat) : getP (setN s d x) j = getP s j := rfl
@[simp] theorem getP_setL (n : Nat) (x : Lane) (j : Nat) : getP (setL s n x) j = getP s j := rfl
@[simp] theorem getP_regPut (k o : Nat) (v : Word) (j : Nat) : getP (regPut s k o v) j = getP s j := rfl
@[simp] theorem getP_setReg (o : Nat) (v : Word) (j : Nat) : getP (setReg s o v) j = getP s j := rfl
@[simp] theorem getP_setRegF (o hi lo x : Nat) (j : Nat) : getP (setRegF s o hi lo x) j = getP s j := rfl
@[simp] theorem getP_countF (o hi lo n : Nat) (j : Nat) : getP (countF s o hi lo n) j = getP s j := rfl
@[simp] theorem getP_countObj (n o hi lo k : Nat) (j : Nat) : getP (countObj s n o hi lo k) j = getP s j := rfl
@[simp] theorem getP_setAg (i r : Nat) (v : Word) (j : Nat) : getP (setAg s i r v) j = getP s j := rfl
@[simp] theorem getP_setAgBank (i q r : Nat) (v : Word) (j : Nat) : getP (setAgBank s i q r v) j = getP s j := rfl
@[simp] theorem getP_setFlyReg (c r : Nat) (v : Word) (j : Nat) : getP (setFlyReg s c r v) j = getP s j := rfl
@[simp] theorem getP_irqUpdate (j : Nat) : getP (irqUpdate s) j = getP s j := rfl
@[simp] theorem getP_setPend (k : Nat) (v : Word) (j : Nat) : getP (setPend s k v) j = getP s j := rfl
@[simp] theorem getR_setW (w : Nat) (x : Whorl) (j : Nat) : getR (setW s w x) j = getR s j := rfl
@[simp] theorem getR_setP (p : Nat) (x : Part) (j : Nat) : getR (setP s p x) j = getR s j := rfl
@[simp] theorem getR_setRP (p r : Nat) (x : RPart) (j : Nat) : getR (setRP s p r x) j = getR s j := rfl
@[simp] theorem getR_setS (i : Nat) (x : Site) (j : Nat) : getR (setS s i x) j = getR s j := rfl
@[simp] theorem getR_setF (f : Nat) (x : Flyer) (j : Nat) : getR (setF s f x) j = getR s j := rfl
@[simp] theorem getR_setC (n : Nat) (x : Chan) (j : Nat) : getR (setC s n x) j = getR s j := rfl
@[simp] theorem getR_setN (d : Nat) (x : Nand) (j : Nat) : getR (setN s d x) j = getR s j := rfl
@[simp] theorem getR_setL (n : Nat) (x : Lane) (j : Nat) : getR (setL s n x) j = getR s j := rfl
@[simp] theorem getR_regPut (k o : Nat) (v : Word) (j : Nat) : getR (regPut s k o v) j = getR s j := rfl
@[simp] theorem getR_setReg (o : Nat) (v : Word) (j : Nat) : getR (setReg s o v) j = getR s j := rfl
@[simp] theorem getR_setRegF (o hi lo x : Nat) (j : Nat) : getR (setRegF s o hi lo x) j = getR s j := rfl
@[simp] theorem getR_countF (o hi lo n : Nat) (j : Nat) : getR (countF s o hi lo n) j = getR s j := rfl
@[simp] theorem getR_countObj (n o hi lo k : Nat) (j : Nat) : getR (countObj s n o hi lo k) j = getR s j := rfl
@[simp] theorem getR_setAg (i r : Nat) (v : Word) (j : Nat) : getR (setAg s i r v) j = getR s j := rfl
@[simp] theorem getR_setAgBank (i q r : Nat) (v : Word) (j : Nat) : getR (setAgBank s i q r v) j = getR s j := rfl
@[simp] theorem getR_setFlyReg (c r : Nat) (v : Word) (j : Nat) : getR (setFlyReg s c r v) j = getR s j := rfl
@[simp] theorem getR_irqUpdate (j : Nat) : getR (irqUpdate s) j = getR s j := rfl
@[simp] theorem getR_setPend (k : Nat) (v : Word) (j : Nat) : getR (setPend s k v) j = getR s j := rfl
@[simp] theorem getS_setW (w : Nat) (x : Whorl) (j : Nat) : getS (setW s w x) j = getS s j := rfl
@[simp] theorem getS_setP (p : Nat) (x : Part) (j : Nat) : getS (setP s p x) j = getS s j := rfl
@[simp] theorem getS_setRP (p r : Nat) (x : RPart) (j : Nat) : getS (setRP s p r x) j = getS s j := rfl
@[simp] theorem getS_setR (r : Nat) (x : Region) (j : Nat) : getS (setR s r x) j = getS s j := rfl
@[simp] theorem getS_setF (f : Nat) (x : Flyer) (j : Nat) : getS (setF s f x) j = getS s j := rfl
@[simp] theorem getS_setC (n : Nat) (x : Chan) (j : Nat) : getS (setC s n x) j = getS s j := rfl
@[simp] theorem getS_setN (d : Nat) (x : Nand) (j : Nat) : getS (setN s d x) j = getS s j := rfl
@[simp] theorem getS_setL (n : Nat) (x : Lane) (j : Nat) : getS (setL s n x) j = getS s j := rfl
@[simp] theorem getS_regPut (k o : Nat) (v : Word) (j : Nat) : getS (regPut s k o v) j = getS s j := rfl
@[simp] theorem getS_setReg (o : Nat) (v : Word) (j : Nat) : getS (setReg s o v) j = getS s j := rfl
@[simp] theorem getS_setRegF (o hi lo x : Nat) (j : Nat) : getS (setRegF s o hi lo x) j = getS s j := rfl
@[simp] theorem getS_countF (o hi lo n : Nat) (j : Nat) : getS (countF s o hi lo n) j = getS s j := rfl
@[simp] theorem getS_countObj (n o hi lo k : Nat) (j : Nat) : getS (countObj s n o hi lo k) j = getS s j := rfl
@[simp] theorem getS_setAg (i r : Nat) (v : Word) (j : Nat) : getS (setAg s i r v) j = getS s j := rfl
@[simp] theorem getS_setAgBank (i q r : Nat) (v : Word) (j : Nat) : getS (setAgBank s i q r v) j = getS s j := rfl
@[simp] theorem getS_setFlyReg (c r : Nat) (v : Word) (j : Nat) : getS (setFlyReg s c r v) j = getS s j := rfl
@[simp] theorem getS_irqUpdate (j : Nat) : getS (irqUpdate s) j = getS s j := rfl
@[simp] theorem getS_setPend (k : Nat) (v : Word) (j : Nat) : getS (setPend s k v) j = getS s j := rfl
@[simp] theorem getF_setW (w : Nat) (x : Whorl) (j : Nat) : getF (setW s w x) j = getF s j := rfl
@[simp] theorem getF_setP (p : Nat) (x : Part) (j : Nat) : getF (setP s p x) j = getF s j := rfl
@[simp] theorem getF_setRP (p r : Nat) (x : RPart) (j : Nat) : getF (setRP s p r x) j = getF s j := rfl
@[simp] theorem getF_setR (r : Nat) (x : Region) (j : Nat) : getF (setR s r x) j = getF s j := rfl
@[simp] theorem getF_setS (i : Nat) (x : Site) (j : Nat) : getF (setS s i x) j = getF s j := rfl
@[simp] theorem getF_setC (n : Nat) (x : Chan) (j : Nat) : getF (setC s n x) j = getF s j := rfl
@[simp] theorem getF_setN (d : Nat) (x : Nand) (j : Nat) : getF (setN s d x) j = getF s j := rfl
@[simp] theorem getF_setL (n : Nat) (x : Lane) (j : Nat) : getF (setL s n x) j = getF s j := rfl
@[simp] theorem getF_regPut (k o : Nat) (v : Word) (j : Nat) : getF (regPut s k o v) j = getF s j := rfl
@[simp] theorem getF_setReg (o : Nat) (v : Word) (j : Nat) : getF (setReg s o v) j = getF s j := rfl
@[simp] theorem getF_setRegF (o hi lo x : Nat) (j : Nat) : getF (setRegF s o hi lo x) j = getF s j := rfl
@[simp] theorem getF_countF (o hi lo n : Nat) (j : Nat) : getF (countF s o hi lo n) j = getF s j := rfl
@[simp] theorem getF_countObj (n o hi lo k : Nat) (j : Nat) : getF (countObj s n o hi lo k) j = getF s j := rfl
@[simp] theorem getF_setAg (i r : Nat) (v : Word) (j : Nat) : getF (setAg s i r v) j = getF s j := rfl
@[simp] theorem getF_setAgBank (i q r : Nat) (v : Word) (j : Nat) : getF (setAgBank s i q r v) j = getF s j := rfl
@[simp] theorem getF_setFlyReg (c r : Nat) (v : Word) (j : Nat) : getF (setFlyReg s c r v) j = getF s j := rfl
@[simp] theorem getF_irqUpdate (j : Nat) : getF (irqUpdate s) j = getF s j := rfl
@[simp] theorem getF_setPend (k : Nat) (v : Word) (j : Nat) : getF (setPend s k v) j = getF s j := rfl
@[simp] theorem getC_setW (w : Nat) (x : Whorl) (j : Nat) : getC (setW s w x) j = getC s j := rfl
@[simp] theorem getC_setP (p : Nat) (x : Part) (j : Nat) : getC (setP s p x) j = getC s j := rfl
@[simp] theorem getC_setRP (p r : Nat) (x : RPart) (j : Nat) : getC (setRP s p r x) j = getC s j := rfl
@[simp] theorem getC_setR (r : Nat) (x : Region) (j : Nat) : getC (setR s r x) j = getC s j := rfl
@[simp] theorem getC_setS (i : Nat) (x : Site) (j : Nat) : getC (setS s i x) j = getC s j := rfl
@[simp] theorem getC_setF (f : Nat) (x : Flyer) (j : Nat) : getC (setF s f x) j = getC s j := rfl
@[simp] theorem getC_setN (d : Nat) (x : Nand) (j : Nat) : getC (setN s d x) j = getC s j := rfl
@[simp] theorem getC_setL (n : Nat) (x : Lane) (j : Nat) : getC (setL s n x) j = getC s j := rfl
@[simp] theorem getC_regPut (k o : Nat) (v : Word) (j : Nat) : getC (regPut s k o v) j = getC s j := rfl
@[simp] theorem getC_setReg (o : Nat) (v : Word) (j : Nat) : getC (setReg s o v) j = getC s j := rfl
@[simp] theorem getC_setRegF (o hi lo x : Nat) (j : Nat) : getC (setRegF s o hi lo x) j = getC s j := rfl
@[simp] theorem getC_countF (o hi lo n : Nat) (j : Nat) : getC (countF s o hi lo n) j = getC s j := rfl
@[simp] theorem getC_countObj (n o hi lo k : Nat) (j : Nat) : getC (countObj s n o hi lo k) j = getC s j := rfl
@[simp] theorem getC_setAg (i r : Nat) (v : Word) (j : Nat) : getC (setAg s i r v) j = getC s j := rfl
@[simp] theorem getC_setAgBank (i q r : Nat) (v : Word) (j : Nat) : getC (setAgBank s i q r v) j = getC s j := rfl
@[simp] theorem getC_setFlyReg (c r : Nat) (v : Word) (j : Nat) : getC (setFlyReg s c r v) j = getC s j := rfl
@[simp] theorem getC_irqUpdate (j : Nat) : getC (irqUpdate s) j = getC s j := rfl
@[simp] theorem getC_setPend (k : Nat) (v : Word) (j : Nat) : getC (setPend s k v) j = getC s j := rfl
@[simp] theorem getN_setW (w : Nat) (x : Whorl) (j : Nat) : getN (setW s w x) j = getN s j := rfl
@[simp] theorem getN_setP (p : Nat) (x : Part) (j : Nat) : getN (setP s p x) j = getN s j := rfl
@[simp] theorem getN_setRP (p r : Nat) (x : RPart) (j : Nat) : getN (setRP s p r x) j = getN s j := rfl
@[simp] theorem getN_setR (r : Nat) (x : Region) (j : Nat) : getN (setR s r x) j = getN s j := rfl
@[simp] theorem getN_setS (i : Nat) (x : Site) (j : Nat) : getN (setS s i x) j = getN s j := rfl
@[simp] theorem getN_setF (f : Nat) (x : Flyer) (j : Nat) : getN (setF s f x) j = getN s j := rfl
@[simp] theorem getN_setC (n : Nat) (x : Chan) (j : Nat) : getN (setC s n x) j = getN s j := rfl
@[simp] theorem getN_setL (n : Nat) (x : Lane) (j : Nat) : getN (setL s n x) j = getN s j := rfl
@[simp] theorem getN_regPut (k o : Nat) (v : Word) (j : Nat) : getN (regPut s k o v) j = getN s j := rfl
@[simp] theorem getN_setReg (o : Nat) (v : Word) (j : Nat) : getN (setReg s o v) j = getN s j := rfl
@[simp] theorem getN_setRegF (o hi lo x : Nat) (j : Nat) : getN (setRegF s o hi lo x) j = getN s j := rfl
@[simp] theorem getN_countF (o hi lo n : Nat) (j : Nat) : getN (countF s o hi lo n) j = getN s j := rfl
@[simp] theorem getN_countObj (n o hi lo k : Nat) (j : Nat) : getN (countObj s n o hi lo k) j = getN s j := rfl
@[simp] theorem getN_setAg (i r : Nat) (v : Word) (j : Nat) : getN (setAg s i r v) j = getN s j := rfl
@[simp] theorem getN_setAgBank (i q r : Nat) (v : Word) (j : Nat) : getN (setAgBank s i q r v) j = getN s j := rfl
@[simp] theorem getN_setFlyReg (c r : Nat) (v : Word) (j : Nat) : getN (setFlyReg s c r v) j = getN s j := rfl
@[simp] theorem getN_irqUpdate (j : Nat) : getN (irqUpdate s) j = getN s j := rfl
@[simp] theorem getN_setPend (k : Nat) (v : Word) (j : Nat) : getN (setPend s k v) j = getN s j := rfl
@[simp] theorem getL_setW (w : Nat) (x : Whorl) (j : Nat) : getL (setW s w x) j = getL s j := rfl
@[simp] theorem getL_setP (p : Nat) (x : Part) (j : Nat) : getL (setP s p x) j = getL s j := rfl
@[simp] theorem getL_setRP (p r : Nat) (x : RPart) (j : Nat) : getL (setRP s p r x) j = getL s j := rfl
@[simp] theorem getL_setR (r : Nat) (x : Region) (j : Nat) : getL (setR s r x) j = getL s j := rfl
@[simp] theorem getL_setS (i : Nat) (x : Site) (j : Nat) : getL (setS s i x) j = getL s j := rfl
@[simp] theorem getL_setF (f : Nat) (x : Flyer) (j : Nat) : getL (setF s f x) j = getL s j := rfl
@[simp] theorem getL_setC (n : Nat) (x : Chan) (j : Nat) : getL (setC s n x) j = getL s j := rfl
@[simp] theorem getL_setN (d : Nat) (x : Nand) (j : Nat) : getL (setN s d x) j = getL s j := rfl
@[simp] theorem getL_regPut (k o : Nat) (v : Word) (j : Nat) : getL (regPut s k o v) j = getL s j := rfl
@[simp] theorem getL_setReg (o : Nat) (v : Word) (j : Nat) : getL (setReg s o v) j = getL s j := rfl
@[simp] theorem getL_setRegF (o hi lo x : Nat) (j : Nat) : getL (setRegF s o hi lo x) j = getL s j := rfl
@[simp] theorem getL_countF (o hi lo n : Nat) (j : Nat) : getL (countF s o hi lo n) j = getL s j := rfl
@[simp] theorem getL_countObj (n o hi lo k : Nat) (j : Nat) : getL (countObj s n o hi lo k) j = getL s j := rfl
@[simp] theorem getL_setAg (i r : Nat) (v : Word) (j : Nat) : getL (setAg s i r v) j = getL s j := rfl
@[simp] theorem getL_setAgBank (i q r : Nat) (v : Word) (j : Nat) : getL (setAgBank s i q r v) j = getL s j := rfl
@[simp] theorem getL_setFlyReg (c r : Nat) (v : Word) (j : Nat) : getL (setFlyReg s c r v) j = getL s j := rfl
@[simp] theorem getL_irqUpdate (j : Nat) : getL (irqUpdate s) j = getL s j := rfl
@[simp] theorem getL_setPend (k : Nat) (v : Word) (j : Nat) : getL (setPend s k v) j = getL s j := rfl

theorem getRP_setRP (p r q t : Nat) (x : RPart) (h : tabWf RPart.fresh s.rparts = true) :
    getRP (setRP s p r x) q t = if 4 * q + t = 4 * p + r then x else getRP s q t := tget_tput _ _ _ _ _ h
theorem regGet_regPut (k j o : Nat) (v : Word) (h : tabWf 0 s.regs = true) :
    regGet (regPut s k o v) j o = if j = k then v else regGet s j o := by
  simp only [regGet, regPut, tget_tput _ _ _ _ _ h]
  split <;> simp
@[simp] theorem regGet_regPut_ne (k j o q : Nat) (v : Word) (h : j ≠ k) : regGet (regPut s k o v) j q = regGet s j q := by
  simp [regGet, regPut, tget_tput_ne _ _ _ _ _ h]
theorem reg_setReg (o p : Nat) (v : Word) (h : tabWf 0 s.regs = true) : reg (setReg s o v) p = if p = o then v else reg s p := by
  by_cases hp : p = o
  · subst hp; simp [reg, setReg, regGet_regPut _ _ _ _ _ h]
  · simp [reg, setReg, hp]
@[simp] theorem reg_setReg_ne (o p : Nat) (v : Word) (h : p ≠ o) : reg (setReg s o v) p = reg s p := by
  simp [reg, setReg, h]
theorem regPut_wf (k o : Nat) (v : Word) (h : tabWf 0 s.regs = true) : tabWf 0 (regPut s k o v).regs = true := tabWf_tput _ _ _ _ h

end Sys2Proof.Machine
end

