-- ==== Sys2Proof/Laws/Events.lean ====
section
/-! SUPPORT. What the event system's operations do: a raise sets a line in every reader's copy and changes nothing else but the
buffer's waiting rises and HUB_IRQ; a record changes the funnel alone; an outcome that arrives changes what waits for it. Fields of
words and of registers, read after a write. -/

namespace Sys2Proof.Machine

/-! ### Fields of words -/

/-- A field is below its width. -/
theorem bits_lt (v : Word) (hi lo : Nat) : bits v hi lo < 2 ^ (hi + 1 - lo) := Nat.mod_lt _ (Nat.two_pow_pos _)

/-- The number a word keeps of a number. -/
theorem word_toNat (n : Nat) : (word n).toNat = n % 2 ^ 64 := BitVec.toNat_ofNat ..

/-- A bit of a number with one bit set. -/
theorem word_pow_getLsbD (n i : Nat) : (word (2 ^ n)).getLsbD i = (decide (i < 64) && decide (n = i)) := by
  rw [word, BitVec.getLsbD_ofNat, Nat.testBit_two_pow]

/-- What setBits leaves above, in and below the field, as one number. -/
theorem setBits_toNat (v : Word) (hi lo x : Nat) (hl : lo ≤ hi) (hh : hi < 64) :
    (setBits v hi lo x).toNat = v.toNat / 2 ^ (hi + 1) * 2 ^ (hi + 1) + x % 2 ^ (hi + 1 - lo) * 2 ^ lo + v.toNat % 2 ^ lo := by
  have hw : 2 ^ (hi + 1) = 2 ^ (hi + 1 - lo) * 2 ^ lo := by rw [← pow_add]; congr 1; omega
  have hlo : 0 < 2 ^ lo := Nat.two_pow_pos _
  have hk : 0 < 2 ^ (hi + 1 - lo) := Nat.two_pow_pos _
  have hq : v.toNat / 2 ^ (hi + 1) = v.toNat / 2 ^ lo / 2 ^ (hi + 1 - lo) := by rw [hw, Nat.mul_comm, Nat.div_div_eq_div_mul]
  have h1 := Nat.div_add_mod v.toNat (2 ^ lo)
  have h2 := Nat.div_add_mod (v.toNat / 2 ^ lo) (2 ^ (hi + 1 - lo))
  have hx : x % 2 ^ (hi + 1 - lo) < 2 ^ (hi + 1 - lo) := Nat.mod_lt _ hk
  have hr : v.toNat % 2 ^ lo < 2 ^ lo := Nat.mod_lt _ hlo
  have hv : v.toNat / 2 ^ (hi + 1) < 2 ^ (63 - hi) := by
    rw [Nat.div_lt_iff_lt_mul (Nat.two_pow_pos _), ← pow_add, show 63 - hi + (hi + 1) = 64 by omega]
    exact v.isLt
  have hsum : v.toNat - bits v hi lo * 2 ^ lo + x % 2 ^ (hi + 1 - lo) * 2 ^ lo =
      v.toNat / 2 ^ (hi + 1) * 2 ^ (hi + 1) + x % 2 ^ (hi + 1 - lo) * 2 ^ lo + v.toNat % 2 ^ lo := by
    have e : v.toNat = v.toNat / 2 ^ (hi + 1) * 2 ^ (hi + 1) + bits v hi lo * 2 ^ lo + v.toNat % 2 ^ lo := by
      unfold bits
      rw [hq, hw]
      calc v.toNat = 2 ^ lo * (v.toNat / 2 ^ lo) + v.toNat % 2 ^ lo := h1.symm
        _ = 2 ^ lo * (2 ^ (hi + 1 - lo) * (v.toNat / 2 ^ lo / 2 ^ (hi + 1 - lo)) + v.toNat / 2 ^ lo % 2 ^ (hi + 1 - lo)) + v.toNat % 2 ^ lo := by
            rw [h2]
        _ = _ := by ring
    omega
  have hbound : v.toNat / 2 ^ (hi + 1) * 2 ^ (hi + 1) + x % 2 ^ (hi + 1 - lo) * 2 ^ lo + v.toNat % 2 ^ lo < 2 ^ 64 := by
    have a : x % 2 ^ (hi + 1 - lo) * 2 ^ lo + v.toNat % 2 ^ lo < 2 ^ (hi + 1) := by
      rw [hw]
      calc _ < x % 2 ^ (hi + 1 - lo) * 2 ^ lo + 2 ^ lo := by omega
        _ = (x % 2 ^ (hi + 1 - lo) + 1) * 2 ^ lo := by ring
        _ ≤ _ := Nat.mul_le_mul_right _ hx
    have b : (v.toNat / 2 ^ (hi + 1) + 1) * 2 ^ (hi + 1) ≤ 2 ^ 64 := by
      calc _ ≤ 2 ^ (63 - hi) * 2 ^ (hi + 1) := Nat.mul_le_mul_right _ hv
        _ = 2 ^ 64 := by rw [← pow_add]; congr 1; omega
    have c : (v.toNat / 2 ^ (hi + 1) + 1) * 2 ^ (hi + 1) = v.toNat / 2 ^ (hi + 1) * 2 ^ (hi + 1) + 2 ^ (hi + 1) := by ring
    omega
  rw [setBits, word_toNat, hsum, Nat.mod_eq_of_lt hbound]

/-- A field read after it is replaced. -/
theorem bits_setBits (v : Word) (hi lo x : Nat) (hl : lo ≤ hi) (hh : hi < 64) : bits (setBits v hi lo x) hi lo = x % 2 ^ (hi + 1 - lo) := by
  have hw : 2 ^ (hi + 1) = 2 ^ (hi + 1 - lo) * 2 ^ lo := by rw [← pow_add]; congr 1; omega
  unfold bits
  rw [setBits_toNat v hi lo x hl hh, hw]
  have e : v.toNat / (2 ^ (hi + 1 - lo) * 2 ^ lo) * (2 ^ (hi + 1 - lo) * 2 ^ lo) + x % 2 ^ (hi + 1 - lo) * 2 ^ lo + v.toNat % 2 ^ lo =
      v.toNat % 2 ^ lo + 2 ^ lo * (v.toNat / (2 ^ (hi + 1 - lo) * 2 ^ lo) * 2 ^ (hi + 1 - lo) + x % 2 ^ (hi + 1 - lo)) := by ring
  rw [e, Nat.add_mul_div_left _ _ (Nat.two_pow_pos _), Nat.div_eq_of_lt (Nat.mod_lt _ (Nat.two_pow_pos _)), Nat.zero_add,
    Nat.mul_comm (v.toNat / _), Nat.mul_add_mod, Nat.mod_mod]

/-- A field above the one replaced. -/
theorem bits_setBits_above (v : Word) (hi lo x h l : Nat) (hl : lo ≤ hi) (hh : hi < 64) (ha : hi < l) :
    bits (setBits v hi lo x) h l = bits v h l := by
  have hw : 2 ^ (hi + 1) = 2 ^ (hi + 1 - lo) * 2 ^ lo := by rw [← pow_add]; congr 1; omega
  have hx : x % 2 ^ (hi + 1 - lo) < 2 ^ (hi + 1 - lo) := Nat.mod_lt _ (Nat.two_pow_pos _)
  have hr : v.toNat % 2 ^ lo < 2 ^ lo := Nat.mod_lt _ (Nat.two_pow_pos _)
  have a : x % 2 ^ (hi + 1 - lo) * 2 ^ lo + v.toNat % 2 ^ lo < 2 ^ (hi + 1) := by
    rw [hw]
    calc _ < x % 2 ^ (hi + 1 - lo) * 2 ^ lo + 2 ^ lo := by omega
      _ = (x % 2 ^ (hi + 1 - lo) + 1) * 2 ^ lo := by ring
      _ ≤ _ := Nat.mul_le_mul_right _ hx
  have d : (setBits v hi lo x).toNat / 2 ^ (hi + 1) = v.toNat / 2 ^ (hi + 1) := by
    rw [setBits_toNat v hi lo x hl hh, Nat.add_assoc, Nat.add_comm, Nat.add_mul_div_right _ _ (Nat.two_pow_pos _), Nat.div_eq_of_lt a,
      Nat.zero_add]
  have s : 2 ^ l = 2 ^ (hi + 1) * 2 ^ (l - (hi + 1)) := by rw [← pow_add]; congr 1; omega
  unfold bits
  rw [s, ← Nat.div_div_eq_div_mul, ← Nat.div_div_eq_div_mul, d]

/-- A field below the one replaced. -/
theorem bits_setBits_below (v : Word) (hi lo x h l : Nat) (hl : lo ≤ hi) (hh : hi < 64) (hb : h < lo) :
    bits (setBits v hi lo x) h l = bits v h l := by
  have hw : 2 ^ (hi + 1) = 2 ^ (hi + 1 - lo) * 2 ^ lo := by rw [← pow_add]; congr 1; omega
  have m : (setBits v hi lo x).toNat % 2 ^ lo = v.toNat % 2 ^ lo := by
    rw [setBits_toNat v hi lo x hl hh, hw]
    have e : v.toNat / (2 ^ (hi + 1 - lo) * 2 ^ lo) * (2 ^ (hi + 1 - lo) * 2 ^ lo) + x % 2 ^ (hi + 1 - lo) * 2 ^ lo + v.toNat % 2 ^ lo =
        2 ^ lo * (v.toNat / (2 ^ (hi + 1 - lo) * 2 ^ lo) * 2 ^ (hi + 1 - lo) + x % 2 ^ (hi + 1 - lo)) + v.toNat % 2 ^ lo := by ring
    rw [e, Nat.mul_add_mod, Nat.mod_mod]
  have key (n : Nat) : n / 2 ^ l % 2 ^ (h + 1 - l) = n % 2 ^ lo / 2 ^ l % 2 ^ (h + 1 - l) := by
    by_cases c : l ≤ h
    · rw [← Nat.mod_mul_right_div_self, ← pow_add, show l + (h + 1 - l) = h + 1 by omega, ← Nat.mod_mul_right_div_self, ← pow_add,
        show l + (h + 1 - l) = h + 1 by omega, Nat.mod_mod_of_dvd _ (pow_dvd_pow 2 (by omega : h + 1 ≤ lo))]
    · simp [show h + 1 - l = 0 by omega, Nat.mod_one]
  unfold bits
  rw [key, m, ← key]

/-! ### Fields of registers -/

section
variable (s : State)

/-- A register's field read after it is replaced. -/
theorem regF_setRegF (o hi lo x : Nat) (h : tabWf 0 s.regs = true) (hl : lo ≤ hi) (hh : hi < 64) :
    regF (setRegF s o hi lo x) o hi lo = x % 2 ^ (hi + 1 - lo) := by
  simp [regF, setRegF, reg_setReg _ _ _ _ h, bits_setBits _ _ _ _ hl hh]

/-- Another register's field. -/
@[simp] theorem regF_setRegF_ne (o p hi lo x a b : Nat) (h : p ≠ o) : regF (setRegF s o hi lo x) p a b = regF s p a b := by
  simp [regF, setRegF, h]

/-- Another register's field after a count. -/
@[simp] theorem regF_countF_ne (o p hi lo n a b : Nat) (h : p ≠ o) : regF (countF s o hi lo n) p a b = regF s p a b := by
  simp [countF, h]

/-- A saturating count. -/
theorem regF_countF (o hi lo n : Nat) (h : tabWf 0 s.regs = true) (hl : lo ≤ hi) (hh : hi < 64) :
    regF (countF s o hi lo n) o hi lo = min (regF s o hi lo + n) (2 ^ (hi + 1 - lo) - 1) := by
  have hp : 0 < 2 ^ (hi + 1 - lo) := Nat.two_pow_pos _
  rw [countF, regF_setRegF s _ _ _ _ h hl hh, Nat.mod_eq_of_lt (by unfold satAdd; omega), satAdd]

/-- A change of a field keeps the registers canonical. -/
theorem setRegF_wf (o hi lo x : Nat) (h : tabWf 0 s.regs = true) : tabWf 0 (setRegF s o hi lo x).regs = true := regPut_wf _ _ _ _ h
/-- A count keeps the registers canonical. -/
theorem countF_wf (o hi lo n : Nat) (h : tabWf 0 s.regs = true) : tabWf 0 (countF s o hi lo n).regs = true := regPut_wf _ _ _ _ h

/-! ### Lines -/

/-- A table that gains bits under the keys of a list. -/
theorem tget_orAll (t : Tab Word) (m : Word) (l : List Nat) (k : Nat) (h : tabWf 0 t = true) (hl : l.Nodup) :
    tget 0 (l.foldl (fun t k => tput 0 t k (tget 0 t k ||| m)) t) k = if k ∈ l then tget 0 t k ||| m else tget 0 t k := by
  induction l generalizing t with
  | nil => simp
  | cons a l ih =>
    obtain ⟨ha, hl⟩ := List.nodup_cons.1 hl
    rw [List.foldl_cons, ih _ (tabWf_tput _ _ _ _ h) hl, tget_tput _ _ _ _ _ h]
    by_cases hk : k = a
    · subst hk; simp [ha]
    · simp [hk]

/-- It stays canonical. -/
theorem tabWf_orAll (t : Tab Word) (m : Word) (l : List Nat) (h : tabWf 0 t = true) :
    tabWf 0 (l.foldl (fun t k => tput 0 t k (tget 0 t k ||| m)) t) = true := by
  induction l generalizing t with
  | nil => exact h
  | cons a l ih => exact ih _ (tabWf_tput _ _ _ _ h)

/-- A raise of lines: every reader's copy gains them. -/
theorem raiseLines_evPend (m : Word) (k : Nat) (h : tabWf 0 s.evPend = true) :
    tget 0 (raiseLines s m).evPend k = if k < 9 then tget 0 s.evPend k ||| m else tget 0 s.evPend k := by
  have e : (raiseLines s m).evPend = (List.range 9).foldl (fun t k => tput 0 t k (tget 0 t k ||| m)) s.evPend := rfl
  rw [e, tget_orAll _ _ _ _ h List.nodup_range]
  simp

/-- A raised line stands in every reader's copy. -/
theorem raiseLine_set (n k : Nat) (h : tabWf 0 s.evPend = true) (hn : n < 64) (hk : k < 9) :
    (tget 0 (raiseLine s n).evPend k).getLsbD n = true := by
  rw [raiseLine, raiseLines_evPend _ _ _ h, if_pos hk, BitVec.getLsbD_or, word_pow_getLsbD]
  simp [hn]

/-- A raise clears no line. -/
theorem raiseLine_keeps (n k i : Nat) (h : tabWf 0 s.evPend = true) (hi : (tget 0 s.evPend k).getLsbD i = true) :
    (tget 0 (raiseLine s n).evPend k).getLsbD i = true := by
  rw [raiseLine, raiseLines_evPend _ _ _ h]
  have hi' : (tget (0 : Word) s.evPend k).getLsbD i = true := hi
  split
  · rw [BitVec.getLsbD_or, hi', Bool.true_or]
  · exact hi'

/-- A raise keeps the copies canonical. -/
theorem raiseLine_wf (n : Nat) (h : tabWf 0 s.evPend = true) : tabWf 0 (raiseLine s n).evPend = true := tabWf_orAll _ _ _ h

@[simp] theorem raiseLines_pending (m : Word) : (raiseLines s m).pending = s.pending := rfl
@[simp] theorem raiseLines_integ (m : Word) : (raiseLines s m).integ = s.integ := rfl
@[simp] theorem raiseLines_ht (m : Word) : (raiseLines s m).ht = s.ht := rfl
@[simp] theorem raiseLines_regs (m : Word) : (raiseLines s m).regs = s.regs := rfl
@[simp] theorem raiseLines_areg (m : Word) : (raiseLines s m).areg = s.areg := rfl
@[simp] theorem raiseLines_hubMem (m : Word) : (raiseLines s m).hubMem = s.hubMem := rfl
@[simp] theorem raiseLines_mail (m : Word) : (raiseLines s m).mail = s.mail := rfl
@[simp] theorem raiseLines_whorls (m : Word) : (raiseLines s m).whorls = s.whorls := rfl
@[simp] theorem raiseLines_evCut (m : Word) : (raiseLines s m).evCut = s.evCut := rfl
@[simp] theorem raiseLines_evXt (m : Word) : (raiseLines s m).evXt = s.evXt := rfl
@[simp] theorem raiseLines_parts (m : Word) : (raiseLines s m).parts = s.parts := rfl
@[simp] theorem raiseLines_rparts (m : Word) : (raiseLines s m).rparts = s.rparts := rfl
@[simp] theorem raiseLines_regions (m : Word) : (raiseLines s m).regions = s.regions := rfl
@[simp] theorem raiseLines_sites (m : Word) : (raiseLines s m).sites = s.sites := rfl
@[simp] theorem raiseLines_flyers (m : Word) : (raiseLines s m).flyers = s.flyers := rfl
@[simp] theorem raiseLines_spine (m : Word) : (raiseLines s m).spine = s.spine := rfl
@[simp] theorem raiseLines_pulses (m : Word) : (raiseLines s m).pulses = s.pulses := rfl
@[simp] theorem raiseLines_xqueues (m : Word) : (raiseLines s m).xqueues = s.xqueues := rfl
@[simp] theorem raiseLines_smSent (m : Word) : (raiseLines s m).smSent = s.smSent := rfl
@[simp] theorem raiseLines_smMarked (m : Word) : (raiseLines s m).smMarked = s.smMarked := rfl
@[simp] theorem raiseLines_ops (m : Word) : (raiseLines s m).ops = s.ops := rfl
@[simp] theorem raiseLines_arrivals (m : Word) : (raiseLines s m).arrivals = s.arrivals := rfl
@[simp] theorem raiseLines_lateIds (m : Word) : (raiseLines s m).lateIds = s.lateIds := rfl
@[simp] theorem raiseLines_funnel (m : Word) : (raiseLines s m).funnel = s.funnel := rfl
@[simp] theorem raiseLines_lanes (m : Word) : (raiseLines s m).lanes = s.lanes := rfl
@[simp] theorem raiseLines_master (m : Word) : (raiseLines s m).master = s.master := rfl
@[simp] theorem raiseLines_ring (m : Word) : (raiseLines s m).ring = s.ring := rfl
@[simp] theorem raiseLines_guestAos (m : Word) : (raiseLines s m).guestAos = s.guestAos := rfl
@[simp] theorem raiseLines_hang (m : Word) : (raiseLines s m).hang = s.hang := rfl
@[simp] theorem raiseLines_hank (m : Word) : (raiseLines s m).hank = s.hank := rfl
@[simp] theorem raiseLines_nands (m : Word) : (raiseLines s m).nands = s.nands := rfl
@[simp] theorem raiseLines_time (m : Word) : (raiseLines s m).time = s.time := rfl
@[simp] theorem raiseLines_elect (m : Word) : (raiseLines s m).elect = s.elect := rfl
@[simp] theorem raiseLines_chans (m : Word) : (raiseLines s m).chans = s.chans := rfl
@[simp] theorem raiseLines_routes (m : Word) : (raiseLines s m).routes = s.routes := rfl
@[simp] theorem raiseLines_blockedNums (m : Word) : (raiseLines s m).blockedNums = s.blockedNums := rfl
@[simp] theorem raiseLines_cutCount (m : Word) : (raiseLines s m).cutCount = s.cutCount := rfl
@[simp] theorem raiseLines_knownCuts (m : Word) : (raiseLines s m).knownCuts = s.knownCuts := rfl
@[simp] theorem raiseLines_twp (m : Word) : (raiseLines s m).twp = s.twp := rfl
@[simp] theorem raiseLines_host (m : Word) : (raiseLines s m).host = s.host := rfl
@[simp] theorem raiseLines_aga (m : Word) : (raiseLines s m).aga = s.aga := rfl
@[simp] theorem raiseLines_unlock (m : Word) : (raiseLines s m).unlock = s.unlock := rfl
@[simp] theorem raiseLines_boot (m : Word) : (raiseLines s m).boot = s.boot := rfl
@[simp] theorem raiseLines_freeCtr (m : Word) : (raiseLines s m).freeCtr = s.freeCtr := rfl
@[simp] theorem raiseLines_opCtr (m : Word) : (raiseLines s m).opCtr = s.opCtr := rfl

@[simp] theorem raiseLine_pending (n : Nat) : (raiseLine s n).pending = s.pending := rfl
@[simp] theorem raiseLine_integ (n : Nat) : (raiseLine s n).integ = s.integ := rfl
@[simp] theorem raiseLine_ht (n : Nat) : (raiseLine s n).ht = s.ht := rfl
@[simp] theorem raiseLine_regs (n : Nat) : (raiseLine s n).regs = s.regs := rfl
@[simp] theorem raiseLine_areg (n : Nat) : (raiseLine s n).areg = s.areg := rfl
@[simp] theorem raiseLine_hubMem (n : Nat) : (raiseLine s n).hubMem = s.hubMem := rfl
@[simp] theorem raiseLine_mail (n : Nat) : (raiseLine s n).mail = s.mail := rfl
@[simp] theorem raiseLine_whorls (n : Nat) : (raiseLine s n).whorls = s.whorls := rfl
@[simp] theorem raiseLine_evCut (n : Nat) : (raiseLine s n).evCut = s.evCut := rfl
@[simp] theorem raiseLine_evXt (n : Nat) : (raiseLine s n).evXt = s.evXt := rfl
@[simp] theorem raiseLine_parts (n : Nat) : (raiseLine s n).parts = s.parts := rfl
@[simp] theorem raiseLine_rparts (n : Nat) : (raiseLine s n).rparts = s.rparts := rfl
@[simp] theorem raiseLine_regions (n : Nat) : (raiseLine s n).regions = s.regions := rfl
@[simp] theorem raiseLine_sites (n : Nat) : (raiseLine s n).sites = s.sites := rfl
@[simp] theorem raiseLine_flyers (n : Nat) : (raiseLine s n).flyers = s.flyers := rfl
@[simp] theorem raiseLine_spine (n : Nat) : (raiseLine s n).spine = s.spine := rfl
@[simp] theorem raiseLine_pulses (n : Nat) : (raiseLine s n).pulses = s.pulses := rfl
@[simp] theorem raiseLine_xqueues (n : Nat) : (raiseLine s n).xqueues = s.xqueues := rfl
@[simp] theorem raiseLine_smSent (n : Nat) : (raiseLine s n).smSent = s.smSent := rfl
@[simp] theorem raiseLine_smMarked (n : Nat) : (raiseLine s n).smMarked = s.smMarked := rfl
@[simp] theorem raiseLine_ops (n : Nat) : (raiseLine s n).ops = s.ops := rfl
@[simp] theorem raiseLine_arrivals (n : Nat) : (raiseLine s n).arrivals = s.arrivals := rfl
@[simp] theorem raiseLine_lateIds (n : Nat) : (raiseLine s n).lateIds = s.lateIds := rfl
@[simp] theorem raiseLine_funnel (n : Nat) : (raiseLine s n).funnel = s.funnel := rfl
@[simp] theorem raiseLine_lanes (n : Nat) : (raiseLine s n).lanes = s.lanes := rfl
@[simp] theorem raiseLine_master (n : Nat) : (raiseLine s n).master = s.master := rfl
@[simp] theorem raiseLine_ring (n : Nat) : (raiseLine s n).ring = s.ring := rfl
@[simp] theorem raiseLine_guestAos (n : Nat) : (raiseLine s n).guestAos = s.guestAos := rfl
@[simp] theorem raiseLine_hang (n : Nat) : (raiseLine s n).hang = s.hang := rfl
@[simp] theorem raiseLine_hank (n : Nat) : (raiseLine s n).hank = s.hank := rfl
@[simp] theorem raiseLine_nands (n : Nat) : (raiseLine s n).nands = s.nands := rfl
@[simp] theorem raiseLine_time (n : Nat) : (raiseLine s n).time = s.time := rfl
@[simp] theorem raiseLine_elect (n : Nat) : (raiseLine s n).elect = s.elect := rfl
@[simp] theorem raiseLine_chans (n : Nat) : (raiseLine s n).chans = s.chans := rfl
@[simp] theorem raiseLine_routes (n : Nat) : (raiseLine s n).routes = s.routes := rfl
@[simp] theorem raiseLine_blockedNums (n : Nat) : (raiseLine s n).blockedNums = s.blockedNums := rfl
@[simp] theorem raiseLine_cutCount (n : Nat) : (raiseLine s n).cutCount = s.cutCount := rfl
@[simp] theorem raiseLine_knownCuts (n : Nat) : (raiseLine s n).knownCuts = s.knownCuts := rfl
@[simp] theorem raiseLine_twp (n : Nat) : (raiseLine s n).twp = s.twp := rfl
@[simp] theorem raiseLine_host (n : Nat) : (raiseLine s n).host = s.host := rfl
@[simp] theorem raiseLine_aga (n : Nat) : (raiseLine s n).aga = s.aga := rfl
@[simp] theorem raiseLine_unlock (n : Nat) : (raiseLine s n).unlock = s.unlock := rfl
@[simp] theorem raiseLine_boot (n : Nat) : (raiseLine s n).boot = s.boot := rfl
@[simp] theorem raiseLine_freeCtr (n : Nat) : (raiseLine s n).freeCtr = s.freeCtr := rfl
@[simp] theorem raiseLine_opCtr (n : Nat) : (raiseLine s n).opCtr = s.opCtr := rfl

/-! ### Records -/

/-- A record of the Distaff's own changes the funnel alone. -/
theorem pushLocal_eq (r : Rec) : pushLocal s r = { s with funnel := (pushLocal s r).funnel } := by
  by_cases h : s.funnel.held = [] ∧ localFits s r = true
  · simp only [pushLocal, if_pos h]
  · by_cases g : heldFull s r = true
    · simp only [pushLocal, if_neg h, if_pos g]
    · simp only [pushLocal, if_neg h, if_neg g]

/-- So does an HEVT record. -/
theorem hevt_eq (c a : Nat) (p : List Word) : hevt s c a p = { s with funnel := (hevt s c a p).funnel } := pushLocal_eq ..

/-- Where the record goes (R149, R151). -/
theorem pushLocal_cases (r : Rec) :
    (s.funnel.held = [] ∧ localFits s r = true ∧ (pushLocal s r).funnel = { s.funnel with local_ := s.funnel.local_ ++ [r] }) ∨
    (¬(s.funnel.held = [] ∧ localFits s r = true) ∧ heldFull s r = false ∧
      (pushLocal s r).funnel = { s.funnel with held := s.funnel.held ++ [r] }) ∨
    (¬(s.funnel.held = [] ∧ localFits s r = true) ∧ heldFull s r = true ∧
      (pushLocal s r).funnel = { s.funnel with overflow := satAdd 16 s.funnel.overflow 1 }) := by
  unfold pushLocal
  by_cases h : s.funnel.held = [] ∧ localFits s r = true
  · left; simp [h]
  · right
    cases g : heldFull s r with
    | false => left; simp [h]
    | true => right; simp [h]

@[simp] theorem pushLocal_pending (r : Rec) : (pushLocal s r).pending = s.pending := by rw [pushLocal_eq]
@[simp] theorem pushLocal_integ (r : Rec) : (pushLocal s r).integ = s.integ := by rw [pushLocal_eq]
@[simp] theorem pushLocal_ht (r : Rec) : (pushLocal s r).ht = s.ht := by rw [pushLocal_eq]
@[simp] theorem pushLocal_regs (r : Rec) : (pushLocal s r).regs = s.regs := by rw [pushLocal_eq]
@[simp] theorem pushLocal_areg (r : Rec) : (pushLocal s r).areg = s.areg := by rw [pushLocal_eq]
@[simp] theorem pushLocal_hubMem (r : Rec) : (pushLocal s r).hubMem = s.hubMem := by rw [pushLocal_eq]
@[simp] theorem pushLocal_mail (r : Rec) : (pushLocal s r).mail = s.mail := by rw [pushLocal_eq]
@[simp] theorem pushLocal_whorls (r : Rec) : (pushLocal s r).whorls = s.whorls := by rw [pushLocal_eq]
@[simp] theorem pushLocal_evPend (r : Rec) : (pushLocal s r).evPend = s.evPend := by rw [pushLocal_eq]
@[simp] theorem pushLocal_evCut (r : Rec) : (pushLocal s r).evCut = s.evCut := by rw [pushLocal_eq]
@[simp] theorem pushLocal_evXt (r : Rec) : (pushLocal s r).evXt = s.evXt := by rw [pushLocal_eq]
@[simp] theorem pushLocal_hubIrq (r : Rec) : (pushLocal s r).hubIrq = s.hubIrq := by rw [pushLocal_eq]
@[simp] theorem pushLocal_parts (r : Rec) : (pushLocal s r).parts = s.parts := by rw [pushLocal_eq]
@[simp] theorem pushLocal_rparts (r : Rec) : (pushLocal s r).rparts = s.rparts := by rw [pushLocal_eq]
@[simp] theorem pushLocal_regions (r : Rec) : (pushLocal s r).regions = s.regions := by rw [pushLocal_eq]
@[simp] theorem pushLocal_sites (r : Rec) : (pushLocal s r).sites = s.sites := by rw [pushLocal_eq]
@[simp] theorem pushLocal_flyers (r : Rec) : (pushLocal s r).flyers = s.flyers := by rw [pushLocal_eq]
@[simp] theorem pushLocal_spine (r : Rec) : (pushLocal s r).spine = s.spine := by rw [pushLocal_eq]
@[simp] theorem pushLocal_pulses (r : Rec) : (pushLocal s r).pulses = s.pulses := by rw [pushLocal_eq]
@[simp] theorem pushLocal_xqueues (r : Rec) : (pushLocal s r).xqueues = s.xqueues := by rw [pushLocal_eq]
@[simp] theorem pushLocal_smSent (r : Rec) : (pushLocal s r).smSent = s.smSent := by rw [pushLocal_eq]
@[simp] theorem pushLocal_smMarked (r : Rec) : (pushLocal s r).smMarked = s.smMarked := by rw [pushLocal_eq]
@[simp] theorem pushLocal_ops (r : Rec) : (pushLocal s r).ops = s.ops := by rw [pushLocal_eq]
@[simp] theorem pushLocal_arrivals (r : Rec) : (pushLocal s r).arrivals = s.arrivals := by rw [pushLocal_eq]
@[simp] theorem pushLocal_lateIds (r : Rec) : (pushLocal s r).lateIds = s.lateIds := by rw [pushLocal_eq]
@[simp] theorem pushLocal_buffer (r : Rec) : (pushLocal s r).buffer = s.buffer := by rw [pushLocal_eq]
@[simp] theorem pushLocal_lanes (r : Rec) : (pushLocal s r).lanes = s.lanes := by rw [pushLocal_eq]
@[simp] theorem pushLocal_master (r : Rec) : (pushLocal s r).master = s.master := by rw [pushLocal_eq]
@[simp] theorem pushLocal_ring (r : Rec) : (pushLocal s r).ring = s.ring := by rw [pushLocal_eq]
@[simp] theorem pushLocal_guestAos (r : Rec) : (pushLocal s r).guestAos = s.guestAos := by rw [pushLocal_eq]
@[simp] theorem pushLocal_hang (r : Rec) : (pushLocal s r).hang = s.hang := by rw [pushLocal_eq]
@[simp] theorem pushLocal_hank (r : Rec) : (pushLocal s r).hank = s.hank := by rw [pushLocal_eq]
@[simp] theorem pushLocal_nands (r : Rec) : (pushLocal s r).nands = s.nands := by rw [pushLocal_eq]
@[simp] theorem pushLocal_time (r : Rec) : (pushLocal s r).time = s.time := by rw [pushLocal_eq]
@[simp] theorem pushLocal_elect (r : Rec) : (pushLocal s r).elect = s.elect := by rw [pushLocal_eq]
@[simp] theorem pushLocal_chans (r : Rec) : (pushLocal s r).chans = s.chans := by rw [pushLocal_eq]
@[simp] theorem pushLocal_routes (r : Rec) : (pushLocal s r).routes = s.routes := by rw [pushLocal_eq]
@[simp] theorem pushLocal_blockedNums (r : Rec) : (pushLocal s r).blockedNums = s.blockedNums := by rw [pushLocal_eq]
@[simp] theorem pushLocal_cutCount (r : Rec) : (pushLocal s r).cutCount = s.cutCount := by rw [pushLocal_eq]
@[simp] theorem pushLocal_knownCuts (r : Rec) : (pushLocal s r).knownCuts = s.knownCuts := by rw [pushLocal_eq]
@[simp] theorem pushLocal_twp (r : Rec) : (pushLocal s r).twp = s.twp := by rw [pushLocal_eq]
@[simp] theorem pushLocal_host (r : Rec) : (pushLocal s r).host = s.host := by rw [pushLocal_eq]
@[simp] theorem pushLocal_aga (r : Rec) : (pushLocal s r).aga = s.aga := by rw [pushLocal_eq]
@[simp] theorem pushLocal_unlock (r : Rec) : (pushLocal s r).unlock = s.unlock := by rw [pushLocal_eq]
@[simp] theorem pushLocal_boot (r : Rec) : (pushLocal s r).boot = s.boot := by rw [pushLocal_eq]
@[simp] theorem pushLocal_freeCtr (r : Rec) : (pushLocal s r).freeCtr = s.freeCtr := by rw [pushLocal_eq]
@[simp] theorem pushLocal_opCtr (r : Rec) : (pushLocal s r).opCtr = s.opCtr := by rw [pushLocal_eq]

@[simp] theorem hevt_pending (c a : Nat) (p : List Word) : (hevt s c a p).pending = s.pending := by rw [hevt_eq]
@[simp] theorem hevt_integ (c a : Nat) (p : List Word) : (hevt s c a p).integ = s.integ := by rw [hevt_eq]
@[simp] theorem hevt_ht (c a : Nat) (p : List Word) : (hevt s c a p).ht = s.ht := by rw [hevt_eq]
@[simp] theorem hevt_regs (c a : Nat) (p : List Word) : (hevt s c a p).regs = s.regs := by rw [hevt_eq]
@[simp] theorem hevt_areg (c a : Nat) (p : List Word) : (hevt s c a p).areg = s.areg := by rw [hevt_eq]
@[simp] theorem hevt_hubMem (c a : Nat) (p : List Word) : (hevt s c a p).hubMem = s.hubMem := by rw [hevt_eq]
@[simp] theorem hevt_mail (c a : Nat) (p : List Word) : (hevt s c a p).mail = s.mail := by rw [hevt_eq]
@[simp] theorem hevt_whorls (c a : Nat) (p : List Word) : (hevt s c a p).whorls = s.whorls := by rw [hevt_eq]
@[simp] theorem hevt_evPend (c a : Nat) (p : List Word) : (hevt s c a p).evPend = s.evPend := by rw [hevt_eq]
@[simp] theorem hevt_evCut (c a : Nat) (p : List Word) : (hevt s c a p).evCut = s.evCut := by rw [hevt_eq]
@[simp] theorem hevt_evXt (c a : Nat) (p : List Word) : (hevt s c a p).evXt = s.evXt := by rw [hevt_eq]
@[simp] theorem hevt_hubIrq (c a : Nat) (p : List Word) : (hevt s c a p).hubIrq = s.hubIrq := by rw [hevt_eq]
@[simp] theorem hevt_parts (c a : Nat) (p : List Word) : (hevt s c a p).parts = s.parts := by rw [hevt_eq]
@[simp] theorem hevt_rparts (c a : Nat) (p : List Word) : (hevt s c a p).rparts = s.rparts := by rw [hevt_eq]
@[simp] theorem hevt_regions (c a : Nat) (p : List Word) : (hevt s c a p).regions = s.regions := by rw [hevt_eq]
@[simp] theorem hevt_sites (c a : Nat) (p : List Word) : (hevt s c a p).sites = s.sites := by rw [hevt_eq]
@[simp] theorem hevt_flyers (c a : Nat) (p : List Word) : (hevt s c a p).flyers = s.flyers := by rw [hevt_eq]
@[simp] theorem hevt_spine (c a : Nat) (p : List Word) : (hevt s c a p).spine = s.spine := by rw [hevt_eq]
@[simp] theorem hevt_pulses (c a : Nat) (p : List Word) : (hevt s c a p).pulses = s.pulses := by rw [hevt_eq]
@[simp] theorem hevt_xqueues (c a : Nat) (p : List Word) : (hevt s c a p).xqueues = s.xqueues := by rw [hevt_eq]
@[simp] theorem hevt_smSent (c a : Nat) (p : List Word) : (hevt s c a p).smSent = s.smSent := by rw [hevt_eq]
@[simp] theorem hevt_smMarked (c a : Nat) (p : List Word) : (hevt s c a p).smMarked = s.smMarked := by rw [hevt_eq]
@[simp] theorem hevt_ops (c a : Nat) (p : List Word) : (hevt s c a p).ops = s.ops := by rw [hevt_eq]
@[simp] theorem hevt_arrivals (c a : Nat) (p : List Word) : (hevt s c a p).arrivals = s.arrivals := by rw [hevt_eq]
@[simp] theorem hevt_lateIds (c a : Nat) (p : List Word) : (hevt s c a p).lateIds = s.lateIds := by rw [hevt_eq]
@[simp] theorem hevt_buffer (c a : Nat) (p : List Word) : (hevt s c a p).buffer = s.buffer := by rw [hevt_eq]
@[simp] theorem hevt_lanes (c a : Nat) (p : List Word) : (hevt s c a p).lanes = s.lanes := by rw [hevt_eq]
@[simp] theorem hevt_master (c a : Nat) (p : List Word) : (hevt s c a p).master = s.master := by rw [hevt_eq]
@[simp] theorem hevt_ring (c a : Nat) (p : List Word) : (hevt s c a p).ring = s.ring := by rw [hevt_eq]
@[simp] theorem hevt_guestAos (c a : Nat) (p : List Word) : (hevt s c a p).guestAos = s.guestAos := by rw [hevt_eq]
@[simp] theorem hevt_hang (c a : Nat) (p : List Word) : (hevt s c a p).hang = s.hang := by rw [hevt_eq]
@[simp] theorem hevt_hank (c a : Nat) (p : List Word) : (hevt s c a p).hank = s.hank := by rw [hevt_eq]
@[simp] theorem hevt_nands (c a : Nat) (p : List Word) : (hevt s c a p).nands = s.nands := by rw [hevt_eq]
@[simp] theorem hevt_time (c a : Nat) (p : List Word) : (hevt s c a p).time = s.time := by rw [hevt_eq]
@[simp] theorem hevt_elect (c a : Nat) (p : List Word) : (hevt s c a p).elect = s.elect := by rw [hevt_eq]
@[simp] theorem hevt_chans (c a : Nat) (p : List Word) : (hevt s c a p).chans = s.chans := by rw [hevt_eq]
@[simp] theorem hevt_routes (c a : Nat) (p : List Word) : (hevt s c a p).routes = s.routes := by rw [hevt_eq]
@[simp] theorem hevt_blockedNums (c a : Nat) (p : List Word) : (hevt s c a p).blockedNums = s.blockedNums := by rw [hevt_eq]
@[simp] theorem hevt_cutCount (c a : Nat) (p : List Word) : (hevt s c a p).cutCount = s.cutCount := by rw [hevt_eq]
@[simp] theorem hevt_knownCuts (c a : Nat) (p : List Word) : (hevt s c a p).knownCuts = s.knownCuts := by rw [hevt_eq]
@[simp] theorem hevt_twp (c a : Nat) (p : List Word) : (hevt s c a p).twp = s.twp := by rw [hevt_eq]
@[simp] theorem hevt_host (c a : Nat) (p : List Word) : (hevt s c a p).host = s.host := by rw [hevt_eq]
@[simp] theorem hevt_aga (c a : Nat) (p : List Word) : (hevt s c a p).aga = s.aga := by rw [hevt_eq]
@[simp] theorem hevt_unlock (c a : Nat) (p : List Word) : (hevt s c a p).unlock = s.unlock := by rw [hevt_eq]
@[simp] theorem hevt_boot (c a : Nat) (p : List Word) : (hevt s c a p).boot = s.boot := by rw [hevt_eq]
@[simp] theorem hevt_freeCtr (c a : Nat) (p : List Word) : (hevt s c a p).freeCtr = s.freeCtr := by rw [hevt_eq]
@[simp] theorem hevt_opCtr (c a : Nat) (p : List Word) : (hevt s c a p).opCtr = s.opCtr := by rw [hevt_eq]

/-! ### Outcomes -/

/-- An outcome that a ticket or the bare path waits for joins the arrivals. -/
theorem postArrival_waited (a : Arrival) (h : waited s a.opId = true) : postArrival s a = { s with arrivals := s.arrivals ++ [a] } := by
  simp [postArrival, h]

/-- The outcome of an operation that has timed out is counted in SPN_LATE. -/
theorem postArrival_late (a : Arrival) (h : waited s a.opId = false) (hl : a.opId ∈ s.lateIds) :
    postArrival s a = countF { s with
      ops := s.ops.filter fun o => o.id != a.opId
      lateIds := s.lateIds.filter fun x => x != a.opId } rSpnLate 63 0 1 := by
  simp [postArrival, h, hl]

/-- Any other is discarded. -/
theorem postArrival_discarded (a : Arrival) (h : waited s a.opId = false) (hl : a.opId ∉ s.lateIds) :
    postArrival s a = { s with ops := s.ops.filter fun o => o.id != a.opId } := by
  simp [postArrival, h, hl]

/-- The three ends of an outcome. -/
theorem postArrival_eq (a : Arrival) : postArrival s a = { s with arrivals := s.arrivals ++ [a] } ∨
    postArrival s a = countF { s with
      ops := s.ops.filter fun o => o.id != a.opId
      lateIds := s.lateIds.filter fun x => x != a.opId } rSpnLate 63 0 1 ∨
    postArrival s a = { s with ops := s.ops.filter fun o => o.id != a.opId } := by
  cases h : waited s a.opId with
  | true => exact .inl (postArrival_waited s a h)
  | false =>
    by_cases hl : a.opId ∈ s.lateIds
    · exact .inr (.inl (postArrival_late s a h hl))
    · exact .inr (.inr (postArrival_discarded s a h hl))

@[simp] theorem postArrival_pending (a : Arrival) : (postArrival s a).pending = s.pending := by rcases postArrival_eq s a with h | h | h <;> simp [h]
@[simp] theorem postArrival_integ (a : Arrival) : (postArrival s a).integ = s.integ := by rcases postArrival_eq s a with h | h | h <;> simp [h]
@[simp] theorem postArrival_ht (a : Arrival) : (postArrival s a).ht = s.ht := by rcases postArrival_eq s a with h | h | h <;> simp [h]
@[simp] theorem postArrival_areg (a : Arrival) : (postArrival s a).areg = s.areg := by rcases postArrival_eq s a with h | h | h <;> simp [h]
@[simp] theorem postArrival_hubMem (a : Arrival) : (postArrival s a).hubMem = s.hubMem := by rcases postArrival_eq s a with h | h | h <;> simp [h]
@[simp] theorem postArrival_mail (a : Arrival) : (postArrival s a).mail = s.mail := by rcases postArrival_eq s a with h | h | h <;> simp [h]
@[simp] theorem postArrival_whorls (a : Arrival) : (postArrival s a).whorls = s.whorls := by rcases postArrival_eq s a with h | h | h <;> simp [h]
@[simp] theorem postArrival_evPend (a : Arrival) : (postArrival s a).evPend = s.evPend := by rcases postArrival_eq s a with h | h | h <;> simp [h]
@[simp] theorem postArrival_evCut (a : Arrival) : (postArrival s a).evCut = s.evCut := by rcases postArrival_eq s a with h | h | h <;> simp [h]
@[simp] theorem postArrival_evXt (a : Arrival) : (postArrival s a).evXt = s.evXt := by rcases postArrival_eq s a with h | h | h <;> simp [h]
@[simp] theorem postArrival_hubIrq (a : Arrival) : (postArrival s a).hubIrq = s.hubIrq := by rcases postArrival_eq s a with h | h | h <;> simp [h]
@[simp] theorem postArrival_parts (a : Arrival) : (postArrival s a).parts = s.parts := by rcases postArrival_eq s a with h | h | h <;> simp [h]
@[simp] theorem postArrival_rparts (a : Arrival) : (postArrival s a).rparts = s.rparts := by rcases postArrival_eq s a with h | h | h <;> simp [h]
@[simp] theorem postArrival_regions (a : Arrival) : (postArrival s a).regions = s.regions := by rcases postArrival_eq s a with h | h | h <;> simp [h]
@[simp] theorem postArrival_sites (a : Arrival) : (postArrival s a).sites = s.sites := by rcases postArrival_eq s a with h | h | h <;> simp [h]
@[simp] theorem postArrival_flyers (a : Arrival) : (postArrival s a).flyers = s.flyers := by rcases postArrival_eq s a with h | h | h <;> simp [h]
@[simp] theorem postArrival_spine (a : Arrival) : (postArrival s a).spine = s.spine := by rcases postArrival_eq s a with h | h | h <;> simp [h]
@[simp] theorem postArrival_pulses (a : Arrival) : (postArrival s a).pulses = s.pulses := by rcases postArrival_eq s a with h | h | h <;> simp [h]
@[simp] theorem postArrival_xqueues (a : Arrival) : (postArrival s a).xqueues = s.xqueues := by rcases postArrival_eq s a with h | h | h <;> simp [h]
@[simp] theorem postArrival_smSent (a : Arrival) : (postArrival s a).smSent = s.smSent := by rcases postArrival_eq s a with h | h | h <;> simp [h]
@[simp] theorem postArrival_smMarked (a : Arrival) : (postArrival s a).smMarked = s.smMarked := by rcases postArrival_eq s a with h | h | h <;> simp [h]
@[simp] theorem postArrival_funnel (a : Arrival) : (postArrival s a).funnel = s.funnel := by rcases postArrival_eq s a with h | h | h <;> simp [h]
@[simp] theorem postArrival_buffer (a : Arrival) : (postArrival s a).buffer = s.buffer := by rcases postArrival_eq s a with h | h | h <;> simp [h]
@[simp] theorem postArrival_lanes (a : Arrival) : (postArrival s a).lanes = s.lanes := by rcases postArrival_eq s a with h | h | h <;> simp [h]
@[simp] theorem postArrival_master (a : Arrival) : (postArrival s a).master = s.master := by rcases postArrival_eq s a with h | h | h <;> simp [h]
@[simp] theorem postArrival_ring (a : Arrival) : (postArrival s a).ring = s.ring := by rcases postArrival_eq s a with h | h | h <;> simp [h]
@[simp] theorem postArrival_guestAos (a : Arrival) : (postArrival s a).guestAos = s.guestAos := by rcases postArrival_eq s a with h | h | h <;> simp [h]
@[simp] theorem postArrival_hang (a : Arrival) : (postArrival s a).hang = s.hang := by rcases postArrival_eq s a with h | h | h <;> simp [h]
@[simp] theorem postArrival_hank (a : Arrival) : (postArrival s a).hank = s.hank := by rcases postArrival_eq s a with h | h | h <;> simp [h]
@[simp] theorem postArrival_nands (a : Arrival) : (postArrival s a).nands = s.nands := by rcases postArrival_eq s a with h | h | h <;> simp [h]
@[simp] theorem postArrival_time (a : Arrival) : (postArrival s a).time = s.time := by rcases postArrival_eq s a with h | h | h <;> simp [h]
@[simp] theorem postArrival_elect (a : Arrival) : (postArrival s a).elect = s.elect := by rcases postArrival_eq s a with h | h | h <;> simp [h]
@[simp] theorem postArrival_chans (a : Arrival) : (postArrival s a).chans = s.chans := by rcases postArrival_eq s a with h | h | h <;> simp [h]
@[simp] theorem postArrival_routes (a : Arrival) : (postArrival s a).routes = s.routes := by rcases postArrival_eq s a with h | h | h <;> simp [h]
@[simp] theorem postArrival_blockedNums (a : Arrival) : (postArrival s a).blockedNums = s.blockedNums := by rcases postArrival_eq s a with h | h | h <;> simp [h]
@[simp] theorem postArrival_cutCount (a : Arrival) : (postArrival s a).cutCount = s.cutCount := by rcases postArrival_eq s a with h | h | h <;> simp [h]
@[simp] theorem postArrival_knownCuts (a : Arrival) : (postArrival s a).knownCuts = s.knownCuts := by rcases postArrival_eq s a with h | h | h <;> simp [h]
@[simp] theorem postArrival_twp (a : Arrival) : (postArrival s a).twp = s.twp := by rcases postArrival_eq s a with h | h | h <;> simp [h]
@[simp] theorem postArrival_host (a : Arrival) : (postArrival s a).host = s.host := by rcases postArrival_eq s a with h | h | h <;> simp [h]
@[simp] theorem postArrival_aga (a : Arrival) : (postArrival s a).aga = s.aga := by rcases postArrival_eq s a with h | h | h <;> simp [h]
@[simp] theorem postArrival_unlock (a : Arrival) : (postArrival s a).unlock = s.unlock := by rcases postArrival_eq s a with h | h | h <;> simp [h]
@[simp] theorem postArrival_boot (a : Arrival) : (postArrival s a).boot = s.boot := by rcases postArrival_eq s a with h | h | h <;> simp [h]
@[simp] theorem postArrival_freeCtr (a : Arrival) : (postArrival s a).freeCtr = s.freeCtr := by rcases postArrival_eq s a with h | h | h <;> simp [h]
@[simp] theorem postArrival_opCtr (a : Arrival) : (postArrival s a).opCtr = s.opCtr := by rcases postArrival_eq s a with h | h | h <;> simp [h]
@[simp] theorem post_pending (i : Nat) (st : Status) (c : Nat) (r : Option Word) : (post s i st c r).pending = s.pending := by simp [post]
@[simp] theorem post_integ (i : Nat) (st : Status) (c : Nat) (r : Option Word) : (post s i st c r).integ = s.integ := by simp [post]
@[simp] theorem post_ht (i : Nat) (st : Status) (c : Nat) (r : Option Word) : (post s i st c r).ht = s.ht := by simp [post]
@[simp] theorem post_areg (i : Nat) (st : Status) (c : Nat) (r : Option Word) : (post s i st c r).areg = s.areg := by simp [post]
@[simp] theorem post_hubMem (i : Nat) (st : Status) (c : Nat) (r : Option Word) : (post s i st c r).hubMem = s.hubMem := by simp [post]
@[simp] theorem post_mail (i : Nat) (st : Status) (c : Nat) (r : Option Word) : (post s i st c r).mail = s.mail := by simp [post]
@[simp] theorem post_whorls (i : Nat) (st : Status) (c : Nat) (r : Option Word) : (post s i st c r).whorls = s.whorls := by simp [post]
@[simp] theorem post_evPend (i : Nat) (st : Status) (c : Nat) (r : Option Word) : (post s i st c r).evPend = s.evPend := by simp [post]
@[simp] theorem post_evCut (i : Nat) (st : Status) (c : Nat) (r : Option Word) : (post s i st c r).evCut = s.evCut := by simp [post]
@[simp] theorem post_evXt (i : Nat) (st : Status) (c : Nat) (r : Option Word) : (post s i st c r).evXt = s.evXt := by simp [post]
@[simp] theorem post_hubIrq (i : Nat) (st : Status) (c : Nat) (r : Option Word) : (post s i st c r).hubIrq = s.hubIrq := by simp [post]
@[simp] theorem post_parts (i : Nat) (st : Status) (c : Nat) (r : Option Word) : (post s i st c r).parts = s.parts := by simp [post]
@[simp] theorem post_rparts (i : Nat) (st : Status) (c : Nat) (r : Option Word) : (post s i st c r).rparts = s.rparts := by simp [post]
@[simp] theorem post_regions (i : Nat) (st : Status) (c : Nat) (r : Option Word) : (post s i st c r).regions = s.regions := by simp [post]
@[simp] theorem post_sites (i : Nat) (st : Status) (c : Nat) (r : Option Word) : (post s i st c r).sites = s.sites := by simp [post]
@[simp] theorem post_flyers (i : Nat) (st : Status) (c : Nat) (r : Option Word) : (post s i st c r).flyers = s.flyers := by simp [post]
@[simp] theorem post_spine (i : Nat) (st : Status) (c : Nat) (r : Option Word) : (post s i st c r).spine = s.spine := by simp [post]
@[simp] theorem post_pulses (i : Nat) (st : Status) (c : Nat) (r : Option Word) : (post s i st c r).pulses = s.pulses := by simp [post]
@[simp] theorem post_xqueues (i : Nat) (st : Status) (c : Nat) (r : Option Word) : (post s i st c r).xqueues = s.xqueues := by simp [post]
@[simp] theorem post_smSent (i : Nat) (st : Status) (c : Nat) (r : Option Word) : (post s i st c r).smSent = s.smSent := by simp [post]
@[simp] theorem post_smMarked (i : Nat) (st : Status) (c : Nat) (r : Option Word) : (post s i st c r).smMarked = s.smMarked := by simp [post]
@[simp] theorem post_funnel (i : Nat) (st : Status) (c : Nat) (r : Option Word) : (post s i st c r).funnel = s.funnel := by simp [post]
@[simp] theorem post_buffer (i : Nat) (st : Status) (c : Nat) (r : Option Word) : (post s i st c r).buffer = s.buffer := by simp [post]
@[simp] theorem post_lanes (i : Nat) (st : Status) (c : Nat) (r : Option Word) : (post s i st c r).lanes = s.lanes := by simp [post]
@[simp] theorem post_master (i : Nat) (st : Status) (c : Nat) (r : Option Word) : (post s i st c r).master = s.master := by simp [post]
@[simp] theorem post_ring (i : Nat) (st : Status) (c : Nat) (r : Option Word) : (post s i st c r).ring = s.ring := by simp [post]
@[simp] theorem post_guestAos (i : Nat) (st : Status) (c : Nat) (r : Option Word) : (post s i st c r).guestAos = s.guestAos := by simp [post]
@[simp] theorem post_hang (i : Nat) (st : Status) (c : Nat) (r : Option Word) : (post s i st c r).hang = s.hang := by simp [post]
@[simp] theorem post_hank (i : Nat) (st : Status) (c : Nat) (r : Option Word) : (post s i st c r).hank = s.hank := by simp [post]
@[simp] theorem post_nands (i : Nat) (st : Status) (c : Nat) (r : Option Word) : (post s i st c r).nands = s.nands := by simp [post]
@[simp] theorem post_time (i : Nat) (st : Status) (c : Nat) (r : Option Word) : (post s i st c r).time = s.time := by simp [post]
@[simp] theorem post_elect (i : Nat) (st : Status) (c : Nat) (r : Option Word) : (post s i st c r).elect = s.elect := by simp [post]
@[simp] theorem post_chans (i : Nat) (st : Status) (c : Nat) (r : Option Word) : (post s i st c r).chans = s.chans := by simp [post]
@[simp] theorem post_routes (i : Nat) (st : Status) (c : Nat) (r : Option Word) : (post s i st c r).routes = s.routes := by simp [post]
@[simp] theorem post_blockedNums (i : Nat) (st : Status) (c : Nat) (r : Option Word) : (post s i st c r).blockedNums = s.blockedNums := by simp [post]
@[simp] theorem post_cutCount (i : Nat) (st : Status) (c : Nat) (r : Option Word) : (post s i st c r).cutCount = s.cutCount := by simp [post]
@[simp] theorem post_knownCuts (i : Nat) (st : Status) (c : Nat) (r : Option Word) : (post s i st c r).knownCuts = s.knownCuts := by simp [post]
@[simp] theorem post_twp (i : Nat) (st : Status) (c : Nat) (r : Option Word) : (post s i st c r).twp = s.twp := by simp [post]
@[simp] theorem post_host (i : Nat) (st : Status) (c : Nat) (r : Option Word) : (post s i st c r).host = s.host := by simp [post]
@[simp] theorem post_aga (i : Nat) (st : Status) (c : Nat) (r : Option Word) : (post s i st c r).aga = s.aga := by simp [post]
@[simp] theorem post_unlock (i : Nat) (st : Status) (c : Nat) (r : Option Word) : (post s i st c r).unlock = s.unlock := by simp [post]
@[simp] theorem post_boot (i : Nat) (st : Status) (c : Nat) (r : Option Word) : (post s i st c r).boot = s.boot := by simp [post]
@[simp] theorem post_freeCtr (i : Nat) (st : Status) (c : Nat) (r : Option Word) : (post s i st c r).freeCtr = s.freeCtr := by simp [post]
@[simp] theorem post_opCtr (i : Nat) (st : Status) (c : Nat) (r : Option Word) : (post s i st c r).opCtr = s.opCtr := by simp [post]

end

end Sys2Proof.Machine
end

