-- ==== Sys2Proof/Laws/Health.lean ====
section
/-! SUPPORT. What a commit of the hub's own, a journal entry, the publication of the mill map and a health change can do: the parts of
State they keep. -/

namespace Sys2Proof.Machine

variable (s : State)

/-- A commit that nothing waits for changes the Hank store, and the count of commits that found the backlog full. -/
theorem submit_eq (a : Area) (o : Nat) (b : List Word) :
    submit s a o b = { s with hank := (submit s a o b).hank, regs := (submit s a o b).regs } := by
  simp only [submit, enterOrder, Option.elim]
  split
  · rfl
  · split
    · rfl
    · split <;> rfl

/-- It keeps the registers canonical. -/
theorem submit_regs_wf (a : Area) (o : Nat) (b : List Word) (h : tabWf 0 s.regs = true) : tabWf 0 (submit s a o b).regs = true := by
  simp only [submit, enterOrder, Option.elim]
  split
  · exact h
  · split
    · exact h
    · split
      · exact countF_wf _ _ _ _ _ h
      · exact h

/-- The mill map lies in hub memory, and two registers describe it. -/
theorem publishMap_eq : publishMap s = { s with regs := (publishMap s).regs, hubMem := (publishMap s).hubMem } := by
  by_cases h : regF s rIdMmap 63 44 = 0
  · simp only [publishMap, if_pos h]
  · simp only [publishMap, if_neg h, setRegF, setReg, regPut]

@[simp] theorem submit_pending (a : Area) (o : Nat) (b : List Word) : (submit s a o b).pending = s.pending := by rw [submit_eq]
@[simp] theorem submit_integ (a : Area) (o : Nat) (b : List Word) : (submit s a o b).integ = s.integ := by rw [submit_eq]
@[simp] theorem submit_ht (a : Area) (o : Nat) (b : List Word) : (submit s a o b).ht = s.ht := by rw [submit_eq]
@[simp] theorem submit_areg (a : Area) (o : Nat) (b : List Word) : (submit s a o b).areg = s.areg := by rw [submit_eq]
@[simp] theorem submit_hubMem (a : Area) (o : Nat) (b : List Word) : (submit s a o b).hubMem = s.hubMem := by rw [submit_eq]
@[simp] theorem submit_mail (a : Area) (o : Nat) (b : List Word) : (submit s a o b).mail = s.mail := by rw [submit_eq]
@[simp] theorem submit_whorls (a : Area) (o : Nat) (b : List Word) : (submit s a o b).whorls = s.whorls := by rw [submit_eq]
@[simp] theorem submit_evPend (a : Area) (o : Nat) (b : List Word) : (submit s a o b).evPend = s.evPend := by rw [submit_eq]
@[simp] theorem submit_evCut (a : Area) (o : Nat) (b : List Word) : (submit s a o b).evCut = s.evCut := by rw [submit_eq]
@[simp] theorem submit_evXt (a : Area) (o : Nat) (b : List Word) : (submit s a o b).evXt = s.evXt := by rw [submit_eq]
@[simp] theorem submit_hubIrq (a : Area) (o : Nat) (b : List Word) : (submit s a o b).hubIrq = s.hubIrq := by rw [submit_eq]
@[simp] theorem submit_parts (a : Area) (o : Nat) (b : List Word) : (submit s a o b).parts = s.parts := by rw [submit_eq]
@[simp] theorem submit_rparts (a : Area) (o : Nat) (b : List Word) : (submit s a o b).rparts = s.rparts := by rw [submit_eq]
@[simp] theorem submit_regions (a : Area) (o : Nat) (b : List Word) : (submit s a o b).regions = s.regions := by rw [submit_eq]
@[simp] theorem submit_sites (a : Area) (o : Nat) (b : List Word) : (submit s a o b).sites = s.sites := by rw [submit_eq]
@[simp] theorem submit_flyers (a : Area) (o : Nat) (b : List Word) : (submit s a o b).flyers = s.flyers := by rw [submit_eq]
@[simp] theorem submit_spine (a : Area) (o : Nat) (b : List Word) : (submit s a o b).spine = s.spine := by rw [submit_eq]
@[simp] theorem submit_pulses (a : Area) (o : Nat) (b : List Word) : (submit s a o b).pulses = s.pulses := by rw [submit_eq]
@[simp] theorem submit_xqueues (a : Area) (o : Nat) (b : List Word) : (submit s a o b).xqueues = s.xqueues := by rw [submit_eq]
@[simp] theorem submit_smSent (a : Area) (o : Nat) (b : List Word) : (submit s a o b).smSent = s.smSent := by rw [submit_eq]
@[simp] theorem submit_smMarked (a : Area) (o : Nat) (b : List Word) : (submit s a o b).smMarked = s.smMarked := by rw [submit_eq]
@[simp] theorem submit_ops (a : Area) (o : Nat) (b : List Word) : (submit s a o b).ops = s.ops := by rw [submit_eq]
@[simp] theorem submit_arrivals (a : Area) (o : Nat) (b : List Word) : (submit s a o b).arrivals = s.arrivals := by rw [submit_eq]
@[simp] theorem submit_lateIds (a : Area) (o : Nat) (b : List Word) : (submit s a o b).lateIds = s.lateIds := by rw [submit_eq]
@[simp] theorem submit_funnel (a : Area) (o : Nat) (b : List Word) : (submit s a o b).funnel = s.funnel := by rw [submit_eq]
@[simp] theorem submit_buffer (a : Area) (o : Nat) (b : List Word) : (submit s a o b).buffer = s.buffer := by rw [submit_eq]
@[simp] theorem submit_lanes (a : Area) (o : Nat) (b : List Word) : (submit s a o b).lanes = s.lanes := by rw [submit_eq]
@[simp] theorem submit_master (a : Area) (o : Nat) (b : List Word) : (submit s a o b).master = s.master := by rw [submit_eq]
@[simp] theorem submit_ring (a : Area) (o : Nat) (b : List Word) : (submit s a o b).ring = s.ring := by rw [submit_eq]
@[simp] theorem submit_guestAos (a : Area) (o : Nat) (b : List Word) : (submit s a o b).guestAos = s.guestAos := by rw [submit_eq]
@[simp] theorem submit_hang (a : Area) (o : Nat) (b : List Word) : (submit s a o b).hang = s.hang := by rw [submit_eq]
@[simp] theorem submit_nands (a : Area) (o : Nat) (b : List Word) : (submit s a o b).nands = s.nands := by rw [submit_eq]
@[simp] theorem submit_time (a : Area) (o : Nat) (b : List Word) : (submit s a o b).time = s.time := by rw [submit_eq]
@[simp] theorem submit_elect (a : Area) (o : Nat) (b : List Word) : (submit s a o b).elect = s.elect := by rw [submit_eq]
@[simp] theorem submit_chans (a : Area) (o : Nat) (b : List Word) : (submit s a o b).chans = s.chans := by rw [submit_eq]
@[simp] theorem submit_routes (a : Area) (o : Nat) (b : List Word) : (submit s a o b).routes = s.routes := by rw [submit_eq]
@[simp] theorem submit_blockedNums (a : Area) (o : Nat) (b : List Word) : (submit s a o b).blockedNums = s.blockedNums := by rw [submit_eq]
@[simp] theorem submit_cutCount (a : Area) (o : Nat) (b : List Word) : (submit s a o b).cutCount = s.cutCount := by rw [submit_eq]
@[simp] theorem submit_knownCuts (a : Area) (o : Nat) (b : List Word) : (submit s a o b).knownCuts = s.knownCuts := by rw [submit_eq]
@[simp] theorem submit_twp (a : Area) (o : Nat) (b : List Word) : (submit s a o b).twp = s.twp := by rw [submit_eq]
@[simp] theorem submit_host (a : Area) (o : Nat) (b : List Word) : (submit s a o b).host = s.host := by rw [submit_eq]
@[simp] theorem submit_aga (a : Area) (o : Nat) (b : List Word) : (submit s a o b).aga = s.aga := by rw [submit_eq]
@[simp] theorem submit_unlock (a : Area) (o : Nat) (b : List Word) : (submit s a o b).unlock = s.unlock := by rw [submit_eq]
@[simp] theorem submit_boot (a : Area) (o : Nat) (b : List Word) : (submit s a o b).boot = s.boot := by rw [submit_eq]
@[simp] theorem submit_freeCtr (a : Area) (o : Nat) (b : List Word) : (submit s a o b).freeCtr = s.freeCtr := by rw [submit_eq]
@[simp] theorem submit_opCtr (a : Area) (o : Nat) (b : List Word) : (submit s a o b).opCtr = s.opCtr := by rw [submit_eq]

@[simp] theorem journal_pending (c a : Nat) (m : List Word) : (journal s c a m).pending = s.pending := submit_pending ..
@[simp] theorem journal_integ (c a : Nat) (m : List Word) : (journal s c a m).integ = s.integ := submit_integ ..
@[simp] theorem journal_ht (c a : Nat) (m : List Word) : (journal s c a m).ht = s.ht := submit_ht ..
@[simp] theorem journal_areg (c a : Nat) (m : List Word) : (journal s c a m).areg = s.areg := submit_areg ..
@[simp] theorem journal_hubMem (c a : Nat) (m : List Word) : (journal s c a m).hubMem = s.hubMem := submit_hubMem ..
@[simp] theorem journal_mail (c a : Nat) (m : List Word) : (journal s c a m).mail = s.mail := submit_mail ..
@[simp] theorem journal_whorls (c a : Nat) (m : List Word) : (journal s c a m).whorls = s.whorls := submit_whorls ..
@[simp] theorem journal_evPend (c a : Nat) (m : List Word) : (journal s c a m).evPend = s.evPend := submit_evPend ..
@[simp] theorem journal_evCut (c a : Nat) (m : List Word) : (journal s c a m).evCut = s.evCut := submit_evCut ..
@[simp] theorem journal_evXt (c a : Nat) (m : List Word) : (journal s c a m).evXt = s.evXt := submit_evXt ..
@[simp] theorem journal_hubIrq (c a : Nat) (m : List Word) : (journal s c a m).hubIrq = s.hubIrq := submit_hubIrq ..
@[simp] theorem journal_parts (c a : Nat) (m : List Word) : (journal s c a m).parts = s.parts := submit_parts ..
@[simp] theorem journal_rparts (c a : Nat) (m : List Word) : (journal s c a m).rparts = s.rparts := submit_rparts ..
@[simp] theorem journal_regions (c a : Nat) (m : List Word) : (journal s c a m).regions = s.regions := submit_regions ..
@[simp] theorem journal_sites (c a : Nat) (m : List Word) : (journal s c a m).sites = s.sites := submit_sites ..
@[simp] theorem journal_flyers (c a : Nat) (m : List Word) : (journal s c a m).flyers = s.flyers := submit_flyers ..
@[simp] theorem journal_spine (c a : Nat) (m : List Word) : (journal s c a m).spine = s.spine := submit_spine ..
@[simp] theorem journal_pulses (c a : Nat) (m : List Word) : (journal s c a m).pulses = s.pulses := submit_pulses ..
@[simp] theorem journal_xqueues (c a : Nat) (m : List Word) : (journal s c a m).xqueues = s.xqueues := submit_xqueues ..
@[simp] theorem journal_smSent (c a : Nat) (m : List Word) : (journal s c a m).smSent = s.smSent := submit_smSent ..
@[simp] theorem journal_smMarked (c a : Nat) (m : List Word) : (journal s c a m).smMarked = s.smMarked := submit_smMarked ..
@[simp] theorem journal_ops (c a : Nat) (m : List Word) : (journal s c a m).ops = s.ops := submit_ops ..
@[simp] theorem journal_arrivals (c a : Nat) (m : List Word) : (journal s c a m).arrivals = s.arrivals := submit_arrivals ..
@[simp] theorem journal_lateIds (c a : Nat) (m : List Word) : (journal s c a m).lateIds = s.lateIds := submit_lateIds ..
@[simp] theorem journal_funnel (c a : Nat) (m : List Word) : (journal s c a m).funnel = s.funnel := submit_funnel ..
@[simp] theorem journal_buffer (c a : Nat) (m : List Word) : (journal s c a m).buffer = s.buffer := submit_buffer ..
@[simp] theorem journal_lanes (c a : Nat) (m : List Word) : (journal s c a m).lanes = s.lanes := submit_lanes ..
@[simp] theorem journal_master (c a : Nat) (m : List Word) : (journal s c a m).master = s.master := submit_master ..
@[simp] theorem journal_ring (c a : Nat) (m : List Word) : (journal s c a m).ring = s.ring := submit_ring ..
@[simp] theorem journal_guestAos (c a : Nat) (m : List Word) : (journal s c a m).guestAos = s.guestAos := submit_guestAos ..
@[simp] theorem journal_hang (c a : Nat) (m : List Word) : (journal s c a m).hang = s.hang := submit_hang ..
@[simp] theorem journal_nands (c a : Nat) (m : List Word) : (journal s c a m).nands = s.nands := submit_nands ..
@[simp] theorem journal_time (c a : Nat) (m : List Word) : (journal s c a m).time = s.time := submit_time ..
@[simp] theorem journal_elect (c a : Nat) (m : List Word) : (journal s c a m).elect = s.elect := submit_elect ..
@[simp] theorem journal_chans (c a : Nat) (m : List Word) : (journal s c a m).chans = s.chans := submit_chans ..
@[simp] theorem journal_routes (c a : Nat) (m : List Word) : (journal s c a m).routes = s.routes := submit_routes ..
@[simp] theorem journal_blockedNums (c a : Nat) (m : List Word) : (journal s c a m).blockedNums = s.blockedNums := submit_blockedNums ..
@[simp] theorem journal_cutCount (c a : Nat) (m : List Word) : (journal s c a m).cutCount = s.cutCount := submit_cutCount ..
@[simp] theorem journal_knownCuts (c a : Nat) (m : List Word) : (journal s c a m).knownCuts = s.knownCuts := submit_knownCuts ..
@[simp] theorem journal_twp (c a : Nat) (m : List Word) : (journal s c a m).twp = s.twp := submit_twp ..
@[simp] theorem journal_host (c a : Nat) (m : List Word) : (journal s c a m).host = s.host := submit_host ..
@[simp] theorem journal_aga (c a : Nat) (m : List Word) : (journal s c a m).aga = s.aga := submit_aga ..
@[simp] theorem journal_unlock (c a : Nat) (m : List Word) : (journal s c a m).unlock = s.unlock := submit_unlock ..
@[simp] theorem journal_boot (c a : Nat) (m : List Word) : (journal s c a m).boot = s.boot := submit_boot ..
@[simp] theorem journal_freeCtr (c a : Nat) (m : List Word) : (journal s c a m).freeCtr = s.freeCtr := submit_freeCtr ..
@[simp] theorem journal_opCtr (c a : Nat) (m : List Word) : (journal s c a m).opCtr = s.opCtr := submit_opCtr ..

@[simp] theorem addCounter_pending (i v : Nat) : (addCounter s i v).pending = s.pending := submit_pending ..
@[simp] theorem addCounter_integ (i v : Nat) : (addCounter s i v).integ = s.integ := submit_integ ..
@[simp] theorem addCounter_ht (i v : Nat) : (addCounter s i v).ht = s.ht := submit_ht ..
@[simp] theorem addCounter_areg (i v : Nat) : (addCounter s i v).areg = s.areg := submit_areg ..
@[simp] theorem addCounter_hubMem (i v : Nat) : (addCounter s i v).hubMem = s.hubMem := submit_hubMem ..
@[simp] theorem addCounter_mail (i v : Nat) : (addCounter s i v).mail = s.mail := submit_mail ..
@[simp] theorem addCounter_whorls (i v : Nat) : (addCounter s i v).whorls = s.whorls := submit_whorls ..
@[simp] theorem addCounter_evPend (i v : Nat) : (addCounter s i v).evPend = s.evPend := submit_evPend ..
@[simp] theorem addCounter_evCut (i v : Nat) : (addCounter s i v).evCut = s.evCut := submit_evCut ..
@[simp] theorem addCounter_evXt (i v : Nat) : (addCounter s i v).evXt = s.evXt := submit_evXt ..
@[simp] theorem addCounter_hubIrq (i v : Nat) : (addCounter s i v).hubIrq = s.hubIrq := submit_hubIrq ..
@[simp] theorem addCounter_parts (i v : Nat) : (addCounter s i v).parts = s.parts := submit_parts ..
@[simp] theorem addCounter_rparts (i v : Nat) : (addCounter s i v).rparts = s.rparts := submit_rparts ..
@[simp] theorem addCounter_regions (i v : Nat) : (addCounter s i v).regions = s.regions := submit_regions ..
@[simp] theorem addCounter_sites (i v : Nat) : (addCounter s i v).sites = s.sites := submit_sites ..
@[simp] theorem addCounter_flyers (i v : Nat) : (addCounter s i v).flyers = s.flyers := submit_flyers ..
@[simp] theorem addCounter_spine (i v : Nat) : (addCounter s i v).spine = s.spine := submit_spine ..
@[simp] theorem addCounter_pulses (i v : Nat) : (addCounter s i v).pulses = s.pulses := submit_pulses ..
@[simp] theorem addCounter_xqueues (i v : Nat) : (addCounter s i v).xqueues = s.xqueues := submit_xqueues ..
@[simp] theorem addCounter_smSent (i v : Nat) : (addCounter s i v).smSent = s.smSent := submit_smSent ..
@[simp] theorem addCounter_smMarked (i v : Nat) : (addCounter s i v).smMarked = s.smMarked := submit_smMarked ..
@[simp] theorem addCounter_ops (i v : Nat) : (addCounter s i v).ops = s.ops := submit_ops ..
@[simp] theorem addCounter_arrivals (i v : Nat) : (addCounter s i v).arrivals = s.arrivals := submit_arrivals ..
@[simp] theorem addCounter_lateIds (i v : Nat) : (addCounter s i v).lateIds = s.lateIds := submit_lateIds ..
@[simp] theorem addCounter_funnel (i v : Nat) : (addCounter s i v).funnel = s.funnel := submit_funnel ..
@[simp] theorem addCounter_buffer (i v : Nat) : (addCounter s i v).buffer = s.buffer := submit_buffer ..
@[simp] theorem addCounter_lanes (i v : Nat) : (addCounter s i v).lanes = s.lanes := submit_lanes ..
@[simp] theorem addCounter_master (i v : Nat) : (addCounter s i v).master = s.master := submit_master ..
@[simp] theorem addCounter_ring (i v : Nat) : (addCounter s i v).ring = s.ring := submit_ring ..
@[simp] theorem addCounter_guestAos (i v : Nat) : (addCounter s i v).guestAos = s.guestAos := submit_guestAos ..
@[simp] theorem addCounter_hang (i v : Nat) : (addCounter s i v).hang = s.hang := submit_hang ..
@[simp] theorem addCounter_nands (i v : Nat) : (addCounter s i v).nands = s.nands := submit_nands ..
@[simp] theorem addCounter_time (i v : Nat) : (addCounter s i v).time = s.time := submit_time ..
@[simp] theorem addCounter_elect (i v : Nat) : (addCounter s i v).elect = s.elect := submit_elect ..
@[simp] theorem addCounter_chans (i v : Nat) : (addCounter s i v).chans = s.chans := submit_chans ..
@[simp] theorem addCounter_routes (i v : Nat) : (addCounter s i v).routes = s.routes := submit_routes ..
@[simp] theorem addCounter_blockedNums (i v : Nat) : (addCounter s i v).blockedNums = s.blockedNums := submit_blockedNums ..
@[simp] theorem addCounter_cutCount (i v : Nat) : (addCounter s i v).cutCount = s.cutCount := submit_cutCount ..
@[simp] theorem addCounter_knownCuts (i v : Nat) : (addCounter s i v).knownCuts = s.knownCuts := submit_knownCuts ..
@[simp] theorem addCounter_twp (i v : Nat) : (addCounter s i v).twp = s.twp := submit_twp ..
@[simp] theorem addCounter_host (i v : Nat) : (addCounter s i v).host = s.host := submit_host ..
@[simp] theorem addCounter_aga (i v : Nat) : (addCounter s i v).aga = s.aga := submit_aga ..
@[simp] theorem addCounter_unlock (i v : Nat) : (addCounter s i v).unlock = s.unlock := submit_unlock ..
@[simp] theorem addCounter_boot (i v : Nat) : (addCounter s i v).boot = s.boot := submit_boot ..
@[simp] theorem addCounter_freeCtr (i v : Nat) : (addCounter s i v).freeCtr = s.freeCtr := submit_freeCtr ..
@[simp] theorem addCounter_opCtr (i v : Nat) : (addCounter s i v).opCtr = s.opCtr := submit_opCtr ..

@[simp] theorem publishMap_pending : (publishMap s).pending = s.pending := by rw [publishMap_eq]
@[simp] theorem publishMap_integ : (publishMap s).integ = s.integ := by rw [publishMap_eq]
@[simp] theorem publishMap_ht : (publishMap s).ht = s.ht := by rw [publishMap_eq]
@[simp] theorem publishMap_areg : (publishMap s).areg = s.areg := by rw [publishMap_eq]
@[simp] theorem publishMap_mail : (publishMap s).mail = s.mail := by rw [publishMap_eq]
@[simp] theorem publishMap_whorls : (publishMap s).whorls = s.whorls := by rw [publishMap_eq]
@[simp] theorem publishMap_evPend : (publishMap s).evPend = s.evPend := by rw [publishMap_eq]
@[simp] theorem publishMap_evCut : (publishMap s).evCut = s.evCut := by rw [publishMap_eq]
@[simp] theorem publishMap_evXt : (publishMap s).evXt = s.evXt := by rw [publishMap_eq]
@[simp] theorem publishMap_hubIrq : (publishMap s).hubIrq = s.hubIrq := by rw [publishMap_eq]
@[simp] theorem publishMap_parts : (publishMap s).parts = s.parts := by rw [publishMap_eq]
@[simp] theorem publishMap_rparts : (publishMap s).rparts = s.rparts := by rw [publishMap_eq]
@[simp] theorem publishMap_regions : (publishMap s).regions = s.regions := by rw [publishMap_eq]
@[simp] theorem publishMap_sites : (publishMap s).sites = s.sites := by rw [publishMap_eq]
@[simp] theorem publishMap_flyers : (publishMap s).flyers = s.flyers := by rw [publishMap_eq]
@[simp] theorem publishMap_spine : (publishMap s).spine = s.spine := by rw [publishMap_eq]
@[simp] theorem publishMap_pulses : (publishMap s).pulses = s.pulses := by rw [publishMap_eq]
@[simp] theorem publishMap_xqueues : (publishMap s).xqueues = s.xqueues := by rw [publishMap_eq]
@[simp] theorem publishMap_smSent : (publishMap s).smSent = s.smSent := by rw [publishMap_eq]
@[simp] theorem publishMap_smMarked : (publishMap s).smMarked = s.smMarked := by rw [publishMap_eq]
@[simp] theorem publishMap_ops : (publishMap s).ops = s.ops := by rw [publishMap_eq]
@[simp] theorem publishMap_arrivals : (publishMap s).arrivals = s.arrivals := by rw [publishMap_eq]
@[simp] theorem publishMap_lateIds : (publishMap s).lateIds = s.lateIds := by rw [publishMap_eq]
@[simp] theorem publishMap_funnel : (publishMap s).funnel = s.funnel := by rw [publishMap_eq]
@[simp] theorem publishMap_buffer : (publishMap s).buffer = s.buffer := by rw [publishMap_eq]
@[simp] theorem publishMap_lanes : (publishMap s).lanes = s.lanes := by rw [publishMap_eq]
@[simp] theorem publishMap_master : (publishMap s).master = s.master := by rw [publishMap_eq]
@[simp] theorem publishMap_ring : (publishMap s).ring = s.ring := by rw [publishMap_eq]
@[simp] theorem publishMap_guestAos : (publishMap s).guestAos = s.guestAos := by rw [publishMap_eq]
@[simp] theorem publishMap_hang : (publishMap s).hang = s.hang := by rw [publishMap_eq]
@[simp] theorem publishMap_hank : (publishMap s).hank = s.hank := by rw [publishMap_eq]
@[simp] theorem publishMap_nands : (publishMap s).nands = s.nands := by rw [publishMap_eq]
@[simp] theorem publishMap_time : (publishMap s).time = s.time := by rw [publishMap_eq]
@[simp] theorem publishMap_elect : (publishMap s).elect = s.elect := by rw [publishMap_eq]
@[simp] theorem publishMap_chans : (publishMap s).chans = s.chans := by rw [publishMap_eq]
@[simp] theorem publishMap_routes : (publishMap s).routes = s.routes := by rw [publishMap_eq]
@[simp] theorem publishMap_blockedNums : (publishMap s).blockedNums = s.blockedNums := by rw [publishMap_eq]
@[simp] theorem publishMap_cutCount : (publishMap s).cutCount = s.cutCount := by rw [publishMap_eq]
@[simp] theorem publishMap_knownCuts : (publishMap s).knownCuts = s.knownCuts := by rw [publishMap_eq]
@[simp] theorem publishMap_twp : (publishMap s).twp = s.twp := by rw [publishMap_eq]
@[simp] theorem publishMap_host : (publishMap s).host = s.host := by rw [publishMap_eq]
@[simp] theorem publishMap_aga : (publishMap s).aga = s.aga := by rw [publishMap_eq]
@[simp] theorem publishMap_unlock : (publishMap s).unlock = s.unlock := by rw [publishMap_eq]
@[simp] theorem publishMap_boot : (publishMap s).boot = s.boot := by rw [publishMap_eq]
@[simp] theorem publishMap_freeCtr : (publishMap s).freeCtr = s.freeCtr := by rw [publishMap_eq]
@[simp] theorem publishMap_opCtr : (publishMap s).opCtr = s.opCtr := by rw [publishMap_eq]

@[simp] theorem healthChange_pending (k u : Nat) (l : Bool) : (healthChange s k u l).pending = s.pending := by simp [healthChange]
@[simp] theorem healthChange_integ (k u : Nat) (l : Bool) : (healthChange s k u l).integ = s.integ := by simp [healthChange]
@[simp] theorem healthChange_ht (k u : Nat) (l : Bool) : (healthChange s k u l).ht = s.ht := by simp [healthChange]
@[simp] theorem healthChange_areg (k u : Nat) (l : Bool) : (healthChange s k u l).areg = s.areg := by simp [healthChange]
@[simp] theorem healthChange_mail (k u : Nat) (l : Bool) : (healthChange s k u l).mail = s.mail := by simp [healthChange]
@[simp] theorem healthChange_whorls (k u : Nat) (l : Bool) : (healthChange s k u l).whorls = s.whorls := by simp [healthChange]
@[simp] theorem healthChange_evCut (k u : Nat) (l : Bool) : (healthChange s k u l).evCut = s.evCut := by simp [healthChange]
@[simp] theorem healthChange_evXt (k u : Nat) (l : Bool) : (healthChange s k u l).evXt = s.evXt := by simp [healthChange]
@[simp] theorem healthChange_parts (k u : Nat) (l : Bool) : (healthChange s k u l).parts = s.parts := by simp [healthChange]
@[simp] theorem healthChange_rparts (k u : Nat) (l : Bool) : (healthChange s k u l).rparts = s.rparts := by simp [healthChange]
@[simp] theorem healthChange_regions (k u : Nat) (l : Bool) : (healthChange s k u l).regions = s.regions := by simp [healthChange]
@[simp] theorem healthChange_sites (k u : Nat) (l : Bool) : (healthChange s k u l).sites = s.sites := by simp [healthChange]
@[simp] theorem healthChange_flyers (k u : Nat) (l : Bool) : (healthChange s k u l).flyers = s.flyers := by simp [healthChange]
@[simp] theorem healthChange_spine (k u : Nat) (l : Bool) : (healthChange s k u l).spine = s.spine := by simp [healthChange]
@[simp] theorem healthChange_pulses (k u : Nat) (l : Bool) : (healthChange s k u l).pulses = s.pulses := by simp [healthChange]
@[simp] theorem healthChange_xqueues (k u : Nat) (l : Bool) : (healthChange s k u l).xqueues = s.xqueues := by simp [healthChange]
@[simp] theorem healthChange_smSent (k u : Nat) (l : Bool) : (healthChange s k u l).smSent = s.smSent := by simp [healthChange]
@[simp] theorem healthChange_smMarked (k u : Nat) (l : Bool) : (healthChange s k u l).smMarked = s.smMarked := by simp [healthChange]
@[simp] theorem healthChange_ops (k u : Nat) (l : Bool) : (healthChange s k u l).ops = s.ops := by simp [healthChange]
@[simp] theorem healthChange_arrivals (k u : Nat) (l : Bool) : (healthChange s k u l).arrivals = s.arrivals := by simp [healthChange]
@[simp] theorem healthChange_lateIds (k u : Nat) (l : Bool) : (healthChange s k u l).lateIds = s.lateIds := by simp [healthChange]
@[simp] theorem healthChange_lanes (k u : Nat) (l : Bool) : (healthChange s k u l).lanes = s.lanes := by simp [healthChange]
@[simp] theorem healthChange_master (k u : Nat) (l : Bool) : (healthChange s k u l).master = s.master := by simp [healthChange]
@[simp] theorem healthChange_ring (k u : Nat) (l : Bool) : (healthChange s k u l).ring = s.ring := by simp [healthChange]
@[simp] theorem healthChange_guestAos (k u : Nat) (l : Bool) : (healthChange s k u l).guestAos = s.guestAos := by simp [healthChange]
@[simp] theorem healthChange_hang (k u : Nat) (l : Bool) : (healthChange s k u l).hang = s.hang := by simp [healthChange]
@[simp] theorem healthChange_nands (k u : Nat) (l : Bool) : (healthChange s k u l).nands = s.nands := by simp [healthChange]
@[simp] theorem healthChange_time (k u : Nat) (l : Bool) : (healthChange s k u l).time = s.time := by simp [healthChange]
@[simp] theorem healthChange_elect (k u : Nat) (l : Bool) : (healthChange s k u l).elect = s.elect := by simp [healthChange]
@[simp] theorem healthChange_chans (k u : Nat) (l : Bool) : (healthChange s k u l).chans = s.chans := by simp [healthChange]
@[simp] theorem healthChange_routes (k u : Nat) (l : Bool) : (healthChange s k u l).routes = s.routes := by simp [healthChange]
@[simp] theorem healthChange_blockedNums (k u : Nat) (l : Bool) : (healthChange s k u l).blockedNums = s.blockedNums := by simp [healthChange]
@[simp] theorem healthChange_cutCount (k u : Nat) (l : Bool) : (healthChange s k u l).cutCount = s.cutCount := by simp [healthChange]
@[simp] theorem healthChange_knownCuts (k u : Nat) (l : Bool) : (healthChange s k u l).knownCuts = s.knownCuts := by simp [healthChange]
@[simp] theorem healthChange_twp (k u : Nat) (l : Bool) : (healthChange s k u l).twp = s.twp := by simp [healthChange]
@[simp] theorem healthChange_host (k u : Nat) (l : Bool) : (healthChange s k u l).host = s.host := by simp [healthChange]
@[simp] theorem healthChange_aga (k u : Nat) (l : Bool) : (healthChange s k u l).aga = s.aga := by simp [healthChange]
@[simp] theorem healthChange_unlock (k u : Nat) (l : Bool) : (healthChange s k u l).unlock = s.unlock := by simp [healthChange]
@[simp] theorem healthChange_boot (k u : Nat) (l : Bool) : (healthChange s k u l).boot = s.boot := by simp [healthChange]
@[simp] theorem healthChange_freeCtr (k u : Nat) (l : Bool) : (healthChange s k u l).freeCtr = s.freeCtr := by simp [healthChange]
@[simp] theorem healthChange_opCtr (k u : Nat) (l : Bool) : (healthChange s k u l).opCtr = s.opCtr := by simp [healthChange]

/-- A health change raises line 5 for every reader and keeps the copies canonical. -/
theorem healthChange_line (k u : Nat) (l : Bool) (r : Nat) (h : tabWf 0 s.evPend = true) (hr : r < 9) :
    (tget 0 (healthChange s k u l).evPend r).getLsbD 5 = true ∧ tabWf 0 (healthChange s k u l).evPend = true := by
  have e : (healthChange s k u l).evPend = (raiseLine (setRegF s rHltGen 31 0 (regF s rHltGen 31 0 + 1)) 5).evPend := by
    simp [healthChange]
  rw [e]
  exact ⟨raiseLine_set _ _ _ (by simpa using h) (by omega) hr, raiseLine_wf _ _ (by simpa using h)⟩

/-- Where a record goes depends on the funnel alone. -/
theorem pushLocal_congr (t : State) (r : Rec) (h : s.funnel = t.funnel) : (pushLocal s r).funnel = (pushLocal t r).funnel := by
  have e : localFits s r = localFits t r := by rw [localFits, localFits, h]
  have f : heldFull s r = heldFull t r := by rw [heldFull, heldFull, h]
  by_cases a : t.funnel.held = [] ∧ localFits t r = true
  · simp only [pushLocal, h, e, if_pos a]
  · by_cases g : heldFull t r = true
    · simp only [pushLocal, h, e, f, if_neg a, if_pos g]
    · simp only [pushLocal, h, e, f, if_neg a, if_neg g]

/-- A health change's record. -/
theorem healthChange_funnel (k u : Nat) (l : Bool) :
    (healthChange s k u l).funnel = (hevt s 0xB00 (k + u * 2 ^ 8) [word (b2n l)]).funnel := by
  simp only [healthChange, publishMap_funnel, journal_funnel, hevt, raiseLine_ht, setRegF_ht]
  exact pushLocal_congr _ _ _ (by simp)

end Sys2Proof.Machine
end

