-- ==== Sys2Proof/Laws/Whorls.lean ====
section
/-! SUPPORT. What an instruction of a Whorl can do: it is not fetched, it stalls, or it has its effect. -/

namespace Sys2Proof.Machine

/-- A Whorl that executes an instruction has the instruction's effect. -/
theorem insn_executes (s : State) (w : Nat) (rs : List Nat) (f : Whorl → State) (h : Executes s w rs) :
    insn s w rs f = .next (f (getW s w)) := by
  obtain ⟨h1, h2, h3⟩ := h
  simp [insn, h1, h2, h3, ok]

/-- A Whorl that is not RUNNING executes nothing. -/
theorem insn_idle (s : State) (w : Nat) (rs : List Nat) (f : Whorl → State) (h : (getW s w).st ≠ .running) :
    insn s w rs f = .next s := by
  simp [insn, h, ok]

/-- A fetch outside the code faults FETCH at the pc. -/
theorem insn_fetch (s : State) (w : Nat) (rs : List Nat) (f : Whorl → State) (h : (getW s w).st = .running)
    (hc : codeAt (getW s w) = false) :
    insn s w rs f = .next (whorlFault s w .fetch ((getW s w).pc.setWidth 64)) := by
  simp [insn, h, hc, ok]

/-- A register that waits for a result stalls the instruction. -/
theorem insn_busy (s : State) (w : Nat) (rs : List Nat) (f : Whorl → State) (h : (getW s w).st = .running)
    (hc : codeAt (getW s w) = true) (hb : rs.any (busy (getW s w)) = true) : insn s w rs f = .next s := by
  simp [insn, h, hc, hb, ok]

/-- Every instruction answers a next state: its own, a FETCH fault's, or the state itself. -/
theorem insn_next (s : State) (w : Nat) (rs : List Nat) (f : Whorl → State) (t : State) (h : insn s w rs f = .next t) :
    t = s ∨ t = whorlFault s w .fetch ((getW s w).pc.setWidth 64) ∨ t = f (getW s w) := by
  simp only [insn, ok] at h
  split at h
  · left; simpa using h.symm
  · split at h
    · right; left; simpa using h.symm
    · split at h
      · left; simpa using h.symm
      · right; right; simpa using h.symm

/-- A Whorl that is RUNNING is listed. -/
theorem ne_fresh_of_running (x : Whorl) (h : x.st = .running) : x ≠ Whorl.fresh := by
  intro he; rw [he] at h; cases h

/-- A table entry replaced twice, neither time by the default. -/
theorem tput_tput {α : Type} [DecidableEq α] (d : α) (t : Tab α) (k : Nat) (a b : α) (ha : a ≠ d) (hb : b ≠ d) :
    tput d (tput d t k a) k b = tput d t k b := by
  induction t with
  | nil => simp [tput, ha, hb]
  | cons e t ih =>
    simp only [tput, ha, hb, if_false]
    split
    · simp [tput, hb]
    · split
      · simp [tput, hb]
      next h1 h2 => simp [tput, h1, h2, ih]

/-- A Whorl that is not in its reset state, read after it is replaced. -/
theorem getW_setW_self (s : State) (w : Nat) (x : Whorl) (h : x ≠ Whorl.fresh) : getW (setW s w x) w = x :=
  tget_tput_self _ _ _ _ h

/-- A Whorl replaced twice. -/
theorem setW_setW (s : State) (w : Nat) (x y : Whorl) (hx : x ≠ Whorl.fresh) (hy : y ≠ Whorl.fresh) :
    setW (setW s w x) w y = setW s w y := by
  simp [setW, tput_tput _ _ _ _ _ hx hy]

/-- Writing a general register leaves the pc, the state and every other register. -/
@[simp] theorem setG_pc (x : Whorl) (r : Nat) (v : Word) : (setG x r v).pc = x.pc := by unfold setG; split <;> rfl
@[simp] theorem setG_st (x : Whorl) (r : Nat) (v : Word) : (setG x r v).st = x.st := by unfold setG; split <;> rfl
@[simp] theorem setG_sr (x : Whorl) (r : Nat) (v : Word) : (setG x r v).sr = x.sr := by unfold setG; split <;> rfl
@[simp] theorem setG_dl (x : Whorl) (r : Nat) (v : Word) : (setG x r v).dl = x.dl := by unfold setG; split <;> rfl
@[simp] theorem setG_timers (x : Whorl) (r : Nat) (v : Word) : (setG x r v).timers = x.timers := by unfold setG; split <;> rfl
@[simp] theorem setG_tk (x : Whorl) (r : Nat) (v : Word) : (setG x r v).tk = x.tk := by unfold setG; split <;> rfl
@[simp] theorem setG_leases (x : Whorl) (r : Nat) (v : Word) : (setG x r v).leases = x.leases := by unfold setG; split <;> rfl
@[simp] theorem setG_ls (x : Whorl) (r : Nat) (v : Word) : (setG x r v).ls = x.ls := by unfold setG; split <;> rfl

/-- g0 reads 0 (Table 9.1). -/
@[simp] theorem gReg_zero (x : Whorl) : gReg x 0 = 0 := rfl

/-- A general register after a write. -/
theorem gReg_setG (x : Whorl) (r q : Nat) (v : Word) (h : tabWf 0 x.g = true) :
    gReg (setG x r v) q = if q = r ∧ r ≠ 0 then v else gReg x q := by
  unfold gReg setG
  by_cases hr : r = 0
  · simp [hr]
  · by_cases hq : q = 0
    · subst hq; simp [Ne.symm hr]
    · simp only [hq, hr, if_false, tget_tput _ _ _ _ _ h, ne_eq, not_false_eq_true, and_true]

end Sys2Proof.Machine
end

