-- ==== Sys2Proof/Tests/Slice0.lean ====
section
/-! SUPPORT. The model on small states: a witness for the hypotheses of every statement with what it then says, the spec's worked
examples, and a term that each check of WellFormed refuses. -/

namespace Sys2Proof.Tests

set_option Elab.async false

open Sys2Proof Sys2Proof.Machine

/-- An outcome is a next state that meets a test. -/
def nextIs (o : Host.Outcome State Fault Refusal) (p : State → Bool) : Bool :=
  match o with
  | .next t => p t
  | _ => false

/-- An outcome is this next state. -/
def isNext (o : Host.Outcome State Fault Refusal) (t : State) : Bool := nextIs o fun u => decide (u = t)

/-- Executes, as a test. -/
def runs (s : State) (w : Nat) (rs : List Nat) : Bool :=
  decide ((getW s w).st = .running) && codeAt (getW s w) && !rs.any (busy (getW s w))

/-- The test says what Executes says. -/
theorem runs_executes (s : State) (w : Nat) (rs : List Nat) (h : runs s w rs = true) : Executes s w rs := by
  simp only [runs, Bool.and_eq_true, decide_eq_true_eq, Bool.not_eq_true'] at h
  exact ⟨h.1.1, h.1.2, h.2⟩

/-- A line is set in the copy of every reader, as a test. -/
def lineUp (t : State) (n : Nat) : Bool := (List.range 9).all fun k => bit (tget 0 t.evPend k) n

/-- A Whorl that runs a program of 16 instructions with ROOT rights. -/
def whorl (g : Tab Word) : Whorl :=
  { Whorl.fresh with st := .running, pc := 0x1000000, codeBytes := 64, session := true, g := g }

/-- The reset state with Whorl 0 in some state. -/
def with0 (x : Whorl) : State := setW State.reset 0 x

/-- A set that names one logical core (Table 9.6). -/
def one (c : Nat) : BitVec 128 := BitVec.ofNat 128 (4 * 2 ^ 124 + c)

end Sys2Proof.Tests

namespace Sys2Proof.Tests

set_option Elab.async false

open Sys2Proof Sys2Proof.Machine

/-! ### Lopra words (the worked examples of chapters 9 and 10) -/

theorem test_lopra_words :
    lopra 3 0x04A007D0 = some (.addi 3 5 0 2000) ∧ lopra 3 0x60050180 = some (.setdl 3 5) ∧
    lopra 3 0x85225401 = some (.agr 3 9 2 10 0x80 .or) ∧ lopra 3 0x04C00001 = some (.addi 3 6 0 1) ∧
    lopra 3 0x00C64805 = some (.alu 3 .sll 6 6 9) ∧ lopra 3 0x69660000 = some (.wait 3 11 6 0 0) ∧
    lopra 2 0x1EC14000 = some (.insh 2 22 1 0x4000) ∧ lopra 2 0x6960B080 = some (.wait 2 11 0 22 1) ∧
    lopra 2 0x89940000 = some (.halt 2 12 20) ∧ lopra 6 0x85433407 = some (.agr 6 10 3 6 0x80 .collect) := by decide +kernel

theorem test_lopra_reserved :
    lopra 0 0x00000013 = none ∧ lopra 0 0x00000810 = none ∧ lopra 0 0x6C000000 = none ∧ lopra 0 0x60000400 = none ∧
    lopra 0 0x60200000 = none ∧ lopra 0 0x80100000 = none ∧ lopra 0 0xA8000400 = none := by decide +kernel

theorem test_load_check_4 :
    wordLoads 4 3 0x40000000 = false ∧ wordLoads 4 2 0x40000000 = true ∧ wordLoads 4 3 0x4000FFFC = true ∧
    wordLoads 4 3 0x4000FFFB = false ∧ wordLoads 4 0 0x68000000 = false ∧ wordLoads 4 0 0x68000080 = true := by decide +kernel

/-! ### Steps and reset -/

/-- Whorl 0 runs with g1 5 and g2 7, at hub time 100. -/
def s0 : State := { with0 (whorl [(1, 5), (2, 7)]) with ht := 100 }

theorem test_step_front :
    isNext (step { s0 with pending := [.nop 0, .nop 1] }) { setW s0 0 (advance (getW s0 0)) with pending := [.nop 1] } = true ∧
    isNext (step s0) { s0 with ht := 101 } = true := by decide +kernel

theorem test_reset_canonical : canonical State.reset = true ∧ canonical s0 = true := by decide +kernel

/-! ### Registers, branches, timers -/

theorem test_register_witness : Executes s0 0 [3, 1, 2] ∧ Executes s0 0 [] ∧ Executes s0 0 [31] :=
  ⟨runs_executes _ _ _ (by decide +kernel), runs_executes _ _ _ (by decide +kernel), runs_executes _ _ _ (by decide +kernel)⟩

theorem test_alu_values :
    aluOp .sub 5 7 = BitVec.ofInt 64 (-2) ∧ aluOp .mulhu (BitVec.allOnes 64) 3 = 2 ∧ aluOp .sll 1 0x43 = 8 ∧
    aluOp .sra 0x8000000000000000 63 = BitVec.allOnes 64 ∧ aluOp .slt (BitVec.allOnes 64) 0 = 1 ∧
    aluOp .sltu (BitVec.allOnes 64) 0 = 0 ∧ aluOp .min (BitVec.allOnes 64) 0 = BitVec.allOnes 64 ∧
    aluOp .maxu (BitVec.allOnes 64) 0 = BitVec.allOnes 64 ∧ aluOp .clz 0 0 = 64 ∧ aluOp .ctz 0x10 0 = 4 ∧ aluOp .clz 1 0 = 63 ∧
    aluOp .popc 0xF0F 0 = 8 := by decide +kernel

theorem test_alu : isNext (exec (.alu 0 .sub 3 1 2) s0) (setW s0 0
    { whorl [(1, 5), (2, 7), (3, BitVec.ofInt 64 (-2))] with pc := 0x1000004 }) = true := by decide +kernel

theorem test_immediates :
    nextIs (exec (.addi 0 3 1 0xFFFF) s0) (fun t => gReg (getW t 0) 3 == 4) = true ∧
    nextIs (exec (.andi 0 3 1 0xFFFC) s0) (fun t => gReg (getW t 0) 3 == 4) = true ∧
    nextIs (exec (.ori 0 3 1 0x8000) s0) (fun t => gReg (getW t 0) 3 == 0x8005) = true ∧
    nextIs (exec (.xori 0 3 1 0xFFFF) s0) (fun t => gReg (getW t 0) 3 == 0xFFFA) = true ∧
    nextIs (exec (.slti 0 3 1 0xFFFF) s0) (fun t => gReg (getW t 0) 3 == 0) = true ∧
    nextIs (exec (.sltiu 0 3 1 0xFFFF) s0) (fun t => gReg (getW t 0) 3 == 1) = true ∧
    nextIs (exec (.insh 0 1 3 0x4000) s0) (fun t => gReg (getW t 0) 1 == 0x4000000000000005) = true := by decide +kernel

theorem test_g0_discards : isNext (exec (.addi 0 0 1 9) s0) (setW s0 0 { whorl [(1, 5), (2, 7)] with pc := 0x1000004 }) = true := by
  decide +kernel

theorem test_branches :
    nextIs (exec (.beq 0 1 1 0xFFFE) s0) (fun t => (getW t 0).pc == 0x0FFFFFC) = true ∧
    nextIs (exec (.bne 0 1 1 0xFFFE) s0) (fun t => (getW t 0).pc == 0x1000004) = true ∧
    nextIs (exec (.blt 0 1 2 1) s0) (fun t => (getW t 0).pc == 0x1000008) = true ∧
    nextIs (exec (.bge 0 1 2 1) s0) (fun t => (getW t 0).pc == 0x1000004) = true ∧
    nextIs (exec (.bltu 0 2 1 1) s0) (fun t => (getW t 0).pc == 0x1000004) = true ∧
    nextIs (exec (.bgeu 0 2 1 3) s0) (fun t => (getW t 0).pc == 0x1000010) = true ∧
    nextIs (exec (.j 0 0x3FFFFFF) s0) (fun t => (getW t 0).pc == 0x1000000) = true ∧
    nextIs (exec (.jal 0 2) s0) (fun t => (getW t 0).pc == 0x100000C && gReg (getW t 0) 31 == 0x1000004) = true ∧
    nextIs (exec (.jr 0 1) s0) (fun t => (getW t 0).pc == 5) = true ∧
    nextIs (exec (.jalr 0 1 1) s0) (fun t => (getW t 0).pc == 5 && gReg (getW t 0) 1 == 0x1000004) = true := by decide +kernel

theorem test_fetch_faults : nextIs (exec (.nop 0) (with0 { whorl [] with pc := 0x1000040 })) (fun t =>
    (getW t 0).st == .fault && (getW t 0).fcode == 1 && (getW t 0).faddr == 0x1000040 && lineUp t 6) = true := by decide +kernel

/-- Whorl 0 has timers 0, expired, and 3, and tickets 2 (DONE TIMEOUT), 5 (PENDING) and 63 (a SEND). -/
def s1 : State :=
  { with0 { whorl [(1, 99), (2, 2), (4, 5)] with
      timers := [(0, ⟨some 50, true⟩), (3, ⟨some 500, false⟩)]
      tk := [(2, { Ticket.fresh with st := .done, status := .timeout, count := 0xFFFFFFFF }),
             (5, { Ticket.fresh with st := .pending, dl := some 400, opId := 9, result := some 7 }),
             (63, { Ticket.fresh with st := .pending, kind := .send })] } with ht := 100, evPend := [(0, 0x10040), (8, 0x40)] }

theorem test_timer_instructions : runs s1 0 [3, 1] = true ∧
    nextIs (exec (.rdtime 0 3) s1) (fun t => gReg (getW t 0) 3 == 100) = true ∧
    nextIs (exec (.trd 0 3 1) s1) (fun t => gReg (getW t 0) 3 == BitVec.allOnes 64) = true ∧
    nextIs (exec (.trd 0 3 3) s1) (fun t => gReg (getW t 0) 3 == 500) = true ∧
    nextIs (exec (.tset 0 3 1) s1) (fun t => getTimer (getW t 0) 3 == ⟨some 99, true⟩) = true ∧
    nextIs (exec (.tclr 0 0) s1) (fun t => getTimer (getW t 0) 0 == ⟨none, false⟩) = true ∧
    nextIs (exec (.setdl 0 1) s1) (fun t => (getW t 0).dl == 400) = true ∧
    nextIs (exec (.rddl 0 3) s1) (fun t => gReg (getW t 0) 3 == 40000) = true ∧
    nextIs (exec (.stopw 0) s1) (fun t => (getW t 0).st == .stopped && (getW t 0).pc == 0x1000004 && lineUp t 6) = true := by
  decide +kernel

theorem test_whoami : nextIs (exec (.whoami 3 1) (setW State.reset 3 { whorl [] with owner := 0x107 })) (fun t =>
    gReg (getW t 3) 1 == 0x10703) = true := by decide +kernel

theorem test_ticket_instructions : runs s1 0 [3, 2] = true ∧ runs s1 0 [7] = false ∧
    nextIs (exec (.tkst 0 3 2) s1) (fun t => gReg (getW t 0) 3 == 0x02030000FFFFFFFF) = true ∧
    nextIs (exec (.tkst 0 3 4) s1) (fun t => gReg (getW t 0) 3 == 0x05FF000000000000) = true ∧
    nextIs (exec (.tkst 0 3 0) s1) (fun t => gReg (getW t 0) 3 == 0xC000000000000000) = true ∧
    isNext (exec (.tkfree 0 4) s1) s1 = true ∧
    nextIs (exec (.tkfree 0 2) s1) (fun t => (getTk (getW t 0) 2).st == .free) = true ∧
    nextIs (exec (.tkpend 0 3) s1) (fun t => gReg (getW t 0) 3 == 0x8000000000000020) = true ∧
    isNext (exec (.fenceAg 0 3) s1) s1 = true ∧ isNext (exec (.fenceAll 0 3) s1) s1 = true := by decide +kernel

/-- No operation that a fence waits for is PENDING. -/
def s2 : State := setW s1 0 { getW s1 0 with tk := tput Ticket.fresh (getW s1 0).tk 5 Ticket.fresh }

theorem test_fences_pass :
    nextIs (exec (.fenceAg 0 3) s2) (fun t => gReg (getW t 0) 3 == 1 && (getW t 0).tk == (getW s2 0).tk) = true ∧
    nextIs (exec (.fenceAll 0 3) s2) (fun t => gReg (getW t 0) 3 == 1) = true := by decide +kernel

/-! ### Set registers, loads and stores -/

/-- Addresses for loads and stores: local store in g1, hub memory in g2, the window in g4, an address that is not aligned in g5. -/
def s3 : State :=
  { with0 { whorl [(1, 0x1000100), (2, 0x100010), (3, 0x1122334455667788), (4, 0x3000), (5, 0x1000104)] with
      sr := [(1, 0xA0A0A0A0A0A0A0A00B0B0B0B0B0B0B0B#128)]
      ls := [(0x100, 0x11), (0x101, 0x22), (0x10F, 0x33)] } with
    hubMem := [(0x10, 0x44), (0x18, 0x55)], ht := 77 }

theorem test_set_registers : runs s3 0 [1, 2] = true ∧
    nextIs (exec (.smk 0 2 1 3) s3) (fun t => sReg (getW t 0) 2 == 0x00000000010001001122334455667788#128) = true ∧
    nextIs (exec (.smv 0 3 1) s3) (fun t => sReg (getW t 0) 3 == 0xA0A0A0A0A0A0A0A00B0B0B0B0B0B0B0B#128) = true ∧
    nextIs (exec (.seng 0 3 1 3) s3) (fun t => sReg (getW t 0) 3 == 0xA8A0A0A0A0A0A0A00B0B0B0B0B0B0B0B#128) = true ∧
    nextIs (exec (.srd 0 1 6 7) s3) (fun t =>
      gReg (getW t 0) 6 == 0xA0A0A0A0A0A0A0A0 && gReg (getW t 0) 7 == 0x0B0B0B0B0B0B0B0B) = true ∧
    nextIs (exec (.sld 0 3 1) s3) (fun t => sReg (getW t 0) 3 == 0x33000000000000000000000000002211#128) = true ∧
    nextIs (exec (.sld 0 3 2) s3) (fun t => sReg (getW t 0) 3 == 0x00000000000000550000000000000044#128) = true ∧
    nextIs (exec (.sst 0 1 1) s3) (fun t => readLe (getW t 0).ls 0x100 8 == 0x0B0B0B0B0B0B0B0B &&
      readLe (getW t 0).ls 0x108 8 == 0xA0A0A0A0A0A0A0A0 && (getW t 0).pc == 0x1000004) = true ∧
    nextIs (exec (.sst 0 1 2) s3) (fun t => readLe t.hubMem 0x10 8 == 0x0B0B0B0B0B0B0B0B) = true ∧
    nextIs (exec (.sst 0 1 5) s3) (fun t => (getW t 0).st == .fault && (getW t 0).fcode == 3 && (getW t 0).faddr == 0x1000104) = true ∧
    nextIs (exec (.sld 0 1 5) s3) (fun t => (getW t 0).fcode == 3) = true := by decide +kernel

theorem test_loads : runs s3 0 [6, 1] = true ∧
    nextIs (exec (.ld8 0 6 1 8) s3) (fun t => gReg (getW t 0) 6 == 0x3300000000000000) = true ∧
    nextIs (exec (.ld2 0 6 1 0) s3) (fun t => gReg (getW t 0) 6 == 0x2211) = true ∧
    nextIs (exec (.ld1 0 6 1 1) s3) (fun t => gReg (getW t 0) 6 == 0x22) = true ∧
    nextIs (exec (.ld4 0 6 2 8) s3) (fun t => gReg (getW t 0) 6 == 0x55) = true ∧
    nextIs (exec (.ld8 0 6 4 0) s3) (fun t => gReg (getW t 0) 6 == 77) = true ∧
    nextIs (exec (.ld4 0 6 4 0) s3) (fun t => (getW t 0).st == .fault) = true ∧
    nextIs (exec (.ld4 0 6 1 2) s3) (fun t => (getW t 0).fcode == 3 && (getW t 0).faddr == 0x1000102) = true := by decide +kernel

theorem test_stores : runs s3 0 [3, 1] = true ∧
    nextIs (exec (.st8 0 3 1 0) s3) (fun t => readLe (getW t 0).ls 0x100 8 == 0x1122334455667788 &&
      readLe (getW t 0).ls 0x108 8 == 0x3300000000000000) = true ∧
    nextIs (exec (.st2 0 3 1 0) s3) (fun t => readLe (getW t 0).ls 0x100 8 == 0x7788) = true ∧
    nextIs (exec (.st4 0 3 2 4) s3) (fun t => readLe t.hubMem 0x10 8 == 0x5566778800000044) = true ∧
    nextIs (exec (.st1 0 3 2 8) s3) (fun t => readLe t.hubMem 0x18 8 == 0x88) = true ∧
    nextIs (exec (.st8 0 3 1 0xFF38) s3) (fun t => (getW t 0).fcode == 4 && (getW t 0).faddr == 0x1000038) = true ∧
    nextIs (exec (.st8 0 3 1 0xFF40) s3) (fun t => (getW t 0).pc == 0x1000004) = true ∧
    nextIs (exec (.st2 0 3 1 1) s3) (fun t => (getW t 0).fcode == 3) = true := by decide +kernel

/-- A tenant's Whorl without a window in hub memory. -/
def s4 : State := setW s3 0 { getW s3 0 with rights := .tenant 3 }

theorem test_memory_rights : mayMem s4 (.whorl 0) 0x10 8 false = false ∧
    nextIs (exec (.ld8 0 6 2 0) s4) (fun t => (getW t 0).fcode == 5 && (getW t 0).faddr == 0x100010 && lineUp t 6) = true ∧
    nextIs (exec (.st8 0 3 2 0) s4) (fun t => (getW t 0).fcode == 5 && t.hubMem == s4.hubMem) = true := by decide +kernel

/-! ### Waiting and event lines -/

theorem test_wait : runs s1 0 [3, 2, 1] = true ∧
    -- ticket 2 before line 6 and timer 0
    nextIs (exec (.wait 0 3 4 1 1) (setW s1 0 { getW s1 0 with g := [(1, 0x40), (4, 0xC)] })) (fun t =>
      gReg (getW t 0) 3 == 0x02030000FFFFFFFF && (getTk (getW t 0) 2).st == .free) = true ∧
    nextIs (exec (.poll 0 3 0 1 1) (setW s1 0 { getW s1 0 with g := [(1, 0x10040)] })) (fun t =>
      gReg (getW t 0) 3 == 0x4600000000000000 && tget 0 t.evPend 0 == 0x10000 && tget 0 t.evPend 8 == 0x40) = true ∧
    nextIs (exec (.wait 0 3 0 0 9) s1) (fun t =>
      gReg (getW t 0) 3 == 0x8000000000000000 && getTimer (getW t 0) 0 == ⟨none, false⟩) = true ∧
    isNext (exec (.wait 0 3 0 0 8) s1) s1 = true ∧
    nextIs (exec (.poll 0 3 0 0 8) s1) (fun t => gReg (getW t 0) 3 == 0xC000000000000000) = true ∧
    nextIs (exec (.wait 0 3 0 0 6) s1) (fun t => gReg (getW t 0) 3 == 0xC000000000000000) = true := by decide +kernel

theorem test_event_lines : runs (setW s1 0 (whorl [(1, 0x2000000000030040)])) 0 [1] = true ∧
    nextIs (exec (.evset 0 1) (setW s1 0 (whorl [(1, 0x2000000000030040)]))) (fun t =>
      tget 0 t.evPend 0 == 0x2000000000030040 && tget 0 t.evPend 5 == 0x2000000000030000 && tget 0 t.evPend 8 == 0x2000000000030040)
      = true ∧
    nextIs (exec (.evclr 0 1) (setW s1 0 (whorl [(1, 0x40)]))) (fun t => tget 0 t.evPend 0 == 0x10000 && tget 0 t.evPend 8 == 0x40)
      = true ∧
    nextIs (exec (.evrd 0 1) s1) (fun t => gReg (getW t 0) 1 == 0x10040) = true ∧
    mayReg s1 .root rEvtRaise true 0x30001 = true ∧ mayReg s1 (.tenant 2) rEvtRaise true 0x30001 = false ∧
    nextIs (exec (.evtRaise .root 0x30001) s1) (fun t => tget 0 t.evPend 7 == 0x30000) = true ∧
    isNext (exec (.evtRaise (.tenant 2) 0x30001) s1) s1 = true := by decide +kernel

/-! ### Issue of the asynchronous instructions -/

/-- A hub whose grid is the cluster 0 alone, which is partition 5 and runs; hub time 1,000, next operation 40. -/
def tiny : State :=
  { setMapByte (setP State.reset 5 { Part.fresh with st := .running }) 0 0x85 with
    integ := { Integ.reference with rows := 4, cols := 4, spareRows := 0 }, ht := 1000, opCtr := 40,
    boot := { State.reset.boot with inReset := false } }

/-- Whorl 0 of the tiny hub: leases of comparator 1 in partition 5, tap entry 1 of core 0x41, channel 2 and the dump mover; sets
of one core, of a bad form and of a core the grid does not hold. -/
def asyncWhorl : Whorl :=
  { whorl [(1, 5), (2, 0x1000100), (4, 600), (5, 16), (6, 0x100100), (7, 0x77), (8, 0x88), (10, 0x1000104), (12, 0x302), (13, 2),
      (14, 0x2000)] with
    sr := [(1, one 0x41), (2, 0xF#128 <<< 124), (3, one 0x441), (4, BitVec.ofNat 128 (2 ^ 124 + 5))]
    tk := [(0, { Ticket.fresh with st := .done })]
    ls := [(0x100, 0x21), (0x108, 0x22), (0x110, 0x23), (0x118, 0x24)]
    leases := [(0, some ⟨0x0010000000000005, none⟩), (1, some ⟨0x1010000000000041, none⟩), (2, some ⟨0x7020000000000000, none⟩),
               (3, some ⟨0x6000000000000000, none⟩)] }

/-- The tiny hub with that Whorl, and hub 3 routed through channel 2. -/
def sA : State :=
  { setC (setW tiny 0 asyncWhorl) 2 { Chan.fresh with up := true, peer := 3 } with routes := [(3, some ⟨2, 1⟩)] }

theorem test_issue_witness : runs sA 0 [3, 1, 2, 4, 5, 6] = true ∧ (freeTk asyncWhorl) = some 1 ∧
    setForm sA (one 0x41) = true ∧ setRights sA (.whorl 0) 3 (one 0x41) = true ∧ opSites sA (one 0x41) = [0x81] ∧
    setForm sA (0xF#128 <<< 124) = false ∧ setForm sA (one 0x441) = true ∧ opSites sA (one 0x441) = [] ∧
    opSites sA (BitVec.ofNat 128 (2 ^ 124 + 5)) = [0, 1, 2, 3, 128, 129, 130, 131, 256, 257, 258, 259, 384, 385, 386, 387] := by
  decide +kernel

theorem test_agw : nextIs (exec (.agw 0 3 1 8 0x20) sA) (fun t =>
    gReg (getW t 0) 3 == 1 && (getTk (getW t 0) 1).st == .pending && (getTk (getW t 0) 1).dl == some 41000 && t.opCtr == 41 &&
    (getW t 0).pc == 0x1000004 && t.ops.map (fun o => (o.id, o.sites, o.nodes, o.data, o.reg, o.type)) ==
      [(40, [0x81], [0], [0x88], 0x20, .write)]) = true := by decide +kernel

theorem test_agr :
    nextIs (exec (.agr 0 3 1 7 0x80 .none) sA) (fun t => (getTk (getW t 0) 1).result == some 7 &&
      t.ops.map (fun o => (o.type, o.red)) == [(.read, .none)]) = true ∧
    nextIs (exec (.agr 0 3 4 7 0x80 .none) sA) (fun t => (getTk (getW t 0) 1).status == .noagent && t.ops == []) = true ∧
    nextIs (exec (.agr 0 3 4 6 0x80 .collect) (setW sA 0 { asyncWhorl with g := tput 0 asyncWhorl.g 6 0x100200 })) (fun t =>
      (getTk (getW t 0) 1).result == none && t.ops.map (fun o => (o.red, o.buf, o.sites.length)) == [(.collect, 0x200, 16)]) = true ∧
    nextIs (exec (.agr 0 3 4 2 0x80 .collect) sA) (fun t => (getTk (getW t 0) 1).status == .noagent) = true := by decide +kernel

theorem test_agr_lm :
    nextIs (exec (.agrLm 0 3 1 7 true) (setW sA 0 { asyncWhorl with g := tput 0 asyncWhorl.g 7 0x0002003000001000 })) (fun t =>
      t.ops.map (fun o => (o.type, o.lmAddr, o.nWords, o.buf, o.str)) == [(.lmRead, 0x1000, 4, 0x100, false)]) = true ∧
    nextIs (exec (.agrLm 0 3 1 7 false) { setW sA 0 { asyncWhorl with g := tput 0 asyncWhorl.g 7 0x0002001000001000 } with
        hubMem := [(0x100, 7), (0x108, 9)] }) (fun t => t.ops.map (fun o => (o.type, o.data)) == [(.lmWrite, [7, 9])]) = true := by
  decide +kernel

/-- A read of the cores 0x41, 0x42 and of the core 0x44 of the next cluster, named by a LIST. -/
def listRead : Op := { mkOp 40 0 400 .hub (0x3F#128 <<< 120 ||| BitVec.ofNat 128 (3 * 2 ^ 32)) [0x81, 0x82, 0x84] .read 0x80 with nodes := [0, 1] }

theorem test_list_casts :
    (opCasts { tiny with integ := { tiny.integ with cols := 8 } } listRead).map (fun o => (o.set, o.nodes)) =
      [(0x7F000000000000000000000000600000, [0]), (0x7F000000000000000000000000100001, [1])] ∧
    opCasts sA { listRead with set := one 0x41 } = [{ listRead with set := one 0x41 }] := by decide +kernel

theorem test_checks_at_issue :
    nextIs (exec (.agw 0 3 2 8 0x20) sA) (fun t => decide (t = Ticketed sA 0 3 1 (RefusedTicket sA 0 .agent .noagent))) = true ∧
    nextIs (exec (.agw 0 3 3 8 0x20) sA) (fun t => decide (t = Ticketed sA 0 3 1 (RefusedTicket sA 0 .agent .noagent))) = true ∧
    nextIs (exec (.agw 0 3 1 8 0x20) (setW sA 0 { asyncWhorl with rights := .tenant 3 })) (fun t =>
      (getTk (getW t 0) 1).st == .done && (getTk (getW t 0) 1).status == .rights && t.ops == []) = true ∧
    nextIs (exec (.tapc 0 3 1 0) sA) (fun t => decide (t = Ticketed sA 0 3 1 (RefusedTicket sA 0 .tap .locked))) = true := by decide +kernel

/-- A Whorl whose 64 tickets are all DONE. -/
def fullWhorl : Whorl :=
  { asyncWhorl with notkt := 65535, tk := (List.range 64).map fun t => (t, { Ticket.fresh with st := .done }) }

theorem test_no_ticket :
    nextIs (exec (.agw 0 3 1 8 0x20) (setW sA 0 fullWhorl)) (fun t =>
      gReg (getW t 0) 3 == BitVec.allOnes 64 && (getW t 0).notkt == 65535 && t.ops == [] && t.opCtr == 40) = true := by decide +kernel

theorem test_buffers :
    bufBad sA 0 asyncWhorl 0x1000104 8 8 false = some .align ∧ bufBad sA 0 asyncWhorl 0x1000038 8 8 true = some .addr ∧
    bufBad sA 0 asyncWhorl 0x1000038 8 8 false = none ∧ bufBad sA 0 asyncWhorl 0x100FFF8 16 8 false = some .addr ∧
    bufBad sA 0 asyncWhorl 0x8FFFF8 8 8 true = none ∧ bufBad sA 0 asyncWhorl 0x8FFFF8 16 8 true = some .addr ∧
    bufBad (setW sA 0 { asyncWhorl with rights := .tenant 3 }) 0 asyncWhorl 0x100000 8 8 true = some .rights ∧
    nextIs (exec (.tap 0 3 1 10 1) sA) (fun t => (getW t 0).fcode == 3 && (getW t 0).faddr == 0x1000104) = true ∧
    nextIs (exec (.emit 0 3 14 1 1 2) sA) (fun t => (getW t 0).fcode == 4 && (getW t 0).tk == asyncWhorl.tk) = true ∧
    nextIs (exec (.recv 0 3 13 14 1) sA) (fun t => (getW t 0).fcode == 4) = true ∧
    nextIs (exec (.emit 0 3 2 1 4 2) sA) (fun t => (getW t 0).fcode == 2 && (getW t 0).faddr == 0x1000000) = true := by decide +kernel

theorem test_trig : leaseCodes asyncWhorl 0 [cmpLease 1 5] = some [0] ∧ runs sA 0 [3, 4, 5] = true ∧
    nextIs (exec (.trig 0 3 1 4 1) sA) (fun t => t.ops.map (fun o => (o.pre, o.reg, o.data)) ==
      [([(aCmpVal + 2, 600)], aCmpCtrl + 2, [16])] && (getTk (getW t 0) 1).lease == [0]) = true ∧
    nextIs (exec (.trig 0 3 1 4 2) sA) (fun t => (getTk (getW t 0) 1).status == .locked) = true := by decide +kernel

theorem test_tap : tapCodes sA asyncWhorl 0 1 (one 0x41) = some [1] ∧
    nextIs (exec (.tap 0 3 1 2 1) sA) (fun t => t.ops.map (fun o => (o.pre, o.reg, o.data)) ==
      [([(tsIdx aTsMatch 1, 0x21), (tsIdx aTsCfg 1, 0x22), (tsIdx aTsVh 1, 0x23), (tsIdx aTsSeed 1, 0x24)], tsIdx aTsMatch 1, [0x21])])
      = true ∧
    nextIs (exec (.tapr 0 3 1 7 1) sA) (fun t => t.ops.map (fun o => (o.type, o.reg)) == [(.read, tsIdx aTsCov 1)] &&
      (getTk (getW t 0) 1).result == some 7) = true ∧
    nextIs (exec (.tapc 0 3 1 1) sA) (fun t => t.ops.map (fun o => (o.type, o.reg, o.data)) == [(.write, tsIdx aTsMatch 1, [0])]) = true := by
  decide +kernel

theorem test_run_control_issue : mayPart sA (.whorl 0) 3 5 = true ∧ dumpHolds sA (.whorl 0) 5 = false ∧
    regionsOfPart sA 5 = [0] ∧ haltLead sA = 512 ∧
    nextIs (exec (.halt 0 3 1) sA) (fun t => (getP t 5).st == .halting &&
      (reqsOf (getR t 0)).map (fun m => (m.part, m.opc, m.cause)) == [(5, .halt, 3)] && (getTk (getW t 0) 1).dl == some 41000 && gReg (getW t 0) 3 == 1) = true ∧
    nextIs (exec (.snip 0 3 1) sA) (fun t => (getP t 5).st == .halting) = true ∧
    nextIs (exec (.run 0 3 1) sA) (fun t => t.arrivals.map (fun a => (a.opId, a.status)) == [(40, .ok)]) = true ∧
    nextIs (exec (.step 0 3 1 5) sA) (fun t => (getP t 5).st == .stepping || (getP t 5).after != []) = true ∧
    nextIs (exec (.haltPlanned 0 3 1 4 0) sA) (fun t => (getP t 5).planned == some ⟨0, 600, 40, 1000, false⟩ &&
      (getTk (getW t 0) 1).dl == none) = true ∧
    nextIs (exec (.haltPlanned 0 3 1 5 0) sA) (fun t => (getTk (getW t 0) 1).status == .late && (getP t 5).planned == none) = true := by
  decide +kernel

-- the EMIT of chapter 10's example
theorem test_emit : nextIs (exec (.emit 2 3 2 1 1 2) (setW tiny 2 { asyncWhorl with g := tput 0 asyncWhorl.g 1 0x1234 })) (fun t =>
    t.funnel.local_ == [⟨0xC008493000001234, [1000, 0x21, 0x22]⟩] && t.funnel.emits == [40]) = true := by decide +kernel

theorem test_commit :
    nextIs (exec (.commit 0 3 2 5 0) sA) (fun t => t.hank.inq.map (fun c => (c.area, c.origin, c.body, c.opId)) ==
      [(.journal, 0, [0x21, 0x22], some 40)]) = true ∧
    nextIs (exec (.commit 0 3 2 5 3) sA) (fun t => (getTk (getW t 0) 1).lease == [3]) = true ∧
    nextIs (exec (.commit 0 3 2 5 4) sA) (fun t => (getTk (getW t 0) 1).status == .noagent) = true := by decide +kernel

theorem test_send_recv : routeTo sA 3 = some 2 ∧ heldBy asyncWhorl (chanLease 2) = some 2 ∧
    nextIs (exec (.send 0 3 12 2 1) sA) (fun t => (getC t 2).sends == [⟨40, 40⟩] &&
      (getC t 2).out.map OutMsg.pay == [[0x0000002800000002, 0x21, 0x22]]) = true ∧
    nextIs (exec (.recv 0 3 13 2 1) sA) (fun t => (getC t 2).recvs == [⟨0, 40, 0x1000100, 2⟩] &&
      (getTk (getW t 0) 1).chan == some 2) = true := by decide +kernel

/-! ### Leases, tickets, timers, Whorls from outside -/

/-- Whorl 1 holds lanes 4 and 5; lanes 0 to 5 are in service. -/
def sL : State :=
  { setW (setW tiny 0 { whorl [(1, 0x2000000000000002), (2, 0x2040000000000001), (3, 500), (4, 0x20F0000000000002), (5, 0x5000000000000000),
        (6, 9)] with leases := [(0, some ⟨0x2020000000000001, some 1200⟩), (9, some ⟨0x2030000000000001, some 900⟩)] })
      1 { whorl [] with leases := [(7, some ⟨0x2040000000000002, none⟩)] } with
    lanes := (List.range 6).map fun n => (n, { Lane.fresh with up := true, inSvc := true }), evPend := [] }

theorem test_lease :
    leaseForm sL 0x2000000000000002 = true ∧ heldAny sL 0x2000000000000002 = false ∧ heldAny sL 0x2040000000000001 = true ∧
    nextIs (exec (.lease 0 7 1 3) sL) (fun t => getLease (getW t 0) 1 == some ⟨0x2000000000000002, some 1500⟩ &&
      gReg (getW t 0) 7 == 0x00010000000005DC) = true ∧
    nextIs (exec (.lease 0 7 2 3) sL) (fun t => gReg (getW t 0) 7 == 0x0600000000000000 && (getW t 0).leases == (getW sL 0).leases)
      = true ∧
    nextIs (exec (.lease 0 7 4 3) sL) (fun t => gReg (getW t 0) 7 == 0x0200000000000000) = true ∧
    nextIs (exec (.lease 0 7 5 3) (setW sL 0 { getW sL 0 with rights := .tenant 1 })) (fun t => gReg (getW t 0) 7 == 0x0700000000000000)
      = true ∧
    nextIs (exec (.lease 0 7 1 0) (setW sL 0 { getW sL 0 with g := [(1, 0x2020000000000001)] })) (fun t =>
      getLease (getW t 0) 0 == some ⟨0x2020000000000001, none⟩ && gReg (getW t 0) 7 == 0) = true := by decide +kernel

theorem test_release :
    nextIs (exec (.release 0 7 6) sL) (fun t => getLease (getW t 0) 9 == none && gReg (getW t 0) 7 == 0 && lineUp t 10 == false) = true ∧
    nextIs (exec (.release 0 7 3) sL) (fun t => gReg (getW t 0) 7 == 2) = true := by
  decide +kernel

theorem test_lease_lapse :
    isNext (exec (.leaseLapse 0 0) sL) sL = true ∧ isNext (exec (.leaseLapse 0 5) sL) sL = true ∧
    nextIs (exec (.leaseLapse 0 9) sL) (fun t => getLease (getW t 0) 9 == none && lineUp t 10 &&
      t.funnel.local_.map (fun r => (recSrc r, recType r, recBody r, r.pay)) ==
        [(0xC02C, 8, 0x401000048, [1000, 0x2030000000000001])]) = true := by decide +kernel

/-- Ticket 5 of Whorl 0 waits for an answer that has arrived; ticket 6 is a RECV at the head of channel 2, which holds a message. -/
def sT : State :=
  { setC (setW tiny 0 { whorl [(7, 1)] with tk :=
        [(5, { Ticket.fresh with st := .pending, dl := some 1000, result := some 7, opId := 9 }),
         (6, { Ticket.fresh with st := .pending, kind := .recv, dl := some 1001, chan := some 2, opId := 10 })] })
      2 { Chan.fresh with up := true, rxq := [⟨3, 2, [0xAA, 0xBB, 0xCC]⟩], recvs := [⟨0, 10, 0x100200, 2⟩] } with
    arrivals := [⟨9, .partial_, 3, some 0x55, [(0x40, 0x66)], 0, none⟩] }

theorem test_ticket_complete :
    nextIs (exec (.ticketComplete 0 5) sT) (fun t => gReg (getW t 0) 7 == 0x55 && (getTk (getW t 0) 5).status == .partial_ &&
      (getTk (getW t 0) 5).count == 3 && (getTk (getW t 0) 5).st == .done && readLe t.hubMem 0x40 8 == 0x66 && t.arrivals == []) = true ∧
    nextIs (exec (.ticketComplete 0 6) sT) (fun t => (getTk (getW t 0) 6).count == 3 && (getC t 2).rxq == [] && (getC t 2).recvs == [] &&
      readUnits t.hubMem 0x200 4 == [0x0003020000000002, 0xAA, 0xBB, 0]) = true ∧
    isNext (exec (.ticketComplete 0 7) sT) sT = true := by decide +kernel

theorem test_ticket_timeout :
    nextIs (exec (.ticketTimeout 0 5) sT) (fun t => (getTk (getW t 0) 5).status == .timeout && (getTk (getW t 0) 5).count == 0xFFFFFFFF &&
      gReg (getW t 0) 7 == 1 && t.arrivals == [] && reg t rSpnLate == 1) = true ∧
    isNext (exec (.ticketTimeout 0 6) sT) sT = true ∧ isNext (exec (.ticketTimeout 0 9) sT) sT = true := by decide +kernel

theorem test_timer_expire :
    nextIs (exec (.timerExpire 0 3) { s1 with ht := 500 }) (fun t => getTimer (getW t 0) 3 == ⟨some 500, true⟩) = true ∧
    isNext (exec (.timerExpire 0 3) { s1 with ht := 499 }) { s1 with ht := 499 } = true ∧ isNext (exec (.timerExpire 0 2) s1) s1 = true := by
  decide +kernel

theorem test_whorl_stop_start :
    mayReg sA .root rWhlCtrl true 4 = true ∧ mayReg sA (.tenant 1) rWhlCtrl true 4 = false ∧
    nextIs (exec (.whorlStop .root 0) sA) (fun t => (getW t 0).st == .stopped && lineUp t 6 && (getW t 0).pc == 0x1000000) = true ∧
    isNext (exec (.whorlStop (.tenant 1) 0) sA) sA = true ∧ isNext (exec (.whorlStart .root 0) sA) sA = true ∧
    nextIs (exec (.whorlStart .root 0) (setW sA 0 { asyncWhorl with st := .loaded })) (fun t => (getW t 0).st == .running) = true ∧
    nextIs (exec (.whorlFault 0 .timeout 0x3000) sA) (fun t => decide (getW t 0 = { asyncWhorl with st := .fault, fcode := 7, faddr := 0x3000 })
      && lineUp t 6 && t.funnel.local_.map (fun r => (recBody r, r.pay)) == [(0x400000700, [1000, 0x0100000000003000])]) = true ∧
    isNext (exec (.whorlFault 1 .timeout 0x3000) sA) sA = true := by decide +kernel

theorem test_whorl_reset_out : (List.range 64).all (fun h => (getLease (getW s1 0) h).isNone) = true ∧ canonical s1 = true ∧
    nextIs (exec (.whorlReset .root 0) (setW s1 0 { getW s1 0 with notkt := 4, ls := [(3, 3)] })) (fun t =>
      decide (getW t 0 = { Whorl.fresh with notkt := 4, ls := [(3, 3)] }) && tget 0 t.evPend 0 == 0 && tget 0 t.evPend 8 == 0x40) = true ∧
    isNext (exec (.whorlReset (.tenant 4) 0) s1) s1 = true ∧
    nextIs (exec (.whorlOut 0) s1) (fun t => (getW t 0).st == .out && lineUp t 5) = true ∧
    nextIs (exec (.whorlOut 0) s1) (fun t => isNext (exec (.whorlOut 0) t) t) = true ∧
    nextIs (exec (.whorlReset .root 0) sL) (fun t => (getW t 0).leases == [] &&
      bit (tget 0 t.evPend 8) 10 && tget 0 t.evPend 0 == 0) = true := by decide +kernel

/-- An image at hub-memory offset 0x100: two instructions (ADDI g5, g0, 2000 and SETDL g5), one data unit, one zero unit, entry 0,
the request of lane 3 with span 0. -/
def image (s : State) : State :=
  { s with
    hubMem := writeUnits s.hubMem 0x100 [0x4C50524100010003, 0x0002000100010000, word (2 ^ 32 + crc32 [0x2030000000000001, 0, 0x6005018004A007D0, 0x1234]),
      0x2030000000000001, 0, 0x6005018004A007D0, 0x1234] }

/-- Whorl 2 is LOADING that image with AUTO, loaded by ROOT. -/
def sI : State :=
  image (setW { tiny with lanes := [(3, { Lane.fresh with up := true, inSvc := true })] } 2
    { Whorl.fresh with st := .loading, loading := some ⟨.root, 0x4000000000000100⟩, ls := [(0x10, 9)] })

theorem test_whorl_load : imageRefusal sI .root (imageAt sI 0x100) = none ∧ entitled sI .root 2 = true ∧
    nextIs (exec (.loadEnd 2) sI) (fun t => (getW t 2).st == .running && (getW t 2).pc == 0x1000000 && (getW t 2).codeBytes == 8 &&
      readUnits (getW t 2).ls 0 4 == [0x6005018004A007D0, 0x1234, 0, 0] && (getW t 2).loadst == 0 && lineUp t 6 &&
      getLease (getW t 2) 0 == some ⟨0x2030000000000001, none⟩) = true ∧
    nextIs (exec (.loadEnd 2) { sI with hubMem := writeLe sI.hubMem 0x130 1 0x35 }) (fun t =>
      (getW t 2).st == .reset && (getW t 2).loadst == 2 && lineUp t 6) = true ∧
    nextIs (exec (.loadEnd 2) { sI with lanes := [] }) (fun t => (getW t 2).st == .reset && (getW t 2).loadst == 6) = true ∧
    nextIs (exec (.loadEnd 2) (setW sI 2 { getW sI 2 with loading := some ⟨.tenant 1, 0x100⟩ })) (fun t => (getW t 2).loadst == 1) = true ∧
    nextIs (exec (.loadEnd 2) (setW sI 2 { getW sI 2 with loading := some ⟨.root, 0x8003000000000000⟩ })) (fun t =>
      (getW t 2).st == .loaded && (getW t 2).rom == some 3 && (getW t 2).ls == []) = true ∧
    nextIs (exec (.loadEnd 2) (setW sI 2 { getW sI 2 with loading := some ⟨.root, 0x8004000000000000⟩ })) (fun t =>
      (getW t 2).loadst == 2) = true := by decide +kernel

theorem test_whorl_load_starts :
    nextIs (exec (.whorlLoad .root 0) sA) (fun t => (getW t 0).st == .running && (getW t 0).loadst == 7) = true ∧
    nextIs (exec (.whorlLoad .root 1) (setReg sA (rWhlLoad + 0x100) 0x100)) (fun t => (getW t 1).st == .loading &&
      (getW t 1).loading == some ⟨.root, 0x100⟩) = true := by decide +kernel

theorem test_local_store_window :
    nextIs (exec (.whlLsDataAccess .root 1 true 0x55) (regPut tiny (keyWho .root (rWhlLsAddr + 0x100)) (rWhlLsAddr + 0x100) 0xFFF8)) (fun t =>
      readLe (getW t 1).ls 0xFFF8 8 == 0x55 && regGet t (keyWho .root (rWhlLsAddr + 0x100)) (rWhlLsAddr + 0x100) == 0) = true ∧
    nextIs (exec (.whlLsDataAccess .root 0 true 0x55) sA) (fun t => (getW t 0).ls == asyncWhorl.ls &&
      regGet t (keyWho .root rWhlLsAddr) rWhlLsAddr == 8) = true ∧
    isNext (exec (.whlLsDataAccess (.tenant 2) 0 true 0x55) sA) sA = true := by decide +kernel

/-! ### Registers and run control -/

theorem test_register_write : mayReg tiny .root rAgaDl true 0 = true ∧ mayReg tiny (.tenant 3) rCrdDrfSel true 0 = false ∧
    nextIs (exec (.registerWrite .root rPrtCutTmo 5) tiny) (fun t => bits (reg t rPrtCutTmo) 31 0 == 2000) = true ∧
    bits (clampReg rAgaDl 5) 47 0 = 400 ∧ bits (clampReg rAgaDl 0xFFFFFFFFFFFF) 47 0 = 2 ^ 40 ∧
    isNext (exec (.registerWrite .root 0x8004 5) tiny) tiny = true ∧ isNext (exec (.registerWrite (.tenant 3) rCrdDrfSel 5) tiny) tiny = true ∧
    nextIs (exec (.registerWrite .root rCrdDrfSel 0xFFF) tiny) (fun t => regGet t (regKey tiny .root rCrdDrfSel) rCrdDrfSel == 0x3F) = true ∧
    isNext (exec (.registerWrite .root 0x8800 5) tiny) tiny = true := by decide +kernel

/-- Partition 5 of the tiny hub halted by a cut, resumed by none. -/
def halted : State := setRP (setP tiny 5 { Part.fresh with st := .halted, cut := true }) 5 0 { RPart.fresh with latch := true, halted := true }

theorem test_prt_cmd_halt : canonical tiny = true ∧ liveRegions tiny 5 = [0] ∧ mayPart tiny (.tenant 1) 2 5 = false ∧
    nextIs (exec (.prtCmdHalt .root 5) tiny) (fun t => (getP t 5).st == .halting && (getP t 5).cut == false &&
      (getP t 5).cutNow.any (fun q => q.tmoFrom == some 1000 && q.parent == none) && (getRP t 5 0).halted &&
      reqsOf (getR t 0) == [⟨3, 5, .halt, 0, 0, 4⟩]) = true ∧
    isNext (exec (.prtCmdSnip (.tenant 1) 5) tiny) tiny = true ∧
    nextIs (exec (.prtCmdSnip .root 5) tiny) (fun t => nextIs (exec (.prtCmdHalt .root 5) t) fun u =>
      (getP u 5).cutNow.map (fun q => q.waiters.length) == some 2 && decide (u.regions = t.regions)) = true ∧
    nextIs (exec (.prtCmdSnip .root 5) halted) (fun t => decide (t.parts = halted.parts ∧ t.regions = halted.regions)) = true ∧
    nextIs (exec (.prtCmdHalt .root 9) tiny) (fun t => decide (t.parts = tiny.parts)) = true := by decide +kernel

/-- A dump holds partition 5. -/
def dumping : State := { halted with hang := { halted.hang with running := some ⟨5, 1, 1, 900⟩, whorl := some 6 } }

theorem test_prt_cmd_run_step : rdvTree (getP halted 5) = none ∧ canonical halted = true ∧ dumpHolds dumping .root 5 = true ∧
    nextIs (exec (.prtCmdRun .root 5) halted) (fun t => (getP t 5).cut == false && (getP t 5).resuming && (getRP t 5 0).owesRun &&
      reqsOf (getR t 0) == [⟨3, 5, .clrmark, 0, 0, 1⟩, ⟨3, 5, .run, 0, 0, 1⟩]) = true ∧
    nextIs (exec (.prtCmdStep .root 5 99) halted) (fun t => (getP t 5).st == .stepping && (getP t 5).cut == false &&
      reqsOf (getR t 0) == [⟨3, 5, .clrmark, 0, 0, 1⟩, ⟨3, 5, .step, 99, 0, 1⟩]) = true ∧
    nextIs (exec (.prtCmdRun .root 5) tiny) (fun t => decide (t.parts = tiny.parts ∧ t.regions = tiny.regions)) = true ∧
    isNext (exec (.prtCmdRun .root 5) dumping) (countF dumping rDmpStat 15 0 1) = true ∧
    isNext (exec (.prtCmdStep .root 5 1) dumping) (countF dumping rDmpStat 15 0 1) = true ∧
    isNext (exec (.prtCmdRun (.tenant 2) 5) halted) halted = true := by decide +kernel

theorem test_map_write :
    isNext (exec (.prtMapWrite (.tenant 0) 0 0x86) tiny) tiny = true ∧
    nextIs (exec (.prtMapWrite .root 0 0x86) tiny) (fun t => reg t rPrtMapErr == 1 && mapByte t 0 == 0x85) = true ∧
    nextIs (exec (.prtMapWrite .root 0 0x86) halted) (fun t => chgsOf (getR t 0) == [⟨0, 0x85, 0x86, 0⟩] &&
      (getP t 6).st == .halted && (getP t 6).cut == false) = true ∧
    isNext (exec (.prtMapWrite .root 0 0x85) tiny) tiny = true := by decide +kernel

/-- Cluster 0 changes to partition 6 at edge 16. -/
def changing : State :=
  setR (setP halted 6 { Part.fresh with st := .halted, cut := true }) 0 { Region.fresh with edge := 16, chg := [⟨0, 0x85, 0x86, 16⟩] }

theorem test_map_apply : canonical changing = true ∧
    nextIs (exec (.prtMapApply 0) changing) (fun t => mapByte t 0 == 0x86 && (getR t 0).chg == [] && (getP t 6).cut == false &&
      (getP t 5).st == .empty && (getRP t 6 0).latch) = true ∧
    isNext (exec (.prtMapApply 0) (setR changing 0 { getR changing 0 with edge := 15 })) (setR changing 0 { getR changing 0 with edge := 15 })
      = true ∧
    isNext (exec (.prtMapApply 1) changing) changing = true := by decide +kernel

/-- Region 0 at edge 100 with a root queue and one message due in its tree. -/
def rooted (opc : StOpc) (y : RPart) : State :=
  setRP (setR tiny 0 { Region.fresh with
    edge := 100, queue := [⟨3, 9, .run, 0, 90, 1⟩, ⟨2, 7, .halt, 0, 95, 2⟩, ⟨1, 8, .halt, 0, 95, 1⟩],
    tree := [⟨stEncode 5 opc 99, 100, 3⟩] }) 5 0 y

theorem test_root_send :
    nextIs (exec (.stopTreeRootSend 0) (rooted .mark RPart.fresh)) (fun t =>
      (getR t 0).queue == [⟨3, 9, .run, 0, 90, 1⟩, ⟨2, 7, .halt, 0, 95, 2⟩] && (getR t 0).qdly == 5 &&
      (getR t 0).tree == [⟨stEncode 5 .mark 99, 100, 3⟩, ⟨stEncode 8 .halt 0, 116, 1⟩]) = true ∧
    isNext (exec (.stopTreeRootSend 1) tiny) tiny = true ∧
    rootPick [] [⟨2, 7, .halt, 0, 0, 2⟩, ⟨1, 8, .halt, 0, 0, 1⟩, ⟨1, 3, .halt, 0, 0, 1⟩] = some ⟨1, 3, .halt, 0, 0, 1⟩ := by decide +kernel

theorem test_leaf_halt :
    nextIs (exec (.leafHalt 0) (rooted .halt { RPart.fresh with stepNo := 77 })) (fun t => (getRP t 5 0).latch &&
      (getRP t 5 0).haltStep == 77 && (getRP t 5 0).haltTime == 1000 && (getP t 5).cause == 3 && (getR t 0).tree == []) = true ∧
    nextIs (exec (.leafHalt 0) (rooted .halt { RPart.fresh with stepNo := 77, latch := true, haltStep := 70, haltTime := 900 })) (fun t =>
      (getRP t 5 0).haltStep == 70 && (getRP t 5 0).haltTime == 900 && (getP t 5).cause == 0) = true := by decide +kernel

theorem test_leaf_others : canonical (rooted .run { RPart.fresh with latch := true, owesRun := true }) = true ∧
    nextIs (exec (.leafRun 0) (rooted .run { RPart.fresh with latch := true, owesRun := true })) (fun t =>
      (getRP t 5 0).latch == false && (getRP t 5 0).owesRun == false && (getRP t 5 0).runAt == some 1000) = true ∧
    nextIs (exec (.leafStep 0) (rooted .step { RPart.fresh with latch := true })) (fun t =>
      (getRP t 5 0).latch == false && (getRP t 5 0).stepLeft == 100 && (getRP t 5 0).stepOn) = true ∧
    nextIs (exec (.leafMark 0) (rooted .mark RPart.fresh)) (fun t => (getRP t 5 0).marked) = true ∧
    nextIs (exec (.leafClrmark 0) (rooted .clrmark { RPart.fresh with marked := true })) (fun t => (getRP t 5 0).marked == false) = true ∧
    isNext (exec (.leafClrmark 0) tiny) tiny = true ∧
    isNext (exec (.leafStep 0) (setR tiny 0 { Region.fresh with edge := 99, tree := [⟨stEncode 5 .step 0, 100, 1⟩] }))
      (setR tiny 0 { Region.fresh with edge := 99, tree := [⟨stEncode 5 .step 0, 100, 1⟩] }) = true := by decide +kernel

theorem test_leaf_step_done :
    nextIs (exec (.leafStepDone 0 5) (setRP tiny 5 0 { RPart.fresh with stepOn := true, latch := true, stepNo := 50 })) (fun t =>
      (getRP t 5 0).stepOn == false && (getRP t 5 0).stepDone) = true ∧
    isNext (exec (.leafStepDone 0 5) tiny) tiny = true := by decide +kernel

/-- Partition 5 in a cut whose region 0 has stopped: the leaf latches are set. -/
def cutting (y : RPart) : State :=
  setRP (setP (setR tiny 0 { Region.fresh with edge := 40 }) 5 { Part.fresh with
    st := .halting, cutNow := some ⟨some 500, [⟨33, false⟩], false, 7, none, none, [], true, false⟩ }) 5 0 { y with latch := true, halted := true }

theorem test_cut : canonical (cutting RPart.fresh) = true ∧ cutRegions (cutting RPart.fresh) 5 = [0] ∧
    nextIs (exec (.regionFrozen 0 5) (setS (cutting { RPart.fresh with andAt := some 24 }) 0 { Site.fresh with freezeLate := true })) (fun t =>
      (getRP t 5 0).frozen && (getRP t 5 0).markSent && (getRP t 5 0).lateCnt == 1 && reqsOf (getR t 0) == [⟨3, 5, .mark, 0, 40, 1⟩]) = true ∧
    isNext (exec (.regionFrozen 0 5) (cutting { RPart.fresh with andAt := some 25 })) (cutting { RPart.fresh with andAt := some 25 }) = true ∧
    nextIs (exec (.regionReady 0 5) (cutting { RPart.fresh with frozen := true, markSent := true, markAt := some 24 })) (fun t => (getRP t 5 0).ready) = true ∧
    isNext (exec (.regionReady 0 5) (cutting RPart.fresh)) (cutting RPart.fresh) = true ∧
    isNext (exec (.cutComplete 5) (cutting RPart.fresh)) (cutting RPart.fresh) = true ∧
    nextIs (exec (.cutComplete 5) (cutting { RPart.fresh with frozen := true, markSent := true, ready := true, lateCnt := 3 })) (fun t =>
      (getP t 5).st == .halted && (getP t 5).cut && (getP t 5).cutNow == none && (getP t 5).nfail == 3 && (getP t 5).partialF &&
      lineUp t 0 && (List.range 9).all fun k => bit (tget 0 t.evCut k) 5) = true ∧
    nextIs (exec (.cutTimeout 5) { cutting RPart.fresh with ht := 4500 }) (fun t => (getP t 5).st == .halted && (getP t 5).cut &&
      (getP t 5).partialF == false && (getP t 5).nfail == 16 && lineUp t 0) = true ∧
    isNext (exec (.cutTimeout 5) { cutting RPart.fresh with ht := 4499 }) { cutting RPart.fresh with ht := 4499 } = true ∧
    isNext (exec (.regionFrozen 0 5) tiny) tiny = true := by decide +kernel

/-- A planned halt of partition 5 armed at a step. -/
def armed (step : Nat) : State :=
  setRP (setP tiny 5 { Part.fresh with st := .running, planned := some ⟨0, step, 44, 200, false⟩ }) 5 0 { RPart.fresh with stepNo := 1000 }

theorem test_planned_halt : canonical (armed 1016) = true ∧ isNext (exec (.plannedHaltDue 5) (armed 1017)) (armed 1017) = true ∧
    nextIs (exec (.plannedHaltDue 5) (armed 1016)) (fun t => (getP t 5).planned == none && (getP t 5).st == .halting &&
      (getP t 5).late == false && reqsOf (getR t 0) == [⟨1, 5, .halt, 0, 0, 1⟩] && reg t rPrtLead == reg (armed 1016) rPrtLead) = true ∧
    nextIs (exec (.plannedHaltDue 5) (armed 1015)) (fun t => (getP t 5).late && regF t rPrtLead 31 16 == 800 && regF t rPrtLead 47 32 == 480)
      = true := by decide +kernel

theorem test_run_resumed :
    nextIs (exec (.runResumed 5) (setP halted 5 { getP halted 5 with resuming := true })) (fun t => (getP t 5).st == .running &&
      (getP t 5).resuming == false) = true ∧
    isNext (exec (.runResumed 5) halted) halted = true ∧
    isNext (exec (.runResumed 5) (setRP (setP halted 5 { getP halted 5 with resuming := true }) 5 0 { RPart.fresh with owesRun := true }))
      (setRP (setP halted 5 { getP halted 5 with resuming := true }) 5 0 { RPart.fresh with owesRun := true }) = true := by decide +kernel

/-- Partition 5 with requests for a lossless hold. -/
def holding (h : Option Hold) (tmo : Bool) : State :=
  setP tiny 5 { Part.fresh with st := .running, holdReq := [.flyer 0], hold := h, holdTmo := tmo, llWant := [.bobbin 3] }

theorem test_lossless_hold : canonical (holding none false) = true ∧
    nextIs (exec (.llHoldRequest (.bobbin 3) 5) (holding none false)) (fun t => (getP t 5).holdReq == [.flyer 0, .bobbin 3] &&
      (getP t 5).llWant == []) = true ∧
    isNext (exec (.llHoldRequest .ring 5) (holding none false)) (holding none false) = true ∧
    nextIs (exec (.llHoldStart 5) (holding none false)) (fun t => (getP t 5).hold == some ⟨1000⟩ && (getP t 5).st == .running &&
      reqsOf (getR t 0) == [⟨3, 5, .halt, 0, 0, 0⟩] && t.funnel.local_.map recBody == [0x005000005]) = true ∧
    nextIs (exec (.llHoldEnd 5) (holding (some ⟨900⟩) false)) (fun t => (getP t 5).hold == none && (getP t 5).holdReq == [] &&
      reqsOf (getR t 0) == [⟨3, 5, .run, 0, 0, 0⟩] && t.funnel.local_.map recBody == [0x006000005]) = true ∧
    nextIs (exec (.llHoldTimeout 5) (setReg (holding (some ⟨900⟩) false) rTrcLlCtrl 100)) (fun t => (getP t 5).holdTmo &&
      (getP t 5).hold == none && t.funnel.local_.map recBody == [0x006000105]) = true ∧
    isNext (exec (.llHoldTimeout 5) (setReg (holding (some ⟨900⟩) false) rTrcLlCtrl 101)) (setReg (holding (some ⟨900⟩) false) rTrcLlCtrl 101)
      = true ∧
    nextIs (exec (.llHoldEnd 5) (holding none true)) (fun t => (getP t 5).holdTmo == false && (getP t 5).holdReq == []) = true ∧
    isNext (exec (.llHoldStart 5) tiny) tiny = true ∧ isNext (exec (.llHoldTimeout 5) tiny) tiny = true := by decide +kernel

/-- The tiny hub with registers written at core 3 and a step count of 9. -/
def powered : State := setAg (setRP (setS tiny 3 { Site.fresh with lock := true }) 5 0 { RPart.fresh with stepNo := 9, owesRun := true }) 3 aAgEvtMap 5

theorem test_region_power : canonical powered = true ∧ isNext (exec (.regionPowerOn 0) powered) powered = true ∧
    nextIs (exec (.regionPowerOff 0) powered) (fun t => (getR t 0).powerOff && ag t 3 aAgEvtMap == 0 && getS t 3 == Site.fresh &&
      (getRP t 5 0).stepNo == 9 && (getRP t 5 0).owesRun == false && (t.funnel.local_.map recBody).contains 0x002000000) = true ∧
    nextIs (exec (.regionPowerOff 0) powered) (fun t => isNext (exec (.regionPowerOff 0) t) t && nextIs (exec (.regionPowerOn 0) t) fun u =>
      (getR u 0).powerOff == false && (getRP u 5 0).stepNo == 0 && (getRP u 5 0).latch == false) = true := by decide +kernel

/-! ### Several hubs -/

/-- The tiny hub as hub 5 (device identity 0x55) joined by channel 2 to hub 3: a seam from core 0 of partition 5 to partition 7 there, and one
back. -/
def joined : State :=
  { setC (setRegF tiny rIhbId 54 48 5) 2 { Chan.fresh with up := true, peer := 3 } with
    integ := { tiny.integ with devid := 0x55, seams := [⟨0, 0, 0, 0, 8, 4, 0, 0, 2, 2, 7⟩, ⟨0, 0, 0, 0, 8, 4, 0, 0, 1, 2, 7⟩] } }

theorem test_halt_req : canonical joined = true ∧ farParts joined 2 7 = [5] ∧
    isNext (exec (.haltReq 1 0 0x99 5000 7) joined) joined = true ∧
    nextIs (exec (.haltReq 2 0 0x99 5000 7) joined) (fun t => (getP t 5).st == .halting && (getP t 5).cutNow.any (fun q => q.cutId == 0x99 &&
      q.parent == some 2 && q.deadline == some 5000) && t.knownCuts == [0x99] && reqsOf (getR t 0) == [⟨3, 5, .halt, 0, 0, 5⟩]) = true ∧
    nextIs (exec (.haltReq 2 0 0x99 5000 7) { joined with knownCuts := [0x99] }) (fun t => decide (t.parts = joined.parts) &&
      regF t rIhbStat 47 32 == 1 && (getC t 2).out.map (fun m => (bits m.hdr 63 60, m.pay)) == [(7, [0x99, 0x8000000000000000])]) = true := by
  decide +kernel

/-- A cut of partition 5 that waits for hub 3. -/
def childCut (parent : Option Nat) (dl : Option Nat) : State :=
  setP joined 5 { Part.fresh with st := .halting, cutNow := some ⟨some 500, [], false, 0x99, parent, dl, [⟨2, false, 0, false⟩, ⟨4, true, 1, false⟩], true, false⟩ }

theorem test_confirm :
    nextIs (exec (.confirm 2 0 0x99 false 6) (childCut none none)) (fun t => (getP t 5).cutNow.map Cut.children == some [⟨2, true, 6, false⟩, ⟨4, true, 1, false⟩])
      = true ∧
    nextIs (exec (.confirm 2 0 0x99 true 6) (childCut none none)) (fun t => (getP t 5).cutNow.map Cut.children == some [⟨2, true, 0, true⟩, ⟨4, true, 1, false⟩])
      = true ∧
    isNext (exec (.cutChildDeadline 5) (childCut (some 2) (some 1001))) (childCut (some 2) (some 1001)) = true ∧
    nextIs (exec (.cutChildDeadline 5) (childCut (some 2) (some 1000))) (fun t => regF t rIhbStat 31 16 == 1 &&
      (getP t 5).cutNow.map Cut.children == some [⟨2, true, 1, false⟩, ⟨4, true, 1, false⟩]) = true ∧
    nextIs (exec (.mark 2 0 0x99 7) joined) (fun t => (getC t 2).marks == [7] && (getC t 2).rxSeq == 1 && isNext (exec (.mark 2 1 0x99 7) t) (seqIn t 2 1)) = true ∧
    isNext (exec (.mark 1 0 0x99 7) joined) joined = true := by decide +kernel

/-- Partition 5 HALTED by a cut over a tree. -/
def treed (parent : Option Nat) (kids : List Nat) (rdv : List Rdv) : State :=
  setP joined 5 { Part.fresh with st := .halted, cut := true, tree := some ⟨0x99, parent, kids⟩, rdvEpoch := 3, rdv := rdv }

/-- A rendezvous of epoch 3 not yet released. -/
def rdv3 (parent : Option Nat) (kids : List Nat) (op : RdvOp) : Rdv :=
  ⟨3, op, 0x99, parent, kids, [], [], false, 100, [], 0⟩

theorem test_rendezvous : treePart (treed (some 2) [4] []) 0x99 = some 5 ∧ canonical (treed (some 2) [4] []) = true ∧
    isNext (exec (.rdvLeft 2 0 4 1 0x77) joined) (countF (seqIn joined 2 0) rIhbStat 63 48 1) = true ∧
    nextIs (exec (.rdvOpen 2 0 4 .run 0x99) (treed (some 2) [4] [])) (fun t => (getP t 5).rdv.map (fun v => (v.epoch, v.op, v.parent, v.released)) ==
      [(4, .run, some 2, false)] && (getP t 5).rdvEpoch == 4 && (getP t 5).cut == false &&
      reqsOf (getR t 0) == [⟨3, 5, .clrmark, 0, 0, 1⟩]) = true ∧
    isNext (exec (.rdvOpen 2 0 5 .run 0x99) (treed (some 2) [4] [])) (countF (seqIn (treed (some 2) [4] []) 2 0) rIhbStat 63 48 1) = true ∧
    isNext (exec (.rdvArrive 2 0 3 6 0x99) (treed none [2, 4] [rdv3 none [2, 4] .run]))
      (seqIn (treed none [2, 4] [{ rdv3 none [2, 4] .run with arrived := [(2, 6)] }]) 2 0) = true ∧
    nextIs (exec (.rdvArrive 2 0 4 6 0x99) (treed none [2] [])) (fun t => (getP t 5).rdv.map (fun v => (v.epoch, v.arrived)) == [(4, [(2, 6)])])
      = true ∧
    nextIs (exec (.rdvRelease 2 0 3 (.step 9) 0x99) (treed (some 2) [] [{ rdv3 (some 2) [] (.step 9) with missing := 1 }])) (fun t =>
      reqsOf (getR t 0) == [⟨3, 5, .step, 9, 0, 1⟩]) = true ∧
    isNext (exec (.rdvLeft 2 0 3 6 0x99) (treed (some 1) [2, 4] [{ rdv3 (some 1) [2, 4] .run with released := true }]))
      (seqIn (treed (some 1) [2, 4] [{ rdv3 (some 1) [2, 4] .run with released := true, left := [(2, 6)] }]) 2 0) = true ∧
    nextIs (exec (.rdvTimeout 5) { treed none [2, 4] [rdv3 none [2, 4] .run] with ht := 4100 }) (fun t =>
      (getP t 5).rdv.map (fun v => (v.released, v.missing)) == [(true, 2)] && (getP t 5).resuming && reqsOf (getR t 0) == [⟨3, 5, .run, 0, 0, 1⟩])
      = true ∧
    isNext (exec (.rdvTimeout 5) joined) joined = true := by decide +kernel

/-! ### Hangs and the Hank store -/

/-- Core types with a watchdog bit. -/
def hangable : State := { tiny with integ := { tiny.integ with types := [⟨0x1000000, 8, 4096, 64, some 2, 0, [], 0xF⟩] } }

theorem test_hang_declare : hangFull tiny = false ∧
    isNext (exec (.dmpReq (.tenant 1) 5) tiny) tiny = true ∧ isNext (exec (.dmpReq .root 6) tiny) tiny = true ∧
    nextIs (exec (.dmpReq .root 5) tiny) (fun t => reg t rHngHung == 0x20 && lineUp t 1 &&
      t.hang.queue.map (fun d => (d.part, d.cause, d.num, d.time)) == [(5, 3, 1, 1000)] && isNext (exec (.dmpReq .root 5) t) (countF t rHngStat 31 24 1))
      = true ∧
    nextIs (exec (.dumpReq 2 0 9 0x99) (treed (some 2) [4] [])) (fun t => reg t rHngHung == 0x20 && t.hang.queue.map Decl.cause == [4]) = true ∧
    isNext (exec (.dumpReq 3 0 9 0x99) (treed (some 2) [4] [])) (treed (some 2) [4] []) = true := by decide +kernel

theorem test_watchdog : flyerOf hangable 0x81 = some 0 ∧ wdgSite 0 5 = 0x81 ∧
    nextIs (exec (.wdgReport 0x81) hangable) (fun t => tget 0 (getF t 0).wdg 0 == 0x20 && nextIs (exec (.wdgFetch 0) t) fun u =>
      tget 0 (getF u 0).wdg 0 == 0 && lineUp u 12 && regF u rHngStat 63 48 == 1) = true ∧
    isNext (exec (.wdgReport 0x81) tiny) tiny = true ∧
    nextIs (exec (.hngCtrlWrite .root 0x20000000) tiny) (fun t => reg t rHngCtrl == 0x20000000) = true ∧
    isNext (exec (.hngCtrlWrite (.tenant 3) 0) tiny) tiny = true := by decide +kernel

/-- A mounted Hank store. -/
def mounted : State := { tiny with hank := { Hank.fresh with mount := 1 } }

/-- A mounted Hank store with two commits in order. -/
def queued : State :=
  { mounted with hank := { mounted.hank with queue := [⟨.calib, 2, 8, 900, [0x11, 0x22], some 60⟩, ⟨.l0, 1, 9, 901, [2 ^ 32], none⟩], nextC := 10 } }

theorem test_commit_admit : isNext (exec .commitAdmit mounted) mounted = true ∧
    nextIs (exec .commitAdmit { mounted with hank := { mounted.hank with inq := [⟨.journal, 2, 0, 0, [0x11], none⟩] } }) (fun t =>
      t.hank.inq == [] && t.hank.queue == [⟨.journal, 2, 1, 1000, [0x11], none⟩] && t.hank.nextC == 2) = true ∧
    isNext (exec .commitAdmit { tiny with hank := { tiny.hank with inq := [⟨.journal, 2, 0, 0, [0x11], none⟩] } })
      { tiny with hank := { tiny.hank with inq := [⟨.journal, 2, 0, 0, [0x11], none⟩] } } = true := by decide +kernel

theorem test_commit_durable : isNext (exec .commitDurable mounted) mounted = true ∧ banks queued = [0, 1, 2, 3] ∧
    nextIs (exec .commitDurable queued) (fun t => t.hank.queue.length == 1 && t.hank.durable == 8 &&
      (List.range 6).map (fun i => tget 0 t.hank.units (2 ^ 19 + 0x800 + i)) == (mkFrame 2 2 8 900 0 [0x11, 0x22])) = true := by decide +kernel

/-- The unit at 0x1234 of bank 1 reads back wrong on its next writes. -/
theorem test_write_fault : tabWf 0 mounted.hank.weak = true ∧
    nextIs (exec (.mramScrub 1 ⟨0x1234, false, 4⟩) mounted) (fun t => regF t rHnkErr 63 48 == 1 && t.hank.bad == [0x81234] && t.hank.weak == []) = true ∧
    nextIs (exec (.mramScrub 1 ⟨0x1234, false, 3⟩) mounted) (fun t => regF t rHnkErr 63 48 == 0 && t.hank.bad == [] && t.hank.weak == []) = true ∧
    nextIs (exec .commitDurable { queued with hank := { queued.hank with weak := [(2 ^ 19 + 0x802, 4)] } }) (fun t => t.hank.durable == 8 &&
      regF t rHnkErr 63 48 == 1 && tget 0 t.hank.units (2 ^ 20 + 0x803) == 0x11 && tget 0 t.hank.units (2 ^ 19 + 0x803) == 0) = true := by
  decide +kernel

theorem test_powered_tick :
    nextIs (exec .poweredTick { mounted with ht := 2 ^ 32 }) (fun t => t.hank.poweredN == 1 &&
      t.hank.queue.map (fun c => (c.area, c.origin, c.body)) == [(.counters, 9, [2, 1])]) = true ∧
    isNext (exec .poweredTick mounted) mounted = true ∧
    nextIs (exec (.mramScrub 1 ⟨0x1234, false, 0⟩) mounted) (fun t => t.hank.queue.map Commit.body == [[9, 1]]) = true ∧
    isNext (exec (.mramScrub 1 ⟨0x1234, false, 0⟩) { mounted with hank := { mounted.hank with retired := [1] } })
      { mounted with hank := { mounted.hank with retired := [1] } } = true := by decide +kernel

theorem test_power_fail :
    nextIs (exec .pfwAssert queued) (fun t => t.hank.pfw == 2 && t.hank.pfwAt == 1000 && t.hank.pinLow && lineUp t 9 && t.hank.durable == 8 &&
      t.hank.stopped == none && t.hank.queue.length == 1 && nextIs (exec .pfwAssert t) fun u => decide (u = t)) = true ∧
    nextIs (exec .pfwAssert tiny) (fun t => t.hank.pfw == 0 && t.hank.pinLow) = true ∧
    nextIs (exec .pfwGlitch tiny) (fun t => reg t rPinStat == 2 ^ 48 || regF t rPinStat 63 48 == 1) = true ∧
    isNext (exec .pfwClear { mounted with ht := 400999, hank := { mounted.hank with pfw := 2, pfwAt := 500, pfwLast := 1000 } })
      { mounted with ht := 400999, hank := { mounted.hank with pfw := 2, pfwAt := 500, pfwLast := 1000 } } = true ∧
    nextIs (exec .pfwClear { mounted with ht := 401003, hank := { mounted.hank with pfw := 2, pfwAt := 1000, pfwLast := 1001 } }) (fun t => t.hank.pfw == 0 &&
      t.hank.queue.map Commit.body == [[0x8003000000000003]]) = true ∧
    isNext (exec (.hnkPinWrite (.tenant 4) 0x100000001) mounted) mounted = true := by decide +kernel

/-! ### Triggers, edges, agents -/

/-- Comparator 0 of site 0x81 armed as a range 0x40000 to 0x40FFF with ONCE, channel 2 and START. -/
def compared : State :=
  setAg (setAg (setAg tiny 0x81 aCmpVal 0x40000) 0x81 (aCmpVal + 2) 0x40FFF) 0x81 aCmpCtrl 0x2D91

theorem test_comparator :
    ((List.range 4).filter fun k => cmpMatch compared 0x81 k .dwrite 0x40010) = [0] ∧ cmpMatch compared 0x81 0 .dread 0x40010 = false ∧
    cmpMatch compared 0x81 0 .dwrite 0x41000 = false ∧
    nextIs (exec (.comparatorHit 0x81 .dwrite 0x40FFF) compared) (fun t => bits (cmpCtrl t 0x81 0) 63 48 == 1 && bit (cmpCtrl t 0x81 0) 0 == false &&
      (getF t 0).evts == [⟨0, 2, 1⟩]) = true ∧
    isNext (exec (.comparatorHit 0x81 .dread 0x40010) compared) compared = true ∧
    isNext (exec (.comparatorHit 0x7F .dwrite 0x40010) compared) compared = true := by decide +kernel

theorem test_core_event :
    nextIs (exec (.coreEvent 0x81 2) (setAg tiny 0x81 aAgEvtMap 0xD0)) (fun t => (getF t 0).evts == [⟨0, 5, 2⟩]) = true ∧
    isNext (exec (.coreEvent 0x7F 2) tiny) tiny = true ∧
    nextIs (exec (.flyXtFire 0 0x82) tiny) (fun t => (getF t 0).evts == [⟨0, 1, 2⟩, ⟨0, 7, 2⟩]) = true := by decide +kernel

/-- Channel 1 of cluster 0 due, with EN, HALT, XTRIG and NOTIFY. -/
def firing (v : Word) : State := setFlyReg (setF tiny 0 { Flyer.fresh with evts := [⟨0, 1, 0⟩] }) 0 (aFlyXtCtrl + 1) v

theorem test_channel_fire : servedBy (firing 0x17) 0 = some 0 ∧ canonical (firing 0x17) = true ∧
    nextIs (exec (.channelFire 0 1) (firing 0x17)) (fun t => (getF t 0).evts == [] && bits (flyReg t 0 (aFlyXtCtrl + 1)) 63 48 == 1 &&
      lineUp t 4 && bit (tget 0 t.evXt (xtKey 8 0)) 0 && (getS t 0x81).xtrigAt == some 1 && (getP t 5).st == .halting &&
      (getR t 0).queue == [⟨2, 5, .halt, 0, 0, 2⟩]) = true ∧
    isNext (exec (.channelFire 0 1) (firing 0x16)) (setF (firing 0x16) 0 Flyer.fresh) = true ∧
    isNext (exec (.channelFire 0 1) (setF (firing 0x17) 0 { Flyer.fresh with evts := [⟨0, 1, 1⟩] }))
      (setF (firing 0x17) 0 { Flyer.fresh with evts := [⟨0, 1, 1⟩] }) = true := by decide +kernel

theorem test_guest_relay :
    nextIs (exec (.guestTriggerRelay 0x81 3) (setF tiny 0 { Flyer.fresh with relay := [(0x81, 3)] })) (fun t => (getF t 0).relay == [] &&
      (getF t 0).evts == [⟨0, 3, 2⟩]) = true ∧
    isNext (exec (.guestTriggerRelay 0x81 3) tiny) tiny = true := by decide +kernel

theorem test_freeze_late :
    nextIs (exec (.freezeLate 0x81) (setR (setRP tiny 5 0 { RPart.fresh with latch := true, latchAt := 36 }) 0 { Region.fresh with edge := 100 }))
      (fun t => (getS t 0x81).freezeLate) = true ∧
    isNext (exec (.freezeLate 0x81) tiny) tiny = true := by decide +kernel

theorem test_schedule_step : sitesIn tiny 5 0 ≠ [] ∧
    nextIs (exec (.scheduleStep 0 ⟨[0x81], [], [], []⟩) tiny) (fun t => (getR t 0).edge == 1 && (getRP t 5 0).stepNo == 1 && (getS t 0x81).lock &&
      (getS t 0x82).lock == false && ag t 0x81 aAoc == 1 && ag t 0x81 (aAoc + 1) == 0) = true ∧
    nextIs (exec (.scheduleStep 0 ⟨[], [], [], []⟩) halted) (fun t => (getRP t 5 0).stepNo == 0 && ag t 0x81 (aAoc + 1) == 1) = true ∧
    nextIs (exec (.scheduleStep 0 ⟨[], [], [], []⟩) (setRP tiny 5 0 { RPart.fresh with stepNo := 2 ^ 48 - 1, stepOn := true, stepLeft := 1 })) (fun t =>
      (getRP t 5 0).stepNo == 0 && (getRP t 5 0).latch && (getRP t 5 0).stepLeft == 0) = true ∧
    isNext (exec (.scheduleStep 1 ⟨[], [], [], []⟩) (setR tiny 1 { Region.fresh with powerOff := true })) (setR tiny 1 { Region.fresh with powerOff := true })
      = true := by decide +kernel

/-- One operation of Whorl 0 on its way to Flyer 0: AG_EVT_MAP of site 0x81 takes 0xD0. -/
def sentOp (type : OpType) (reg : Nat) (data : List Word) : Op :=
  { mkOp 40 0 40000 (.ticket 0 1) (one 0x41) [0x81] type reg with iseq := 9, todo := [0], nodes := [0], data := data }

theorem test_agent_receive :
    nextIs (exec (.agentOpReceive 0 0 9) { tiny with ops := [sentOp .write aAgEvtMap [0xD0]] }) (fun t => ag t 0x81 aAgEvtMap == 0xD0 &&
      agBank t 0x81 0 aAgLast == 0x0009000000000000) = true ∧
    nextIs (exec (.agentOpReceive 0 0 9) { tiny with ops := [sentOp .read 0x81 []] }) (fun t => (getS t 0x81).ri.map (fun q => (q.creg, q.wr, q.sent)) ==
      [(1, false, true)]) = true ∧
    isNext (exec (.agentOpReceive 0 0 9) (setF tiny 0 { Flyer.fresh with failed := true })) (setF tiny 0 { Flyer.fresh with failed := true }) = true := by
  decide +kernel

/-- Site 0x81 at edge 10 with an inspection request sent at edge 5. -/
def asked : State :=
  setR (setS tiny 0x81 { Site.fresh with ri := [⟨40, 2, 7, 0x10, false, false, 0, false, true, 5⟩] }) 0 { Region.fresh with edge := 10 }

theorem test_inspection :
    nextIs (exec (.inspectionAck 0x81 2 0x55) asked) (fun t => (getS t 0x81).ri == [] && agBank t 0x81 2 aAgLast == 0x0007000000000002) = true ∧
    isNext (exec (.inspectionTimeout 0x81) asked) asked = true ∧
    nextIs (exec (.inspectionTimeout 0x81) (setR asked 0 { Region.fresh with edge := 70 })) (fun t => (getS t 0x81).ri == [] &&
      agBank t 0x81 2 aAgLast == 0x0007000000000005) = true ∧
    isNext (exec (.inspectionAck 0x81 0 0) (setR asked 0 { Region.fresh with edge := 70 })) (setR asked 0 { Region.fresh with edge := 70 }) = true ∧
    nextIs (exec (.inspectionAck 0x81 0 0x55) (setR asked 0 { Region.fresh with edge := 69 })) (fun t => (getS t 0x81).ri == []) = true ∧
    isNext (exec (.inspectionAck 0x82 0 0) asked) asked = true := by decide +kernel

/-- A transfer of three words at site 0x81, one issued. -/
def moving : State :=
  setS tiny 0x81 { Site.fresh with lmIdle := true, lm := [⟨40, 2, 7, false, 0x100, 3, [], 1, [], [], false, false, some 1000, 0, false⟩] }

theorem test_local_memory :
    nextIs (exec (.lmSteal 0x81) moving) (fun t => (getS t 0x81).lm.map LmReq.issued == [2]) = true ∧
    nextIs (exec (.lmReadReturn 0x81 2 0x99) moving) (fun t => (getS t 0x81).lm.map (fun q => (q.got, q.bad)) == [([0x99], [0])]) = true ∧
    nextIs (exec (.lmDeadline 0x81) moving) (fun t => (getS t 0x81).lm == [] && bits (agBank t 0x81 2 aAgLast) 63 48 == 7 &&
      bits (agBank t 0x81 2 aAgLast) 23 0 == 7) = true ∧
    isNext (exec (.lmDeadline 0x81) { moving with ht := 999 }) { moving with ht := 999 } = true ∧
    isNext (exec (.lmSteal 0x82) moving) moving = true := by decide +kernel

/-! ### Core attach -/

/-- A gated core whose wake has been asked, with one request waiting. -/
def sleeping (ack : Bool) : State :=
  { setS tiny 0x81 { Site.fresh with gated := true, wakeReq := true, wakeAt := 1000, wakeAck := ack,
                                     ri := if ack then [] else [⟨40, 2, 7, 0x10, false, false, 0, true, true, 5⟩] } with ht := 5000 }

theorem test_wake :
    nextIs (exec (.wakeAck 0x81) (sleeping false)) (fun t => (getS t 0x81).wakeAck && (getS t 0x81).ri.map RiReq.waking == [false]) = true ∧
    isNext (exec (.wakeAck 0x81) tiny) tiny = true ∧
    nextIs (exec (.wakeRelease 0x81) (sleeping true)) (fun t => (getS t 0x81).wakeReq == false && (getS t 0x81).wakeAck == false) = true ∧
    nextIs (exec (.wakeTimeout 0x81) (sleeping false)) (fun t => (getS t 0x81).wakeReq == false && (getS t 0x81).ri == [] &&
      agBank t 0x81 2 aAgLast == 0x0007000000000006) = true ∧
    isNext (exec (.wakeTimeout 0x81) { sleeping false with ht := 4999 }) { sleeping false with ht := 4999 } = true := by decide +kernel

theorem test_core_reset :
    nextIs (exec (.coreResetAssert 0x81) (setS moving 0x81 { getS moving 0x81 with lock := true, cmdOpen := [(1, some 5)] })) (fun t =>
      (getS t 0x81).inReset && (getS t 0x81).lm == [] && (getS t 0x81).cmdOpen == [] && (getS t 0x81).lock == false &&
      bits (agBank t 0x81 2 aAgLast) 23 0 == 8 &&
      nextIs (exec (.coreResetRelease 0x81) t) fun u => (getS u 0x81).inReset == false && (getS u 0x81).rstEdge == some 0) = true ∧
    isNext (exec (.coreResetRelease 0x81) tiny) tiny = true := by decide +kernel

theorem test_terminal :
    nextIs (exec (.vtTxWrite 0x81 0x0100000000000041) tiny) (fun t => (getS t 0x81).vtTx == [(0x0100000000000041, 1000)] &&
      nextIs (exec (.vtDrain 0x81) t) fun u => (getS u 0x81).vtTx == [] && (getS u 0x81).term.map (fun r => (recSrc r, recType r, r.pay)) ==
        some (0x4001 + 4 * 0x41, 5, [1000, 0x0100000000000041])) = true ∧
    nextIs (exec (.vtTxWrite 0x81 1) (setS tiny 0x81 { Site.fresh with vtTx := [(1, 1), (1, 1), (1, 1), (1, 1)] })) (fun t =>
      bits (ag t 0x81 aVtStat) 63 48 == 1) = true ∧
    nextIs (exec (.vtRxPop 0x81) (setS tiny 0x81 { Site.fresh with vtRx := [7, 8] })) (fun t => (getS t 0x81).vtRx == [8]) = true ∧
    isNext (exec (.vtDrain 0x81) tiny) tiny = true := by decide +kernel

theorem test_core_power :
    nextIs (exec (.corePowerChange 0x81 true true) tiny) (fun t => (getS t 0x81).lp && (getS t 0x81).gated) = true ∧
    isNext (exec (.corePowerChange 0x7F true true) tiny) tiny = true := by decide +kernel

/-! ### Trace -/

/-- Core (3, 10) on the full grid, 37 edges after its last record, five branches pending: the example of chapter 5. -/
def flowing : State :=
  setR (setS (setAg State.reset 0x18A aBtCtrl 1) 0x18A { Site.fresh with srcs := [(0, { Src.fresh with on := true, last := 100, count := 3, tnt :=
    [⟨true, 120, 200, none⟩, ⟨false, 121, 201, none⟩, ⟨true, 122, 202, none⟩, ⟨true, 123, 203, none⟩, ⟨false, 124, 204, none⟩] })] }) 0
    { Region.fresh with edge := 137 }

theorem test_flow_ind : nextIs (exec (.flowEvent 0x18A none none (some 0x2F40)) flowing) (fun t =>
    (getS t 0x18A).fifo == [⟨0x432813102528000D, [0x2F40]⟩] && tntOf t 0x18A == []) = true := by decide +kernel

theorem test_flow :
    nextIs (exec (.flowEvent 0x18A (some 0x80) (some true) none) flowing) (fun t => (getS t 0x18A).fifo == [] &&
      (getS t 0x18A).lastAddr == some 0x80 && (tntOf t 0x18A).length == 6) = true ∧
    nextIs (exec (.flowEvent 0x81 (some 0x80) (some true) none) tiny) (fun t => (getS t 0x81).lastAddr == some 0x80 && tntOf t 0x81 == []) = true ∧
    isNext (exec (.flowEvent 0x7F none none none) tiny) tiny = true := by decide +kernel

theorem test_cmd_event :
    nextIs (exec (.cmdEvent 0x81 2 true false 0x21) (setR (setAg tiny 0x81 aBtCtrl 0x4002) 0 { Region.fresh with edge := 40 })) (fun t =>
      (getS t 0x81).fifo == [mkRec (4 * 0x41 + 2) 4 1 (40 * 2 ^ 24) [0x21]] && tget none (getS t 0x81).cmdOpen 2 == some 0x21 &&
      nextIs (exec (.cmdEvent 0x81 2 false true 0) t) fun u => tget none (getS u 0x81).cmdOpen 2 == none &&
        tget none (getS u 0x81).lastIds 2 == some 0x21) = true ∧
    isNext (exec (.cmdEvent 0x81 2 false false 0) tiny) tiny = true := by decide +kernel

/-- A flow record. -/
def rec1 : Rec := mkRec (0x4000 + 4 * 0x41) 2 3 0 [0x2F40]

theorem test_flyer_take : sitesOf tiny 0 = [0, 1, 2, 3, 128, 129, 130, 131, 256, 257, 258, 259, 384, 385, 386, 387] ∧
    nextIs (exec (.flyerTake 0) (setS tiny 0x81 { Site.fresh with fifo := [rec1] })) (fun t => (getS t 0x81).fifo == [] &&
      (getF t 0).q == [⟨rec1, 1000⟩]) = true ∧
    isNext (exec (.recordAgeDrop 0) tiny) tiny = true ∧
    nextIs (exec (.recordAgeDrop 0) { setF tiny 0 { Flyer.fresh with q := [⟨rec1, 1000⟩] } with ht := 1000 + 2 ^ 22 }) (fun t => (getF t 0).q == [] &&
      (tget none (getF t 0).gaps (recSrc rec1)).map Gap.reason == some 2) = true ∧
    isNext (exec (.recordAgeDrop 0) { setF tiny 0 { Flyer.fresh with q := [⟨rec1, 1000⟩] } with ht := 999 + 2 ^ 22 })
      { setF tiny 0 { Flyer.fresh with q := [⟨rec1, 1000⟩] } with ht := 999 + 2 ^ 22 } = true := by decide +kernel

theorem test_group_send :
    nextIs (exec (.groupSend 0) (setF tiny 0 { Flyer.fresh with q := [⟨rec1, 1⟩, ⟨rec1, 2⟩], gseq := 7 })) (fun t => (getF t 0).q == [] &&
      (getF t 0).gseq == 8 && (getF t 0).local_ == [mkGroup 0 7 [rec1, rec1]] &&
      (mkGroup 0 7 [rec1, rec1]).drop 1 == [rec1.hdr, 0x2F40, rec1.hdr, 0x2F40, 0]) = true ∧
    isNext (exec (.groupSend 0) tiny) tiny = true := by decide +kernel

/-- Two groups at collector 16 of a two-row grid. -/
def collecting (l t : List (List Word)) (d : Int) : State :=
  { setF tiny 16 { Flyer.fresh with local_ := l, through := t, colD := d } with integ := { tiny.integ with rows := 8 } }

theorem test_collector :
    nextIs (exec (.collectorArbitrate 16) (collecting [[1, 2]] [[3, 4, 5, 6]] 0)) (fun t => (getF t 16).local_ == [] && (getF t 16).colD == 1 &&
      tget [] t.funnel.arrive 0 == [[1, 2]]) = true ∧
    nextIs (exec (.collectorArbitrate 16) (collecting [[1, 2]] [[3, 4, 5, 6]] 1)) (fun t => (getF t 16).through == [] && (getF t 16).colD == -1 &&
      tget [] t.funnel.arrive 0 == [[3, 4, 5, 6]]) = true ∧
    isNext (exec (.collectorArbitrate 0) tiny) tiny = true ∧
    nextIs (exec (.traceWordError 16 ⟨0, [1, 2]⟩) (collecting [] [[3, 4]] 0)) (fun t => (getF t 16).through == [] && reg t rSpnTrcUe == 1) = true ∧
    nextIs (exec (.traceLinkFail 0) tiny) (fun t => (getF t 0).trcFail && isNext (exec (.traceLinkFail 0) t) t) = true ∧
    isNext (exec (.traceLinkFail 0x55) tiny) tiny = true := by decide +kernel

/-- A group of Flyer 0 at the end of column 0. -/
def arriving (gseq : BitVec 16) : State :=
  { tiny with funnel := { Funnel.fresh with arrive := [(0, [mkGroup 0 gseq [rec1]])], gseq := [(0, 7)] } }

theorem test_group_arrival :
    nextIs (exec (.groupArrival 0) (arriving 7)) (fun t => tget [] t.funnel.cols 0 == [rec1] && tget 0 t.funnel.gseq 0 == 8 &&
      t.funnel.local_ == []) = true ∧
    nextIs (exec (.groupArrival 0) (arriving 9)) (fun t => regF t rTrcFunStat 31 16 == 2 && t.funnel.local_.map recType == [6]) = true ∧
    isNext (exec (.groupArrival 1) tiny) tiny = true := by decide +kernel

theorem test_funnel_parse :
    nextIs (exec (.funnelParse 16) (hevt tiny 0x123 4 [])) (fun t => t.funnel.local_ == [] &&
      t.funnel.store.map (fun x => (recBody x.r, x.e, x.inp)) == [(0x123000004, 1000, 16)]) = true ∧
    nextIs (exec (.funnelParse 2) { tiny with funnel := { Funnel.fresh with cols := [(2, [mkRec 0x432A 0xC 4 0 [1]])] } }) (fun t =>
      t.funnel.dq.map recType == [0xC] && t.funnel.store == []) = true ∧
    isNext (exec (.funnelParse 3) tiny) tiny = true := by decide +kernel

/-- One record in the reorder store, window 400. -/
def stored : State :=
  { setReg (setReg tiny rTrcFunCtrl (400 * 2 ^ 16)) rTrcWinCtrl 1 with
    funnel := { Funnel.fresh with store := [⟨rec1, 900, 0, 1⟩, ⟨rec1, 600, 3, 2⟩] }, buffer := { Buffer.fresh with st := 1 } }

theorem test_funnel_release : (firstOut stored.funnel.store).map Store.seq = some 2 ∧
    isNext (exec .funnelRelease tiny) tiny = true ∧
    isNext (exec .funnelRelease { stored with ht := 999 }) { stored with ht := 999 } = true ∧
    nextIs (exec .funnelRelease stored) (fun t => t.funnel.store.map Store.seq == [1]) = true ∧
    nextIs (exec .funnelRelease (setReg stored rTrcSinkCfg 0x108)) (fun t => (getSink t 0).recs == [rec1] &&
      (bufferFlush t).buffer.held == 1 && tget 0 (bufferFlush t).buffer.units 2 == rec1.hdr && tget 0 (bufferFlush t).buffer.units 3 == 0x2F40) = true := by decide +kernel

/-- A gap pending since hub time 0. -/
def gap0 : Gap := ⟨0, false, false, false, 3, 0, 12, 3, 0⟩

theorem test_gap_flush :
    nextIs (exec (.gapFlush (.bobbin 0x81) 0x4104) { setS tiny 0x81 { Site.fresh with gaps := [(0x4104, some gap0)] } with ht := 40000 }) (fun t =>
      (getS t 0x81).fifo == [mkRec 0x4104 6 3 3 [0, 12]] && (getS t 0x81).gaps == []) = true ∧
    isNext (exec (.gapFlush (.bobbin 0x81) 0x4104) { setS tiny 0x81 { Site.fresh with gaps := [(0x4104, some gap0)] } with ht := 39999 })
      { setS tiny 0x81 { Site.fresh with gaps := [(0x4104, some gap0)] } with ht := 39999 } = true ∧
    nextIs (exec (.gapFlush (.flyer 0) 0x4104) { setF tiny 0 { Flyer.fresh with gaps := [(0x4104, some gap0)] } with ht := 40000 }) (fun t =>
      (getF t 0).q.map QRec.r == [mkRec 0x4104 6 3 3 [0, 12]] && (getF t 0).gaps == []) = true ∧
    nextIs (exec (.gapFlush .ring 0x8002) { tiny with ring := ⟨[], [(0x8002, some gap0)], [], 0, 0⟩, ht := 40000 }) (fun t =>
      t.ring == ⟨[mkRec 0x8002 6 3 3 [0, 12]], [], [], 0, 0⟩) = true := by decide +kernel

/-- A buffer armed in WINDOW mode with a rise of its line waiting. -/
def window : State :=
  { setReg tiny rTrcWinCtrl 2 with buffer := { Buffer.fresh with st := 2, rises := [970, 980] } }

theorem test_buffer :
    nextIs (exec (.bufferModeWrite .root 0x1000002) tiny) (fun t => t.buffer.st == 2 && bufMode t == 2) = true ∧
    isNext (exec (.bufferModeWrite (.tenant 3) 2) tiny) tiny = true ∧
    isNext (exec (.trcWinFire .root) tiny) tiny = true ∧
    nextIs (exec (.trcWinFire .root) window) (fun t => t.buffer == { window.buffer with st := 3, trigAt := some 1000 } &&
      t.funnel.local_.map Rec.pay == [[1000]]) = true ∧
    nextIs (exec .bufferTrigger { window with buffer := { window.buffer with st := 3 } }) (fun t => regF t rTrcWinStat 63 48 == 1) = true ∧
    nextIs (exec .bufferTrigger window) (fun t => t.buffer == { window.buffer with st := 3, trigAt := some 970, rises := [980] } &&
      t.funnel.local_.map (fun r => (recType r, bit r.hdr 29, r.pay)) == [(0xD, false, [970])]) = true ∧
    isNext (exec .bufferTrigger tiny) tiny = true ∧
    nextIs (exec (.trcBufRdataRead ⟨.root, 0⟩) (regPut tiny (keyWho .root rTrcBufRaddr) rTrcBufRaddr 0xFFFFFF)) (fun t =>
      regGet t (keyWho .root rTrcBufRaddr) rTrcBufRaddr == 0) = true := by decide +kernel

theorem test_capture_end :
    isNext (exec .captureEnd window) window = true ∧
    nextIs (exec .captureEnd { window with buffer := { Buffer.fresh with st := 3, full := true } }) (fun t => t.buffer.st == 4 && lineUp t 3) = true ∧
    nextIs (exec .captureEnd { setReg window rTrcWinTmo 30 with buffer := { Buffer.fresh with st := 3, trigAt := some 970 } }) (fun t =>
      t.buffer.st == 4 && t.buffer.trigAt == none) = true ∧
    isNext (exec .captureEnd { setReg window rTrcWinTmo 31 with buffer := { Buffer.fresh with st := 3, trigAt := some 970 } })
      { setReg window rTrcWinTmo 31 with buffer := { Buffer.fresh with st := 3, trigAt := some 970 } } = true ∧
    nextIs (exec (.bufferBankRetire 3) tiny) (fun t => t.buffer.out == [3] && isNext (exec (.bufferBankRetire 3) t) t) = true := by decide +kernel

/-- A spill ring of 4 blocks with one block waiting. -/
def spilling : State :=
  setSink (setReg (setReg tiny rTrcSpillBase 0x10000) rTrcSpillSize 4) 2 { Sink.fresh with q := List.replicate 512 5 }

theorem test_spill : isNext (exec .spillBlockWrite tiny) tiny = true ∧ mpBusy spilling .spill = false ∧ spillFull spilling = false ∧
    nextIs (exec .spillBlockWrite spilling) (fun t => (getSink t 2).q == [] && t.master.waiting.map (fun m => (m.addr, m.beats, m.data.length)) ==
      [(0x10000, 32, 512)]) = true := by decide +kernel

/-! ### Card engines and counters -/

/-- Flyer 0's engine on entry 0 of core 0x41, which matches operator 0x21, with or without an open window. -/
def tapped (tag : Option (BitVec 56)) (win : Option Window) : State :=
  setCard (setAg tiny 0x81 (tsIdx aTsMatch 0) 0x8400000000000021) 0 { Card.fresh with sel := some (0x81, 0), tag := tag, win := win }

/-- An open window of binary32 elements. -/
def win1 : Window := ⟨0x8400000000000021, 0, 0, 0, 0x21, 900, 900, some 0, 2, 0, [(0, 1), (1, 2)], false, false, false, [], false⟩

theorem test_tap_edge : tagMatches 0x8400000000000021 0x21 = true ∧ tagMatches 0x8400000000000021 0x22 = false ∧ fmtWidth 0 = some 32 ∧
    nextIs (exec (.tapEdge 0 ⟨some 0x21, 0, [], 0, false⟩) (tapped none none)) (fun t => (getF t 0).card.win.map (fun w => (w.tag, w.n)) ==
      some (0x21, 0)) = true ∧
    nextIs (exec (.tapEdge 0 ⟨none, 3, [1, 2, 3], 0, false⟩) (tapped none none)) (fun t => (getF t 0).card.untag == 3) = true ∧
    nextIs (exec (.tapEdge 0 ⟨none, 2, [7, 8], 0, false⟩) (tapped (some 0x21) (some win1))) (fun t => (getF t 0).card.win.map (fun w => (w.n, w.elems)) ==
      some (4, [(0, 1), (1, 2), (2, 7), (3, 8)])) = true ∧
    isNext (exec (.tapEdge 0 ⟨none, 0, [], 0, false⟩) tiny) tiny = true ∧
    isNext (exec (.tapEdge 0 ⟨none, 1, [1], 0, false⟩) (setS (tapped none none) 0x81 { Site.fresh with inReset := true }))
      (setS (tapped none none) 0x81 { Site.fresh with inReset := true }) = true := by decide +kernel

theorem test_window_close : nextIs (exec (.tapEdge 0 ⟨none, 0, [], 0, true⟩) (tapped (some 0x21) (some win1))) (fun t =>
    (getF t 0).card.win == none && (getF t 0).card.tag == none &&
    (getF t 0).card.out.map (fun l => l.map fun r => (recSrc r, recType r, recUnits r)) == [[(0x8001, 0xA, 13)]]) = true := by decide +kernel

theorem test_tap_rotate :
    nextIs (exec (.tapRotate 0) (setAg tiny 0x81 (tsIdx aTsMatch 0) 0xA400000000000021)) (fun t => (getF t 0).card.sel == some (0x81, 0) &&
      (getS t 0x81).tapEn && (getS t 0x81).tapSel == 1) = true ∧
    isNext (exec (.tapRotate 0) tiny) tiny = true ∧ isNext (exec (.tapRotate 0) (tapped none none)) (tapped none none) = true := by decide +kernel

theorem test_drift :
    isNext (exec (.driftCompare 5) tiny) tiny = true ∧
    nextIs (exec (.driftCompare 5) { tiny with funnel := { Funnel.fresh with drifts := [(5, [rec1])] } }) (fun t => t.funnel.drifts == []) = true ∧
    isNext (exec (.driftCompare 6) { tiny with funnel := { Funnel.fresh with drifts := [(5, [rec1])] } })
      { tiny with funnel := { Funnel.fresh with drifts := [(5, [rec1])] } } = true ∧
    isNext (exec (.driftLevelDeferred 0 1) tiny) tiny = true ∧
    nextIs (exec (.driftLevelDeferred 0 1) (setF tiny 0 { Flyer.fresh with drift := [(1, (961, 1))] })) (fun t =>
      tget (0, 0) (getF t 0).drift 1 == (1001, 0) && tget (false, ⟨false, 0⟩) (getF t 0).driftLv 1 == (true, ⟨false, 0⟩)) = true ∧
    isNext (exec (.driftLevelDeferred 0 1) (setF tiny 0 { Flyer.fresh with drift := [(1, (962, 1))] }))
      (setF tiny 0 { Flyer.fresh with drift := [(1, (962, 1))] }) = true := by decide +kernel

theorem test_perf_strobe : pcMode (setAg tiny 0x81 (aPcCfg + 1) 0x49) 0x81 1 = 1 ∧
    nextIs (exec (.perfStrobe 0x81 0x200) (setAg (setAg tiny 0x81 (aPcCfg + 1) 0x49) 0x81 (aPc + 1) 0xFFFFFFFFFFFF)) (fun t => ag t 0x81 (aPc + 1) == 0) = true ∧
    nextIs (exec (.perfStrobe 0x81 0x200) (setAg tiny 0x81 (aPcCfg + 1) 0x49)) (fun t => ag t 0x81 (aPc + 1) == 1 &&
      nextIs (exec (.perfStrobe 0x81 0x200) t) fun u => ag u 0x81 (aPc + 1) == 1) = true ∧
    isNext (exec (.perfStrobe 0x7F 0x200) tiny) tiny = true := by decide +kernel

/-- The always-on table enabled at hub-memory offset 0x8000. -/
def counting : State := setF (setReg tiny rCntAoCtrl 0x80008000) 0 { Flyer.fresh with sums := [(0, 11), (7, 17)] }

theorem test_ao_table :
    nextIs (exec (.aoBoundary 0) counting) (fun t => tget none (getF t 0).snap 0 == some ⟨1000, [11, 0, 0, 0, 0, 0, 0, 17], 0⟩ &&
      isNext (exec (.aoBoundary 0) t) t && nextIs (exec (.aoEntryWrite 0) t) fun v => (tget none (getF v 0).snap 0).map Snap.left == some 1 && readLe v.hubMem 0x8000 8 == 0 &&
      nextIs (exec (.aoEntryWrite 0) v) fun u => tget none (getF u 0).snap 0 == none &&
        readUnits u.hubMem 0x8000 10 == [0x1005, 1000, 11, 0, 0, 0, 0, 0, 0, 17] && reg u rCntDieSum == 11) = true ∧
    nextIs (exec (.aoBoundary 0) tiny) (fun t => (getF t 0).snap == []) = true ∧ isNext (exec (.aoEntryWrite 0) tiny) tiny = true := by decide +kernel

/-- Sampling on at site 0x81 alone, on a grid of one cluster. -/
def sampling : State := setAg (setReg tiny rCntSmpCtrl 0x9C4000000001) 0x81 aCntBctrl 1

theorem test_sample_edge :
    nextIs (exec (.sampleEdge 0 []) sampling) (fun t => (getS t 0x81).sample.any (fun r => recType r.1 == 0xB && recSrc r.1 == 0x8002 && r.2 == 0) &&
      bits (ag t 0x81 aCntBstat) 31 0 == 1 && isNext (exec (.sampleEdge 0 []) t) t) = true ∧
    isNext (exec (.sampleEdge 0 []) tiny) tiny = true := by decide +kernel

/-- A ring of one block at hub-memory offset 0x1000, WR 511. -/
def ringed : State := { setReg (setReg (setReg tiny rCntRingBase 0x1000) rCntRingSize 1) rCntRingPtr (100 * 2 ^ 32 + 511) with ring := ⟨[rec1], [], [], 0, 0⟩ }

theorem test_ring_write : ringSize ringed = 512 ∧ ringErr ringed = false ∧
    nextIs (exec .ringWrite ringed) (fun t => t.ring.q == [] && regF t rCntRingPtr 23 0 == 1 && readLe t.hubMem (0x1000 + 8 * 511) 8 == rec1.hdr.toNat &&
      readLe t.hubMem 0x1000 8 == 0x2F40) = true ∧
    isNext (exec .ringWrite tiny) tiny = true := by decide +kernel

/-! ### NAND devices, the read window, the dump program -/

/-- Device 0 identified, with 20 blocks of 64 pages. -/
def nandy (n : Nand) : State :=
  { tiny with integ := { tiny.integ with nBlocks := 20, nPages := 64 }, hank := { Hank.fresh with mount := 2 },
              nands := [(0, { n with mounted := true })] }

/-- Block 3 holds page 0 of dump 7. -/
def used : Nand :=
  { Nand.fresh with blks := [(3, ⟨2, 9, 0x1FFFF, 0, [⟨4, 7, 0, 0, [0x55], false⟩]⟩)], seq := 5 }

/-- An operation of a kind on page 0 of a block, begun at hub time 0. -/
def busyNand (kind blk : Nat) : Nand := { used with opKind := kind, opBlk := blk, buf := [1, 2] }

theorem test_hank_mount : canonical tiny = true ∧ banks tiny = [0, 1, 2, 3] ∧
    nextIs (exec .hankMount tiny) (fun t => t.hank.mount == 1 && t.hank.durable == 0 && t.hank.dumpNext == 1 && t.hank.pfw == 0) = true ∧
    isNext (exec .hankMount mounted) mounted = true ∧ isNext (exec .nandMount tiny) tiny = true ∧
    nextIs (exec .nandMount mounted) (fun t => t.hank.mount == 2 && (getN t 0).mounted && (getN t 1).mounted && !(getN t 0).out) = true ∧
    nextIs (exec .nandMount { mounted with integ := { mounted.integ with nPages := 63 } }) (fun t => (getN t 0).out && (getN t 1).out) = true := by
  decide +kernel

theorem test_mram_retire :
    nextIs (exec (.mramBankRetire 2) mounted) (fun t => t.hank.retired == [2] && lineUp t 5) = true ∧
    nextIs (exec (.mramBankRetire 2) { mounted with hank := { mounted.hank with retired := [0, 1, 3] } }) (fun t =>
      banks t == [] && t.hank.queue == [] && t.hank.inq == []) = true ∧
    isNext (exec (.mramBankRetire 2) { mounted with hank := { mounted.hank with retired := [2] } })
      { mounted with hank := { mounted.hank with retired := [2] } } = true := by decide +kernel

theorem test_status_poll : nandUp (nandy used) 0 = true ∧ canonical (nandy used) = true ∧ tabWf NBlk.fresh used.blks = true ∧
    isNext (exec (.xspiStatusPoll 1 true) (nandy used)) (nandy used) = true ∧
    isNext (exec (.xspiStatusPoll 0 false) (nandy (busyNand 1 2))) (nandy (busyNand 1 2)) = true ∧
    nextIs (exec (.xspiStatusPoll 0 true) (nandy { used with want := some (3, 0) })) (fun t => (getN t 0).opKind == 3 &&
      (getN t 0).opBlk == 3 && (getN t 0).opPage == 0 && (getN t 0).opAt == 1000) = true ∧
    nextIs (exec (.xspiStatusPoll 0 true) { nandy (busyNand 1 2) with hank := { Hank.fresh with mount := 2, stream := some ⟨7, 1, 0, 2, none⟩ } })
      (fun t => (getB t 0 2).pages == [⟨5, 7, 1, 0, [1, 2], false⟩] && (getN t 0).seq == 6) = true ∧
    nextIs (exec (.xspiStatusPoll 0 true) (nandy (busyNand 2 3))) (fun t => (getB t 0 3).pages == [] && (getN t 0).opKind == 0 &&
      t.hank.queue.map (fun c => (c.area, c.body)) == [(.logstate, [0, 0, 3, word (10 * 2 ^ 44 + 0x1FFFF * 2 ^ 27)])]) = true ∧
    nextIs (exec (.xspiStatusPoll 0 true) { nandy (busyNand 3 3) with hank := { Hank.fresh with mount := 2, pfw := 2 } })
      (fun t => (getN t 0).opKind == 0 && (getN t 0).want == none && (getN t 0).cache == some (3, 0)) = true := by decide +kernel

theorem test_op_timeout :
    isNext (exec (.xspiOpTimeout 0) { nandy (busyNand 3 3) with ht := 399999 }) { nandy (busyNand 3 3) with ht := 399999 } = true ∧
    nextIs (exec (.xspiOpTimeout 0) { nandy (busyNand 3 3) with ht := 400000 }) (fun t => (getN t 0).cacheBad && (getN t 0).opKind == 0 &&
      regF t rXspStat 63 48 == 1 && (getB t 0 3).pages.map NPage.bad == [true] && regF t rHnkErr 31 16 == 1) = true ∧
    nextIs (exec (.xspiOpTimeout 0) { nandy (busyNand 1 3) with ht := 8000000 }) (fun t => (getB t 0 3).pages == [] && (getN t 0).opKind == 0 &&
      regF t rXspStat 63 48 == 1 && (getSink t 3).q == [1, 2] && (getB t 0 0).pages.map NPage.data == [[0x55]]) = true ∧
    isNext (exec (.xspiOpTimeout 0) { nandy (busyNand 2 3) with ht := 39999999 }) { nandy (busyNand 2 3) with ht := 39999999 } = true ∧
    nextIs (exec (.xspiOpTimeout 0) { mounted with ht := 4000000 }) (fun t => (getN t 0).out && regF t rXspStat 63 48 == 1) = true ∧
    isNext (exec (.xspiOpTimeout 1) (nandy used)) (nandy used) = true := by decide +kernel

theorem test_dqs_timeout :
    nextIs (exec (.xspiDqsTimeout 0) (nandy (busyNand 3 3))) (fun t => (getN t 0).dqsTried && (getN t 0).opAt == 1000 && regF t rXspStat 47 32 == 1)
      = true ∧
    nextIs (exec (.xspiDqsTimeout 0) (nandy { busyNand 3 3 with dqsTried := true })) (fun t => (getN t 0).cacheBad && (getN t 0).opKind == 0) = true ∧
    isNext (exec (.xspiDqsTimeout 1) (nandy (busyNand 3 3))) (nandy (busyNand 3 3)) = true ∧
    isNext (exec (.xspiDqsTimeout 2) (nandy (busyNand 3 3))) (nandy (busyNand 3 3)) = true := by decide +kernel

theorem test_nand_block_retire :
    nextIs (exec (.nandBlockRetire 0 3) (nandy used)) (fun t => (getB t 0 3).pages == [] && (getB t 0 0).pages.map NPage.data == [[0x55]] &&
      (getN t 0).out == false) = true ∧
    isNext (exec (.nandBlockRetire 0 20) (nandy used)) (nandy used) = true ∧
    isNext (exec (.nandBlockRetire 0 3) (nandy { used with blks := [(3, { NBlk.fresh with state := 3 })] }))
      (nandy { used with blks := [(3, { NBlk.fresh with state := 3 })] }) = true ∧
    nextIs (exec (.nandBlockRetire 0 3) (nandy { used with blks := [(1, { NBlk.fresh with state := 3 }), (2, { NBlk.fresh with state := 3 })] }))
      (fun t => (getN t 0).out) = true := by decide +kernel

theorem test_nand_patrol : leastErased (nandy used) 0 ((freeBlocks (nandy used) 0).filter fun x => x ≠ 3) = some 0 ∧
    nextIs (exec (.nandPatrol 0 3 0 25) (nandy used)) (fun t => (getN t 0).erase == [3] && (getB t 0 0).pages.map NPage.data == [[0x55]]) = true ∧
    isNext (exec (.nandPatrol 0 3 0 24) (nandy used)) (nandy used) = true ∧
    nextIs (exec (.nandPatrol 0 3 0 33) (nandy used)) (fun t => (getN t 0).erase == [3] && (getB t 0 0).pages == []) = true ∧
    isNext (exec (.nandPatrol 0 3 1 40) (nandy used)) (nandy used) = true := by decide +kernel

theorem test_wear_level : eraseSpread (nandy used) 0 = 9 ∧ regF (nandy used) rHnkNandCfg 43 32 = 2048 ∧
    isNext (exec (.nandWearLevel 0) (nandy used)) (nandy used) = true ∧
    nextIs (exec (.nandWearLevel 0) (setRegF (nandy used) rHnkNandCfg 43 32 8)) (fun t => (getN t 0).lastWl == 1001 && (getN t 0).erase == [3]) = true ∧
    isNext (exec (.nandWearLevel 0) (setRegF (nandy used) rHnkNandCfg 43 32 9)) (setRegF (nandy used) rHnkNandCfg 43 32 9) = true ∧
    isNext (exec (.nandWearLevel 0) (setRegF (nandy { used with lastWl := 1 }) rHnkNandCfg 43 32 8))
      (setRegF (nandy { used with lastWl := 1 }) rHnkNandCfg 43 32 8) = true := by decide +kernel

/-- Dump 7 has an entry COMPLETE. -/
def indexed : State := putEntry (nandy used) 5 [0x700000000 + 0x20000000, 0, 0, 0, 0, 0, 0]

theorem test_hnk_pin : (newestEntry indexed 7).map (fun e => bits (e.getD 4 0) 63 32) = some 0x80000003 ∧ newestEntry indexed 8 = none ∧
    nextIs (exec (.hnkPinWrite .root 0x100000007) indexed) (fun t => t.hank.queue.map (fun c => (c.area, c.body.head?)) ==
      [(.dindex, some (0x700000000 + 0x20800000))]) = true ∧
    isNext (exec (.hnkPinWrite .root 0x100000008) indexed) indexed = true ∧ mayReg indexed (.tenant 1) rHnkPin true 7 = false ∧
    isNext (exec (.hnkPinWrite (.tenant 1) 7) indexed) indexed = true := by decide +kernel

/-- The NAND device with ROOT's read window at a place. -/
def reading (n : Nand) (sel : Word) : State := regPut (nandy n) (keyWho .root rHnkRdSel) rHnkRdSel sel

theorem test_read_window : mayReg (nandy used) .root rHnkRdData false 0 = true ∧
    nextIs (exec (.hnkRdDataRead ⟨.root, 0⟩) (reading used 0x1000000000000003)) (fun t => regGet t (keyWho .root rHnkRdSel) rHnkRdSel == 0x1000000000000004 &&
      t.hank.rdEcc == 0) = true ∧
    nextIs (exec (.hnkRdDataRead ⟨.root, 0⟩) (reading used 0x6000000000000020)) (fun t => t.hank.rdEcc == 3) = true ∧
    nextIs (exec (.hnkRdDataRead ⟨.root, 0⟩) (reading used 0x5000000300000000)) (fun t => (getN t 0).want == some (3, 0) && (getN t 0).opKind == 3 &&
      (getN t 0).opBlk == 3 && (getN t 0).opPage == 0 && decide (t.regs = (reading used 0x5000000300000000).regs)) = true ∧
    nextIs (exec (.hnkRdDataRead ⟨.root, 0⟩) (reading { used with cache := some (3, 0) } 0x5000000300000000)) (fun t =>
      regGet t (keyWho .root rHnkRdSel) rHnkRdSel == 0x5000000300000001) = true ∧
    (hankRead (reading { used with cache := some (3, 0) } 0x5000000300000000) .root).1 = 0x55 ∧
    isNext (exec (.hnkRdDataRead ⟨(.tenant 1), 0⟩) (reading used 0x1000000000000003)) (reading used 0x1000000000000003) = true := by decide +kernel

/-- A declaration of partition 5 waits. -/
def declared : State := { setReg tiny rHngCtrl 0x20000701 with hang := { tiny.hang with queue := [⟨5, 1, 3, 900⟩] } }

/-- Every Whorl but 2 has left service, and Whorl 2 runs something else, or not. -/
def crowded (st : WSt) : State := { declared with whorls := (List.range 8).map fun w => (w, { Whorl.fresh with st := if w = 2 then st else .out }) }

theorem test_dump_start : bit (reg declared rHngCtrl) 0 = true ∧ dumpWhorl declared = some (0, true) ∧
    dumpWhorl (crowded .running) = none ∧ isNext (exec .dumpProgramStart tiny) tiny = true ∧
    nextIs (exec .dumpProgramStart declared) (fun t => t.hang.queue == [] && t.hang.running == some ⟨5, 1, 3, 900⟩ && t.hang.whorl == some 0 &&
      t.hang.startAt == 1000 && regF t rDmpStat 63 32 == 3 && (getP t 5).st == .halting && (getW t 0).rom == some 1 &&
      getLease (getW t 0) 0 == some ⟨0x5000000000000000, none⟩ && getLease (getW t 0) 1 == some ⟨0x6000000000000000, none⟩) = true ∧
    nextIs (exec .dumpProgramStart (crowded .running)) (fun t => t.hang.running == none && bit t.hang.ended 5 && (getP t 5).st == .halting) = true ∧
    nextIs (exec .dumpProgramStart (crowded .reset)) (fun t => t.hang.whorl == some 2) = true := by decide +kernel

theorem test_dump_request :
    (getC (dumpRequest (setP sA 5 { getP sA 5 with tree := some ⟨0x99, none, [2]⟩ }) ⟨5, 1, 7, 900⟩) 2).out.map
      (fun m => (bits m.hdr 63 60, m.pay)) = [(13, [7, 0x99])] ∧
    dumpRequest (setP sA 5 { getP sA 5 with tree := some ⟨0x99, none, [2]⟩ }) ⟨5, 4, 7, 900⟩ =
      setP sA 5 { getP sA 5 with tree := some ⟨0x99, none, [2]⟩ } ∧
    (leaseReset { tiny with hang := { tiny.hang with work := { DumpWork.fresh with out := [⟨0, []⟩] } } } 0x6000000000000000) = tiny := by
  decide +kernel

theorem test_dump_timeout : isNext (exec .dumpTimeout tiny) tiny = true ∧ (reg dumping rDmpTmo).toNat = 4000000000 ∧
    isNext (exec .dumpTimeout { dumping with ht := 3999999999 }) { dumping with ht := 3999999999 } = true ∧
    nextIs (exec .dumpTimeout { dumping with ht := 4000000000 }) (fun t => t.hang.running == dumping.hang.running && t.hang.work.phase == .abort &&
      t.hang.work.askedAt == 4000000000 && (t.hang.work.out.getLast?).any isEnd && isNext (exec .dumpTimeout t) t) = true ∧
    nextIs (step { setW dumping 6 (whorl []) with hang := { dumping.hang with work := { DumpWork.fresh with phase := .abort } } }) (fun t =>
      t.hang.running == none && t.hang.whorl == none && lineUp t 2 && bit t.hang.ended 5 && regF t rDmpStat 31 26 == 4 && t.ht == 1001) = true := by decide +kernel


/-! ### The tangle graph -/

/-- An engine of the cut that waits. -/
def waiter (src kind obj want entry : Nat) : Engine :=
  ⟨false, 0, src, true, true, false, false, some (word (2 ^ 63 + kind * 2 ^ 60 + obj * 2 ^ 32 + want), word (entry * 2 ^ 48)), false⟩

/-- Partition 3 of chapter 8's example. -/
def tangled : TInput :=
  { engines := [waiter 0x2B 1 0x101 9 9, waiter 0x2F 1 0x101 8 8, waiter 0x33 0 0x200 1 7], other := fun n => waiter n 6 0 0 0,
    objects := [⟨⟨0x4400000000000101, 0, [⟨0x2B, false, 0⟩, ⟨0x2F, false, 0⟩, ⟨0x33, false, 0⟩]⟩, some 0x0007000200000000⟩,
                ⟨⟨0x200, 1, [⟨0x2B, false, 0⟩]⟩, some 0⟩],
    seams := [] }

-- the example of chapter 8: its nodes, edges, component 1 and REENTRY
theorem test_tangle : (tangle tangled).1.map (fun x => (x.idx, x.scc, x.marks)) =
      [(0, 1, 0x21), (1, 0, 0), (2, 1, 0x01), (3, 1, 0x21), (4, 1, 0x01), (5, 0, 0)] ∧
    (tangle tangled).2.map (fun x => (x.need, x.src, x.dst, x.marks)) =
      [(false, 0, 3, 0x21), (false, 1, 3, 0), (false, 2, 4, 0x01), (true, 3, 2, 0x01), (true, 4, 0, 0x01)] ∧
    ((tangle tangled).1.map fun x => (nodeWords x).map fun u => bits u 31 0) =
      [[0x2B, 9], [0x2F, 8], [0x33, 1], [0x101, 0], [0x200, 0], [0, 0]] ∧ planBlocks 0 = 0 ∧ planBlocks 496 = 2 := by decide +kernel

-- the DUMP record of chapter 8's example: 14 words with the sixth uncorrectable, and a table with a fault in its second entry
theorem test_dump_words : wordRecs 2 2 202 15 ((List.range 14).map fun k => (0x1000 + k, if k = 5 then 2 else 0, word k)) =
      [dumpRec 2 2 2 202 (0xE008000000001000 :: (List.range 14).map word)] ∧
    readSot [0x4000000000000101, 0x002B000000000000, 0xC000000000000200, 0] = ([⟨0x4000000000000101, 0, [⟨0x2B, false, 0⟩]⟩], true) := by
  decide +kernel
/-! ### Hub time, elections, channels, messages -/

/-- Hub 5, aligned, with channel 2 up to its parent. -/
def child : State :=
  { setC (setRegF tiny rIhbId 54 48 5) 2 { Chan.fresh with up := true, txSeq := 0x10 } with
    time := { TimeSt.fresh with isNew := false, parent := some 2, state := 4 }, elect := { ElectSt.fresh with cfg := some ⟨false, 1, 9⟩ } }

/-- An exchange sent at a hub time. -/
def asking (sent : Nat) (m : Bool) : State :=
  { child with time := { child.time with exOut := [(sent, 2)], measuring := m, exLeft := if m then 3 else 0, trim := 7 } }

-- the header of chapter 12's example: hub 5, its 0x10th message, PROBE
theorem test_probe : canonical child = true ∧
    nextIs (exec (.probe 2 0 77) child) (fun t => (getC t 2).out.map (fun m => (bits m.hdr 63 60, m.pay)) == [(3, [77, 1000, 1000])] &&
      (getC t 2).txSeq == 0x11) = true ∧
    isNext (exec (.probe 1 0 77) child) child = true ∧ bits (((getC (chSend child 2 2 0 [77]) 2).out.getD 0 ⟨0, []⟩).hdr) 63 16 = 0x200500001001 ∧
    nextIs (exec .timeExchangeTick { child with time := { child.time with measuring := true, exLeft := 8, nextEx := 1000 } }) (fun t =>
      t.time.exOut == [(1000, 2)] && t.time.exLeft == 7 && t.time.nextEx == 5000) = true ∧
    isNext (exec .timeExchangeTick { child with time := { child.time with measuring := true, exLeft := 8, nextEx := 1001 } })
      { child with time := { child.time with measuring := true, exLeft := 8, nextEx := 1001 } } = true ∧
    isNext (exec .timeExchangeTick tiny) tiny = true := by decide +kernel

-- chapter 12's example of a measurement: A runs 600 ht ahead, 300 ht each way
theorem test_probe_reply :
    nextIs (exec (.probeReply 2 0 100 1000 1000) { asking 100 false with ht := 700 }) (fun t => t.time.exOut == [] &&
      reg t rTimOffset == 600 * 16 && reg t rTimDelay == 600 * 8 && t.time.lastTheta == some (9600, 700)) = true ∧
    nextIs (exec (.probeReply 2 0 100 1000 1000) { asking 100 true with ht := 700 }) (fun t => t.time.exDone == [(4800, 9600)]) = true ∧
    isNext (exec (.probeReply 2 0 100 1000 1000) { asking 100 true with ht := 8101 }) (seqIn { asking 100 true with ht := 8101 } 2 0) = true ∧
    isNext (exec (.probeReply 1 0 100 1000 1000) { asking 100 true with ht := 700 }) { asking 100 true with ht := 700 } = true ∧
    isNext (exec (.probeReply 2 0 101 1000 1000) { asking 100 true with ht := 700 }) (seqIn { asking 100 true with ht := 700 } 2 0) = true ∧
    isNext (exec .probeTimeout { asking 100 true with ht := 8100 }) { asking 100 true with ht := 8100 } = true ∧
    nextIs (exec .probeTimeout { asking 100 true with ht := 8101 }) (fun t => t.time.exOut == [] && t.ht == 8101) = true ∧
    isNext (exec .probeTimeout child) child = true := by decide +kernel

-- three numbers missed, then none, then one over the wrap
theorem test_lost : regF (seqIn child 2 3) (rIhbCh + 16) 31 16 = 3 ∧ (getC (seqIn child 2 3) 2).rxSeq = 4 ∧ seqIn child 1 3 = child ∧
    regF (seqIn (seqIn child 2 3) 2 4) (rIhbCh + 16) 31 16 = 3 ∧
    regF (seqIn (setC child 2 { getC child 2 with rxSeq := 0xFFFF }) 2 0) (rIhbCh + 16) 31 16 = 1 := by decide +kernel

theorem test_measure_elect :
    nextIs (exec (.timMeasure .root) child) (fun t => t.time.measuring && t.time.exLeft == 8) = true ∧
    nextIs (exec (.ihbElect .root) child) (fun t => t.elect.active && t.elect.cfg == some ⟨false, 0x80, 0⟩ && t.elect.lastImp == 1000 &&
      (getC t 2).out.map (fun m => bits m.hdr 63 60) == [4]) = true ∧
    isRoot child (.tenant 1) 3 = false ∧ isNext (exec (.ihbElect (.tenant 1)) child) child = true ∧
    nextIs (exec .refclkLoss child) (fun t => t.time.refLoss && t.time.state == 3 && lineUp t 5 &&
      nextIs (exec .refclkReturn t) fun u => u.time.refLoss == false && u.time.measuring && u.time.exLeft == 8) = true ∧
    isNext (exec .refclkReturn child) child = true := by decide +kernel

/-- An election under way whose best key came over channel 3 from one hop away. -/
def voting : State :=
  { setC child 3 { Chan.fresh with up := true } with
    elect := ⟨true, 500, some ⟨false, 2, 9⟩, 1, some 3, some ⟨false, 2, 9⟩, 0, none, 100⟩ }

theorem test_elect : canonical voting = true ∧
    nextIs (exec (.elect 2 0 ⟨⟨false, 2, 8⟩, 4, none, 90⟩) voting) (fun t => t.elect.cfg == some ⟨false, 2, 8⟩ && t.elect.cfgHops == 5 &&
      t.elect.cfgCh == some 2 && t.elect.lastImp == 1000 && t.elect.maxTime == 100) = true ∧
    nextIs (exec (.elect 2 0 ⟨⟨true, 0, 0⟩, 4, none, 900⟩) voting) (fun t => t.elect.cfg == some ⟨false, 2, 9⟩ && t.elect.cfgHops == 1 &&
      t.elect.cfgCh == some 3 && t.elect.maxTime == 900) = true ∧
    nextIs (exec (.elect 2 0 ⟨⟨false, 2, 9⟩, 0, none, 0⟩) voting) (fun t => t.elect.cfgCh == some 2 && t.elect.lastImp == 500) = true ∧
    isNext (exec (.elect 1 0 ⟨⟨false, 0, 0⟩, 0, none, 0⟩) voting) voting = true ∧
    isNext (exec .electionClose { voting with ht := 40499 }) { voting with ht := 40499 } = true ∧
    nextIs (exec .electionClose { voting with ht := 40500 }) (fun t => t.elect.active == false && t.time.parent == some 3 && t.time.depth == 1 &&
      t.time.measuring && t.ht == 40500) = true := by decide +kernel

theorem test_lower_key_wins : keyNum ⟨false, 255, 5⟩ < keyNum ⟨true, 0, 0⟩ ∧ keyNum ⟨true, 3, 0⟩ < keyNum ⟨true, 4, 0⟩ ∧
    keyNum ⟨true, 3, 2⟩ < keyNum ⟨true, 3, 3⟩ ∧ electing child = false ∧
    nextIs (exec .powerOnReset child) (fun t => t.time.isNew) = true := by decide +kernel

/-- A new hub whose election has closed, with no parent or with channel 2 to it. -/
def fresh (p : Option Nat) (th : Option (Int × Nat)) : State :=
  { child with time := { TimeSt.fresh with parent := p, lastTheta := th, startedAt := some 500 }, elect := { child.elect with maxTime := 3000 } }

theorem test_align : nextIs (exec .timeAlign (fresh none none)) (fun t => t.ht == 403000 && t.time.isNew == false) = true ∧
    isNext (exec .timeAlign (fresh (some 2) none)) (fresh (some 2) none) = true ∧
    nextIs (exec .timeAlign (fresh (some 2) (some (9607, 900)))) (fun t => t.ht == 1600 && t.time.isNew == false) = true ∧
    nextIs (exec .timeAlign (fresh (some 2) (some (-9607, 900)))) (fun t => t.ht == 1000) = true ∧
    isNext (exec .timeAlign child) child = true ∧ isNext (exec .timeSelfAlign child) child = true ∧
    isNext (exec .timeSelfAlign { fresh (some 2) none with ht := 8000499 }) { fresh (some 2) none with ht := 8000499 } = true ∧
    nextIs (exec .timeSelfAlign { fresh (some 2) none with ht := 8000500 }) (fun t => t.ht == 8400500 && t.time.isNew == false) = true ∧
    nextIs (exec .timeSelfAlign { fresh none none with chans := [] }) (fun t => t.ht == 403000) = true := by decide +kernel

theorem test_channels :
    isNext (exec (.channelUp 2) child) child = true ∧ isNext (exec (.channelDown 1) child) child = true ∧
    isNext (exec (.channelUp 1) { child with integ := { child.integ with channels := 0xFD } }) { child with integ := { child.integ with channels := 0xFD } }
      = true ∧
    nextIs (exec (.channelUp 1) child) (fun t => (getC t 1).up && lineUp t 5 && t.elect.active &&
      (getC t 1).out.map (fun m => bits m.hdr 63 60) == [5, 4]) = true ∧
    nextIs (exec (.channelDown 2) (setC child 2 { getC child 2 with peer := 3 })) (fun t => (getC t 2).up == false && (getC t 2).peer == 0 && lineUp t 5 &&
      t.elect.active && t.time.state == 3) = true ∧
    nextIs (exec (.messageDiscard 7) child) (fun t => regF t (rIhbCh + 56) 15 0 == 1) = true := by decide +kernel

/-- Hub 5 knows hub 9 over channel 3, two hops away. -/
def knowing : State := { voting with routes := [(9, some ⟨3, 2⟩)] }

theorem test_name :
    isNext (exec (.name 2 0 0 0) knowing) (seqIn knowing 2 0) = true ∧
    nextIs (exec (.name 2 0 5 0) knowing) (fun t => decide (t.routes = knowing.routes) && t.blockedNums == [5] && regF t rIhbStat 15 0 == 1) = true ∧
    nextIs (exec (.name 2 0 8 0) knowing) (fun t => (getC t 2).peer == 8 && tget none t.routes 8 == some ⟨2, 1⟩ &&
      (getC t 3).out.map OutMsg.pay == [[1]] && (getC t 2).out == []) = true ∧
    nextIs (exec (.name 2 0 9 1) knowing) (fun t => tget none t.routes 9 == some ⟨2, 2⟩ && (getC t 3).out == []) = true ∧
    nextIs (exec (.name 3 0 9 1) knowing) (fun t => decide (t.routes = knowing.routes)) = true ∧
    nextIs (exec (.name 2 0 9 2) knowing) (fun t => decide (t.routes = knowing.routes)) = true ∧
    nextIs (exec (.ihbIdWrite .root 0x1100420000000000) knowing) (fun t => regF t rIhbId 54 48 == 0 && regF t rIhbId 63 56 == 0x11) = true ∧
    nextIs (exec (.ihbIdWrite .root 0x1107000000000000) knowing) (fun t => regF t rIhbId 54 48 == 7 && (getC t 2).out.map OutMsg.pay == [[0]]) = true := by
  decide +kernel

theorem test_msg_ack :
    nextIs (exec (.msg 2 0 9 5 0x77 4 [1, 2]) knowing) (fun t => (getC t 2).rxq == [⟨9, 4, [1, 2]⟩] && lineUp t 11 &&
      (getC t 3).out.map OutMsg.pay == [[0x7700000000]]) = true ∧
    nextIs (exec (.msg 2 0 9 5 0x77 4 [1]) (setC knowing 2 { getC knowing 2 with rxq := List.replicate 16 ⟨1, 0, [0]⟩ })) (fun t =>
      (getC t 2).rxq.length == 16 && (getC t 3).out.map OutMsg.pay == [[0x7700000001]]) = true ∧
    nextIs (exec (.msg 2 0 8 9 0x77 4 [1]) knowing) (fun t => (getC t 3).out.map (fun m => (bits m.hdr 63 60, bits m.hdr 54 48, bits m.hdr 46 40, m.pay)) ==
      [(0, 8, 9, [0x7700000004, 1])] && (getC t 2).rxq == []) = true ∧
    isNext (exec (.msg 2 0 8 10 0x77 4 [1]) knowing) (seqIn knowing 2 0) = true ∧ isNext (exec (.msg 2 0 9 5 0x77 4 []) knowing) (seqIn knowing 2 0) = true ∧
    nextIs (exec (.ack 2 0 9 5 40 true) { setC knowing 3 { getC knowing 3 with sends := [⟨40, 60⟩] } with
        whorls := [(0, { asyncWhorl with tk := [(0, { Ticket.fresh with st := .pending, kind := .send, opId := 60 })] })] }) (fun t =>
      (getC t 3).sends == [] && t.arrivals == [⟨60, .locked, 0, none, [], 0, none⟩]) = true ∧
    isNext (exec (.ack 2 0 9 5 41 true) knowing) (seqIn knowing 2 0) = true ∧ isNext (exec (.ack 1 0 9 5 41 true) knowing) knowing = true := by decide +kernel

/-! ### Links, epochs, failures -/

/-- Two packets wait on link 7, resent n times. -/
def linked (n : Nat) (mode : Word) : State :=
  setLink (setReg tiny rSpnMode mode) 7 { Link.fresh with txSeq := 6, retry := [⟨4, 100, n, ⟨.request, 0x8200033010100000, []⟩⟩,
    ⟨5, 200, 0, ⟨.request, 0, []⟩⟩] }

/-- PACKET_RECEIVE on link 7 of some transfers. -/
def raised (l : List (BitVec 36)) : Instr := .packetReceive 7 (l.map fun w : BitVec 36 => BitVec.setWidth 32 w) (l.map fun w => BitVec.extractLsb' 32 4 w) [] []

/-- The wires of the close of chapter 2's example, or of a header, under a link number. -/
def sentWires (lseq : BitVec 6) (h : Word) : List (BitVec 36) := packetTransfers lseq ⟨.priority, h, []⟩

theorem test_packet_receive : canonical (linked 0 0) = true ∧ tabWf Link.fresh (linked 0 0).spine.links = true ∧
    packetOk 0x8200033010101E4B 0 [] true = true ∧ (sentWires 9 0x8200033010101E4B).length = 4 ∧
    transferVal (transferWires 0x8200 2) = (0x8200, 2) ∧ transferWires 0 0 = 0x111111111 ∧
    isNext (exec (raised (sentWires 0 0x8200033010101E4B)) tiny)
      (setLink tiny 7 { Link.fresh with rxSeq := 1, ctl := some 0x4000000000006400 }) = true ∧
    isNext (exec (raised (sentWires 3 0x8200033010101E4B)) (setLink tiny 7 { Link.fresh with rxSeq := 5 }))
      (setLink tiny 7 { Link.fresh with rxSeq := 5, ctl := some 0x44000000000062A1 }) = true ∧
    isNext (exec (raised (sentWires 9 0x8200033010101E4B)) (setLink tiny 7 { Link.fresh with rxSeq := 5 }))
      (setLink tiny 7 { Link.fresh with rxSeq := 5, ctl := some 0x8500000000009931 }) = true ∧
    nextIs (exec (raised (sentWires 0 0x8200033010101E4A)) tiny) (fun t => regF t rSpnBadpkt 63 0 == 1 &&
      getLink t 7 == { Link.fresh with ctl := some 0x800000000000DA30 }) = true ∧
    nextIs (exec (raised ((sentWires 0 0x8200033010101E4B).map (· ||| 2))) tiny) (fun t => regF t rSpnBadpkt 63 0 == 1) = true ∧
    nextIs (exec (raised ((sentWires 0 0x8200033010101E4B).take 1 ++ [0x111111110])) tiny) (fun t => regF t rSpnBadpkt 63 0 == 0 &&
      (getLink t 7).part.length == 1 && (getLink t 7).wires == ⟨0x111111110, false⟩) = true ∧
    isNext (exec (.packetReceive 7 [] [] [] []) (setLink tiny 7 { Link.fresh with failed := true })) (setLink tiny 7 { Link.fresh with failed := true })
      = true := by decide +kernel

theorem test_link_ack : isNext (exec (.linkAck 7 (ctlFlit 1 6)) (linked 0 0)) (linked 0 0) = true ∧
    isNext (exec (.linkAck 7 0x44000000000062A0) (linked 0 0)) (linked 0 0) = true ∧ ctlSeq 1 (ctlFlit 1 4) = some 4 ∧
    nextIs (exec (.linkAck 7 0x44000000000062A1) { setLink (linked 0 0) 7 { getLink (linked 0 0) 7 with req := [⟨.request, 9, []⟩] } with ht := 300 })
      (fun t => (getLink t 7).retry.map (fun p => (p.lseq, p.sent)) == [(5, 200), (6, 300)] && (getLink t 7).req == []) = true ∧
    nextIs (exec (.linkAck 7 (ctlFlit 1 5)) (linked 0 0)) (fun t => (getLink t 7).retry == []) = true ∧
    nextIs (exec (.linkNak 7 (ctlFlit 2 4)) (linked 7 0)) (fun t => (getLink t 7).retry.map (fun p => (p.lseq, p.n, p.sent)) == [(4, 8, 1000), (5, 1, 1000)]) = true ∧
    nextIs (exec (.linkNak 7 (ctlFlit 2 4)) (linked 8 0)) (fun t => (getLink t 7).failed && (getLink t 7).retry == [] && lineUp t 5) = true ∧
    nextIs (exec (.linkNak 7 (ctlFlit 2 4)) (linked 2 3)) (fun t => (getLink t 7).failed) = true ∧
    isNext (exec (.linkRetryTimeout 7) { linked 0 0 with ht := 2099 }) { linked 0 0 with ht := 2099 } = true ∧
    nextIs (exec (.linkRetryTimeout 7) { linked 0 0 with ht := 2100 }) (fun t => (getLink t 7).retry.map (fun p => (p.n, p.sent)) ==
      [(1, 2100), (1, 2100)]) = true ∧
    nextIs (exec (.linkRetryTimeout 7) { linked 8 0 with ht := 2100 }) (fun t => (getLink t 7).failed && (getLink t 7).retry == []) = true ∧
    isNext (exec (.linkRetryTimeout 6) (linked 0 0)) (linked 0 0) = true := by decide +kernel

theorem test_entry_link : tabWf 0 tiny.spine.epochs = true ∧ (List.range 9).map (issuerEntry tiny) = [0, 1, 2, 3, 0, 1, 2, 3, 0] ∧
    nextIs (exec (.entryLinkFail 1 false) tiny) (fun t => (getLink t (entryLink 1 0)).failed && lineUp t 5 && issuerEntry t 1 == 2 && issuerEntry t 5 == 2 &&
      issuerEntry t 0 == 0 && tget 0 t.spine.epochs 1 == 1 && tget 0 t.spine.epochs 0 == 0 &&
      nextIs (exec (.entryLinkFail 1 false) t) fun u => decide (u = t)) = true := by decide +kernel

theorem test_route_rebuild : isNext (exec .routeRebuild tiny) tiny = true ∧ careful tiny = true ∧
    isNext (exec .routeRebuild { tiny with spine := { tiny.spine with rebuild := true } }) { tiny with spine := { tiny.spine with rebuild := true } } = true ∧
    nextIs (exec .routeRebuild { setReg tiny rSpnMode 0 with spine := { tiny.spine with rebuild := true } }) (fun t => t.spine.rebuild == false && t.spine.built &&
      (List.range 9).all (fun i => tget 0 t.spine.epochs i == 0)) = true := by decide +kernel

/-- The issuer's epoch has moved to 1; the Flyer of cluster 0 stands at 0 and holds an operation of epoch 1. -/
def epochHeld : State :=
  { setF tiny 0 { Flyer.fresh with heldOps := [(0, 9)] } with
    ops := [{ sentOp .write aAgEvtMap [0xD0] with epoch := 1 }], spine := { tiny.spine with epochs := [(0, 1)] } }

theorem test_epoch_close : isNext (exec (.epochClose 0 0 1) tiny) tiny = true ∧ isNext (exec (.epochClose 0 0 0) tiny) tiny = true ∧
    nextIs (exec (.epochClose 0 0 0) epochHeld) (fun t => tget 0 (getF t 0).epochs 0 == 1 && (getF t 0).heldOps == [] && ag t 0x81 aAgEvtMap == 0xD0) = true ∧
    isNext (exec (.epochClose 0 0 0) (setF epochHeld 0 { Flyer.fresh with failed := true })) (setF epochHeld 0 { Flyer.fresh with failed := true }) = true := by
  decide +kernel

theorem test_careful : isRoot (linked 0 0) .root 3 = true ∧ careful (linked 0 3) = true ∧
    nextIs (exec (.spnModeWrite .root 1) (linked 0 0)) (fun t => reg t rSpnMode == 1 && (getLink t 7).retry.length == 2) = true ∧
    nextIs (exec (.spnModeWrite .root 1) (linked 0 3)) (fun t => (getLink t 7).retry.length == 2) = true ∧
    isNext (exec (.spnModeWrite (.tenant 2) 1) (linked 0 0)) (linked 0 0) = true ∧
    crossingIn 0 = true ∧ crossingIn 6144 = false ∧ isNext (exec (.crossingOverrun 6144) tiny) tiny = true ∧
    nextIs (exec (.crossingOverrun 2049) tiny) (fun t => regGet t (keyObj 2049 rSpnXingStat) rSpnXingStat == 0 &&
      nextIs (exec (.crossingOverrun 2049) t) fun u => regGet u (keyObj 2049 rSpnXingStat) rSpnXingStat == 0x0001000000000001) = true ∧
    nextIs (exec (.queueResync 2049 3) tiny) (fun t => regGet t (keyObj 2049 rSpnXingStat) rSpnXingStat == 0x0000000300000002) = true := by decide +kernel

/-- The tiny hub with a second cluster east of the first. -/
def wide : State := { setReg tiny rSpnMode 0 with integ := { tiny.integ with cols := 8 } }

theorem test_flyer_probe : clusterIn wide 1 = true ∧ clusterIn wide 2 = false ∧ (hopsTo wide 0 0).isSome = true ∧
    nextIs (exec (.flyerProbe 0 false) wide) (fun t => (getF t 0).probes == 1) = true ∧
    nextIs (exec (.flyerProbe 0 true) (setF wide 0 { Flyer.fresh with probes := 2 })) (fun t => (getF t 0).probes == 0) = true ∧
    nextIs (exec (.flyerProbe 0 false) (setF wide 0 { Flyer.fresh with probes := 2 })) (fun t => (getF t 0).failed && (getF t 0).declared == some 1000 &&
      lineUp t 5 && servedBy t 0 == some 1) = true ∧
    isNext (exec (.flyerTakeover 2) wide) wide = true ∧
    nextIs (exec (.cardEngineFail 0) (setCard wide 0 { Card.fresh with sel := some (0x81, 0) })) (fun t => (getF t 0).card.failed && (getF t 0).card.sel == none &&
      lineUp t 5) = true ∧
    isNext (exec (.cardEngineFail 2) wide) wide = true := by decide +kernel

theorem test_failures : wired tiny 0x81 = true ∧ wired tiny 0x90 = false ∧
    nextIs (exec (.bobbinFail 0x81) asked) (fun t => (getS t 0x81).failed && (getS t 0x81).ri == [] && lineUp t 5) = true ∧
    isNext (exec (.bobbinFail 0x90) tiny) tiny = true ∧
    nextIs (exec .recoveryEngineFail tiny) (fun t => t.boot.recStop && t.spine.rebuild == false && lineUp t 5 &&
      nextIs (exec .recoveryEngineFail t) fun u => decide (u = t)) = true ∧
    tabWf 0x7F tiny.boot.repair = true ∧
    nextIs (exec (.repairSample 1 2) { tiny with integ := { tiny.integ with spareRows := 2 } }) (fun t => tget 0x7F t.boot.repair 1 == 2 && lineUp t 5) = true ∧
    isNext (exec (.repairSample 1 2) tiny) tiny = true ∧
    isNext (exec (.repairSample 1 0x40) { tiny with integ := { tiny.integ with spareRows := 2 } }) { tiny with integ := { tiny.integ with spareRows := 2 } } = true ∧
    isNext (exec (.repairSample 4 2) { tiny with integ := { tiny.integ with spareRows := 16 } }) { tiny with integ := { tiny.integ with spareRows := 16 } } = true := by
  decide +kernel

/-- An operation of Whorl 0 on one core of the second cluster, whose node 1 has its own Flyer's answer or not. -/
def reducing (got : List Nat) : State :=
  { wide with
    ops := [{ sentOp .read 0x20 [] with one := false, nodes := [1], sites := [0x85], dl := some 40000, path := [(1, 1)] }]
    whorls := [(0, { asyncWhorl with tk := [(0, { Ticket.fresh with st := .pending, opId := 40, dl := some 40000 })] })]
    spine := { wide.spine with nodes := [⟨1, 0, 9, got, [⟨0x85, 0, 7, []⟩], false⟩, ⟨0, 0, 9, [1], [⟨0x85, 0, 7, []⟩], false⟩] } }

theorem test_reduction_send : (opOf (reducing []) 0 9).map (contributors · 1) = some [1] ∧
    (opOf (reducing []) 0 9).map (contributors · 0) = some [1] ∧ entryNode (reducing []) 0 = 0 ∧ parentOf (reducing []) 0 1 = some 0 ∧
    isNext (exec (.reductionSend 1 0 9) (reducing [])) (reducing []) = true ∧
    nextIs (exec (.reductionSend 1 0 9) (reducing [1])) (fun t => (getAcc t 1 0 9).sent && (getAcc t 0 0 9).got == [1]) = true ∧
    nextIs (exec (.reductionSend 1 0 9) { reducing [] with ht := 40000 }) (fun t => (getAcc t 1 0 9).sent) = true ∧
    nextIs (exec (.reductionSend 0 0 9) (reducing [])) (fun t => t.arrivals.map (fun r => (r.opId, r.status)) == [(40, .ok)]) = true ∧
    isNext (exec (.reductionSend 1 0 8) (reducing [1])) (reducing [1]) = true := by decide +kernel

/-! ### Ports -/

/-- The two-wire port in IDLE at a level, its last address that of TIM_NOW. -/
def talking (l : Nat) : State := { setRegF tiny rRgtUnlock 1 0 l with twp := { tiny.twp with st := .idle, prev := 0x600 } }

/-- A read of TIM_NOW under way or held. -/
def reading2 (t : Twp) : State := { talking 1 with twp := { t with st := .idle, prev := 0x600, startAt := 900 } }

theorem test_twp_reset : isNext (exec (.twpRd 0x600) State.reset) State.reset = true ∧ isNext (exec .twpActivate State.reset) State.reset = true ∧
    nextIs (exec (.twpStatus 0) tiny) (fun t => t.twp.ans == ⟨0, 0, 0⟩ && regF t rTwpStat 47 32 == 1) = true ∧
    nextIs (exec .twpActivate tiny) (fun t => t.twp.st == .idle && t.twp.everOn) = true ∧
    nextIs (exec .twpLineReset (setRegF (reading2 ⟨.idle, 0x600, some (0, 0x600), none, 0, ⟨0, 0, 0⟩, true⟩) rTwpStat 7 7 1)) (fun t =>
      t.twp.st == .reset && t.twp.pend == none && unlockLevel t == 0 && !twpSticky t) = true ∧
    isNext (exec .twpRequestTimeout tiny) tiny = true ∧ nextIs (exec .twpRequestTimeout (talking 1)) (fun t => regF t rTwpStat 63 48 == 1) = true := by
  decide +kernel

theorem test_twp_read : canonical (talking 1) = true ∧ (winRead (talking 1) .twp 0x3000).1 = 0 ∧ (winRead (talking 1) .twp 0x3000).2.1 = 1000 ∧
    isNext (exec (.twpRd 0x600) (talking 1)) { talking 1 with twp := { (talking 1).twp with pend := some (0, 0x600), startAt := 1000, ans := ⟨10, 0, 0⟩ } } = true ∧
    nextIs (exec (.twpRdn 0) { talking 1 with twp := { (talking 1).twp with prev := 0x5FF } }) (fun t => t.twp.prev == 0x600 && t.twp.ans.ack == 10 &&
      nextIs (exec (.twpReadComplete true) t) fun u => u.twp.done == some (some 1000) &&
        nextIs (exec (.twpRdn 0) u) fun v => v.twp.ans == ⟨6, 1000, crc8 (sentBits (1000 : Word))⟩ && v.twp.done == u.twp.done) = true ∧
    nextIs (exec (.twpRd 0x600) (talking 0)) (fun t => t.twp.ans.ack == 12 && regF t rTwpStat 15 8 == 1 && twpSticky t &&
      nextIs (exec (.twpRd 0x600) t) fun u => regF u rTwpStat 15 8 == 7) = true ∧
    nextIs (exec (.twpRdn 1) (talking 1)) (fun t => t.twp.ans.ack == 12 && regF t rTwpStat 15 8 == 2) = true ∧
    (winRead (talking 3) .twp 0x20000).1 = 2 ∧ nextIs (exec (.twpRd 0x4000) (talking 3)) (fun t => regF t rTwpStat 15 8 == 2) = true ∧
    nextIs (exec (.twpRd 0x601) (reading2 ⟨.idle, 0x600, some (0, 0x600), none, 0, ⟨0, 0, 0⟩, true⟩)) (fun t => t.twp.ans == ⟨10, 0, 0⟩ &&
      t.twp.pend == some (0, 0x600)) = true := by decide +kernel

theorem test_twp_read_complete : isNext (exec (.twpReadComplete true) (talking 1)) (talking 1) = true ∧
    nextIs (exec (.twpReadComplete true) { reading2 ⟨.idle, 0x600, some (0, 0x600), none, 0, ⟨0, 0, 0⟩, true⟩ with ht := 40900 }) (fun t =>
      t.twp.done == some (some 40900)) = true ∧
    nextIs (exec (.twpReadComplete true) { reading2 ⟨.idle, 0x600, some (0, 0x600), none, 0, ⟨0, 0, 0⟩, true⟩ with ht := 40901 }) (fun t =>
      t.twp.done == some none && regF t rTwpStat 15 8 == 3 && twpSticky t) = true ∧
    nextIs (exec (.twpReadComplete false) (reading2 ⟨.idle, 0x600, some (0, 0x600), none, 0, ⟨0, 0, 0⟩, true⟩)) (fun t => regF t rTwpStat 15 8 == 5 &&
      nextIs (exec (.twpRd 0x600) t) fun u => u.twp.ans == ⟨12, 0, 0⟩) = true := by decide +kernel

theorem test_twp_write :
    nextIs (exec (.twpWr 0x2200 5 (crc8 (sentBits (5 : Word)))) (talking 3)) (fun t => t.twp.ans.ack == 6 && decide (t.mail = writeLe [] 0x1000 8 5) && t.twp.prev == 0x2200) = true ∧
    nextIs (exec (.twpWrn 0 5 (crc8 (sentBits (5 : Word)))) { talking 3 with twp := { (talking 3).twp with prev := 0x21FF } }) (fun t => t.twp.ans.ack == 6 &&
      decide (t.mail = writeLe [] 0x1000 8 5)) = true ∧
    nextIs (exec (.twpWr 0x2200 5 (crc8 (sentBits (5 : Word)) + 1)) (talking 3)) (fun t => t.twp.ans.ack == 12 && regF t rTwpStat 15 8 == 4 && t.mail == []) = true ∧
    nextIs (exec (.twpWr 0x2200 5 (crc8 (sentBits (5 : Word)))) (talking 0)) (fun t => t.twp.ans.ack == 12 && regF t rTwpStat 15 8 == 1 && t.mail == []) = true ∧
    nextIs (exec (.twpWrn 1 5 (crc8 (sentBits (5 : Word)))) (talking 3)) (fun t => regF t rTwpStat 15 8 == 2) = true := by decide +kernel

theorem test_twp_status_abort :
    nextIs (exec (.twpStatus 0) (setRegF (talking 1) rTwpStat 15 7 0x0F)) (fun t => t.twp.ans.ack == 6 && bits t.twp.ans.data 15 7 == 0x0F) = true ∧
    nextIs (exec (.twpAbort 0) (setRegF (reading2 ⟨.idle, 0x600, some (0, 0x600), none, 0, ⟨0, 0, 0⟩, true⟩) rTwpStat 15 7 0x0F)) (fun t => t.twp.pend == none &&
      t.twp.ans.ack == 6 && regF t rTwpStat 15 7 == 0 && reg t rSpnLate == 1) = true ∧
    nextIs (exec (.twpAbort 1) (talking 1)) (fun t => t.twp.ans.ack == 12 && regF t rTwpStat 15 8 == 2) = true ∧
    nextIs (exec (.twpHeaderReject 0x1FA006001) (talking 1)) (fun t => t.twp.ans.ack == 0 && regF t rTwpStat 47 32 == 1) = true ∧
    isNext (exec (.twpHeaderReject 0x1F8006001) (talking 1)) (talking 1) = true ∧
    nextIs (exec (.twpHeaderReject (0xF ||| (hdrCrc 0xF).setWidth 34 <<< 25)) (talking 1)) (fun t => t.twp.ans.ack == 12 && regF t rTwpStat 15 8 == 6) = true := by decide +kernel

theorem test_doorbells : nextIs (exec (.twpDoor 1) (talking 1)) (fun t => lineUp t 7) = true ∧ isNext (exec (.twpDoor 1) (talking 0)) (talking 0) = true ∧
    nextIs (exec (.hostDoor 1) tiny) (fun t => lineUp t 8) = true := by decide +kernel

theorem test_host_request : hostReady tiny = true ∧ inWindow 0xF000 = false ∧ inWindow 0x20000 = false ∧ inWindow 0x8FFFF8 = true ∧ inWindow 0x900000 = false ∧
    nextIs (exec (.hostRequest false 0x600 0 0 0 0) tiny) (fun t => t.host == ⟨[⟨false, 0, 1000, []⟩], false, 1000⟩) = true ∧
    nextIs (exec (.hostRequest false 0x4000 0 0 0 0) tiny) (fun t => t.host.resp == [⟨false, 2, 0, []⟩]) = true ∧
    nextIs (exec (.hostRequest true 0x2200 0x7F 5 0 0) tiny) (fun t => t.host.resp == [⟨true, 2, 0, []⟩] && regF t rHptStat 47 32 == 1 && t.mail == []) = true ∧
    nextIs (exec (.hostRequest true 0x20000 0x0F 0x1122334455667788 0 0) tiny) (fun t => t.host.resp == [⟨true, 0, 0, []⟩] &&
      decide (t.hubMem = writeLe [] 0 4 0x55667788)) = true ∧
    nextIs (exec (.hostRequest false 0x600 0 0 2 0) tiny) (fun t => t.host.resp == [⟨false, 1, 0, []⟩]) = true ∧
    nextIs (exec (.hostRequest true 0x20000 0xFF 1 1 7) tiny) (fun t => t.host.resp == [⟨true, 1, 0, []⟩] && t.hubMem == []) = true ∧
    isNext (exec (.hostRequest false 0x600 0 0 0 0) { tiny with host := ⟨List.replicate 16 ⟨false, 0, 0, []⟩, false, 0⟩ })
      { tiny with host := ⟨List.replicate 16 ⟨false, 0, 0, []⟩, false, 0⟩ } = true := by decide +kernel

/-- Two answers wait, the first since hub time 500. -/
def answered : State := { tiny with host := ⟨[⟨false, 0, 7, []⟩, ⟨true, 0, 0, []⟩], false, 500⟩ }

theorem test_host_port :
    nextIs (exec .hostAccessTimeout answered) (fun t => t.host.resp == [⟨false, 0, 7, []⟩, ⟨true, 3, 0, []⟩] && regF t rHptStat 63 48 == 1) = true ∧
    isNext (exec .hostAccessTimeout tiny) tiny = true ∧ isNext (exec .hostResponseStall tiny) tiny = true ∧
    isNext (exec .hostResponseStall { answered with ht := 4000499 }) { answered with ht := 4000499 } = true ∧
    nextIs (exec .hostResponseStall { answered with ht := 4000500 }) (fun t => t.host.stall && lineUp t 13) = true ∧
    nextIs (exec .hostResponseTake answered) (fun t => t.host == ⟨[⟨true, 0, 0, []⟩], false, 1000⟩) = true ∧
    nextIs (exec .hostPortReset answered) (fun t => t.host == ⟨[], false, 1000⟩ &&
      bits (regGet t (keyObj 2049 rSpnXingStat) rSpnXingStat) 47 32 == 2) = true := by decide +kernel

/-! ### The master port and the lanes -/

/-- The master port on, with [0x10000, 0x20000) and a full bucket. -/
def mastered : State :=
  { setReg (setReg (setReg (setReg tiny rMptLo 0x10000) rMptHi 0x20000) rMptCfg 0x8000000200000064) rMptRate 0x0000010000000FFF with
    master := { Master.fresh with tokens := 2 ^ 20, tokenAt := 1000 } }

/-- An indirect write of ROOT to an address that waits. -/
def waiting (a : Nat) : State :=
  { setReg mastered rMptAccStat 0 with master := { mastered.master with waiting := [⟨.indirect .root, true, a, 1, [0x55], 0, [], false, false, [], false⟩] } }

/-- A read of ROOT at 0x10018 in flight under tag 3, since hub time 900, live or quarantined. -/
def inflight (q : Bool) : State :=
  { mastered with master := { mastered.master with rd := [(3, some ⟨.indirect .root, false, 0x10018, 1, [], 900, [], false, q, [], false⟩)] } }

theorem test_master_issue : canonical mastered = true ∧ mpRange (waiting 0x1FFF8) ⟨.indirect .root, true, 0x1FFF8, 1, [], 0, [], false, false, [], false⟩ = true ∧
    nextIs (exec (.mptAccGo .root 0x10003) mastered) (fun t => accState t .root == 1 && t.master.waiting ==
      [⟨.indirect .root, true, 0x10000, 1, [0], 0, [], false, false, [], false⟩]) = true ∧
    nextIs (exec (.mptAccGo .root 0x10002) mastered) (fun t => decide (t.master = mastered.master)) = true ∧
    nextIs (exec .mpRequestIssue (waiting 0x1FFF8)) (fun t => t.master.waiting == [] && (tget none t.master.wrt 0).map MpReq.issued == some 1000 &&
      tokensNow t == 2 ^ 20 - 4096) = true ∧
    nextIs (exec .mpRequestIssue (waiting 0x20000)) (fun t => t.master.waiting == [] && accState t .root == 3 && regF t rMptStat2 63 48 == 1 &&
      t.master.wrt == []) = true ∧
    isNext (exec .mpRequestIssue mastered) mastered = true ∧
    isNext (exec .mpRequestIssue { waiting 0x10000 with master := { (waiting 0x10000).master with tokens := 4095 } })
      { waiting 0x10000 with master := { (waiting 0x10000).master with tokens := 4095 } } = true := by decide +kernel

theorem test_master_completions : tabWf none (inflight false).master.rd = true ∧
    nextIs (exec (.mpReadBeat 3 true (List.range 16 |>.map fun k => word k) 0) (inflight false)) (fun t => t.master.rd == [] && accState t .root == 2 &&
      regGet t (keyWho .root rMptAccData) rMptAccData == 3) = true ∧
    nextIs (exec (.mpReadBeat 3 true (List.range 16 |>.map fun k => word k) 2) (inflight false)) (fun t => t.master.rd == [] && accState t .root == 3 &&
      regF t rMptStat 63 48 == 1) = true ∧
    nextIs (exec (.mpReadBeat 3 false (List.range 16 |>.map fun k => word k) 3) (inflight false)) (fun t =>
      (tget none t.master.rd 3).map (fun q => (q.got.length, q.bad)) == some (16, true)) = true ∧
    nextIs (exec (.mpReadBeat 3 true [] 0) (inflight true)) (fun t => t.master.rd == [] && regF t rMptStat 15 0 == 1) = true ∧
    isNext (exec (.mpReadBeat 4 true [] 0) (inflight true)) (inflight true) = true ∧
    isNext (exec (.mpTimeout false 3) { inflight false with ht := 999 }) { inflight false with ht := 999 } = true ∧
    nextIs (exec (.mpTimeout false 3) (inflight false)) (fun t => (tget none t.master.rd 3).map MpReq.quar == some true && accState t .root == 3 &&
      regF t rMptStat 31 16 == 1 && regF t rMptStat 63 48 == 1) = true := by decide +kernel

/-- A block of the spill ring or of the dump in flight under write tag 0. -/
def writing (c : MpClient) : State :=
  { setReg mastered rTrcSpillSize 4 with master := { mastered.master with wrt := [(0, some ⟨c, true, 0x10000, 32, List.replicate 512 0, 900, [], false, false, [], false⟩)] } }

theorem test_write_completion :
    nextIs (exec (.mpWriteCompletion 0 0) (setRegF (writing .spill) rTrcSpillPtr 23 0 3)) (fun t => t.master.wrt == [] && regF t rTrcSpillPtr 23 0 == 0) = true ∧
    nextIs (exec (.mpWriteCompletion 0 1) (writing .dump)) (fun t => t.hang.blocks == 1 && regF t rDmpWinStat 55 32 == 1) = true ∧
    nextIs (exec (.mpWriteCompletion 0 2) (writing .dump)) (fun t => t.hang.blocks == 0 && regF t rMptStat 47 32 == 1) = true ∧
    nextIs (exec (.mpWriteCompletion 0 0) (writing (.indirect .root))) (fun t => accState t .root == 2) = true ∧
    isNext (exec (.mpWriteCompletion 1 0) (writing .dump)) (writing .dump) = true := by decide +kernel

/-- Lanes 0, 3 and 5 in service, the next frame 0x1000, after a last frame on lane 0; some units in the trace stream. -/
def laned (us : List Word) : State :=
  setSink { setReg (setReg tiny rTptCtrl 0xFFFF0001) rTptFseq 0x1000 with
    integ := { tiny.integ with devid := 0x3A7C }
    lanes := [(0, ⟨true, true, [⟨0xFFF, false, 0, []⟩], 0⟩), (3, ⟨true, true, [], 0⟩), (5, ⟨true, true, [], 0⟩)] } 1 { Sink.fresh with q := us }

theorem test_lane_frame : dRoute (laned [1, 2, 3]) ≠ 1 ∧ nextLane (laned [1, 2, 3]) false (streamLanes (laned [1, 2, 3]) false) = some 3 ∧
    nextIs (exec (.laneFrameSend false) (laned [1, 2, 3])) (fun t => (getL t 3).hist.map (fun f => (f.fseq, f.pay.take 3, f.pay.length)) ==
      [(0x1000, [1, 2, 0], 126)] && regF t rTptFseq 31 0 == 0x1001 && (getSink t 1).q == [3]) = true ∧
    isNext (exec (.laneFrameSend false) (laned [1])) (laned [1]) = true ∧ isNext (exec (.laneFrameSend true) (laned [1, 2, 3])) (laned [1, 2, 3]) = true ∧
    isNext (exec (.laneFrameSend false) (setReg (laned [1, 2, 3]) rTptCtrl 0xFFFF0000)) (setReg (laned [1, 2, 3]) rTptCtrl 0xFFFF0000) = true ∧
    nextIs (exec (.laneIdleFrame 5) (laned [1])) (fun t => (getL t 5).hist.map LaneFrame.fseq == [0x1000] && regF t rTptFseq 31 0 == 0x1001) = true ∧
    isNext (exec (.laneIdleFrame 4) (laned [1])) (laned [1]) = true := by decide +kernel

-- the frame header of chapter 13's example: frame 0x1000 on lane 3 of 16, 63 words, a block at word 10
theorem test_lane_header : (laneHdr 0x3A7C 0x1000 16 3 false false 63 10 []).toNat / 2 ^ 32 = 0xD5E13A7C00001000819F9400 := by decide +kernel

theorem test_lanes :
    nextIs (exec (.laneInService 4) (laned [])) (fun t => (getL t 4).inSvc && (getL t 4).up && lineUp t 5) = true ∧
    nextIs (exec (.laneInService 4) (setReg (laned []) rTptCtrl 1)) (fun t => (getL t 4).up && !(getL t 4).inSvc) = true ∧
    isNext (exec (.laneInService 4) { laned [] with integ := { (laned []).integ with lanes := 0xFFEF } }) { laned [] with integ := { (laned []).integ with lanes := 0xFFEF } }
      = true ∧
    nextIs (exec (.laneDown 0) (laned [])) (fun t => !(getL t 0).inSvc && !(getL t 0).up && regF t rTptErr 63 48 == 1 && lineUp t 5 &&
      (getL t 3).hist.map LaneFrame.fseq == [0xFFF] && regF t rTptErr 31 16 == 1) = true ∧
    nextIs (exec (.laneStall 3) (laned [])) (fun t => !(getL t 3).inSvc && regF t rTptErr 47 32 == 1 && regF t rTptErr 63 48 == 1) = true ∧
    isNext (exec (.laneStall 4) (laned [])) (laned []) = true := by decide +kernel

/-! ### Unlocking, resets, start-up -/

/-- Level 0, a nonce outstanding since hub time 900, MAXLEVEL 3 and REQ 3. -/
def challenged : State :=
  { setReg (setReg tiny rRgtUnlock 0x4C) rRgtPolicy 3 with
    unlock := { State.reset.unlock with nonce := 0x77, nonceAt := 900, respLo := 0x1111 }, integ := { tiny.integ with devKey := some 0x1234, devid := 0xA13A7C } }

/-- The response under check is the right one, or another. -/
def checking (good : Bool) (n k : Nat) : State :=
  { challenged with unlock := { challenged.unlock with refusals := n, lockNo := k, check := some (if good then unlockMac 0x1234 0x77 0xA13A7C 3 else 0, 0x77) } }

theorem test_challenge : mayReg challenged .twp rRgtChal true 1 = true ∧ canonical challenged = true ∧
    nextIs (exec (.rgtChalNew .twp true) tiny) (fun t => nonceValid t && t.unlock.nonceAt == 1000 && t.freeCtr == tiny.freeCtr + 1) = true ∧
    nextIs (exec (.rgtChalNew .twp false) challenged) (fun t => !nonceValid t && t.unlock.nonce == 0 && lineUp t 5) = true ∧
    nextIs (exec (.rgtRespSubmit .twp 0x2222) challenged) (fun t => t.unlock.check == some (0x22220000000000001111, 0x77)) = true ∧
    nextIs (exec (.rgtRespSubmit .twp 0x2222) tiny) (fun t => t.unlock.check == none && regF t rRgtUnlock 63 48 == 1 && t.unlock.refusals == 0) = true ∧
    isNext (exec .nonceLapse { challenged with ht := 2 ^ 36 + 899 }) { challenged with ht := 2 ^ 36 + 899 } = true ∧
    nextIs (exec .nonceLapse { challenged with ht := 2 ^ 36 + 900 }) (fun t => !nonceValid t && t.unlock.nonce == 0) = true ∧
    isNext (exec .lockoutEnd { tiny with unlock := { tiny.unlock with lockEnd := some 1001 } }) { tiny with unlock := { tiny.unlock with lockEnd := some 1001 } } = true ∧
    isNext (exec .lockoutEnd { tiny with unlock := { tiny.unlock with lockEnd := some 1000 } }) tiny = true := by decide +kernel

theorem test_response_check : isNext (exec .responseCheck challenged) challenged = true ∧
    nextIs (exec .responseCheck (checking true 5 2)) (fun t => unlockLevel t == 3 && t.unlock.refusals == 0 && t.unlock.lockNo == 0 && !nonceValid t) = true ∧
    nextIs (exec .responseCheck (checking false 6 0)) (fun t => unlockLevel t == 0 && t.unlock.refusals == 7 && t.unlock.lockEnd == none &&
      regF t rRgtUnlock 63 48 == 1) = true ∧
    nextIs (exec .responseCheck (checking false 7 0)) (fun t => t.unlock.refusals == 0 && t.unlock.lockEnd == some (1000 + 2 ^ 38) && t.unlock.lockNo == 1) = true ∧
    nextIs (exec .responseCheck (checking false 7 9)) (fun t => t.unlock.lockEnd == some (1000 + 2 ^ 42)) = true ∧
    nextIs (exec .responseCheck (setReg (checking true 0 0) rRgtPolicy 2)) (fun t => unlockLevel t == 0 && t.unlock.refusals == 1) = true := by decide +kernel

theorem test_levels :
    nextIs (exec (.rgtUnlockWrite .twp 8) (setReg tiny rRgtUnlock 3)) (fun t => unlockLevel t == 2 && regF t rRgtUnlock 3 2 == 2) = true ∧
    nextIs (exec (.rgtUnlockWrite .twp 0) (setReg tiny rRgtUnlock 3)) (fun t => unlockLevel t == 3) = true ∧
    nextIs (exec (.rgtUnlockWrite .twp 0xC) (setReg tiny rRgtUnlock 2)) (fun t => unlockLevel t == 2 && regF t rRgtUnlock 3 2 == 3) = true ∧
    nextIs (exec (.rgtPolicyWrite .root 1) (setReg tiny rRgtUnlock 3)) (fun t => unlockLevel t == 1 && regF t rRgtPolicy 1 0 == 1) = true ∧
    isNext (exec (.rgtPolicyWrite (.tenant 1) 1) tiny) tiny = true ∧
    nextIs (exec (.bootRelease .root 2) (setReg tiny rIdBoot 0xA04)) (fun t => reg t rIdBoot == 0xB01) = true ∧
    isNext (exec (.bootRelease .root 2) tiny) tiny = true := by decide +kernel

/-- Hub time 1,000 with hub memory, a refusal, an aligned time base and stored MRAM. -/
def lived : State :=
  { tiny with
    hubMem := [(8, 1)], unlock := { tiny.unlock with refusals := 2 }, time := { tiny.time with isNew := false, trim := 9 }
    hank := { Hank.fresh with units := [(7, 7)], mount := 2 } }

theorem test_resets :
    nextIs (exec .hubReset lived) (fun t => t.ht == 1000 && t.regs == [] && t.hubMem == [] && t.parts == [] && t.boot.inReset && t.hank.units == [(7, 7)] &&
      t.hank.mount == 0 && !t.time.isNew && t.time.trim == 9 && t.unlock.refusals == 2) = true ∧
    nextIs (exec .powerOnReset lived) (fun t => t.ht == 0 && t.time.isNew && t.unlock.refusals == 0 && t.hank.units == [(7, 7)] && t.boot.inReset) = true := by
  decide +kernel

/-- The hub of the tiny grid in reset. -/
def held : State := { tiny with boot := { tiny.boot with inReset := true } }

theorem test_start_up : isNext (exec .hubResetRelease tiny) tiny = true ∧
    nextIs (exec .hubResetRelease held) (fun t => !t.boot.inReset && regF t rIdBoot 15 8 == 9 && t.boot.whorl == some 0 && (getW t 0).st == .running &&
      (getW t 0).rom == some 0 && t.boot.releasedAt == 1000) = true ∧
    nextIs (exec .hubResetRelease { held with integ := { held.integ with romOk := false } }) (fun t => regF t rIdBoot 15 8 == 0xFE &&
      bit (reg t rIdBoot) 0 && t.boot.whorl == none) = true := by decide +kernel

theorem test_stage_timeout : isNext (exec .bootStageTimeout tiny) tiny = true ∧
    nextIs (exec .bootStageTimeout { setReg tiny rIdBoot 0x900 with boot := { tiny.boot with whorl := some 0 }, ht := 120000000 }) (fun t =>
      (getW t 0).st == .out && t.boot.restarts == 1 && t.boot.whorl == some 1) = true ∧
    isNext (exec .bootStageTimeout { setReg tiny rIdBoot 0x900 with boot := { tiny.boot with whorl := some 0 }, ht := 119999999 })
      { setReg tiny rIdBoot 0x900 with boot := { tiny.boot with whorl := some 0 }, ht := 119999999 } = true := by decide +kernel

/-! ### The bare path -/

/-- ROOT's copy of the block names a core. -/
def bare (core : Nat) : State :=
  setAgaReg (setAgaReg tiny .root rAgaSetHi 0x4000000000000000) .root rAgaSetLo (word core)

theorem test_aga : agaState (bare 0x41) .root = 0 ∧ mayReg (bare 0x41) .root rAgaCmd true 0 = true ∧
    nextIs (exec (.agaAgentRead .root 0x2000) (bare 0x41)) (fun t => t.aga.cur.map AgaOp.set == some (one 0x41) && t.aga.opId == 40 && t.opCtr == 41 &&
      agaState t .root == 1 && t.ops.map (fun o => (o.issuer, o.type, o.reg, o.sites)) == [(8, .read, 0x20, [0x81])]) = true ∧
    nextIs (exec (.agaAgentRead .root 0x2000) (bare 0x441)) (fun t => agaState t .root == 2 && bits (agaReg t .root rAgaStat) 15 8 == statusCode .noagent &&
      t.ops == []) = true ∧
    nextIs (exec (.agaAgentRead .root 0x2000) (setAgaReg (bare 0x41) .root rAgaStat 1)) (fun t => bits (agaReg t .root rAgaRefused) 15 0 == 1 &&
      t.aga.cur == none) = true ∧
    nextIs (exec (.agaAgentWrite .root 0x2000) (bare 0x41)) (fun t => nextIs (exec (.agaAgentRead .twp 0x2000) (setRegF t rRgtUnlock 1 0 3)) fun u =>
      u.aga.q.map AgaOp.who == [.twp] && u.aga.cur == t.aga.cur && agaState u .twp == 1) = true := by decide +kernel

-- chapter 14's example: AGA_CMD 0x0302_000B reads core register 0x302
theorem test_aga_creg : cmdOp 0x0302000B = 5 ∧ cmdCreg 0x0302000B = 0x302 ∧ cmdRed 0x0302000B = .none ∧
    nextIs (exec (.agaCregRead .root 0x0302000B) (bare 0x41)) (fun t => t.ops.map (fun o => (o.type, o.reg, o.pre)) ==
      [(.read, 0x82, [(aAgCwin, 0x300)])]) = true ∧
    nextIs (exec (.agaLmRead .root 9) (setAgaReg (bare 0x41) .root rAgaLmd 0x0002003000001000)) (fun t => t.ops.map (fun o => (o.type, o.lmAddr, o.nWords)) ==
      [(.lmRead, 0x1000, 4)]) = true := by decide +kernel

/-- The bare path at an operation of ROOT, with a deadline. -/
def bareBusy (r : List Arrival) : State :=
  { setAgaReg tiny .root rAgaStat 1 with aga := ⟨[], some ⟨.root, 0x2005, one 0x41, 0, 0, 40000⟩, 40, some 2000⟩, opCtr := 41, arrivals := r }

theorem test_aga_end : isNext (exec .agaComplete tiny) tiny = true ∧ isNext (exec .agaComplete (bareBusy [])) (bareBusy []) = true ∧
    nextIs (exec .agaComplete (bareBusy [⟨40, .ok, 0, some 0x99, [], 0, none⟩])) (fun t => t.aga.cur == none && agaState t .root == 2 &&
      agaReg t .root rAgaRdata == 0x99 && bits (agaReg t .root rAgaStat) 15 8 == 0 && t.arrivals == []) = true ∧
    isNext (exec .agaTimeout { bareBusy [] with ht := 1999 }) { bareBusy [] with ht := 1999 } = true ∧
    nextIs (exec .agaTimeout { bareBusy [] with ht := 2000 }) (fun t => t.aga.cur == none && agaState t .root == 2 &&
      bits (agaReg t .root rAgaStat) 15 8 == 3 && bits (agaReg t .root rAgaStat) 63 32 == 0xFFFFFFFF) = true := by decide +kernel

/-! ### The machine -/

theorem test_health : canonical tiny = true ∧ localFits tiny (mkRec (srcDistaff 11) 8 0 (0xB00 * 2 ^ 24 + 7 * 2 ^ 8 + 14) [1000, 1]) = true ∧
    regF (healthChange tiny 14 7 true) rHltGen 31 0 = 1 ∧ lineUp (healthChange tiny 14 7 true) 5 = true ∧
    (healthChange tiny 14 7 true).funnel.local_ = [mkRec (srcDistaff 11) 8 0 (0xB00 * 2 ^ 24 + 7 * 2 ^ 8 + 14) [1000, 1]] ∧
    (healthChange { tiny with funnel := { tiny.funnel with held := [rec1] } } 14 7 false).funnel.held.length = 2 ∧
    (healthChange { tiny with funnel := { tiny.funnel with held := List.replicate 64 (mkRec (srcDistaff 11) 8 0 0 [1]) } } 14 7 false).funnel.overflow = 1 ∧
    isNext (exec (.traceLinkFail 0) tiny) (healthChange (setF tiny 0 { Flyer.fresh with trcFail := true }) 4 0 true) = true := by decide +kernel

theorem test_step : isNext (step State.reset) { State.reset with ht := 1 } = true ∧
    isNext (step { tiny with pending := [.hostDoor 1, .funnelRelease] }) (raiseLine { tiny with pending := [.funnelRelease] } 8) = true ∧
    canonical State.reset = true ∧ LeasesApart State.reset := by
  refine ⟨by decide +kernel, by decide +kernel, by decide +kernel, ?_⟩
  intro w v h k _ _ _ _ a b _ ha
  simp [getLease, getW, State.reset, tget, Whorl.fresh] at ha
/-! ### Terms that are not well formed, one for each check -/

theorem test_wf_requesters : (Instr.bootRelease (.tenant 255) 0).wf = true ∧ (Instr.bootRelease (.tenant 256) 0).wf = false ∧
    (Instr.bootRelease (.whorl 7) 0).wf = true ∧ (Instr.bootRelease (.whorl 8) 0).wf = false ∧ (Instr.bootRelease .root 0).wf = true ∧
    (Instr.registerWrite .root 0xEFF8 0).wf = true ∧ (Instr.registerWrite .root 0xF000 0).wf = false ∧ (Instr.registerWrite .root 0x104 0).wf = false := by
  decide

theorem test_wf_places : (Instr.freezeLate 8128).wf = true ∧ (Instr.freezeLate 8129).wf = false ∧ (Instr.freezeLate 65).wf = false ∧
    (Instr.freezeLate 8192).wf = false ∧ (Instr.flyerTake 255).wf = true ∧ (Instr.flyerTake 256).wf = false ∧ (Instr.channelFire 256 0).wf = false ∧
    (Instr.traceWordError 256 ⟨0, []⟩).wf = false ∧ (Instr.linkAck 1031 0).wf = true ∧ (Instr.linkAck 1032 0).wf = false ∧
    (Instr.crossingOverrun 6143).wf = true ∧ (Instr.crossingOverrun 6144).wf = false ∧ (Instr.scheduleStep 0 ⟨[65], [], [], []⟩).wf = false := by decide

theorem test_wf_drop_points : (Instr.gapFlush (.bobbin 65) 0).wf = false ∧ (Instr.gapFlush (.flyer 256) 0).wf = false ∧
    (Instr.gapFlush (.sink 2) 0).wf = true ∧ (Instr.gapFlush (.sink 3) 0).wf = false ∧ (Instr.gapFlush .ring 0).wf = true := by decide

theorem test_wf_values : (Instr.tapEdge 0 ⟨none, 1, [], 0, false⟩).wf = false ∧ (Instr.tapEdge 0 ⟨none, 65, List.replicate 65 0, 0, false⟩).wf = false ∧
    (Instr.tapEdge 0 ⟨none, 64, List.replicate 64 0, 0, true⟩).wf = true ∧
    (Instr.elect 0 0 ⟨⟨false, 0, 0⟩, 0x10000, none, 0⟩).wf = false ∧ (Instr.elect 0 0 ⟨⟨false, 0, 0⟩, 0, some (⟨false, 0, 0⟩, 0x10000), 0⟩).wf = false ∧
    (Instr.elect 0 0 ⟨⟨false, 0, 0⟩, 0, none, 2 ^ 64⟩).wf = false ∧ (Instr.elect 0 0 ⟨⟨false, 0, 0⟩, 0xFFFF, none, 2 ^ 64 - 1⟩).wf = true ∧
    (Instr.packetReceive 1032 [] [] [] []).wf = false ∧ Instr.commitDurable.wf = true ∧ (Instr.queueResync 0 0x10000).wf = false ∧
    (Instr.mramScrub 0 ⟨0x80000, false, 0⟩).wf = false ∧ (Instr.nandPatrol 0 0x20000 0 0).wf = false ∧ (Instr.nandPatrol 0 0 0x100 0).wf = false ∧
    (Instr.nandPatrol 0 0 0 34).wf = false ∧ (Instr.msg 0 0 0 0 0 0 []).wf = false ∧ (Instr.msg 0 0 0 0 0 0 (List.replicate 65 0)).wf = false ∧
    (Instr.mpReadBeat 0 true [0] 0).wf = false ∧ (Instr.sampleEdge 0 [(65, 0)]).wf = false := by decide

theorem test_no_words : decodeTableWord 32 0 = none ∧ State.reset.withFetchWord 32 0 = State.reset := by
  exact ⟨rfl, rfl⟩
end Sys2Proof.Tests
end

section
/-! SUPPORT. Writes of the register window: what a register keeps bit by bit, what a plain write and a write of the counter page change,
when REGISTER_WRITE acts at all, and the values stored where a chapter limits them. -/

namespace Sys2Proof.Machine

/-! ### What a register keeps (R12, R379) -/

/-- Each bit acts by its own access type. -/
theorem RegLay.write_getLsbD (l : RegLay) (old v : Word) (i : Nat) (hi : i < 64) : (l.write old v).getLsbD i =
    if (word l.w1c).getLsbD i ∧ v.getLsbD i then false
    else if (word l.rw).getLsbD i then v.getLsbD i else old.getLsbD i := by
  have hbit : (l.write old v).getLsbD i =
      ((old.getLsbD i && !(word l.rw).getLsbD i || v.getLsbD i && (word l.rw).getLsbD i) &&
        !(v.getLsbD i && (word l.w1c).getLsbD i)) := by
    simp only [RegLay.write, BitVec.getLsbD_and, BitVec.getLsbD_or, BitVec.getLsbD_not, hi, decide_true, Bool.true_and]
  rw [hbit]
  cases (word l.w1c).getLsbD i <;> cases (word l.rw).getLsbD i <;> cases v.getLsbD i <;> simp

section
variable (s : State) (who : Who) (o : Nat) (v : Word)

/-! ### Plain writes -/

/-- A reserved offset keeps everything. -/
theorem plainWrite_reserved (h : layAt o = none) : plainWrite s who o v = s := by
  simp only [plainWrite, h]

/-- A register of the layout changes in the copy the requester's access finds (R381). -/
theorem plainWrite_laid (l : RegLay) (h : layAt o = some l) :
    plainWrite s who o v = regPut s (regKey s who o) o (l.write (regGet s (regKey s who o) o) (clampReg o v)) := by
  simp only [plainWrite, h]

/-! ### The Card-engine and the counter page -/

/-- A write of the counter page is a plain write that may move the times from which the boundaries of CNT_AO_CTRL and CNT_SMP_CTRL
count, and no time of another register's. -/
theorem cntWrite_ring : ∃ r, cntWrite s who o v = { plainWrite s who o v with ring := r } ∧
    { r with aoFrom := (plainWrite s who o v).ring.aoFrom, smpFrom := (plainWrite s who o v).ring.smpFrom } =
      (plainWrite s who o v).ring ∧
    (o ≠ rCntAoCtrl → o ≠ rCntSmpCtrl → r = (plainWrite s who o v).ring) := by
  simp only [cntWrite]
  split
  next hao => exact ⟨_, rfl, rfl, fun hne => absurd hao.1 hne⟩
  next =>
    split
    next hsmp => exact ⟨_, rfl, rfl, fun _ hne => absurd hsmp.1 hne⟩
    next => exact ⟨_, rfl, rfl, fun _ _ => rfl⟩

/-- A reserved offset of the counter page keeps everything: no bit of it changes, so no time moves. -/
theorem cntWrite_reserved (h : layAt o = none) : cntWrite s who o v = s := by
  simp [cntWrite, plainWrite_reserved _ _ _ _ h]

/-- The Card-engine page has plain writes alone. -/
theorem regWrite_card (h : o / 0x1000 = 8) : regWrite s who o v = plainWrite s who o v := by
  simp only [regWrite, h]

/-- The counter page has writes of its own kind alone. -/
theorem regWrite_counter (h : o / 0x1000 = 9) : regWrite s who o v = cntWrite s who o v := by
  simp only [regWrite, h]

/-- A reserved offset of the two pages keeps everything. -/
theorem regWrite_reserved (hp : o / 0x1000 = 8 ∨ o / 0x1000 = 9) (h : layAt o = none) : regWrite s who o v = s := by
  rcases hp with hp | hp
  · rw [regWrite_card _ _ _ _ hp, plainWrite_reserved _ _ _ _ h]
  · rw [regWrite_counter _ _ _ _ hp, cntWrite_reserved _ _ _ _ h]

/-- A register of the two pages is written plainly, but for the times of the two boundaries. -/
theorem regWrite_laid (hp : o / 0x1000 = 8 ∨ o / 0x1000 = 9) (l : RegLay) (h : layAt o = some l) :
    ∃ r, regWrite s who o v =
        { regPut s (regKey s who o) o (l.write (regGet s (regKey s who o) o) (clampReg o v)) with ring := r } ∧
      { r with aoFrom := s.ring.aoFrom, smpFrom := s.ring.smpFrom } = s.ring ∧
      (o ≠ rCntAoCtrl → o ≠ rCntSmpCtrl → r = s.ring) := by
  have hplain := plainWrite_laid s who o v l h
  rcases hp with hp | hp
  · exact ⟨s.ring, by rw [regWrite_card _ _ _ _ hp, hplain]; rfl, rfl, fun _ _ => rfl⟩
  · rw [regWrite_counter _ _ _ _ hp, ← hplain]
    have hring : (plainWrite s who o v).ring = s.ring := by rw [hplain]; rfl
    simpa only [hring] using cntWrite_ring s who o v

/-! ### When REGISTER_WRITE acts -/

/-- Off the pages, or at an offset that is not aligned, nothing changes. -/
theorem exec_registerWrite_outside (h : o % 8 ≠ 0 ∨ inPages o = false) : exec (.registerWrite who o v) s = .next s := by
  have hno : ¬(o % 8 = 0 ∧ inPages o = true) := fun ⟨ha, hi⟩ => by simp [ha, hi] at h
  show execRegisterWrite who o v s = _
  rw [execRegisterWrite, if_neg hno, ok]

/-- At a register's offset it is a write of the window with every byte strobe. -/
theorem exec_registerWrite_inside (ha : o % 8 = 0) (hi : inPages o = true) :
    exec (.registerWrite who o v) s = .next (winWrite s who o v 0xFF).2 := by
  show execRegisterWrite who o v s = _
  rw [execRegisterWrite, if_pos ⟨ha, hi⟩, ok]

/-- Without rights nothing changes. -/
theorem exec_registerWrite_refused (hm : mayReg s who o true v = false) : exec (.registerWrite who o v) s = .next s := by
  by_cases ha : o % 8 = 0
  · cases hi : inPages o with
    | false => exact exec_registerWrite_outside s who o v (.inr hi)
    | true => simp [exec_registerWrite_inside s who o v ha hi, winWrite, hi, hm]
  · exact exec_registerWrite_outside s who o v (.inl ha)

/-- With rights it acts as the page says; the release of the cores asks ROOT too. -/
theorem exec_registerWrite_allowed (ha : o % 8 = 0) (hi : inPages o = true) (hm : mayReg s who o true v = true)
    (hr : o = rIdBoot → bit v 1 = true → isRoot s who 3 = true) :
    exec (.registerWrite who o v) s = .next (regWrite s who o v) := by
  have hroot : (o == rIdBoot && bit v 1 && !isRoot s who 3) = false := by
    cases hb : o == rIdBoot <;> cases hv : bit v 1 <;> simp_all
  simp [exec_registerWrite_inside s who o v ha hi, winWrite, hi, hm, hroot]

/-- On the two pages it always is the page's write: the release of the cores lies on another. -/
theorem exec_registerWrite_two_pages (hp : o / 0x1000 = 8 ∨ o / 0x1000 = 9) (ha : o % 8 = 0) (hm : mayReg s who o true v = true) :
    exec (.registerWrite who o v) s = .next (regWrite s who o v) := by
  have hi : inPages o = true := by simp only [inPages, decide_eq_true_eq]; omega
  exact exec_registerWrite_allowed s who o v ha hi hm fun hb => absurd hp (by subst hb; decide)

end

/-! ### Limited values -/

/-- A field that is limited to a range that fits it stores the value brought into the range. -/
theorem bits_setBits_limited (v : Word) (hi lo a b : Nat) (hl : lo ≤ hi) (hh : hi < 64) (ha : a < 2 ^ (hi + 1 - lo)) :
    bits (setBits v hi lo (max a (min (bits v hi lo) b))) hi lo = max a (min (bits v hi lo) b) := by
  have hv := bits_lt v hi lo
  rw [bits_setBits _ _ _ _ hl hh, Nat.mod_eq_of_lt (by omega)]

/-- PRT_CUT_TMO.TMO is at least 2,000 (R123). -/
theorem clampReg_prtCutTmo (v : Word) : bits (clampReg rPrtCutTmo v) 31 0 = max 2000 (bits v 31 0) := by
  have hv : bits v 31 0 ≤ 2 ^ 32 := (bits_lt v 31 0).le
  rw [show clampReg rPrtCutTmo v = setBits v 31 0 (max 2000 (min (bits v 31 0) (2 ^ 32))) from rfl,
    bits_setBits_limited _ _ _ _ _ (by decide) (by decide) (by decide), Nat.min_eq_left hv]

/-- AGA_DL is from 400 to 2 ^ 40. -/
theorem clampReg_agaDl (v : Word) : bits (clampReg rAgaDl v) 47 0 = max 400 (min (bits v 47 0) (2 ^ 40)) :=
  bits_setBits_limited _ _ _ _ _ (by decide) (by decide) (by decide)

/-- The identity and the rights page limit no value. -/
theorem clampReg_below_partitions (o : Nat) (v : Word) (ho : o < 0x2000) : clampReg o v = v := by
  have hne (r : Nat) (hr : 0x2000 ≤ r) : o ≠ r := by omega
  simp only [clampReg, hne rAgaDl (by decide), hne rPrtCutTmo (by decide), hne rCntSmpCtrl (by decide), hne rTrcFunCtrl (by decide),
    hne rTrcLlCtrl (by decide), hne rDmpStage (by decide), hne rMptCfg (by decide), hne rMptRate (by decide), if_false]

/-! ### The statement -/

/-- Settles O26: REGISTER_WRITE acts as the register's page says, and on the Card-engine and the counter page it replaces one register's
copy by what RegLay.write keeps of it bit by bit. -/
theorem registerWritesFollowTheLayout : Obligations.RegisterWritesFollowTheLayout := by
  unfold Obligations.RegisterWritesFollowTheLayout
  refine ⟨fun s who off v => ⟨exec_registerWrite_outside s who off v, exec_registerWrite_refused s who off v,
      exec_registerWrite_allowed s who off v, fun hp ha hm k hk => ?_⟩,
    fun v => ⟨clampReg_prtCutTmo v, clampReg_agaDl v, fun o ho => clampReg_below_partitions o v ho⟩⟩
  subst hk
  rw [exec_registerWrite_two_pages s who off v hp ha hm]
  refine ⟨fun hl => by rw [regWrite_reserved s who off v hp hl], fun l hl hwf => ?_⟩
  obtain ⟨r, hwrite, htimes, hother⟩ := regWrite_laid s who off v hp l hl
  refine ⟨_, congrArg _ hwrite, ?otherRegisters, ?frame, hother, ?bits⟩
  case otherRegisters => exact fun j o hj => regGet_regPut_ne s _ _ off o _ hj
  case frame => exact congrArg (fun r => { s with ring := r }) htimes
  case bits =>
    intro i hi
    have hstored := regGet_regPut s (regKey s who off) (regKey s who off) off
      (l.write (regGet s (regKey s who off) off) (clampReg off v)) hwf
    rw [if_pos rfl] at hstored
    exact (congrArg (·.getLsbD i) hstored).trans (l.write_getLsbD _ _ i hi)

end Sys2Proof.Machine
end

section
/-! SUPPORT. The bare path's checks (log entry 46) and the counterexample to O56: they are made after the GO has set the requester's
AGA_STAT to BUSY, so they see another state than the one before the GO where a rights register is that AGA_STAT itself. -/

namespace Sys2Proof.Machine

/-! ### A GO at the free path -/

section
variable (s : State) (who : Who) (v : Word)

/-- A requester that reaches the block starts OP 1, whatever OP and GO its value holds. -/
theorem exec_agaAgentWrite_allowed (h : mayReg s who rAgaCmd true v = true) :
    exec (.agaAgentWrite who v) s = .next (agaGo s who (agaCmdOf v 1)) := by
  show agaRow s who v 1 = _
  rw [agaRow, if_pos h, ok]

/-- The operation that a command word takes from the requester's own registers (R391). -/
def agaTaken : AgaOp :=
  ⟨who, v, agaReg s who rAgaSetHi ++ agaReg s who rAgaSetLo, agaReg s who rAgaWdata, agaReg s who rAgaLmd,
    bits (agaReg s who rAgaDl) 47 0⟩

/-- A state whose bare path has the operations l in its queue. -/
def agaQueued (l : List AgaOp) : State := { s with aga := { s.aga with q := l } }

/-- Its own queue changes nothing. -/
theorem agaQueued_self : agaQueued s s.aga.q = s := rfl

/-- A GO of a requester that is not BUSY makes it BUSY and queues what it has taken (R391). -/
theorem agaGo_queued (hgo : bit v 0 = true) (hop : cmdOp v ≠ 0 ∧ cmdOp v ≠ 7) (hidle : agaState s who ≠ 1) :
    agaGo s who v = agaRun (agaQueued (setAgaReg s who rAgaStat 1) (s.aga.q ++ [agaTaken s who v])) := by
  rw [agaGo, if_neg (by simp [hgo, hop]), if_neg hidle]
  rfl

/-- The free path ends an operation that fails a check and goes on with the rest of its queue (R392, R393). -/
theorem agaNext_refused (n : Nat) (a : AgaOp) (l : List AgaOp) (st : Status) (hcur : s.aga.cur = none)
    (hbad : agaBad (agaQueued s l) a = some st) :
    agaNext (n + 1) (agaQueued s (a :: l)) = agaNext n (agaFinish (agaQueued s l) a.who st 0 none 0) := by
  rw [agaNext]
  split
  next b m _ hq =>
    cases hq
    dsimp only
    split
    next st' hst =>
      cases hbad.symm.trans hst
      rfl
    next hnone => cases hbad.symm.trans hnone
  next hno => exact absurd rfl (hno a l hcur)

/-- Where the checks are made, the requester is BUSY already. -/
theorem agaGo_refused (st : Status) (hgo : bit v 0 = true) (hop : cmdOp v ≠ 0 ∧ cmdOp v ≠ 7) (hidle : agaState s who ≠ 1)
    (hcur : s.aga.cur = none) (hq : s.aga.q = []) (hbad : agaBad (setAgaReg s who rAgaStat 1) (agaTaken s who v) = some st) :
    agaGo s who v = agaFinish (setAgaReg s who rAgaStat 1) who st 0 none 0 := by
  have hempty : agaQueued (setAgaReg s who rAgaStat 1) [] = setAgaReg s who rAgaStat 1 := by
    rw [← hq]
    exact agaQueued_self _
  rw [← hempty] at hbad
  have hended := agaNext_refused (setAgaReg s who rAgaStat 1) 0 (agaTaken s who v) [] st hcur hbad
  rw [hempty] at hended
  rw [agaGo_queued s who v hgo hop hidle, hq]
  exact hended

/-- An operation that has ended shows its status (R393). -/
theorem agaFinish_status (st : Status) (count : Nat) (h : tabWf 0 s.regs = true) :
    bits (agaReg (agaFinish s who st count none 0) who rAgaStat) 15 8 = statusCode st := by
  have hstat : agaFinish s who st count none 0 =
      setAgaReg s who rAgaStat (word (count % 2 ^ 32 * 2 ^ 32 + statusCode st * 2 ^ 8 + 2)) := by
    simp [agaFinish]
  have hst : statusCode st < 9 := by cases st <;> decide
  rw [hstat, agaReg, setAgaReg, regGet_regPut _ _ _ _ _ h, if_pos rfl, bits, word_toNat]
  omega

end

/-! ### A rights register that is an AGA_STAT -/

/-- A tenant that no hub has (R412 knows 256): the key of its rights register is that of Whorl 0's own AGA_STAT. -/
def strayTenant : Nat := 0x601407

/-- The two registers share one key. -/
theorem rgtTen_strayTenant : rRgtTen + 8 * strayTenant = keyWho (.whorl 0) rAgaStat := rfl

/-- So bit p of that AGA_STAT is its right to partition p. -/
theorem tenHas_strayTenant (s : State) (p : Nat) : tenHas s strayTenant p = bit (agaReg s (.whorl 0) rAgaStat) p := by
  have hreset : regReset (keyWho (.whorl 0) rAgaStat) = regReset rAgaStat := by decide
  rw [tenHas, rgtTen_strayTenant, reg, agaReg, regGet, hreset, regGet]

/-- A tenant's right to a set that names a partition (R252) is its right to that partition. -/
theorem setRights_partition (s : State) (who : Who) (L : Nat) (d : BitVec 128) (k : Nat) (hd : setKind d = 1)
    (hr : rightsOf s who = .tenant k) : setRights s who L d = tenHas s k (setLo d).toNat := by
  rw [setRights, if_neg (by omega), if_pos hd, hr]

/-- Whorl 0's agent write to partition 0. -/
def strayOp : AgaOp := ⟨.whorl 0, agaCmdOf 0 1, (0x1000000000000000 : Word) ++ (0 : Word), 0, 0, 40000⟩

/-- Whorl 0's program has the stray tenant's rights, and its copy of the block names partition 0. -/
def strayState : State :=
  setAgaReg (setW State.reset 0 { Whorl.fresh with rights := .tenant strayTenant }) (.whorl 0) rAgaSetHi 0x1000000000000000

/-- With those rights and a partition 0 without agents, the requester's own STATE decides which check fails. -/
theorem agaBad_strayOp (s : State) (hw : (getW s 0).rights = .tenant strayTenant) (hs : opSites s strayOp.set = []) :
    agaBad s strayOp = some (if bit (agaReg s (.whorl 0) rAgaStat) 0 then .noagent else .rights) := by
  have hform : agaForm s strayOp = true := rfl
  have hrights : agaRights s strayOp = bit (agaReg s (.whorl 0) rAgaStat) 0 := by
    rw [agaRights, if_neg (by decide), setRights_partition s strayOp.who 2 strayOp.set strayTenant (by decide) hw]
    exact tenHas_strayTenant s 0
  rw [agaBad, hform, hrights, hs]
  cases bit (agaReg s (.whorl 0) rAgaStat) 0 <;> rfl

/-- Before the GO the check of rights fails. -/
theorem agaBad_strayState : agaBad strayState strayOp = some .rights := by
  rw [agaBad_strayOp strayState rfl (by decide +kernel)]
  rfl

/-- After it BUSY stands where the rights are read, and the set names no agent. -/
theorem agaBad_strayState_busy : agaBad (setAgaReg strayState (.whorl 0) rAgaStat 1) strayOp = some .noagent := by
  rw [agaBad_strayOp _ rfl (by decide +kernel)]
  rfl

/-- A tenant's Whorl reaches the block (R395). -/
theorem mayReg_strayState : mayReg strayState (.whorl 0) rAgaCmd true 0 = true := by decide

/-- The GO ends with NOAGENT. -/
theorem exec_agaAgentWrite_strayState : exec (.agaAgentWrite (.whorl 0) 0) strayState =
    .next (agaFinish (setAgaReg strayState (.whorl 0) rAgaStat 1) (.whorl 0) .noagent 0 none 0) := by
  rw [exec_agaAgentWrite_allowed _ _ _ mayReg_strayState]
  exact congrArg _ (agaGo_refused _ _ _ _ (by decide) (by decide) (by decide) rfl rfl agaBad_strayState_busy)

/-! ### The statement -/

/-- Refutes O56: a state may give a Whorl's program the rights of a tenant beyond the 256 there are, and where that tenant's rights
register has the key of the Whorl's own AGA_STAT, the GO turns the status RIGHTS, which the state before it gives, into NOAGENT. -/
theorem not_theBarePathRunsOneOperationAtATime : ¬ Obligations.TheBarePathRunsOneOperationAtATime := by
  unfold Obligations.TheBarePathRunsOneOperationAtATime
  intro h
  obtain ⟨hrow, -⟩ := h strayState (by decide +kernel)
  obtain ⟨-, -, hfree⟩ := hrow (.whorl 0) 0 1 (.agaAgentWrite (.whorl 0) 0) strayOp (by simp) rfl
  obtain ⟨-, hidle⟩ := hfree mayReg_strayState (by decide)
  obtain ⟨hrefused, -⟩ := hidle rfl rfl
  obtain ⟨t, hnext, -, -, hstatus, -⟩ := hrefused .rights agaBad_strayState
  have ht : agaFinish (setAgaReg strayState (.whorl 0) rAgaStat 1) (.whorl 0) .noagent 0 none 0 = t :=
    Host.Outcome.next.inj (exec_agaAgentWrite_strayState.symm.trans hnext)
  rw [← ht, agaFinish_status _ _ _ _ (by decide)] at hstatus
  exact absurd hstatus (by decide)

end Sys2Proof.Machine
end

section
/-! SUPPORT. The counterexample to O20: a ticket's deadline may free its issuer's place in the spine, and the operation that leaves then
arms another Whorl's ticket. -/

namespace Sys2Proof.Machine

/-- A PENDING ticket of an agent operation. -/
def agentTicket (dl : Option Nat) (opId : Nat) : Ticket := { Ticket.fresh with st := .pending, dl := dl, span := 40000, opId := opId }

/-- Whorl 1's write of AG_EVT_MAP at site 0, kept at its issuer (log entry 82). -/
def keptWrite : Op :=
  { id := 8, issuer := 1, iseq := 0, epoch := 0, type := .write, pre := [], reg := aAgEvtMap, set := 6 * 2 ^ 124, sites := [0], todo := [],
    nodes := [], entry := 0, path := [], data := [0], nWords := 0, lmAddr := 0, str := false, red := .none, one := true, dl := none,
    span := 40000, buf := 0, owner := .ticket 1 0, held := some 64 }

/-- Whorl 0's ticket has reached its deadline with its outcome waiting, and Whorl 1's ticket waits for the operation kept at its issuer. -/
def lateOutcomeState : State :=
  { setW (setW State.reset 0 { Whorl.fresh with tk := [(0, agentTicket (some 0) 7)] }) 1
      { Whorl.fresh with tk := [(0, agentTicket none 8)] } with
    ops := [{ keptWrite with id := 7, issuer := 0, owner := .ticket 0 0, held := none }, keptWrite], arrivals := [⟨7, .ok, 0, none, [], 0, none⟩] }

/-- The timeout of Whorl 0's ticket arms the deadline of Whorl 1's. -/
theorem exec_ticketTimeout_lateOutcomeState :
    ∃ t : State, exec (.ticketTimeout 0 0) lateOutcomeState = .next t ∧ (getTk (getW t 1) 0).dl = some 40000 :=
  ⟨_, rfl, by decide +kernel⟩

/-- Refutes O20: the deadline's giving up an operation lets the operations kept at their issuers go (log entry 82), and the one that leaves
gives another Whorl's ticket its deadline (R241), so TICKET_TIMEOUT keeps not every other Whorl. -/
theorem not_ticketsCompleteOnce : ¬ Obligations.TicketsCompleteOnce := by
  unfold Obligations.TicketsCompleteOnce
  intro h
  obtain ⟨-, -, -, htimeout, -⟩ := h lateOutcomeState 0 0 _ _ rfl rfl
  obtain ⟨s1, hnext, hwhorls, -⟩ := htimeout 0 rfl rfl (Nat.le_refl _)
  obtain ⟨t, ht, harmed⟩ := exec_ticketTimeout_lateOutcomeState
  have hkept : getW t 1 = getW lateOutcomeState 1 := by
    rw [Host.Outcome.next.inj (ht.symm.trans hnext), getW_setW_ne _ _ _ _ (by decide), getW, hwhorls, getW]
  rw [hkept] at harmed
  exact absurd harmed (by decide)

end Sys2Proof.Machine
end


section
/-! SUPPORT. What a canonical state gives its parts, and parts and fields read right after they are written. -/

namespace Sys2Proof.Machine

section
variable (s : State) (h : canonical s = true)
include h

theorem canonical_regs : tabWf 0 s.regs = true := by
  simp only [canonical, Bool.and_eq_true] at h
  tauto

theorem canonical_areg : tabWf 0 s.areg = true := by
  simp only [canonical, Bool.and_eq_true] at h
  tauto

theorem canonical_evPend : tabWf 0 s.evPend = true := by
  simp only [canonical, Bool.and_eq_true] at h
  tauto

theorem canonical_sites : tabWf Site.fresh s.sites = true := by
  simp only [canonical, Bool.and_eq_true] at h
  tauto

theorem canonical_flyers : tabWf Flyer.fresh s.flyers = true := by
  simp only [canonical, Bool.and_eq_true] at h
  tauto

end

section
variable (s : State)

/-- A site read after it is replaced. -/
theorem getS_setS_self (i : Nat) (x : Site) (h : tabWf Site.fresh s.sites = true) : getS (setS s i x) i = x := by
  rw [getS_setS _ _ _ _ h, if_pos rfl]

/-- A Flyer read after it is replaced. -/
theorem getF_setF_self (f : Nat) (x : Flyer) (h : tabWf Flyer.fresh s.flyers = true) : getF (setF s f x) f = x := by
  rw [getF_setF _ _ _ _ h, if_pos rfl]

/-- A saturating count of an object's field. -/
theorem bits_countObj (n o hi lo k : Nat) (h : tabWf 0 s.regs = true) (hl : lo ≤ hi) (hh : hi < 64) :
    bits (regGet (countObj s n o hi lo k) (keyObj n o) o) hi lo =
      min (bits (regGet s (keyObj n o) o) hi lo + k) (2 ^ (hi + 1 - lo) - 1) := by
  have hp : 0 < 2 ^ (hi + 1 - lo) := Nat.two_pow_pos _
  rw [countObj, regGet_regPut _ _ _ _ _ h, if_pos rfl, bits_setBits _ _ _ _ hl hh, Nat.mod_eq_of_lt (by unfold satAdd; omega), satAdd]

end

end Sys2Proof.Machine
end


section
/-! SUPPORT. The trace plane: a Flyer's queue, the groups it sends, its collector, and a column's end at the funnel. -/

namespace Sys2Proof.Machine

/-! ### FLYER_TAKE (R139) -/

section
variable (s : State) (f : Nat)

/-- A failed Flyer, and one that has taken a record at this edge, takes none. -/
theorem exec_flyerTake_idle (h : (getF s f).failed = true ∨ (getF s f).takeAt = flyerEdge s f + 1) :
    exec (.flyerTake f) s = .next s := by
  show execFlyerTake f s = _
  rw [execFlyerTake, if_pos (by simpa using h), ok]

/-- An empty queue is over no threshold (Table 5.10). -/
theorem overThreshold_empty (cap cls : Nat) (h : 0 < cap) : overThreshold cap 0 cls = false := by
  unfold overThreshold
  split <;> simp <;> omega

/-- An empty queue takes what fits it. -/
theorem verdict_empty (cap need cls type : Nat) (hc : 0 < cap) (h : need ≤ cap) : verdict cap 0 need cls type = .take := by
  simp [verdict, overThreshold_empty cap cls hc, h]

/-- An empty Flyer queue takes a record that is not lossless and has no gap before it. -/
theorem flyerVerdict_empty (r : Rec) (hq : (getF s f).q = []) (hg : tget none (getF s f).gaps (recSrc r) = none)
    (hn : recUnits r ≤ 128) (hl : isLossless s (partOfSrc s (recSrc r)) = false) : flyerVerdict s f r = .take := by
  have hneed : recUnits r + gapNeed (getF s f).gaps (recSrc r) ≤ 128 := by simpa [gapNeed, hg] using hn
  have hfill : unitsOf ((getF s f).q.map QRec.r) = 0 := by simp [hq, unitsOf]
  simp only [flyerVerdict, hl, hfill]
  exact verdict_empty _ _ _ _ (by decide) hneed

/-- A record that no gap precedes joins the queue with the hub time. -/
theorem flyerPush_take (r : Rec) (hv : flyerVerdict s f r = .take) (hg : tget none (getF s f).gaps (recSrc r) = none)
    (hl : isLossless s (partOfSrc s (recSrc r)) = false) :
    flyerPush s f r = setF s f { getF s f with q := (getF s f).q ++ [⟨r, s.ht⟩],
                                               gaps := tput none (getF s f).gaps (recSrc r) none } := by
  simp [flyerPush, hv, hl, gapAhead, hg]

/-- The feeds of a Flyer with one site, of which the Bobbin alone may have a record. -/
theorem feeds_single (i : Nat) (hs : sitesOf s f = [i]) (hsmp : (getS s i).sample = none) (htm : (getS s i).term = none)
    (hd : (getS s i).dOut = []) : feeds s f = [.bobbin i, .card] := by
  simp [feeds, hs, hsmp, htm, hd]

/-- The one record that waits is taken, wherever the round robin stands. -/
theorem exec_flyerTake_single (i : Nat) (r : Rec) (hfail : (getF s f).failed = false) (hedge : (getF s f).takeAt ≠ flyerEdge s f + 1)
    (hfeeds : feeds s f = [.bobbin i, .card]) (hhead : (getS s i).fifo.head? = some r) (hcard : (getF s f).card.out = [])
    (hv : flyerVerdict s f r = .take) :
    ∃ n : Nat, exec (.flyerTake f) s =
      .next (setF (flyerPush (feedPop s f (.bobbin i)) f r) f { getF (flyerPush (feedPop s f (.bobbin i)) f r) f with
        rr := n, takeAt := flyerEdge s f + 1 }) := by
  have hb : feedHead s f (.bobbin i) = some r := hhead
  have hc : feedHead s f .card = none := by simp [feedHead, hcard]
  refine ⟨1, ?_⟩
  show execFlyerTake f s = _
  rw [execFlyerTake, if_neg (by simp [hfail, hedge]), hfeeds]
  rcases Nat.mod_two_eq_zero_or_one (getF s f).rr with heven | hodd
  · have hodd : ((getF s f).rr + 1) % 2 = 1 := by omega
    simp [List.range_succ, heven, hodd, hb, hv, ok]
  · have heven : ((getF s f).rr + 1) % 2 = 0 := by omega
    simp [List.range_succ, heven, hodd, hb, hc, hv, ok]

/-- FLYER_TAKE moves the record from the Bobbin into the empty queue. -/
theorem flyerTake_moves (i : Nat) (r : Rec) (rest : List Rec) (hc : canonical s = true) (hfail : (getF s f).failed = false)
    (hedge : (getF s f).takeAt ≠ flyerEdge s f + 1) (hs : sitesOf s f = [i]) (hfifo : (getS s i).fifo = r :: rest)
    (hsmp : (getS s i).sample = none) (htm : (getS s i).term = none) (hd : (getS s i).dOut = []) (hcard : (getF s f).card.out = [])
    (hq : (getF s f).q = []) (hg : tget none (getF s f).gaps (recSrc r) = none) (hn : recUnits r ≤ 128)
    (hl : isLossless s (partOfSrc s (recSrc r)) = false) :
    ∃ t : State, exec (.flyerTake f) s = .next t ∧ (getS t i).fifo = rest ∧ (getF t f).q = [⟨r, s.ht⟩] := by
  have hsites := canonical_sites s hc
  have hflyers := canonical_flyers s hc
  obtain ⟨n, hexec⟩ := exec_flyerTake_single s f i r hfail hedge (feeds_single s f i hs hsmp htm hd) (by rw [hfifo]; rfl) hcard
    (flyerVerdict_empty s f r hq hg hn hl)
  have hpush := flyerPush_take (feedPop s f (.bobbin i)) f r (flyerVerdict_empty s f r hq hg hn hl) hg hl
  refine ⟨_, hexec, ?_, ?_⟩
  · rw [hpush]
    simp [feedPop, getS_setS_self s i _ hsites, hfifo]
  · have hpop : tabWf Flyer.fresh (feedPop s f (.bobbin i)).flyers = true := hflyers
    rw [hpush, getF_setF_self _ _ _ (setF_wf _ _ _ hpop), getF_setF_self _ _ _ hpop]
    simp [feedPop, hq]

/-! ### RECORD_AGE_DROP (R130, R144) -/

/-- An empty queue has nothing to discard. -/
theorem exec_recordAgeDrop_empty (hq : (getF s f).q = []) : exec (.recordAgeDrop f) s = .next s := by
  show execRecordAgeDrop f s = _
  simp only [execRecordAgeDrop, hq, ok]

/-- Class D, a GAP and a record that has not waited long enough stay. -/
theorem exec_recordAgeDrop_kept (e : QRec) (rest : List QRec) (hq : (getF s f).q = e :: rest)
    (h : recCls e.r = 4 ∨ recType e.r = 6 ∨ s.ht < e.ent + 2 ^ 22) : exec (.recordAgeDrop f) s = .next s := by
  have hno : ¬(recCls e.r ≠ 4 ∧ recType e.r ≠ 6 ∧ e.ent + 2 ^ 22 ≤ s.ht) := by omega
  show execRecordAgeDrop f s = _
  simp only [execRecordAgeDrop, hq, if_neg hno, ok]

/-- A Flyer whose head record is discarded for its age: the gap stands ahead of the next record of the source in the queue, or joins the
queue's tail. -/
def agedOut (x : Flyer) (now : Nat) (e : QRec) (rest : List QRec) : Flyer :=
  let k := recSrc e.r
  let a := (tget none x.ages k).elim (gapOf 2 now e.r) fun g => gapJoin g (gapOf 2 now e.r)
  if rest.any fun y => recSrc y.r == k then { x with q := rest, ages := tput none x.ages k (some a) }
  else { x with q := rest, ages := tput none x.ages k none,
                gaps := tput none x.gaps k (some ((tget none x.gaps k).elim a fun g => gapBefore a g)) }

/-- The discarded record has left the queue. -/
theorem agedOut_q (x : Flyer) (now : Nat) (e : QRec) (rest : List QRec) : (agedOut x now e rest).q = rest := by
  simp only [agedOut]
  split <;> rfl

/-- The gap ahead of the next record of its source. -/
theorem agedOut_ages (x : Flyer) (now : Nat) (e : QRec) (rest : List QRec) (h : ∃ y ∈ rest, recSrc y.r = recSrc e.r) :
    tget none (agedOut x now e rest).ages (recSrc e.r) =
      some ((tget none x.ages (recSrc e.r)).elim (gapOf 2 now e.r) fun g => gapJoin g (gapOf 2 now e.r)) := by
  simp only [agedOut]
  rw [if_pos (by simpa using h), tget_tput_self _ _ _ _ (by simp)]

/-- The gap at the queue's tail. -/
theorem agedOut_gaps (x : Flyer) (now : Nat) (e : QRec) (rest : List QRec) (h : ∀ y ∈ rest, recSrc y.r ≠ recSrc e.r)
    (ha : tget none x.ages (recSrc e.r) = none) (hg : tget none x.gaps (recSrc e.r) = none) :
    tget none (agedOut x now e rest).gaps (recSrc e.r) = some (gapOf 2 now e.r) := by
  simp only [agedOut]
  rw [if_neg (by simpa using h), tget_tput_self _ _ _ _ (by simp)]
  simp [ha, hg]

/-- The head record is discarded and counted. -/
theorem exec_recordAgeDrop_aged (e : QRec) (rest : List QRec) (hq : (getF s f).q = e :: rest)
    (h : recCls e.r ≠ 4 ∧ recType e.r ≠ 6 ∧ e.ent + 2 ^ 22 ≤ s.ht) :
    exec (.recordAgeDrop f) s = .next (countObj (setF s f (agedOut (getF s f) s.ht e rest)) f rTrcFlyStat 47 32 1) := by
  show execRecordAgeDrop f s = _
  simp only [execRecordAgeDrop, hq, if_pos h, ok, agedOut]

/-- RECORD_AGE_DROP of a record that is due. -/
theorem recordAgeDrop_discards (e : QRec) (rest : List QRec) (hc : canonical s = true) (hq : (getF s f).q = e :: rest)
    (h : recCls e.r ≠ 4 ∧ recType e.r ≠ 6 ∧ e.ent + 2 ^ 22 ≤ s.ht) :
    ∃ t : State, exec (.recordAgeDrop f) s = .next t ∧ getF t f = agedOut (getF s f) s.ht e rest ∧ t.sites = s.sites ∧
      bits (regGet t (keyObj f rTrcFlyStat) rTrcFlyStat) 47 32 =
        min (bits (regGet s (keyObj f rTrcFlyStat) rTrcFlyStat) 47 32 + 1) 0xFFFF :=
  ⟨_, exec_recordAgeDrop_aged s f e rest hq h, getF_setF_self _ _ _ (canonical_flyers s hc), rfl,
    bits_countObj _ _ _ _ _ _ (canonical_regs s hc) (by decide) (by decide)⟩

/-! ### GROUP_SEND (R140) -/

/-- The units of a source's gap record. -/
theorem unitsOf_gapAhead (a : Tab (Option Gap)) (k : Nat) : unitsOf (gapAhead a k) ≤ 3 := by
  unfold gapAhead
  cases tget none a k with
  | none => exact Nat.zero_le 3
  | some g => exact Nat.le_refl _

/-- What leaves a queue has no more units than asked for. -/
theorem unitsOf_takeUnits (n : Nat) (a : Tab (Option Gap)) (q : List QRec) : unitsOf (takeUnits n a q).1 ≤ n := by
  induction q generalizing n a with
  | nil => exact Nat.zero_le n
  | cons e q ih =>
    simp only [takeUnits]
    split
    next hfits =>
      have hrest := ih (n - (unitsOf (gapAhead a (recSrc e.r)) + recUnits e.r)) (tput none a (recSrc e.r) none)
      simp only [unitsOf, List.map_append, List.map_cons, List.sum_append, List.sum_cons] at hfits hrest ⊢
      omega
    next =>
      split
      next hgap => exact (unitsOf_gapAhead a _).trans hgap.2
      next => exact Nat.zero_le n

/-- A failed Flyer, one whose collector input is taken and one with an empty queue send nothing. -/
theorem exec_groupSend_idle (h : (getF s f).failed = true ∨ (getF s f).local_ ≠ [] ∨ (getF s f).q = []) :
    exec (.groupSend f) s = .next s := by
  show execGroupSend f s = _
  rw [execGroupSend, if_pos, ok]
  rcases h with h | h | h <;> simp [h, takeUnits]

/-- The front of the queue goes as one group. -/
theorem exec_groupSend_front (hfail : (getF s f).failed = false) (hfree : (getF s f).local_ = [])
    (h : (takeUnits 16 (getF s f).ages (getF s f).q).1 ≠ []) :
    exec (.groupSend f) s = .next (setF s f { getF s f with
      q := (takeUnits 16 (getF s f).ages (getF s f).q).2.1, ages := (takeUnits 16 (getF s f).ages (getF s f).q).2.2,
      gseq := (getF s f).gseq + 1,
      local_ := [mkGroup f (getF s f).gseq (takeUnits 16 (getF s f).ages (getF s f).q).1] }) := by
  show execGroupSend f s = _
  rw [execGroupSend, if_neg (by simp [hfail, hfree, h]), ok]

/-! ### COLLECTOR_ARBITRATE (R48, R49) -/

/-- While the next hop is full nothing goes. -/
theorem exec_collectorArbitrate_full (h : southFree s f = false) : exec (.collectorArbitrate f) s = .next s := by
  show execCollectorArbitrate f s = _
  simp [execCollectorArbitrate, h, ok]

/-- Nothing waits. -/
theorem exec_collectorArbitrate_empty (hl : (getF s f).local_ = []) (ht : (getF s f).through = []) :
    exec (.collectorArbitrate f) s = .next s := by
  show execCollectorArbitrate f s = _
  simp [execCollectorArbitrate, hl, ht, ok]

section
variable (g h : List Word) (t u : List (List Word)) (hfree : southFree s f = true)
include hfree

/-- The local group goes at its turn. -/
theorem exec_collectorArbitrate_local (hl : (getF s f).local_ = g :: t) (ht : (getF s f).through = h :: u) (hd : (getF s f).colD ≤ 0) :
    exec (.collectorArbitrate f) s = .next (sendSouth (setF s f { getF s f with
      local_ := t, colD := (getF s f).colD + ((f / 16 : Nat) : Int) * ((groupWords g : Nat) : Int) }) f g) := by
  show execCollectorArbitrate f s = _
  simp [execCollectorArbitrate, hfree, hl, ht, hd, ok]

/-- The through group goes at its turn. -/
theorem exec_collectorArbitrate_through (hl : (getF s f).local_ = g :: t) (ht : (getF s f).through = h :: u)
    (hd : 0 < (getF s f).colD) :
    exec (.collectorArbitrate f) s = .next (sendSouth (setF s f { getF s f with
      through := u, colD := (getF s f).colD - ((groupWords h : Nat) : Int) }) f h) := by
  show execCollectorArbitrate f s = _
  simp [execCollectorArbitrate, hfree, hl, ht, not_le.mpr hd, ok]

/-- The local group goes alone. -/
theorem exec_collectorArbitrate_onlyLocal (hl : (getF s f).local_ = g :: t) (ht : (getF s f).through = []) :
    exec (.collectorArbitrate f) s = .next (sendSouth (setF s f { getF s f with local_ := t, colD := 0 }) f g) := by
  show execCollectorArbitrate f s = _
  simp [execCollectorArbitrate, hfree, hl, ht, ok]

/-- The through group goes alone. -/
theorem exec_collectorArbitrate_onlyThrough (hl : (getF s f).local_ = []) (ht : (getF s f).through = h :: u) :
    exec (.collectorArbitrate f) s = .next (sendSouth (setF s f { getF s f with through := u, colD := 0 }) f h) := by
  show execCollectorArbitrate f s = _
  simp [execCollectorArbitrate, hfree, hl, ht, ok]

end

/-! ### TRACE_WORD_ERROR and TRACE_LINK_FAIL (R48, R50, R141) -/

section
variable (h : List Word) (u : List (List Word)) (w : Nat) (flips : List (Fin 137))

/-- No word stands at the through input. -/
theorem exec_traceWordError_empty (ht : (getF s f).through = []) : exec (.traceWordError f ⟨w, flips⟩) s = .next s := by
  show execTraceWordError f ⟨w, flips⟩ s = _
  simp [execTraceWordError, ht, ok]

/-- One bit in error is corrected; a word beyond the group is none. -/
theorem exec_traceWordError_corrected (ht : (getF s f).through = h :: u) (hb : flips.eraseDups.length ≤ 1 ∨ groupWords h ≤ w) :
    exec (.traceWordError f ⟨w, flips⟩) s = .next s := by
  show execTraceWordError f ⟨w, flips⟩ s = _
  simp only [execTraceWordError, ht, if_pos hb, ok]

/-- A bad word is counted, and the through input loses it and what follows. -/
theorem traceWordError_cuts (hc : canonical s = true) (ht : (getF s f).through = h :: u) (hb : 2 ≤ flips.eraseDups.length)
    (hw : w < groupWords h) : ∃ t : State, exec (.traceWordError f ⟨w, flips⟩) s = .next t ∧ (getF t f).local_ = (getF s f).local_ ∧
      regF t rSpnTrcUe 63 0 = min (regF s rSpnTrcUe 63 0 + 1) (2 ^ 64 - 1) ∧
      (0 < w → (getF t f).through = h.take (2 * w) :: u) := by
  have hno : ¬(flips.eraseDups.length ≤ 1 ∨ groupWords h ≤ w) := by omega
  have hcount := regF_countF s rSpnTrcUe 63 0 1 (canonical_regs s hc) (by decide) (by decide)
  have hself (x : Flyer) := getF_setF_self (countF s rSpnTrcUe 63 0 1) f x (canonical_flyers s hc)
  have hexec : exec (.traceWordError f ⟨w, flips⟩) s = execTraceWordError f ⟨w, flips⟩ s := rfl
  simp only [execTraceWordError, ht, if_neg hno, ok] at hexec
  rcases Nat.eq_zero_or_pos w with rfl | hpos
  · rw [if_pos rfl] at hexec
    exact ⟨_, hexec, by rw [hself], hcount, fun hpos => absurd hpos (Nat.lt_irrefl 0)⟩
  · rw [if_neg (by omega)] at hexec
    exact ⟨_, hexec, by rw [hself], hcount, fun _ => by rw [hself]⟩

end

/-- A link of the grid in service fails. -/
theorem exec_traceLinkFail_live (hin : clusterIn s f = true) (h : (getF s f).trcFail = false) :
    exec (.traceLinkFail f) s = .next (healthChange (setF s f { getF s f with trcFail := true }) 4 f true) := by
  show execTraceLinkFail f s = _
  simp [execTraceLinkFail, hin, h, ok]

/-- Elsewhere nothing fails. -/
theorem exec_traceLinkFail_idle (h : clusterIn s f = false ∨ (getF s f).trcFail = true) : exec (.traceLinkFail f) s = .next s := by
  show execTraceLinkFail f s = _
  rw [execTraceLinkFail, if_pos (by simpa using h), ok]

end

/-! ### GROUP_ARRIVAL (R142, R151) -/

section
variable (s : State) (col : Fin 16)

/-- No group stands at the column's end. -/
theorem exec_groupArrival_empty (h : tget [] s.funnel.arrive col = []) : exec (.groupArrival col) s = .next s := by
  show execGroupArrival col s = _
  simp only [execGroupArrival, h, ok]

/-- A group with the GSEQ expected moves the expectation on, and nothing else. -/
theorem groupCheck_expected (h : Word) (hseq : bits h 35 20 = (tget 0 s.funnel.gseq (bits h 57 50)).toNat) :
    groupCheck s h = { s with funnel := { s.funnel with
      gseq := tput 0 s.funnel.gseq (bits h 57 50) (tget 0 s.funnel.gseq (bits h 57 50) + 1) } } := by
  simp [groupCheck, hseq]

variable (g : List Word) (rest : List (List Word)) (y : List (Word × List Rec)) (b : Bool)
  (harr : tget [] s.funnel.arrive col = g :: rest)
  (hy : (y, b) = funnelRead (groupHeader (throughColumn s col)) (2 * g.length + 2) (tget false s.funnel.hunt col) g)
include harr hy

/-- Records that do not fit stall the column. -/
theorem exec_groupArrival_stalls (h : 256 < unitsOf (tget [] s.funnel.cols col) + unitsOf (y.flatMap Prod.snd)) :
    exec (.groupArrival col) s = .next s := by
  show execGroupArrival col s = _
  simp only [execGroupArrival, harr, ← hy, if_pos h, ok]

/-- The records of a group in turn enter the column's queue. -/
theorem groupArrival_queues (hfit : unitsOf (tget [] s.funnel.cols col) + unitsOf (y.flatMap Prod.snd) ≤ 256) (h : Word)
    (hh : y.map Prod.fst = [h]) (hseq : bits h 35 20 = (tget 0 s.funnel.gseq (bits h 57 50)).toNat)
    (hcols : tabWf [] s.funnel.cols = true) (harrive : tabWf [] s.funnel.arrive = true) :
    ∃ t : State, exec (.groupArrival col) s = .next t ∧
      tget [] t.funnel.cols col = tget [] s.funnel.cols col ++ y.flatMap Prod.snd ∧ tget [] t.funnel.arrive col = rest ∧
      { t with funnel := s.funnel } = s := by
  have hexec : exec (.groupArrival col) s = execGroupArrival col s := rfl
  simp only [execGroupArrival, harr, ← hy, if_neg (not_lt.mpr hfit), ok, hh, forAll, List.foldl_cons, List.foldl_nil] at hexec
  refine ⟨_, hexec.trans (congrArg _ (groupCheck_expected _ h hseq)), ?_, ?_, rfl⟩
  · exact (tget_tput _ _ _ _ _ hcols).trans (if_pos rfl)
  · exact (tget_tput _ _ _ _ _ harrive).trans (if_pos rfl)

end

/-! ### The statement -/

/-- Settles O45: each event of the trace plane has the effect its rule gives, and none where its condition does not hold. -/
theorem theTracePlaneCarriesRecords : Obligations.TheTracePlaneCarriesRecords := by
  unfold Obligations.TheTracePlaneCarriesRecords
  rintro s f x rfl hc
  refine ⟨fun hfail => ⟨exec_flyerTake_idle s f (.inl hfail), exec_groupSend_idle s f (.inl hfail)⟩,
    fun hedge => exec_flyerTake_idle s f (.inr hedge), fun hl => exec_groupSend_idle s f (.inr (.inl hl)),
    ?take, fun e rest hq => ⟨?aged, exec_recordAgeDrop_kept s f e rest hq⟩,
    fun hq => ⟨exec_recordAgeDrop_empty s f hq, exec_groupSend_idle s f (.inr (.inr hq))⟩, ?send,
    exec_collectorArbitrate_full s f, ?arbitrate, ?error, exec_collectorArbitrate_empty s f,
    fun w flips => exec_traceWordError_empty s f w flips, exec_traceLinkFail_live s f, exec_traceLinkFail_idle s f, ?arrival,
    exec_groupArrival_empty s⟩
  case take =>
    intro i r rest hfail hedge hs hfifo hsmp htm hd hcard hq hg hn hl
    exact flyerTake_moves s f i r rest hc hfail hedge hs hfifo hsmp htm hd hcard hq hg hn hl
  case aged =>
    rintro k h rfl rfl hcls htype hold
    obtain ⟨t, hexec, hget, hsites, hcount⟩ := recordAgeDrop_discards s f e rest hc hq ⟨hcls, htype, hold⟩
    refine ⟨t, hexec, ?_, hsites, hcount, fun hy => ?_, fun hy ha hg => ?_⟩ <;> rw [hget]
    · exact agedOut_q _ _ _ _
    · exact agedOut_ages _ _ _ _ hy
    · exact agedOut_gaps _ _ _ _ hy ha hg
  case send =>
    intro l q a hl hfail hfree hne
    obtain ⟨rfl, rfl, rfl⟩ : l = _ ∧ q = _ ∧ a = _ := by simpa [Prod.ext_iff] using hl
    exact ⟨exec_groupSend_front s f hfail hfree hne, unitsOf_takeUnits _ _ _⟩
  case arbitrate =>
    intro g h t u hfree
    exact ⟨exec_collectorArbitrate_local s f g h t u hfree, exec_collectorArbitrate_through s f g h t u hfree,
      exec_collectorArbitrate_onlyLocal s f g t hfree, exec_collectorArbitrate_onlyThrough s f h u hfree⟩
  case error =>
    intro h u w flips ht
    exact ⟨exec_traceWordError_corrected s f h u w flips ht, traceWordError_cuts s f h u w flips hc ht⟩
  case arrival =>
    rintro col g rest y b l q harr rfl rfl hy
    exact ⟨exec_groupArrival_stalls s col g rest y b harr hy, groupArrival_queues s col g rest y b harr hy⟩

end Sys2Proof.Machine
end


section
/-! SUPPORT. What a packet sent over links leaves as it was, and what the way back of an agent operation changes: the spine, what waits for
the outcome, and the count of late replies. -/

namespace Sys2Proof.Machine

/-- What every step of a fold keeps holds at its end. -/
theorem forAll_keeps {α : Type} (P : State → Prop) (l : List α) (f : State → α → State) (s : State) (h0 : P s)
    (hstep : ∀ t : State, ∀ a ∈ l, P t → P (f t a)) : P (forAll l f s) := by
  induction l generalizing s with
  | nil => exact h0
  | cons a l ih =>
    exact ih (f s a) (hstep s a List.mem_cons_self h0) fun t b hb => hstep t b (List.mem_cons_of_mem a hb)

/-! ### Packets on links (R39, R42) -/

/-- t differs from s in live link directions alone. -/
structure LinkTraffic (s t : State) : Prop where
  eq : t = { s with spine := { s.spine with links := t.spine.links } }
  dead : ∀ l : Nat, (getLink s l).failed = true → getLink t l = getLink s l

theorem LinkTraffic.refl (s : State) : LinkTraffic s s := ⟨rfl, fun _ _ => rfl⟩

theorem LinkTraffic.trans {s t u : State} (h : LinkTraffic s t) (k : LinkTraffic t u) : LinkTraffic s u where
  eq := by rw [k.eq, h.eq]
  dead l hl := by
    have ht := h.dead l hl
    rw [k.dead l (by rw [ht, hl]), ht]

section
variable (s : State)

/-- A live link direction changes. -/
theorem linkTraffic_setLink (l : Nat) (x : Link) (h : (getLink s l).failed = false) : LinkTraffic s (setLink s l x) where
  eq := rfl
  dead m hm := tget_tput_ne _ _ _ _ _ (by rintro rfl; simp [h] at hm)

/-- A packet goes out on a live link direction, and on no failed one. -/
theorem linkTraffic_linkSend (l : Nat) (p : LPkt) : LinkTraffic s (linkSend s l p) := by
  rw [linkSend]
  split
  next => exact .refl s
  next h => exact linkTraffic_setLink s l _ (by simpa using h)

/-- Packets on link directions. -/
theorem linkTraffic_linksSend (ls : List Nat) (ps : List LPkt) : LinkTraffic s (linksSend s ls ps) :=
  forAll_keeps (LinkTraffic s) ls _ s (.refl s) fun t l _ ht =>
    forAll_keeps (LinkTraffic s) ps _ t ht fun _ p _ hu => hu.trans (linkTraffic_linkSend _ l p)

/-! ### Answers on their way back (R43, R44) -/

/-- A node's share changes the spine or the count of late replies. -/
theorem contribute_eq (op : Op) (n m : Nat) (reps : List Reply) : contribute s op n m reps =
    { s with spine := (contribute s op n m reps).spine, regs := (contribute s op n m reps).regs } := by
  simp only [contribute]
  split
  · rfl
  · split <;> rfl

/-- The answers that leave a Flyer change the spine, what waits for the outcome, and the count of late replies. -/
theorem flyerReply_eq (op : Op) (f : Nat) (reps : List Reply) : flyerReply s op f reps =
    { s with spine := (flyerReply s op f reps).spine, regs := (flyerReply s op f reps).regs, ops := (flyerReply s op f reps).ops,
             arrivals := (flyerReply s op f reps).arrivals, lateIds := (flyerReply s op f reps).lateIds } := by
  have hsend : LinkTraffic s (sendInward s op f (reps.flatMap (replyPackets op))) := linkTraffic_linksSend _ _ _
  unfold flyerReply
  split
  next =>
    rw [contribute_eq]
  next =>
    dsimp only
    generalize sendInward s op f (reps.flatMap (replyPackets op)) = t at hsend
    split
    next => rw [hsend.eq]; rfl
    next =>
      rcases postArrival_eq t (outcome t op reps) with h | h | h
      · rw [h, hsend.eq]
      · rw [h, hsend.eq]; rfl
      · rw [h, hsend.eq]

/-- The shares that leave a Flyer change it and what its answers change. -/
theorem settlePend_eq (f id : Nat) : settlePend s f id =
    { s with flyers := (settlePend s f id).flyers, spine := (settlePend s f id).spine, regs := (settlePend s f id).regs,
             ops := (settlePend s f id).ops, arrivals := (settlePend s f id).arrivals, lateIds := (settlePend s f id).lateIds } := by
  simp only [settlePend]
  split
  · rfl
  · split
    · rfl
    · rw [flyerReply_eq]
      rfl

/-! ### An agent's answer (R72) -/

section
variable (i opId issuer : Nat) (iseq : BitVec 16) (rep : Reply) (count : Nat)

/-- The last operations of a site that answers: the reply to its issuer's last one is kept (R87). -/
def keptReply (x : Site) : Tab (Option LastOp) :=
  match tget none x.lastOps issuer with
  | some l => if l.iseq = iseq then tput none x.lastOps issuer (some ⟨iseq, rep⟩) else x.lastOps
  | none => x.lastOps

/-- An answer changes the site's last operations, AG_LAST of the issuer's bank, and what the Flyer's share changes. -/
theorem answer_eq : ∃ L : Tab (Option LastOp), answer s i opId issuer iseq rep count =
    { setS (setAgBank s i issuer aAgLast (word (iseq.toNat * 2 ^ 48 + count % 2 ^ 24 * 2 ^ 24 + rep.reason))) i
        { getS s i with lastOps := L } with
      flyers := (answer s i opId issuer iseq rep count).flyers, spine := (answer s i opId issuer iseq rep count).spine,
      regs := (answer s i opId issuer iseq rep count).regs, ops := (answer s i opId issuer iseq rep count).ops,
      arrivals := (answer s i opId issuer iseq rep count).arrivals, lateIds := (answer s i opId issuer iseq rep count).lateIds } := by
  refine ⟨keptReply issuer iseq rep (getS s i), ?_⟩
  simp only [answer]
  split
  · rfl
  · rw [settlePend_eq]
    rfl

/-- The site answered keeps everything but its last operations. -/
theorem getS_answer (h : tabWf Site.fresh s.sites = true) :
    ∃ L : Tab (Option LastOp), getS (answer s i opId issuer iseq rep count) i = { getS s i with lastOps := L } := by
  obtain ⟨L, e⟩ := answer_eq s i opId issuer iseq rep count
  exact ⟨L, by rw [e]; exact getS_setS_self _ _ _ h⟩

theorem answer_sites_wf (h : tabWf Site.fresh s.sites = true) :
    tabWf Site.fresh (answer s i opId issuer iseq rep count).sites = true := by
  obtain ⟨L, e⟩ := answer_eq s i opId issuer iseq rep count
  rw [e]
  exact setS_wf _ _ _ h

@[simp] theorem answer_areg : (answer s i opId issuer iseq rep count).areg =
    (setAgBank s i issuer aAgLast (word (iseq.toNat * 2 ^ 48 + count % 2 ^ 24 * 2 ^ 24 + rep.reason))).areg := by
  obtain ⟨L, e⟩ := answer_eq s i opId issuer iseq rep count
  rw [e]
  rfl

/-- AG_LAST after an answer. -/
theorem agBank_answer (h : tabWf 0 s.areg = true) : agBank (answer s i opId issuer iseq rep count) i issuer aAgLast =
    word (iseq.toNat * 2 ^ 48 + count % 2 ^ 24 * 2 ^ 24 + rep.reason) := by
  rw [agBank, answer_areg]
  exact (tget_tput _ _ _ _ _ h).trans (if_pos rfl)

/-- AG_LAST after an answer without a count. -/
theorem agBank_answer_uncounted (h : tabWf 0 s.areg = true) : agBank (answer s i opId issuer iseq rep) i issuer aAgLast =
    word (iseq.toNat * 2 ^ 48 + rep.reason) := by
  rw [agBank_answer _ _ _ _ _ _ _ h, Nat.zero_mod, Nat.zero_mul, Nat.add_zero]

/-- An agent's own registers after an answer. -/
@[simp] theorem ag_answer (j r : Nat) (h : agKey j 0 r ≠ agKey i (issuer + 1) aAgLast) :
    ag (answer s i opId issuer iseq rep count) j r = ag s j r := by
  rw [ag, answer_areg]
  exact tget_tput_ne _ _ _ _ _ h

end

/-- The ISEQ and the reason in AG_LAST. -/
theorem lastWord_fields (iseq : BitVec 16) (count reason : Nat) (h : reason < 2 ^ 24) :
    bits (word (iseq.toNat * 2 ^ 48 + count % 2 ^ 24 * 2 ^ 24 + reason)) 63 48 = iseq.toNat ∧
      bits (word (iseq.toNat * 2 ^ 48 + count % 2 ^ 24 * 2 ^ 24 + reason)) 23 0 = reason := by
  have hs := iseq.isLt
  simp only [bits, word_toNat]
  omega

/-! ### A site with nothing in its queues -/

/-- A wake request stands for longer; nothing else changes. -/
theorem wakeHold_eq (i : Nat) : ∃ u : Nat, wakeHold s i = s ∨ wakeHold s i = setS s i { getS s i with wakeUntil := u } := by
  refine ⟨edgeOf s i + 64, ?_⟩
  simp only [wakeHold]
  split
  · exact .inr rfl
  · exact .inl rfl

theorem getS_wakeHold (i : Nat) (h : tabWf Site.fresh s.sites = true) :
    ∃ u : Nat, getS (wakeHold s i) i = { getS s i with wakeUntil := u } := by
  obtain ⟨u, e | e⟩ := wakeHold_eq s i
  · exact ⟨_, by rw [e]⟩
  · exact ⟨u, by rw [e, getS_setS_self _ _ _ h]⟩

theorem wakeHold_sites_wf (i : Nat) (h : tabWf Site.fresh s.sites = true) : tabWf Site.fresh (wakeHold s i).sites = true := by
  obtain ⟨u, e | e⟩ := wakeHold_eq s i <;> rw [e]
  · exact h
  · exact setS_wf _ _ _ h

@[simp] theorem wakeHold_areg (i : Nat) : (wakeHold s i).areg = s.areg := by
  obtain ⟨u, e | e⟩ := wakeHold_eq s i <;> rw [e]
  rfl

/-- Without inspection requests no request is raised. -/
theorem riRaise_empty (n i : Nat) (h : (getS s i).ri = []) : riRaise (n + 1) s i = wakeHold s i := by
  simp only [riRaise, h]

/-- Without operations that wait none takes effect. -/
theorem drainWait_empty (n i : Nat) (h : (getS s i).waitOps = []) : drainWait n s i = s := by
  cases n with
  | zero => rfl
  | succ n => simp only [drainWait, h, List.find?_nil]

/-- A site with neither goes on with nothing. -/
theorem siteGo_idle (i : Nat) (hs : tabWf Site.fresh s.sites = true) (hri : (getS s i).ri = []) (hw : (getS s i).waitOps = []) :
    siteGo s i = wakeHold s i := by
  obtain ⟨u, hu⟩ := getS_wakeHold s i hs
  rw [siteGo, riRaise_empty s _ i hri, drainWait_empty _ _ _ (by rw [hu]; exact hw)]

end

end Sys2Proof.Machine
end


section
/-! SUPPORT. Agent operations at a Flyer and at one agent: a register write, and the requests to a core and their ends. -/

namespace Sys2Proof.Machine

section
variable (s : State)

/-! ### AGENT_OP_RECEIVE (R46) -/

section
variable (f : Nat) (issuer : Fin 9) (iseq : BitVec 16)

/-- A failed Flyer does nothing. -/
theorem exec_agentOpReceive_failed (h : (getF s f).failed = true) : exec (.agentOpReceive f issuer iseq) s = .next s := by
  show execAgentOpReceive f issuer iseq s = _
  simp [execAgentOpReceive, h, ok]

/-- The oldest operation that a live Flyer has still to receive, of an epoch that it knows, is applied. -/
theorem exec_agentOpReceive_oldest (op : Op) (hf : (getF s f).failed = false) (hop : opOf s issuer iseq = some op) (htodo : f ∈ op.todo)
    (hepoch : epochAhead s f op = false)
    (hold : ∀ o ∈ s.ops, o.issuer = issuer.val → o.held = none → f ∈ o.todo → seqNewer iseq o.iseq = false) :
    exec (.agentOpReceive f issuer iseq) s = .next (receiveAt f s op) := by
  have hfirst : (s.ops.any fun o => o.issuer == issuer.val && o.held.isNone && o.todo.contains f && seqNewer iseq o.iseq) = false := by
    rw [List.any_eq_false]
    rintro o ho hno
    simp only [Bool.and_eq_true, beq_iff_eq, Option.isNone_iff_eq_none, List.contains_iff_mem] at hno
    obtain ⟨⟨⟨hissuer, hheld⟩, hto⟩, hnew⟩ := hno
    exact absurd (hold o ho hissuer hheld hto) (by simp [hnew])
  show execAgentOpReceive f issuer iseq s = _
  simp only [execAgentOpReceive, hf, hop, List.contains_iff_mem.mpr htodo, hfirst, hepoch, ok, Bool.false_eq_true, if_false, if_true]

/-- An operation as it stands once a Flyer has received it. -/
def receivedOp (f : Nat) (op : Op) : Op := { op with todo := op.todo.filter fun n => n != f }

/-- An operation that names one live agent of a Flyer is applied there; until then no agent changes. -/
theorem receiveAt_one (op : Op) (i : Nat) (hs : op.sites = [i]) (hfly : flyerOf s i = some f) (hlive : (getS s i).failed = false)
    (hslot : namesSlot s op i = true) :
    ∃ t : State, receiveAt f s op = applyAt (receivedOp f op) t i ∧ t.sites = s.sites ∧ t.areg = s.areg := by
  have hsites : (op.sites.filter fun i => flyerOf s i == some f && !(getS s i).failed && namesSlot s op i) = [i] := by
    simp [hs, hfly, hlive, hslot]
  obtain ⟨u, hu⟩ : ∃ u, u = receiveAt f s op := ⟨_, rfl⟩
  rw [← hu]
  simp only [receiveAt, hsites, reduceCtorEq, if_false, forAll, List.foldl_cons, List.foldl_nil] at hu
  exact ⟨_, hu, rfl, rfl⟩

/-! ### A register write at one agent (R68, R72) -/

/-- The first operation of an issuer at an agent without other work takes effect. -/
theorem applyAt_first (op : Op) (i : Nat) (hlast : tget none (getS s i).lastOps op.issuer = none)
    (hbusy : issuerBusy (getS s i) op.issuer = false) (hwait : (getS s i).waitOps = []) : applyAt op s i = applyNow op s i := by
  simp [applyAt, hlast, hbusy, hwait]

/-- AG_EVT_MAP takes a write from the next edge on. -/
theorem agWrite_evtMap (i n : Nat) (v : Word) (l : RegLay) (hl : agLayAt aAgEvtMap = some l) :
    agWrite s i n aAgEvtMap v = (0, setAgNext s i aAgEvtMap (l.write (ag s i aAgEvtMap) v)) := by
  have hreg : agNoreg s i aAgEvtMap = false := by
    simp only [agNoreg, hl]
    rfl
  simp only [agWrite, hl, hreg]
  rfl

/-- A write without earlier writes of its own ends with the register's answer. -/
theorem applyNow_write (op : Op) (i : Nat) (v : Word) (htype : op.type = .write) (hpre : op.pre = []) (hdata : op.data = [v])
    (hreg : op.reg < 0x80) :
    ∃ L : Tab (Option LastOp), applyNow op s i =
      answer (agWrite (setS s i { getS s i with lastOps := L }) i op.issuer op.reg v).2 i op.id op.issuer op.iseq
        ⟨i, (agWrite (setS s i { getS s i with lastOps := L }) i op.issuer op.reg v).1, 0, []⟩ := by
  obtain ⟨u, hu⟩ : ∃ u, u = applyNow op s i := ⟨_, rfl⟩
  rw [← hu]
  simp only [applyNow, hpre, doPre, htype, hdata, if_neg (not_le.mpr hreg), ne_eq, not_true_eq_false, if_false, List.headD_cons] at hu
  exact ⟨_, hu⟩

@[simp] theorem agHold_areg (i r : Nat) : (agHold s i r).areg = s.areg := by
  simp only [agHold]
  split <;> rfl

/-- A write of AG_EVT_MAP at an agent without other work: the register and AG_LAST. -/
theorem applyAt_evtMap (op : Op) (i : Nat) (v : Word) (l : RegLay) (h : tabWf 0 s.areg = true) (htype : op.type = .write)
    (hreg : op.reg = aAgEvtMap) (hpre : op.pre = []) (hdata : op.data = [v])
    (hlast : tget none (getS s i).lastOps op.issuer = none) (hbusy : issuerBusy (getS s i) op.issuer = false)
    (hwait : (getS s i).waitOps = []) (hl : agLayAt aAgEvtMap = some l) :
    ag (applyAt op s i) i aAgEvtMap = l.write (ag s i aAgEvtMap) v ∧
      agBank (applyAt op s i) i op.issuer aAgLast = word (op.iseq.toNat * 2 ^ 48) := by
  obtain ⟨L, hnow⟩ := applyNow_write s op i v htype hpre hdata (by rw [hreg]; decide)
  rw [hreg, agWrite_evtMap _ _ _ _ _ hl] at hnow
  rw [applyAt_first s op i hlast hbusy hwait, hnow]
  have hareg : tabWf 0 (setAgNext (setS s i { getS s i with lastOps := L }) i aAgEvtMap (l.write (ag s i aAgEvtMap) v)).areg = true :=
    tabWf_tput _ _ _ _ (by simpa using h)
  constructor
  · rw [ag_answer _ _ _ _ _ _ _ _ _ (by unfold agKey aAgEvtMap aAgLast; omega)]
    exact (tget_tput _ _ _ _ _ (by simpa using h)).trans (if_pos rfl)
  · exact (agBank_answer_uncounted _ _ _ _ _ _ hareg).trans (congrArg word (Nat.add_zero _))

/-- AGENT_OP_RECEIVE of a write of AG_EVT_MAP to one agent. -/
theorem receiveAt_evtMap (op : Op) (i : Nat) (v : Word) (l : RegLay) (h : tabWf 0 s.areg = true) (htype : op.type = .write)
    (hreg : op.reg = aAgEvtMap) (hpre : op.pre = []) (hdata : op.data = [v]) (hs : op.sites = [i]) (hfly : flyerOf s i = some f)
    (hlive : (getS s i).failed = false) (hslot : namesSlot s op i = true) (hlast : tget none (getS s i).lastOps op.issuer = none)
    (hbusy : issuerBusy (getS s i) op.issuer = false) (hwait : (getS s i).waitOps = []) (hl : agLayAt aAgEvtMap = some l) :
    ag (receiveAt f s op) i aAgEvtMap = l.write (ag s i aAgEvtMap) v ∧
      agBank (receiveAt f s op) i op.issuer aAgLast = word (op.iseq.toNat * 2 ^ 48) := by
  obtain ⟨t, hrec, hsites, hareg⟩ := receiveAt_one s f op i hs hfly hlive hslot
  have hget : getS t i = getS s i := by rw [getS, hsites, getS]
  have hag : ag t i aAgEvtMap = ag s i aAgEvtMap := by rw [ag, hareg, ag]
  rw [hrec, ← hag]
  exact applyAt_evtMap t (receivedOp f op) i v l (by rw [hareg]; exact h) htype hreg hpre hdata (by rw [hget]; exact hlast)
    (by rw [hget]; exact hbusy) (by rw [hget]; exact hwait) hl

end

/-! ### The end of a request at a site with no other work -/

section
variable (i : Nat)

/-- What is left to do at a site whose queues are empty is to hold its wake request. -/
theorem siteGo_wakeHold_idle (hs : tabWf Site.fresh s.sites = true) (hri : (getS s i).ri = []) (hw : (getS s i).waitOps = []) :
    ∃ u : Nat, getS (siteGo (wakeHold s i) i) i = { getS s i with wakeUntil := u } ∧ (siteGo (wakeHold s i) i).areg = s.areg := by
  obtain ⟨u, hu⟩ := getS_wakeHold s i hs
  obtain ⟨v, hv⟩ := getS_wakeHold (wakeHold s i) i (wakeHold_sites_wf s i hs)
  rw [siteGo_idle _ _ (wakeHold_sites_wf s i hs) (by rw [hu]; exact hri) (by rw [hu]; exact hw)]
  exact ⟨v, by rw [hv, hu], by simp⟩

/-! ### Register inspection (R69, R70) -/

/-- The head request ends, and no other stands. -/
theorem riEnd_only (q : RiReq) (rep : Reply) (hc : canonical s = true) (hri : (getS s i).ri = [q]) (hw : (getS s i).waitOps = []) :
    (getS (riEnd s i rep) i).ri = [] ∧
      agBank (riEnd s i rep) i q.issuer aAgLast = word (q.iseq.toNat * 2 ^ 48 + rep.reason) := by
  have hsites := canonical_sites s hc
  obtain ⟨t, ht⟩ : ∃ t, t = answer (setS s i { getS s i with ri := [] }) i q.opId q.issuer q.iseq rep := ⟨_, rfl⟩
  have htsites : tabWf Site.fresh t.sites = true := by rw [ht]; exact answer_sites_wf _ _ _ _ _ _ _ (setS_wf _ _ _ hsites)
  obtain ⟨L, hL⟩ := getS_answer (setS s i { getS s i with ri := [] }) i q.opId q.issuer q.iseq rep 0 (setS_wf _ _ _ hsites)
  rw [← ht, getS_setS_self _ _ _ hsites] at hL
  have hend : riEnd s i rep = siteGo (wakeHold t i) i := by
    simp only [riEnd, hri, ← ht, riNext, hL]
  obtain ⟨u, hu, hareg⟩ := siteGo_wakeHold_idle t i htsites (by rw [hL]) (by rw [hL]; exact hw)
  rw [hend, hu]
  refine ⟨by rw [hL], ?_⟩
  rw [agBank, hareg, ← agBank, ht]
  exact agBank_answer_uncounted _ _ _ _ _ _ (canonical_areg s hc)

section
variable (stat : Fin 8) (data : Word) (q : RiReq)

/-- Without a request nothing ends. -/
theorem exec_inspection_empty (hri : (getS s i).ri = []) :
    exec (.inspectionAck i stat data) s = .next s ∧ exec (.inspectionTimeout i) s = .next s := by
  constructor
  · show execInspectionAck i stat data s = _
    simp only [execInspectionAck, hri, ok]
  · show execInspectionTimeout i s = _
    simp only [execInspectionTimeout, hri, ok]

variable (hri : (getS s i).ri = [q])
include hri

/-- An acknowledge that comes outside the request's 64 edges does nothing. -/
theorem exec_inspectionAck_idle (h : q.sent = false ∨ edgeOf s i ≤ q.at_ ∨ q.at_ + 64 < edgeOf s i) :
    exec (.inspectionAck i stat data) s = .next s := by
  have hno : (q.sent && decide (q.at_ < edgeOf s i) && decide (edgeOf s i ≤ q.at_ + 64)) = false := by
    rcases h with h | h | h
    · simp [h]
    · simp [not_lt.mpr h]
    · simp [not_le.mpr h]
  show execInspectionAck i stat data s = _
  simp only [execInspectionAck, hri, hno, Bool.false_eq_true, if_false, ok]

/-- Before 64 edges have passed no request times out. -/
theorem exec_inspectionTimeout_idle (h : q.sent = false ∨ edgeOf s i ≤ q.at_ + 64) : exec (.inspectionTimeout i) s = .next s := by
  have hno : (q.sent && decide (q.at_ + 64 < edgeOf s i)) = false := by
    rcases h with h | h
    · simp [h]
    · simp [not_lt.mpr h]
  show execInspectionTimeout i s = _
  simp only [execInspectionTimeout, hri, hno, Bool.false_eq_true, if_false, ok]

variable (hc : canonical s = true) (hw : (getS s i).waitOps = []) (hsent : q.sent = true)
include hc hw hsent

/-- The core's acknowledge ends the request with its reason. -/
theorem inspectionAck_ends (hlo : q.at_ < edgeOf s i) (hhi : edgeOf s i ≤ q.at_ + 64) :
    ∃ t : State, exec (.inspectionAck i stat data) s = .next t ∧ (getS t i).ri = [] ∧
      agBank t i q.issuer aAgLast = word (q.iseq.toNat * 2 ^ 48 + riReason stat) := by
  have hyes : (q.sent && decide (q.at_ < edgeOf s i) && decide (edgeOf s i ≤ q.at_ + 64)) = true := by simp [hsent, hlo, hhi]
  refine ⟨_, ?_, riEnd_only s i q ⟨i, riReason stat, if q.wr || stat ≠ 0 then 0 else data, []⟩ hc hri hw⟩
  show execInspectionAck i stat data s = _
  simp only [execInspectionAck, hri, hyes, if_true, ok]

/-- After 64 edges the request ends with the reason 5. -/
theorem inspectionTimeout_ends (h : q.at_ + 64 < edgeOf s i) :
    ∃ t : State, exec (.inspectionTimeout i) s = .next t ∧ (getS t i).ri = [] ∧
      agBank t i q.issuer aAgLast = word (q.iseq.toNat * 2 ^ 48 + 5) := by
  have hyes : (q.sent && decide (q.at_ + 64 < edgeOf s i)) = true := by simp [hsent, h]
  refine ⟨_, ?_, riEnd_only s i q ⟨i, 5, 0, []⟩ hc hri hw⟩
  show execInspectionTimeout i s = _
  simp only [execInspectionTimeout, hri, hyes, if_true, ok]

end

/-! ### Local memory (R75 to R78) -/

/-- An operation that has left the queue: the site's stream and last operations alone may change. -/
theorem getS_lmDone (q : LmReq) (reason count : Nat) (hs : tabWf Site.fresh s.sites = true) :
    ∃ (d : List Rec) (L : Tab (Option LastOp)), getS (lmDone s i q reason count) i = { getS s i with dOut := d, lastOps := L } := by
  obtain ⟨u, hu⟩ : ∃ u, u = lmDone s i q reason count := ⟨_, rfl⟩
  rw [← hu]
  simp only [lmDone] at hu
  rw [hu]
  obtain ⟨L, hL⟩ := getS_answer _ i q.opId q.issuer q.iseq _ count (setS_wf s i _ hs)
  exact ⟨_, L, by rw [hL, getS_setS_self _ _ _ hs]⟩

theorem lmDone_sites_wf (q : LmReq) (reason count : Nat) (hs : tabWf Site.fresh s.sites = true) :
    tabWf Site.fresh (lmDone s i q reason count).sites = true :=
  answer_sites_wf _ _ _ _ _ _ _ (setS_wf _ _ _ hs)

/-- AG_LAST once a local-memory operation has ended. -/
theorem agBank_lmDone (q : LmReq) (reason count : Nat) (h : tabWf 0 s.areg = true) :
    agBank (lmDone s i q reason count) i q.issuer aAgLast =
      word (q.iseq.toNat * 2 ^ 48 + count % 2 ^ 24 * 2 ^ 24 + reason) :=
  agBank_answer _ _ _ _ _ _ _ h

/-- An operation leaves the queue of a site without other work: the others stay, and AG_LAST has its ISEQ and the reason. -/
theorem lmDone_settles (q : LmReq) (rest : List LmReq) (reason count : Nat) (hc : canonical s = true) (hreason : reason < 2 ^ 24)
    (hri : (getS s i).ri = []) (hw : (getS s i).waitOps = []) (t : State)
    (ht : t = siteGo (wakeHold (lmDone (setS s i { getS s i with lm := rest }) i q reason count) i) i) :
    (getS t i).lm = rest ∧ bits (agBank t i q.issuer aAgLast) 63 48 = q.iseq.toNat ∧
      bits (agBank t i q.issuer aAgLast) 23 0 = reason := by
  have hsites := canonical_sites s hc
  have hset := setS_wf s i { getS s i with lm := rest } hsites
  obtain ⟨d, L, hdone⟩ := getS_lmDone (setS s i { getS s i with lm := rest }) i q reason count hset
  rw [getS_setS_self _ _ _ hsites] at hdone
  obtain ⟨u, hu, hareg⟩ := siteGo_wakeHold_idle _ i (lmDone_sites_wf _ i q reason count hset) (by rw [hdone]; exact hri)
    (by rw [hdone]; exact hw)
  have hlast : agBank t i q.issuer aAgLast = word (q.iseq.toNat * 2 ^ 48 + count % 2 ^ 24 * 2 ^ 24 + reason) := by
    rw [ht, agBank, hareg, ← agBank]
    exact agBank_lmDone _ _ _ _ _ (canonical_areg s hc)
  rw [hlast]
  exact ⟨by rw [ht, hu, hdone], lastWord_fields q.iseq count reason hreason⟩

/-- Without a local-memory operation nothing happens. -/
theorem exec_lm_empty (err : Fin 4) (data : Word) (h : (getS s i).lm = []) :
    exec (.lmSteal i) s = .next s ∧ exec (.lmReadReturn i err data) s = .next s ∧ exec (.lmDeadline i) s = .next s := by
  refine ⟨?_, ?_, ?_⟩
  · show execLmSteal i s = _
    simp only [execLmSteal, h, ok]
  · show execLmReadReturn i err data s = _
    simp only [execLmReadReturn, h, ok]
  · show execLmDeadline i s = _
    simp only [execLmDeadline, h, List.find?_nil, ok]

/-- No operation is late. -/
theorem exec_lmDeadline_idle (h : ∀ k : LmReq, k ∈ (getS s i).lm → lmLate s i k = false) : exec (.lmDeadline i) s = .next s := by
  have hnone : (getS s i).lm.find? (lmLate s i) = none := List.find?_eq_none.mpr fun k hk => by simp [h k hk]
  show execLmDeadline i s = _
  simp only [execLmDeadline, hnone, ok]

/-- An operation without a deadline is late 2 ^ 22 ht after it has arrived. -/
theorem lmLate_without_deadline (q : LmReq) (h : q.dl = none) : lmLate s i q = true ↔ q.since + 2 ^ 22 ≤ s.ht := by
  simp [lmLate, h]

/-- A deadline that the Flyer's time has reached has passed. -/
theorem lmLate_at_deadline (q : LmReq) (d f : Nat) (hf : flyerOf s i = some f) (hd : q.dl = some d)
    (ht : flyerTime s f = d % 2 ^ 24) : lmLate s i q = true := by
  have hdiff : (d % 2 ^ 24 + 2 ^ 24 - d % 2 ^ 24 % 2 ^ 24) % 2 ^ 24 = 0 := by omega
  simp only [lmLate, hd, hf, Option.getD_some, ht, dlPassed, hdiff, decide_true, Bool.true_or]

/-- The next word of an operation can be issued at the present edge (R75, R76). -/
def LmFree (s : State) (i : Nat) (q : LmReq) : Prop :=
  q.waking = false ∧ (getS s i).inReset = false ∧ (getS s i).failed = false ∧ (getS s i).lmIdle = true ∧
    ((getS s i).gated = false ∨ (getS s i).wakeAck = true) ∧ (getS s i).lmAt ≠ edgeOf s i + 1 ∧ firstEdge s i ≤ edgeOf s i ∧
    q.issued < q.n

section
variable (q : LmReq) (rest : List LmReq) (hlm : (getS s i).lm = q :: rest)
include hlm

/-- A busy core, a locked edge and an operation with every word issued issue none. -/
theorem exec_lmSteal_idle (h : q.waking = true ∨ (getS s i).inReset = true ∨ (getS s i).failed = true ∨ (getS s i).lmIdle = false ∨
      (getS s i).gated = true ∧ (getS s i).wakeAck = false ∨ (getS s i).lmAt = edgeOf s i + 1 ∨ q.n ≤ q.issued) :
    exec (.lmSteal i) s = .next s := by
  show execLmSteal i s = _
  simp only [execLmSteal, hlm]
  rw [if_pos, ok]
  rcases h with h | h | h | h | ⟨h, h'⟩ | h | h <;> simp_all

/-- At a free edge the next word is issued, or a write ends at a locked core. -/
theorem exec_lmSteal_free (h : LmFree s i q) : exec (.lmSteal i) s = .next
    (if q.wr && (getS s i).lock then siteGo (lmEnd s i 2 q.issued) i
     else
      let s1 := setS s i { getS s i with lm := { q with issued := q.issued + 1 } :: rest, lmAt := edgeOf s i + 1 }
      if q.wr && q.issued + 1 == q.n then siteGo (lmEnd s1 i 0 q.n) i else s1) := by
  obtain ⟨hwake, hreset, hfail, hidle, hclock, hedge, hfirst, hleft⟩ := h
  have hgate : ((getS s i).gated && !(getS s i).wakeAck) = false := by rcases hclock with h | h <;> simp [h]
  show execLmSteal i s = _
  simp only [execLmSteal, hlm, hwake, hreset, hfail, hidle, hgate, hedge, not_lt.mpr hfirst, not_le.mpr hleft, decide_false,
    Bool.not_true, Bool.or_self, Bool.false_eq_true, if_false, ok]
  split <;> rfl

/-- One word is issued. -/
theorem exec_lmSteal_word (h : LmFree s i q) (hlock : q.wr = false ∨ (getS s i).lock = false) (hmore : q.issued + 1 < q.n) :
    exec (.lmSteal i) s = .next (setS s i { getS s i with lm := { q with issued := q.issued + 1 } :: rest, lmAt := edgeOf s i + 1 }) := by
  have hgo : (q.wr && (getS s i).lock) = false := by rcases hlock with h | h <;> simp [h]
  have hlast : (q.wr && q.issued + 1 == q.n) = false := by simp [hmore.ne]
  rw [exec_lmSteal_free s i q rest hlm h, hgo, hlast]
  rfl

/-- A write ends at a locked core with the reason 2. -/
theorem lmSteal_locked (hc : canonical s = true) (h : LmFree s i q) (hwr : q.wr = true) (hlock : (getS s i).lock = true)
    (hri : (getS s i).ri = []) (hw : (getS s i).waitOps = []) :
    ∃ (t : State) (v : Word), exec (.lmSteal i) s = .next t ∧ (getS t i).lm = rest ∧ agBank t i q.issuer aAgLast = v ∧
      bits v 63 48 = q.iseq.toNat ∧ bits v 23 0 = 2 := by
  have hend : siteGo (lmEnd s i 2 q.issued) i =
      siteGo (wakeHold (lmDone (setS s i { getS s i with lm := rest }) i q 2 q.issued) i) i := by
    simp only [lmEnd, hlm]
  obtain ⟨hrest, hiseq, hreason⟩ := lmDone_settles s i q rest 2 q.issued hc (by decide) hri hw _ hend
  refine ⟨_, _, ?_, hrest, rfl, hiseq, hreason⟩
  rw [exec_lmSteal_free s i q rest hlm h, hwr, hlock]
  rfl

/-- Data of a read that is not whole yet. -/
theorem lmReadReturn_word (err : Fin 4) (data : Word) (hwr : q.wr = false) (hout : q.got.length < q.issued)
    (hmore : q.got.length + 1 < q.n) :
    ∃ q2 : LmReq, exec (.lmReadReturn i err data) s = .next (setS s i { getS s i with lm := q2 :: rest }) ∧ q2.got = q.got ++ [data] ∧
      q2.bad = (if 2 ≤ err.val then q.bad ++ [q.got.length] else q.bad) ∧ q2.issued = q.issued ∧ q2.addr = q.addr := by
  obtain ⟨u, hu⟩ : ∃ u, u = execLmReadReturn i err data s := ⟨_, rfl⟩
  have hexec : exec (.lmReadReturn i err data) s = u := hu.symm
  simp only [execLmReadReturn, hlm, hwr, not_le.mpr hout, hmore.ne, decide_false, Bool.or_self, Bool.false_eq_true, if_false, ok] at hu
  exact ⟨_, hexec.trans hu, rfl, rfl, rfl, rfl⟩

/-- Data that no read waits for. -/
theorem exec_lmReadReturn_idle (err : Fin 4) (data : Word) (h : q.wr = true ∨ q.issued ≤ q.got.length) :
    exec (.lmReadReturn i err data) s = .next s := by
  show execLmReadReturn i err data s = _
  simp only [execLmReadReturn, hlm]
  rw [if_pos (by simpa using h), ok]

/-- The head operation ends at its deadline with the reason 7. -/
theorem lmDeadline_ends (hc : canonical s = true) (hlate : lmLate s i q = true) (hri : (getS s i).ri = [])
    (hw : (getS s i).waitOps = []) :
    ∃ (t : State) (v : Word), exec (.lmDeadline i) s = .next t ∧ (getS t i).lm = rest ∧ agBank t i q.issuer aAgLast = v ∧
      bits v 63 48 = q.iseq.toNat ∧ bits v 23 0 = 7 := by
  have hfirst : (getS s i).lm.find? (lmLate s i) = some q := by rw [hlm, List.find?_cons_of_pos hlate]
  have herase : (getS s i).lm.erase q = rest := by rw [hlm, List.erase_cons_head]
  obtain ⟨hrest, hiseq, hreason⟩ := lmDone_settles s i q rest 7 (if q.wr then q.issued else q.got.length) hc (by decide) hri hw _ rfl
  refine ⟨_, _, ?_, hrest, rfl, hiseq, hreason⟩
  show execLmDeadline i s = _
  simp only [execLmDeadline, hfirst, herase, ok]

end

end

end

/-! ### The statement -/

/-- Settles O42: an operation is received in its turn and applied where it names an agent, and each request to a core ends as its rule
says; nothing happens where no request stands. -/
theorem agentOperationsAreAppliedAndAnswered : Obligations.AgentOperationsAreAppliedAndAnswered := by
  unfold Obligations.AgentOperationsAreAppliedAndAnswered
  refine ⟨fun s f issuer iseq => ⟨exec_agentOpReceive_failed s f issuer iseq, fun op hf hop htodo hepoch hold =>
      ⟨exec_agentOpReceive_oldest s f issuer iseq op hf hop htodo hepoch hold, ?write⟩⟩, ?inspection,
    fun s i stat data hri => exec_inspection_empty s i stat data hri, ?memory, fun s i err data h => exec_lm_empty s i err data h⟩
  case write =>
    intro i v l hc htype hreg hpre hdata hs hfly hlive hslot hlast hbusy hwait hl
    exact receiveAt_evtMap s f op i v l (canonical_areg s hc) htype hreg hpre hdata hs hfly hlive hslot hlast hbusy hwait hl
  case inspection =>
    intro s i q stat data hri hc hw
    exact ⟨inspectionAck_ends s i stat data q hri hc hw, exec_inspectionAck_idle s i stat data q hri,
      inspectionTimeout_ends s i q hri hc hw, exec_inspectionTimeout_idle s i q hri⟩
  case memory =>
    rintro s i q rest x err data rfl hlm hc
    refine ⟨fun hwake hreset hfail hidle hclock hedge hfirst hlock hmore => ?_, exec_lmSteal_idle s i q rest hlm,
      fun hwake hreset hfail hidle hclock hedge hfirst hwr hlock hleft hri hw => ?_, lmReadReturn_word s i q rest hlm err data,
      exec_lmReadReturn_idle s i q rest hlm err data, exec_lmDeadline_idle s i, lmDeadline_ends s i q rest hlm hc,
      lmLate_without_deadline s i q, lmLate_at_deadline s i q⟩
    · exact exec_lmSteal_word s i q rest hlm ⟨hwake, hreset, hfail, hidle, hclock, hedge, hfirst, by omega⟩ hlock hmore
    · exact lmSteal_locked s i q rest hlm hc ⟨hwake, hreset, hfail, hidle, .inl hclock, hedge, hfirst, hleft⟩ hwr hlock hri hw

end Sys2Proof.Machine
end


section
/-! SUPPORT. What an operation keeps of every site and of every Flyer: the part of it that a view shows. -/

namespace Sys2Proof.Machine

/-! ### Views of sites and Flyers -/

/-- From s to t every site keeps what π shows of it. -/
def SitesKeep {α : Type} (π : Site → α) (s t : State) : Prop :=
  tabWf Site.fresh s.sites = true → tabWf Site.fresh t.sites = true ∧ ∀ j : Nat, π (getS t j) = π (getS s j)

/-- From s to t every Flyer keeps what π shows of it. -/
def FlyersKeep {α : Type} (π : Flyer → α) (s t : State) : Prop :=
  tabWf Flyer.fresh s.flyers = true → tabWf Flyer.fresh t.flyers = true ∧ ∀ j : Nat, π (getF t j) = π (getF s j)

section
variable {α β : Type} {π : Site → α} {s t u : State}

theorem SitesKeep.of_eq (h : t.sites = s.sites) : SitesKeep π s t :=
  fun hs => ⟨by rw [h]; exact hs, fun j => by rw [getS, h, getS]⟩

theorem SitesKeep.refl (s : State) : SitesKeep π s s := .of_eq rfl

theorem SitesKeep.trans (h : SitesKeep π s t) (k : SitesKeep π t u) : SitesKeep π s u := fun hs =>
  have ⟨ht, hst⟩ := h hs
  have ⟨hu, htu⟩ := k ht
  ⟨hu, fun j => (htu j).trans (hst j)⟩

/-- A coarser view is kept with a finer one. -/
theorem SitesKeep.coarser (h : SitesKeep π s t) (ρ : Site → β) (g : α → β) (hg : ∀ x, ρ x = g (π x)) : SitesKeep ρ s t :=
  fun hs => ⟨(h hs).1, fun j => by rw [hg, hg, (h hs).2 j]⟩

/-- A site replaced by one that shows the same. -/
theorem SitesKeep.setS (s : State) (i : Nat) (x : Site) (h : π x = π (getS s i)) : SitesKeep π s (setS s i x) := fun hs =>
  ⟨setS_wf _ _ _ hs, fun j => by
    rw [getS_setS _ _ _ _ hs]
    split
    next e => rw [h, e]
    next => rfl⟩

/-- What is kept after a site is replaced by one that shows the same. -/
theorem SitesKeep.ofSetS {i : Nat} {x : Site} (k : SitesKeep π (Machine.setS s i x) t) (h : π x = π (getS s i)) : SitesKeep π s t :=
  (SitesKeep.setS s i x h).trans k

/-- A site replaced at the end by one that shows the same. -/
theorem SitesKeep.thenSetS {i : Nat} {x : Site} (k : SitesKeep π s t) (h : π x = π (getS t i)) : SitesKeep π s (Machine.setS t i x) :=
  k.trans (.setS t i x h)

/-- A fold of steps that each keep a view. -/
theorem SitesKeep.forAll {γ : Type} (l : List γ) (f : State → γ → State) (s : State) (h : ∀ t, ∀ a ∈ l, SitesKeep π t (f t a)) :
    SitesKeep π s (forAll l f s) :=
  forAll_keeps (SitesKeep π s) l f s (.refl s) fun t a ha ht => ht.trans (h t a ha)

end

section
variable {α : Type} {π : Flyer → α} {s t u : State}

theorem FlyersKeep.of_eq (h : t.flyers = s.flyers) : FlyersKeep π s t :=
  fun hs => ⟨by rw [h]; exact hs, fun j => by rw [getF, h, getF]⟩

theorem FlyersKeep.refl (s : State) : FlyersKeep π s s := .of_eq rfl

theorem FlyersKeep.trans (h : FlyersKeep π s t) (k : FlyersKeep π t u) : FlyersKeep π s u := fun hs =>
  have ⟨ht, hst⟩ := h hs
  have ⟨hu, htu⟩ := k ht
  ⟨hu, fun j => (htu j).trans (hst j)⟩

/-- A coarser view is kept with a finer one. -/
theorem FlyersKeep.coarser {β : Type} (h : FlyersKeep π s t) (ρ : Flyer → β) (g : α → β) (hg : ∀ x, ρ x = g (π x)) :
    FlyersKeep ρ s t :=
  fun hs => ⟨(h hs).1, fun j => by rw [hg, hg, (h hs).2 j]⟩

/-- A Flyer replaced by one that shows the same. -/
theorem FlyersKeep.setF (s : State) (f : Nat) (x : Flyer) (h : π x = π (getF s f)) : FlyersKeep π s (setF s f x) := fun hs =>
  ⟨setF_wf _ _ _ hs, fun j => by
    rw [getF_setF _ _ _ _ hs]
    split
    next e => rw [h, e]
    next => rfl⟩

/-- A fold of steps that each keep a view. -/
theorem FlyersKeep.forAll {γ : Type} (l : List γ) (f : State → γ → State) (s : State) (h : ∀ t, ∀ a ∈ l, FlyersKeep π t (f t a)) :
    FlyersKeep π s (forAll l f s) :=
  forAll_keeps (FlyersKeep π s) l f s (.refl s) fun t a ha ht => ht.trans (h t a ha)

end

/-! ### Card engines (R166, R188) -/

/-- A site but for the levels its Flyer's Card engine drives. -/
def tapBlind (x : Site) : Site := { x with tapEn := false, tapSel := 0 }

/-- A Flyer but for its Card engine. -/
def cardBlind (x : Flyer) : Flyer := { x with card := Card.fresh }

/-- From s to t Card engines alone have worked: their own state, the levels they drive, and registers. -/
structure CardWork (s t : State) : Prop where
  eq : t = { s with sites := t.sites, flyers := t.flyers, areg := t.areg, regs := t.regs }
  sites : SitesKeep tapBlind s t
  flyers : FlyersKeep cardBlind s t

theorem CardWork.refl (s : State) : CardWork s s := ⟨rfl, .refl s, .refl s⟩

theorem CardWork.trans {s t u : State} (h : CardWork s t) (k : CardWork t u) : CardWork s u :=
  ⟨by rw [k.eq, h.eq], h.sites.trans k.sites, h.flyers.trans k.flyers⟩

section
variable (s : State) (f : Nat)

/-- A Card engine replaced. -/
theorem cardWork_setCard (x : Card) : CardWork s (setCard s f x) := ⟨rfl, .of_eq rfl, .setF s f _ rfl⟩

/-- Registers replaced. -/
theorem cardWork_registers (a r : Tab Word) : CardWork s { s with areg := a, regs := r } := ⟨rfl, .of_eq rfl, .of_eq rfl⟩

theorem cardWork_setAg (i r : Nat) (v : Word) : CardWork s (setAg s i r v) := cardWork_registers s _ _

theorem cardWork_countObj (n o hi lo k : Nat) : CardWork s (countObj s n o hi lo k) := cardWork_registers s _ _

theorem cardWork_driveTap (i : Nat) (en : Bool) (slot : Nat) : CardWork s (driveTap s i en slot) := ⟨rfl, .setS s i _ rfl, .of_eq rfl⟩

/-- The coverage of a window's entry, and the engine's incomplete windows. -/
theorem cardWork_cover (i r n o hi lo k : Nat) (v : Word) (inc : Bool) :
    CardWork s (if inc then countObj (setAg s i r v) n o hi lo k else setAg s i r v) := by
  split
  · exact (cardWork_setAg s i r v).trans (cardWork_countObj _ _ _ _ _ _)
  · exact cardWork_setAg s i r v

/-- A window that closes. -/
theorem cardWork_closeWindow (code : Nat) : CardWork s (closeWindow s f code) := by
  unfold closeWindow
  dsimp only
  split
  next =>
    split
    next => exact cardWork_setCard _ _ _
    next =>
      split
      next => exact (cardWork_cover ..).trans (cardWork_setCard _ _ _)
      next =>
        split
        next => exact ((cardWork_cover ..).trans (cardWork_setCard _ _ _)).trans (cardWork_countObj _ _ _ _ _ _)
        next => exact (cardWork_cover ..).trans (cardWork_setCard _ _ _)
  next => exact cardWork_setCard _ _ _

/-- An engine set on an entry, or on none. -/
theorem cardWork_selectTap (sel : Option (Nat × Nat)) : CardWork s (selectTap s f sel) := by
  unfold selectTap
  refine CardWork.trans ?_ (cardWork_setCard _ _ _)
  cases (getF s f).card.sel <;> cases sel
  · exact .refl s
  · exact cardWork_driveTap _ _ _ _
  · exact cardWork_driveTap _ _ _ _
  · exact (cardWork_driveTap _ _ _ _).trans (cardWork_driveTap _ _ _ _)

/-- The level of the entry being streamed. -/
theorem cardWork_redrive : CardWork s (redrive s f) := by
  unfold redrive
  split
  · exact cardWork_driveTap _ _ _ _
  · exact .refl s

/-- An engine settled on its entry. -/
theorem cardWork_settleCard : CardWork s (settleCard s f) := by
  unfold settleCard
  dsimp only
  split
  · exact .refl s
  · split
    · split
      · exact .refl s
      · exact cardWork_selectTap _ _ _
    · split
      · exact cardWork_redrive _ _
      · refine CardWork.trans ?_ (cardWork_selectTap _ _ _)
        split
        · exact cardWork_closeWindow _ _ _
        · exact .refl s

end

/-! ### Operations at a Bobbin -/

/-- The levels of the core attach interface that a core reset clears, and the reset itself (R71). -/
def coreLevels (x : Site) : Bool × Tab (Option (BitVec 56)) × Bool × Bool := (x.inReset, x.cmdOpen, x.lock, x.frozen)

section
variable (s : State) (i : Nat)

/-- An answer keeps all of a site but its last operations. -/
theorem sitesKeep_answer {α : Type} (π : Site → α) (hπ : ∀ (x : Site) (L : Tab (Option LastOp)), π { x with lastOps := L } = π x)
    (opId issuer : Nat) (iseq : BitVec 16) (rep : Reply) (count : Nat) :
    SitesKeep π s (answer s i opId issuer iseq rep count) := by
  obtain ⟨L, e⟩ := answer_eq s i opId issuer iseq rep count
  exact (SitesKeep.setS s i _ (hπ (getS s i) L)).trans (.of_eq (by rw [e]; rfl))

/-- An event of a channel changes no site. -/
theorem xtEvent_sites (k ch delay : Nat) : (xtEvent s k ch delay).sites = s.sites := by
  unfold xtEvent
  split
  · rfl
  · dsimp only
    split <;> rfl

theorem setFlyNext_sites (c r : Nat) (v : Word) : (setFlyNext s c r v).sites = s.sites := by
  unfold setFlyNext
  dsimp only
  split <;> rfl

theorem sitesKeep_agHold (r : Nat) : SitesKeep coreLevels s (agHold s i r) := by
  unfold agHold
  dsimp only
  split
  · exact .refl s
  · exact .setS s i _ rfl

theorem sitesKeep_setAgNext (r : Nat) (v : Word) : SitesKeep coreLevels s (setAgNext s i r v) :=
  (sitesKeep_agHold s i r).trans (.of_eq rfl)

/-- What both branches of a conditional effect keep. -/
theorem SitesKeep.iteSnd {α β : Type} {π : Site → α} {s : State} {c : Prop} [Decidable c] {a b : β × State}
    (ha : SitesKeep π s a.2) (hb : SitesKeep π s b.2) : SitesKeep π s (if c then a else b).2 := by
  split
  · exact ha
  · exact hb

/-- A match on a site's Flyer: the effect of settling its Card engine. -/
theorem sitesKeep_settle (o : Option Nat) : SitesKeep coreLevels s (o.elim s (settleCard s)) := by
  cases o with
  | none => exact .refl s
  | some f => exact (cardWork_settleCard s f).sites.coarser _ coreLevels fun _ => rfl

/-- A write of an agent register keeps the core's levels. -/
theorem sitesKeep_agWrite (issuer r : Nat) (v : Word) : SitesKeep coreLevels s (agWrite s i issuer r v).2 := by
  have hreg (t : State) (h : t.sites = s.sites) : SitesKeep coreLevels s t := .of_eq h
  unfold agWrite
  split
  next => exact .refl s
  next l _ =>
    refine .iteSnd (.refl s) <| .iteSnd (hreg _ rfl) <| .iteSnd (.iteSnd (.refl s) (.setS s i _ rfl)) <| .iteSnd (.forAll _ _ _ ?_) <|
      .iteSnd (hreg _ (setFlyNext_sites _ _ _ _)) <| .iteSnd (sitesKeep_setAgNext _ _ _ _) <|
      .iteSnd (.iteSnd (.refl s) (sitesKeep_setAgNext _ _ _ _)) <|
      .iteSnd ((hreg (setAg s i r (l.write (ag s i r) v)) rfl).trans (sitesKeep_settle _ _)) <|
      .iteSnd ((sitesKeep_setAgNext _ _ _ _).trans (.setS _ i _ rfl)) <| .iteSnd ?_ (sitesKeep_setAgNext _ _ _ _)
    · exact fun t n _ => .of_eq (xtEvent_sites t _ n 2)
    · refine hreg _ ?_
      dsimp only
      split <;> rfl

/-- A read of an agent register changes registers alone. -/
theorem sitesKeep_agRead (issuer r : Nat) : SitesKeep coreLevels s (agRead s i issuer r).2.2 := by
  refine .of_eq ?_
  unfold agRead
  repeat' split
  all_goals rfl

end

end Sys2Proof.Machine
end


section
/-! SUPPORT. What the encoders of a Bobbin, and its queues of operations, keep of every site. -/

namespace Sys2Proof.Machine

/-! ### Encoders (R127, R137, R143) -/

/-- A site but for its encoders and their output. -/
def encoderBlind (x : Site) : Site := { x with srcs := [], fifo := [], gaps := [] }

/-- From s to t encoders have worked: region partitions stand, and sites keep all but their encoders and output. -/
structure EncoderWork (s t : State) : Prop where
  rparts : t.rparts = s.rparts
  sites : SitesKeep encoderBlind s t

theorem EncoderWork.refl (s : State) : EncoderWork s s := ⟨rfl, .refl s⟩

theorem EncoderWork.trans {s t u : State} (h : EncoderWork s t) (k : EncoderWork t u) : EncoderWork s u :=
  ⟨k.rparts.trans h.rparts, h.sites.trans k.sites⟩

section
variable (s : State) (i : Nat)

/-- A site's encoders or output replaced. -/
theorem encoderWork_setS (x : Site) (h : encoderBlind x = encoderBlind (getS s i)) : EncoderWork s (setS s i x) :=
  ⟨rfl, .setS s i x h⟩

/-- What the encoders do after a site's encoders or output are replaced. -/
theorem EncoderWork.ofSetS {s t : State} {i : Nat} {x : Site} (k : EncoderWork (setS s i x) t)
    (h : encoderBlind x = encoderBlind (getS s i)) : EncoderWork s t := (encoderWork_setS s i x h).trans k

theorem encoderWork_of_eq (t : State) (hr : t.rparts = s.rparts) (hs : t.sites = s.sites) : EncoderWork s t := ⟨hr, .of_eq hs⟩

theorem encoderWork_setAg (r : Nat) (v : Word) : EncoderWork s (setAg s i r v) := encoderWork_of_eq s _ rfl rfl

theorem encoderWork_countF (o hi lo n : Nat) : EncoderWork s (countF s o hi lo n) := encoderWork_of_eq s _ rfl rfl

/-- A request for a hold changes no site. -/
theorem wantHold_sites (p : Option Nat) (d : DropPoint) : (wantHold s p d).sites = s.sites := by
  unfold wantHold
  split
  next => rfl
  next =>
    dsimp only
    split <;> rfl

theorem wantHold_rparts (p : Option Nat) (d : DropPoint) : (wantHold s p d).rparts = s.rparts := by
  unfold wantHold
  split
  next => rfl
  next =>
    dsimp only
    split <;> rfl

/-- A queue may ask for a hold, and the site its record is for may change. -/
theorem encoderWork_hold (c : Bool) (p : Option Nat) (d : DropPoint) (x : Site) (h : encoderBlind x = encoderBlind (getS s i)) :
    EncoderWork s (setS (if c then wantHold s p d else s) i x) := by
  split
  next =>
    exact (encoderWork_of_eq s _ (wantHold_rparts s p d) (wantHold_sites s p d)).trans
      (encoderWork_setS _ i x (by rw [h, getS, getS, wantHold_sites]))
  next => exact encoderWork_setS s i x h

/-- A record for a Bobbin's FIFO. -/
theorem encoderWork_bobbinPush (r : Rec) : EncoderWork s (bobbinPush s i r) := by
  unfold bobbinPush
  dsimp only
  split
  next => exact encoderWork_hold s i _ _ _ _ (by simp only [encoderBlind])
  next =>
    split
    · exact ((encoderWork_hold s i _ _ _ _ (by simp only [encoderBlind])).trans (encoderWork_setAg _ i _ _)).trans
        (encoderWork_countF _ _ _ _ _)
    · exact (encoderWork_hold s i _ _ _ _ (by simp only [encoderBlind])).trans (encoderWork_setAg _ i _ _)
  next =>
    split
    · exact encoderWork_of_eq s _ (wantHold_rparts s _ _) (wantHold_sites s _ _)
    · exact .refl s

/-- A record of an encoder, and the TSYNC ahead of it. -/
theorem encoderWork_emitSrc (k anchor time : Nat) (addr : Option (BitVec 32)) (edge : Nat) (mk : Nat → Rec) :
    EncoderWork s (emitSrc s i k anchor time addr edge mk) := by
  unfold emitSrc
  split
  next => exact .refl s
  next =>
    dsimp only
    split
    next =>
      exact .ofSetS ((encoderWork_bobbinPush _ i _).trans (encoderWork_bobbinPush _ i _)) (by simp only [encoderBlind])
    next => exact .ofSetS (encoderWork_bobbinPush _ i _) (by simp only [encoderBlind])

theorem encoderWork_closeTnt : EncoderWork s (closeTnt s i) := by
  unfold closeTnt
  split
  next => exact .refl s
  next => exact .ofSetS (encoderWork_emitSrc (setTnt s i []) i _ _ _ _ _ _) (by simp only [encoderBlind])

theorem encoderWork_noteAll (v : Nat) : EncoderWork s (noteAll v s i) :=
  encoderWork_setS s i _ (by simp only [encoderBlind])

/-- A power record. -/
theorem encoderWork_lpwr (ev : Nat) : EncoderWork s (lpwr s i ev) := by
  have hclose (c : Bool) : EncoderWork s (if c then closeTnt s i else s) := by
    split
    · exact encoderWork_closeTnt s i
    · exact .refl s
  have hnote (t : State) (v : Nat) : EncoderWork t (if ev % 2 = 1 then noteAll v t i else t) := by
    split
    · exact encoderWork_noteAll t i v
    · exact .refl t
  unfold lpwr
  dsimp only
  split
  next => exact ((encoderWork_closeTnt s i).trans (hnote _ _)).trans (encoderWork_emitSrc _ i _ _ _ _ _ _)
  next => exact hnote _ _

/-- What an effect of the encoders keeps of the site it works at. -/
theorem EncoderWork.site {s t : State} (h : EncoderWork s t) (hs : tabWf Site.fresh s.sites = true) :
    ∃ (a : Tab Src) (b : List Rec) (c : Tab (Option Gap)), getS t i = { getS s i with srcs := a, fifo := b, gaps := c } := by
  have he := (h.sites hs).2 i
  refine ⟨(getS t i).srcs, (getS t i).fifo, (getS t i).gaps, ?_⟩
  calc getS t i = { encoderBlind (getS t i) with srcs := (getS t i).srcs, fifo := (getS t i).fifo, gaps := (getS t i).gaps } := rfl
    _ = _ := by rw [he]; rfl

end

/-! ### Queues of a Bobbin (R56, R69 to R79) -/

section
variable (s : State) (i : Nat)

theorem sitesKeep_coreAnswer (opId issuer : Nat) (iseq : BitVec 16) (rep : Reply) (count : Nat) :
    SitesKeep coreLevels s (answer s i opId issuer iseq rep count) :=
  sitesKeep_answer s i coreLevels (fun _ _ => rfl) opId issuer iseq rep count

theorem sitesKeep_wakeWant : SitesKeep coreLevels s (wakeWant s i).2 := by
  unfold wakeWant
  refine .iteSnd ?_ (.refl s)
  dsimp only
  split
  · exact .refl s
  · exact .setS s i _ (by simp only [coreLevels])

theorem sitesKeep_wakeHold : SitesKeep coreLevels s (wakeHold s i) := by
  obtain ⟨u, h | h⟩ := wakeHold_eq s i
  · exact .of_eq (by rw [h])
  · rw [h]
    exact .setS s i _ (by simp only [coreLevels])

/-- Inspection requests that rise, or are refused. -/
theorem sitesKeep_riRaise (n : Nat) : SitesKeep coreLevels s (riRaise n s i) := by
  induction n generalizing s with
  | zero => exact .refl s
  | succ n ih =>
    simp only [riRaise]
    split
    next => exact sitesKeep_wakeHold s i
    next =>
      split
      next => exact .refl s
      next =>
        split
        next => exact (sitesKeep_wakeWant s i).thenSetS (by simp only [coreLevels])
        next =>
          split
          next => exact .ofSetS ((sitesKeep_coreAnswer _ i _ _ _ _ _).trans (ih _)) (by simp only [coreLevels])
          next => exact .setS s i _ (by simp only [coreLevels])

theorem sitesKeep_riNext (e : Nat) : SitesKeep coreLevels s (riNext s i e) := by
  unfold riNext
  dsimp only
  split
  next => exact sitesKeep_wakeHold s i
  next => exact ((sitesKeep_wakeWant s i).thenSetS (by simp only [coreLevels])).trans (sitesKeep_riRaise _ i _)

theorem sitesKeep_doPre (issuer : Nat) (l : List (Nat × Word)) : SitesKeep coreLevels s (doPre i issuer l s).2 := by
  induction l generalizing s with
  | nil => exact .refl s
  | cons a l ih =>
    simp only [doPre]
    exact .iteSnd ((sitesKeep_agWrite s i issuer a.1 a.2).trans (ih _)) (sitesKeep_agWrite s i issuer a.1 a.2)

theorem sitesKeep_windowAccess (op : Op) (wr : Bool) : SitesKeep coreLevels s (windowAccess s op i wr) := by
  unfold windowAccess
  dsimp only
  split
  next => exact sitesKeep_coreAnswer s i _ _ _ _ _
  next =>
    split
    next => exact sitesKeep_coreAnswer s i _ _ _ _ _
    next =>
      split
      next => exact .ofSetS (sitesKeep_riNext _ i _) (by simp only [coreLevels])
      next => exact .setS s i _ (by simp only [coreLevels])

theorem sitesKeep_lmAccess (op : Op) (wr : Bool) : SitesKeep coreLevels s (lmAccess s op i wr) := by
  unfold lmAccess
  dsimp only
  split
  next => exact sitesKeep_coreAnswer s i _ _ _ _ _
  next =>
    split
    next => exact sitesKeep_coreAnswer s i _ _ _ _ _
    next =>
      split
      next => exact sitesKeep_coreAnswer s i _ _ _ _ _
      next => exact (sitesKeep_wakeWant s i).thenSetS (by simp only [coreLevels])

/-- An operation that takes effect. -/
theorem sitesKeep_applyNow (op : Op) : SitesKeep coreLevels s (applyNow op s i) := by
  have hpre : SitesKeep coreLevels s (doPre i op.issuer op.pre
      (setS s i { getS s i with lastOps := tput none (getS s i).lastOps op.issuer (some ⟨op.iseq, ⟨i, 0, 0, []⟩⟩) })).2 :=
    .ofSetS (sitesKeep_doPre _ i _ _) (by simp only [coreLevels])
  unfold applyNow
  dsimp only
  split
  next => exact hpre.trans (sitesKeep_coreAnswer _ i _ _ _ _ _)
  next =>
    cases op.type <;> dsimp only
    case write =>
      split
      · exact hpre.trans (sitesKeep_windowAccess _ i _ _)
      · exact (hpre.trans (sitesKeep_agWrite _ i _ _ _)).trans (sitesKeep_coreAnswer _ i _ _ _ _ _)
    case read =>
      split
      · exact hpre.trans (sitesKeep_windowAccess _ i _ _)
      · exact (hpre.trans (sitesKeep_agRead _ i _ _)).trans (sitesKeep_coreAnswer _ i _ _ _ _ _)
    case lmWrite => exact hpre.trans (sitesKeep_lmAccess _ i _ _)
    case lmRead => exact hpre.trans (sitesKeep_lmAccess _ i _ _)

theorem sitesKeep_drainWait (n : Nat) : SitesKeep coreLevels s (drainWait n s i) := by
  induction n generalizing s with
  | zero => exact .refl s
  | succ n ih =>
    simp only [drainWait]
    split
    next => exact .refl s
    next => exact .ofSetS ((sitesKeep_applyNow _ i _).trans (ih _)) (by simp only [coreLevels])

/-- A site that goes on keeps the core's levels. -/
theorem sitesKeep_siteGo : SitesKeep coreLevels s (siteGo s i) :=
  (sitesKeep_riRaise s i _).trans (sitesKeep_drainWait _ i _)

/-- The requests of an awake core: those that wait for their edge, go out, or are refused (R71, R73). -/
theorem riRaise_awake (n : Nat) (hs : tabWf Site.fresh s.sites = true) (hack : (getS s i).wakeAck = true)
    (hw : ∀ q ∈ (getS s i).ri, q.waking = false) :
    ∃ (r : List RiReq) (L : Tab (Option LastOp)) (u : Nat),
      getS (riRaise n s i) i = { getS s i with ri := r, lastOps := L, wakeUntil := u } ∧ (∀ q ∈ r, q.waking = false) ∧
        ((∀ q ∈ (getS s i).ri, q.wr = false) → r.length = (getS s i).ri.length) := by
  induction n generalizing s with
  | zero => exact ⟨_, _, _, rfl, hw, fun _ => rfl⟩
  | succ n ih =>
    have hwant : wakeWant s i = (false, s) := by simp [wakeWant, hack]
    simp only [riRaise, hwant]
    split
    next hri =>
      obtain ⟨u, hu⟩ := getS_wakeHold s i hs
      exact ⟨_, _, u, hu, hw, fun _ => rfl⟩
    next q t hri =>
      rw [hri] at hw
      split
      next => exact ⟨_, _, _, rfl, hri ▸ hw, fun _ => rfl⟩
      next =>
        simp only [Bool.false_eq_true, ↓reduceIte]
        split
        next hwr =>
          rw [Bool.and_eq_true] at hwr
          have hs1 : tabWf Site.fresh (setS s i { getS s i with ri := t }).sites = true := setS_wf _ _ _ hs
          obtain ⟨L, hL⟩ := getS_answer (setS s i { getS s i with ri := t }) i q.opId q.issuer q.iseq ⟨i, 2, 0, []⟩ 0 hs1
          rw [getS_setS_self _ _ _ hs] at hL
          obtain ⟨r, L2, u, he, hr, hlen⟩ := ih _ (answer_sites_wf _ _ _ _ _ _ _ hs1) (by rw [hL]; exact hack)
            (by rw [hL]; exact fun p hp => hw p (List.mem_cons_of_mem _ hp))
          refine ⟨r, L2, u, by rw [he, hL], hr, fun hno => ?_⟩
          rw [hri] at hno
          exact absurd hwr.1 (by simp [hno q List.mem_cons_self])
        next =>
          refine ⟨_, _, _, getS_setS_self _ _ _ hs, ?_, fun _ => by rw [hri]; rfl⟩
          rw [List.forall_mem_cons] at hw ⊢
          exact hw

end

end Sys2Proof.Machine
end


section
/-! PROPERTY. The core attach interface: wake requests, core resets, the virtual terminal and power states. -/

namespace Sys2Proof.Machine

section
variable (s : State) (i : Nat)

/-- A site but for its last operations. -/
def answerBlind (x : Site) : Site := { x with lastOps := [] }

/-- Answers to a list of operations keep all of a site but its last operations. -/
theorem sitesKeep_answers {α : Type} (l : List α) (opId issuer : α → Nat) (iseq : α → BitVec 16) (rep : Reply)
    (count : α → Nat) : SitesKeep answerBlind s (forAll l (fun t q => answer t i (opId q) (issuer q) (iseq q) rep (count q)) s) :=
  .forAll l _ s fun t _ _ => sitesKeep_answer t i answerBlind (fun _ _ => rfl) _ _ _ _ _

/-- A site without operations goes on with none. -/
theorem siteGo_noOperations (hs : tabWf Site.fresh s.sites = true) (hri : (getS s i).ri = []) (hw : (getS s i).waitOps = []) :
    ∃ u : Nat, getS (siteGo s i) i = { getS s i with wakeUntil := u } := by
  rw [siteGo_idle s i hs hri hw]
  exact getS_wakeHold s i hs

/-! ### Wake requests (R56, R74) -/

/-- An awake core's requests go on, and nothing else of the site but its last operations changes (R71, R73). -/
theorem siteGo_awake (hs : tabWf Site.fresh s.sites = true) (hack : (getS s i).wakeAck = true)
    (hq : ∀ q ∈ (getS s i).ri, q.waking = false) (hw : (getS s i).waitOps = []) :
    ∃ (r : List RiReq) (L : Tab (Option LastOp)) (u : Nat),
      getS (siteGo s i) i = { getS s i with ri := r, lastOps := L, wakeUntil := u } ∧ (∀ q ∈ r, q.waking = false) ∧
        ((∀ q ∈ (getS s i).ri, q.wr = false) → r.length = (getS s i).ri.length) := by
  obtain ⟨r, L, u, he, hr, hlen⟩ := riRaise_awake s i ((getS s i).ri.length + 1) hs hack hq
  refine ⟨r, L, u, ?_, hr, hlen⟩
  rw [siteGo, drainWait_empty _ _ _ (by rw [he]; exact hw), he]

/-- A site whose wake request has been acknowledged: every crossing that waited for it may start. -/
def wokenSite (x : Site) : Site :=
  { x with wakeAck := true, ri := x.ri.map (fun q => { q with waking := false }), lm := x.lm.map fun q => { q with waking := false } }

theorem wakeAck_starts (hs : tabWf Site.fresh s.sites = true) (hreq : (getS s i).wakeReq = true) (hack : (getS s i).wakeAck = false)
    (hw : (getS s i).waitOps = []) : ∃ (t : State) (y : Site), exec (.wakeAck i) s = .next t ∧ y = getS t i ∧
      y.wakeAck = true ∧ y.wakeReq = true ∧ y.fifo = (getS s i).fifo ∧ (∀ q ∈ y.ri, q.waking = false) ∧
      (∀ q ∈ y.lm, q.waking = false) ∧ y.lm.length = (getS s i).lm.length ∧
      ((∀ q ∈ (getS s i).ri, q.wr = false) → y.ri.length = (getS s i).ri.length) := by
  have hexec : exec (.wakeAck i) s = .next (siteGo (setS s i (wokenSite (getS s i))) i) := by
    show execWakeAck i s = _
    exact if_pos (by simp [hreq, hack])
  have hy := getS_setS_self s i (wokenSite (getS s i)) hs
  obtain ⟨r, L, u, he, hr, hlen⟩ := siteGo_awake _ i (setS_wf s i (wokenSite (getS s i)) hs) (by rw [hy]; rfl)
    (by rw [hy]; simp [wokenSite]) (by rw [hy]; exact hw)
  rw [hy] at he hlen
  refine ⟨_, _, hexec, rfl, ?_⟩
  rw [he]
  refine ⟨rfl, hreq, rfl, hr, by simp [wokenSite], by simp [wokenSite], fun hno => ?_⟩
  exact (hlen (by simpa [wokenSite] using hno)).trans (List.length_map _)

/-- A site whose wake request timed out is left without the operations that waited for it, all of them (R56). -/
theorem wakeTimeout_answers (hs : tabWf Site.fresh s.sites = true) (hreq : (getS s i).wakeReq = true)
    (hack : (getS s i).wakeAck = false) (hat : (getS s i).wakeAt + 4000 ≤ s.ht) (hri : ∀ q ∈ (getS s i).ri, q.waking = true)
    (hlm : ∀ q ∈ (getS s i).lm, q.waking = true) (hw : (getS s i).waitOps = []) :
    ∃ t : State, exec (.wakeTimeout i) s = .next t ∧ (getS t i).wakeReq = false ∧ (getS t i).ri = [] ∧ (getS t i).lm = [] := by
  have hri' : (getS s i).ri.filter (fun q => !q.waking) = [] := List.filter_eq_nil_iff.mpr fun q hq => by simp [hri q hq]
  have hlm' : (getS s i).lm.filter (fun q => !q.waking) = [] := List.filter_eq_nil_iff.mpr fun q hq => by simp [hlm q hq]
  have hkeep := (sitesKeep_answers (setS s i { getS s i with wakeReq := false, ri := [], lm := [] }) i
    ((getS s i).ri.filter (·.waking)) (·.opId) (·.issuer) (·.iseq) ⟨i, 6, 0, []⟩ fun _ => 0).trans
      (sitesKeep_answers _ i ((getS s i).lm.filter (·.waking)) (·.opId) (·.issuer) (·.iseq) ⟨i, 6, 0, []⟩ fun _ => 0)
  obtain ⟨hwf, hview⟩ := hkeep (setS_wf _ _ _ hs)
  have hv := hview i
  rw [getS_setS_self _ _ _ hs] at hv
  have hexec : exec (.wakeTimeout i) s = execWakeTimeout i s := rfl
  rw [execWakeTimeout, if_pos (by simp [hreq, hack, hat]), hri', hlm'] at hexec
  obtain ⟨u, hu⟩ := siteGo_noOperations _ i hwf (congrArg Site.ri hv) ((congrArg Site.waitOps hv).trans hw)
  exact ⟨_, hexec, (congrArg Site.wakeReq hu).trans (congrArg Site.wakeReq hv), (congrArg Site.ri hu).trans (congrArg Site.ri hv),
    (congrArg Site.lm hu).trans (congrArg Site.lm hv)⟩

/-! ### Core reset (R71, R137, R171) -/

/-- A site whose core has entered reset, before its Card engine sees it. -/
def resetSite : State :=
  let s1 := lpwr (setS s i { getS s i with inReset := true }) i 4
  let y := getS s1 i
  let s2 := setS s1 i { y with ri := [], lm := [], cmdOpen := [], lastIds := [], lock := false, frozen := false }
  let s3 := forAll y.ri (fun s q => answer s i q.opId q.issuer q.iseq ⟨i, 8, 0, []⟩) s2
  let s4 := forAll y.lm (fun s q => answer s i q.opId q.issuer q.iseq ⟨i, 8, 0, []⟩ (if q.wr then q.issued else q.got.length)) s3
  siteGo (if y.ri.isEmpty && y.lm.isEmpty then s4 else wakeHold s4 i) i

/-- A reset works at the site and at its Card engine. -/
theorem coreResetAssert_cardWork (hwired : wired s i = true) (hrst : (getS s i).inReset = false) :
    ∃ t : State, exec (.coreResetAssert i) s = .next t ∧ CardWork (resetSite s i) t := by
  have hexec : exec (.coreResetAssert i) s = execCoreResetAssert i s := rfl
  simp only [execCoreResetAssert, hwired, hrst, Bool.not_true, Bool.or_self, Bool.false_eq_true, ↓reduceIte] at hexec
  rw [hexec]
  obtain ⟨u, hu⟩ : ∃ u, u = resetSite s i := ⟨_, rfl⟩
  rw [← hu]
  simp only [resetSite] at hu
  rw [← hu]
  split
  next => exact ⟨_, rfl, .refl u⟩
  next f _ =>
    split
    next =>
      refine ⟨_, rfl, CardWork.trans ?_ (cardWork_setCard _ f _)⟩
      split
      · exact cardWork_closeWindow u f 4
      · exact .refl u
    next => exact ⟨_, rfl, .refl u⟩

/-- A site goes on after its answers, the request for a wake kept up where it had operations. -/
theorem siteGo_afterAnswers (c : Bool) (hs : tabWf Site.fresh s.sites = true) :
    tabWf Site.fresh (siteGo (if c then s else wakeHold s i) i).sites = true ∧
      coreLevels (getS (siteGo (if c then s else wakeHold s i) i) i) = coreLevels (getS s i) ∧
      ((getS s i).ri = [] → (getS s i).waitOps = [] → (getS (siteGo (if c then s else wakeHold s i) i) i).ri = [] ∧
        (getS (siteGo (if c then s else wakeHold s i) i) i).lm = (getS s i).lm) := by
  obtain ⟨t, ht⟩ : ∃ t, t = if c then s else wakeHold s i := ⟨_, rfl⟩
  have hkeep : SitesKeep coreLevels s t := by
    rw [ht]
    cases c
    · exact sitesKeep_wakeHold s i
    · exact .refl s
  obtain ⟨u, hu⟩ : ∃ u : Nat, getS t i = { getS s i with wakeUntil := u } := by
    rw [ht]
    cases c
    · exact getS_wakeHold s i hs
    · exact ⟨_, rfl⟩
  rw [← ht]
  obtain ⟨hwf, hlev⟩ := (hkeep.trans (sitesKeep_siteGo t i)) hs
  refine ⟨hwf, hlev i, fun hri hw => ?_⟩
  obtain ⟨v, hv⟩ := siteGo_noOperations t i (hkeep hs).1 (by rw [hu]; exact hri) (by rw [hu]; exact hw)
  rw [hv, hu]
  exact ⟨hri, rfl⟩

/-- The site after a reset: no open command, lock or freeze, and without waiting operations no request or transfer either. -/
theorem resetSite_cleared (hs : tabWf Site.fresh s.sites = true) :
    tabWf Site.fresh (resetSite s i).sites = true ∧ coreLevels (getS (resetSite s i) i) = (true, [], false, false) ∧
      ((getS s i).waitOps = [] → (getS (resetSite s i) i).ri = [] ∧ (getS (resetSite s i) i).lm = []) := by
  have hlp := encoderWork_lpwr (setS s i { getS s i with inReset := true }) i 4
  obtain ⟨a, b, c, hy⟩ := hlp.site i (setS_wf _ _ _ hs)
  rw [getS_setS_self _ _ _ hs] at hy
  obtain ⟨hs1, -⟩ := hlp.sites (setS_wf _ _ _ hs)
  simp only [resetSite]
  generalize lpwr (setS s i { getS s i with inReset := true }) i 4 = s1 at hy hs1
  obtain ⟨hs2, hv⟩ := ((sitesKeep_answers
    (setS s1 i { getS s1 i with ri := [], lm := [], cmdOpen := [], lastIds := [], lock := false, frozen := false }) i
    (getS s1 i).ri (·.opId) (·.issuer) (·.iseq) ⟨i, 8, 0, []⟩ fun _ => 0).trans
      (sitesKeep_answers _ i (getS s1 i).lm (·.opId) (·.issuer) (·.iseq) ⟨i, 8, 0, []⟩
        fun q => if q.wr then q.issued else q.got.length)) (setS_wf _ _ _ hs1)
  have hv := hv i
  rw [getS_setS_self _ _ _ hs1, hy] at hv
  rw [hy] at hs2 ⊢
  obtain ⟨hwf, hlev, hquiet⟩ := siteGo_afterAnswers _ i ((getS s i).ri.isEmpty && (getS s i).lm.isEmpty) hs2
  refine ⟨hwf, hlev.trans (congrArg coreLevels hv), fun hw => ?_⟩
  obtain ⟨hri, hlm⟩ := hquiet (congrArg Site.ri hv) ((congrArg Site.waitOps hv).trans hw)
  exact ⟨hri, hlm.trans (congrArg Site.lm hv)⟩

theorem coreResetAssert_clears (hs : tabWf Site.fresh s.sites = true) (hwired : wired s i = true) (hrst : (getS s i).inReset = false) :
    ∃ t : State, exec (.coreResetAssert i) s = .next t ∧ (getS t i).inReset = true ∧
      ((getS s i).waitOps = [] → (getS t i).ri = [] ∧ (getS t i).lm = []) ∧ (getS t i).cmdOpen = [] ∧ (getS t i).lock = false ∧
      (getS t i).frozen = false := by
  obtain ⟨t, hexec, hcard⟩ := coreResetAssert_cardWork s i hwired hrst
  obtain ⟨hwf, hlev, hquiet⟩ := resetSite_cleared s i hs
  have hv := (hcard.sites hwf).2 i
  have hlev' : coreLevels (getS t i) = (true, [], false, false) := (congrArg coreLevels hv).trans hlev
  simp only [coreLevels, Prod.mk.injEq] at hlev'
  obtain ⟨hin, hopen, hlock, hfrozen⟩ := hlev'
  refine ⟨t, hexec, hin, fun hw => ?_, hopen, hlock, hfrozen⟩
  exact ⟨(congrArg Site.ri hv).trans (hquiet hw).1, (congrArg Site.lm hv).trans (hquiet hw).2⟩

/-- A core that leaves reset (R71). -/
theorem coreResetRelease_notesEdge (hs : tabWf Site.fresh s.sites = true) (hrst : (getS s i).inReset = true) :
    ∃ t : State, exec (.coreResetRelease i) s = .next t ∧ (getS t i).inReset = false ∧ (getS t i).rstEdge = some (edgeOf s i) := by
  have hexec : exec (.coreResetRelease i) s =
      .next (lpwr (setS s i { getS s i with inReset := false, rstEdge := some (edgeOf s i) }) i 5) := if_pos hrst
  obtain ⟨a, b, c, hy⟩ := (encoderWork_lpwr (setS s i { getS s i with inReset := false, rstEdge := some (edgeOf s i) }) i 5).site i
    (setS_wf _ _ _ hs)
  rw [getS_setS_self _ _ _ hs] at hy
  exact ⟨_, hexec, congrArg Site.inReset hy, congrArg Site.rstEdge hy⟩

/-! ### Power states (R137) -/

theorem corePowerChange_levels (hs : tabWf Site.fresh s.sites = true) (hwired : wired s i = true) (hlive : (getS s i).failed = false)
    (lp gated : Bool) : ∃ t : State, exec (.corePowerChange i lp gated) s = .next t ∧ (getS t i).lp = lp ∧
      (getS t i).gated = gated ∧ (getS t i).ri = (getS s i).ri ∧ t.rparts = s.rparts := by
  have hexec : exec (.corePowerChange i lp gated) s = execCorePowerChange i lp gated s := rfl
  rw [execCorePowerChange, if_neg (by simp [hwired, hlive])] at hexec
  by_cases h : lp = (getS s i).lp
  · rw [if_pos h] at hexec
    refine ⟨_, hexec, ?_⟩
    rw [getS_setS_self _ _ _ hs]
    exact ⟨h.symm, rfl, rfl, rfl⟩
  · rw [if_neg h] at hexec
    have hlp := encoderWork_lpwr (setS s i { getS s i with lp := lp }) i (if lp then 0 else 1)
    obtain ⟨a, b, c, hy⟩ := hlp.site i (setS_wf _ _ _ hs)
    rw [getS_setS_self _ _ _ hs] at hy
    have hz := getS_setS_self _ i { getS (lpwr (setS s i { getS s i with lp := lp }) i (if lp then 0 else 1)) i with gated := gated }
      (hlp.sites (setS_wf _ _ _ hs)).1
    exact ⟨_, hexec, (congrArg Site.lp hz).trans (congrArg Site.lp hy), congrArg Site.gated hz,
      (congrArg Site.ri hz).trans ((congrArg Site.ri hy).trans rfl), hlp.rparts⟩

end

/-- Settles O43. Encoders, answers and Card engines keep the levels of the core attach interface, so that a site's events show in it. -/
theorem coreAttachEventsFollowTheirRules : Obligations.CoreAttachEventsFollowTheirRules := by
  rintro s i x rfl hcan
  have hs := canonical_sites s hcan
  refine ⟨wakeAck_starts s i hs, fun h => ⟨?ackOfNone, ?timeoutOfNone⟩,
    fun hreq hack hri hlm => ⟨fun hat => ?releaseDue, fun hat => ?releaseEarly⟩, fun h => ?releaseOfNone, wakeTimeout_answers s i hs,
    coreResetAssert_clears s i hs, fun h => ?assertOfNone, coreResetRelease_notesEdge s i hs, fun h => ?releaseOutside,
    fun v hw hf hr => ⟨fun hroom => ?txRoom, fun hfull => ?txFull⟩, fun v h => ?txOfNone, rfl,
    fun v t0 rest f htx hfl hf hem => ?drainHead, fun h => ?drainOfNone,
    fun lp gated => ⟨fun hw hf => corePowerChange_levels s i hs hw hf lp gated, fun h => ?powerOfNone⟩⟩
  case ackOfNone => exact if_neg (by rcases h with h | h <;> simp [h])
  case timeoutOfNone => exact if_neg (by rcases h with h | h <;> simp [h])
  case releaseDue => exact if_pos (by simp [hreq, hack, hri, hlm, hat])
  case releaseEarly => exact if_neg (by simp [hat])
  case releaseOfNone => exact if_neg (by simp [h])
  case assertOfNone => exact if_pos (by rcases h with h | h <;> simp [h])
  case releaseOutside => exact if_neg (by simp [h])
  case txRoom =>
    show execVtTxWrite i v s = _
    rw [execVtTxWrite, if_neg (by simp [hw, hf, hr]), if_neg (by omega), ok]
  case txFull =>
    show execVtTxWrite i v s = _
    rw [execVtTxWrite, if_neg (by simp [hw, hf, hr]), if_pos hfull, ok, satAdd]
  case txOfNone => exact if_pos (by rcases h with h | h | h <;> simp [h])
  case drainHead =>
    show execVtDrain i s = _
    simp only [execVtDrain, htx, hfl]
    rw [if_neg (by simp [hf, hem])]
    split_ifs <;> rfl
  case drainOfNone =>
    show execVtDrain i s = _
    simp only [execVtDrain]
    split
    next htx _ =>
      have hem : emits s i = false := h.resolve_left (by simp [htx])
      exact if_pos (by simp [hem])
    next => rfl
  case powerOfNone => exact if_pos (by rcases h with h | h <;> simp [h])

end Sys2Proof.Machine
end


section
/-! SUPPORT. The wires of a transfer: the value that each 1-of-4 group of a sender holds (R33, R34). -/

namespace Sys2Proof.Machine

section
variable (data side : Nat)

/-- The value that a sender gives group k: two data bits, or the sideband pair in the last group. -/
def groupDigit (k : Nat) : Nat := if k < 8 then data / 4 ^ k % 4 else side % 4

theorem groupDigit_lt (k : Nat) : groupDigit data side k < 4 := by
  unfold groupDigit
  split <;> omega

/-- One wire of a group fits into a digit of base 16. -/
theorem groupDigit_pow_lt (k : Nat) : 2 ^ groupDigit data side k < 16 := by
  have := groupDigit_lt data side k
  exact lt_of_le_of_lt (Nat.pow_le_pow_right (by omega) (by omega)) (by norm_num : 2 ^ 3 < 16)

/-- The wires of a transfer as a number: one digit of base 16 for each group. -/
theorem transferWires_toNat : (transferWires data side).toNat = ((List.range 9).map fun k => 16 ^ k * 2 ^ groupDigit data side k).sum := by
  have hsum : ((List.range 8).map fun k => 2 ^ (4 * k + data / 4 ^ k % 4)).sum + 2 ^ (32 + side % 4) =
      ((List.range 9).map fun k => 16 ^ k * 2 ^ groupDigit data side k).sum := by
    simp [List.range_succ, groupDigit, pow_add, pow_mul, add_assoc]
  have hlt : ((List.range 9).map fun k => 16 ^ k * 2 ^ groupDigit data side k).sum < 2 ^ 36 := by
    have hd := groupDigit_pow_lt data side
    have := hd 0; have := hd 1; have := hd 2; have := hd 3; have := hd 4; have := hd 5; have := hd 6; have := hd 7; have := hd 8
    simp only [List.range_succ, List.range_zero, List.nil_append, List.cons_append, List.map_cons, List.map_nil, List.sum_cons,
      List.sum_nil]
    omega
  rw [transferWires, hsum, BitVec.toNat_ofNat, Nat.mod_eq_of_lt hlt]

/-- Each group of a transfer holds its value: one wire, that of the value. -/
theorem groupWires_transferWires (k : Nat) (hk : k < 9) :
    groupWires (transferWires data side) k = BitVec.ofNat 4 (2 ^ groupDigit data side k) := by
  have hd := groupDigit_pow_lt data side
  have := hd 0; have := hd 1; have := hd 2; have := hd 3; have := hd 4; have := hd 5; have := hd 6; have := hd 7; have := hd 8
  apply BitVec.eq_of_toNat_eq
  rw [groupWires, BitVec.toNat_setWidth, BitVec.toNat_ushiftRight, transferWires_toNat, BitVec.toNat_ofNat, Nat.shiftRight_eq_div_pow]
  simp only [List.range_succ, List.range_zero, List.nil_append, List.cons_append, List.map_cons, List.map_nil, List.sum_cons,
    List.sum_nil]
  interval_cases k <;> omega

/-- A group that holds a value has that one wire high. -/
theorem oneWire : ∀ v : Nat, v < 4 → BitVec.ofNat 4 (2 ^ v) ≠ 0 ∧ wiresHigh (BitVec.ofNat 4 (2 ^ v)) = 1 ∧
    groupVal (BitVec.ofNat 4 (2 ^ v)) = v := by decide

/-- A transfer has a wire high in every group, two in none, and reads back as it was sent. -/
theorem transferWires_roundTrip (hdata : data < 2 ^ 16) (hside : side < 4) : allHold (transferWires data side) = true ∧
    twoHigh (transferWires data side) = false ∧ transferVal (transferWires data side) = (data, side) := by
  have hgroup (k : Nat) (hk : k < 9) : groupWires (transferWires data side) k ≠ 0 ∧
      wiresHigh (groupWires (transferWires data side) k) = 1 ∧
      groupVal (groupWires (transferWires data side) k) = groupDigit data side k := by
    rw [groupWires_transferWires data side k hk]
    exact oneWire _ (groupDigit_lt data side k)
  refine ⟨?_, ?_, Prod.ext ?_ ?_⟩
  · exact List.all_eq_true.mpr fun k hk => decide_eq_true (hgroup k (List.mem_range.mp hk)).1
  · exact List.any_eq_false.mpr fun k hk => by simp [(hgroup k (List.mem_range.mp hk)).2.1]
  · have hmap : ((List.range 8).map fun k => groupVal (groupWires (transferWires data side) k) * 4 ^ k) =
        (List.range 8).map fun k => data / 4 ^ k % 4 * 4 ^ k := by
      refine List.map_congr_left fun k hk => ?_
      have hk := List.mem_range.mp hk
      rw [(hgroup k (by omega)).2.2, groupDigit, if_pos hk]
    show (List.map _ _).sum = data
    rw [hmap]
    simp only [List.range_succ, List.range_zero, List.nil_append, List.cons_append, List.map_cons, List.map_nil, List.sum_cons,
      List.sum_nil]
    omega
  · show groupVal (groupWires (transferWires data side) 8) = side
    rw [(hgroup 8 (by omega)).2.2, groupDigit, if_neg (by omega), Nat.mod_eq_of_lt hside]

end

end Sys2Proof.Machine
end


section
/-! SUPPORT. Link-control flits, packets received, and what the acknowledges and resends of a live link direction do (R36, R39, R40). -/

namespace Sys2Proof.Machine

/-! ### Link-control flits (R40) -/

theorem crcBit_lt (n poly c : Nat) (b : Bool) (h : poly < 2 ^ n) : crcBit n poly c b < 2 ^ n := by
  have hmod : c * 2 % 2 ^ n < 2 ^ n := Nat.mod_lt _ (Nat.two_pow_pos n)
  unfold crcBit
  split
  · exact Nat.xor_lt_two_pow hmod h
  · exact hmod

/-- A fold whose steps all end below a bound ends below it. -/
theorem foldl_lt {α : Type} (f : Nat → α → Nat) (m : Nat) (hf : ∀ c a, c < m → f c a < m) (l : List α) (c : Nat) (hc : c < m) :
    l.foldl f c < m := by
  induction l generalizing c with
  | nil => exact hc
  | cons a l ih => exact ih _ (hf c a hc)

theorem crc16_lt (l : List Byte) : crc16 l < 2 ^ 16 := by
  refine foldl_lt _ _ (fun c b hc => ?_) l _ (by decide)
  exact foldl_lt _ _ (fun c i _ => crcBit_lt 16 _ c _ (by decide)) _ c hc

/-- The six high bytes of a word are those of its bits 63 to 16. -/
theorem bytesHigh_take_of_high (u v : Word) (h : u.toNat / 2 ^ 16 = v.toNat / 2 ^ 16) :
    (bytesHigh u).take 6 = (bytesHigh v).take 6 := by
  have hdiv (i : Nat) : u.toNat / 256 ^ (i + 2) = v.toNat / 256 ^ (i + 2) := by
    have hpow : 256 ^ (i + 2) = 2 ^ 16 * 256 ^ i := by ring
    rw [hpow, ← Nat.div_div_eq_div_mul, ← Nat.div_div_eq_div_mul, h]
  have h2 := hdiv 0; have h3 := hdiv 1; have h4 := hdiv 2; have h5 := hdiv 3; have h6 := hdiv 4; have h7 := hdiv 5
  simp only [Nat.reduceAdd] at h2 h3 h4 h5 h6 h7
  simp only [bytesHigh, unitBytes, List.range_succ, List.range_zero, List.nil_append, List.cons_append, List.map_cons, List.map_nil,
    List.reverse_cons, List.reverse_nil, List.take_succ_cons, List.take_zero, h2, h3, h4, h5, h6, h7]

/-- A control flit as a number: kind, LSEQ and the CRC of its six high bytes (R40). -/
theorem ctlFlit_toNat (k : Nat) (lseq : BitVec 6) (hk : k < 4) :
    (ctlFlit k lseq).toNat = k * 2 ^ 62 + lseq.toNat * 2 ^ 56 + crc16 ((bytesHigh (ctlFlit k lseq)).take 6) := by
  have hl := lseq.isLt
  obtain ⟨h, hh⟩ : ∃ h, h = word (k * 2 ^ 62 + lseq.toNat * 2 ^ 56) := ⟨_, rfl⟩
  have hn : h.toNat = k * 2 ^ 62 + lseq.toNat * 2 ^ 56 := by
    rw [hh, word_toNat]
    omega
  have hflit : ctlFlit k lseq = h + word (crc16 ((bytesHigh h).take 6)) := by rw [ctlFlit, hh]
  have hc := crc16_lt ((bytesHigh h).take 6)
  have hnum : (h + word (crc16 ((bytesHigh h).take 6))).toNat = h.toNat + crc16 ((bytesHigh h).take 6) := by
    rw [BitVec.toNat_add, word_toNat]
    generalize crc16 ((bytesHigh h).take 6) = c at hc
    omega
  have hbytes : (bytesHigh (ctlFlit k lseq)).take 6 = (bytesHigh h).take 6 := by
    refine bytesHigh_take_of_high _ _ ?_
    rw [hflit, hnum, hn]
    generalize crc16 ((bytesHigh h).take 6) = c at hc
    omega
  rw [hbytes, hflit, hnum, hn]

/-- A control flit reads back as its kind and LSEQ. -/
theorem ctlSeq_ctlFlit (kind k : Nat) (lseq : BitVec 6) (hk : k < 4) :
    ctlSeq kind (ctlFlit k lseq) = if k = kind then some lseq else none := by
  have hl := lseq.isLt
  have hn := ctlFlit_toNat k lseq hk
  have hc := crc16_lt ((bytesHigh (ctlFlit k lseq)).take 6)
  unfold ctlSeq bits
  generalize crc16 ((bytesHigh (ctlFlit k lseq)).take 6) = c at hn hc
  rw [hn]
  have hkind : (k * 2 ^ 62 + lseq.toNat * 2 ^ 56 + c) / 2 ^ 62 % 2 ^ (63 + 1 - 62) = k := by omega
  have hseq : (k * 2 ^ 62 + lseq.toNat * 2 ^ 56 + c) / 2 ^ 56 % 2 ^ (61 + 1 - 56) = lseq.toNat := by omega
  have hlow : (k * 2 ^ 62 + lseq.toNat * 2 ^ 56 + c) / 2 ^ 0 % 2 ^ (15 + 1 - 0) = c := by omega
  rw [hkind, hseq, hlow, BitVec.ofNat_toNat, BitVec.setWidth_eq]
  simp only [and_true]

section
variable (s : State) (l : Nat)

theorem getLink_setLink_self (x : Link) (h : tabWf Link.fresh s.spine.links = true) : getLink (setLink s l x) l = x :=
  (tget_tput _ _ _ _ _ h).trans (if_pos rfl)

theorem getLink_setLink_ne (x : Link) (m : Nat) (h : m ≠ l) : getLink (setLink s l x) m = getLink s m :=
  tget_tput_ne _ _ _ _ _ h

/-! ### Packets received (R33, R36, R39) -/

section
variable (hd pd : List (BitVec 32)) (hs ps : List (BitVec 4))

/-- A failed link direction takes nothing. -/
theorem exec_packetReceive_failed (h : (getLink s l).failed = true) : exec (.packetReceive l hd hs pd ps) s = .next s := if_pos h

section
variable (r : List (BitVec 36) × Wires) (hr : r = wireTake (wiresOf hd hs ++ wiresOf pd ps) (getLink s l).wires)
  (h : (getLink s l).failed = false)
include hr h

/-- Transfers that are no whole packet yet are kept. -/
theorem exec_packetReceive_part (hpart : r.2.groups ≠ 0 ∨ ((getLink s l).part ++ r.1).length % 4 ≠ 0) :
    exec (.packetReceive l hd hs pd ps) s =
      .next (setLink s l { getLink s l with wires := r.2, part := (getLink s l).part ++ r.1 }) := by
  subst hr
  show execPacketReceive l hd hs pd ps s = _
  rw [execPacketReceive, if_neg (by simp [h])]
  exact if_pos hpart

/-- A packet taken whole. -/
theorem exec_packetReceive_whole (hgroups : r.2.groups = 0) (hlen : ((getLink s l).part ++ r.1).length % 4 = 0) :
    exec (.packetReceive l hd hs pd ps) s = .next (packetIn (setLink s l { getLink s l with wires := r.2, part := [] }) l
      (flitsOf ((getLink s l).part ++ r.1).length ((getLink s l).part ++ r.1))) := by
  subst hr
  show execPacketReceive l hd hs pd ps s = _
  rw [execPacketReceive, if_neg (by simp [h])]
  exact if_neg (not_or.mpr ⟨not_not.mpr hgroups, not_not.mpr hlen⟩)

end

section
variable (hdr : Word) (side : Nat) (good : Bool) (pay : List (Word × Nat × Bool))

/-- What a whole packet leaves of its link direction: only the answer and the LSEQ expected change (R39). -/
theorem packetIn_good (h : packetOk hdr side pay good = true) : packetIn s l ((hdr, side, good) :: pay) = setLink s l
    (if BitVec.ofNat 6 side = (getLink s l).rxSeq then
       { getLink s l with rxSeq := (getLink s l).rxSeq + 1, ctl := some (ctlFlit 1 (getLink s l).rxSeq) }
     else if (BitVec.ofNat 6 side - (getLink s l).rxSeq).toNat < 32 then { getLink s l with ctl := some (ctlFlit 2 (getLink s l).rxSeq) }
     else { getLink s l with ctl := some (ctlFlit 1 ((getLink s l).rxSeq - 1)) }) := by
  simp only [packetIn, h, Bool.not_true, Bool.false_eq_true, if_false]
  split_ifs <;> rfl

theorem packetIn_bad (h : packetOk hdr side pay good = false) : packetIn s l ((hdr, side, good) :: pay) =
    countF (setLink s l { getLink s l with ctl := some (ctlFlit 2 (getLink s l).rxSeq) }) rSpnBadpkt 63 0 1 := by
  simp only [packetIn, h, Bool.not_false, if_true]

end

end

/-! ### Acknowledges and resends of a live link direction (R39, R40) -/

/-- A flit that is no acknowledge does nothing as one. -/
theorem exec_linkAck_ignored (flit : Word) (h : ctlSeq 1 flit = none) : exec (.linkAck l flit) s = .next s := by
  show execLinkAck l flit s = _
  simp only [execLinkAck, h, ok]

/-- A flit that is no NAK does nothing as one. -/
theorem exec_linkNak_ignored (flit : Word) (h : ctlSeq 2 flit = none) : exec (.linkNak l flit) s = .next s := by
  show execLinkNak l flit s = _
  simp only [execLinkNak, h, ok]

/-- An acknowledge of an LSEQ: the packets up to it leave the retry buffer, and what waits goes on. -/
theorem exec_linkAck_seq (flit : Word) (q : BitVec 6) (h : ctlSeq 1 flit = some q) : exec (.linkAck l flit) s =
    .next (if (getLink s l).retry.any fun p => p.lseq == q then carefulSwitch (linkGo s l
      { getLink s l with retry := ((getLink s l).retry.dropWhile fun p => p.lseq != q).drop 1 }) else s) := by
  show execLinkAck l flit s = _
  simp only [execLinkAck, h, ok]
  split <;> rfl

/-- A NAK of an LSEQ: the packets before it leave the retry buffer, the others are resent. -/
theorem exec_linkNak_seq (flit : Word) (q : BitVec 6) (h : ctlSeq 2 flit = some q) : exec (.linkNak l flit) s =
    .next (if (getLink s l).retry.any fun p => p.lseq == q then linkResend (setLink s l
      { getLink s l with retry := (getLink s l).retry.dropWhile fun p => p.lseq != q }) l else s) := by
  show execLinkNak l flit s = _
  simp only [execLinkNak, h, ok]
  split <;> rfl

/-- A flit reads back as the kind that it was made with. -/
theorem ctlSeq_ctlFlit_self (k : Nat) (lseq : BitVec 6) (hk : k < 4) : ctlSeq k (ctlFlit k lseq) = some lseq :=
  (ctlSeq_ctlFlit k k lseq hk).trans (if_pos rfl)

/-- Without a waiting packet nothing is sent. -/
theorem linkFill_idle (n t : Nat) (x : Link) (hreq : x.req = []) (hrep : x.rep = []) (hpri : x.pri = []) : linkFill n t x = x := by
  cases n with
  | zero => rfl
  | succ n =>
    simp only [linkFill, nextChan, hreq, hrep, hpri, ite_self]

/-- The resends after which a link direction fails: 8, or 2 in careful mode or with the recovery engine stopped. -/
def resendsMax : Nat := if careful s || s.boot.recStop then 2 else 8

theorem resendsMax_setLink (x : Link) : resendsMax (setLink s l x) = resendsMax s := rfl

/-- A packet resent at a time. -/
def resent (t : Nat) (q : Pkt) : Pkt := { q with n := q.n + 1, sent := t }

/-- The failure of a link direction, of an entry point or of the mesh. -/
def linkFails (s : State) (l : Nat) : State := if 1024 ≤ l then entryFail s ((l - 1024) / 2) (l % 2) else meshFail s l

/-- A resend from the oldest packet, or the failure of the link direction. -/
theorem linkResend_cons (p : Pkt) (after : List Pkt) (h : (getLink s l).retry = p :: after) :
    linkResend s l = if resendsMax s ≤ p.n then linkFails s l
      else setLink s l { getLink s l with retry := (p :: after).map (resent s.ht) } := by
  simp only [linkResend, h]
  rfl

/-- Nothing to resend. -/
theorem exec_linkRetryTimeout_empty (h : (getLink s l).retry = []) : exec (.linkRetryTimeout l) s = .next s := by
  show execLinkRetryTimeout l s = _
  simp only [execLinkRetryTimeout, h, ok]

/-- The oldest packet resent 2,000 ht after it was sent. -/
theorem exec_linkRetryTimeout_cons (p : Pkt) (after : List Pkt) (h : (getLink s l).retry = p :: after) :
    exec (.linkRetryTimeout l) s = .next (if p.sent + 2000 ≤ s.ht then linkResend s l else s) := by
  show execLinkRetryTimeout l s = _
  simp only [execLinkRetryTimeout, h, ok]
  split <;> rfl

section
variable (lseq : BitVec 6)

/-- No packet of an LSEQ in the retry buffer. -/
theorem exec_linkCtl_unknown (h : ∀ q ∈ (getLink s l).retry, q.lseq ≠ lseq) :
    exec (.linkAck l (ctlFlit 1 lseq)) s = .next s ∧ exec (.linkNak l (ctlFlit 2 lseq)) s = .next s := by
  have hany : ¬ ((getLink s l).retry.any fun p => p.lseq == lseq) = true := by simpa using h
  rw [exec_linkAck_seq s l _ lseq (ctlSeq_ctlFlit_self 1 lseq (by omega)), if_neg hany,
    exec_linkNak_seq s l _ lseq (ctlSeq_ctlFlit_self 2 lseq (by omega)), if_neg hany]
  exact ⟨rfl, rfl⟩

variable (before after : List Pkt) (p : Pkt) (hretry : (getLink s l).retry = before ++ p :: after) (hp : p.lseq = lseq)
  (hbefore : ∀ q ∈ before, q.lseq ≠ lseq)
include hretry hp

theorem retry_any : ((getLink s l).retry.any fun q => q.lseq == lseq) = true :=
  List.any_eq_true.mpr ⟨p, by simp [hretry], by simp [hp]⟩

include hbefore

/-- The packets before the one that a control flit names go first. -/
theorem dropWhile_retry : ((getLink s l).retry.dropWhile fun q => q.lseq != lseq) = p :: after := by
  rw [hretry, List.dropWhile_append_of_pos (by simpa using hbefore), List.dropWhile_cons_of_neg (by simp [hp])]

/-- The packets up to the one acknowledged leave, and what waits goes on. -/
theorem exec_linkAck_known : exec (.linkAck l (ctlFlit 1 lseq)) s =
    .next (carefulSwitch (linkGo s l { getLink s l with retry := after })) := by
  rw [exec_linkAck_seq s l _ lseq (ctlSeq_ctlFlit_self 1 lseq (by omega)), if_pos (retry_any s l lseq before after p hretry hp),
    dropWhile_retry s l lseq before after p hretry hp hbefore, List.drop_succ_cons, List.drop_zero]

/-- A NAK resends from the packet that it names. -/
theorem exec_linkNak_known : exec (.linkNak l (ctlFlit 2 lseq)) s =
    .next (linkResend (setLink s l { getLink s l with retry := p :: after }) l) := by
  rw [exec_linkNak_seq s l _ lseq (ctlSeq_ctlFlit_self 2 lseq (by omega)), if_pos (retry_any s l lseq before after p hretry hp),
    dropWhile_retry s l lseq before after p hretry hp hbefore]

end

/-- Outside a change of mode careful mode switches nothing. -/
theorem carefulSwitch_settled (h : switching s = false) : carefulSwitch s = s := by
  unfold carefulSwitch
  exact if_pos (by simp [h])

end

end Sys2Proof.Machine
end


section
/-! SUPPORT. What the spine keeps while operations are issued, epochs advance and careful mode switches: pending lines, failed link
directions and SPN_MODE; and the failures of link directions (R59, R60, R423). -/

namespace Sys2Proof.Machine

/-- From s to t the spine has sent: pending lines, SPN_MODE and failed link directions stand. -/
structure IssueWork (s t : State) : Prop where
  evPend : t.evPend = s.evPend
  mode : reg t rSpnMode = reg s rSpnMode
  dead : ∀ l : Nat, (getLink s l).failed = true → getLink t l = getLink s l

theorem IssueWork.refl (s : State) : IssueWork s s := ⟨rfl, rfl, fun _ _ => rfl⟩

theorem IssueWork.trans {s t u : State} (h : IssueWork s t) (k : IssueWork t u) : IssueWork s u where
  evPend := k.evPend.trans h.evPend
  mode := k.mode.trans h.mode
  dead l hl := by
    have ht := h.dead l hl
    rw [k.dead l (by rw [ht, hl]), ht]

theorem IssueWork.of_links {s t : State} (he : t.evPend = s.evPend) (hr : reg t rSpnMode = reg s rSpnMode)
    (hl : t.spine.links = s.spine.links) : IssueWork s t :=
  ⟨he, hr, fun l _ => by rw [getLink, hl, getLink]⟩

theorem IssueWork.of_eq {s t : State} (he : t.evPend = s.evPend) (hr : t.regs = s.regs) (hl : t.spine.links = s.spine.links) :
    IssueWork s t := .of_links he (by rw [reg, regGet, hr, reg, regGet]) hl

/-- What is kept after a change of anything else. -/
theorem IssueWork.after {s u t : State} (k : IssueWork u t) (he : u.evPend = s.evPend) (hr : u.regs = s.regs)
    (hl : u.spine.links = s.spine.links) : IssueWork s t := (IssueWork.of_eq he hr hl).trans k

/-- A fold of steps that each keep it. -/
theorem IssueWork.forAll {α : Type} (l : List α) (f : State → α → State) (s : State) (h : ∀ t, ∀ a ∈ l, IssueWork t (f t a)) :
    IssueWork s (Machine.forAll l f s) :=
  forAll_keeps (IssueWork s) l f s (.refl s) fun t a ha ht => ht.trans (h t a ha)

theorem LinkTraffic.issueWork {s t : State} (h : LinkTraffic s t) : IssueWork s t :=
  ⟨by rw [h.eq], by rw [h.eq]; rfl, h.dead⟩

section
variable (s : State)

/-- A saturating count of another register leaves SPN_MODE. -/
theorem mode_countF (o hi lo n : Nat) (h : rSpnMode ≠ o) : reg (countF s o hi lo n) rSpnMode = reg s rSpnMode :=
  reg_setReg_ne _ _ _ _ h

theorem issueWork_countF (o hi lo n : Nat) (h : rSpnMode ≠ o) : IssueWork s (countF s o hi lo n) :=
  .of_links rfl (mode_countF s o hi lo n h) rfl

theorem issueWork_postArrival (a : Arrival) : IssueWork s (postArrival s a) := by
  rcases postArrival_eq s a with h | h | h <;> rw [h]
  · exact .of_eq rfl rfl rfl
  · exact .after (issueWork_countF _ _ _ _ _ (by decide)) rfl rfl rfl
  · exact .of_eq rfl rfl rfl

theorem issueWork_armDeadline (op : Op) (dl : Nat) : IssueWork s (armDeadline s op dl) := by
  unfold armDeadline
  split
  next =>
    dsimp only
    split <;> exact .of_eq rfl rfl rfl
  next => split <;> exact .of_eq rfl rfl rfl
  next => exact .refl s

/-- An operation sent. -/
theorem issueWork_sendOp (op : Op) : IssueWork s (sendOp s op) := by
  unfold sendOp
  dsimp only
  split
  next => exact .after ((issueWork_armDeadline _ _ _).trans (issueWork_postArrival _ _)) rfl rfl rfl
  next =>
    refine .after ((issueWork_armDeadline _ _ _).trans (.forAll _ _ _ fun t c _ => ?_)) rfl rfl rfl
    split
    · exact .refl t
    · exact (linkTraffic_linksSend t _ _).issueWork

/-- Operations that were held go out (R60). -/
theorem issueWork_releaseIssue : IssueWork s (releaseIssue s) := by
  unfold releaseIssue
  split
  next =>
    refine .forAll _ _ _ fun t op _ => ?_
    unfold issueNow
    split
    · exact issueWork_sendOp t op
    · exact .of_eq rfl rfl rfl
  next => exact .refl s

/-- The mill map leaves SPN_MODE. -/
theorem mode_publishMap : reg (publishMap s) rSpnMode = reg s rSpnMode := by
  unfold publishMap
  split
  next => rfl
  next =>
    simp only [reg, regGet, setRegF, setReg, regPut]
    rw [tget_tput_ne _ _ _ _ _ (by decide), tget_tput_ne _ _ _ _ _ (by decide)]

theorem issueWork_publishMap : IssueWork s (publishMap s) := .of_links (by simp) (mode_publishMap s) (by simp)

theorem mode_submit (a : Area) (o : Nat) (b : List Word) : reg (submit s a o b) rSpnMode = reg s rSpnMode := by
  simp only [submit, enterOrder, Option.elim]
  split
  · rfl
  · split
    · rfl
    · split
      · exact mode_countF _ _ _ _ _ (by decide)
      · rfl

/-- A change of health leaves SPN_MODE. -/
theorem mode_healthChange (k u : Nat) (l : Bool) : reg (healthChange s k u l) rSpnMode = reg s rSpnMode := by
  have hlocal (t : State) (r : Rec) : reg (pushLocal t r) rSpnMode = reg t rSpnMode := by
    rw [pushLocal_eq]
    rfl
  unfold healthChange
  rw [mode_publishMap, journal, mode_submit, hevt, hlocal]
  exact reg_setReg_ne _ _ _ _ (by decide)

/-- A change of health raises line 5. -/
theorem healthChange_raises (k u : Nat) (l : Bool) (h : tabWf 0 s.evPend = true) : LineRaised (healthChange s k u l) 5 :=
  fun r hr => (healthChange_line s k u l r h hr).1

theorem healthChange_evPend_wf (k u : Nat) (l : Bool) (h : tabWf 0 s.evPend = true) : tabWf 0 (healthChange s k u l).evPend = true :=
  (healthChange_line s k u l 0 h (by decide)).2

/-- A line raised stays so while the pending lines stand. -/
theorem lineRaised_of_evPend {s t : State} {n : Nat} (h : LineRaised s n) (he : t.evPend = s.evPend) : LineRaised t n :=
  fun k hk => by rw [he]; exact h k hk

/-! ### Epochs (R423, R438) -/

/-- An epoch advance, before it goes out. -/
def epochMoved (i : Nat) : State :=
  { s with spine := { s.spine with epochs := tput 0 s.spine.epochs i ((tget 0 s.spine.epochs i + 1) % 16),
                                   iseqs := tput 0 s.spine.iseqs i (tget 0 s.spine.iseqs i + 1) } }

theorem linkTraffic_advanceEpoch (ls : List Nat) (i : Nat) : LinkTraffic (epochMoved s i) (advanceEpoch s ls i) :=
  linkTraffic_linksSend _ _ _

theorem issueWork_advanceEpoch (ls : List Nat) (i : Nat) : IssueWork s (advanceEpoch s ls i) :=
  .after (linkTraffic_advanceEpoch s ls i).issueWork rfl rfl rfl

/-- Careful mode as it switches: SPN_MODE shows the mode asked for as the one in force (R60). -/
theorem carefulSwitch_switches (hsw : switching s = true) (hd : drained s = true) :
    IssueWork (setReg s rSpnMode (word (3 * b2n (bit (reg s rSpnMode) 0)))) (carefulSwitch s) := by
  unfold carefulSwitch
  rw [if_neg (by simp [hsw, hd])]
  dsimp only
  refine IssueWork.trans ?_ ((issueWork_publishMap _).trans (issueWork_releaseIssue _))
  split
  next =>
    exact .after (.forAll _ _ _ fun t i _ => issueWork_advanceEpoch t _ i) rfl rfl rfl
  next => exact .of_eq rfl rfl rfl

theorem carefulSwitch_undrained (hd : drained s = false) : carefulSwitch s = s := by
  unfold carefulSwitch
  exact if_pos (by simp [hd])

/-- A switch of careful mode leaves pending lines and failed link directions. -/
theorem carefulSwitch_keeps : (carefulSwitch s).evPend = s.evPend ∧
    ∀ l : Nat, (getLink s l).failed = true → getLink (carefulSwitch s) l = getLink s l := by
  by_cases hsw : switching s = true
  · by_cases hd : drained s = true
    · exact ⟨(carefulSwitch_switches s hsw hd).evPend, (carefulSwitch_switches s hsw hd).dead⟩
    · rw [carefulSwitch_undrained s (by simpa using hd)]
      exact ⟨rfl, fun _ _ => rfl⟩
  · rw [carefulSwitch_settled s (by simpa using hsw)]
    exact ⟨rfl, fun _ _ => rfl⟩

/-! ### Link directions that fail (R59, R423) -/

/-- A link direction l is out of service, and line 5 told of it. -/
structure LinkDown (l : Nat) (t : State) : Prop where
  evPend : tabWf 0 t.evPend = true
  line : LineRaised t 5
  failed : (getLink t l).failed = true
  retry : (getLink t l).retry = []

/-- It stays so while pending lines and failed link directions stand. -/
theorem LinkDown.kept {l : Nat} {t u : State} (h : LinkDown l t) (he : u.evPend = t.evPend)
    (hd : ∀ l : Nat, (getLink t l).failed = true → getLink u l = getLink t l) : LinkDown l u where
  evPend := by rw [he]; exact h.evPend
  line := lineRaised_of_evPend h.line he
  failed := by rw [hd l h.failed]; exact h.failed
  retry := by rw [hd l h.failed]; exact h.retry

theorem LinkDown.issueWork {l : Nat} {t u : State} (h : LinkDown l t) (k : IssueWork t u) : LinkDown l u := h.kept k.evPend k.dead

theorem LinkDown.switched {l : Nat} {t : State} (h : LinkDown l t) : LinkDown l (carefulSwitch t) :=
  h.kept (carefulSwitch_keeps t).1 (carefulSwitch_keeps t).2

/-- Another change of health leaves it so. -/
theorem LinkDown.reported {l : Nat} {t : State} (h : LinkDown l t) (u : State) (hs : u.spine = t.spine) (he : u.evPend = t.evPend)
    (k m : Nat) (left : Bool) : LinkDown l (healthChange u k m left) where
  evPend := healthChange_evPend_wf u k m left (by rw [he]; exact h.evPend)
  line := healthChange_raises u k m left (by rw [he]; exact h.evPend)
  failed := by rw [getLink, healthChange_spine, hs]; exact h.failed
  retry := by rw [getLink, healthChange_spine, hs]; exact h.retry

theorem LinkDown.checked {l : Nat} {t : State} (h : LinkDown l t) (n : Nat) : LinkDown l (checkNode t n) := by
  unfold checkNode
  split
  · exact h.reported (setF t n { getF t n with nodeFail := true }) (setF_spine _ _ _) (setF_evPend _ _ _) 3 n true
  · exact h

/-- A link direction taken out of service and reported. -/
theorem linkDown_report (l k u : Nat) (hl : tabWf Link.fresh s.spine.links = true) (he : tabWf 0 s.evPend = true) :
    LinkDown l (healthChange (setLink s l (getLink s l).dead) k u true) := by
  have hdead : getLink (healthChange (setLink s l (getLink s l).dead) k u true) l = (getLink s l).dead := by
    rw [getLink, healthChange_spine]
    exact getLink_setLink_self s l _ hl
  exact ⟨healthChange_evPend_wf _ _ _ _ he, healthChange_raises _ _ _ _ he, by rw [hdead]; rfl, by rw [hdead]; rfl⟩

/-- Packets of a failed link direction on their detours. -/
theorem linkTraffic_detourAll (l : Nat) (x : Link) : LinkTraffic s (detourAll s l x) := by
  unfold detourAll
  split
  · exact .refl s
  · exact forAll_keeps (LinkTraffic s) _ _ _ (.refl s) fun t _ _ ht => ht.trans (linkTraffic_linksSend _ _ _)

section
variable (hl : tabWf Link.fresh s.spine.links = true) (he : tabWf 0 s.evPend = true)
include hl he

/-- A mesh link direction fails. -/
theorem meshFail_linkDown (l : Nat) (h : (getLink s l).failed = false) : LinkDown l (meshFail s l) := by
  have h1 := linkDown_report s l 1 l hl he
  have h2 := h1.checked (l / 4)
  have h3 : LinkDown l ((neighbour s (l / 4) (l % 4)).elim
      (checkNode (healthChange (setLink s l (getLink s l).dead) 1 l true) (l / 4))
      (checkNode (checkNode (healthChange (setLink s l (getLink s l).dead) 1 l true) (l / 4)))) := by
    cases neighbour s (l / 4) (l % 4) with
    | none => exact h2
    | some m => exact h2.checked m
  unfold meshFail
  rw [if_neg (by simp [h])]
  dsimp only
  split
  · exact h3.switched
  · exact (h3.issueWork (linkTraffic_detourAll _ l _).issueWork).switched.issueWork (.of_eq rfl rfl rfl)

/-- A Distaff entry link direction fails. -/
theorem entryFail_linkDown (e d : Nat) (h : (getLink s (entryLink e d)).failed = false) :
    LinkDown (entryLink e d) (entryFail s e d) := by
  have h1 := (linkDown_report s (entryLink e d) 2 (2 * e + d) hl he).switched
  unfold entryFail
  rw [if_neg (by simp [h])]
  dsimp only
  split
  · exact h1
  · refine forAll_keeps (LinkDown _) _ _ _ h1 fun t i _ ht => ht.issueWork ?_
    exact .after (issueWork_advanceEpoch _ _ i) rfl rfl rfl

/-- A link direction that is given up after its resends. -/
theorem linkFails_linkDown (l : Nat) (h : (getLink s l).failed = false) : LinkDown l (linkFails s l) := by
  unfold linkFails
  split
  next hle =>
    have hnum : entryLink ((l - 1024) / 2) (l % 2) = l := by
      unfold entryLink
      omega
    have hdown := entryFail_linkDown s hl he ((l - 1024) / 2) (l % 2) (by rw [hnum]; exact h)
    rwa [hnum] at hdown
  next => exact meshFail_linkDown s hl he l h

end

end

end Sys2Proof.Machine
end


section
/-! SUPPORT. Epochs and entry points of the issuers when traffic moves: an entry link that fails, and the repaired trees in force (R423,
R438). -/

namespace Sys2Proof.Machine

section
variable (s : State)

/-- An epoch advance changes the issuer's epoch and ISEQ, and link directions. -/
theorem advanceEpoch_spine (ls : List Nat) (i : Nat) :
    (advanceEpoch s ls i).spine = { (epochMoved s i).spine with links := (advanceEpoch s ls i).spine.links } := by
  conv_lhs => rw [(linkTraffic_advanceEpoch s ls i).eq]

/-- Epochs after each issuer of a list has advanced its own. -/
theorem epochs_forAll (hit : List Nat) (f : State → Nat → State)
    (hf : ∀ t i, (f t i).spine.epochs = tput 0 t.spine.epochs i ((tget 0 t.spine.epochs i + 1) % 16)) (hn : hit.Nodup)
    (h : tabWf 0 s.spine.epochs = true) (j : Nat) : tget 0 (forAll hit f s).spine.epochs j =
      if j ∈ hit then (tget 0 s.spine.epochs j + 1) % 16 else tget 0 s.spine.epochs j := by
  induction hit generalizing s with
  | nil => rfl
  | cons i hit ih =>
    obtain ⟨hi, hn⟩ := List.nodup_cons.mp hn
    have hj : tget 0 (f s i).spine.epochs j = if j = i then (tget 0 s.spine.epochs j + 1) % 16 else tget 0 s.spine.epochs j := by
      rw [hf, tget_tput _ _ _ _ _ h]
      split
      next e => rw [e]
      next => rfl
    have hwf : tabWf 0 (f s i).spine.epochs = true := by
      rw [hf]
      exact tabWf_tput _ _ _ _ h
    refine (ih (f s i) hn hwf).trans ?_
    rw [hj]
    by_cases e : j = i
    · subst e
      simp [hi]
    · simp [e]

/-- Entry points after each issuer of a list has taken the same one. -/
theorem entryOf_forAll (hit : List Nat) (f : State → Nat → State) (v : Nat) (hv : v ≠ 0)
    (hf : ∀ t i, (f t i).spine.entryOf = tput 0 t.spine.entryOf i v) (j : Nat) :
    tget 0 (forAll hit f s).spine.entryOf j = if j ∈ hit then v else tget 0 s.spine.entryOf j := by
  induction hit generalizing s with
  | nil => rfl
  | cons i hit ih =>
    have hj : tget 0 (f s i).spine.entryOf j = if j = i then v else tget 0 s.spine.entryOf j := by
      rw [hf]
      split
      next e => rw [e, tget_tput_self _ _ _ _ hv]
      next e => rw [tget_tput_ne _ _ _ _ _ e]
    refine (ih (f s i)).trans ?_
    rw [hj]
    by_cases e : j = i
    · simp [e]
    · simp [e]

/-! ### An entry link that fails (R423) -/

/-- The state that an issuer moves to another entry point from. -/
def entryMoved (m i : Nat) : State := { s with spine := { s.spine with entryOf := tput 0 s.spine.entryOf i (m + 1) } }

/-- The issuers of an entry point e move to the entry point m, each with a new epoch. -/
def moveIssuers (e m : Nat) (ls : List Nat) (t : State) : State :=
  forAll ((List.range 9).filter fun i => issuerEntry s i == e) (fun t i => advanceEpoch (entryMoved t m i) ls i) t

theorem moveIssuers_moves (e m : Nat) (ls : List Nat) (t : State) (hspine : t.spine.epochs = s.spine.epochs)
    (hentry : t.spine.entryOf = s.spine.entryOf) (h : tabWf 0 s.spine.epochs = true) (i : Nat) (hi : i < 9) :
    (issuerEntry s i = e → issuerEntry (moveIssuers s e m ls t) i = m ∧
      tget 0 (moveIssuers s e m ls t).spine.epochs i = (tget 0 s.spine.epochs i + 1) % 16) ∧
    (issuerEntry s i ≠ e → issuerEntry (moveIssuers s e m ls t) i = issuerEntry s i ∧
      tget 0 (moveIssuers s e m ls t).spine.epochs i = tget 0 s.spine.epochs i) := by
  have hepoch := epochs_forAll t ((List.range 9).filter fun i => issuerEntry s i == e)
    (fun t i => advanceEpoch (entryMoved t m i) ls i) (fun t i => by rw [advanceEpoch_spine]; rfl)
    (List.nodup_range.filter _) (by rw [hspine]; exact h) i
  have hplace := entryOf_forAll t ((List.range 9).filter fun i => issuerEntry s i == e)
    (fun t i => advanceEpoch (entryMoved t m i) ls i) (m + 1) (by omega) (fun t i => by rw [advanceEpoch_spine]; rfl) i
  rw [hspine] at hepoch
  rw [hentry] at hplace
  constructor
  · intro he
    have hmem : i ∈ (List.range 9).filter fun i => issuerEntry s i == e := by simp [hi, he]
    rw [if_pos hmem] at hepoch hplace
    refine ⟨?_, hepoch⟩
    rw [issuerEntry, moveIssuers, hplace]
    simp
  · intro he
    have hmem : i ∉ (List.range 9).filter fun i => issuerEntry s i == e := by simp [he]
    rw [if_neg hmem] at hepoch hplace
    refine ⟨?_, hepoch⟩
    rw [issuerEntry, moveIssuers, hplace, issuerEntry]

/-- The state in which an entry link direction has been reported. -/
def entryReported (e d : Nat) : State := healthChange (setLink s (entryLink e d) (getLink s (entryLink e d)).dead) 2 (2 * e + d) true

/-- The links of other entry points stand. -/
theorem getLink_entryReported (e d k c : Nat) (hd : d < 2) (hc : c < 2) (hk : k ≠ e) :
    getLink (entryReported s e d) (entryLink k c) = getLink s (entryLink k c) := by
  have hne : entryLink k c ≠ entryLink e d := by
    unfold entryLink
    omega
  rw [entryReported, getLink, healthChange_spine]
  exact getLink_setLink_ne s _ _ _ hne

/-- Outside a change of mode the failure of an entry link moves its issuers to the next entry point. -/
theorem entryFail_moves (e d : Nat) (hd : d < 2) (hlive : (getLink s (entryLink e d)).failed = false)
    (hsw : switching s = false) (hup : entryUp s ((e + 1) % 4) = true) :
    entryFail s e d = moveIssuers s e ((e + 1) % 4) (linksAll (entryReported s e d) ((e + 1) % 4)) (entryReported s e d) := by
  have hmode : reg (entryReported s e d) rSpnMode = reg s rSpnMode := mode_healthChange _ _ _ _
  have hsettled : carefulSwitch (entryReported s e d) = entryReported s e d :=
    carefulSwitch_settled _ (by rw [switching, hmode, ← switching, hsw])
  have hup1 : entryUp (entryReported s e d) ((e + 1) % 4) = true := by
    rw [entryUp, getLink_entryReported s e d _ 0 hd (by omega) (by omega), getLink_entryReported s e d _ 1 hd (by omega) (by omega)]
    exact hup
  have hnext : ((List.range 4).map fun k => (e + 1 + k) % 4).find? (entryUp (entryReported s e d)) = some ((e + 1) % 4) := by
    rw [List.range_succ_eq_map, List.map_cons, List.find?_cons_of_pos (by rw [Nat.add_zero]; exact hup1), Nat.add_zero]
  have hsettled' : carefulSwitch (healthChange (setLink s (entryLink e d) (getLink s (entryLink e d)).dead) 2 (2 * e + d) true) =
      entryReported s e d := hsettled
  simp only [entryFail, hlive, Bool.false_eq_true, if_false, hsettled', hnext]
  rfl

/-! ### The repaired trees (R438) -/

/-- Without a repair owed, or with careful mode or no recovery engine, nothing is rebuilt. -/
theorem exec_routeRebuild_idle (h : s.spine.rebuild = false ∨ careful s = true ∨ s.boot.recStop = true) :
    exec .routeRebuild s = .next s := if_pos (by rcases h with h | h | h <;> simp [h])

/-- What an epoch advance leaves of a route table under repair. -/
def spineRoutes (t : State) : Bool × Bool × List Nat × Tab Nat := (t.spine.rebuild, t.spine.built, t.spine.removed, t.spine.trees)

theorem spineRoutes_advanceEpoch (ls : List Nat) (i : Nat) : spineRoutes (advanceEpoch s ls i) = spineRoutes s := by
  rw [spineRoutes, advanceEpoch_spine]
  rfl

/-- ROUTE_REBUILD: the repaired trees stand, and each issuer whose tree has changed has a new epoch. -/
theorem routeRebuild_repairs (h : tabWf 0 s.spine.epochs = true) (hreb : s.spine.rebuild = true) (hcar : careful s = false)
    (hrec : s.boot.recStop = false) : ∃ t : State, exec .routeRebuild s = .next t ∧
      spineRoutes t = (false, true, (repairTrees s 256 []).1, (repairTrees s 256 []).2) ∧ ∀ i : Nat, i < 9 → tget 0 t.spine.epochs i =
        if sameTree (treesNow s) (repairTrees s 256 []).2 (issuerEntry s i) then tget 0 s.spine.epochs i
        else (tget 0 s.spine.epochs i + 1) % 16 := by
  obtain ⟨u, hu⟩ : ∃ u, u = execRouteRebuild s := ⟨_, rfl⟩
  have hexec : exec .routeRebuild s = u := hu.symm
  rw [execRouteRebuild, if_neg (by simp [hreb, hcar, hrec])] at hu
  obtain ⟨un, hun⟩ : ∃ un : List Nat, u = .next (publishMap (forAll un (fun s n => setF s n { getF s n with declared := some s.ht })
      (forAll ((List.range 9).filter fun i => !sameTree (treesNow s) (repairTrees s 256 []).2 (issuerEntry s i))
        (fun t i => advanceEpoch t (linksAll s (issuerEntry s i)) i)
        { s with spine := { s.spine with rebuild := false, removed := (repairTrees s 256 []).1, built := true,
                                         trees := (repairTrees s 256 []).2, unreach := un } }))) := ⟨_, hu⟩
  rw [hun] at hexec
  have hspine (t : State) :
      (publishMap (forAll un (fun s n => setF s n { getF s n with declared := some s.ht }) t)).spine = t.spine := by
    rw [publishMap_spine]
    exact forAll_keeps (fun v => v.spine = t.spine) un _ t rfl fun v n _ hv => hv
  refine ⟨_, hexec, ?_, fun i hi => ?_⟩
  · rw [spineRoutes, hspine]
    exact forAll_keeps (fun v => spineRoutes v = _) _ _ _ rfl fun v i _ hv => (spineRoutes_advanceEpoch v _ i).trans hv
  · rw [hspine]
    refine (epochs_forAll _ _ _ (fun t i => by rw [advanceEpoch_spine]; rfl) (List.nodup_range.filter _) (by exact h) i).trans ?_
    simp only [List.mem_filter, List.mem_range, hi, true_and, Bool.not_eq_true']
    cases sameTree (treesNow s) (repairTrees s 256 []).2 (issuerEntry s i) <;> rfl

/-! ### Epochs at a Flyer (Table 2.6, step 5) -/

section
variable (f : Nat) (issuer : Fin 9) (epoch : Fin 16)

/-- A Flyer that has failed, that is in another epoch, or whose epoch is still the issuer's, closes none. -/
theorem exec_epochClose_idle (h : (getF s f).failed = true ∨ tget 0 (getF s f).epochs issuer ≠ epoch.val ∨
    tget 0 s.spine.epochs issuer = epoch.val) : exec (.epochClose f issuer epoch) s = .next s :=
  if_pos (by rcases h with h | h | h <;> simp [h])

/-- The Flyer in its next epoch for an issuer. -/
def epochClosed : State :=
  setF s f { getF s f with epochs := tput 0 (getF s f).epochs issuer ((epoch.val + 1) % 16) }

/-- The operations that a Flyer has held for the epoch that it enters. -/
def heldFor : List Op :=
  (s.ops.filter fun o => o.issuer == issuer.val && (getF s f).heldOps.contains (o.issuer, o.iseq)).filter fun o =>
    !epochAhead (epochClosed s f issuer epoch) f o

section
variable (hf : (getF s f).failed = false) (hat : tget 0 (getF s f).epochs issuer = epoch.val)
  (hnew : tget 0 s.spine.epochs issuer ≠ epoch.val)
include hf hat hnew

/-- The close of an epoch: what was held is received in order, and credit returned. -/
theorem exec_epochClose_closes : exec (.epochClose f issuer epoch) s = .next (giveCredit
    (forAll (sortBy (fun o => (o.iseq - ((heldFor s f issuer epoch).head?.map Op.iseq).getD 0 + 0x4000).toNat) (heldFor s f issuer epoch))
      (receiveAt f) (epochClosed s f issuer epoch)) f issuer) := if_neg (by simp [hf, hat, hnew])

/-- Nothing was held. -/
theorem exec_epochClose_nothing (h : (getF s f).heldOps = []) :
    exec (.epochClose f issuer epoch) s = .next (giveCredit (epochClosed s f issuer epoch) f issuer) := by
  have hheld : heldFor s f issuer epoch = [] := by simp [heldFor, h]
  rw [exec_epochClose_closes s f issuer epoch hf hat hnew, hheld]
  rfl

/-- One operation was held, of the epoch entered. -/
theorem exec_epochClose_one (hfly : tabWf Flyer.fresh s.flyers = true) (o : Op) (h : (getF s f).heldOps = [(issuer.val, o.iseq)])
    (hops : (s.ops.filter fun q => q.issuer == issuer.val && q.iseq == o.iseq) = [o]) (hep : tabWf 0 (getF s f).epochs = true)
    (ho : o.issuer = issuer.val) (hoe : o.epoch = (epoch.val + 1) % 16) :
    exec (.epochClose f issuer epoch) s = .next (giveCredit (receiveAt f (epochClosed s f issuer epoch) o) f issuer) := by
  have hnow : epochAhead (epochClosed s f issuer epoch) f o = false := by
    have hself : tget 0 (getF (epochClosed s f issuer epoch) f).epochs o.issuer = o.epoch := by
      rw [epochClosed, getF_setF_self _ _ _ hfly, ho, hoe]
      exact (tget_tput _ _ _ _ _ hep).trans (if_pos rfl)
    rw [epochAhead, hself]
    simp
  have hfilter : (s.ops.filter fun q => q.issuer == issuer.val && (getF s f).heldOps.contains (q.issuer, q.iseq)) = [o] := by
    rw [← hops]
    refine List.filter_congr fun q _ => ?_
    rw [h]
    by_cases hq : q.iseq = o.iseq <;> simp [hq]
  have hheld : heldFor s f issuer epoch = [o] := by
    rw [heldFor, hfilter]
    simp [hnow]
  rw [exec_epochClose_closes s f issuer epoch hf hat hnew, hheld]
  rfl

end

end

end

end Sys2Proof.Machine
end


section
/-! SUPPORT. The answers that a node has collected for an operation, and their way to its parent or to the issuer (R43, R44). -/

namespace Sys2Proof.Machine

section
variable (s : State)

/-- A node's answers are listed under the node and the operation. -/
theorem getAcc_key (n issuer : Nat) (iseq : BitVec 16) :
    (getAcc s n issuer iseq).node = n ∧ (getAcc s n issuer iseq).issuer = issuer ∧ (getAcc s n issuer iseq).iseq = iseq := by
  unfold getAcc
  cases h : s.spine.nodes.find? fun a => a.node == n && a.issuer == issuer && a.iseq == iseq with
  | none => exact ⟨rfl, rfl, rfl⟩
  | some a =>
    have := List.find?_some h
    simp only [Bool.and_eq_true, beq_iff_eq] at this
    obtain ⟨⟨hn, hi⟩, hq⟩ := this
    exact ⟨hn, hi, hq⟩

/-- A node's answers read after they are replaced. -/
theorem getAcc_setAcc_self (a : NodeAcc) : getAcc (setAcc s a) a.node a.issuer a.iseq = a := by
  have hrest : (s.spine.nodes.filter fun b => !(b.node == a.node && b.issuer == a.issuer && b.iseq == a.iseq)).find?
      (fun b => b.node == a.node && b.issuer == a.issuer && b.iseq == a.iseq) = none :=
    List.find?_eq_none.mpr fun b hb => by
      have hb := (List.mem_filter.mp hb).2
      rwa [Bool.not_eq_true', ← Bool.not_eq_true] at hb
  simp only [getAcc, setAcc, List.find?_append, hrest, Option.none_or]
  simp

/-- Those of another node stand. -/
theorem getAcc_setAcc_ne (a : NodeAcc) (n issuer : Nat) (iseq : BitVec 16) (h : n ≠ a.node) :
    getAcc (setAcc s a) n issuer iseq = getAcc s n issuer iseq := by
  have hother : ([a].find? fun b => b.node == n && b.issuer == issuer && b.iseq == iseq) = none := by simp [Ne.symm h]
  have hrest : (s.spine.nodes.filter fun b => !(b.node == a.node && b.issuer == a.issuer && b.iseq == a.iseq)).find?
      (fun b => b.node == n && b.issuer == issuer && b.iseq == iseq) =
        s.spine.nodes.find? fun b => b.node == n && b.issuer == issuer && b.iseq == iseq := by
    rw [List.find?_filter]
    congr 1
    funext b
    by_cases hb : b.node = n
    · have ha : (b.node == a.node) = false := by simp [hb, h]
      simp only [ha, Bool.false_and, Bool.not_false, true_and, Bool.decide_eq_true]
    · simp [hb]
  simp only [getAcc, setAcc, List.find?_append, hrest, hother, Option.or_none]

/-- Packets on links change no node's answers. -/
theorem getAcc_linkTraffic {s t : State} (h : LinkTraffic s t) (n issuer : Nat) (iseq : BitVec 16) :
    getAcc t n issuer iseq = getAcc s n issuer iseq := by
  rw [getAcc, h.eq, getAcc]

/-- An operation's outcome does not depend on the spine. -/
theorem outcome_spine (x : Spine) (op : Op) (reps : List Reply) : outcome { s with spine := x } op reps = outcome s op reps := rfl

theorem waited_spine (x : Spine) (id : Nat) : waited { s with spine := x } id = waited s id := rfl

section
variable (n : Nat) (issuer : Fin 9) (iseq : BitVec 16)

theorem exec_reductionSend_unknown (h : opOf s issuer iseq = none) : exec (.reductionSend n issuer iseq) s = .next s := by
  show execReductionSend n issuer iseq s = _
  simp only [execReductionSend, h, ok]

variable (op : Op) (hop : opOf s issuer iseq = some op)
include hop

/-- A node that has sent, or still waits for an answer in time, sends nothing. -/
theorem exec_reductionSend_idle (h : op.one = true ∨ (getAcc s n issuer iseq).sent = true ∨ contributors op n = [] ∨
    ((∃ c ∈ contributors op n, c ∉ (getAcc s n issuer iseq).got) ∧ opLate s op n = false)) :
    exec (.reductionSend n issuer iseq) s = .next s := by
  show execReductionSend n issuer iseq s = _
  simp only [execReductionSend, hop]
  refine if_pos ?_
  rcases h with h | h | h | ⟨⟨c, hc, hno⟩, hlate⟩
  · simp [h]
  · simp [h]
  · simp [h]
  · have hall : (contributors op n).all (getAcc s n issuer iseq).got.contains = false :=
      List.all_eq_false.mpr ⟨c, hc, by simpa using hno⟩
    simp [hall, hlate]

/-- The node's own answers as sent. -/
def sentAcc : NodeAcc := { getAcc s n issuer iseq with sent := true }

/-- A node whose contributors have all answered, or whose operation is late, sends what it has. -/
theorem exec_reductionSend_sends (hone : op.one = false) (hsent : (getAcc s n issuer iseq).sent = false)
    (hwant : contributors op n ≠ []) (hall : (∀ c ∈ contributors op n, c ∈ (getAcc s n issuer iseq).got) ∨ opLate s op n = true)
    (reps : List Reply) (hreps : reps = (getAcc s n issuer iseq).reps ++ partialReps s op n) :
    ∃ s1 : State, LinkTraffic (setAcc s (sentAcc s n issuer iseq)) s1 ∧ exec (.reductionSend n issuer iseq) s =
      match opParent op n with
      | none => .next (postArrival s1 (outcome s1 op reps))
      | some m => .next (contribute s1 op m n reps) := by
  subst hreps
  have hgo : ¬ (op.one || (getAcc s n issuer iseq).sent || (contributors op n).isEmpty ||
      !((contributors op n).all (getAcc s n issuer iseq).got.contains || opLate s op n)) = true := by
    have hdone : ((contributors op n).all (getAcc s n issuer iseq).got.contains || opLate s op n) = true := by
      rcases hall with h | h
      · rw [List.all_eq_true.mpr fun c hc => List.contains_iff_mem.mpr (h c hc), Bool.true_or]
      · rw [h, Bool.or_true]
    simp [hone, hsent, hwant, hdone]
  refine ⟨sendUp (setAcc s (sentAcc s n issuer iseq)) op n (reducePackets s op n ((getAcc s n issuer iseq).reps ++ partialReps s op n)),
    linkTraffic_linksSend _ _ _, ?_⟩
  show execReductionSend n issuer iseq s = _
  simp only [execReductionSend, hop]
  rw [if_neg hgo]
  rfl

end

/-- The issuer gets the outcome of what its tree has collected. -/
theorem reductionSend_root (n : Nat) (issuer : Fin 9) (iseq : BitVec 16) (op : Op) (hop : opOf s issuer iseq = some op)
    (hone : op.one = false) (hsent : (getAcc s n issuer iseq).sent = false)
    (hwant : contributors op n ≠ []) (hall : (∀ c ∈ contributors op n, c ∈ (getAcc s n issuer iseq).got) ∨ opLate s op n = true)
    (reps : List Reply) (hreps : reps = (getAcc s n issuer iseq).reps ++ partialReps s op n)
    (hroot : opParent op n = none) (hwait : waited s op.id = true) :
    ∃ t : State, exec (.reductionSend n issuer iseq) s = .next t ∧ t.arrivals = s.arrivals ++ [outcome s op reps] := by
  obtain ⟨s1, hlinks, hexec⟩ := exec_reductionSend_sends s n issuer iseq op hop hone hsent hwant hall reps hreps
  rw [hroot] at hexec
  have hs1 : s1 = { s with spine := s1.spine } := by
    rw [hlinks.eq]
    rfl
  have hout : outcome s1 op reps = outcome s op reps := by rw [hs1, outcome_spine]
  have hwait1 : waited s1 (outcome s op reps).opId = true := by
    rw [hs1, waited_spine]
    exact hwait
  refine ⟨_, hexec, ?_⟩
  rw [hout, postArrival_waited _ _ hwait1, hs1]

/-- The parent gets what a node's part of the tree has collected. -/
theorem reductionSend_parent (n : Nat) (issuer : Fin 9) (iseq : BitVec 16) (op : Op) (hop : opOf s issuer iseq = some op)
    (hissuer : op.issuer = issuer.val) (hiseq : op.iseq = iseq) (hone : op.one = false) (hsent : (getAcc s n issuer iseq).sent = false)
    (hwant : contributors op n ≠ []) (hall : (∀ c ∈ contributors op n, c ∈ (getAcc s n issuer iseq).got) ∨ opLate s op n = true)
    (reps : List Reply) (hreps : reps = (getAcc s n issuer iseq).reps ++ partialReps s op n)
    (m : Nat) (hm : opParent op n = some m) (hne : m ≠ n) (hopen : (getAcc s m issuer iseq).sent = false)
    (hnew : n ∉ (getAcc s m issuer iseq).got) :
    ∃ t : State, exec (.reductionSend n issuer iseq) s = .next t ∧ (getAcc t n issuer iseq).sent = true ∧
      (getAcc t m issuer iseq).got = (getAcc s m issuer iseq).got ++ [n] ∧
      (getAcc t m issuer iseq).reps = (getAcc s m issuer iseq).reps ++ reps := by
  obtain ⟨s1, hlinks, hexec⟩ := exec_reductionSend_sends s n issuer iseq op hop hone hsent hwant hall reps hreps
  rw [hm] at hexec
  obtain ⟨hkn, hki, hkq⟩ := getAcc_key s n issuer iseq
  obtain ⟨hmn, hmi, hmq⟩ := getAcc_key s m issuer iseq
  have hown : getAcc s1 n issuer iseq = sentAcc s n issuer iseq := by
    have := getAcc_setAcc_self s (sentAcc s n issuer iseq)
    rw [show (sentAcc s n issuer iseq).node = n from hkn, show (sentAcc s n issuer iseq).issuer = issuer.val from hki,
      show (sentAcc s n issuer iseq).iseq = iseq from hkq] at this
    rw [getAcc_linkTraffic hlinks, this]
  have hpar : getAcc s1 m issuer iseq = getAcc s m issuer iseq := by
    rw [getAcc_linkTraffic hlinks, getAcc_setAcc_ne _ _ _ _ _ (by rw [show (sentAcc s n issuer iseq).node = n from hkn]; exact hne)]
  obtain ⟨b, hb⟩ : ∃ b : NodeAcc, b = { getAcc s m issuer iseq with
    got := (getAcc s m issuer iseq).got ++ [n], reps := (getAcc s m issuer iseq).reps ++ reps } := ⟨_, rfl⟩
  have hset : contribute s1 op m n reps = setAcc s1 b := by
    rw [contribute, hissuer, hiseq, hpar]
    simp only [hopen, Bool.false_eq_true, if_false, List.contains_iff_mem, hnew, hb]
  have hbn : b.node = m := by rw [hb]; exact hmn
  have hbi : b.issuer = issuer.val := by rw [hb]; exact hmi
  have hbq : b.iseq = iseq := by rw [hb]; exact hmq
  have hgot : getAcc (setAcc s1 b) m issuer iseq = b := by
    have := getAcc_setAcc_self s1 b
    rwa [hbn, hbi, hbq] at this
  refine ⟨_, hexec, ?_, ?_, ?_⟩
  · rw [hset, getAcc_setAcc_ne _ _ _ _ _ (by rw [hbn]; exact hne.symm), hown]
    rfl
  · rw [hset, hgot, hb]
  · rw [hset, hgot, hb]

end

end Sys2Proof.Machine
end


section
/-! SUPPORT. Careful mode as it is asked for and switches (R60), and the counts of crossings: items lost by a resynchronisation, and
overruns (R54, R57). -/

namespace Sys2Proof.Machine

section
variable (s : State)

/-! ### SPN_MODE (R60) -/

/-- SPN_MODE as an asked mode and the one in force make it. -/
theorem bits_mode : ∀ want active : Bool, bit (word (b2n want + 2 * b2n active)) 0 = want ∧
    bit (word (b2n want + 2 * b2n active)) 1 = active := by decide

theorem bits_mode_switched : ∀ want : Bool, bit (word (3 * b2n want)) 0 = want ∧ bit (word (3 * b2n want)) 1 = want := by decide

/-- Careful mode asked for, before it switches. -/
def modeAsked (want : Bool) : State := setReg s rSpnMode (word (b2n want + 2 * b2n (careful s)))

theorem reg_modeAsked (want : Bool) (h : tabWf 0 s.regs = true) :
    reg (modeAsked s want) rSpnMode = word (b2n want + 2 * b2n (careful s)) :=
  (reg_setReg s _ _ _ h).trans (if_pos rfl)

/-- A write of SPN_MODE shows what it asks for; the mode follows once every link has drained. -/
theorem setCareful_shows (want : Bool) (h : tabWf 0 s.regs = true) : bit (reg (setCareful s want) rSpnMode) 0 = want ∧
    (drained s = true ∨ want = careful s → careful (setCareful s want) = want) ∧
    (drained s = false → want ≠ careful s → careful (setCareful s want) = careful s ∧ (setCareful s want).spine = s.spine) := by
  obtain ⟨hask, hactive⟩ := bits_mode want (careful s)
  rw [← reg_modeAsked s want h] at hask hactive
  have hasked : careful (modeAsked s want) = careful s := hactive
  have hsw : switching (modeAsked s want) = (want != careful s) := by rw [switching, hask, hactive]
  show bit (reg (carefulSwitch (modeAsked s want)) rSpnMode) 0 = want ∧
    (_ → careful (carefulSwitch (modeAsked s want)) = want) ∧
    (_ → _ → careful (carefulSwitch (modeAsked s want)) = careful s ∧ (carefulSwitch (modeAsked s want)).spine = s.spine)
  by_cases hw : want = careful s
  · rw [carefulSwitch_settled _ (by rw [hsw]; simp [hw])]
    exact ⟨hask, fun _ => hasked.trans hw.symm, fun _ hne => absurd hw hne⟩
  · by_cases hd : drained s = true
    · have hmode := (carefulSwitch_switches (modeAsked s want) (by rw [hsw]; simpa using hw) hd).mode
      rw [hask, reg_setReg _ _ _ _ (tabWf_tput _ _ _ _ h), if_pos rfl] at hmode
      have hcareful : careful (carefulSwitch (modeAsked s want)) = want := by
        rw [careful, hmode]
        exact (bits_mode_switched want).2
      rw [hmode]
      exact ⟨(bits_mode_switched want).1, fun _ => hcareful, fun hno => absurd hd (by simp [hno])⟩
    · have hundrained : drained (modeAsked s want) = false := by
        rw [← Bool.not_eq_true]
        exact hd
      rw [carefulSwitch_undrained _ hundrained]
      exact ⟨hask, fun hor => absurd hor (not_or.mpr ⟨hd, hw⟩), fun _ _ => ⟨hasked, rfl⟩⟩

/-! ### Gray-coded pointers (R57) -/

/-- A Gray-coded pointer reads back as its number. -/
theorem ungray_gray (w n : Nat) : ungray (gray w n) = n % 2 ^ w := by
  have hfold (k : Nat) : (List.range k).foldl (fun a i => a ^^^ (gray w n >>> i)) 0 = BitVec.ofNat w n ^^^ (BitVec.ofNat w n >>> k) := by
    induction k with
    | zero => simp
    | succ k ih =>
      rw [List.range_succ, List.foldl_append, ih]
      simp only [List.foldl_cons, List.foldl_nil, gray, BitVec.ushiftRight_xor_distrib, ← BitVec.shiftRight_add, Nat.add_comm 1 k]
      rw [BitVec.xor_assoc, ← BitVec.xor_assoc (BitVec.ofNat w n >>> k), BitVec.xor_self, BitVec.zero_xor]
  rw [ungray, hfold, BitVec.ushiftRight_eq_zero (le_refl w), BitVec.xor_zero, BitVec.toNat_ofNat]

/-- A fresh queue holds what has been written. -/
theorem xqItems_fresh (items : Nat) (h : items < 65536) : xqItems (xqWrote XQueue.fresh items) = items := by
  have h0 : ungray (0 : BitVec 16) = 0 := by decide
  have hwr : ungray (xqWrote XQueue.fresh items).wr = items := by
    show ungray (gray 16 (ungray (0 : BitVec 16) + items)) = items
    rw [ungray_gray, h0]
    omega
  have hrd : ungray (xqWrote XQueue.fresh items).rd = 0 := h0
  rw [xqItems, hwr, hrd]
  omega

/-! ### Counts of a crossing (R54, R57) -/

/-- A sticky bit below a field leaves the field. -/
theorem bits_or_low (v m : Word) (hi lo : Nat) (h : m.toNat < 2 ^ lo) : bits (v ||| m) hi lo = bits v hi lo := by
  rw [bits, bits, BitVec.toNat_or, ← Nat.shiftRight_eq_div_pow, Nat.shiftRight_or_distrib, Nat.shiftRight_eq_div_pow m.toNat,
    Nat.div_eq_of_lt h, Nat.or_zero, Nat.shiftRight_eq_div_pow]

/-- A crossing's count raised and its sticky bit set. -/
def xingCounted (index hi lo n : Nat) (m : Word) : State :=
  regPut (countObj s index rSpnXingStat hi lo n) (keyObj index rSpnXingStat) rSpnXingStat
    (regGet (countObj s index rSpnXingStat hi lo n) (keyObj index rSpnXingStat) rSpnXingStat ||| m)

theorem regGet_xingCounted (index hi lo n : Nat) (m : Word) (h : tabWf 0 s.regs = true) :
    regGet (xingCounted s index hi lo n m) (keyObj index rSpnXingStat) rSpnXingStat =
      (regGet (countObj s index rSpnXingStat hi lo n) (keyObj index rSpnXingStat) rSpnXingStat ||| m) := by
  rw [xingCounted, regGet_regPut _ _ _ _ _ (tabWf_tput _ _ _ _ h), if_pos rfl]

/-- The count of a crossing saturates, and the sticky bit stands. -/
theorem bits_xingCounted (index hi lo n : Nat) (m : Word) (h : tabWf 0 s.regs = true) (hl : lo ≤ hi) (hh : hi < 64)
    (hm : m.toNat < 2 ^ lo) :
    bits (regGet (xingCounted s index hi lo n m) (keyObj index rSpnXingStat) rSpnXingStat) hi lo =
      min (bits (regGet s (keyObj index rSpnXingStat) rSpnXingStat) hi lo + n) (2 ^ (hi + 1 - lo) - 1) := by
  rw [regGet_xingCounted s _ _ _ _ _ h, bits_or_low _ _ _ _ hm, bits_countObj s _ _ _ _ _ h hl hh]

theorem bit_xingCounted (index hi lo n i : Nat) (m : Word) (h : tabWf 0 s.regs = true) (hm : bit m i = true) :
    bit (regGet (xingCounted s index hi lo n m) (keyObj index rSpnXingStat) rSpnXingStat) i = true := by
  rw [regGet_xingCounted s _ _ _ _ _ h]
  unfold bit at hm ⊢
  rw [BitVec.getLsbD_or, hm, Bool.or_true]

section
variable (index items : Nat)

/-- A number that is no crossing's. -/
theorem exec_crossing_none (h : crossingIn index = false) :
    exec (.queueResync index items) s = .next s ∧ exec (.crossingOverrun index) s = .next s := by
  constructor
  · show ok (resyncQueue index items s) = _
    rw [resyncQueue, if_pos (by simp [h]), ok]
  · exact if_pos (by simp [h])

/-- A resynchronisation counts the items written and not read. -/
theorem resyncQueue_counts (hin : crossingIn index = true)
    (hn : 0 < xqItems (xqWrote (getXq s index) items)) :
    (resyncQueue index items s).regs =
      (xingCounted s index 47 32 (xqItems (xqWrote (getXq s index) items)) 2).regs := by
  unfold resyncQueue
  rw [if_neg (by simp [hin])]
  dsimp only
  rw [if_neg (show ¬ (xqResync (xqWrote (getXq s index) items)).1 = 0 from hn.ne')]
  split
  · exact forAll_keeps (fun t => t.regs = _) _ _ _ rfl fun t i _ ht => ht
  · rfl

theorem queueResync_counts (h : tabWf 0 s.regs = true) (hin : crossingIn index = true)
    (hn : 0 < xqItems (xqWrote (getXq s index) items)) : ∃ t : State, exec (.queueResync index items) s = .next t ∧
      bits (regGet t (keyObj index rSpnXingStat) rSpnXingStat) 47 32 =
        min (bits (regGet s (keyObj index rSpnXingStat) rSpnXingStat) 47 32 + xqItems (xqWrote (getXq s index) items)) 0xFFFF ∧
      bit (regGet t (keyObj index rSpnXingStat) rSpnXingStat) 1 = true := by
  have hregs (k : Nat) : regGet (resyncQueue index items s) k rSpnXingStat =
      regGet (xingCounted s index 47 32 (xqItems (xqWrote (getXq s index) items)) 2) k rSpnXingStat := by
    rw [regGet, resyncQueue_counts s index items hin hn, regGet]
  refine ⟨_, rfl, ?_, ?_⟩
  · rw [hregs]
    exact bits_xingCounted s index 47 32 _ 2 h (by decide) (by decide) (by decide)
  · rw [hregs]
    exact bit_xingCounted s index 47 32 _ 1 2 h (by decide)

/-- An event before the echo of the last is an overrun. -/
theorem crossingOverrun_busy (h : tabWf 0 s.regs = true) (hin : crossingIn index = true)
    (hbusy : pulseBusy (getPulse s index) = true) : ∃ t : State, exec (.crossingOverrun index) s = .next t ∧
      bits (regGet t (keyObj index rSpnXingStat) rSpnXingStat) 63 48 =
        min (bits (regGet s (keyObj index rSpnXingStat) rSpnXingStat) 63 48 + 1) 0xFFFF ∧
      bit (regGet t (keyObj index rSpnXingStat) rSpnXingStat) 0 = true ∧ t.pulses = s.pulses := by
  have hexec : exec (.crossingOverrun index) s = .next (xingCounted s index 63 48 1 1) := by
    show execCrossingOverrun index s = _
    rw [execCrossingOverrun, if_neg (by simp [hin]), pulseEvent, if_pos hbusy]
    rfl
  exact ⟨_, hexec, bits_xingCounted s index 63 48 1 1 h (by decide) (by decide) (by decide),
    bit_xingCounted s index 63 48 1 0 1 h (by decide), rfl⟩

/-- Otherwise it crosses. -/
theorem exec_crossingOverrun_idle (hin : crossingIn index = true) (hbusy : pulseBusy (getPulse s index) = false) :
    exec (.crossingOverrun index) s = .next (setPulse s index
      { getPulse s index with toggle := !(getPulse s index).toggle, at_ := crossingNow s index }) := by
  show execCrossingOverrun index s = _
  rw [execCrossingOverrun, if_neg (by simp [hin]), pulseEvent, if_neg (by simp [hbusy]), ok]

end

end

end Sys2Proof.Machine
end


section
/-! SUPPORT. Failures of Flyers, Card engines, Bobbins and the recovery engine, and spare substitutions: what serves on, and what
health tells (R88, R407, R425, R426, R428). -/

namespace Sys2Proof.Machine

/-- What a Flyer's neighbours and the map see of it: failed, without a neighbour to take over, and when it was declared so. -/
def serving (x : Flyer) : Bool × Bool × Option Nat := (x.failed, x.alone, x.declared)

/-- From s to t the work of Flyers has moved on: pending lines, the mill's geometry and what serves stand. -/
structure FlyerWork (s t : State) : Prop where
  evPend : t.evPend = s.evPend
  integ : t.integ = s.integ
  flyers : FlyersKeep serving s t

theorem FlyerWork.refl (s : State) : FlyerWork s s := ⟨rfl, rfl, .refl s⟩

theorem FlyerWork.trans {s t u : State} (h : FlyerWork s t) (k : FlyerWork t u) : FlyerWork s u :=
  ⟨k.evPend.trans h.evPend, k.integ.trans h.integ, h.flyers.trans k.flyers⟩

theorem FlyerWork.of_eq {s t : State} (he : t.evPend = s.evPend) (hi : t.integ = s.integ) (hf : t.flyers = s.flyers) : FlyerWork s t :=
  ⟨he, hi, .of_eq hf⟩

/-- What goes on after a change of anything else. -/
theorem FlyerWork.after {s u t : State} (k : FlyerWork u t) (he : u.evPend = s.evPend) (hi : u.integ = s.integ)
    (hf : u.flyers = s.flyers) : FlyerWork s t := (FlyerWork.of_eq he hi hf).trans k

/-- A fold of steps that each keep it. -/
theorem FlyerWork.forAll {α : Type} (l : List α) (f : State → α → State) (s : State) (h : ∀ t, ∀ a ∈ l, FlyerWork t (f t a)) :
    FlyerWork s (Machine.forAll l f s) :=
  forAll_keeps (FlyerWork s) l f s (.refl s) fun t a ha ht => ht.trans (h t a ha)

theorem CardWork.flyerWork {s t : State} (h : CardWork s t) : FlyerWork s t :=
  ⟨by rw [h.eq], by rw [h.eq], h.flyers.coarser serving serving fun _ => rfl⟩

section
variable (s : State)

theorem flyerWork_setF (f : Nat) (x : Flyer) (h : serving x = serving (getF s f)) : FlyerWork s (setF s f x) :=
  ⟨rfl, rfl, .setF s f x h⟩

/-- The share of a Flyer that has gone ends without it. -/
theorem flyerWork_flyerGone (f : Nat) : FlyerWork s (flyerGone s f) := by
  unfold flyerGone
  refine (flyerWork_setF s f { getF s f with pend := [], heldOps := [], window := [] } rfl).trans (.forAll _ _ _ fun t o _ => ?_)
  refine .of_eq ?_ ?_ ?_ <;> rw [flyerReply_eq]

theorem flyerWork_rebuildWindow (f c : Nat) : FlyerWork s (rebuildWindow s f c) := flyerWork_setF s f _ rfl

/-- A resynchronisation of a queue. -/
theorem flyerWork_resyncQueue (index items : Nat) : FlyerWork s (resyncQueue index items s) := by
  have hcount (t : State) : FlyerWork t (if (xqResync (xqWrote (getXq s index) items)).1 = 0 then t
      else xingCounted t index 47 32 (xqResync (xqWrote (getXq s index) items)).1 2) := by
    split <;> exact .of_eq rfl rfl rfl
  have hset : FlyerWork s (setXq s index (xqResync (xqWrote (getXq s index) items)).2) := .of_eq rfl rfl rfl
  unfold resyncQueue
  split
  next => exact .refl s
  next =>
    dsimp only
    split
    next => exact (hset.trans (hcount _)).trans (.forAll _ _ _ fun t i _ => .of_eq rfl rfl rfl)
    next => exact hset.trans (hcount _)

/-! ### Flyers (R88) -/

/-- A Flyer that is taken over has left its work: what its agents had under way ends, and its levels fall. -/
def flyerLeft (f : Nat) : State :=
  flyerGone (selectTap (if (getF s f).card.win.isSome then closeWindow s f 5 else s) f none) f

theorem flyerWork_flyerLeft (f : Nat) : FlyerWork s (flyerLeft s f) := by
  unfold flyerLeft
  refine (CardWork.flyerWork ?_).trans (flyerWork_flyerGone _ f)
  split
  · exact (cardWork_closeWindow s f 5).trans (cardWork_selectTap _ f none)
  · exact cardWork_selectTap s f none

/-- The neighbour that serves a cluster settles what it has taken over. -/
theorem flyerWork_elim (o : Option Nat) (f : Nat → State) (h : ∀ n, FlyerWork s (f n)) : FlyerWork s (o.elim s f) := by
  cases o with
  | none => exact .refl s
  | some n => exact h n

/-- The cluster-shared registers of some clusters restored without their counts. -/
def countsCleared (cs : List Nat) : State :=
  forAll cs (fun s c => forAll (List.range 8) (fun s n =>
    setFlyReg s c (aFlyXtCtrl + n) (flyReg s c (aFlyXtCtrl + n) &&& 0x1F)) s) s

theorem flyerWork_countsCleared (cs : List Nat) : FlyerWork s (countsCleared s cs) :=
  .forAll _ _ _ fun _ _ _ => .forAll _ _ _ fun _ _ _ => .of_eq rfl rfl rfl

/-- The queues of some clusters resynchronised, the Flyer f's own with what it loses, and their windows rebuilt by what serves them. -/
def queuesRestored (cs : List Nat) (f lost : Nat) : State :=
  forAll cs (fun s c =>
    let a := forAll [0, 1, 2] (fun s k => resyncQueue (4096 + 8 * c + k) (if k = 2 then b2n (c == f) * lost else 0) s) s
    (servedBy a c).elim a fun f => rebuildWindow a f c) s

theorem flyerWork_queuesRestored (cs : List Nat) (f lost : Nat) : FlyerWork s (queuesRestored s cs f lost) :=
  .forAll _ _ _ fun _ c _ => (FlyerWork.forAll _ _ _ fun t _ _ => flyerWork_resyncQueue t _ _).trans
    (flyerWork_elim _ _ _ fun n => flyerWork_rebuildWindow _ n c)

/-- The takeover of some clusters told to the journal. -/
def takeoverTold (cs : List Nat) : State := forAll cs (fun s c => journal s 0x8011 c [word s.ht, word s.ht]) s

theorem flyerWork_takeoverTold (cs : List Nat) : FlyerWork s (takeoverTold s cs) :=
  .forAll _ _ _ fun _ _ _ => .of_eq (journal_evPend ..) (journal_integ ..) (journal_flyers ..)

/-- A Flyer shown failed at a time, alone without a recovery engine. -/
def shownFailed (x : Flyer) (rec : Bool) (ht : Nat) : Flyer :=
  { x with failed := true, alone := rec, declared := some ht, q := [], gaps := [], evts := [], relay := [],
           wdg := [], sums := [], snap := [] }

/-- The clusters of a Flyer restored by their neighbour, once it is shown failed. -/
def takenOver (f : Nat) (u : State) : State :=
  let s5 := countsCleared u (clustersOf s f)
  let s6 := queuesRestored s5 ((clustersOf s f).filter fun c => servedBy s5 c != none) f (unitsOf ((getF s f).q.map QRec.r))
  (servedBy s6 f).elim s6 (settleCard s6)

theorem flyerWork_takenOver (f : Nat) (u : State) : FlyerWork u (takenOver s f u) :=
  ((flyerWork_countsCleared u _).trans (flyerWork_queuesRestored _ _ _ _)).trans
    (flyerWork_elim _ _ _ fun n => (cardWork_settleCard _ n).flyerWork)

/-- FLYER_TAKEOVER step by step: the Flyer leaves its work and is shown failed, its neighbour restores its clusters, and health and the
journal tell of it. -/
theorem exec_flyerTakeover (f : Nat) (hin : clusterIn s f = true) (hlive : (getF s f).failed = false) :
    ∃ cs : List Nat, exec (.flyerTakeover f) s = .next (takeoverTold (healthChange (takenOver s f
      (setF (flyerLeft s f) f (shownFailed (getF (flyerLeft s f) f) s.boot.recStop s.ht))) 5 f true) cs) :=
  ⟨_, if_neg (by simp [hin, hlive])⟩

/-- FLYER_TAKEOVER: the Flyer is shown failed, and with the recovery engine at work its east neighbour serves its cluster. -/
theorem flyerTakeover_fails (hc : canonical s = true) (f : Nat) (hin : clusterIn s f = true) (hlive : (getF s f).failed = false) :
    ∃ t : State, exec (.flyerTakeover f) s = .next t ∧ (getF t f).failed = true ∧ (getF t f).declared = some s.ht ∧ LineRaised t 5 ∧
      (s.boot.recStop = false → f % 16 < 15 → clusterIn s (f + 1) = true → (getF s (f + 1)).failed = false →
        servedBy t f = some (f + 1)) := by
  obtain ⟨cs, hexec⟩ := exec_flyerTakeover s f hin hlive
  have hu := flyerWork_takenOver s f (setF (flyerLeft s f) f (shownFailed (getF (flyerLeft s f) f) s.boot.recStop s.ht))
  generalize takenOver s f (setF (flyerLeft s f) f (shownFailed (getF (flyerLeft s f) f) s.boot.recStop s.ht)) = u at hexec hu
  have ht := flyerWork_takeoverTold (healthChange u 5 f true) cs
  generalize takeoverTold (healthChange u 5 f true) cs = t at hexec ht
  have hleft := flyerWork_flyerLeft s f
  obtain ⟨hwf, hothers⟩ := hleft.flyers (canonical_flyers s hc)
  have hhealth : FlyerWork u { healthChange u 5 f true with evPend := u.evPend } :=
    .of_eq rfl (healthChange_integ ..) (healthChange_flyers ..)
  have hkeep := (hu.flyers.trans hhealth.flyers).trans ht.flyers
  have hserving := (hkeep (setF_wf _ _ _ hwf)).2
  have hself : serving (getF t f) = (true, s.boot.recStop, some s.ht) := by
    rw [hserving f, getF_setF_self _ _ _ hwf]
    rfl
  have hpend : u.evPend = s.evPend := hu.evPend.trans hleft.evPend
  simp only [serving, Prod.mk.injEq] at hself
  obtain ⟨hfailed, halone, hdecl⟩ := hself
  refine ⟨t, hexec, hfailed, hdecl, ?_, fun hrec hcol hin1 hlive1 => ?_⟩
  · refine lineRaised_of_evPend (healthChange_raises u 5 f true ?_) ht.evPend
    rw [hpend]
    exact canonical_evPend s hc
  · have heast : (getF t (f + 1)).failed = false := by
      have := hserving (f + 1)
      rw [getF_setF_ne _ _ _ _ (by omega), hothers (f + 1)] at this
      exact (congrArg Prod.fst this).trans hlive1
    have hinteg : t.integ = s.integ :=
      ht.integ.trans ((healthChange_integ u 5 f true).trans (hu.integ.trans hleft.integ))
    have hin1' : clusterIn t (f + 1) = true := by
      rw [clusterIn, hinteg]
      exact hin1
    simp [servedBy, hfailed, halone, hrec, hcol, hin1', heast]

/-- Nothing is taken over from a Flyer that is absent or has failed, and it is not probed. -/
theorem exec_flyer_none (f : Nat) (h : clusterIn s f = false ∨ (getF s f).failed = true) :
    exec (.flyerTakeover f) s = .next s ∧ ∀ b : Bool, exec (.flyerProbe f b) s = .next s :=
  ⟨if_pos (by rcases h with h | h <;> simp [h]), fun b => if_pos (by rcases h with h | h <;> simp [h])⟩

/-- A probe of a Flyer that some entry point reaches, in normal service. -/
theorem exec_flyerProbe_reached (f e : Nat) (hin : clusterIn s f = true) (hlive : (getF s f).failed = false)
    (hcar : careful s = false) (he : e < 4) (hhops : (hopsTo s e f).isSome = true) :
    exec (.flyerProbe f true) s = .next (setF s f { getF s f with probes := 0 }) ∧
    ((getF s f).probes < 2 → exec (.flyerProbe f false) s = .next (setF s f { getF s f with probes := (getF s f).probes + 1 })) ∧
    (2 ≤ (getF s f).probes → exec (.flyerProbe f false) s =
      exec (.flyerTakeover f) (setF s f { getF s f with probes := 3 })) := by
  have hreach : ((List.range 4).any fun e => (hopsTo s e f).isSome) = true := List.any_eq_true.mpr ⟨e, List.mem_range.mpr he, hhops⟩
  have hgo : ¬ (!clusterIn s f || (getF s f).failed || careful s || !((List.range 4).any fun e => (hopsTo s e f).isSome)) = true := by
    simp [hin, hlive, hcar, hreach]
  have hprobe (b : Bool) : exec (.flyerProbe f b) s = if b then ok (setF s f { getF s f with probes := 0 })
      else if 2 ≤ (getF s f).probes then execFlyerTakeover f (setF s f { getF s f with probes := 3 })
      else ok (setF s f { getF s f with probes := (getF s f).probes + 1 }) := if_neg hgo
  refine ⟨hprobe true, fun h => ?_, fun h => ?_⟩
  · exact (hprobe false).trans ((if_neg Bool.false_ne_true).trans (if_neg (by omega)))
  · exact (hprobe false).trans ((if_neg Bool.false_ne_true).trans (if_pos h))

/-! ### Card engines (R425) -/

/-- The Flyer of an engine set on none. -/
theorem getF_selectTap_none (f : Nat) (h : tabWf Flyer.fresh s.flyers = true) :
    (getF (selectTap s f none) f).card.sel = none ∧ (getF (selectTap s f none) f).card.win = (getF s f).card.win := by
  unfold selectTap setCard
  dsimp only
  split
  · rw [getF_setF_self (driveTap _ _ _ _) _ _ h]
    exact ⟨rfl, rfl⟩
  · rw [getF_setF_self _ _ _ h]
    exact ⟨rfl, rfl⟩

theorem exec_cardEngineFail_none (f : Nat) (h : clusterIn s f = false ∨ (getF s f).card.failed = true) :
    exec (.cardEngineFail f) s = .next s := if_pos (by rcases h with h | h <;> simp [h])

/-- A Card engine that fails serves no entry, and its window closes. -/
theorem cardEngineFail_fails (hc : canonical s = true) (f : Nat) (hin : clusterIn s f = true) (hlive : (getF s f).card.failed = false) :
    ∃ t : State, exec (.cardEngineFail f) s = .next t ∧ (getF t f).card.failed = true ∧ (getF t f).card.win = none ∧
      (getF t f).card.sel = none ∧ LineRaised t 5 := by
  have hf := canonical_flyers s hc
  have hf1 : tabWf Flyer.fresh (setCard s f { (getF s f).card with win := none }).flyers = true := setF_wf _ _ _ hf
  have hsel := cardWork_selectTap (setCard s f { (getF s f).card with win := none }) f none
  obtain ⟨hnone, hwin⟩ := getF_selectTap_none (setCard s f { (getF s f).card with win := none }) f hf1
  have hopen : (getF (setCard s f { (getF s f).card with win := none }) f).card.win = none := by
    rw [setCard, getF_setF_self _ _ _ hf]
  have hexec : exec (.cardEngineFail f) s = .next (healthChange
      (setCard (selectTap (setCard s f { (getF s f).card with win := none }) f none) f
        { (getF (selectTap (setCard s f { (getF s f).card with win := none }) f none) f).card with failed := true, out := [] }) 6 f true) :=
    if_neg (by simp [hin, hlive])
  generalize hs2 : selectTap (setCard s f { (getF s f).card with win := none }) f none = s2 at hexec hsel hnone hwin
  have hcard : getF (healthChange (setCard s2 f { (getF s2 f).card with failed := true, out := [] }) 6 f true) f =
      { getF s2 f with card := { (getF s2 f).card with failed := true, out := [] } } := by
    rw [getF, healthChange_flyers]
    exact getF_setF_self _ _ _ (hsel.flyers hf1).1
  refine ⟨_, hexec, by rw [hcard], by rw [hcard]; exact hwin.trans hopen, by rw [hcard]; exact hnone, healthChange_raises _ _ _ _ ?_⟩
  show tabWf 0 s2.evPend = true
  rw [hsel.eq]
  exact canonical_evPend s hc

/-! ### Bobbins (R426) -/

theorem exec_bobbinFail_none (i : Nat) (h : wired s i = false ∨ (getS s i).failed = true) : exec (.bobbinFail i) s = .next s :=
  if_pos (by rcases h with h | h <;> simp [h])

/-- A site that has failed, and everything it had under way gone. -/
def failedSite (x : Site) : Site :=
  { x with failed := true, ri := [], lm := [], waitOps := [], term := none, fifo := [], dOut := [], gaps := [], sample := none }

/-- What is left to do at the Flyers once a Bobbin has failed: it keeps no share waiting. -/
def bobbinGone (i : Nat) : State :=
  let s1 := setS s i (failedSite (getS s i))
  let s2 : State := { s1 with flyers := tmap Flyer.fresh (fun y => { y with pend := y.pend.map fun p =>
    { p with waiting := p.waiting.filter fun j => j != i } }) s1.flyers }
  (flyerOf s2 i).elim s2 fun f => forAll (((getF s2 f).pend.map PendOp.opId).eraseDups) (fun s id => settlePend s f id) s2

theorem bobbinGone_keeps (i : Nat) : (bobbinGone s i).sites = (setS s i (failedSite (getS s i))).sites ∧
    (bobbinGone s i).evPend = s.evPend := by
  unfold bobbinGone
  dsimp only
  generalize hs2 : ({ setS s i (failedSite (getS s i)) with flyers := _ } : State) = s2
  have hsites : s2.sites = (setS s i (failedSite (getS s i))).sites := by rw [← hs2]
  have hpend : s2.evPend = s.evPend := by rw [← hs2]; rfl
  cases flyerOf s2 i with
  | none => exact ⟨hsites, hpend⟩
  | some f =>
    refine forAll_keeps (fun t => t.sites = _ ∧ t.evPend = _) _ _ _ ⟨hsites, hpend⟩ fun t id _ ht => ?_
    rw [settlePend_eq]
    exact ht

/-- A Bobbin that fails answers nothing more, and health tells of it. -/
theorem bobbinFail_fails (hc : canonical s = true) (i : Nat) (hw : wired s i = true) (hlive : (getS s i).failed = false) :
    ∃ t : State, exec (.bobbinFail i) s = .next t ∧ (getS t i).failed = true ∧ (getS t i).ri = [] ∧ (getS t i).lm = [] ∧
      LineRaised t 5 := by
  have hexec : exec (.bobbinFail i) s =
      .next (healthChange ((flyerOf (bobbinGone s i) i).elim (bobbinGone s i) (settleCard (bobbinGone s i))) 7 i true) :=
    if_neg (by simp [hw, hlive])
  obtain ⟨hsites, hpend⟩ := bobbinGone_keeps s i
  have hget : getS (bobbinGone s i) i = failedSite (getS s i) := by
    rw [getS, hsites]
    exact getS_setS_self s i _ (canonical_sites s hc)
  have hwf : tabWf Site.fresh (bobbinGone s i).sites = true := by
    rw [hsites]
    exact setS_wf _ _ _ (canonical_sites s hc)
  generalize bobbinGone s i = u at hexec hpend hget hwf
  have hcard : CardWork u ((flyerOf u i).elim u (settleCard u)) := by
    cases flyerOf u i with
    | none => exact .refl u
    | some f => exact cardWork_settleCard u f
  generalize (flyerOf u i).elim u (settleCard u) = v at hexec hcard
  have hview : tapBlind (getS (healthChange v 7 i true) i) = tapBlind (failedSite (getS s i)) := by
    rw [getS, healthChange_sites, ← getS, (hcard.sites hwf).2 i, hget]
  refine ⟨_, hexec, congrArg Site.failed hview, congrArg Site.ri hview, congrArg Site.lm hview, healthChange_raises _ _ _ _ ?_⟩
  rw [hcard.eq]
  exact hpend ▸ canonical_evPend s hc

/-! ### The recovery engine and spare sites (R407, R428) -/

/-- The recovery engine stops, with the repair it owed. -/
theorem recoveryEngineFail_stops (hc : canonical s = true) (h : s.boot.recStop = false) :
    ∃ t : State, exec .recoveryEngineFail s = .next t ∧ t.boot.recStop = true ∧ t.spine.rebuild = false ∧ LineRaised t 5 := by
  have hexec : exec .recoveryEngineFail s = .next (healthChange
      { s with boot := { s.boot with recStop := true }, spine := { s.spine with rebuild := false } } 17 0 true) :=
    if_neg (by simp [h])
  exact ⟨_, hexec, by rw [healthChange_boot], by rw [healthChange_spine], healthChange_raises _ _ _ _ (canonical_evPend s hc)⟩

section
variable (row : Fin 64) (v : BitVec 7) (n : Nat) (hn : n = if v.toNat < 64 then v.toNat else 0x7F)
include hn

/-- A sample that changes no row with a spare. -/
theorem exec_repairSample_none (h : n = tget 0x7F s.boot.repair row ∨ bit s.integ.spareRows row = false ∨ s.integ.rows ≤ row.val) :
    exec (.repairSample row v) s = .next s := by
  subst hn
  exact if_pos (by rcases h with h | h | h <;> simp [h])

/-- A sample that changes a row's substitution. -/
theorem repairSample_substitutes (hc : canonical s = true) (hrep : tabWf 0x7F s.boot.repair = true)
    (hne : n ≠ tget 0x7F s.boot.repair row) (hspare : bit s.integ.spareRows row = true) (hrow : row.val < s.integ.rows) :
    ∃ t : State, exec (.repairSample row v) s = .next t ∧ tget 0x7F t.boot.repair row = n ∧ LineRaised t 5 := by
  obtain ⟨u, hu⟩ : ∃ u : State, u = { s with boot := { s.boot with repair := tput 0x7F s.boot.repair row n } } := ⟨_, rfl⟩
  obtain ⟨k, c, w, hexec⟩ : ∃ (k c : Nat) (w : List Word), exec (.repairSample row v) s =
      .next (hevt (healthChange u 8 k (decide (64 ≤ n))) 0x001 c w) := by
    subst hn hu
    exact ⟨_, _, _, if_neg (by simp [hne, hspare, hrow])⟩
  refine ⟨_, hexec, ?_, lineRaised_of_evPend (healthChange_raises u 8 k _ ?_) (hevt_evPend ..)⟩
  · rw [hevt_boot, healthChange_boot, hu]
    exact (tget_tput _ _ _ _ _ hrep).trans (if_pos rfl)
  · rw [hu]
    exact canonical_evPend s hc

end

end

end Sys2Proof.Machine
end


section
/-! PROPERTY. Links keep packets until they are acknowledged and fail after their resends, and failures move work on as told. -/

namespace Sys2Proof.Machine

section
variable (s : State) (l : Nat)

/-- The answer to a whole packet, good or bad (R34, R36, R39). -/
theorem packetReceive_answers (hl : tabWf Link.fresh s.spine.links = true) (hregs : tabWf 0 s.regs = true)
    (hd pd : List (BitVec 32)) (hs ps : List (BitVec 4)) (all : List (BitVec 36)) (y : Link) (r : List (BitVec 36) × Wires)
    (hr : r = wireTake (wiresOf hd hs ++ wiresOf pd ps) (getLink s l).wires) (hall : all = (getLink s l).part ++ r.1)
    (hy : y = { getLink s l with wires := r.2, part := [] }) (hdr : Word) (side : Nat) (good : Bool) (pay : List (Word × Nat × Bool))
    (lseq : BitVec 6) (hlive : (getLink s l).failed = false) (hgroups : r.2.groups = 0) (hlen : all.length % 4 = 0)
    (hflits : flitsOf all.length all = (hdr, side, good) :: pay) (hlseq : lseq = BitVec.ofNat 6 side) : ∃ t : State,
      exec (.packetReceive l hd hs pd ps) s = .next t ∧ (∀ m : Nat, m ≠ l → getLink t m = getLink s m) ∧
      (packetOk hdr side pay good = true → t.regs = s.regs ∧ getLink t l =
        (if lseq = (getLink s l).rxSeq then { y with rxSeq := (getLink s l).rxSeq + 1, ctl := some (ctlFlit 1 (getLink s l).rxSeq) }
          else if (lseq - (getLink s l).rxSeq).toNat < 32 then { y with ctl := some (ctlFlit 2 (getLink s l).rxSeq) }
          else { y with ctl := some (ctlFlit 1 ((getLink s l).rxSeq - 1)) })) ∧
      (packetOk hdr side pay good = false → getLink t l = { y with ctl := some (ctlFlit 2 (getLink s l).rxSeq) } ∧
        regF t rSpnBadpkt 63 0 = min (regF s rSpnBadpkt 63 0 + 1) (2 ^ 64 - 1)) := by
  have hexec := exec_packetReceive_whole s l hd pd hs ps r hr hlive hgroups (hall ▸ hlen)
  rw [← hall, hflits, ← hy] at hexec
  have hself : getLink (setLink s l y) l = y := getLink_setLink_self s l y hl
  have hseq : y.rxSeq = (getLink s l).rxSeq := by rw [hy]
  have hwf : tabWf Link.fresh (setLink s l y).spine.links = true := tabWf_tput _ _ _ _ hl
  refine ⟨_, hexec, fun m hm => ?_, fun hok => ?_, fun hbad => ?_⟩
  · cases hok : packetOk hdr side pay good with
    | true => rw [packetIn_good _ _ _ _ _ _ hok, getLink_setLink_ne _ _ _ _ hm, getLink_setLink_ne _ _ _ _ hm]
    | false =>
      rw [packetIn_bad _ _ _ _ _ _ hok]
      exact (getLink_setLink_ne _ _ _ _ hm).trans (getLink_setLink_ne _ _ _ _ hm)
  · have hin := packetIn_good (setLink s l y) l hdr side good pay hok
    rw [hself, hseq, ← hlseq] at hin
    rw [hin]
    exact ⟨rfl, getLink_setLink_self _ _ _ hwf⟩
  · have hin := packetIn_bad (setLink s l y) l hdr side good pay hbad
    rw [hself, hseq] at hin
    rw [hin]
    exact ⟨getLink_setLink_self _ l _ hwf, regF_countF _ _ _ _ _ hregs (by decide) (by decide)⟩

section
variable (hl : tabWf Link.fresh s.spine.links = true) (he : tabWf 0 s.evPend = true) (lseq : BitVec 6)
  (before after : List Pkt) (p : Pkt) (hretry : (getLink s l).retry = before ++ p :: after) (hp : p.lseq = lseq)
  (hbefore : ∀ q ∈ before, q.lseq ≠ lseq)
include hl hretry hp hbefore

/-- A NAK before the last resend: the packet it names and those behind it go out again. -/
theorem linkNak_resends (hn : p.n < resendsMax s) : ∃ t : State, exec (.linkNak l (ctlFlit 2 lseq)) s = .next t ∧
    getLink t l = { getLink s l with retry := (p :: after).map (resent s.ht) } := by
  have hexec := exec_linkNak_known s l lseq before after p hretry hp hbefore
  have hself := getLink_setLink_self s l { getLink s l with retry := p :: after } hl
  rw [linkResend_cons _ _ p after (by rw [hself]), resendsMax_setLink, if_neg (not_le.mpr hn), hself] at hexec
  exact ⟨_, hexec, getLink_setLink_self _ _ _ (tabWf_tput _ _ _ _ hl)⟩

include he in
/-- A NAK at the last resend: the link direction fails. -/
theorem linkNak_fails (hn : resendsMax s ≤ p.n) (hlive : (getLink s l).failed = false) : ∃ t : State,
    exec (.linkNak l (ctlFlit 2 lseq)) s = .next t ∧ (getLink t l).failed = true ∧ (getLink t l).retry = [] ∧ LineRaised t 5 := by
  have hexec := exec_linkNak_known s l lseq before after p hretry hp hbefore
  have hself := getLink_setLink_self s l { getLink s l with retry := p :: after } hl
  rw [linkResend_cons _ _ p after (by rw [hself]), resendsMax_setLink, if_pos hn] at hexec
  have hdown := linkFails_linkDown (setLink s l { getLink s l with retry := p :: after }) (tabWf_tput _ _ _ _ hl) he l
    (by rw [hself]; exact hlive)
  exact ⟨_, hexec, hdown.failed, hdown.retry, hdown.line⟩

end

/-- A timeout at the last resend: the link direction fails. -/
theorem linkRetryTimeout_fails (hl : tabWf Link.fresh s.spine.links = true) (he : tabWf 0 s.evPend = true) (after : List Pkt) (p : Pkt)
    (hretry : (getLink s l).retry = p :: after) (hat : p.sent + 2000 ≤ s.ht) (hn : resendsMax s ≤ p.n)
    (hlive : (getLink s l).failed = false) : ∃ t : State, exec (.linkRetryTimeout l) s = .next t ∧ (getLink t l).failed = true ∧
      (getLink t l).retry = [] ∧ LineRaised t 5 := by
  have hexec := exec_linkRetryTimeout_cons s l p after hretry
  rw [if_pos hat, linkResend_cons s l p after hretry, if_pos hn] at hexec
  have hdown := linkFails_linkDown s hl he l hlive
  exact ⟨_, hexec, hdown.failed, hdown.retry, hdown.line⟩

/-- ENTRY_LINK_FAIL: the direction fails, and its issuers move on (R423). -/
theorem entryLinkFail_moves (hl : tabWf Link.fresh s.spine.links = true) (hep : tabWf 0 s.spine.epochs = true)
    (he : tabWf 0 s.evPend = true) (e : Fin 4) (out : Bool) (hnum : l = entryLink e (b2n out)) (hlive : (getLink s l).failed = false) :
    ∃ t : State, exec (.entryLinkFail e out) s = .next t ∧ (getLink t l).failed = true ∧
      LineRaised t 5 ∧ (switching s = false → entryUp s ((e.val + 1) % 4) = true → ∀ i : Nat, i < 9 →
        (issuerEntry s i = e.val → issuerEntry t i = (e.val + 1) % 4 ∧ tget 0 t.spine.epochs i = (tget 0 s.spine.epochs i + 1) % 16) ∧
        (issuerEntry s i ≠ e.val → issuerEntry t i = issuerEntry s i ∧ tget 0 t.spine.epochs i = tget 0 s.spine.epochs i)) := by
  subst hnum
  have hdown := entryFail_linkDown s hl he e (b2n out) hlive
  refine ⟨_, rfl, hdown.failed, hdown.line, fun hsw hup i hi => ?_⟩
  have hd : b2n out < 2 := by cases out <;> decide
  rw [entryFail_moves s e (b2n out) hd hlive hsw hup]
  have hspine : (entryReported s e (b2n out)).spine = (setLink s (entryLink e (b2n out)) (getLink s (entryLink e (b2n out))).dead).spine :=
    healthChange_spine _ _ _ _
  exact moveIssuers_moves s e _ _ _ (by rw [hspine]; rfl) (by rw [hspine]; rfl) hep i hi

end

/-- Settles O52: each link event has one equation, a failure leaves its direction out of service and line 5 raised whatever else
switches, and what serves on is what the relations on epochs, Flyers and sites keep. -/
theorem linksRetryAndFailuresReroute : Obligations.LinksRetryAndFailuresReroute := by
  intro s hc hl hep hrep
  have hregs := canonical_regs s hc
  have he := canonical_evPend s hc
  refine ⟨fun data side => transferWires_roundTrip data side, ?packets, ?flits, ?retries, ?entries, exec_routeRebuild_idle s, ?rebuild,
    ?epochs, ?reductions, ?modes, ?crossings, ?flyers, fun i => ⟨exec_bobbinFail_none s i, bobbinFail_fails s hc i⟩,
    fun h => if_pos h, recoveryEngineFail_stops s hc,
    fun row v n hn => ⟨exec_repairSample_none s row v n hn, repairSample_substitutes s row v n hn hc hrep⟩⟩
  case packets =>
    rintro l hd pd hs ps all x y r rfl hr hall hy
    exact ⟨exec_packetReceive_failed s l hd pd hs ps,
      fun hlive hpart => hall ▸ exec_packetReceive_part s l hd pd hs ps r hr hlive (hall ▸ hpart),
      fun hdr side good pay lseq hlive hgroups hlen hflits hlseq =>
        packetReceive_answers s l hl hregs hd pd hs ps all y r hr hall hy hdr side good pay lseq hlive hgroups hlen hflits hlseq⟩
  case flits => exact fun l flit => ⟨exec_linkAck_ignored s l flit, exec_linkNak_ignored s l flit⟩
  case retries =>
    rintro l lseq x before after p rfl
    refine ⟨⟨ctlSeq_ctlFlit_self 1 lseq (by omega), ctlSeq_ctlFlit_self 2 lseq (by omega),
      (ctlSeq_ctlFlit 2 1 lseq (by omega)).trans (if_neg (by omega))⟩, exec_linkCtl_unknown s l lseq, exec_linkRetryTimeout_empty s l,
      fun hretry hp hbefore => ⟨fun hsw => ?ack, fun hreq hrep hpri => linkFill_idle _ _ _ hreq hrep hpri, ?resends⟩⟩
    case ack =>
      rw [exec_linkAck_known s l lseq before after p hretry hp hbefore]
      exact congrArg _ (carefulSwitch_settled _ hsw)
    case resends =>
      rintro n rfl
      refine ⟨linkNak_resends s l hl lseq before after p hretry hp hbefore,
        linkNak_fails s l hl he lseq before after p hretry hp hbefore, fun hfirst => ?_⟩
      rw [hfirst, List.nil_append] at hretry
      refine ⟨fun hearly => ?_, fun hat hn => ?_, linkRetryTimeout_fails s l hl he after p hretry⟩
      · rw [exec_linkRetryTimeout_cons s l p after hretry, if_neg (by omega)]
      · have hmore : ¬ resendsMax s ≤ p.n := not_le.mpr hn
        rw [exec_linkRetryTimeout_cons s l p after hretry, if_pos hat, linkResend_cons s l p after hretry, if_neg hmore, hretry]
        rfl
  case entries =>
    exact fun e out l hnum => ⟨fun h => congrArg _ (if_pos (hnum ▸ h)), entryLinkFail_moves s l hl hep he e out hnum⟩
  case rebuild =>
    intro hreb hcar hrec
    obtain ⟨t, hexec, hroutes, hepochs⟩ := routeRebuild_repairs s hep hreb hcar hrec
    simp only [spineRoutes, Prod.mk.injEq] at hroutes
    obtain ⟨h1, h2, h3, h4⟩ := hroutes
    exact ⟨t, hexec, h1, h2, h3, h4, hepochs⟩
  case epochs =>
    rintro f issuer epoch x rfl
    refine ⟨exec_epochClose_idle s f issuer epoch, fun hf hat hnew s1 hs1 => ?_⟩
    subst hs1
    exact ⟨exec_epochClose_nothing s f issuer epoch hf hat hnew, fun o hheld hops hwf ho hoe =>
      exec_epochClose_one s f issuer epoch hf hat hnew (canonical_flyers s hc) o hheld hops hwf ho hoe⟩
  case reductions =>
    intro n issuer iseq
    refine ⟨exec_reductionSend_unknown s n issuer iseq, ?_⟩
    rintro op a hop hissuer hiseq rfl
    exact ⟨exec_reductionSend_idle s n issuer iseq op hop, fun hone hsent hwant hall reps hreps =>
      ⟨reductionSend_root s n issuer iseq op hop hone hsent hwant hall reps hreps,
        reductionSend_parent s n issuer iseq op hop hissuer hiseq hone hsent hwant hall reps hreps⟩⟩
  case modes =>
    intro who v
    refine ⟨fun h => if_neg (by simp [h]), fun h => ?_⟩
    exact ⟨_, if_pos h, setCareful_shows s (bit v 0) hregs⟩
  case crossings =>
    rintro index items k rfl
    refine ⟨exec_crossing_none s index items, ?_, crossingOverrun_busy s index hregs, exec_crossingOverrun_idle s index⟩
    rintro n hin rfl
    refine ⟨fun hfresh hitems => ?_, queueResync_counts s index items hregs hin⟩
    rw [hfresh]
    exact xqItems_fresh items hitems
  case flyers =>
    rintro f x rfl
    exact ⟨exec_flyer_none s f, fun e hin hlive hcar hlt hhops => exec_flyerProbe_reached s f e hin hlive hcar hlt hhops,
      flyerTakeover_fails s hc f, exec_cardEngineFail_none s f, cardEngineFail_fails s hc f⟩

end Sys2Proof.Machine
end


section
/-! SUPPORT. What belongs to run control: the shares of regions, the regions, the Whorls and the hub's memory. Whatever Bobbins and Flyers do
at a clock edge leaves it as it was. -/

namespace Sys2Proof.Machine

/-- The shares, the regions, the Whorls and the hub's memory. -/
def runFrame (s : State) : Tab RPart × Tab Region × Tab Whorl × List Host.Cell := (s.rparts, s.regions, s.whorls, s.hubMem)

theorem runFrame_eq_iff {s t : State} : runFrame t = runFrame s ↔
    t.rparts = s.rparts ∧ t.regions = s.regions ∧ t.whorls = s.whorls ∧ t.hubMem = s.hubMem := by
  simp only [runFrame, Prod.mk.injEq]

/-- What each step of a fold keeps, the fold keeps. -/
theorem runFrame_forAll {α : Type} (l : List α) (f : State → α → State) (s : State)
    (h : ∀ t, ∀ a ∈ l, runFrame (f t a) = runFrame t) : runFrame (forAll l f s) = runFrame s :=
  forAll_keeps (fun t => runFrame t = runFrame s) l f s rfl fun t a ha ht => (h t a ha).trans ht

section
variable (s : State)

/-! ### The state's operations -/

@[simp] theorem runFrame_setS (i : Nat) (x : Site) : runFrame (setS s i x) = runFrame s := rfl
@[simp] theorem runFrame_setF (f : Nat) (x : Flyer) : runFrame (setF s f x) = runFrame s := rfl
@[simp] theorem runFrame_setAg (i r : Nat) (v : Word) : runFrame (setAg s i r v) = runFrame s := rfl
@[simp] theorem runFrame_setFlyReg (c r : Nat) (v : Word) : runFrame (setFlyReg s c r v) = runFrame s := rfl
@[simp] theorem runFrame_countF (o hi lo n : Nat) : runFrame (countF s o hi lo n) = runFrame s := rfl
@[simp] theorem runFrame_setTnt (i : Nat) (l : List Tnt) : runFrame (setTnt s i l) = runFrame s := rfl
@[simp] theorem runFrame_noteAll (v i : Nat) : runFrame (noteAll v s i) = runFrame s := rfl

/-- Both branches of a conditional effect keep the frame. -/
theorem runFrame_ite {c : Prop} [Decidable c] {a b : State} (ha : runFrame a = runFrame s) (hb : runFrame b = runFrame s) :
    runFrame (if c then a else b) = runFrame s := by
  split
  · exact ha
  · exact hb

/-- The same of an effect that answers a value too. -/
theorem runFrame_iteSnd {α : Type} {c : Prop} [Decidable c] {a b : α × State} (ha : runFrame a.2 = runFrame s)
    (hb : runFrame b.2 = runFrame s) : runFrame (if c then a else b).2 = runFrame s := by
  split
  · exact ha
  · exact hb

/-! ### The encoders of a Bobbin (R127, R131, R136, R137) -/

section
variable (i : Nat)

@[simp] theorem runFrame_wantHold (p : Option Nat) (d : DropPoint) : runFrame (wantHold s p d) = runFrame s := by
  unfold wantHold
  split
  · rfl
  · exact runFrame_ite s rfl rfl

@[simp] theorem runFrame_bobbinPush (r : Rec) : runFrame (bobbinPush s i r) = runFrame s := by
  have hhold (c : Prop) [Decidable c] (p : Option Nat) : runFrame (if c then wantHold s p (.bobbin i) else s) = runFrame s :=
    runFrame_ite s (runFrame_wantHold s p _) rfl
  unfold bobbinPush
  dsimp only
  split
  case h_1 => simp [hhold]
  case h_2 => split <;> simp [hhold]
  case h_3 => exact hhold _ _

@[simp] theorem runFrame_emitSrc (k anchor time : Nat) (addr : Option (BitVec 32)) (edge : Nat) (mk : Nat → Rec) :
    runFrame (emitSrc s i k anchor time addr edge mk) = runFrame s := by
  unfold emitSrc
  split
  · rfl
  · dsimp only
    split <;> simp

@[simp] theorem runFrame_closeTnt : runFrame (closeTnt s i) = runFrame s := by
  unfold closeTnt
  split <;> simp

@[simp] theorem runFrame_lpwr (ev : Nat) : runFrame (lpwr s i ev) = runFrame s := by
  unfold lpwr
  extract_lets on s0 s1 e
  have h0 : runFrame s0 = runFrame s := runFrame_ite s (runFrame_closeTnt s i) rfl
  have h1 : runFrame s1 = runFrame s := runFrame_ite s ((runFrame_noteAll s0 _ i).trans h0) h0
  exact runFrame_ite s ((runFrame_emitSrc s1 i _ _ _ _ _ _).trans h1) h1

@[simp] theorem runFrame_btSwitch (old v : Word) : runFrame (btSwitch s i old v) = runFrame s := by
  unfold btSwitch
  rw [runFrame_setS]
  exact runFrame_ite s (runFrame_closeTnt s i) rfl

@[simp] theorem runFrame_btAct (v : Word) : runFrame (btAct s i v) = runFrame s := by
  unfold btAct
  dsimp only
  split <;> simp

theorem runFrame_traceStart : runFrame (traceStart s i) = runFrame s := runFrame_ite s rfl (runFrame_btAct s i _)

theorem runFrame_traceDue : runFrame (traceDue s i) = runFrame s := runFrame_ite s (runFrame_traceStart _ i) rfl

theorem runFrame_gatedEdge : runFrame (gatedEdge s i) = runFrame s :=
  runFrame_ite s rfl <| runFrame_ite s rfl (runFrame_lpwr _ i _)

/-! ### Agent registers (R66, R68) -/

@[simp] theorem runFrame_setAgNext (r : Nat) (v : Word) : runFrame (setAgNext s i r v) = runFrame s := by
  unfold setAgNext agHold
  rw [runFrame_setAg]
  exact runFrame_ite s rfl rfl

@[simp] theorem runFrame_setFlyNext (c r : Nat) (v : Word) : runFrame (setFlyNext s c r v) = runFrame s := by
  unfold setFlyNext
  rw [runFrame_setFlyReg]
  exact runFrame_ite s rfl rfl

@[simp] theorem runFrame_xtEvent (k ch delay : Nat) : runFrame (xtEvent s k ch delay) = runFrame s := by
  unfold xtEvent
  split
  · rfl
  · exact runFrame_ite s rfl rfl

/-- A match on a site's Flyer: the effect of settling its Card engine. -/
theorem runFrame_settle (o : Option Nat) : runFrame (o.elim s (settleCard s)) = runFrame s := by
  cases o with
  | none => rfl
  | some f => rw [Option.elim_some, (cardWork_settleCard s f).eq]; rfl

theorem runFrame_agWrite (issuer r : Nat) (v : Word) : runFrame (agWrite s i issuer r v).2 = runFrame s := by
  unfold agWrite
  split
  case h_1 => rfl
  case h_2 l _ =>
    refine runFrame_iteSnd s rfl <| runFrame_iteSnd s rfl <| runFrame_iteSnd s (runFrame_iteSnd s rfl rfl) <|
      runFrame_iteSnd s ?fire <| runFrame_iteSnd s (runFrame_setFlyNext _ _ _ _) <| runFrame_iteSnd s (runFrame_setAgNext _ _ _ _) <|
      runFrame_iteSnd s (runFrame_iteSnd s rfl (runFrame_setAgNext _ _ _ _)) <|
      runFrame_iteSnd s ((runFrame_settle (setAg s i r (l.write (ag s i r) v)) _).trans rfl) <|
      runFrame_iteSnd s (by simp) <| runFrame_iteSnd s ?counter (runFrame_setAgNext _ _ _ _)
    case fire => exact runFrame_forAll _ _ _ fun t n _ => runFrame_xtEvent t _ n 2
    case counter => rw [runFrame_setAg]; exact runFrame_ite s rfl rfl

theorem runFrame_agRead (issuer r : Nat) : runFrame (agRead s i issuer r).2.2 = runFrame s := by
  unfold agRead
  repeat' split
  all_goals rfl

/-! ### Queues of a Bobbin (R56, R69 to R79) -/

@[simp] theorem runFrame_answer (opId issuer : Nat) (iseq : BitVec 16) (rep : Reply) (count : Nat) :
    runFrame (answer s i opId issuer iseq rep count) = runFrame s := by
  obtain ⟨L, e⟩ := answer_eq s i opId issuer iseq rep count
  rw [e]
  rfl

@[simp] theorem runFrame_wakeWant : runFrame (wakeWant s i).2 = runFrame s := by
  unfold wakeWant
  exact runFrame_iteSnd s (runFrame_ite s rfl rfl) rfl

@[simp] theorem runFrame_wakeHold : runFrame (wakeHold s i) = runFrame s := by
  obtain ⟨u, h | h⟩ := wakeHold_eq s i <;> rw [h]
  rfl

@[simp] theorem runFrame_wakeNeed : runFrame (wakeNeed s i) = runFrame s := by
  unfold wakeNeed
  exact runFrame_ite s (by simp) rfl

@[simp] theorem runFrame_riRaise (n : Nat) : runFrame (riRaise n s i) = runFrame s := by
  induction n generalizing s with
  | zero => rfl
  | succ n ih =>
    simp only [riRaise]
    split
    case h_1 => exact runFrame_wakeHold s i
    case h_2 => exact runFrame_ite s rfl <| runFrame_ite s (by simp) <| runFrame_ite s (by simp [ih]) rfl

@[simp] theorem runFrame_riNext (e : Nat) : runFrame (riNext s i e) = runFrame s := by
  unfold riNext
  dsimp only
  split <;> simp

@[simp] theorem runFrame_doPre (issuer : Nat) (l : List (Nat × Word)) : runFrame (doPre i issuer l s).2 = runFrame s := by
  induction l generalizing s with
  | nil => rfl
  | cons a l ih =>
    simp only [doPre]
    exact runFrame_iteSnd s ((ih _).trans (runFrame_agWrite s i _ _ _)) (runFrame_agWrite s i _ _ _)

@[simp] theorem runFrame_windowAccess (op : Op) (wr : Bool) : runFrame (windowAccess s op i wr) = runFrame s := by
  unfold windowAccess
  exact runFrame_ite s (by simp) <| runFrame_ite s (by simp) <| runFrame_ite s (by simp) rfl

@[simp] theorem runFrame_lmAccess (op : Op) (wr : Bool) : runFrame (lmAccess s op i wr) = runFrame s := by
  unfold lmAccess
  exact runFrame_ite s (by simp) <| runFrame_ite s (by simp) <| runFrame_ite s (by simp) (by simp)

/-- An operation that takes effect. -/
@[simp] theorem runFrame_applyNow (op : Op) : runFrame (applyNow op s i) = runFrame s := by
  unfold applyNow
  refine runFrame_ite s (by simp) ?_
  cases op.type <;> dsimp only
  case write => exact runFrame_ite s (by simp) (by simp [runFrame_agWrite])
  case read => exact runFrame_ite s (by simp) (by simp [runFrame_agRead])
  case lmWrite => simp
  case lmRead => simp

@[simp] theorem runFrame_drainWait (n : Nat) : runFrame (drainWait n s i) = runFrame s := by
  induction n generalizing s with
  | zero => rfl
  | succ n ih =>
    simp only [drainWait]
    split
    · rfl
    · simp [ih]

@[simp] theorem runFrame_siteGo : runFrame (siteGo s i) = runFrame s := by
  simp [siteGo]

end

/-! ### Turns at an edge (R55, R136, R142, R187) -/

theorem runFrame_siteTurn (i : Nat) : runFrame (siteTurn s i) = runFrame s := by
  unfold siteTurn
  extract_lets x old s1 s2 s3
  have h1 : runFrame s1 = runFrame s := runFrame_ite s rfl rfl
  have h2 : runFrame s2 = runFrame s := runFrame_ite s h1 ((runFrame_btSwitch s1 i _ _).trans h1)
  have h3 : runFrame s3 = runFrame s := (runFrame_gatedEdge _ i).trans ((runFrame_traceDue s2 i).trans h2)
  exact runFrame_ite s h3 ((runFrame_siteGo _ i).trans ((runFrame_wakeNeed s3 i).trans h3))

@[simp] theorem runFrame_driftEdge (c : Nat) : runFrame (driftEdge s c) = runFrame s :=
  runFrame_forAll _ _ _ fun t _ _ => runFrame_ite t rfl (by simp)

@[simp] theorem runFrame_resyncEdge (f : Nat) : runFrame (resyncEdge s f) = runFrame s :=
  runFrame_ite s rfl (runFrame_forAll _ _ _ fun _ _ _ => rfl)

theorem runFrame_flyerTurn (f : Nat) : runFrame (flyerTurn s f) = runFrame s := by
  unfold flyerTurn
  refine (runFrame_forAll _ _ _ fun t c _ => runFrame_driftEdge t c).trans ?_
  rw [runFrame_resyncEdge]
  exact runFrame_ite s rfl rfl

end

end Sys2Proof.Machine
end


section
/-! SUPPORT. A clock edge of a region at which nothing is due: the levels are taken, the shares step, and the region comes to its next edge
(R51, R64, R95, R97, R98). -/

namespace Sys2Proof.Machine

section
variable (s : State)

theorem canonical_rparts (h : canonical s = true) : tabWf RPart.fresh s.rparts = true := by
  simp only [canonical, Bool.and_eq_true] at h
  tauto

theorem canonical_regions (h : canonical s = true) : tabWf Region.fresh s.regions = true := by
  simp only [canonical, Bool.and_eq_true] at h
  tauto

theorem getR_of_eq {s t : State} (h : t.regions = s.regions) (q : Nat) : getR t q = getR s q := by rw [getR, h, getR]

theorem getRP_of_eq {s t : State} (h : t.rparts = s.rparts) (p q : Nat) : getRP t p q = getRP s p q := by rw [getRP, h, getRP]

theorem getR_setR_self (r : Nat) (x : Region) (h : tabWf Region.fresh s.regions = true) : getR (setR s r x) r = x := by
  rw [getR_setR _ _ _ _ h, if_pos rfl]

theorem setRP_wf (p r : Nat) (x : RPart) (h : tabWf RPart.fresh s.rparts = true) : tabWf RPart.fresh (setRP s p r x).rparts = true :=
  tabWf_tput _ _ _ _ h

theorem getRP_setRP_self (p r : Nat) (x : RPart) (h : tabWf RPart.fresh s.rparts = true) : getRP (setRP s p r x) p r = x := by
  rw [getRP_setRP _ _ _ _ _ _ h, if_pos rfl]

/-- A share replaced by itself. -/
theorem setRP_getRP (p r : Nat) (h : tabWf RPart.fresh s.rparts = true) : setRP s p r (getRP s p r) = s := by
  have hput : tput RPart.fresh s.rparts (4 * p + r) (getRP s p r) = s.rparts := by
    refine tab_ext RPart.fresh _ _ (tabWf_tput _ _ _ _ h) h fun k => ?_
    rw [tget_tput _ _ _ _ _ h]
    split
    next hk => rw [hk, getRP]
    next => rfl
  rw [setRP, hput]

/-! ### What is due at an edge -/

/-- No message of the stop tree is due. -/
theorem leafDue_early (r n : Nat) (h : ∀ m ∈ (getR s r).tree, (getR s r).edge < m.due) : leafDue r n s = s := by
  cases n with
  | zero => rfl
  | succ n =>
    simp only [leafDue]
    split
    next => rfl
    next m t hm => exact if_neg (Nat.not_le.mpr (h m (by simp [hm])))

/-- No change of the map is due. -/
theorem chgDue_early (r n : Nat) (h : ∀ g ∈ (getR s r).chg, (getR s r).edge < g.due) : chgDue r n s = s := by
  cases n with
  | zero => rfl
  | succ n =>
    simp only [chgDue]
    split
    next => rfl
    next g t hg => exact if_neg (Nat.not_le.mpr (h g (by simp [hg])))

/-- No event of a channel is due. -/
theorem fireDue_early (l : List Nat) (h : ∀ f : Nat, (getF s f).evts = []) : forAll l fireDue s = s :=
  forAll_keeps (· = s) l fireDue s rfl fun t f _ ht => by rw [ht, fireDue, h f]; rfl

/-! ### Levels (R65, R73, R75, R192) -/

/-- The levels of the cores of a region at an edge. -/
def coreLevelsTaken (r : Nat) (lv : EdgeLevels) : State :=
  forAll ((allSites s).filter fun i => regionOf i = r) (fun s i => siteLevels lv (aocEdge s i) i) s

/-- The marks of the seams that a region consumes. -/
def seamMarksTaken (r : Nat) (lv : EdgeLevels) : State :=
  let ends_ := (lv.marked.filter s.smSent.contains).filter fun k => (s.integ.seams[k]?).any fun m => m.consReg == r
  { s with smMarked := s.smMarked ++ ends_.filter (fun k => !s.smMarked.contains k), smSent := s.smSent.filter fun k => !ends_.contains k }

/-- The levels of a region at an edge. -/
def levelsTaken (r : Nat) (lv : EdgeLevels) : State := seamMarksTaken (coreLevelsTaken s r lv) r lv

/-- From s to t sites, Flyers and agent registers alone have changed. -/
def LevelWork (s t : State) : Prop := t = { s with sites := t.sites, flyers := t.flyers, areg := t.areg }

theorem LevelWork.trans {s t u : State} (h : LevelWork s t) (k : LevelWork t u) : LevelWork s u := by
  rw [LevelWork, k, h]

theorem levelWork_forAll {α : Type} (l : List α) (f : State → α → State) (h : ∀ t a, LevelWork t (f t a)) :
    LevelWork s (forAll l f s) :=
  forAll_keeps (LevelWork s) l f s rfl fun t a _ ht => ht.trans (h t a)

theorem levelWork_ite {c : Prop} [Decidable c] {t u : State} (ht : LevelWork s t) (hu : LevelWork s u) :
    LevelWork s (if c then t else u) := by
  split
  · exact ht
  · exact hu

theorem levelWork_aocAdd (i k n : Nat) : LevelWork s (aocAdd s i k n) := by
  refine levelWork_ite s rfl ?_
  dsimp only
  split
  · rfl
  · exact levelWork_ite s rfl rfl

theorem levelWork_aocEdge (i : Nat) : LevelWork s (aocEdge s i) :=
  (((levelWork_aocAdd s i 0 _).trans (levelWork_aocAdd _ i 1 _)).trans (levelWork_aocAdd _ i 2 _)).trans
    (levelWork_forAll _ _ _ fun t n => levelWork_aocAdd t i (4 + n) _)

theorem levelWork_siteLevels (lv : EdgeLevels) (i : Nat) : LevelWork s (siteLevels lv s i) := by
  unfold siteLevels
  exact levelWork_ite s rfl rfl

/-- The levels change sites, Flyers, agent registers and the seams' marks alone. -/
theorem levelsTaken_eq (r : Nat) (lv : EdgeLevels) : levelsTaken s r lv =
    { s with sites := (levelsTaken s r lv).sites, flyers := (levelsTaken s r lv).flyers, areg := (levelsTaken s r lv).areg,
             smMarked := (levelsTaken s r lv).smMarked, smSent := (levelsTaken s r lv).smSent } := by
  have h : LevelWork s (coreLevelsTaken s r lv) :=
    levelWork_forAll s _ _ fun t i => (levelWork_aocEdge t i).trans (levelWork_siteLevels _ lv i)
  rw [levelsTaken]
  generalize coreLevelsTaken s r lv = t at h
  rw [h]
  rfl

/-- The sites of a partition in a region stay. -/
theorem sitesIn_levelsTaken (r : Nat) (lv : EdgeLevels) (p q : Nat) : sitesIn (levelsTaken s r lv) p q = sitesIn s p q := by
  rw [levelsTaken_eq]
  rfl

theorem getRP_levelsTaken (r : Nat) (lv : EdgeLevels) (p q : Nat) : getRP (levelsTaken s r lv) p q = getRP s p q := by
  rw [levelsTaken_eq]
  rfl

/-! ### One share at an edge (R95, R97, R98) -/

/-- A share whose step begins at the edge before edge e: under a STEP the count left falls, and after the last step the latches set. -/
def steppedShare (e ht : Nat) (x : RPart) : RPart :=
  let n := (x.stepNo + 1) % 2 ^ 48
  if !x.stepOn then { x with stepNo := n }
  else if 1 < x.stepLeft then { x with stepNo := n, stepLeft := x.stepLeft - 1 }
  else { x with stepNo := n, stepLeft := 0, latch := true, latchAt := e, phalt := true, halted := true, haltStep := n, haltTime := ht }

theorem partStep_eq (r p : Nat) : partStep r s p = setRP s p r (steppedShare ((getR s r).edge + 1) s.ht (getRP s p r)) := by
  simp only [partStep, steppedShare]
  split
  · rfl
  · split <;> rfl

section
variable (e ht : Nat) (x : RPart)

theorem steppedShare_stepNo : (steppedShare e ht x).stepNo = (x.stepNo + 1) % 2 ^ 48 := by
  unfold steppedShare
  dsimp only
  split
  · rfl
  · split <;> rfl

theorem steppedShare_running (h : x.stepOn = false) : (steppedShare e ht x).latch = x.latch := by
  simp only [steppedShare, h, Bool.not_false, if_true]

/-- Under a STEP the count left falls by 1, and the latches set once it has come to 0. -/
theorem steppedShare_stepping (h : x.stepOn = true) (hl : x.latch = false) :
    (steppedShare e ht x).stepLeft = x.stepLeft - 1 ∧ (steppedShare e ht x).latch = decide (x.stepLeft ≤ 1) := by
  simp only [steppedShare, h, Bool.not_true, Bool.false_eq_true, if_false]
  split
  next hmore => exact ⟨rfl, by simp [hl, Nat.not_le.mpr hmore]⟩
  next hlast => exact ⟨by dsimp only; omega, by simp [Nat.not_lt.mp hlast]⟩

end

/-- The AND of CA_FROZEN at a partition's leaves of a region: 0 while the latches are clear. -/
def frozenAnd (r p : Nat) : Option Nat :=
  if (getRP s p r).latch && (sitesIn s p r).all fun i => (getS s i).frozen || (getS s i).freezeLate || (lostSites s p).contains i then
    some ((getRP s p r).andAt.getD (getR s r).edge)
  else none

/-- The AND of the seams' marks. -/
def markedAnd (r p : Nat) : Option Nat :=
  if ((consumers s p).filter fun x => x.consReg == r && !seamLost s p x).all (seamMarked s) then
    some ((getRP s p r).markAt.getD (getR s r).edge)
  else none

theorem frozenAnd_clear (r p : Nat) (h : (getRP s p r).latch = false) : frozenAnd s r p = none :=
  if_neg (by simp [h])

theorem andEdge_eq (r p : Nat) (h : tabWf RPart.fresh s.rparts = true) :
    andEdge r s p = setRP s p r { getRP s p r with andAt := frozenAnd s r p, markAt := markedAnd s r p } := by
  rw [show andEdge r s p = if (getRP s p r).andAt = frozenAnd s r p ∧ (getRP s p r).markAt = markedAnd s r p then s
    else setRP s p r { getRP s p r with andAt := frozenAnd s r p, markAt := markedAnd s r p } from rfl]
  split
  next heq =>
    rw [← heq.1, ← heq.2]
    exact (setRP_getRP s p r h).symm
  next => rfl

/-! ### The shares of a region in turn -/

/-- From s to t the shares of region r alone have changed, those of the partitions of a list. -/
structure ShareWork (r : Nat) (l : List Nat) (s t : State) : Prop where
  eq : t = { s with rparts := t.rparts }
  wf : tabWf RPart.fresh s.rparts = true → tabWf RPart.fresh t.rparts = true
  apart : ∀ p q : Nat, q < 4 → q ≠ r ∨ p ∉ l → getRP t p q = getRP s p q

section
variable {r : Nat} {s}

theorem ShareWork.refl : ShareWork r [] s s := ⟨rfl, id, fun _ _ _ _ => rfl⟩

theorem ShareWork.trans {l m : List Nat} {t u : State} (h : ShareWork r l s t) (k : ShareWork r m t u) : ShareWork r (l ++ m) s u where
  eq := by rw [k.eq, h.eq]
  wf hs := k.wf (h.wf hs)
  apart p q hq hp := by
    rw [List.mem_append, not_or] at hp
    rw [k.apart p q hq (hp.imp_right And.right), h.apart p q hq (hp.imp_right And.left)]

theorem ShareWork.setRP (hr : r < 4) (p : Nat) (x : RPart) : ShareWork r [p] s (setRP s p r x) where
  eq := rfl
  wf := setRP_wf s p r x
  apart o q hq ho := tget_tput_ne _ _ _ _ _ (by simp only [List.mem_singleton] at ho; omega)

variable {f : State → Nat → State} {h : State → Nat → RPart}

/-- A fold that replaces a share for each partition of a list. -/
theorem shareWork_forAll (hr : r < 4) (hf : ∀ t p, tabWf RPart.fresh t.rparts = true → f t p = Machine.setRP t p r (h t p))
    (l : List Nat) (hs : tabWf RPart.fresh s.rparts = true) : ShareWork r l s (forAll l f s) := by
  induction l generalizing s with
  | nil => exact .refl
  | cons p l ih =>
    have hp : ShareWork r [p] s (f s p) := by rw [hf s p hs]; exact .setRP hr p _
    exact hp.trans (ih (hp.wf hs))

/-- The share of one partition of the list comes from a state in which it stands as before the fold. -/
theorem getRP_forAll_mem (hr : r < 4) (hf : ∀ t p, tabWf RPart.fresh t.rparts = true → f t p = Machine.setRP t p r (h t p))
    (l : List Nat) (hl : l.Nodup) (p : Nat) (hp : p ∈ l) (hs : tabWf RPart.fresh s.rparts = true) :
    ∃ t : State, t = { s with rparts := t.rparts } ∧ getRP t p r = getRP s p r ∧ getRP (forAll l f s) p r = h t p := by
  obtain ⟨a, b, rfl⟩ := List.append_of_mem hp
  obtain ⟨-, hb, hab⟩ := List.nodup_append.mp hl
  have hpa : p ∉ a := fun ha => hab p ha p List.mem_cons_self rfl
  have ha : ShareWork r a s (forAll a f s) := shareWork_forAll hr hf a hs
  have hbw : ShareWork r b (f (forAll a f s) p) (forAll b f (f (forAll a f s) p)) := by
    refine shareWork_forAll hr hf b ?_
    rw [hf _ p (ha.wf hs)]
    exact setRP_wf _ _ _ _ (ha.wf hs)
  refine ⟨forAll a f s, ha.eq, ha.apart p r hr (.inr hpa), ?_⟩
  calc getRP (forAll (a ++ p :: b) f s) p r
    _ = getRP (forAll b f (f (forAll a f s) p)) p r := by simp only [forAll, List.foldl_append, List.foldl_cons]
    _ = getRP (f (forAll a f s) p) p r := hbw.apart p r hr (.inr (List.nodup_cons.mp hb).1)
    _ = h (forAll a f s) p := by rw [hf _ p (ha.wf hs), getRP_setRP_self _ _ _ _ (ha.wf hs)]

end

/-- The partitions with a site in a region. -/
def partsIn (r : Nat) : List Nat := (List.range 64).filter fun p => !(sitesIn s p r).isEmpty

theorem mem_partsIn (r p : Nat) (hp : p < 64) : p ∈ partsIn s r ↔ sitesIn s p r ≠ [] := by
  simp [partsIn, hp]

/-- The shares of a region step where their latches are clear. -/
def sharesStepped (r : Nat) : State := forAll ((partsIn s r).filter fun p => !(getRP s p r).latch) (partStep r) s

/-- Every share of a region after an edge. -/
def sharesTurned (r : Nat) : State := forAll (partsIn s r) (andEdge r) (sharesStepped s r)

section
variable (r : Nat) (hr : r < 4) (hs : tabWf RPart.fresh s.rparts = true)
include hr hs

theorem shareWork_sharesStepped : ShareWork r ((partsIn s r).filter fun p => !(getRP s p r).latch) s (sharesStepped s r) :=
  shareWork_forAll hr (fun t p _ => partStep_eq t r p) _ hs

theorem shareWork_andEdges : ShareWork r (partsIn s r) (sharesStepped s r) (sharesTurned s r) :=
  shareWork_forAll hr (fun t p ht => andEdge_eq t r p ht) _ ((shareWork_sharesStepped s r hr hs).wf hs)

theorem sharesTurned_eq : sharesTurned s r = { s with rparts := (sharesTurned s r).rparts } :=
  ((shareWork_sharesStepped s r hr hs).trans (shareWork_andEdges s r hr hs)).eq

/-- The shares of the other regions stand. -/
theorem getRP_sharesTurned_ne (p q : Nat) (hq : q < 4) (hne : q ≠ r) : getRP (sharesTurned s r) p q = getRP s p q := by
  rw [(shareWork_andEdges s r hr hs).apart p q hq (.inl hne), (shareWork_sharesStepped s r hr hs).apart p q hq (.inl hne)]

/-- The ANDs of a share that has a site in the region. -/
theorem getRP_sharesTurned_ands (p : Nat) (hp : p ∈ partsIn s r) : ∃ a b : Option Nat,
    getRP (sharesTurned s r) p r = { getRP (sharesStepped s r) p r with andAt := a, markAt := b } ∧
      ((getRP (sharesStepped s r) p r).latch = false → a = none) := by
  obtain ⟨t, -, ht, he⟩ := getRP_forAll_mem hr (fun t p ht => andEdge_eq t r p ht) (partsIn s r) (List.nodup_range.filter _) p hp
    ((shareWork_sharesStepped s r hr hs).wf hs)
  refine ⟨_, _, by rw [sharesTurned, he, ht], fun hl => frozenAnd_clear t r p (by rw [ht, hl])⟩

/-- A share that is latched, or has no site in the region, keeps all but its ANDs. -/
theorem getRP_sharesTurned_latched (p : Nat) (h : (getRP s p r).latch = true ∨ p ∉ partsIn s r) :
    { getRP (sharesTurned s r) p r with andAt := (getRP s p r).andAt, markAt := (getRP s p r).markAt } = getRP s p r := by
  have hstep : getRP (sharesStepped s r) p r = getRP s p r :=
    (shareWork_sharesStepped s r hr hs).apart p r hr (.inr (by rw [List.mem_filter]; rcases h with h | h <;> simp [h]))
  by_cases hp : p ∈ partsIn s r
  · obtain ⟨a, b, he, -⟩ := getRP_sharesTurned_ands s r hr hs p hp
    rw [he, hstep]
  · rw [(shareWork_andEdges s r hr hs).apart p r hr (.inr hp), hstep]

/-- A share whose latches are clear steps, and then has its ANDs. -/
theorem getRP_sharesTurned_stepped (p : Nat) (hl : (getRP s p r).latch = false) (hp : p ∈ partsIn s r) :
    ∃ (x : RPart) (a b : Option Nat), x = steppedShare ((getR s r).edge + 1) s.ht (getRP s p r) ∧
      getRP (sharesTurned s r) p r = { x with andAt := a, markAt := b } ∧ (x.latch = false → a = none) := by
  obtain ⟨t, heq, ht, he⟩ := getRP_forAll_mem hr (fun t p _ => partStep_eq t r p) ((partsIn s r).filter fun p => !(getRP s p r).latch)
    ((List.nodup_range.filter _).filter _) p (by simp [hp, hl]) hs
  obtain ⟨a, b, hands⟩ := getRP_sharesTurned_ands s r hr hs p hp
  rw [← sharesStepped] at he
  rw [he, ht, heq] at hands
  exact ⟨_, a, b, rfl, hands⟩

end

/-! ### The region at its next edge (R51) -/

/-- A region after an edge of region x: the edge count gains 1, and the rate is taken anew after each window (R64). -/
def nextEdge (x y : Region) (ht : Nat) : Region :=
  let turn := decide (x.rateWin + 4096 ≤ ht)
  let cnt := x.rateCnt + 1
  { y with edge := x.edge + 1, rateCnt := if turn then 0 else cnt, rateWin := if turn then ht else x.rateWin,
           rate := if turn then min 0xFFFF (cnt * 4096 / (ht - x.rateWin)) else x.rate }

/-- A region after what crosses to its root: a message waits at the root, and a change of the map for its edge. -/
def portTaken (x : Region) (lat : Nat) : Region :=
  match (tfEdge x.port).1 with
  | none => { x with port := (tfEdge x.port).2 }
  | some (.req q) => { x with port := (tfEdge x.port).2, queue := x.queue ++ [{ q with edge := x.edge }] }
  | some (.chg g) => { x with port := (tfEdge x.port).2, chg := x.chg ++ [{ g with due := x.edge + lat }] }

section
variable (x : Region) (lat : Nat)

theorem portTaken_keeps : (portTaken x lat).edge = x.edge ∧ (portTaken x lat).tree = x.tree := by
  unfold portTaken
  split <;> exact ⟨rfl, rfl⟩

theorem portTaken_none (h : (tfEdge x.port).1 = none) : (portTaken x lat).queue = x.queue := by
  simp only [portTaken, h]

theorem portTaken_req (q : RootReq) (h : (tfEdge x.port).1 = some (.req q)) :
    (portTaken x lat).queue = x.queue ++ [{ q with edge := x.edge }] := by
  simp only [portTaken, h]

end

section
variable (r : Nat)

theorem getR_portEdge (h : tabWf Region.fresh s.regions = true) : getR (portEdge s r) r = portTaken (getR s r) (latOf s r) := by
  rcases hport : (tfEdge (getR s r).port).1 with _ | ⟨q⟩ | ⟨g⟩ <;> simp only [portEdge, portTaken, hport]
  case none =>
    split
    next hsame => rw [hsame]
    next => exact getR_setR_self s r _ h
  all_goals exact getR_setR_self s r _ h

/-- What crosses to a root changes its region alone. -/
theorem portEdge_eq : ∃ x : Region, portEdge s r = s ∨ portEdge s r = setR s r x := by
  unfold portEdge
  dsimp only
  split
  next =>
    split
    next => exact ⟨getR s r, .inl rfl⟩
    next => exact ⟨_, .inr rfl⟩
  next => exact ⟨_, .inr rfl⟩
  next => exact ⟨_, .inr rfl⟩

end

/-! ### The whole edge -/

/-- The region's root, its Flyers and its sites at the next edge, and the echoes that have come back. -/
def edgeTurned (r e : Nat) : State :=
  let mine := (s.flyers.map Prod.fst).filter fun f => decide (f < 256) && clusterRegion f == r
  let own := (s.sites.map Prod.fst).filter fun i => regionOf i == r
  pulseEchoes (forAll own siteTurn (forAll mine flyerTurn (portEdge s r))) e (crossingOfRegion r)

/-- The turns of an edge leave run control as what crosses to the root has left it. -/
theorem runFrame_edgeTurned (r e : Nat) : runFrame (edgeTurned s r e) = runFrame (portEdge s r) :=
  calc runFrame (edgeTurned s r e)
    _ = runFrame (forAll _ siteTurn (forAll _ flyerTurn (portEdge s r))) := rfl
    _ = runFrame (forAll _ flyerTurn (portEdge s r)) := runFrame_forAll _ _ _ fun t i _ => runFrame_siteTurn t i
    _ = runFrame (portEdge s r) := runFrame_forAll _ _ _ fun t f _ => runFrame_flyerTurn t f

/-- A region without supply has no edges. -/
theorem exec_scheduleStep_off (r : Fin 4) (lv : EdgeLevels) (h : (getR s r).powerOff = true) : exec (.scheduleStep r lv) s = .next s :=
  if_pos h

/-- An edge at which nothing is due, up to what crosses at the next one: the levels, the shares, and the region's count. -/
def edgeCounted (r : Nat) (lv : EdgeLevels) : State :=
  let t := sharesTurned (levelsTaken s r lv) r
  setR t r (nextEdge (getR s r) (getR t r) s.ht)

/-- The state after an edge at which nothing is due. -/
def quietEdge (r : Nat) (lv : EdgeLevels) : State := edgeTurned (edgeCounted s r lv) r ((getR s r).edge + 1)

theorem exec_scheduleStep_quiet (r : Fin 4) (lv : EdgeLevels) (hon : (getR s r).powerOff = false)
    (htree : ∀ m ∈ (getR s r).tree, (getR s r).edge < m.due) (hchg : ∀ g ∈ (getR s r).chg, (getR s r).edge < g.due)
    (hevts : ∀ f : Nat, (getF s f).evts = []) : exec (.scheduleStep r lv) s = .next (quietEdge s r lv) := by
  show execScheduleStep r lv s = _
  unfold execScheduleStep
  extract_lets x mine own s0 sites s1 ends_ s2 parts s3 s4 turn cnt y s5 s6
  rw [if_neg (by simp [x, hon])]
  have h0 : s0 = s := by
    simp only [s0]
    rw [fireDue_early s _ hevts, leafDue_early s r _ htree, chgDue_early s r _ hchg]
  have h1 : s1 = coreLevelsTaken s0 r lv := rfl
  have h2 : s2 = seamMarksTaken s1 r lv := rfl
  have h4 : s4 = sharesTurned s2 r := rfl
  have h5 : s5 = setR s4 r (nextEdge x (getR s4 r) s.ht) := rfl
  have h6 : pulseEchoes s6 (x.edge + 1) (crossingOfRegion r) = edgeTurned s5 r (x.edge + 1) := rfl
  rw [h6, h5, h4, h2, h1, h0, ← levelsTaken, ok]
  rfl

end

end Sys2Proof.Machine
end


section
/-! PROPERTY. An edge of a region counts a step for each share whose latches are clear, and ends a STEP after its count. -/

namespace Sys2Proof.Machine

section
variable (s : State) (r : Nat) (lv : EdgeLevels)

/-! ### What an edge leaves of run control -/

/-- What crosses to a root leaves the shares, the Whorls, the hub's memory and the other regions. -/
theorem portEdge_keeps : (portEdge s r).rparts = s.rparts ∧ (portEdge s r).whorls = s.whorls ∧ (portEdge s r).hubMem = s.hubMem ∧
    ∀ q : Nat, q ≠ r → getR (portEdge s r) q = getR s q := by
  obtain ⟨x, h | h⟩ := portEdge_eq s r <;> rw [h]
  · exact ⟨rfl, rfl, rfl, fun _ _ => rfl⟩
  · exact ⟨rfl, rfl, rfl, fun q hq => getR_setR_ne s r q x hq⟩

/-- The turns of Flyers and sites leave run control as what crosses to the root has left it. -/
theorem quietEdge_frame : (quietEdge s r lv).rparts = (portEdge (edgeCounted s r lv) r).rparts ∧
    (quietEdge s r lv).regions = (portEdge (edgeCounted s r lv) r).regions ∧
    (quietEdge s r lv).whorls = (portEdge (edgeCounted s r lv) r).whorls ∧
    (quietEdge s r lv).hubMem = (portEdge (edgeCounted s r lv) r).hubMem :=
  runFrame_eq_iff.mp (runFrame_edgeTurned (edgeCounted s r lv) r ((getR s r).edge + 1))

/-- The shares come out of an edge as their steps have left them. -/
theorem getRP_quietEdge (p q : Nat) : getRP (quietEdge s r lv) p q = getRP (sharesTurned (levelsTaken s r lv) r) p q := by
  obtain ⟨hrparts, -, -, -⟩ := quietEdge_frame s r lv
  obtain ⟨hport, -, -, -⟩ := portEdge_keeps (edgeCounted s r lv) r
  exact getRP_of_eq (hrparts.trans hport) p q

section
variable (hc : canonical s = true)
include hc

theorem levelsTaken_rparts_wf : tabWf RPart.fresh (levelsTaken s r lv).rparts = true := by
  rw [levelsTaken_eq]
  exact canonical_rparts s hc

variable (hr : r < 4)
include hr

/-- The levels and the shares' steps change no region, no Whorl and no memory. -/
theorem sharesTurned_levelsTaken_keeps : (sharesTurned (levelsTaken s r lv) r).regions = s.regions ∧
    (sharesTurned (levelsTaken s r lv) r).whorls = s.whorls ∧ (sharesTurned (levelsTaken s r lv) r).hubMem = s.hubMem := by
  rw [sharesTurned_eq _ r hr (levelsTaken_rparts_wf s r lv hc), levelsTaken_eq]
  exact ⟨rfl, rfl, rfl⟩

theorem quietEdge_keeps : (quietEdge s r lv).whorls = s.whorls ∧ (quietEdge s r lv).hubMem = s.hubMem ∧
    ∀ q : Nat, q ≠ r → getR (quietEdge s r lv) q = getR s q := by
  obtain ⟨hregions, hwhorls, hmem⟩ := sharesTurned_levelsTaken_keeps s r lv hc hr
  obtain ⟨-, hR, hW, hM⟩ := quietEdge_frame s r lv
  obtain ⟨-, hportW, hportM, hportR⟩ := portEdge_keeps (edgeCounted s r lv) r
  refine ⟨(hW.trans hportW).trans hwhorls, (hM.trans hportM).trans hmem, fun q hq => ?_⟩
  calc getR (quietEdge s r lv) q
    _ = getR (portEdge (edgeCounted s r lv) r) q := getR_of_eq hR q
    _ = getR (edgeCounted s r lv) q := hportR q hq
    _ = getR (sharesTurned (levelsTaken s r lv) r) q := getR_setR_ne _ _ _ _ hq
    _ = getR s q := getR_of_eq hregions q

/-- The region itself: its edge count gains 1, and its root takes what crosses to it. -/
theorem getR_quietEdge : ∃ (y : Region) (lat : Nat), getR (quietEdge s r lv) r = portTaken y lat ∧
    y.edge = (getR s r).edge + 1 ∧ y.tree = (getR s r).tree ∧ y.port = (getR s r).port ∧ y.queue = (getR s r).queue := by
  obtain ⟨hregions, -, -⟩ := sharesTurned_levelsTaken_keeps s r lv hc hr
  obtain ⟨-, hR, -, -⟩ := quietEdge_frame s r lv
  have hwf : tabWf Region.fresh (sharesTurned (levelsTaken s r lv) r).regions = true := by
    rw [hregions]
    exact canonical_regions s hc
  have hcount : getR (edgeCounted s r lv) r = nextEdge (getR s r) (getR s r) s.ht := by
    rw [edgeCounted, getR_setR_self _ _ _ hwf, getR_of_eq hregions]
  refine ⟨_, _, (getR_of_eq hR r).trans (getR_portEdge _ r (setR_wf _ r _ hwf)), ?_⟩
  rw [hcount]
  exact ⟨rfl, rfl, rfl, rfl⟩

/-! ### What an edge does to a share -/

variable (p : Nat) (hp : p < 64)
include hp

theorem getRP_quietEdge_latched (h : (getRP s p r).latch = true ∨ sitesIn s p r = []) :
    { getRP (quietEdge s r lv) p r with andAt := (getRP s p r).andAt, markAt := (getRP s p r).markAt } = getRP s p r := by
  have hturn := getRP_sharesTurned_latched (levelsTaken s r lv) r hr (levelsTaken_rparts_wf s r lv hc) p
  simp only [mem_partsIn _ r p hp, getRP_levelsTaken, sitesIn_levelsTaken, not_not] at hturn
  rw [getRP_quietEdge]
  exact hturn h

theorem getRP_quietEdge_stepped (hl : (getRP s p r).latch = false) (hsites : sitesIn s p r ≠ []) :
    ∃ (e ht : Nat) (x : RPart) (a b : Option Nat), x = steppedShare e ht (getRP s p r) ∧
      getRP (quietEdge s r lv) p r = { x with andAt := a, markAt := b } ∧ (x.latch = false → a = none) := by
  have hturn := getRP_sharesTurned_stepped (levelsTaken s r lv) r hr (levelsTaken_rparts_wf s r lv hc) p
  simp only [mem_partsIn _ r p hp, getRP_levelsTaken, sitesIn_levelsTaken] at hturn
  rw [getRP_quietEdge]
  exact ⟨_, _, hturn hl hsites⟩

/-- The statement's clause on a share whose latches are clear. -/
theorem getRP_quietEdge_counts (hl : (getRP s p r).latch = false) (hsites : sitesIn s p r ≠ []) :
    (getRP (quietEdge s r lv) p r).stepNo = ((getRP s p r).stepNo + 1) % 2 ^ 48 ∧
      ((getRP s p r).stepOn = false →
        (getRP (quietEdge s r lv) p r).latch = false ∧ (getRP (quietEdge s r lv) p r).andAt = none) ∧
      ((getRP s p r).stepOn = true → (getRP (quietEdge s r lv) p r).stepLeft = (getRP s p r).stepLeft - 1 ∧
        (getRP (quietEdge s r lv) p r).latch = decide ((getRP s p r).stepLeft ≤ 1)) := by
  obtain ⟨e, ht, x, a, b, rfl, he, hand⟩ := getRP_quietEdge_stepped s r lv hc hr p hp hl hsites
  rw [he]
  refine ⟨steppedShare_stepNo e ht _, fun hoff => ?_, fun hon => steppedShare_stepping e ht _ hon hl⟩
  have hclear := (steppedShare_running e ht _ hoff).trans hl
  exact ⟨hclear, hand hclear⟩

end

end

/-- Settles O41: at a quiet edge the shares step one by one, and nothing that Bobbins and Flyers do at it reaches run control. -/
theorem edgesCountSteps : Obligations.EdgesCountSteps := by
  intro s r lv hc
  refine ⟨exec_scheduleStep_off s r lv, fun hon htree hchg hevts =>
    ⟨_, exec_scheduleStep_quiet s r lv hon htree hchg hevts, ?_⟩⟩
  have hr : r.val < 4 := r.isLt
  obtain ⟨hwhorls, hmem, hregions⟩ := quietEdge_keeps s r lv hc hr
  obtain ⟨y, lat, hy, hedge, hytree, hport, hqueue⟩ := getR_quietEdge s r lv hc hr
  obtain ⟨hcount, hkeep⟩ := portTaken_keeps y lat
  rw [← hport, hy, ← hedge]
  refine ⟨hcount, hkeep.trans hytree, fun hnone => (portTaken_none y lat hnone).trans hqueue, fun q hq => ?_, hregions, hwhorls, hmem,
    fun p hp => ⟨getRP_quietEdge_latched s r lv hc hr p hp, getRP_quietEdge_counts s r lv hc hr p hp, fun q hq hne => ?_⟩⟩
  · rw [portTaken_req y lat q hq, hqueue]
  · rw [getRP_quietEdge, getRP_sharesTurned_ne _ r hr (levelsTaken_rparts_wf s r lv hc) p q hq hne, getRP_levelsTaken]

end Sys2Proof.Machine
end


section
/-! SUPPORT. What run control's shared operations do: changes of a table under some keys, the sites and regions of a partition, messages to
the roots of some regions, changes of a partition's shares, outcomes, and messages between hubs. -/

namespace Sys2Proof.Machine

/-! ### Tables changed under some keys -/

/-- A table with the values under some keys changed. -/
def tmapAt {α : Type} [DecidableEq α] (d : α) (f : α → α) (l : List Nat) (t : Tab α) : Tab α :=
  l.foldl (fun t k => tput d t k (f (tget d t k))) t

section
variable {α : Type} [DecidableEq α] (d : α) (f : α → α)

theorem tabWf_tmapAt (l : List Nat) (t : Tab α) (h : tabWf d t = true) : tabWf d (tmapAt d f l t) = true := by
  induction l generalizing t with
  | nil => exact h
  | cons a l ih => exact ih _ (tabWf_tput _ _ _ _ h)

theorem tget_tmapAt (l : List Nat) (t : Tab α) (k : Nat) (h : tabWf d t = true) (hl : l.Nodup) :
    tget d (tmapAt d f l t) k = if k ∈ l then f (tget d t k) else tget d t k := by
  induction l generalizing t with
  | nil => simp [tmapAt]
  | cons a l ih =>
    obtain ⟨ha, hl⟩ := List.nodup_cons.1 hl
    rw [tmapAt, List.foldl_cons, ← tmapAt, ih _ (tabWf_tput _ _ _ _ h) hl, tget_tput _ _ _ _ _ h]
    by_cases hk : k = a
    · subst hk; simp [ha]
    · simp [hk]

end

section
variable (s : State)

/-! ### The parts of a state that hold run control -/

theorem canonical_parts (h : canonical s = true) : tabWf Part.fresh s.parts = true := by
  simp only [canonical, Bool.and_eq_true] at h
  tauto

theorem canonical_evCut (h : canonical s = true) : tabWf 0 s.evCut = true := by
  simp only [canonical, Bool.and_eq_true] at h
  tauto

theorem getP_of_eq {s t : State} (h : t.parts = s.parts) (p : Nat) : getP t p = getP s p := by rw [getP, h, getP]

theorem getP_setP_self (p : Nat) (x : Part) (h : tabWf Part.fresh s.parts = true) : getP (setP s p x) p = x := by
  rw [getP_setP _ _ _ _ h, if_pos rfl]

/-- A share replaced twice. -/
theorem setRP_setRP (p r : Nat) (x y : RPart) (h : tabWf RPart.fresh s.rparts = true) :
    setRP (setRP s p r x) p r y = setRP s p r y := by
  have hput : tput RPart.fresh (tput RPart.fresh s.rparts (4 * p + r) x) (4 * p + r) y = tput RPart.fresh s.rparts (4 * p + r) y := by
    refine tab_ext RPart.fresh _ _ (tabWf_tput _ _ _ _ (tabWf_tput _ _ _ _ h)) (tabWf_tput _ _ _ _ h) fun k => ?_
    rw [tget_tput _ _ _ _ _ (tabWf_tput _ _ _ _ h), tget_tput _ _ _ _ _ h, tget_tput _ _ _ _ _ h]
    split <;> rfl
  simp only [setRP, hput]

/-- Shares of other partitions or other regions lie under other keys. -/
theorem getRP_setRP_ne (p r o q : Nat) (x : RPart) (hr : r < 4) (hq : q < 4) (h : (o, q) ≠ (p, r)) :
    getRP (setRP s p r x) o q = getRP s o q := by
  refine tget_tput_ne _ _ _ _ _ fun hk => h ?_
  rw [Prod.mk.injEq]
  omega

/-! ### Sites and regions of a partition (R92) -/

/-- Two states agree on the grid, the spare sites in service and the partition map. -/
structure SameMap (s t : State) : Prop where
  integ : t.integ = s.integ
  boot : t.boot = s.boot
  byte : ∀ k : Nat, k < 256 → mapByte t k = mapByte s k

theorem SameMap.of_regs {s t : State} (hi : t.integ = s.integ) (hb : t.boot = s.boot) (hr : t.regs = s.regs) : SameMap s t :=
  ⟨hi, hb, fun k _ => by rw [mapByte, reg, regGet, hr, mapByte, reg, regGet]⟩

theorem SameMap.trans {s t u : State} (h : SameMap s t) (k : SameMap t u) : SameMap s u :=
  ⟨k.integ.trans h.integ, k.boot.trans h.boot, fun n hn => (k.byte n hn).trans (h.byte n hn)⟩

/-- Writes of registers outside PRT_MAP keep the map. -/
theorem SameMap.of_reg {s t : State} (hi : t.integ = s.integ) (hb : t.boot = s.boot)
    (hr : ∀ o : Nat, rPrtMap ≤ o → o < rPrtMap + 256 → reg t o = reg s o) : SameMap s t :=
  ⟨hi, hb, fun k hk => by rw [mapByte, hr _ (by omega) (by omega), mapByte]⟩

section
variable {s t : State} (h : SameMap s t)
include h

theorem SameMap.clusters (p : Nat) : clustersOfPart t p = clustersOfPart s p := by
  have hin : clusterIn t = clusterIn s := funext fun k => by rw [clusterIn, h.integ, clusterIn]
  have hall : allClusters t = allClusters s := by rw [allClusters, hin, allClusters]
  rw [clustersOfPart, clustersOfPart, hall]
  refine List.filter_congr fun k hk => ?_
  have hk : k < 256 := List.mem_range.1 (List.mem_filter.1 hk).1
  rw [partOfCluster, h.byte k hk, partOfCluster]

theorem SameMap.sites (p : Nat) : sitesOfPart t p = sitesOfPart s p := by
  have hserve (r : Nat) : spareServes t r = spareServes s r := by rw [spareServes, h.boot, h.integ, spareServes]
  have hsite : siteOf t = siteOf s := funext fun c => by rw [siteOf, hserve, siteOf]
  have hhome : sitesOfHome t = sitesOfHome s := funext fun k => by rw [sitesOfHome, hsite, sitesOfHome]
  rw [sitesOfPart, h.clusters, hhome, sitesOfPart]

theorem SameMap.regions (p : Nat) : regionsOfPart t p = regionsOfPart s p := by
  simp only [regionsOfPart, h.sites]

theorem SameMap.sitesIn (p r : Nat) : Machine.sitesIn t p r = Machine.sitesIn s p r := by
  simp only [Machine.sitesIn, h.sites]

theorem SameMap.live (hp : ∀ r : Nat, (getR t r).powerOff = (getR s r).powerOff) (p : Nat) : liveRegions t p = liveRegions s p := by
  simp only [liveRegions, h.regions, hp]

end

theorem liveRegions_nodup (p : Nat) : (liveRegions s p).Nodup := (List.nodup_range.filter _).filter _

theorem lt_of_mem_liveRegions {p r : Nat} (h : r ∈ liveRegions s p) : r < 4 :=
  List.mem_range.1 (List.mem_filter.1 (List.mem_filter.1 h).1).1

/-- The regions of a partition that have a supply depend on the map and on the supplies. -/
theorem liveRegions_of_eq {s t : State} (hi : t.integ = s.integ) (hb : t.boot = s.boot) (hr : t.regs = s.regs)
    (hR : t.regions = s.regions) (p : Nat) : liveRegions t p = liveRegions s p :=
  (SameMap.of_regs hi hb hr).live (fun r => by rw [getR, hR, getR]) p

/-! ### Regions and shares changed in turn -/

/-- A fold that changes each region of a list. -/
theorem forAll_setR (g : Region → Region) (l : List Nat) :
    forAll l (fun s r => setR s r (g (getR s r))) s = { s with regions := tmapAt Region.fresh g l s.regions } := by
  induction l generalizing s with
  | nil => rfl
  | cons a l ih => exact ih (setR s a (g (getR s a)))

/-- A fold that changes a partition's shares of each region of a list. -/
theorem forAll_setRP (f : RPart → RPart) (p : Nat) (l : List Nat) :
    forAll l (fun s r => setRP s p r (f (getRP s p r))) s =
      { s with rparts := tmapAt RPart.fresh f (l.map (4 * p + ·)) s.rparts } := by
  induction l generalizing s with
  | nil => rfl
  | cons a l ih => exact ih (setRP s p a (f (getRP s p a)))

theorem nodup_shareKeys (p : Nat) {l : List Nat} (h : l.Nodup) : (l.map (4 * p + ·)).Nodup :=
  h.map fun _ _ hab => Nat.add_left_cancel hab

/-- The shares of a partition after its shares of some regions have changed. -/
theorem tget_shares (f : RPart → RPart) (p : Nat) {l : List Nat} (t : Tab RPart) (r : Nat) (h : tabWf RPart.fresh t = true)
    (hl : l.Nodup) :
    tget RPart.fresh (tmapAt RPart.fresh f (l.map (4 * p + ·)) t) (4 * p + r) =
      if r ∈ l then f (tget RPart.fresh t (4 * p + r)) else tget RPart.fresh t (4 * p + r) := by
  rw [tget_tmapAt _ _ _ _ _ h (nodup_shareKeys p hl)]
  simp

/-! ### Take-flag crossings (R51, R52) -/

/-- An item sent stands behind those that have not crossed yet. -/
theorem tfItems_tfSend {α : Type} (x : TakeFlag α) (a : α) : tfItems (tfSend x a) = tfItems x ++ [a] := by
  obtain ⟨hold, take, sync, done, queue⟩ := x
  cases done <;> cases take <;> cases hold <;> cases queue <;> simp [tfSend, tfBegin, tfItems]

/-- A message sent to a root stands behind those on their way. -/
theorem reqsOf_send (x : Region) (q : RootReq) : reqsOf { x with port := tfSend x.port (.req q) } = reqsOf x ++ [q] := by
  simp [reqsOf, tfItems_tfSend]

/-- A region whose crossing has taken one more message of the cut controller. -/
def rootTold (p : Nat) (opc : StOpc) (arg cause : Nat) (x : Region) : Region :=
  { x with port := tfSend x.port (.req ⟨3, p, opc, arg, x.edge, cause⟩) }

@[simp] theorem rootTold_edge (p : Nat) (opc : StOpc) (arg cause : Nat) (x : Region) : (rootTold p opc arg cause x).edge = x.edge := rfl

@[simp] theorem rootTold_powerOff (p : Nat) (opc : StOpc) (arg cause : Nat) (x : Region) :
    (rootTold p opc arg cause x).powerOff = x.powerOff := rfl

theorem reqsOf_rootTold (p : Nat) (opc : StOpc) (arg cause : Nat) (x : Region) :
    reqsOf (rootTold p opc arg cause x) = reqsOf x ++ [⟨3, p, opc, arg, x.edge, cause⟩] := reqsOf_send x _

theorem ctlPush_eq (rs : List Nat) (p : Nat) (opc : StOpc) (arg cause : Nat) :
    ctlPush s rs p opc arg cause = { s with regions := tmapAt Region.fresh (rootTold p opc arg cause) rs s.regions } :=
  forAll_setR s (rootTold p opc arg cause) rs

theorem getR_ctlPush (rs : List Nat) (p : Nat) (opc : StOpc) (arg cause r : Nat) (h : tabWf Region.fresh s.regions = true) (hl : rs.Nodup) :
    getR (ctlPush s rs p opc arg cause) r = if r ∈ rs then rootTold p opc arg cause (getR s r) else getR s r := by
  rw [ctlPush_eq]
  exact tget_tmapAt _ _ _ _ _ h hl

/-- Messages to the roots switch no supply. -/
theorem powerOff_ctlPush (rs : List Nat) (p : Nat) (opc : StOpc) (arg cause r : Nat) (h : tabWf Region.fresh s.regions = true)
    (hl : rs.Nodup) : (getR (ctlPush s rs p opc arg cause) r).powerOff = (getR s r).powerOff := by
  rw [getR_ctlPush _ _ _ _ _ _ _ h hl]
  split <;> rfl

/-! ### Outcomes and operations that leave their issuers (R58, R112, R240) -/

/-- From s to t outcomes have reached their issuers and operations have left them: Whorls, the bare path, the spine, what waits for an
outcome, and of the registers SPN_LATE alone have changed. -/
structure OutcomeWork (s t : State) : Prop where
  eq : t = { s with whorls := t.whorls, aga := t.aga, spine := t.spine, ops := t.ops, arrivals := t.arrivals, lateIds := t.lateIds,
                    regs := t.regs }
  reg : ∀ o : Nat, o ≠ rSpnLate → reg t o = reg s o

theorem OutcomeWork.refl : OutcomeWork s s := ⟨rfl, fun _ _ => rfl⟩

theorem OutcomeWork.trans {s t u : State} (h : OutcomeWork s t) (k : OutcomeWork t u) : OutcomeWork s u where
  eq := by rw [k.eq, h.eq]
  reg o ho := (k.reg o ho).trans (h.reg o ho)

theorem OutcomeWork.forAll {α : Type} (l : List α) (f : State → α → State) (s : State) (h : ∀ t a, OutcomeWork t (f t a)) :
    OutcomeWork s (Machine.forAll l f s) :=
  forAll_keeps (OutcomeWork s) l f s (.refl s) fun t a _ ht => ht.trans (h t a)

theorem OutcomeWork.sameMap {s t : State} (h : OutcomeWork s t) : SameMap s t :=
  .of_reg (by rw [h.eq]) (by rw [h.eq]) fun o _ ho => h.reg o (by simp only [rPrtMap, rSpnLate] at ho ⊢; omega)

theorem outcomeWork_countF_spnLate : OutcomeWork s (countF s rSpnLate 63 0 1) :=
  ⟨rfl, fun _ ho => reg_setReg_ne _ _ _ _ ho⟩

theorem outcomeWork_postArrival (a : Arrival) : OutcomeWork s (postArrival s a) := by
  rcases postArrival_eq s a with h | h | h <;> rw [h]
  · exact ⟨rfl, fun _ _ => rfl⟩
  · exact .trans (t := { s with ops := s.ops.filter fun o => o.id != a.opId, lateIds := s.lateIds.filter fun x => x != a.opId })
      ⟨rfl, fun _ _ => rfl⟩ (outcomeWork_countF_spnLate _)
  · exact ⟨rfl, fun _ _ => rfl⟩

theorem outcomeWork_postWaiter (st : Status) (n : Nat) (w : Waiter) : OutcomeWork s (postWaiter st n s w) := by
  unfold postWaiter
  split <;> exact outcomeWork_postArrival s _

theorem outcomeWork_armDeadline (op : Op) (dl : Nat) : OutcomeWork s (armDeadline s op dl) := by
  unfold armDeadline
  split
  next =>
    dsimp only
    split <;> exact ⟨rfl, fun _ _ => rfl⟩
  next => split <;> exact ⟨rfl, fun _ _ => rfl⟩
  next => exact .refl s

theorem outcomeWork_linksSend (ls : List Nat) (ps : List LPkt) : OutcomeWork s (linksSend s ls ps) := by
  have h := (linkTraffic_linksSend s ls ps).eq
  exact ⟨by rw [h], fun o _ => by rw [h]; rfl⟩

theorem outcomeWork_sendOp (op : Op) : OutcomeWork s (sendOp s op) := by
  unfold sendOp
  extract_lets n e nodes op1 s0 spine s1 s2
  have h1 : OutcomeWork s s1 := ⟨rfl, fun _ _ => rfl⟩
  have h2 : OutcomeWork s s2 := h1.trans (outcomeWork_armDeadline s1 op1 _)
  split
  next => exact h2.trans (outcomeWork_postArrival s2 _)
  next =>
    refine h2.trans (.forAll _ _ _ fun t c => ?_)
    split
    · exact .refl t
    · exact outcomeWork_linksSend t _ _

theorem outcomeWork_releaseHeld (p : Nat) : OutcomeWork s (releaseHeld s p) :=
  .forAll _ _ _ fun t op => by
    unfold issueNow
    split
    · exact outcomeWork_sendOp t op
    · exact ⟨rfl, fun _ _ => rfl⟩

/-! ### Messages to other hubs (R322, R333) -/

/-- A message on a channel changes the channels alone. -/
theorem chSend_eq (ch kind dst : Nat) (pay : List Word) (src : Option Nat) :
    chSend s ch kind dst pay src = { s with chans := (chSend s ch kind dst pay src).chans } := by
  unfold chSend
  extract_lets x
  split <;> rfl

theorem chSendAll_eq (chs : List Nat) (kind : Nat) (pay : List Word) :
    chSendAll s chs kind pay = { s with chans := (chSendAll s chs kind pay).chans } :=
  forAll_keeps (fun t => t = { s with chans := t.chans }) chs _ s rfl fun t ch _ ht => by rw [chSend_eq, ht]

theorem askHubs_eq (p : Nat) (cutId : Word) (dl : Nat) (parent : Option Nat) :
    (askHubs s p cutId dl parent).2 = { s with chans := (askHubs s p cutId dl parent).2.chans } := chSendAll_eq ..

end

end Sys2Proof.Machine
end


section
/-! PROPERTY. The run-control instructions take the lowest FREE ticket and hand the cut controller their request. -/

namespace Sys2Proof.Machine

/-- The lowest FREE ticket is the one an issue takes (R239). -/
theorem freeTk_of_lowestFree (x : Whorl) (t : Nat) (h : LowestFree x t) : freeTk x = some t := by
  obtain ⟨hlt, hfree, hlow⟩ := h
  refine List.find?_range_eq_some.2 ⟨by simp [hfree], List.mem_range.2 hlt, fun u hu => ?_⟩
  simpa using hlow u hu

/-- An instruction whose checks pass acts once its ticket is PENDING (R240, R268). -/
theorem issue_passed (s : State) (w d t : Nat) (kind : TkKind) (now : Bool) (result chan : Option Nat) (lease : List Nat)
    (act : State → Nat → Nat → State) (h : LowestFree (getW s w) t) :
    issue s w d (getW s w) kind none now result chan lease act =
      act (Ticketed s w d t (PendingTicket s w kind (if now then some (s.ht + (getW s w).dl) else none) result chan lease)) t s.opCtr := by
  simp only [issue, freeTk_of_lowestFree _ _ h]
  rfl

/-- The three checks pass (R268). -/
theorem checks_pass : checks true true true = none := rfl

/-- A field of a number that fits below it. -/
theorem bits_word_low (n hi : Nat) (h : n < 2 ^ (hi + 1)) (hhi : hi < 64) : bits (word n) hi 0 = n := by
  have h64 : n < 2 ^ 64 := h.trans_le (Nat.pow_le_pow_right (by decide) (by omega))
  rw [bits, word_toNat, Nat.mod_eq_of_lt h64, pow_zero, Nat.div_one, Nat.sub_zero, Nat.mod_eq_of_lt h]

/-- A field above a number is 0. -/
theorem bits_word_high (n hi lo : Nat) (h : n < 2 ^ lo) : bits (word n) hi lo = 0 := by
  have hlt : (word n).toNat < 2 ^ lo := by
    rw [word_toNat]
    exact (Nat.mod_le _ _).trans_lt h
  rw [bits, Nat.div_eq_of_lt hlt, Nat.zero_mod]

/-- A partition's number in g[a] has the form R273 asks. -/
theorem rcPart_word (p : Nat) (h : p < 64) : rcPart (word p) = (p, true) := by
  rw [rcPart, bits_word_low p 5 h (by decide), bits_word_high p 63 6 h]
  rfl

/-- Settles O17: each instruction's checks pass, so that its request follows its ticket. -/
theorem runControlInstructionsIssue : Obligations.RunControlInstructionsIssue := by
  intro s w d a b region x t p hx hfree hp ha hmay s1 s2 hs1 hs2
  subst hx hs1 hs2
  have hpart := rcPart_word p hp
  have hissue := issue_passed s w d t .runctl (h := hfree)
  refine ⟨fun hex => ⟨?halt, ?snip, fun hdump => ?run⟩, fun n hex hb => ⟨fun hlo hhi hdump => ?step, fun hn hreg hon hplan hlead => ?planned⟩⟩
  case halt =>
    show execHalt w d a s = _
    simp only [execHalt, insn_executes _ _ _ _ hex, ha, hpart, hmay, checks_pass, hissue, if_true]
  case snip =>
    show execSnip w d a s = _
    simp only [execSnip, insn_executes _ _ _ _ hex, ha, hpart, hmay, checks_pass, hissue, if_true]
  case run =>
    show execRun w d a s = _
    simp only [execRun, insn_executes _ _ _ _ hex, ha, hpart, hmay, hdump, Bool.not_false, checks_pass, hissue, if_true]
  case step =>
    show execStep w d a b s = _
    have hnum : (gReg (getW s w) b).toNat = n := by rw [hb, word_toNat, Nat.mod_eq_of_lt (by omega)]
    simp only [execStep, insn_executes _ _ _ _ hex, ha, hpart, hnum, hmay, hdump, hlo, hhi, decide_true, Bool.and_self, Bool.not_false,
      checks_pass, hissue, if_true]
  case planned =>
    show execHaltPlanned w d a b region s = _
    have hstep : bits (gReg (getW s w) b) 47 0 = n := by rw [hb, bits_word_low n 47 hn (by decide)]
    have hhigh : bits (gReg (getW s w) b) 63 48 = 0 := by rw [hb, bits_word_high n 63 48 hn]
    have hform : (regionsOfPart s p).contains region.val = true := by simpa using hreg
    have hbad : (if n < (getRP s p region).stepNo + haltLead s then some Status.late else none) = none := if_neg (Nat.not_lt.2 hlead)
    simp only [execHaltPlanned, insn_executes _ _ _ _ hex, ha, hpart, hstep, hhigh, hform, hmay, hon, hplan, hbad, beq_self_eq_true,
      Bool.and_self, checks_pass, Option.none_or, Option.isSome_none, Bool.false_eq_true, if_false, hissue]
    rfl

end Sys2Proof.Machine
end


section
/-! PROPERTY. PRT_CMD RUN and STEP release a halted partition: CLRMARK, then RUN or STEP, to the roots of its regions. -/

namespace Sys2Proof.Machine

section
variable (s : State) (p : Nat)

/-! ### RUN and STEP sent to the roots (R113, R115) -/

/-- A partition's share of a region to whose root RUN is sent. -/
def shareRun (y : RPart) : RPart := { y with halted := false, owesRun := true, ready := false, markSent := false, away := false }

/-- A partition's share of a region to whose root STEP is sent. -/
def shareStep (y : RPart) : RPart :=
  { y with halted := false, stepDone := false, ready := false, markSent := false, lateCnt := 0, away := false }

/-- The cut that ends a STEP. -/
def stepCutOf (w : Waiter) : Cut :=
  { tmoFrom := none, waiters := [w], stepCut := true, cutId := 0, parent := none, deadline := none, children := [], acted := false,
    awaits := false }

theorem sendRun_eq : sendRun s p =
    { s with rparts := tmapAt RPart.fresh shareRun ((liveRegions s p).map (4 * p + ·)) s.rparts,
             regions := tmapAt Region.fresh (rootTold p .run 0 1) (liveRegions s p) s.regions } := by
  have hshares := forAll_setRP s shareRun p (liveRegions s p)
  simp only [shareRun] at hshares
  simp only [sendRun, hshares, ctlPush_eq]

/-- A partition that STEP sets stepping. -/
def stepTaken (w : Waiter) : State :=
  setP s p { getP s p with st := .stepping, cut := false, cutNow := some (stepCutOf w),
                           runTo := if (getP s p).st = .running then s.ht + 1 else (getP s p).runTo }

theorem sendStep_eq (n : Nat) (w : Waiter) : sendStep s p n w =
    { s with parts := (stepTaken s p w).parts,
             rparts := tmapAt RPart.fresh shareStep ((liveRegions s p).map (4 * p + ·)) s.rparts,
             regions := tmapAt Region.fresh (rootTold p .step (n - 1) 1) (liveRegions s p) s.regions } := by
  have hshares (t : State) := forAll_setRP t shareStep p (liveRegions s p)
  simp only [shareStep] at hshares
  simp only [sendStep, hshares, ctlPush_eq]
  rfl

theorem sendClr_eq : sendClr s p = { s with regions := tmapAt Region.fresh (rootTold p .clrmark 0 1) (liveRegions s p) s.regions } :=
  ctlPush_eq ..

/-- CLRMARK leaves a partition its regions. -/
theorem liveRegions_sendClr (h : tabWf Region.fresh s.regions = true) : liveRegions (sendClr s p) p = liveRegions s p := by
  have hmap : SameMap s (sendClr s p) := by
    rw [sendClr_eq]
    exact .of_regs rfl rfl rfl
  exact hmap.live (fun r => powerOff_ctlPush s _ p _ _ _ r h (liveRegions_nodup s p)) p

/-! ### A hub that leaves the tree of a cut (R336) -/

/-- From s to t partitions have left a tree and its rendezvous. -/
structure TreeLeft (s t : State) : Prop where
  eq : t = { s with parts := t.parts }
  wf : tabWf Part.fresh t.parts = true
  st : ∀ q : Nat, (getP t q).st = (getP s q).st
  cut : ∀ q : Nat, (getP t q).cut = (getP s q).cut
  resuming : ∀ q : Nat, (getP t q).resuming = (getP s q).resuming

theorem treeLeft_refl (h : tabWf Part.fresh s.parts = true) : TreeLeft s s := ⟨rfl, h, fun _ => rfl, fun _ => rfl, fun _ => rfl⟩

theorem TreeLeft.trans {s t u : State} (h : TreeLeft s t) (k : TreeLeft t u) : TreeLeft s u where
  eq := by rw [k.eq, h.eq]
  wf := k.wf
  st q := (k.st q).trans (h.st q)
  cut q := (k.cut q).trans (h.cut q)
  resuming q := (k.resuming q).trans (h.resuming q)

theorem treeLeft_setP (q : Nat) (tree : Option Tree) (rdv : List Rdv) (h : tabWf Part.fresh s.parts = true) :
    TreeLeft s (setP s q { getP s q with tree := tree, rdv := rdv }) where
  eq := rfl
  wf := setP_wf _ _ _ h
  st o := by rw [getP_setP _ _ _ _ h]; split <;> simp [*]
  cut o := by rw [getP_setP _ _ _ _ h]; split <;> simp [*]
  resuming o := by rw [getP_setP _ _ _ _ h]; split <;> simp [*]

theorem treeLeft_leaveTree (h : tabWf Part.fresh s.parts = true) : TreeLeft s (leaveTree s p) := by
  unfold leaveTree
  split
  next =>
    split
    next => exact treeLeft_refl s h
    next => exact forAll_keeps (TreeLeft s) _ _ s (treeLeft_refl s h) fun u q _ hu => hu.trans (treeLeft_setP u q none _ hu.wf)
  next => exact treeLeft_refl s h

/-! ### A partition released (R115, Table 4.4) -/

/-- From s to t a partition has been released: its share of each region with supply has changed, and CLRMARK and another message stand behind
those of each root. -/
structure Released (s t : State) (opc : StOpc) (arg : Nat) (share : RPart → RPart) : Prop where
  sites : t.sites = s.sites
  hubMem : t.hubMem = s.hubMem
  shares : t.rparts = tmapAt RPart.fresh share ((liveRegions s p).map (4 * p + ·)) s.rparts
  regions : t.regions = tmapAt Region.fresh (rootTold p opc arg 1) (liveRegions s p)
    (tmapAt Region.fresh (rootTold p .clrmark 0 1) (liveRegions s p) s.regions)

section
variable {s p} {t u : State} {opc : StOpc} {arg : Nat} {share : RPart → RPart}

theorem Released.getRP (h : Released p s t opc arg share) (hS : tabWf RPart.fresh s.rparts = true) {r : Nat} (hr : r ∈ liveRegions s p) :
    Machine.getRP t p r = share (Machine.getRP s p r) := by
  rw [Machine.getRP, h.shares, tget_shares _ _ _ _ hS (liveRegions_nodup s p), if_pos hr, Machine.getRP]

theorem Released.reqs (h : Released p s t opc arg share) (hR : tabWf Region.fresh s.regions = true) {r : Nat} (hr : r ∈ liveRegions s p) :
    reqsOf (getR t r) = reqsOf (getR s r) ++ [⟨3, p, .clrmark, 0, (getR s r).edge, 1⟩, ⟨3, p, opc, arg, (getR s r).edge, 1⟩] := by
  have hl := liveRegions_nodup s p
  rw [getR, h.regions, tget_tmapAt _ _ _ _ _ (tabWf_tmapAt _ _ _ _ hR) hl, if_pos hr, tget_tmapAt _ _ _ _ _ hR hl, if_pos hr, ← getR]
  simp only [reqsOf_rootTold, rootTold_edge, List.append_assoc, List.cons_append, List.nil_append]

/-- A change of the partitions alone keeps what a release reads. -/
theorem liveRegions_cleared (hu : u = { s with parts := u.parts }) (hR : tabWf Region.fresh s.regions = true) :
    liveRegions (sendClr u p) p = liveRegions s p ∧ u.rparts = s.rparts ∧ u.regions = s.regions ∧ liveRegions u p = liveRegions s p := by
  have hregions : u.regions = s.regions := by rw [hu]
  have hlive : liveRegions u p = liveRegions s p :=
    liveRegions_of_eq (by rw [hu]) (by rw [hu]) (by rw [hu]) hregions p
  exact ⟨(liveRegions_sendClr u p (by rw [hregions, hR])).trans hlive, by rw [hu], hregions, hlive⟩

theorem released_sendRun (hu : u = { s with parts := u.parts }) (hR : tabWf Region.fresh s.regions = true) :
    Released p s (sendRun (sendClr u p) p) .run 0 shareRun := by
  obtain ⟨hclr, hshares, hregions, hlive⟩ := liveRegions_cleared hu hR
  have hsites : u.sites = s.sites := by rw [hu]
  have hmem : u.hubMem = s.hubMem := by rw [hu]
  rw [sendRun_eq, hclr, sendClr_eq, hlive, hregions]
  exact ⟨hsites, hmem, by rw [← hshares], rfl⟩

theorem released_sendStep (n : Nat) (w : Waiter) (hu : u = { s with parts := u.parts })
    (hR : tabWf Region.fresh s.regions = true) : Released p s (sendStep (sendClr u p) p n w) .step (n - 1) shareStep := by
  obtain ⟨hclr, hshares, hregions, hlive⟩ := liveRegions_cleared hu hR
  have hsites : u.sites = s.sites := by rw [hu]
  have hmem : u.hubMem = s.hubMem := by rw [hu]
  rw [sendStep_eq, hclr, sendClr_eq, hlive, hregions]
  exact ⟨hsites, hmem, by rw [← hshares], rfl⟩

end

/-! ### RUN and STEP requested of a halted partition (R113, R115) -/

/-- The partition as RUN takes it up. -/
def runTaken (w : Waiter) : State :=
  setP s p { getP s p with cut := false, late := false, resuming := true, runOwed := (getP s p).runOwed ++ [w] }

section
variable (w : Waiter) (hx : (getP s p).st = .halted) (hres : (getP s p).resuming = false) (hrdv : (getP s p).rdv = [])
  (htree : rdvTree (getP s p) = none)
include hx hres hrdv htree

theorem runReq_halted : runReq s p w = sendRun (sendClr (leaveTree (runTaken s p w) p) p) p := by
  have hbusy : rdvBusy (getP s p) = false := by rw [rdvBusy, hrdv]; rfl
  have hstart : runReq s p w = runStart s p [w] := by simp only [runReq, hx, hres, hbusy, Bool.false_eq_true, if_false]
  rw [hstart]
  unfold runStart
  dsimp only
  split
  next htree' _ => cases htree.symm.trans htree'
  next => rfl

theorem stepReq_halted (n : Nat) (hcut : (getP s p).cutNow = none) (hlive : liveRegions s p ≠ []) :
    stepReq s p n w = sendStep (sendClr (leaveTree s p) p) p n w := by
  have hbusy : rdvBusy (getP s p) = false := by rw [rdvBusy, hrdv]; rfl
  simp [stepReq, hx, hres, hbusy, hcut, stepStart, hlive, htree]

end

theorem runTaken_leaves (w : Waiter) (h : tabWf Part.fresh s.parts = true) :
    leaveTree (runTaken s p w) p = { s with parts := (leaveTree (runTaken s p w) p).parts } := by
  rw [(treeLeft_leaveTree (runTaken s p w) p (setP_wf s p _ h)).eq, runTaken, setP]

/-- The partition after RUN. -/
theorem getP_runTaken_released (w : Waiter) (h : tabWf Part.fresh s.parts = true) {t : State}
    (ht : t = sendRun (sendClr (leaveTree (runTaken s p w) p) p) p) :
    (getP t p).st = (getP s p).st ∧ (getP t p).cut = false ∧ (getP t p).resuming = true := by
  have hleft := treeLeft_leaveTree (runTaken s p w) p (setP_wf s p _ h)
  have hget : getP t p = getP (leaveTree (runTaken s p w) p) p := by
    rw [ht, sendRun_eq, sendClr_eq]
    rfl
  have hself : getP (runTaken s p w) p = _ := getP_setP_self s p _ h
  rw [hget, hleft.st, hleft.cut, hleft.resuming, hself]
  exact ⟨rfl, rfl, rfl⟩

/-- The partition after STEP. -/
theorem getP_sendStep (n : Nat) (w : Waiter) (h : tabWf Part.fresh s.parts = true) :
    (getP (sendStep s p n w) p).st = .stepping ∧ (getP (sendStep s p n w) p).cut = false := by
  have hget : getP (sendStep s p n w) p = getP (stepTaken s p w) p := getP_of_eq (by rw [sendStep_eq]) p
  have hself : getP (stepTaken s p w) p = _ := getP_setP_self s p _ h
  rw [hget, hself]
  exact ⟨rfl, rfl⟩

end

/-! ### The commands (R122, R215) -/

section
variable (s : State) (who : Who) (p : Fin 64) (arg : BitVec 16)

theorem exec_prtCmdRun_free (hmay : mayPart s who 2 p = true) (hdump : dumpHolds s who p = false) :
    exec (.prtCmdRun who p) s = .next (runReq (silentWaiter s).2 p (silentWaiter s).1) := by
  show execPrtCmdRun who p s = _
  simp only [execPrtCmdRun, hmay, hdump, Bool.not_true, Bool.false_eq_true, if_false]
  rfl

theorem exec_prtCmdStep_free (hmay : mayPart s who 2 p = true) (hdump : dumpHolds s who p = false) :
    exec (.prtCmdStep who p arg) s = .next (stepReq (silentWaiter s).2 p (arg.toNat + 1) (silentWaiter s).1) := by
  show execPrtCmdStep who p arg s = _
  simp only [execPrtCmdStep, hmay, hdump, Bool.not_true, Bool.false_eq_true, if_false]
  rfl

theorem exec_prtCmd_refused (h : mayPart s who 2 p = false) :
    exec (.prtCmdRun who p) s = .next s ∧ exec (.prtCmdStep who p arg) s = .next s :=
  ⟨if_pos (by simp [h]), if_pos (by simp [h])⟩

theorem exec_prtCmd_blocked (hmay : mayPart s who 2 p = true) (hdump : dumpHolds s who p = true) :
    exec (.prtCmdRun who p) s = .next (countF s rDmpStat 15 0 1) ∧
      exec (.prtCmdStep who p arg) s = .next (countF s rDmpStat 15 0 1) := by
  constructor
  · show execPrtCmdRun who p s = _
    simp only [execPrtCmdRun, hmay, hdump, Bool.not_true, Bool.false_eq_true, if_false, if_true, ok]
  · show execPrtCmdStep who p arg s = _
    simp only [execPrtCmdStep, hmay, hdump, Bool.not_true, Bool.false_eq_true, if_false, if_true, ok]

end

/-- Settles O28: RUN and STEP leave the tree of the last cut, and then the roots of the live regions take CLRMARK and the message. -/
theorem runAndStepCommandsReleaseAPartition : Obligations.RunAndStepCommandsReleaseAPartition := by
  intro s who p arg x hx hc
  subst hx
  refine ⟨exec_prtCmd_refused s who p arg, exec_prtCmd_blocked s who p arg, fun hmay hdump => ?_⟩
  have hP := canonical_parts s hc
  have hR := canonical_regions s hc
  have hS := canonical_rparts s hc
  refine ⟨fun hrun => ⟨_, exec_prtCmdRun_free s who p hmay hdump, ?running⟩, fun hhalt hres hrdv htree =>
    ⟨⟨_, exec_prtCmdRun_free s who p hmay hdump, ?run⟩, fun hcut hlive => ⟨_, exec_prtCmdStep_free s who p arg hmay hdump, ?step⟩⟩⟩
  case running =>
    have hreq : runReq (silentWaiter s).2 p (silentWaiter s).1 = postWaiter .ok 0 (silentWaiter s).2 (silentWaiter s).1 := by
      simp only [runReq, show (getP (silentWaiter s).2 p).st = .running from hrun]
    rw [hreq, (outcomeWork_postWaiter _ .ok 0 _).eq]
    exact ⟨rfl, rfl, rfl⟩
  case run =>
    have hreq := runReq_halted (silentWaiter s).2 p (silentWaiter s).1 hhalt hres hrdv htree
    obtain ⟨hst, hcut, hresuming⟩ := getP_runTaken_released (silentWaiter s).2 p _ hP hreq
    have hrel : Released p (silentWaiter s).2 _ .run 0 shareRun :=
      released_sendRun (runTaken_leaves (silentWaiter s).2 p (silentWaiter s).1 hP) hR
    rw [← hreq] at hrel
    refine ⟨hst.trans hhalt, hcut, hresuming, hrel.sites, hrel.hubMem, fun r hr => ?_⟩
    rw [hrel.getRP hS hr]
    exact ⟨rfl, rfl, hrel.reqs hR hr⟩
  case step =>
    have hreq := stepReq_halted (silentWaiter s).2 p (silentWaiter s).1 hhalt hres hrdv htree (arg.toNat + 1) hcut hlive
    have hleft := treeLeft_leaveTree (silentWaiter s).2 p hP
    have hrel := released_sendStep (p := p) (arg.toNat + 1) (silentWaiter s).1 hleft.eq hR
    obtain ⟨hst, hcut⟩ := getP_sendStep (sendClr (leaveTree (silentWaiter s).2 p) p) p (arg.toNat + 1) (silentWaiter s).1
      (by rw [sendClr_eq]; exact hleft.wf)
    rw [hreq]
    refine ⟨hst, hcut, hrel.sites, hrel.hubMem, fun r hr => ?_⟩
    rw [hrel.getRP hS hr]
    exact ⟨rfl, hrel.reqs hR hr⟩

end Sys2Proof.Machine
end


section
/-! PROPERTY. PRT_CMD HALT and SNIP start a cut: the partition is halting, and each of its roots that has taken no HALT is sent one. -/

namespace Sys2Proof.Machine

section
variable (s : State) (p : Nat)

/-! ### HALT sent to the roots (R107) -/

/-- A partition's share of a region that takes part in a cut again. -/
def shareBack (y : RPart) : RPart := { y with away := false }

/-- A partition's share of a region whose root has been asked to halt it. -/
def shareAsked (y : RPart) : RPart := { y with markSent := false, ready := false, lateCnt := 0, halted := true }

/-- HALT asked of one region's root, unless it has taken one or is the root at which the halt arose. -/
def askHalt (at_ : Option Nat) (cause : Nat) (s : State) (r : Nat) : State :=
  let t := setRP s p r (shareAsked (getRP s p r))
  if (getRP s p r).halted ∨ at_ = some r then t else ctlPush t [r] p .halt 0 cause

/-- The regions whose roots are sent a HALT. -/
def haltsFor (at_ : Option Nat) (l : List Nat) : List Nat := l.filter fun r => !decide ((getRP s p r).halted ∨ at_ = some r)

theorem forAll_askHalt (at_ : Option Nat) (cause : Nat) {l : List Nat} (hl : l.Nodup) : forAll l (askHalt p at_ cause) s =
    { s with rparts := tmapAt RPart.fresh shareAsked (l.map (4 * p + ·)) s.rparts,
             regions := tmapAt Region.fresh (rootTold p .halt 0 cause) (haltsFor s p at_ l) s.regions } := by
  induction l generalizing s with
  | nil => rfl
  | cons a l ih =>
    obtain ⟨ha, hl⟩ := List.nodup_cons.1 hl
    have hkeep : haltsFor (askHalt p at_ cause s a) p at_ l = haltsFor s p at_ l := by
      refine List.filter_congr fun r hr => ?_
      have hne : 4 * p + r ≠ 4 * p + a := fun h => ha (Nat.add_left_cancel h ▸ hr)
      have hshares : (askHalt p at_ cause s a).rparts = (setRP s p a (shareAsked (getRP s p a))).rparts := by
        unfold askHalt
        dsimp only
        split
        · rfl
        · rw [ctlPush_eq]
      rw [getRP, hshares, setRP, tget_tput_ne _ _ _ _ _ hne, ← getRP]
    show forAll l (askHalt p at_ cause) (askHalt p at_ cause s a) = _
    rw [ih _ hl, hkeep]
    unfold askHalt
    dsimp only
    split
    next h => simp only [haltsFor, List.filter_cons, h, decide_true, Bool.not_true, Bool.false_eq_true, if_false]; rfl
    next h =>
      simp only [haltsFor, List.filter_cons, h, decide_false, Bool.not_false, if_true, ctlPush_eq]
      rfl

/-! ### A cut begun (R107, R333) -/

/-- From s to t partition p, the funnel and what goes to other hubs have changed. -/
structure CutFrame (s t : State) : Prop where
  eq : t = { s with parts := t.parts, funnel := t.funnel, chans := t.chans, cutCount := t.cutCount, knownCuts := t.knownCuts }
  wf : tabWf Part.fresh s.parts = true → tabWf Part.fresh t.parts = true
  others : ∀ o : Nat, o ≠ p → getP t o = getP s o

section
variable {s p} {t u : State}

theorem CutFrame.trans (h : CutFrame p s t) (k : CutFrame p t u) : CutFrame p s u where
  eq := by rw [k.eq, h.eq]
  wf hs := k.wf (h.wf hs)
  others o ho := (k.others o ho).trans (h.others o ho)

theorem CutFrame.of_parts (heq : t = { s with funnel := t.funnel, chans := t.chans, cutCount := t.cutCount, knownCuts := t.knownCuts }) :
    CutFrame p s t where
  eq := by rw [heq]
  wf hs := by rw [heq]; exact hs
  others o _ := getP_of_eq (by rw [heq]) o

theorem CutFrame.setP (x : Part) : CutFrame p s (setP s p x) where
  eq := rfl
  wf := setP_wf s p x
  others o ho := getP_setP_ne s p o x ho

end

theorem cutFrame_holdEnded (arg : Nat) : CutFrame p s (holdEnded s p arg) := by
  unfold holdEnded
  exact (CutFrame.setP _).trans (.of_parts (by rw [hevt_eq]))

theorem cutFrame_askHubs (cutId : Word) (dl : Nat) (parent : Option Nat) : CutFrame p s (askHubs s p cutId dl parent).2 :=
  .of_parts (by rw [askHubs_eq])

theorem cutFrame_newCutId : CutFrame p s (newCutId s).2 := .of_parts rfl

/-- A cut of a partition with a region that has supply: the state before the roots are asked. -/
theorem cutStart_live (at_ : Option Nat) (ws : List Waiter) (hP : tabWf Part.fresh s.parts = true) (hlive : liveRegions s p ≠ []) :
    ∃ (u : State) (q : Cut),
      CutFrame p { s with rparts := tmapAt RPart.fresh shareBack ((liveRegions s p).map (4 * p + ·)) s.rparts } u ∧
      (getP u p).st = .halting ∧ (getP u p).cut = false ∧ (getP u p).cutNow = some q ∧ q.tmoFrom = some s.ht ∧ q.parent = none ∧
      cutStart s p at_ ws none = forAll (liveRegions s p) (askHalt p at_ 0x10) u := by
  have hback := forAll_setRP s shareBack p (liveRegions s p)
  generalize hs0 : ({ s with rparts := tmapAt RPart.fresh shareBack ((liveRegions s p).map (4 * p + ·)) s.rparts } : State) = t0 at hback ⊢
  have hlive0 : liveRegions t0 p = liveRegions s p := by rw [← hs0]; rfl
  unfold cutStart
  extract_lets x ws1 s0 live s1 a dl b cut y s2
  have h0 : s0 = t0 := hback
  have hl : live = liveRegions s p := by rw [← hlive0, ← h0]
  have h1 : CutFrame p t0 s1 := by
    rw [← h0]
    simp only [s1]
    split
    · exact cutFrame_holdEnded s0 p 2
    · exact .of_parts rfl
  have h2 : CutFrame p t0 b.2 := (h1.trans (cutFrame_newCutId s1 p)).trans (cutFrame_askHubs a.2 p a.1 dl _)
  have hP2 : tabWf Part.fresh b.2.parts = true := h2.wf (by rw [← hs0]; exact hP)
  have hself : getP s2 p = _ := getP_setP_self b.2 p _ hP2
  refine ⟨s2, cut, h2.trans (.setP _), ?_, ?_, ?_, rfl, rfl, ?_⟩
  · rw [hself]
  · rw [hself]
  · rw [hself]
  · rw [if_neg (by rw [hl]; exact hlive), hl]
    rfl

/-! ### The cause that the HALT messages carry (log entry 24) -/

/-- A HALT of the cut controller's that still carries no cause takes one. -/
def causeOf (cause : Nat) (q : RootReq) : RootReq := if q.part = p ∧ q.opc = .halt ∧ q.cause = 0x10 then { q with cause := cause } else q

/-- The same of an item that crosses to a root. -/
def causeOfItem (cause : Nat) : RootItem → RootItem
  | .req q => .req (causeOf p cause q)
  | .chg g => .chg g

/-- A region whose HALT messages have taken their cause. -/
def regionCaused (cause : Nat) (x : Region) : Region :=
  { x with queue := x.queue.map (causeOf p cause),
           port := { x.port with hold := x.port.hold.map (causeOfItem p cause), queue := x.port.queue.map (causeOfItem p cause) } }

theorem reqsOf_regionCaused (cause : Nat) (x : Region) : reqsOf (regionCaused p cause x) = (reqsOf x).map (causeOf p cause) := by
  have hitems : tfItems (regionCaused p cause x).port = (tfItems x.port).map (causeOfItem p cause) := by
    cases hdone : x.port.done <;> cases hhold : x.port.hold <;> simp [tfItems, regionCaused, hdone, hhold]
  rw [reqsOf, hitems, reqsOf, List.map_append, List.filterMap_map, List.map_filterMap]
  congr 1
  refine List.filterMap_congr fun q _ => ?_
  cases q <;> rfl

/-- A cut in which no HALT is on its way has its cause at once. -/
def causeNoted (cause : Nat) : State :=
  let sent := (liveRegions s p).any fun r => (reqsOf (getR s r)).any fun q => q.part == p && q.opc == .halt && q.cause != 0
  if (getP s p).cutNow.isSome && !sent then setP s p { getP s p with cause := cause } else s

theorem causeNoted_eq (cause : Nat) : causeNoted s p cause = { s with parts := (causeNoted s p cause).parts } := by
  unfold causeNoted
  dsimp only
  split <;> rfl

theorem cutFrame_causeNoted (cause : Nat) : CutFrame p s (causeNoted s p cause) := by
  unfold causeNoted
  dsimp only
  split
  · exact .setP _
  · exact .of_parts rfl

/-- CAUSE alone changes of the partition. -/
theorem getP_causeNoted (cause : Nat) (h : tabWf Part.fresh s.parts = true) :
    ∃ c : Nat, getP (causeNoted s p cause) p = { getP s p with cause := c } := by
  unfold causeNoted
  dsimp only
  split
  · exact ⟨cause, getP_setP_self s p _ h⟩
  · exact ⟨(getP s p).cause, rfl⟩

theorem setCause_eq (cause : Nat) : setCause s p cause =
    { causeNoted s p cause with regions := tmapAt Region.fresh (regionCaused p cause) (liveRegions s p) s.regions } := by
  have hregions := forAll_setR (causeNoted s p cause) (regionCaused p cause) (liveRegions s p)
  have hkeep : (causeNoted s p cause).regions = s.regions := by rw [causeNoted_eq]
  rw [hkeep] at hregions
  rw [← hregions]
  rfl

/-! ### HALT and SNIP of a partition that runs (R107) -/

/-- A partition that a cut has taken at a hub time. -/
def Halting (t : State) (ht : Nat) : Prop :=
  ∃ q : Cut, (getP t p).st = .halting ∧ (getP t p).cut = false ∧ (getP t p).cutNow = some q ∧ q.tmoFrom = some ht ∧ q.parent = none

/-- From s to t a cut of p has begun: the partition is halting, and the messages of the root of each region with supply that had taken no
HALT end with one of a cause. -/
structure CutAsked (s t : State) (cause : Nat) : Prop where
  eq : t = { s with parts := t.parts, rparts := t.rparts, regions := t.regions, funnel := t.funnel, chans := t.chans,
                    cutCount := t.cutCount, knownCuts := t.knownCuts }
  halting : Halting p t s.ht
  others : ∀ o : Nat, o ≠ p → getP t o = getP s o
  halted : ∀ r ∈ liveRegions s p, (getRP t p r).halted = true
  asked : ∀ r ∈ liveRegions s p, (getRP s p r).halted = false → ⟨3, p, .halt, 0, (getR s r).edge, cause⟩ ∈ reqsOf (getR t r)
  off : ∀ r : Nat, (getR t r).powerOff = (getR s r).powerOff
  wfR : tabWf Region.fresh t.regions = true
  wfP : tabWf Part.fresh t.parts = true

section
variable (hP : tabWf Part.fresh s.parts = true) (hS : tabWf RPart.fresh s.rparts = true) (hR : tabWf Region.fresh s.regions = true)
include hP hS hR

theorem cutAsked_cutStart (ws : List Waiter) (hlive : liveRegions s p ≠ []) : CutAsked p s (cutStart s p none ws none) 0x10 := by
  obtain ⟨u, q, hframe, hst, hcut, hnow, htmo, hparent, hstart⟩ := cutStart_live s p none ws hP hlive
  have hl := liveRegions_nodup s p
  have hshares : u.rparts = tmapAt RPart.fresh shareBack ((liveRegions s p).map (4 * p + ·)) s.rparts := by rw [hframe.eq]
  have hregions : u.regions = s.regions := by rw [hframe.eq]
  have hSu : tabWf RPart.fresh u.rparts = true := by
    rw [hshares]
    exact tabWf_tmapAt _ _ _ _ hS
  have hhalted (r : Nat) : (getRP u p r).halted = (getRP s p r).halted := by
    rw [getRP, hshares, tget_shares _ _ _ _ hS hl]
    split <;> rfl
  rw [forAll_askHalt u p none 0x10 hl, hregions] at hstart
  generalize cutStart s p none ws none = t at hstart
  have hget (r : Nat) : getR t r = if r ∈ haltsFor u p none (liveRegions s p) then rootTold p .halt 0 0x10 (getR s r) else getR s r := by
    rw [hstart, getR]
    exact tget_tmapAt _ _ _ _ _ hR (hl.filter _)
  have hpart (o : Nat) : getP t o = getP u o := getP_of_eq (by rw [hstart]) o
  refine ⟨by rw [hstart, hframe.eq], ⟨q, by rw [hpart, hst], by rw [hpart, hcut], by rw [hpart, hnow], htmo, hparent⟩,
    fun o ho => (hpart o).trans (hframe.others o ho), fun r hr => ?_, fun r hr hno => ?_, fun r => ?_, ?_, ?_⟩
  · rw [getRP, hstart]
    dsimp only
    rw [tget_shares _ _ _ _ hSu hl, if_pos hr]
    rfl
  · have hmem : r ∈ haltsFor u p none (liveRegions s p) := List.mem_filter.2 ⟨hr, by simp [hhalted, hno]⟩
    rw [hget, if_pos hmem, reqsOf_rootTold]
    exact List.mem_append_right _ (List.mem_singleton_self _)
  · rw [hget]
    split <;> rfl
  · rw [hstart]
    exact tabWf_tmapAt _ _ _ _ hR
  · rw [hstart]
    exact hframe.wf hP

/-- The cause comes into the messages that the cut has sent. -/
theorem cutAsked_setCause (cause : Nat) (ws : List Waiter) (hlive : liveRegions s p ≠ []) :
    CutAsked p s (setCause (cutStart s p none ws none) p cause) cause := by
  have h := cutAsked_cutStart s p hP hS hR ws hlive
  generalize cutStart s p none ws none = v at h
  have hsame : liveRegions v p = liveRegions s p :=
    (SameMap.of_regs (by rw [h.eq]) (by rw [h.eq]) (by rw [h.eq])).live h.off p
  have hframe := cutFrame_causeNoted v p cause
  obtain ⟨c, hc⟩ := getP_causeNoted v p cause h.wfP
  have ht := setCause_eq v p cause
  rw [hsame] at ht
  generalize setCause v p cause = t at ht
  have hpart (o : Nat) : getP t o = getP (causeNoted v p cause) o := getP_of_eq (by rw [ht]) o
  have hself : getP t p = { getP v p with cause := c } := (hpart p).trans hc
  have hget (r : Nat) : getR t r = if r ∈ liveRegions s p then regionCaused p cause (getR v r) else getR v r := by
    rw [ht, getR]
    exact tget_tmapAt _ _ _ _ _ h.wfR (liveRegions_nodup s p)
  have hshares : t.rparts = v.rparts := by rw [ht, causeNoted_eq]
  refine ⟨by rw [ht, causeNoted_eq, h.eq], ?_, fun o ho => ?_, fun r hr => ?_, fun r hr hno => ?_, fun r => ?_, ?_, ?_⟩
  · obtain ⟨q, hst, hcut, hnow, htmo, hparent⟩ := h.halting
    exact ⟨q, by rw [hself, hst], by rw [hself, hcut], by rw [hself, hnow], htmo, hparent⟩
  · rw [hpart, hframe.others o ho, h.others o ho]
  · rw [getRP_of_eq hshares, h.halted r hr]
  · rw [hget, if_pos hr, reqsOf_regionCaused]
    exact List.mem_map.2 ⟨_, h.asked r hr hno, by simp [causeOf]⟩
  · rw [hget, ← h.off]
    split <;> rfl
  · rw [ht]
    exact tabWf_tmapAt _ _ _ _ h.wfR
  · rw [ht]
    exact hframe.wf h.wfP

end

/-! ### A partition all of whose regions are off (R120) -/

section
variable (hP : tabWf Part.fresh s.parts = true)
include hP

/-- A cut that no region is left for: the partition reads HALTED with CUT at 0. -/
theorem cutNone_frame (ws : List Waiter) (n : Nat) (owed : Option Cut) {t : State} (ht : t = cutNone s p ws n owed) :
    SameMap s t ∧ t.regions = s.regions ∧ t.sites = s.sites ∧ (getP t p).st = .halted ∧ (getP t p).cut = false ∧
      (getP t p).cutNow = none ∧ (getP t p).nfail = min 0xFFFF n := by
  subst ht
  unfold cutNone
  extract_lets x s1
  have hout : OutcomeWork s1 (releaseHeld (forAll ws (postWaiter .noagent n) s1) p) :=
    (OutcomeWork.forAll _ _ _ fun t w => outcomeWork_postWaiter t _ _ w).trans (outcomeWork_releaseHeld _ p)
  generalize releaseHeld (forAll ws (postWaiter .noagent n) s1) p = t at hout
  have hself : getP t p = _ := (getP_of_eq (by rw [hout.eq]) p).trans (getP_setP_self s p _ hP)
  rw [hself]
  exact ⟨(SameMap.of_regs (s := s) (t := s1) rfl rfl rfl).trans hout.sameMap, by rw [hout.eq]; rfl, by rw [hout.eq]; rfl, rfl, rfl, rfl, rfl⟩

theorem cutNone_wf (ws : List Waiter) (n : Nat) (owed : Option Cut) : tabWf Part.fresh (cutNone s p ws n owed).parts = true := by
  unfold cutNone
  extract_lets x s1
  have hout : OutcomeWork s1 (releaseHeld (forAll ws (postWaiter .noagent n) s1) p) :=
    (OutcomeWork.forAll _ _ _ fun t w => outcomeWork_postWaiter t _ _ w).trans (outcomeWork_releaseHeld _ p)
  rw [hout.eq]
  exact setP_wf s p _ hP

theorem cutStart_off (cause : Nat) (ws : List Waiter) (hlive : liveRegions s p = []) {t : State}
    (ht : t = setCause (cutStart s p none ws none) p cause) :
    (getP t p).st = .halted ∧ (getP t p).cut = false ∧ t.regions = s.regions ∧ t.sites = s.sites := by
  obtain ⟨ws1, hstart⟩ : ∃ ws1 : List Waiter, cutStart s p none ws none = cutNone s p ws1 (nfailOf s p) none := by
    unfold cutStart
    extract_lets x ws1 s0 live
    have h0 : s0 = s := by
      simp only [s0, hlive]
      rfl
    refine ⟨ws1, ?_⟩
    rw [if_pos (by simp only [live, h0, hlive]), h0]
    rfl
  obtain ⟨hmap, hregions, hsites, hst, hcut, -, -⟩ := cutNone_frame s p hP ws1 _ none hstart
  have hwf : tabWf Part.fresh (cutStart s p none ws none).parts = true := by
    rw [hstart]
    exact cutNone_wf s p hP ws1 _ none
  generalize cutStart s p none ws none = v at ht hmap hregions hsites hst hcut hwf
  have hnone : liveRegions v p = [] := (hmap.live (fun r => by rw [getR_of_eq hregions]) p).trans hlive
  obtain ⟨c, hc⟩ := getP_causeNoted v p cause hwf
  rw [setCause_eq, hnone] at ht
  have hself : getP t p = { getP v p with cause := c } := (getP_of_eq (by rw [ht]) p).trans hc
  rw [hself]
  exact ⟨hst, hcut, by rw [ht]; exact hregions, by rw [ht, causeNoted_eq]; exact hsites⟩

end

/-! ### The requests (R110, R120) -/

section
variable (cause : Nat) (w : Waiter)

/-- A partition that runs is cut. -/
theorem haltReq_running (h : (getP s p).st = .running ∨ (getP s p).st = .stepping) :
    haltReq s p cause w = setCause (cutStart s p none [w] none) p cause := by
  unfold haltReq
  rcases h with h | h <;> simp only [h]

/-- One that is halting has one more request to answer. -/
theorem haltReq_halting (q : Cut) (h : (getP s p).st = .halting) (hq : (getP s p).cutNow = some q) :
    haltReq s p cause w = setP s p { getP s p with cutNow := some { q with waiters := q.waiters ++ [w] } } := by
  unfold haltReq
  dsimp only
  split
  next he => cases h.symm.trans he
  next =>
    split
    next c hc =>
      cases hq.symm.trans hc
      rfl
    next hc => cases hq.symm.trans hc
  next he => cases h.symm.trans he
  next _ hne _ => exact absurd h hne

/-- One that is EMPTY, or halted by a complete cut, answers at once. -/
theorem haltReq_answered (h : (getP s p).st = .empty ∨
    (getP s p).st = .halted ∧ (getP s p).cut = true ∧ (getP s p).resuming = false ∧ liveRegions s p ≠ []) :
    ∃ st : Status, haltReq s p cause w = postWaiter st 0 s w := by
  unfold haltReq
  rcases h with h | ⟨h, hcut, hres, hlive⟩
  · exact ⟨.noagent, by simp only [h]⟩
  · exact ⟨.ok, by simp [h, hcut, hres, hlive]⟩

/-- One without a region that has supply, neither EMPTY nor halting, is cut at once. -/
theorem haltReq_off (he : (getP s p).st ≠ .empty) (hh : (getP s p).st ≠ .halting) (hlive : liveRegions s p = []) :
    haltReq s p cause w = setCause (cutStart s p none [w] none) p cause := by
  unfold haltReq
  dsimp only
  split
  next h => exact absurd h he
  next h => exact absurd h hh
  next => exact if_neg (by simp [hlive])
  next => rfl

end

end

/-- An answer to a waiter changes no Whorl. -/
theorem postWaiter_whorls (s : State) (st : Status) (n : Nat) (w : Waiter) : (postWaiter st n s w).whorls = s.whorls := by
  unfold postWaiter
  split <;> exact post_whorls ..

/-- PRT_CMD HALT and SNIP by a requester with rights ask for a halt with their cause. -/
theorem exec_prtCmdHalt_may (s : State) (who : Who) (p : Fin 64) {c : Instr} {cause : Nat}
    (hc : c = .prtCmdHalt who p ∧ cause = 4 ∨ c = .prtCmdSnip who p ∧ cause = 3) (hmay : mayPart s who 2 p = true) :
    exec c s = .next (haltReq (silentWaiter s).2 p cause (silentWaiter s).1) := by
  rcases hc with ⟨rfl, rfl⟩ | ⟨rfl, rfl⟩ <;> exact if_pos hmay

theorem exec_prtCmdHalt_refused (s : State) (who : Who) (p : Fin 64) {c : Instr} {cause : Nat}
    (hc : c = .prtCmdHalt who p ∧ cause = 4 ∨ c = .prtCmdSnip who p ∧ cause = 3) (hmay : mayPart s who 2 p = false) :
    exec c s = .next s := by
  rcases hc with ⟨rfl, rfl⟩ | ⟨rfl, rfl⟩ <;> exact if_neg (by simp [hmay])

/-- Settles O27: the four answers of the cut controller to a halt requested of it. -/
theorem haltAndSnipCommandsStartACut : Obligations.HaltAndSnipCommandsStartACut := by
  intro s who p c cause x hc hx hcan
  subst hx
  have hP := canonical_parts s hcan
  have hR := canonical_regions s hcan
  have hS := canonical_rparts s hcan
  refine ⟨exec_prtCmdHalt_refused s who p hc, fun hmay => ?_⟩
  rw [exec_prtCmdHalt_may s who p hc hmay]
  refine ⟨fun hrun hlive => ?running, fun q hst hq => ⟨(silentWaiter s).1, ?halting⟩, fun h => ⟨_, rfl, ?answered⟩,
    fun he hh hlive => ⟨_, rfl, ?off⟩⟩
  case running =>
    rw [haltReq_running (silentWaiter s).2 p cause _ hrun]
    have h := cutAsked_setCause (silentWaiter s).2 p hP hS hR cause [(silentWaiter s).1] hlive
    obtain ⟨q, hst, hcut, hnow, htmo, hparent⟩ := h.halting
    exact ⟨_, q, rfl, hst, hcut, hnow, htmo, hparent, h.others, by rw [h.eq]; rfl, by rw [h.eq]; rfl, by rw [h.eq]; rfl, fun r hr =>
      ⟨h.halted r hr, fun hno => ⟨_, h.asked r hr hno, rfl, rfl, rfl, rfl⟩⟩⟩
  case halting =>
    rw [haltReq_halting (silentWaiter s).2 p cause _ q hst hq]
    rfl
  case answered =>
    obtain ⟨st, hreq⟩ := haltReq_answered (silentWaiter s).2 p cause (silentWaiter s).1 h
    rw [hreq]
    have hout := outcomeWork_postWaiter (silentWaiter s).2 st 0 (silentWaiter s).1
    have hwhorls := postWaiter_whorls (silentWaiter s).2 st 0 (silentWaiter s).1
    exact ⟨by rw [hout.eq]; rfl, by rw [hout.eq]; rfl, by rw [hout.eq]; rfl, by rw [hout.eq]; rfl, hwhorls⟩
  case off =>
    exact cutStart_off (silentWaiter s).2 p hP cause _ hlive (haltReq_off (silentWaiter s).2 p cause _ he hh hlive)

end Sys2Proof.Machine
end


section
/-! PROPERTY. PRT_MAP_WRITE hands an allowed change to its cluster's root, and PRT_MAP_APPLY brings it to the leaves at its edge. -/

namespace Sys2Proof.Machine

section
variable (s : State)

/-! ### One byte of a write (R93) -/

section
variable (c new : Nat)

theorem mapByteWrite_same (h : clusterIn s c = false ∨ mapByte s c = new) : mapByteWrite s c new = s := by
  unfold mapByteWrite
  rcases h with h | h <;> simp [h]

theorem mapByteWrite_refused (hin : clusterIn s c = true) (hne : mapByte s c ≠ new) (h : mapAllowed s c new = false) :
    mapByteWrite s c new = countF s rPrtMapErr 63 0 1 := by
  simp [mapByteWrite, hin, hne, h]

/-- A change sent to a root stands behind those on their way. -/
theorem chgsOf_send (x : Region) (g : MapChg) : chgsOf { x with port := tfSend x.port (.chg g) } = chgsOf x ++ [g] := by
  simp [chgsOf, tfItems_tfSend]

/-- The state in which the partition that a byte names exists. -/
def createdBy : State := (bytePart new).elim s (createPart s)

theorem createdBy_regions : (createdBy s new).regions = s.regions := by
  unfold createdBy createPart
  cases bytePart new
  case none => rfl
  case some p =>
    dsimp only [Option.elim]
    split <;> rfl

theorem mapByteWrite_allowed (hin : clusterIn s c = true) (hne : mapByte s c ≠ new) (h : mapAllowed s c new = true) :
    mapByteWrite s c new = setR (createdBy s new) (clusterRegion c)
      { getR s (clusterRegion c) with port := tfSend (getR s (clusterRegion c)).port (.chg ⟨c, mapByte s c, new, 0⟩) } := by
  rw [← getR_of_eq (createdBy_regions s new)]
  simp only [mapByteWrite, hin, beq_eq_false_iff_ne.2 hne, h, Bool.not_true, Bool.or_self, Bool.false_eq_true, if_false, if_true]
  rfl

/-- A partition that a change creates. -/
theorem getP_createPart (p : Nat) (h : tabWf Part.fresh s.parts = true) (he : (getP s p).st = .empty) :
    (getP (createPart s p) p).st = .halted ∧ (getP (createPart s p) p).cut = false := by
  have hself : getP (createPart s p) p = _ := (congrArg (getP · p) (if_pos he)).trans (getP_setP_self s p _ h)
  rw [hself]
  exact ⟨rfl, rfl⟩

end

/-! ### A change at its edge (R93, R94) -/

/-- A change that has crossed to its root is due L edges later. -/
theorem portEdge_chg (r : Nat) (g : MapChg) (y : TakeFlag RootItem) (hR : tabWf Region.fresh s.regions = true)
    (h : tfEdge (getR s r).port = (some (.chg g), y)) :
    (getR (portEdge s r) r).chg = (getR s r).chg ++ [{ g with due := (getR s r).edge + latOf s r }] := by
  rw [getR_portEdge s r hR]
  simp only [portTaken, h]

/-- From s to t shares and partitions have changed. -/
structure PartWork (s t : State) : Prop where
  eq : t = { s with parts := t.parts, rparts := t.rparts }
  wf : tabWf Part.fresh s.parts = true → tabWf Part.fresh t.parts = true

theorem PartWork.trans {s t u : State} (h : PartWork s t) (k : PartWork t u) : PartWork s u where
  eq := by rw [k.eq, h.eq]
  wf hs := k.wf (h.wf hs)

theorem PartWork.refl : PartWork s s := ⟨rfl, id⟩

theorem partWork_setRP (p r : Nat) (x : RPart) : PartWork s (setRP s p r x) := ⟨rfl, id⟩

theorem partWork_setP (p : Nat) (x : Part) : PartWork s (setP s p x) := ⟨rfl, setP_wf s p x⟩

theorem partWork_forAll {α : Type} (l : List α) (f : State → α → State) (h : ∀ t a, PartWork t (f t a)) : PartWork s (forAll l f s) :=
  forAll_keeps (PartWork s) l f s (.refl s) fun t a _ ht => ht.trans (h t a)

theorem partWork_trimShares (p : Nat) : PartWork s (trimShares s p) :=
  partWork_forAll s _ _ fun t r => by
    split
    · exact .refl t
    · exact partWork_setRP t p r _

/-- The partition that loses the cluster: EMPTY once it has lost its last, unless a cluster is still to join it. -/
def partLost (g : MapChg) : State :=
  match bytePart g.old with
  | none => s
  | some p =>
    let s := trimShares s p
    if clustersOfPart s p = [] ∧ joining s p = false then
      setP s p { Part.fresh with grace := (getP s p).grace, supp := (getP s p).supp }
    else s

theorem partWork_partLost (g : MapChg) : PartWork s (partLost s g) := by
  unfold partLost
  split
  next => exact .refl s
  next p _ =>
    dsimp only
    split
    · exact (partWork_trimShares s p).trans (partWork_setP _ p _)
    · exact partWork_trimShares s p

/-- A partition's shares of the regions in which it had no site before. -/
def sharesJoined (p : Nat) (before : List Nat) : State :=
  let run := (getP s p).st == .running
  forAll ((regionsOfPart s p).filter fun q => !before.contains q) (fun s q =>
    setRP s p q { RPart.fresh with latch := !run, latchAt := (getR s q).edge, phalt := !run, halted := !run }) s

theorem partWork_sharesJoined (p : Nat) (before : List Nat) : PartWork s (sharesJoined s p before) :=
  partWork_forAll s _ _ fun t q => partWork_setRP t p q _

theorem getP_sharesJoined (p : Nat) (before : List Nat) (o : Nat) : getP (sharesJoined s p before) o = getP s o :=
  forAll_keeps (fun t => getP t o = getP s o) _ _ s rfl fun _ _ _ ht => ht

/-- The partition that gains the cluster: HALTED, its CUT is at 0. -/
def partGained (g : MapChg) (before : List Nat) : State :=
  match bytePart g.byte with
  | none => s
  | some p =>
    if (getP s p).st = .halted then setP (sharesJoined s p before) p { getP s p with cut := false } else sharesJoined s p before

theorem partWork_partGained (g : MapChg) (before : List Nat) : PartWork s (partGained s g before) := by
  unfold partGained
  split
  next => exact .refl s
  next p _ =>
    split
    · exact (partWork_sharesJoined s p before).trans (partWork_setP _ p _)
    · exact partWork_sharesJoined s p before

theorem partGained_cut (g : MapChg) (before : List Nat) (p : Nat) (hP : tabWf Part.fresh s.parts = true) (hp : bytePart g.byte = some p)
    (hst : (getP (partGained s g before) p).st = .halted) : (getP (partGained s g before) p).cut = false := by
  simp only [partGained, hp] at hst ⊢
  split at hst
  next h =>
    have hself : getP (setP (sharesJoined s p before) p { getP s p with cut := false }) p = _ :=
      getP_setP_self _ p _ ((partWork_sharesJoined s p before).wf hP)
    rw [if_pos h, hself]
  next h => exact absurd ((congrArg Part.st (getP_sharesJoined s p before p)).symm.trans hst) h

theorem applyChg_eq (g : MapChg) : applyChg s g =
    hostGive (publishMap (partGained (partLost (setMapByte s g.cluster g.byte) g) g ((bytePart g.byte).elim [] (regionsOfPart s)))) := by
  unfold applyChg partGained partLost
  rfl

theorem hostGive_eq : hostGive s = { s with host := (hostGive s).host } := by
  unfold hostGive
  dsimp only
  split
  next => rfl
  next => split <;> rfl

/-- The mill map is described by two registers of its own. -/
theorem reg_publishMap (o : Nat) (h : o ≠ rIdMmap) (hg : o ≠ rIdMmapGen) : reg (publishMap s) o = reg s o := by
  unfold publishMap
  split
  next => rfl
  next =>
    simp only [reg, regGet, setRegF, setReg, regPut]
    rw [tget_tput_ne _ _ _ _ _ hg, tget_tput_ne _ _ _ _ _ h]

theorem mapByte_setMapByte (k b : Nat) (h : tabWf 0 s.regs = true) (hb : b < 256) : mapByte (setMapByte s k b) k = b := by
  have hfield := regF_setRegF s (rPrtMap + 8 * (k / 8)) (8 * (k % 8) + 7) (8 * (k % 8)) b h (by omega) (by omega)
  rw [show 8 * (k % 8) + 7 + 1 - 8 * (k % 8) = 8 by omega, Nat.mod_eq_of_lt (show b < 2 ^ 8 from hb)] at hfield
  exact hfield

theorem mapByte_publishMap (k : Nat) : mapByte (publishMap s) k = mapByte s k := by
  rw [mapByte, reg_publishMap, mapByte] <;> simp only [rPrtMap, rIdMmap, rIdMmapGen] <;> omega

/-- What a change of the map leaves, and what it does to the map and to the partition that gains the cluster. -/
theorem applyChg_spec (g : MapChg) (hregs : tabWf 0 s.regs = true) (hP : tabWf Part.fresh s.parts = true) (hb : g.byte < 256)
    {t : State} (ht : t = applyChg s g) :
    mapByte t g.cluster = g.byte ∧ t.regions = s.regions ∧ t.sites = s.sites ∧ t.whorls = s.whorls ∧
      ∀ p : Nat, bytePart g.byte = some p → (getP t p).st = .halted → (getP t p).cut = false := by
  have hlost := partWork_partLost (setMapByte s g.cluster g.byte) g
  have hgained := partWork_partGained (partLost (setMapByte s g.cluster g.byte) g) g ((bytePart g.byte).elim [] (regionsOfPart s))
  have hcut := fun p => partGained_cut _ g ((bytePart g.byte).elim [] (regionsOfPart s)) p (hlost.wf hP)
  rw [applyChg_eq] at ht
  generalize partGained (partLost (setMapByte s g.cluster g.byte) g) g ((bytePart g.byte).elim [] (regionsOfPart s)) = v at *
  have hv : PartWork (setMapByte s g.cluster g.byte) v := hlost.trans hgained
  have hpub : t = { publishMap v with host := t.host } := by rw [ht, hostGive_eq]
  have hbyte : mapByte v g.cluster = mapByte (setMapByte s g.cluster g.byte) g.cluster := by rw [hv.eq]; rfl
  refine ⟨?_, ?_, ?_, ?_, fun p hp hst => ?_⟩
  · rw [hpub]
    exact ((mapByte_publishMap v g.cluster).trans hbyte).trans (mapByte_setMapByte s g.cluster g.byte hregs hb)
  · rw [hpub]
    exact (publishMap_regions v).trans (by rw [hv.eq]; rfl)
  · rw [hpub]
    exact (publishMap_sites v).trans (by rw [hv.eq]; rfl)
  · rw [hpub]
    exact (publishMap_whorls v).trans (by rw [hv.eq]; rfl)
  · have hparts : t.parts = v.parts := by
      rw [hpub]
      exact publishMap_parts v
    rw [getP_of_eq hparts] at hst ⊢
    exact hcut p hp hst

end

/-- PRT_MAP_APPLY at the edge of the first change. -/
theorem exec_prtMapApply_due (s : State) (r : Fin 4) (g : MapChg) (rest : List MapChg) (hg : (getR s r).chg = g :: rest)
    (hdue : g.due ≤ (getR s r).edge) : exec (.prtMapApply r) s = .next (applyChg (setR s r { getR s r with chg := rest }) g) := by
  show execPrtMapApply r s = _
  simp only [execPrtMapApply, hg, Nat.not_lt.2 hdue, if_false, ok]

/-- Settles O29: the write byte by byte, the crossing to the root, and the change at its edge. -/
theorem partitionMapChangesAreChecked : Obligations.PartitionMapChangesAreChecked := by
  refine ⟨fun s who k v => ⟨fun h => if_neg (by simp [h]), fun h => if_pos h⟩,
    fun s c new => ⟨mapByteWrite_same s c new, mapByteWrite_refused s c new, fun hin hne hok hR hP => ⟨?sent, fun p hp he => ?created⟩⟩,
    fun s r g y hc => portEdge_chg s r g y (canonical_regions s hc),
    fun s r g rest hg hc => ⟨fun hearly => ?early, fun hdue hb _ => ⟨_, exec_prtMapApply_due s r g rest hg hdue, ?applied⟩⟩,
    fun s r h => ?none⟩
  case sent =>
    rw [mapByteWrite_allowed s c new hin hne hok, getR_setR_self _ _ _ (by rw [createdBy_regions]; exact hR), chgsOf_send]
  case created =>
    rw [mapByteWrite_allowed s c new hin hne hok, createdBy, hp]
    exact getP_createPart s p hP he
  case early =>
    show execPrtMapApply r s = _
    simp only [execPrtMapApply, hg, hearly, if_true, ok]
  case applied =>
    obtain ⟨hbyte, hregions, hsites, hwhorls, hcut⟩ := applyChg_spec (setR s r { getR s r with chg := rest }) g
      (canonical_regs s hc) (canonical_parts s hc) hb rfl
    refine ⟨hbyte, ?_, hsites, hwhorls, hcut⟩
    rw [getR_of_eq hregions, getR_setR_self _ _ _ (canonical_regions s hc)]
  case none =>
    show execPrtMapApply r s = _
    simp only [execPrtMapApply, h, ok]

end Sys2Proof.Machine
end


section
/-! SUPPORT. A root's choice among the messages that wait (R99), and the 26 bits of a message (R96). -/

namespace Sys2Proof.Machine

/-! ### The bits of a message (R96, Table 4.1) -/

section
variable (part arg : Nat) (opc : StOpc)

theorem opcCode_lt : opcCode opc < 8 := by cases opc <;> decide

theorem stEncode_toNat (hp : part < 64) (ha : arg < 65536) :
    (stEncode part opc arg).toNat = 2 ^ 25 + part * 2 ^ 19 + opcCode opc * 2 ^ 16 + arg := by
  have hc := opcCode_lt opc
  rw [stEncode, BitVec.toNat_ofNat, Nat.mod_eq_of_lt hp, Nat.mod_eq_of_lt (show arg < 2 ^ 16 from ha)]
  omega

variable (due cause : Nat) (hp : part < 64) (ha : arg < 65536)
include hp ha

theorem stPart_encode : stPart ⟨stEncode part opc arg, due, cause⟩ = part := by
  have hc := opcCode_lt opc
  simp only [stPart, stEncode_toNat part arg opc hp ha]
  omega

theorem stArg_encode : stArg ⟨stEncode part opc arg, due, cause⟩ = arg := by
  simp only [stArg, stEncode_toNat part arg opc hp ha]
  omega

theorem opcField_encode : (stEncode part opc arg).toNat / 2 ^ 16 % 8 = opcCode opc := by
  have hc := opcCode_lt opc
  rw [stEncode_toNat part arg opc hp ha]
  omega

theorem valid_encode : (stEncode part opc arg).getLsbD 25 = true := by
  have hc := opcCode_lt opc
  rw [BitVec.getLsbD, stEncode_toNat part arg opc hp ha, Nat.testBit_eq_decide_div_mod_eq, decide_eq_true_eq]
  omega

theorem stOpc_encode : stOpc ⟨stEncode part opc arg, due, cause⟩ = some opc := by
  simp only [stOpc, valid_encode part arg opc hp ha, opcField_encode part arg opc hp ha]
  cases opc <;> rfl

end

/-! ### The message chosen (R99, R115) -/

/-- A message that may go stands behind no RUN of its partition, unless it is the cut controller's. -/
theorem rootWaits_eq_false {ahead : List RootReq} {q : RootReq} :
    rootWaits ahead q = false ↔ (q.kind ≤ 2 → ∀ z ∈ ahead, z.part = q.part → z.opc ≠ .run) := by
  simp [rootWaits]

/-- With no RUN about, nothing waits. -/
theorem rootWaits_noRun {ahead : List RootReq} (q : RootReq) (h : ∀ z ∈ ahead, z.opc ≠ .run) : rootWaits ahead q = false :=
  rootWaits_eq_false.2 fun _ z hz _ => h z hz

/-- q goes before z: its kind is lower, or of the same kind its partition is no higher. -/
def Precedes (q z : RootReq) : Prop := q.kind < z.kind ∨ q.kind = z.kind ∧ q.part ≤ z.part

theorem precedes_refl (q : RootReq) : Precedes q q := .inr ⟨rfl, Nat.le_refl _⟩

theorem Precedes.trans {a b c : RootReq} (h : Precedes a b) (k : Precedes b c) : Precedes a c := by
  unfold Precedes at *
  omega

/-- The message chosen is one of the queue and does not wait for a RUN. -/
theorem rootPick_some {ahead l : List RootReq} {q : RootReq} (h : rootPick ahead l = some q) :
    q ∈ l ∧ (q.kind ≤ 2 → ∀ z ∈ ahead, z.part = q.part → z.opc ≠ .run) := by
  induction l generalizing ahead q with
  | nil => cases h
  | cons a l ih =>
    have htail (x : RootReq) (hx : rootPick (ahead ++ [a]) l = some x) :
        x ∈ a :: l ∧ (x.kind ≤ 2 → ∀ z ∈ ahead, z.part = x.part → z.opc ≠ .run) := by
      obtain ⟨hmem, hrun⟩ := ih hx
      exact ⟨List.mem_cons_of_mem a hmem, fun hk z hz => hrun hk z (List.mem_append_left _ hz)⟩
    have hhead (hw : ¬ rootWaits ahead a = true) : a ∈ a :: l ∧ (a.kind ≤ 2 → ∀ z ∈ ahead, z.part = a.part → z.opc ≠ .run) :=
      ⟨List.mem_cons_self, rootWaits_eq_false.1 (Bool.not_eq_true _ ▸ hw)⟩
    simp only [rootPick] at h
    split at h
    next =>
      split at h
      next => cases h
      next hw => cases h; exact hhead hw
    next x hx =>
      split at h
      next => cases h; exact htail _ ‹_›
      next hw =>
        split at h
        next => cases h; exact htail _ ‹_›
        next => cases h; exact hhead hw

/-- With no RUN about, a queue that is not empty has a message chosen. -/
theorem rootPick_ne_none (ahead l : List RootReq) (hl : l ≠ []) (hno : ∀ z ∈ ahead, z.opc ≠ .run) : rootPick ahead l ≠ none := by
  cases l with
  | nil => exact absurd rfl hl
  | cons a l =>
    simp only [rootPick, rootWaits_noRun a hno, Bool.false_eq_true, if_false]
    split
    next => exact Option.some_ne_none _
    next => split <;> exact Option.some_ne_none _

/-- With no RUN about, the message chosen goes before every other. -/
theorem rootPick_least (ahead l : List RootReq) (q : RootReq) (h : rootPick ahead l = some q) (hno : ∀ z ∈ ahead ++ l, z.opc ≠ .run) :
    ∀ z ∈ l, Precedes q z := by
  induction l generalizing ahead q with
  | nil => cases h
  | cons a l ih =>
    have hw : rootWaits ahead a = false := rootWaits_noRun a fun z hz => hno z (List.mem_append_left _ hz)
    have hno' : ∀ z ∈ (ahead ++ [a]) ++ l, z.opc ≠ .run := by simpa using hno
    simp only [rootPick, hw, Bool.false_eq_true, if_false] at h
    split at h
    next hnone =>
      cases h
      cases l with
      | nil => exact fun z hz => by rw [List.mem_singleton.1 hz]; exact precedes_refl _
      | cons b l =>
        have hno'' : ∀ z ∈ ahead ++ [a], z.opc ≠ .run := fun z hz => hno' z (List.mem_append_left _ hz)
        exact absurd hnone (rootPick_ne_none _ _ (List.cons_ne_nil b l) hno'')
    next x hx =>
      split at h
      next hlt =>
        cases h
        refine List.forall_mem_cons.2 ⟨?_, ih _ q hx hno'⟩
        unfold Precedes
        omega
      next hge =>
        cases h
        refine List.forall_mem_cons.2 ⟨precedes_refl _, fun z hz => .trans (b := x) ?_ (ih _ x hx hno' z hz)⟩
        unfold Precedes
        omega

end Sys2Proof.Machine
end


section
/-! PROPERTY. The stop tree carries a root's messages to the leaves of its region, where each acts as its operation says. -/

namespace Sys2Proof.Machine

/-! ### A message that comes to the leaves (R96, R97) -/

section
variable (s : State) (r : Nat)

theorem leafTake_due {m : StMsg} {rest : List StMsg} {opc : StOpc} (htree : (getR s r).tree = m :: rest) (hdue : m.due ≤ (getR s r).edge)
    (hon : (getR s r).powerOff = false) (hopc : stOpc m = some opc) :
    leafTake s r opc = some (m, setR s r { getR s r with tree := rest }) := by
  simp only [leafTake, htree]
  exact if_pos ⟨hopc, hdue, hon⟩

theorem leafTake_early (opc : StOpc)
    (h : (getR s r).tree = [] ∨ ∃ (m : StMsg) (rest : List StMsg), (getR s r).tree = m :: rest ∧ (getR s r).edge < m.due) :
    leafTake s r opc = none := by
  rcases h with htree | ⟨m, rest, htree, hlt⟩ <;> simp only [leafTake, htree]
  exact if_neg fun ⟨_, hdue, _⟩ => absurd hlt (Nat.not_lt.2 hdue)

variable (m : StMsg)

/-- What HALT leaves in a partition's share of the region: the first that acts in a halt notes step and time. -/
theorem getRP_leafHalt (hcause : m.cause ≠ 0) (hS : tabWf RPart.fresh s.rparts = true) {y z : RPart} (hy : y = getRP s (stPart m) r)
    (hz : z = getRP (leafHalt r m s) (stPart m) r) :
    z.latch = true ∧ z.stepLeft = 0 ∧
      (y.latch = false → z.haltStep = y.stepNo ∧ z.haltTime = s.ht ∧ z.stepOn = false) ∧
      (y.latch = true → y.holdLatch = false → z.haltStep = y.haltStep ∧ z.haltTime = y.haltTime) := by
  unfold leafHalt at hz
  extract_lets p rp x e first short rp1 acted x1 at hz
  rw [if_neg hcause] at hz
  have hz : z = rp1 := hz.trans (getRP_setRP_self s _ _ _ hS)
  have hrp : rp = y := hy.symm
  subst hz
  refine ⟨rfl, rfl, fun hl => ?_, fun hl hh => ?_⟩
  · simp [rp1, first, hrp, hl]
  · simp [rp1, first, hrp, hl, hh]

/-- What HALT leaves in the partition: LATE, and the cause where no HALT of this halt has acted. -/
theorem getP_leafHalt (hcause : m.cause ≠ 0) (hP : tabWf Part.fresh s.parts = true) {y : RPart} (hy : y = getRP s (stPart m) r) {x z : Part}
    (hx : x = getP s (stPart m)) (hz : z = getP (leafHalt r m s) (stPart m)) :
    z.late = (x.late || (y.stepOn && !y.latch)) ∧
      (y.latch = false → x.cutNow.any Cut.acted = false → z.cause = m.cause) ∧
      (y.latch = true → y.holdLatch = false → z.cause = x.cause) := by
  unfold leafHalt at hz
  extract_lets p rp x' e first short rp1 acted x1 at hz
  rw [if_neg hcause] at hz
  have hz : z = x1 := hz.trans (getP_setP_self _ _ _ hP)
  have hrp : rp = y := hy.symm
  have hx : x' = x := hx.symm
  subst hz
  refine ⟨?_, fun hl hacted => ?_, fun hl hh => ?_⟩
  · simp only [x1, short, hrp, hx]
  · simp [x1, first, acted, hrp, hx, hl, hacted]
  · simp [x1, first, hrp, hl, hh, hx]

/-- HALT leaves the shares of other partitions and regions. -/
theorem getRP_leafHalt_ne (hcause : m.cause ≠ 0) (hr : r < 4) {o q : Nat} (hq : q < 4) (hne : (o, q) ≠ (stPart m, r)) :
    getRP (leafHalt r m s) o q = getRP s o q := by
  unfold leafHalt
  extract_lets p rp x e first short rp1 acted x1
  rw [if_neg hcause]
  exact getRP_setRP_ne s _ r o q rp1 hr hq hne

/-- MARK pulses SM_MARK at the producer ends of the region. -/
theorem mem_smSent_leafMark (k : Nat) : k ∈ (leafMark r m s).smSent ↔ k ∈ s.smSent ∨ k ∈ seamEnds s 0 (stPart m) r := by
  simp only [leafMark, List.mem_append, List.mem_filter, List.contains_eq_mem, Bool.not_eq_true', decide_eq_false_iff_not]
  tauto

/-- A partition in no tree of hubs wakes no rendezvous. -/
theorem rdvWake_noTree (p : Nat) (h : (getP s p).tree = none) : rdvWake s p = s := by
  have hnone : ((List.range 64).filter fun q => (getP s q).rdv.any fun v => (getP s p).tree.any fun t => t.cutId == v.cutId) = [] :=
    List.filter_eq_nil_iff.2 fun q _ => by simp [h]
  simp only [rdvWake, hnone]
  rfl

/-- CLRMARK clears the mark of the region and SM_MARKED at its consumer ends. -/
theorem leafClrmark_noTree (htree : (getP s (stPart m)).tree = none) : ∃ y : RPart, y.marked = false ∧
    leafClrmark r m s = { setRP s (stPart m) r y with
      smMarked := s.smMarked.filter fun k => !(seamEnds s 1 (stPart m) r).contains k, chans := (leafClrmark r m s).chans } := by
  unfold leafClrmark
  extract_lets p ends_ src share s2 links s3
  have h3 : s3 = { s2 with chans := s3.chans } :=
    forAll_keeps (fun t : State => t = { s2 with chans := t.chans }) links _ s2 rfl fun t x _ ht => by
      dsimp only
      rw [ht]
      rfl
  have hwake : rdvWake s3 p = s3 := rdvWake_noTree s3 p ((congrArg Part.tree (getP_of_eq (by rw [h3]; rfl) p)).trans htree)
  exact ⟨{ getRP s p r with marked := false, markAt := none }, rfl, by rw [hwake]; exact h3⟩

end

/-! ### A step whose edges are used up (R113) -/

section
variable (s : State) (p r : Nat)

/-- A share whose step is reported. -/
def shareStepped (y : RPart) : RPart := { y with stepOn := false, stepDone := true }

theorem stepTimed_noCut (h : (getP s p).cutNow = none) : stepTimed s p = s := by simp only [stepTimed, h]

/-- While a region that takes part still steps, nothing more happens. -/
theorem stepTimed_waits {q : Cut} (hq : (getP s p).cutNow = some q) {o : Nat} (ho : o ∈ cutRegions s p) (hwait : (getRP s p o).stepDone = false) :
    stepTimed s p = s := by
  have hall : (cutRegions s p).all (fun q => (getRP s p q).stepDone) = false :=
    List.all_eq_false.2 ⟨o, ho, by simp [hwait]⟩
  simp [stepTimed, hq, hall]

/-- Once every region that takes part has stepped, the cut's time runs. -/
theorem stepTimed_runs {q : Cut} (hP : tabWf Part.fresh s.parts = true) (hq : (getP s p).cutNow = some q) (hstep : q.stepCut = true)
    (htmo : q.tmoFrom = none) (hall : ∀ o ∈ cutRegions s p, (getRP s p o).stepDone = true) :
    ∃ c : Cut, (getP (stepTimed s p) p).cutNow = some c ∧ c.tmoFrom = some s.ht := by
  have hdone : (cutRegions s p).all (fun q => (getRP s p q).stepDone) = true := List.all_eq_true.2 hall
  simp only [stepTimed, hq, hstep, htmo, hdone, Option.isNone_none, Bool.and_self, if_true]
  split
  next =>
    rw [getP_setP_self _ _ _ (by rw [askHubs_eq]; exact hP)]
    exact ⟨_, rfl, rfl⟩
  next =>
    rw [getP_setP_self _ _ _ hP]
    exact ⟨_, rfl, rfl⟩

/-- A step reported keeps the shares. -/
theorem rparts_stepTimed : (stepTimed s p).rparts = s.rparts := by
  unfold stepTimed
  extract_lets x
  split
  next => rfl
  next =>
    split
    next =>
      split
      next => rw [setP, askHubs_eq]; rfl
      next => rfl
    next => rfl

variable (hS : tabWf RPart.fresh s.rparts = true)
include hS

theorem cutRegions_stepped : cutRegions (setRP s p r (shareStepped (getRP s p r))) p = cutRegions s p := by
  have hlive : liveRegions (setRP s p r (shareStepped (getRP s p r))) p = liveRegions s p := rfl
  rw [cutRegions, hlive, cutRegions]
  refine List.filter_congr fun o _ => ?_
  rw [getRP_setRP _ _ _ _ _ _ hS]
  split
  next h => rw [getRP, getRP, h]; rfl
  next => rfl

end

/-- Settles O30: each part of the tree by the operation that it speaks of. -/
theorem theStopTreeCarriesMessagesToTheLeaves : Obligations.TheStopTreeCarriesMessagesToTheLeaves := by
  refine ⟨?send, ?idle, ?code, ?pick, ?leaf, ?early, ?stepDone⟩
  case send =>
    rintro s r x q rfl hpick hon hsent
    show execStopTreeRootSend r s = _
    simp only [execStopTreeRootSend, hon, hsent, hpick, Bool.or_self, Bool.false_eq_true, if_false]
    rfl
  case idle =>
    intro s r h
    show execStopTreeRootSend r s = _
    unfold execStopTreeRootSend
    extract_lets x due
    split
    next => rfl
    next hbusy =>
      rcases h with hempty | hoff | hsent
      · simp only [x, hempty, rootPick]
        rfl
      · exact absurd (by simp [x, hoff]) hbusy
      · exact absurd (by simp [x, due, hsent]) hbusy
  case code =>
    rintro part arg due cause opc m hp ha rfl
    exact ⟨stPart_encode part arg opc due cause hp ha, stOpc_encode part arg opc due cause hp ha, stArg_encode part arg opc due cause hp ha,
      valid_encode part arg opc hp ha, opcField_encode part arg opc hp ha⟩
  case pick =>
    intro l ahead q h
    obtain ⟨hmem, hrun⟩ := rootPick_some h
    exact ⟨hmem, hrun, rootPick_least ahead l q h⟩
  case leaf =>
    rintro s r m rest s1 p y htree hdue hon hcan rfl rfl rfl
    have hS := canonical_rparts s hcan
    have hP := canonical_parts s hcan
    generalize hs1 : setR s r { getR s r with tree := rest } = s1
    have htake (opc : StOpc) (hopc : stOpc m = some opc) : leafTake s r opc = some (m, s1) := by
      rw [← hs1]
      exact leafTake_due s r htree hdue hon hopc
    have hS1 : tabWf RPart.fresh s1.rparts = true := by rw [← hs1]; exact hS
    have hP1 : tabWf Part.fresh s1.parts = true := by rw [← hs1]; exact hP
    have hshare (o q : Nat) : getRP s1 o q = getRP s o q := by rw [← hs1]; rfl
    have hpart (o : Nat) : getP s1 o = getP s o := by rw [← hs1]; rfl
    have hends (k q : Nat) : seamEnds s1 k q r = seamEnds s k q r := by rw [← hs1]; rfl
    have hht : s1.ht = s.ht := by rw [← hs1]; rfl
    refine ⟨fun hopc hcause => ⟨leafHalt r m s1, ?_, ?_⟩, fun hopc hcause => ?_, fun hopc => ?_, fun hopc => ⟨leafMark r m s1, ?_, ?_, ?_⟩,
      fun hopc hnone => ?_⟩
    · show execLeafHalt r s = _
      simp only [execLeafHalt, htake _ hopc]
      rfl
    · obtain ⟨hlatch, hleft, hfirst, hagain⟩ := getRP_leafHalt s1 r m hcause hS1 rfl rfl
      obtain ⟨hlate, hnoted, hkept⟩ := getP_leafHalt s1 r m hcause hP1 rfl rfl rfl
      rw [hshare, hht] at hfirst
      rw [hshare] at hagain hlate hnoted hkept
      rw [hpart] at hlate hnoted hkept
      refine ⟨hlatch, hleft, hlate, fun hl => ?_, fun hl hh => ?_, fun o q hq hne => ?_⟩
      · obtain ⟨hstep, htime, hon⟩ := hfirst hl
        exact ⟨hstep, htime, hon, hnoted hl⟩
      · obtain ⟨hstep, htime⟩ := hagain hl hh
        exact ⟨hstep, htime, hkept hl hh⟩
      · rw [getRP_leafHalt_ne s1 r m hcause r.isLt hq hne, hshare]
    · show execLeafRun r s = _
      simp only [execLeafRun, htake _ hopc, leafRun, hcause, if_false, hshare, hht]
      rfl
    · show execLeafStep r s = _
      simp only [execLeafStep, htake _ hopc, leafStep, hshare]
      rfl
    · show execLeafMark r s = _
      simp only [execLeafMark, htake _ hopc]
      rfl
    · rw [← hshare, ← hs1]
      rfl
    · intro k
      rw [mem_smSent_leafMark, hends, ← hs1]
      rfl
    · show ∃ t : State, execLeafClrmark r s = _ ∧ _
      obtain ⟨y, hy, heq⟩ := leafClrmark_noTree s1 r m (by rw [hpart, hnone])
      refine ⟨leafClrmark r m s1, by simp only [execLeafClrmark, htake _ hopc]; rfl, ?_, ?_, ?_, fun k => ?_⟩
      · rw [heq]
        exact (congrArg RPart.marked (getRP_setRP_self s1 _ _ y hS1)).trans hy
      · rw [heq, ← hs1]
        rfl
      · rw [heq, ← hs1]
        rfl
      · rw [heq]
        simp only [List.mem_filter, hends, List.contains_eq_mem, Bool.not_eq_true', decide_eq_false_iff_not]
        rw [← hs1]
        rfl
  case early =>
    intro s r h
    have hnone (opc : StOpc) := leafTake_early s r opc h
    refine ⟨?_, ?_, ?_, ?_, ?_⟩
    · show execLeafHalt r s = _
      simp only [execLeafHalt, hnone]
      rfl
    · show execLeafRun r s = _
      simp only [execLeafRun, hnone]
      rfl
    · show execLeafStep r s = _
      simp only [execLeafStep, hnone]
      rfl
    · show execLeafMark r s = _
      simp only [execLeafMark, hnone]
      rfl
    · show execLeafClrmark r s = _
      simp only [execLeafClrmark, hnone]
      rfl
  case stepDone =>
    rintro s r p y rfl hcan
    have hS := canonical_rparts s hcan
    have hP := canonical_parts s hcan
    have hexec (hon : (getRP s p r).stepOn = true) (hlatch : (getRP s p r).latch = true) (hleft : (getRP s p r).stepLeft = 0) :
        exec (.leafStepDone r p) s = .next (stepTimed (setRP s p r (shareStepped (getRP s p r))) p) :=
      if_pos (by simp [hon, hlatch, hleft])
    refine ⟨fun hon hlatch hleft hnone => ?_, fun q hon hlatch hleft hq hstep htmo => ⟨_, hexec hon hlatch hleft, ?_⟩, fun h => if_neg ?_⟩
    · rw [hexec hon hlatch hleft, stepTimed_noCut (setRP s p r _) p hnone]
      rfl
    · have hself : getRP (setRP s p r (shareStepped (getRP s p r))) p r = shareStepped (getRP s p r) := getRP_setRP_self s p r _ hS
      have hregions := cutRegions_stepped s p r hS
      have hother (o : Nat) (ho : o ∈ cutRegions s p) (hne : o ≠ r) :
          getRP (setRP s p r (shareStepped (getRP s p r))) p o = getRP s p o :=
        getRP_setRP_ne s p r p o _ r.isLt (lt_of_mem_liveRegions s (List.mem_filter.1 ho).1) (by simp [hne])
      have hcutNow : (getP (setRP s p r (shareStepped (getRP s p r))) p).cutNow = some q := hq
      have hP' : tabWf Part.fresh (setRP s p r (shareStepped (getRP s p r))).parts = true := hP
      have hht : (setRP s p r (shareStepped (getRP s p r))).ht = s.ht := rfl
      generalize setRP s p r (shareStepped (getRP s p r)) = u at *
      rw [getRP_of_eq (rparts_stepTimed u p), hself, ← hht]
      refine ⟨rfl, rfl, rfl, rfl, fun hall => stepTimed_runs u p hP' hcutNow hstep htmo fun o ho => ?_, fun ⟨o, ho, hne, hwait⟩ => ?_⟩
      · rw [hregions] at ho
        by_cases hor : o = r
        · rw [hor, hself]
          rfl
        · rw [hother o ho hor, hall o ho hor]
      · rw [stepTimed_waits u p hcutNow (o := o) (by rw [hregions]; exact ho) (by rw [hother o ho hne, hwait]), hcutNow]
    · rcases h with h | h | h <;> simp [h]

end Sys2Proof.Machine
end


section
/-! PROPERTY. A cut freezes its regions, marks them and completes, or its time passes. -/

namespace Sys2Proof.Machine

/-! ### Regions that freeze and are ready (R98, R107) -/

section
variable (s : State) (r p : Nat)

theorem rootSees_iff (since : Option Nat) : rootSees s r since = true ↔ ∃ a : Nat, since = some a ∧ a + latOf s r ≤ (getR s r).edge := by
  simp [rootSees, Option.any_eq_true]

theorem seamsOf_noSeams (h : s.integ.seams = []) : seamsOf s p = [] := by
  rw [seamsOf, h]
  rfl

end

section
variable (s : State) (r : Fin 4) (p : Fin 64)

theorem exec_regionFrozen_waits (h : (getRP s p r).latch = false ∨ (getRP s p r).stepOn = true ∨ (getR s r).powerOff = true ∨
    rootSees s r (getRP s p r).andAt = false ∨ owes (getR s r) p [.halt, .run, .step] = true) : exec (.regionFrozen r p) s = .next s :=
  if_pos (by simpa [Bool.or_eq_true, or_assoc] using h)

section
variable (hlatch : (getRP s p r).latch = true) (hstep : (getRP s p r).stepOn = false) (hon : (getR s r).powerOff = false)
  (hsees : rootSees s r (getRP s p r).andAt = true) (howes : owes (getR s r) p [.halt, .run, .step] = false)
include hlatch hstep hon hsees howes

theorem exec_regionFrozen_noCut (hcut : (getP s p).cutNow = none) :
    exec (.regionFrozen r p) s = .next (setRP s p r { getRP s p r with frozen := true }) := by
  show execRegionFrozen r p s = _
  simp only [execRegionFrozen, hlatch, hstep, hon, hsees, howes, hcut, Bool.not_true, Bool.or_self, Bool.false_eq_true, if_false]
  rfl

/-- Without seams no MARK goes out on a link. -/
theorem exec_regionFrozen_marks (hS : tabWf RPart.fresh s.rparts = true) (hcut : (getP s p).cutNow.isSome = true)
    (hsent : (getRP s p r).markSent = false) (haway : (getRP s p r).away = false) (hhalted : (getRP s p r).halted = true)
    (hseams : s.integ.seams = []) {n : Nat} (hn : n = ((sitesIn s p r).filter fun i => (getS s i).freezeLate).length) :
    exec (.regionFrozen r p) s =
      .next (rootPush (setRP s p r { getRP s p r with frozen := true, markSent := true, lateCnt := n }) r 3 p .mark 0 1) := by
  subst hn
  obtain ⟨c, hc⟩ := Option.isSome_iff_exists.1 hcut
  show execRegionFrozen r p s = _
  unfold execRegionFrozen
  extract_lets rp late s1 s2 outs chs
  rw [if_neg (by simp [rp, hlatch, hstep, hon, hsees, howes]), hc]
  have houts : outs = [] := by
    simp only [outs, seamsOf_noSeams s2 p hseams]
    rfl
  have hchs : chs = [] := by
    simp only [chs, houts]
    rfl
  dsimp only
  rw [if_neg (by simp [rp, hsent, haway, hhalted]), hchs]
  show Host.Outcome.next s2 = _
  simp only [s2, s1, setRP_setRP s p r _ _ hS]
  rfl

end

/-- REGION_READY acts exactly in this case. -/
def ReadyComes : Prop :=
  (getP s p).cutNow.isSome = true ∧ (getRP s p r).latch = true ∧ (getRP s p r).frozen = true ∧ (getRP s p r).markSent = true ∧
    (getRP s p r).ready = false ∧ rootSees s r (getRP s p r).markAt = true ∧ owes (getR s r) p [.halt, .run, .step] = false

theorem readyComes_iff : ReadyComes s r p ↔ ((getP s p).cutNow.isSome && (getRP s p r).latch && (getRP s p r).frozen &&
    (getRP s p r).markSent && !(getRP s p r).ready && rootSees s r (getRP s p r).markAt && !owes (getR s r) p [.halt, .run, .step]) = true := by
  simp [ReadyComes, Bool.and_eq_true, and_assoc]

theorem exec_regionReady_comes (h : ReadyComes s r p) :
    exec (.regionReady r p) s = .next (setRP s p r { getRP s p r with ready := true }) := if_pos ((readyComes_iff s r p).1 h)

theorem exec_regionReady_waits (h : ¬ ReadyComes s r p) : exec (.regionReady r p) s = .next s :=
  if_neg fun hc => h ((readyComes_iff s r p).2 hc)

end

/-! ### What follows the end of a cut (R107 step 7, R334) -/

section
variable (s : State) (p : Nat)

/-- From s to t partitions may have confirmed the cuts that they owed to another hub. -/
structure Confirmed (s t : State) : Prop where
  eq : t = { s with parts := t.parts, chans := t.chans }
  wf : tabWf Part.fresh s.parts = true → tabWf Part.fresh t.parts = true
  part : tabWf Part.fresh s.parts = true → ∀ o : Nat, ∃ c : Option Cut, getP t o = { getP s o with owed := c }

theorem Confirmed.refl : Confirmed s s := ⟨rfl, id, fun _ o => ⟨(getP s o).owed, rfl⟩⟩

theorem Confirmed.trans {s t u : State} (h : Confirmed s t) (k : Confirmed t u) : Confirmed s u where
  eq := by rw [k.eq, h.eq]
  wf hs := k.wf (h.wf hs)
  part hs o := by
    obtain ⟨c, hc⟩ := h.part hs o
    obtain ⟨d, hd⟩ := k.part (h.wf hs) o
    exact ⟨d, by rw [hd, hc]⟩

theorem confirmed_setP (o : Nat) : Confirmed s (setP s o { getP s o with owed := none }) where
  eq := rfl
  wf := setP_wf s o _
  part hs q := by
    rw [getP_setP _ _ _ _ hs]
    split
    next h => exact ⟨none, by rw [h]⟩
    next => exact ⟨(getP s q).owed, rfl⟩

theorem confirmed_chSend (ch kind dst : Nat) (pay : List Word) : Confirmed s (chSend s ch kind dst pay) where
  eq := by rw [chSend_eq]
  wf hs := by rw [chSend_eq]; exact hs
  part _ o := ⟨(getP s o).owed, getP_of_eq (by rw [chSend_eq]) o⟩

theorem confirmed_tryConfirm (cutId : Word) : Confirmed s (tryConfirm s cutId) := by
  unfold tryConfirm
  extract_lets mine busy open_ n ch s1
  split
  · exact .refl s
  · exact Confirmed.trans (forAll_keeps (Confirmed s) mine _ s (.refl s) fun t o _ ht => ht.trans (confirmed_setP t o)) (confirmed_chSend s1 ..)

/-- Nothing waits for the end of the cut. -/
theorem actAfter_none (k : Nat) (h : (getP s p).after = []) : actAfter k s p = s := by
  cases k with
  | zero => rfl
  | succ k => simp only [actAfter, h, ite_self]

/-- The end of a cut that nothing waits for. -/
theorem confirmed_actAfter (cutId : Word) (hP : tabWf Part.fresh s.parts = true) (h : (getP s p).after = []) (k : Nat) :
    Confirmed s (actAfter k (tryConfirm s cutId) p) := by
  have hconf := confirmed_tryConfirm s cutId
  obtain ⟨c, hc⟩ := hconf.part hP p
  rw [actAfter_none _ _ _ (by rw [hc]; exact h)]
  exact hconf

/-! ### Line 0 (R245) -/

theorem evCut_raiseCut (h : tabWf 0 s.evCut = true) {k : Nat} (hk : k < 9) (hp : p < 64) :
    (tget 0 (raiseCut s p).evCut k).getLsbD p = true := by
  simp only [raiseCut, raiseLine_evCut]
  rw [tget_orAll _ _ _ _ h List.nodup_range, if_pos (List.mem_range.2 hk), BitVec.getLsbD_or, word_pow_getLsbD]
  simp [hp]

theorem lineRaised_raiseCut (h : tabWf 0 s.evPend = true) : LineRaised (raiseCut s p) 0 := fun k hk => raiseLine_set _ 0 k h (by decide) hk

/-! ### A cut ends (R107 steps 6 and 7, R109) -/

/-- The status with which a cut ends. -/
def cutStatus (tmo : Bool) (n : Nat) : Status := if tmo then .timeout else if n = 0 then .ok else .partial_

/-- A complete cut is partial exactly when something failed. -/
theorem cutStatus_complete (n : Nat) : (cutStatus false n == .partial_) = decide (n ≠ 0) := by
  cases n <;> rfl

/-- What the end of a cut leaves: the partition halted by a complete cut, line 0 raised with its bit. -/
structure CutEnded (t : State) (n : Nat) (part : Bool) : Prop where
  st : (getP t p).st = .halted
  cut : (getP t p).cut = true
  cutNow : (getP t p).cutNow = none
  nfail : (getP t p).nfail = min 0xFFFF n
  partialF : (getP t p).partialF = part
  line : LineRaised t 0
  evCut : ∀ k : Nat, k < 9 → (tget 0 t.evCut k).getLsbD p = true

section
variable (hP : tabWf Part.fresh s.parts = true) (hafter : (getP s p).after = [])
include hP hafter

theorem cutNone_after (ws : List Waiter) (n : Nat) (owed : Option Cut) : (getP (cutNone s p ws n owed) p).after = [] := by
  unfold cutNone
  extract_lets x s1
  have hout : OutcomeWork s1 (releaseHeld (forAll ws (postWaiter .noagent n) s1) p) :=
    (OutcomeWork.forAll _ _ _ fun t w => outcomeWork_postWaiter t _ _ w).trans (outcomeWork_releaseHeld _ p)
  have hself : getP s1 p = _ := getP_setP_self s p _ hP
  exact (congrArg Part.after ((getP_of_eq (by rw [hout.eq]) p).trans hself)).trans hafter

theorem cutEnded_cutEnd (c : Cut) (n : Nat) (tmo : Bool) (hE : tabWf 0 s.evPend = true) (hC : tabWf 0 s.evCut = true) (hp : p < 64) :
    CutEnded p (cutEnd s p c n tmo) n (cutStatus tmo n == .partial_) := by
  unfold cutEnd
  extract_lets x st chs tree s1 ws s2 s3 s4
  have h2 : OutcomeWork s1 s2 := .forAll _ _ _ fun t w => outcomeWork_postWaiter t _ _ w
  have h3 : s3 = { s2 with rparts := s3.rparts } := by
    have hshares := forAll_setRP s2 shareBack p (List.range 4)
    exact hshares
  have h4 : OutcomeWork (raiseCut s3 p) s4 := outcomeWork_releaseHeld _ p
  have hparts : s4.parts = s1.parts := by
    rw [h4.eq]
    simp only [raiseCut, raiseLine_parts]
    rw [h3, h2.eq]
  have hpart : getP s4 p = getP s1 p := getP_of_eq hparts p
  have hself : getP s1 p = _ := getP_setP_self s p _ hP
  have hend := confirmed_actAfter s4 p c.cutId (by rw [hparts]; exact setP_wf s p _ hP) (by rw [hpart, hself]; exact hafter)
    ((getP s4 p).after.length + 1)
  generalize actAfter _ _ p = t at hend ⊢
  obtain ⟨w, hw⟩ := hend.part (by rw [hparts]; exact setP_wf s p _ hP) p
  have hE3 : tabWf 0 s3.evPend = true := by rw [h3, h2.eq]; exact hE
  have hC3 : tabWf 0 s3.evCut = true := by rw [h3, h2.eq]; exact hC
  rw [hpart, hself] at hw
  have hpend : t.evPend = (raiseCut s3 p).evPend := by rw [hend.eq, h4.eq]
  have hcuts : t.evCut = (raiseCut s3 p).evCut := by rw [hend.eq, h4.eq]
  refine ⟨by rw [hw], by rw [hw], by rw [hw], by rw [hw], by rw [hw, cutStatus], fun k hk => ?_, fun k hk => ?_⟩
  · rw [hpend]
    exact lineRaised_raiseCut s3 p hE3 k hk
  · rw [hcuts]
    exact evCut_raiseCut s3 p hC3 hk hp

/-- A cut none of whose regions is left. -/
theorem getP_cutOff (c : Cut) (n : Nat) {t : State} (ht : t = cutOff s p c n) :
    (getP t p).st = .halted ∧ (getP t p).cut = false ∧ (getP t p).cutNow = none ∧ (getP t p).nfail = min 0xFFFF n := by
  unfold cutOff at ht
  extract_lets s1 s2 at ht
  obtain ⟨-, -, -, hst, hcut, hnow, hnfail⟩ := cutNone_frame s p hP c.waiters n (if c.parent.isSome then some c else none) (t := s1) rfl
  have hwf : tabWf Part.fresh s1.parts = true := cutNone_wf s p hP c.waiters n _
  have hafter1 : (getP s1 p).after = [] := cutNone_after s p hP hafter c.waiters n _
  have h2 : s2 = { s1 with rparts := s2.rparts } := by
    have hshares := forAll_setRP s1 shareBack p (List.range 4)
    exact hshares
  have hparts : s2.parts = s1.parts := by rw [h2]
  have hpart : getP s2 p = getP s1 p := getP_of_eq hparts p
  have hend := confirmed_actAfter s2 p c.cutId (by rw [hparts]; exact hwf) (by rw [hpart]; exact hafter1) ((getP s2 p).after.length + 1)
  obtain ⟨w, hw⟩ := hend.part (by rw [hparts]; exact hwf) p
  rw [ht, hw, hpart]
  exact ⟨hst, hcut, hnow, hnfail⟩

end

end

/-! ### CUT_COMPLETE and CUT_TIMEOUT -/

section
variable (s : State) (p : Fin 64) (q : Cut) (hq : (getP s p).cutNow = some q)
include hq

theorem exec_cutComplete_off (hoff : cutRegions s p = []) : exec (.cutComplete p) s = .next (cutOff s p q (nfailOf s p)) := by
  show execCutComplete p s = _
  simp only [execCutComplete, hq, hoff, if_true]
  rfl

/-- The hub that started the cut ends it once its regions are ready and the other hubs have confirmed. -/
theorem exec_cutComplete_ends (hparent : q.parent = none) (hlive : cutRegions s p ≠ []) (hawaits : q.awaits = false)
    (hready : (cutRegions s p).all (fun r => (getRP s p r).ready) = true) (hdone : q.children.all Child.done = true) :
    exec (.cutComplete p) s = .next (cutEnd s p q (nfailOf s p + (q.children.map Child.nfail).sum) false) := by
  show execCutComplete p s = _
  simp only [execCutComplete, hq, hlive, hawaits, hready, hparent]
  simp only [hdone]
  rfl

theorem exec_cutComplete_waits (hwait : (cutRegions s p).any (fun r => !(getRP s p r).ready) = true) : exec (.cutComplete p) s = .next s := by
  obtain ⟨r, hr, hno⟩ := List.any_eq_true.1 hwait
  have hnot : (cutRegions s p).all (fun r => (getRP s p r).ready) = false := List.all_eq_false.2 ⟨r, hr, by simpa using hno⟩
  show execCutComplete p s = _
  simp only [execCutComplete, hq, List.ne_nil_of_mem hr, hnot, Bool.false_and, Bool.false_eq_true, if_false, ite_self]
  rfl

theorem exec_cutTimeout_waits (h : ∀ t0 : Nat, q.tmoFrom = some t0 → s.ht < t0 + regF s rPrtCutTmo 31 0) : exec (.cutTimeout p) s = .next s := by
  show execCutTimeout p s = _
  simp only [execCutTimeout, hq]
  exact if_neg fun hpast => by
    obtain ⟨t0, ht0, hle⟩ := (Option.any_eq_true ..).1 hpast
    exact absurd (h t0 ht0) (Nat.not_lt.2 (of_decide_eq_true hle))

/-- Once PRT_CUT_TMO has passed the cut ends: what has not frozen, not been marked and not confirmed counts besides what the regions report. -/
theorem exec_cutTimeout_ends (hparent : q.parent = none) (hlive : cutRegions s p ≠ []) {t0 : Nat} (ht0 : q.tmoFrom = some t0)
    (hpast : t0 + regF s rPrtCutTmo 31 0 ≤ s.ht) : ∃ (k hot unmarked kids : Nat) (tmo : Bool),
      exec (.cutTimeout p) s = .next (cutEnd (countF s rIhbStat 31 16 k) p q (nfailOf s p + hot + unmarked + kids) tmo) := by
  show ∃ (k hot unmarked kids : Nat) (tmo : Bool), execCutTimeout p s = _
  unfold execCutTimeout
  rw [hq]
  dsimp only
  rw [if_pos (by simp [ht0, hpast]), if_neg hlive, hparent]
  exact ⟨_, _, _, _, _, rfl⟩

end

/-- Settles O31: the regions' reports, and how a cut ends. -/
theorem cutsFreezeMarkAndComplete : Obligations.CutsFreezeMarkAndComplete := by
  rintro s p x rfl hcan
  have hS := canonical_rparts s hcan
  have hP := canonical_parts s hcan
  have hE := canonical_evPend s hcan
  have hC := canonical_evCut s hcan
  refine ⟨?regions, ?noCut, ?ends⟩
  case regions =>
    rintro r y rfl
    dsimp only
    simp only [← rootSees_iff, Bool.not_eq_true]
    refine ⟨exec_regionFrozen_waits s r p, fun hlatch hstep hon hsees howes => ⟨exec_regionFrozen_noCut s r p hlatch hstep hon hsees howes,
      fun hcut hsent haway hhalted hseams n hn =>
        exec_regionFrozen_marks s r p hlatch hstep hon hsees howes hS hcut hsent haway hhalted hseams hn⟩,
      fun hcut hlatch hfrozen hsent hready hsees howes => exec_regionReady_comes s r p ⟨hcut, hlatch, hfrozen, hsent, hready, hsees, howes⟩,
      fun h => exec_regionReady_waits s r p fun ⟨hcut, hlatch, hfrozen, hsent, hready, hsees, howes⟩ => ?_⟩
    simp [hlatch, hfrozen, hsent, hready, hsees, howes, Option.ne_none_iff_isSome.2 hcut] at h
  case noCut =>
    intro hnone
    constructor
    · show execCutComplete p s = _
      simp only [execCutComplete, hnone]
      rfl
    · show execCutTimeout p s = _
      simp only [execCutTimeout, hnone]
      rfl
  case ends =>
    intro q hq hparent hafter
    refine ⟨fun hlive hawaits hready hdone => ⟨_, exec_cutComplete_ends s p q hq hparent hlive hawaits hready hdone, ?_⟩,
      fun hoff => ⟨_, exec_cutComplete_off s p q hq hoff, getP_cutOff s p hP hafter q _ rfl⟩, exec_cutComplete_waits s p q hq,
      fun t0 ht0 hpast hlive => ?_, fun t0 ht0 hearly => exec_cutTimeout_waits s p q hq fun t1 ht1 => ?_,
      fun hnone => exec_cutTimeout_waits s p q hq fun t1 ht1 => ?_⟩
    · have h := cutEnded_cutEnd s p hP hafter q (nfailOf s p + (q.children.map Child.nfail).sum) false hE hC p.isLt
      refine ⟨h.st, h.cut, h.cutNow, h.nfail, h.partialF.trans (cutStatus_complete _), h.line, h.evCut⟩
    · obtain ⟨k, hot, unmarked, kids, tmo, hexec⟩ := exec_cutTimeout_ends s p q hq hparent hlive ht0 hpast
      have h := cutEnded_cutEnd (countF s rIhbStat 31 16 k) p hP hafter q (nfailOf s p + hot + unmarked + kids) tmo hE hC p.isLt
      exact ⟨_, hexec, h.st, h.cut, h.cutNow, by rw [h.nfail]; omega, h.line⟩
    · cases ht0.symm.trans ht1
      exact hearly
    · cases hnone.symm.trans ht1

end Sys2Proof.Machine
end


section
/-! SUPPORT. What a hang's declaration changes: HNG_HUNG, the queue of declarations, line 1, and what the Hank store and the funnel keep. -/

namespace Sys2Proof.Machine

section
variable (s : State)

/-! ### Registers that a commit keeps (R294) -/

/-- A commit counts in HNK_QUEUE alone. -/
theorem reg_submit_ne (a : Area) (o : Nat) (b : List Word) {k : Nat} (h : k ≠ rHnkQueue) : reg (submit s a o b) k = reg s k := by
  simp only [submit, enterOrder, Option.elim]
  split
  · rfl
  · split
    · rfl
    · split
      · exact reg_setReg_ne _ _ _ _ h
      · rfl

/-! ### What a declaration leaves (R211) -/

/-- From s to t a hang has been declared or counted: registers, lines, the funnel, the Hank store and the dump program's state have changed;
no line has been cleared, and the upper half of HNG_STAT is kept. -/
structure HangWork (s t : State) : Prop where
  eq : t = { s with regs := t.regs, evPend := t.evPend, buffer := t.buffer, hubIrq := t.hubIrq, funnel := t.funnel, hank := t.hank,
                    hang := t.hang }
  regsWf : tabWf 0 s.regs = true → tabWf 0 t.regs = true
  pendWf : tabWf 0 s.evPend = true → tabWf 0 t.evPend = true
  lines : tabWf 0 s.evPend = true → ∀ n : Nat, LineRaised s n → LineRaised t n
  reports : tabWf 0 s.regs = true → regF t rHngStat 63 48 = regF s rHngStat 63 48

/-- The same while HNG_HUNG and the queue of declarations stand. -/
structure HangNote (s t : State) : Prop extends HangWork s t where
  hung : reg t rHngHung = reg s rHngHung
  queue : t.hang.queue = s.hang.queue

theorem HangWork.trans {s t u : State} (h : HangWork s t) (k : HangWork t u) : HangWork s u where
  eq := by rw [k.eq, h.eq]
  regsWf hs := k.regsWf (h.regsWf hs)
  pendWf hs := k.pendWf (h.pendWf hs)
  lines hs n hn := k.lines (h.pendWf hs) n (h.lines hs n hn)
  reports hs := (k.reports (h.regsWf hs)).trans (h.reports hs)

theorem HangNote.trans {s t u : State} (h : HangNote s t) (k : HangNote t u) : HangNote s u where
  toHangWork := h.toHangWork.trans k.toHangWork
  hung := k.hung.trans h.hung
  queue := k.queue.trans h.queue

theorem HangNote.refl : HangNote s s := ⟨⟨rfl, id, id, fun _ _ => id, fun _ => rfl⟩, rfl, rfl⟩

/-- A change of the Hank store, the funnel or the dump program's state alone. -/
theorem hangWork_of_stores {s t : State} (h : t = { s with funnel := t.funnel, hank := t.hank, hang := t.hang }) : HangWork s t where
  eq := by rw [h]
  regsWf hs := by rw [h]; exact hs
  pendWf hs := by rw [h]; exact hs
  lines _ n hn := by rw [h]; exact hn
  reports _ := by rw [h]; rfl

theorem hangNote_hevt (c a : Nat) (pay : List Word) : HangNote s (hevt s c a pay) where
  toHangWork := hangWork_of_stores (by rw [hevt_eq])
  hung := by rw [hevt_eq]; rfl
  queue := by rw [hevt_eq]

theorem hangNote_submit (a : Area) (o : Nat) (b : List Word) : HangNote s (submit s a o b) where
  eq := by rw [submit_eq]
  regsWf := submit_regs_wf s a o b
  pendWf hs := by rw [submit_evPend]; exact hs
  lines _ n hn k hk := by rw [submit_evPend]; exact hn k hk
  reports _ := by rw [regF, reg_submit_ne _ _ _ _ (by decide), regF]
  hung := reg_submit_ne _ _ _ _ (by decide)
  queue := by rw [submit_hang]

theorem hangNote_journal (c a : Nat) (m : List Word) : HangNote s (journal s c a m) := hangNote_submit s ..

theorem hangNote_addCounter (i v : Nat) : HangNote s (addCounter s i v) := hangNote_submit s ..

theorem hangNote_raiseLine (n : Nat) : HangNote s (raiseLine s n) where
  eq := rfl
  regsWf := id
  pendWf := raiseLine_wf s n
  lines hs m hm k hk := raiseLine_keeps s n k m hs (hm k hk)
  reports _ := rfl
  hung := rfl
  queue := rfl

/-- A count in the lower half of HNG_STAT. -/
theorem hangNote_countF (hi lo : Nat) (hl : lo ≤ hi) (hh : hi < 48) : HangNote s (countF s rHngStat hi lo 1) where
  eq := rfl
  regsWf := countF_wf s _ _ _ _
  pendWf := id
  lines _ _ := id
  reports hs := by
    simp only [regF, countF, setRegF, reg_setReg _ _ _ _ hs, if_true]
    exact bits_setBits_above _ _ _ _ _ _ hl (by omega) hh
  hung := reg_setReg_ne _ _ _ _ (by decide)
  queue := rfl

/-- A dump number is taken from the Hank store, which may commit a new batch (R299). -/
theorem takeDumpNum_cases : ∃ k, (takeDumpNum s).2 = { s with hank := k } ∨ (takeDumpNum s).2 = addCounter { s with hank := k } 3 16 := by
  unfold takeDumpNum
  dsimp only
  split
  · exact ⟨_, .inr rfl⟩
  · exact ⟨_, .inl rfl⟩

theorem hangNote_takeDumpNum : HangNote s (takeDumpNum s).2 := by
  obtain ⟨k, h⟩ := takeDumpNum_cases s
  have hk : HangNote s { s with hank := k } := ⟨hangWork_of_stores rfl, rfl, rfl⟩
  rcases h with h | h <;> rw [h]
  · exact hk
  · exact hk.trans (hangNote_addCounter { s with hank := k } 3 16)

theorem hangWork_setHung (v : Word) : HangWork s (setReg s rHngHung v) where
  eq := rfl
  regsWf := regPut_wf s _ _ _
  pendWf := id
  lines _ _ := id
  reports _ := by rw [regF, reg_setReg_ne _ _ _ _ (by decide), regF]

/-! ### A hang declared (R211 to R213) -/

/-- What a declaration notes before its dump is queued: its record, its journal entry and line 1. -/
def hangNoted (p cause reports num : Nat) : State :=
  let s1 := raiseLine (hevt s 0x800 (cause * 2 ^ 21 + p) [word (num * 2 ^ 32 + reports % 2 ^ 32)]) 1
  let s2 := addCounter (journal s1 0x8020 (num % 2 ^ 32 + cause * 2 ^ 32 + p * 2 ^ 40)) 4 1
  { s2 with hang := { s2.hang with ended := s2.hang.ended &&& ~~~ word (2 ^ p) } }

theorem hangNote_hangNoted (p cause reports num : Nat) : HangNote s (hangNoted s p cause reports num) := by
  unfold hangNoted
  extract_lets s1 s2
  have h1 : HangNote s s1 := (hangNote_hevt s _ _ _).trans (hangNote_raiseLine _ 1)
  have h2 : HangNote s s2 := h1.trans ((hangNote_journal s1 _ _ _).trans (hangNote_addCounter _ 4 1))
  clear_value s2
  exact h2.trans ⟨hangWork_of_stores rfl, rfl, rfl⟩

theorem lineRaised_hangNoted (p cause reports num : Nat) (h : tabWf 0 s.evPend = true) : LineRaised (hangNoted s p cause reports num) 1 := by
  unfold hangNoted
  extract_lets s1 s2
  have hwf : tabWf 0 (hevt s 0x800 (cause * 2 ^ 21 + p) [word (num * 2 ^ 32 + reports % 2 ^ 32)]).evPend = true := by
    rw [hevt_evPend]
    exact h
  have h1 : LineRaised s1 1 := fun k hk => raiseLine_set _ 1 k hwf (by decide) hk
  have h2 : HangNote s1 s2 := (hangNote_journal s1 _ _ _).trans (hangNote_addCounter _ 4 1)
  have hline : LineRaised s2 1 := h2.lines (raiseLine_wf _ 1 hwf) 1 h1
  clear_value s2
  exact hline

section
variable (p cause reports : Nat)

theorem hangDeclare_hung (h : bit (reg s rHngHung) p = true) : hangDeclare s p cause reports = countF s rHngStat 31 24 1 := if_pos h

/-- A declaration that finds the queue full. -/
theorem hangDeclare_full (h : bit (reg s rHngHung) p = false) (hfull : hangFull s = true) : hangDeclare s p cause reports =
    hangNoted (countF (setReg s rHngHung (reg s rHngHung ||| word (2 ^ p))) rHngStat 23 16 1) p cause reports 0 := by
  unfold hangDeclare
  simp only [h, hfull, Bool.false_eq_true, if_false, if_true]
  rfl

/-- A declaration that joins the queue: all that it changes but the queue itself. -/
def hangOpened : State :=
  let a := takeDumpNum (setReg s rHngHung (reg s rHngHung ||| word (2 ^ p)))
  let t := hangNoted a.2 p cause reports a.1
  submit t .dindex 9 (openEntry t a.1 cause p)

theorem hangNote_hangOpened : HangNote (setReg s rHngHung (reg s rHngHung ||| word (2 ^ p))) (hangOpened s p cause reports) :=
  ((hangNote_takeDumpNum _).trans (hangNote_hangNoted _ p cause reports _)).trans (hangNote_submit _ .dindex 9 _)

theorem lineRaised_hangOpened (h : tabWf 0 s.evPend = true) : LineRaised (hangOpened s p cause reports) 1 := by
  have htake := hangNote_takeDumpNum (setReg s rHngHung (reg s rHngHung ||| word (2 ^ p)))
  exact (hangNote_submit _ .dindex 9 _).lines ((hangNote_hangNoted _ p cause reports _).pendWf (htake.pendWf h)) 1
    (lineRaised_hangNoted _ p cause reports _ (htake.pendWf h))

theorem hangDeclare_queued (h : bit (reg s rHngHung) p = false) (hfull : hangFull s = false) : ∃ num : Nat,
    hangDeclare s p cause reports = { hangOpened s p cause reports with
      hang := { (hangOpened s p cause reports).hang with queue := (hangOpened s p cause reports).hang.queue ++ [⟨p, cause, num, s.ht⟩] } } := by
  unfold hangDeclare
  rw [if_neg (by simp [h])]
  extract_lets s1 full a
  have ha : a = takeDumpNum s1 := if_neg (by simp [full, hfull])
  clear_value a
  subst ha
  refine ⟨(takeDumpNum s1).1, ?_⟩
  rw [if_neg (by simp [full, hfull])]
  unfold hangOpened hangNoted
  rfl

/-- Any declaration. -/
theorem hangWork_hangDeclare : HangWork s (hangDeclare s p cause reports) := by
  cases h : bit (reg s rHngHung) p with
  | true =>
    rw [hangDeclare_hung s p cause reports h]
    exact (hangNote_countF s 31 24 (by decide) (by decide)).toHangWork
  | false =>
    have hset := hangWork_setHung s (reg s rHngHung ||| word (2 ^ p))
    cases hfull : hangFull s with
    | true =>
      rw [hangDeclare_full s p cause reports h hfull]
      exact hset.trans ((hangNote_countF _ 23 16 (by decide) (by decide)).trans (hangNote_hangNoted _ ..)).toHangWork
    | false =>
      obtain ⟨num, heq⟩ := hangDeclare_queued s p cause reports h hfull
      rw [heq]
      exact (hset.trans (hangNote_hangOpened s p cause reports).toHangWork).trans (hangWork_of_stores rfl)

/-- A declaration of a partition that is not hung, with room in the queue: HNG_HUNG, line 1 and the queue. -/
theorem hangDeclare_declares (h : bit (reg s rHngHung) p = false) (hfull : hangFull s = false) (hp : p < 64) (hR : tabWf 0 s.regs = true)
    (hE : tabWf 0 s.evPend = true) {t : State} (ht : t = hangDeclare s p cause reports) :
    bit (reg t rHngHung) p = true ∧ LineRaised t 1 ∧
      ∃ d : Decl, t.hang.queue = s.hang.queue ++ [d] ∧ d.part = p ∧ d.cause = cause := by
  obtain ⟨num, heq⟩ := hangDeclare_queued s p cause reports h hfull
  have hnote := hangNote_hangOpened s p cause reports
  have hline := lineRaised_hangOpened s p cause reports hE
  generalize hangOpened s p cause reports = u at heq hnote hline
  rw [heq] at ht
  subst ht
  refine ⟨?_, hline, ⟨p, cause, num, s.ht⟩, ?_, rfl, rfl⟩
  · show bit (reg u rHngHung) p = true
    rw [hnote.hung, reg_setReg _ _ _ _ hR, if_pos rfl, bit, BitVec.getLsbD_or, word_pow_getLsbD]
    simp [hp]
  · show u.hang.queue ++ _ = _
    rw [hnote.queue]
    rfl

end

end

end Sys2Proof.Machine
end


section
/-! SUPPORT. The tangle graph: its nodes and the ends of its edges, the components of its cycles, and its marks. -/

namespace Sys2Proof.Machine

/-! ### Lists put in order -/

section
variable {α : Type} (key : α → Nat)

theorem mem_insBy (x a : α) (l : List α) : a ∈ insBy key x l ↔ a = x ∨ a ∈ l := by
  induction l with
  | nil => simp [insBy]
  | cons y l ih =>
    rw [insBy]
    split
    · simp
    · rw [List.mem_cons, ih, List.mem_cons]
      tauto

theorem mem_foldl_insBy (a : α) (l acc : List α) : a ∈ l.foldl (fun acc x => insBy key x acc) acc ↔ a ∈ l ∨ a ∈ acc := by
  induction l generalizing acc with
  | nil => simp
  | cons y l ih =>
    rw [List.foldl_cons, ih, mem_insBy, List.mem_cons]
    tauto

theorem mem_sortBy (a : α) (l : List α) : a ∈ sortBy key l ↔ a ∈ l := by
  rw [sortBy, mem_foldl_insBy]
  simp

end

/-! ### Components (R220) -/

theorem mem_reachFrom {es : List (Nat × Nat)} {a : Nat} (n : Nat) (seen : List Nat) (h : a ∈ seen) : a ∈ reachFrom es n seen := by
  induction n generalizing seen with
  | zero => exact h
  | succ n ih =>
    simp only [reachFrom]
    split
    · exact h
    · exact ih _ (List.mem_append_left _ h)

/-- The end of an edge is reached from its start. -/
theorem mem_reachFrom_edge {es : List (Nat × Nat)} {a b n : Nat} (seen : List Nat) (he : (a, b) ∈ es) (ha : a ∈ seen) (hn : 0 < n) :
    b ∈ reachFrom es n seen := by
  obtain ⟨n, rfl⟩ := Nat.exists_eq_add_of_lt hn
  by_cases hb : b ∈ seen
  · exact mem_reachFrom _ seen hb
  · have hnew : b ∈ ((es.filter fun e => seen.contains e.1 && !seen.contains e.2).map Prod.snd).eraseDups :=
      List.mem_eraseDups.2 (List.mem_map.2 ⟨(a, b), List.mem_filter.2 ⟨he, by simp [ha, hb]⟩, rfl⟩)
    simp only [reachFrom]
    rw [if_neg (List.ne_nil_of_mem hnew)]
    exact mem_reachFrom _ _ (List.mem_append_right _ hnew)

theorem two_le_length {α : Type} {l : List α} {a b : α} (ha : a ∈ l) (hb : b ∈ l) (hne : a ≠ b) : 2 ≤ l.length := by
  match l with
  | [] => cases ha
  | [c] => exact absurd ((List.mem_singleton.1 ha).trans (List.mem_singleton.1 hb).symm) hne
  | _ :: _ :: _ => simp

/-- Two nodes with an edge there and one back lie in a component. -/
theorem exists_component {es : List (Nat × Nat)} {n i j : Nat} (hi : i < n) (hj : j < n) (hne : i ≠ j) (hij : (i, j) ∈ es) (hji : (j, i) ∈ es) :
    ∃ c ∈ components n es, i ∈ c ∧ j ∈ c := by
  have hn : 0 < n := Nat.lt_of_le_of_lt (Nat.zero_le i) hi
  have hreach {k : Nat} (hk : k < n) : ((List.range n).map fun i => reachFrom es n [i]).getD k [] = reachFrom es n [k] := by
    simp [List.getD, hk]
  generalize hc : ((List.range n).filter fun k => (((List.range n).map fun i => reachFrom es n [i]).getD i []).contains k &&
    (((List.range n).map fun i => reachFrom es n [i]).getD k []).contains i) = c
  have hmem {k : Nat} (hk : k < n) (hik : k ∈ reachFrom es n [i]) (hki : i ∈ reachFrom es n [k]) : k ∈ c := by
    rw [← hc, List.mem_filter, hreach hi, hreach hk]
    exact ⟨List.mem_range.2 hk, by simp [hik, hki]⟩
  have hic : i ∈ c := hmem hi (mem_reachFrom n _ (by simp)) (mem_reachFrom n _ (by simp))
  have hjc : j ∈ c := hmem hj (mem_reachFrom_edge _ hij (by simp) hn) (mem_reachFrom_edge _ hji (by simp) hn)
  refine ⟨c, List.mem_eraseDups.2 (List.mem_filter.2 ⟨List.mem_map.2 ⟨i, List.mem_range.2 hi, hc⟩, ?_⟩), hic, hjc⟩
  exact decide_eq_true (two_le_length hic hjc hne)

theorem sccOf_ne_zero {cs : List (List Nat)} {i : Nat} (h : ∃ c ∈ cs, i ∈ c) : sccOf cs i ≠ 0 := by
  obtain ⟨c, hc, hi⟩ := h
  have hlt : cs.findIdx (fun c => c.contains i) < cs.length := List.findIdx_lt_length_of_exists ⟨c, hc, by simpa using hi⟩
  simp only [sccOf, hlt, if_true]
  omega

/-! ### The nodes (R219) -/

section
variable (g : TInput)

theorem mem_tangleNodes_engine {e : Engine} (h : e ∈ allEngines g) : .engine e ∈ tangleNodes g := by
  simp only [tangleNodes, List.mem_append, List.mem_map, mem_sortBy, List.mem_filter]
  cases hr : e.remote
  · exact .inl (.inl (.inl (.inl ⟨e, ⟨h, by simp [hr]⟩, rfl⟩)))
  · exact .inl (.inl (.inl (.inr ⟨e, ⟨h, hr⟩, rfl⟩)))

theorem mem_tangleNodes_object {o : TObject} (h : o ∈ g.objects) : .object o ∈ tangleNodes g := by
  simp only [tangleNodes, List.mem_append, List.mem_map, mem_sortBy]
  exact .inl (.inl (.inr ⟨o, h, rfl⟩))

theorem mem_tangleNodes_seam {m : TSeam} (h : m ∈ g.seams) : .seam m ∈ tangleNodes g := by
  simp only [tangleNodes, List.mem_append, List.mem_map, mem_sortBy]
  exact .inl (.inr ⟨m, h, rfl⟩)

theorem mem_tangleNodes_memory : .memory ∈ tangleNodes g := List.mem_append_right _ (List.mem_singleton_self _)

theorem mem_allEngines_objectNeeds {o : TObject} {e : Engine} (ho : o ∈ g.objects) (he : e ∈ objectNeeds g o) : e ∈ allEngines g :=
  List.mem_eraseDups.2 (List.mem_append_left _ (List.mem_append_right _ (List.mem_flatMap.2 ⟨o, ho, he⟩)))

theorem mem_allEngines_seamNeeds {m : TSeam} {e : Engine} (hm : m ∈ g.seams) (he : e ∈ seamNeeds g m) : e ∈ allEngines g :=
  List.mem_eraseDups.2 (List.mem_append_right _ (List.mem_flatMap.2 ⟨m, hm, he⟩))

/-- What an engine waits for is a node. -/
theorem mem_tangleNodes_waitTarget {e : Engine} {n : TNode} (h : waitTarget g e = some n) : n ∈ tangleNodes g := by
  unfold waitTarget at h
  split at h
  next => cases h
  next k _ =>
    split at h
    next =>
      obtain ⟨o, ho, rfl⟩ := Option.map_eq_some_iff.1 h
      exact mem_tangleNodes_object g (List.mem_of_find?_eq_some ho)
    next =>
      split at h
      next => cases h
      next =>
        split at h
        next =>
          obtain ⟨m, hm, rfl⟩ := Option.map_eq_some_iff.1 h
          exact mem_tangleNodes_seam g (List.mem_of_find?_eq_some hm)
        next =>
          split at h
          next =>
            cases h
            exact mem_tangleNodes_memory g
          next => cases h

/-- The names of the nodes. -/
def tangleKeys : List (Nat × Nat × Nat) := (tangleNodes g).map TNode.key

theorem length_tangleKeys : (tangleKeys g).length = (tangleNodes g).length := List.length_map ..

/-- Both ends of an edge are nodes. -/
theorem mem_tangleKeys_of_edge {x : TEdge} (h : x ∈ tangleEdges g) : x.src ∈ tangleKeys g ∧ x.dst ∈ tangleKeys g := by
  have hkey {n : TNode} (hn : n ∈ tangleNodes g) : n.key ∈ tangleKeys g := List.mem_map_of_mem hn
  simp only [tangleEdges, List.mem_append, List.mem_filterMap, List.mem_flatMap, List.mem_map, Option.map_eq_some_iff] at h
  rcases h with (⟨e, he, n, hn, rfl⟩ | ⟨o, ho, e, he, rfl⟩) | ⟨m, hm, e, he, rfl⟩
  · exact ⟨hkey (mem_tangleNodes_engine g he), hkey (mem_tangleNodes_waitTarget g hn)⟩
  · exact ⟨hkey (mem_tangleNodes_object g ho), hkey (mem_tangleNodes_engine g (mem_allEngines_objectNeeds g ho he))⟩
  · exact ⟨hkey (mem_tangleNodes_seam g hm), hkey (mem_tangleNodes_engine g (mem_allEngines_seamNeeds g hm he))⟩

theorem mem_tangleEdges_wait {e : Engine} {n : TNode} (he : e ∈ allEngines g) (hn : waitTarget g e = some n) :
    ⟨false, (TNode.engine e).key, n.key⟩ ∈ tangleEdges g :=
  List.mem_append_left _ (List.mem_append_left _ (List.mem_filterMap.2 ⟨e, he, by rw [hn]; rfl⟩))

/-! ### The graph in numbers (R222) -/

/-- The numbers of an edge's ends. -/
def edgeEnds (x : TEdge) : Nat × Nat := ((tangleKeys g).idxOf x.src, (tangleKeys g).idxOf x.dst)

/-- The component number of a node. -/
def tangleScc (i : Nat) : Nat := sccOf (components (tangleNodes g).length ((tangleEdges g).map (edgeEnds g))) i

/-- A node of the graph. -/
def graphNode (e : TNode × Nat) : GNode :=
  ⟨e.2, e.1, b2n (tangleScc g e.2 != 0) + nodeMarks g ((tangleEdges g).any fun x => x.need && x.dst == e.1.key) e.1, tangleScc g e.2⟩

/-- An edge of the graph. -/
def graphEdge (x : TEdge) : GEdge :=
  ⟨x.need, (edgeEnds g x).1, (edgeEnds g x).2,
    b2n (tangleScc g (edgeEnds g x).1 != 0 && tangleScc g (edgeEnds g x).1 == tangleScc g (edgeEnds g x).2) + b2n (edgeReenters g x) * 32⟩

theorem graphNode_scc (e : TNode × Nat) : (graphNode g e).scc = tangleScc g e.2 := by simp only [graphNode]

theorem tangle_eq : tangle g = ((tangleNodes g).zipIdx.map (graphNode g),
    sortBy (fun x => x.src * 2 ^ 24 + x.dst) ((tangleEdges g).map (graphEdge g))) := rfl

variable {g} {nodes : List GNode} {edges : List GEdge} (h : tangle g = (nodes, edges))
include h

theorem tangle_nodes : nodes = (tangleNodes g).zipIdx.map (graphNode g) := congrArg Prod.fst (h.symm.trans (tangle_eq g))

theorem length_nodes : nodes.length = (tangleNodes g).length := by rw [tangle_nodes h, List.length_map, List.length_zipIdx]

theorem map_idx_nodes : nodes.map GNode.idx = List.range nodes.length := by
  have hidx : GNode.idx ∘ graphNode g = Prod.snd := rfl
  rw [length_nodes h, tangle_nodes h, List.map_map, hidx, List.zipIdx_map_snd, List.range_eq_range']

theorem mem_nodes {z : GNode} : z ∈ nodes ↔ ∃ i : Nat, ∃ n : TNode, (tangleNodes g)[i]? = some n ∧ z = graphNode g (n, i) := by
  rw [tangle_nodes h, List.mem_map]
  constructor
  · rintro ⟨⟨n, i⟩, he, rfl⟩
    exact ⟨i, n, List.mk_mem_zipIdx_iff_getElem?.1 he, rfl⟩
  · rintro ⟨i, n, hn, rfl⟩
    exact ⟨(n, i), List.mk_mem_zipIdx_iff_getElem?.2 hn, rfl⟩

theorem getElem?_nodes (i : Nat) : nodes[i]? = (tangleNodes g)[i]?.map fun n => graphNode g (n, i) := by
  rw [tangle_nodes h, List.getElem?_map, List.getElem?_zipIdx, Option.map_map]
  simp [Function.comp_def]

theorem key_getElem?_nodes {k : Nat × Nat × Nat} (hk : k ∈ tangleKeys g) :
    (nodes[(tangleKeys g).idxOf k]?).map (fun y => y.node.key) = some k := by
  rw [getElem?_nodes h, Option.map_map]
  show ((tangleNodes g)[(tangleKeys g).idxOf k]?).map TNode.key = some k
  rw [← List.getElem?_map]
  exact List.getElem?_idxOf hk

theorem scc_getElem?_nodes {i : Nat} (hi : i < nodes.length) : (nodes[i]?).map GNode.scc = some (tangleScc g i) := by
  rw [length_nodes h] at hi
  rw [getElem?_nodes h, List.getElem?_eq_getElem hi]
  simp only [Option.map_some, graphNode_scc]

theorem mem_edges {x : GEdge} : x ∈ edges ↔ ∃ y ∈ tangleEdges g, x = graphEdge g y := by
  have hedges : edges = sortBy (fun x => x.src * 2 ^ 24 + x.dst) ((tangleEdges g).map (graphEdge g)) := congrArg Prod.snd (h.symm.trans (tangle_eq g))
  rw [hedges, mem_sortBy, List.mem_map]
  simp only [eq_comm]

theorem lt_length_of_mem_edges {x : GEdge} (hx : x ∈ edges) : x.src < nodes.length ∧ x.dst < nodes.length := by
  obtain ⟨y, hy, rfl⟩ := (mem_edges h).1 hx
  obtain ⟨hsrc, hdst⟩ := mem_tangleKeys_of_edge g hy
  rw [length_nodes h, ← length_tangleKeys]
  exact ⟨List.idxOf_lt_length_of_mem hsrc, List.idxOf_lt_length_of_mem hdst⟩

/-- A waiting engine has a WAIT edge to what it waits for. -/
theorem exists_wait_edge {e : Engine} {n : TNode} (he : e ∈ allEngines g) (hn : waitTarget g e = some n) : ∃ x ∈ edges, x.need = false ∧
    (nodes[x.src]?).map (fun y => y.node.key) = some (TNode.engine e).key ∧ (nodes[x.dst]?).map (fun y => y.node.key) = some n.key := by
  have hmem := mem_tangleEdges_wait g he hn
  obtain ⟨hsrc, hdst⟩ := mem_tangleKeys_of_edge g hmem
  exact ⟨_, (mem_edges h).2 ⟨_, hmem, rfl⟩, rfl, key_getElem?_nodes h hsrc, key_getElem?_nodes h hdst⟩

/-! ### The CYCLE marks (R220) -/

omit h

/-- A node's other marks lie above bit 0. -/
theorem nodeMarks_even (g : TInput) (need : Bool) (n : TNode) : nodeMarks g need n % 2 = 0 := by
  cases n <;> simp only [nodeMarks] <;> omega

theorem testBit_b2n_add (b : Bool) (m : Nat) (hm : m % 2 = 0) : (b2n b + m).testBit 0 = b := by
  rw [Nat.testBit_zero]
  cases b <;> simp [b2n] <;> omega

include h

theorem node_cycle_iff {z : GNode} (hz : z ∈ nodes) : z.marks.testBit 0 = true ↔ z.scc ≠ 0 := by
  obtain ⟨i, n, -, rfl⟩ := (mem_nodes h).1 hz
  simp only [graphNode, testBit_b2n_add _ _ (nodeMarks_even g _ n), bne_iff_ne]

theorem edge_cycle_iff {x : GEdge} (hx : x ∈ edges) : x.marks.testBit 0 = true ↔ ∃ c : Nat, c ≠ 0 ∧
    (nodes[x.src]?).map GNode.scc = some c ∧ (nodes[x.dst]?).map GNode.scc = some c := by
  obtain ⟨hsrc, hdst⟩ := lt_length_of_mem_edges h hx
  obtain ⟨y, -, rfl⟩ := (mem_edges h).1 hx
  rw [scc_getElem?_nodes h hsrc, scc_getElem?_nodes h hdst]
  simp only [graphEdge, testBit_b2n_add _ _ (show b2n (edgeReenters g y) * 32 % 2 = 0 by omega), Bool.and_eq_true, bne_iff_ne, beq_iff_eq,
    Option.some.injEq]
  exact ⟨fun ⟨hne, heq⟩ => ⟨_, hne, rfl, heq.symm⟩, fun ⟨c, hne, hs, hd⟩ => ⟨hs ▸ hne, hs.trans hd.symm⟩⟩

/-- Two nodes with an edge there and one back have a component number. -/
theorem scc_ne_zero_of_edges {x y : GEdge} (hx : x ∈ edges) (hy : y ∈ edges) (hne : x.src ≠ x.dst) (hsrc : y.src = x.dst)
    (hdst : y.dst = x.src) {z : GNode} (hz : z ∈ nodes) (hzx : z.idx = x.src ∨ z.idx = x.dst) : z.scc ≠ 0 := by
  obtain ⟨hs, hd⟩ := lt_length_of_mem_edges h hx
  rw [length_nodes h] at hs hd
  have hedge {x : GEdge} (hx : x ∈ edges) : (x.src, x.dst) ∈ (tangleEdges g).map (edgeEnds g) := by
    obtain ⟨u, hu, rfl⟩ := (mem_edges h).1 hx
    exact List.mem_map.2 ⟨u, hu, rfl⟩
  have hback := hedge hy
  rw [hsrc, hdst] at hback
  obtain ⟨c, hc, hsc, hdc⟩ := exists_component hs hd hne (hedge hx) hback
  obtain ⟨i, n, -, rfl⟩ := (mem_nodes h).1 hz
  have hi : i = x.src ∨ i = x.dst := hzx
  have hic : i ∈ c := by rcases hi with rfl | rfl <;> assumption
  rw [graphNode_scc]
  exact sccOf_ne_zero ⟨c, hc, hic⟩

end

end Sys2Proof.Machine
end


section
/-! PROPERTY. A hang is declared once and queues a dump; watchdog reports count; the tangle graph and the plan. -/

namespace Sys2Proof.Machine

section
variable (s : State)

/-! ### Declarations asked for (R210, R335) -/

/-- A message taken in keeps the registers canonical, HNG_HUNG, the lines, the partitions and the dump program's state. -/
theorem seqIn_frame (ch : Fin 8) (lseq : BitVec 16) {t : State} (ht : t = seqIn s ch lseq) :
    t.parts = s.parts ∧ t.hang = s.hang ∧ t.evPend = s.evPend ∧ reg t rHngHung = reg s rHngHung ∧
      (tabWf 0 s.regs = true → tabWf 0 t.regs = true) := by
  subst ht
  unfold seqIn
  dsimp only
  split
  · exact ⟨rfl, rfl, rfl, rfl, id⟩
  · exact ⟨rfl, rfl, rfl, reg_setReg_ne _ _ _ _ (by simp only [rHngHung, rIhbCh]; omega), regPut_wf _ _ _ _⟩

/-- The partitions of a cut that the hub on a channel has started here. -/
def dumpParts (ch : Fin 8) (cutid : Word) : List Nat :=
  (List.range 64).filter fun p => (getP s p).tree.any fun t => t.cutId == cutid && t.parent == some ch.val

theorem dumpParts_none {ch : Fin 8} {cutid : Word}
    (h : ∀ p : Nat, p < 64 → (getP s p).tree.any (fun t => t.cutId == cutid && t.parent == some ch.val) = false) : dumpParts s ch cutid = [] :=
  List.filter_eq_nil_iff.2 fun p hp => by simp [h p (List.mem_range.1 hp)]

theorem dumpParts_one {ch : Fin 8} {cutid : Word} {p : Nat} (hp : p < 64)
    (h : ∀ q : Nat, q < 64 → (getP s q).tree.any (fun t => t.cutId == cutid && t.parent == some ch.val) = decide (q = p)) :
    dumpParts s ch cutid = [p] := by
  have heq : dumpParts s ch cutid = (List.range 64).filter fun q => decide (q = p) :=
    List.filter_congr fun q hq => h q (List.mem_range.1 hq)
  have hcount : List.count p (List.range 64) = 1 := List.count_eq_one_of_mem List.nodup_range (List.mem_range.2 hp)
  rw [heq, List.filter_eq, hcount]
  rfl

/-- DUMP_REQ declares a hang of each partition of the cut, and goes on to the other hubs. -/
theorem exec_dumpReq (ch : Fin 8) (lseq : BitVec 16) (num cutid : Word) : exec (.dumpReq ch lseq num cutid) s =
    .next (chSendAll (forAll (dumpParts (seqIn s ch lseq) ch cutid) (fun s p => hangDeclare s p 4 0) (seqIn s ch lseq))
      ((dumpParts (seqIn s ch lseq) ch cutid).flatMap fun p => (getP (seqIn s ch lseq) p).tree.elim [] Tree.children).eraseDups 13
      [num, cutid]) := rfl

/-! ### Watchdog reports (R208, R209) -/

/-- A cluster's mask with one more report in it. -/
def wdgMarked (m k : Nat) : Nat := if m / 2 ^ k % 2 = 1 then m else m + 2 ^ k

theorem testBit_wdgMarked (m k : Nat) : (wdgMarked m k).testBit k = true := by
  rw [wdgMarked, Nat.testBit_eq_decide_div_mod_eq, decide_eq_true_eq]
  split
  next h => exact h
  next h =>
    rw [Nat.add_div_right _ (Nat.two_pow_pos k)]
    omega

/-- The Flyer that serves the core keeps the report. -/
theorem wdgPend_flyer {site f : Nat} (hf : flyerOf s site = some f) (hF : tabWf Flyer.fresh s.flyers = true) :
    wdgPend s site = setF s f { getF s f with wdg := (getF (wdgPend s site) f).wdg } ∧
      (tget 0 (getF (wdgPend s site) f).wdg (wiredCluster site)).testBit (wdgBitOf site) = true := by
  have hbit := testBit_wdgMarked (tget 0 (getF s f).wdg (wiredCluster site)) (wdgBitOf site)
  have heq : ∀ m : Nat, m = wdgMarked (tget 0 (getF s f).wdg (wiredCluster site)) (wdgBitOf site) →
      wdgPend s site = setF s f { getF s f with wdg := tput 0 (getF s f).wdg (wiredCluster site) m } := by
    rintro m rfl
    simp only [wdgPend, hf, wdgMarked]
  generalize wdgMarked (tget 0 (getF s f).wdg (wiredCluster site)) (wdgBitOf site) = m at hbit heq
  have heq := heq m rfl
  have hwdg : (getF (wdgPend s site) f).wdg = tput 0 (getF s f).wdg (wiredCluster site) m := by rw [heq, getF_setF_self _ _ _ hF]
  have hm : m ≠ 0 := fun h0 => by simp [h0] at hbit
  refine ⟨by rw [hwdg]; exact heq, ?_⟩
  rw [hwdg, tget_tput_self _ _ _ _ hm]
  exact hbit

/-- A report judged changes no Flyer. -/
theorem flyers_wdgJudge (site : Nat) : (wdgJudge s site).flyers = s.flyers := by
  unfold wdgJudge
  split
  next => rfl
  next p _ =>
    extract_lets x grace rp s1 n c
    split
    · rfl
    · split
      · rfl
      · split
        · rw [(hangWork_hangDeclare _ p 1 n).eq]
          rfl
        · rfl

/-- A report counted: HNG_STAT.WDG, and line 12. -/
def wdgCounted : State := raiseLine (countF s rHngStat 63 48 1) 12

/-- A report of a running core without grace counts, and may declare a hang. -/
theorem wdgJudge_running {site p : Nat} (hp : partOf s site = some p) (hst : (getP s p).st = .running) (hhold : (getP s p).hold = none)
    (hgrace : (getP s p).grace = 0) : ∃ x : Part, wdgJudge s site = setP (wdgCounted s) p x ∨
      ∃ n : Nat, wdgJudge s site = hangDeclare (setP (wdgCounted s) p x) p 1 n := by
  unfold wdgJudge
  split
  next hnone => cases hnone.symm.trans hp
  next q hq =>
    cases hq.symm.trans hp
    extract_lets x grace rp s1 n c
    rw [if_neg (by simp [grace, x, hgrace]), if_neg (by simp [x, hst, hhold])]
    split
    · exact ⟨_, .inr ⟨n, rfl⟩⟩
    · exact ⟨_, .inl rfl⟩

/-- It raises line 12. -/
theorem wdgJudge_reported {site p : Nat} (hp : partOf s site = some p) (hst : (getP s p).st = .running) (hhold : (getP s p).hold = none)
    (hgrace : (getP s p).grace = 0) (hR : tabWf 0 s.regs = true) (hE : tabWf 0 s.evPend = true) :
    LineRaised (wdgJudge s site) 12 ∧ regF (wdgJudge s site) rHngStat 63 48 = min (regF s rHngStat 63 48 + 1) 0xFFFF := by
  obtain ⟨x, hx⟩ := wdgJudge_running s hp hst hhold hgrace
  have hline : LineRaised (wdgCounted s) 12 := fun k hk => raiseLine_set _ 12 k hE (by decide) hk
  have hcount : regF (wdgCounted s) rHngStat 63 48 = min (regF s rHngStat 63 48 + 1) 0xFFFF := regF_countF s _ _ _ 1 hR (by decide) (by decide)
  have hR1 : tabWf 0 (wdgCounted s).regs = true := countF_wf _ _ _ _ _ hR
  have hE1 : tabWf 0 (wdgCounted s).evPend = true := raiseLine_wf (countF s rHngStat 63 48 1) 12 hE
  generalize wdgCounted s = t at hx hline hcount hR1 hE1
  rcases hx with hx | ⟨n, hx⟩ <;> rw [hx]
  · exact ⟨hline, hcount⟩
  · have h := hangWork_hangDeclare (setP t p x) p 1 n
    exact ⟨h.lines hE1 12 hline, (h.reports hR1).trans hcount⟩

/-- The sites that report in a cluster's mask. -/
def wdgSites (cluster m : Nat) : List Nat := ((List.range 20).filter fun n => m / 2 ^ n % 2 = 1).map (wdgSite cluster)

/-- A mask of one bit. -/
theorem wdgSites_two_pow (cluster : Nat) {n : Nat} (hn : n < 20) : wdgSites cluster (2 ^ n) = [wdgSite cluster n] := by
  have hone (k : Nat) : 2 ^ n / 2 ^ k % 2 = 1 ↔ k = n :=
    (decide_eq_decide.1 ((Nat.testBit_eq_decide_div_mod_eq ..).symm.trans (Nat.testBit_two_pow ..))).trans eq_comm
  have hcount : List.count n (List.range 20) = 1 := List.count_eq_one_of_mem List.nodup_range (List.mem_range.2 hn)
  simp only [wdgSites, hone]
  rw [List.filter_eq, hcount]
  rfl

/-- WDG_FETCH clears the mask and judges what stood in it. -/
theorem exec_wdgFetch {cluster f : Nat} (hf : servedBy s cluster = some f) : exec (.wdgFetch cluster) s =
    .next (forAll (wdgSites cluster (tget 0 (getF s f).wdg cluster)) wdgJudge
      (setF s f { getF s f with wdg := tput 0 (getF s f).wdg cluster 0 })) := by
  show execWdgFetch cluster s = _
  simp only [execWdgFetch, hf]
  rfl

/-! ### HNG_CTRL (R213) -/

/-- AUTO is written like the other fields of HNG_CTRL. -/
theorem hngCtrl_auto (old v : Word) : bit ((layAt rHngCtrl).elim 0 fun l => l.write old v) 0 = bit v 0 := by
  have hlay : layAt rHngCtrl = some ⟨rHngCtrl, 1, 8, 0x20000700, 0xFFF0000701, 0, 0, 0⟩ := by decide +kernel
  rw [hlay, Option.elim, bit, RegLay.write_getLsbD _ _ _ 0 (by decide)]
  rfl

/-- With AUTO at 0 no dump program is loaded. -/
theorem hngWrite_manual (v : Word) (hR : tabWf 0 s.regs = true) (h : bit v 0 = false) :
    hngWrite s v = setReg s rHngCtrl ((layAt rHngCtrl).elim 0 fun l => l.write (reg s rHngCtrl) v) := by
  have hauto := hngCtrl_auto (reg s rHngCtrl) v
  unfold hngWrite
  generalize ((layAt rHngCtrl).elim 0 fun l => l.write (reg s rHngCtrl) v) = w at hauto ⊢
  unfold hangLoad
  extract_lets k
  rw [if_neg]
  simp [reg_setReg _ _ _ _ hR, hauto, h]

end

/-- Settles O37: declarations, reports and HNG_CTRL, then the tangle graph of any input, and the plan. -/
theorem hangsAreDeclaredOnce : Obligations.HangsAreDeclaredOnce := by
  refine ⟨fun s hcan => ?hang, ?graph, ?plan⟩
  case hang =>
    have hR := canonical_regs s hcan
    have hE := canonical_evPend s hcan
    have hF := canonical_flyers s hcan
    refine ⟨fun who p => ⟨fun h => if_neg ?dmpRefused, fun hmay hne => ⟨fun hhung => ?dmpHung, fun hhung hfull => ?dmp⟩⟩,
      ?dumpReq, fun site f hf => ⟨fun hw hg hb => ?report, fun h => if_neg ?reportNone⟩, ?fetch,
      fun who v => ⟨fun h => if_neg (by simp [h]), fun hmay hauto => ?ctrl⟩⟩
    case dmpRefused => rcases h with h | h <;> simp [h]
    case dmpHung => exact (if_pos ⟨hmay, hne⟩).trans (congrArg _ (hangDeclare_hung s p 3 0 hhung))
    case dmp =>
      obtain ⟨hbit, hline, d, hq, hpart, hcause⟩ := hangDeclare_declares s p 3 0 hhung hfull p.isLt hR hE rfl
      have hwork := hangWork_hangDeclare s p 3 0
      exact ⟨_, d, if_pos ⟨hmay, hne⟩, hbit, hline, hq, hpart, hcause, by rw [hwork.eq], by rw [hwork.eq]⟩
    case dumpReq =>
      rintro s2 ch lseq num cutid rfl
      obtain ⟨hparts, hhang, hpend, hhungs, hwf⟩ := seqIn_frame s ch lseq rfl
      rw [exec_dumpReq]
      generalize seqIn s ch lseq = s2 at hparts hhang hpend hhungs hwf ⊢
      simp only [← getP_of_eq hparts]
      refine ⟨fun h => ?_, fun p hp h hhung hfull => ?_⟩
      · rw [dumpParts_none s2 h]
        rfl
      · rw [dumpParts_one s2 hp h]
        have hfull2 : hangFull s2 = false := by rw [hangFull, hhang]; exact hfull
        obtain ⟨hbit, hline, d, hq, hpart, hcause⟩ := hangDeclare_declares s2 p 4 0 (by rw [hhungs]; exact hhung) hfull2 hp (hwf hR)
          (by rw [hpend]; exact hE) rfl
        have hdeclared : forAll [p] (fun s p => hangDeclare s p 4 0) s2 = hangDeclare s2 p 4 0 := rfl
        rw [hdeclared]
        refine ⟨_, d, rfl, ?_⟩
        rw [chSendAll_eq]
        exact ⟨hbit, hline, by rw [← hhang]; exact hq, hpart, hcause⟩
    case report =>
      obtain ⟨heq, hbit⟩ := wdgPend_flyer s hf hF
      refine ⟨_, if_pos ⟨hw, hg, hb⟩, heq, fun k => ?_⟩
      by_cases hk : k = wiredCluster site
      · exact .inl (hk ▸ hbit)
      · exact .inr hk
    case reportNone => rcases h with h | h | h <;> simp [h]
    case fetch =>
      intro cluster f hf hW
      refine ⟨_, exec_wdgFetch s hf, ?_, fun n p hn hmask hp hst hhold hgrace => ?_⟩
      · have hflyers := forAll_keeps (fun t : State => t.flyers = (setF s f { getF s f with wdg := tput 0 (getF s f).wdg cluster 0 }).flyers)
          (wdgSites cluster (tget 0 (getF s f).wdg cluster)) wdgJudge (setF s f { getF s f with wdg := tput 0 (getF s f).wdg cluster 0 }) rfl
          fun t site _ ht => (flyers_wdgJudge t site).trans ht
        rw [getF, hflyers, ← getF, getF_setF_self _ _ _ hF]
        exact (tget_tput _ _ _ _ _ hW).trans (if_pos rfl)
      · rw [hmask, wdgSites_two_pow cluster hn]
        exact wdgJudge_reported (setF s f { getF s f with wdg := tput 0 (getF s f).wdg cluster 0 }) hp hst hhold hgrace hR hE
    case ctrl => exact (if_pos hmay).trans (congrArg _ (hngWrite_manual s v hR hauto))
  case graph =>
    intro g nodes edges h
    exact ⟨map_idx_nodes h, fun x hx => lt_length_of_mem_edges h hx, fun e n he hn => exists_wait_edge h he hn,
      fun x hx => node_cycle_iff h hx, fun x hx => edge_cycle_iff h hx,
      fun x y hx hy hne hsrc hdst z hz hzx => scc_ne_zero_of_edges h hx hy hne hsrc hdst hz hzx⟩
  case plan =>
    intro u k
    rw [planBlocks]
    omega

end Sys2Proof.Machine
end


section
/-! PROPERTY. Lossless holds: a hold starts with HALT, ends with RUN when its queues have drained, and gives up after TRC_LL_CTRL.TMO. -/

namespace Sys2Proof.Machine

section
variable (s : State) (p : Fin 64)

/-! ### Requests (R145) -/

/-- A queue that has reached its threshold joins the partition's requests. -/
theorem exec_llHoldRequest_wanted (point : DropPoint) (h : point ∈ (getP s p).llWant) :
    exec (.llHoldRequest point p) s = .next (setP s p { getP s p with
      llWant := (getP s p).llWant.filter fun q => q != point
      holdReq := if (getP s p).holdReq.contains point then (getP s p).holdReq else (getP s p).holdReq ++ [point] }) :=
  if_pos (List.contains_iff_mem.2 h)

/-- A queue that asks for no hold requests none. -/
theorem exec_llHoldRequest_unwanted (point : DropPoint) (h : point ∉ (getP s p).llWant) :
    exec (.llHoldRequest point p) s = .next s :=
  if_neg (mt List.contains_iff_mem.1 h)

/-! ### The start of a hold (R146) -/

/-- A running partition with a request and no hold is held. -/
theorem exec_llHoldStart_holds (hreq : (getP s p).holdReq ≠ []) (hhold : (getP s p).hold = none) (hst : (getP s p).st = .running)
    (htmo : (getP s p).holdTmo = false) :
    exec (.llHoldStart p) s = .next (hevt (ctlPush (countF (setP s p { getP s p with hold := some ⟨s.ht⟩ }) rTrcLlCtrl 63 48 1)
      (liveRegions s p) p .halt 0 0) 0x005 p []) :=
  if_neg (by simp [hreq, hhold, hst, htmo])

/-- Any other partition is not held. -/
theorem exec_llHoldStart_idle (h : (getP s p).holdReq = [] ∨ (getP s p).hold.isSome = true ∨ (getP s p).st ≠ .running ∨
    (getP s p).holdTmo = true) : exec (.llHoldStart p) s = .next s :=
  if_pos h

/-! ### The end of a hold (R146, R147) -/

/-- A hold that has drained ends, and its requests with it. -/
theorem holdEnded_drained : holdEnded s p 0 = hevt (setP s p { getP s p with hold := none, holdReq := [] }) 0x006 p [] := by
  simp [holdEnded]

/-- A hold that has timed out ends and its requests stay, for the dropping that follows. -/
theorem holdEnded_timedOut (hP : tabWf Part.fresh s.parts = true) :
    holdEnded (setP s p { getP s p with holdTmo := true }) p 1 =
      hevt (setP s p { getP s p with hold := none, holdTmo := true }) 0x006 (256 + p.val) [] := by
  have hkeeps (x : Part) (h : x.holdTmo = true) : x ≠ Part.fresh := fun hx => by
    rw [hx] at h
    exact absurd h (by decide)
  have htwice (y : Part) (h : y.holdTmo = true) : setP (setP s p { getP s p with holdTmo := true }) p y = setP s p y :=
    congrArg (fun t => { s with parts := t }) (tput_tput _ _ _ _ _ (hkeeps _ rfl) (hkeeps _ h))
  rw [holdEnded, getP_setP_self s _ _ hP, if_pos rfl, htwice _ rfl]
  rfl

/-- Whether every requesting queue lies below 25 %. -/
theorem drained_iff : (getP s p).holdReq.all (below25 s) = true ↔ ∀ q : DropPoint, q ∈ (getP s p).holdReq → below25 s q = true :=
  List.all_eq_true

/-- A queue that has not drained keeps the hold. -/
theorem exec_llHoldEnd_undrained (h : ∃ q : DropPoint, q ∈ (getP s p).holdReq ∧ below25 s q = false) :
    exec (.llHoldEnd p) s = .next s :=
  if_pos (by simpa using h)

section
variable (hall : ∀ q : DropPoint, q ∈ (getP s p).holdReq → below25 s q = true)
include hall

/-- A drained hold ends with RUN to each root. -/
theorem exec_llHoldEnd_held (hhold : (getP s p).hold.isSome = true) : exec (.llHoldEnd p) s =
    .next (ctlPush (hevt (setP s p { getP s p with hold := none, holdReq := [] }) 0x006 p []) (liveRegions s p) p .run 0 0) := by
  show execLlHoldEnd p s = _
  simp only [execLlHoldEnd, (drained_iff s p).2 hall, hhold, Bool.not_true, Bool.false_eq_true, if_false, if_true, ok, holdEnded_drained]

/-- After a hold that timed out, drained queues end the dropping. -/
theorem exec_llHoldEnd_dropping (hhold : (getP s p).hold = none) (htmo : (getP s p).holdTmo = true) : exec (.llHoldEnd p) s =
    .next (setP s p { getP s p with holdTmo := false, holdReq := [] }) := by
  show execLlHoldEnd p s = _
  simp only [execLlHoldEnd, (drained_iff s p).2 hall, hhold, htmo, Bool.not_true, Bool.false_eq_true, if_false, if_true, ok,
    Option.isSome_none]

end

/-! ### A hold that times out (R147) -/

/-- Without a hold nothing times out. -/
theorem exec_llHoldTimeout_none (h : (getP s p).hold = none) : exec (.llHoldTimeout p) s = .next s := by
  show execLlHoldTimeout p s = _
  simp only [execLlHoldTimeout, h, ok]

/-- Before TRC_LL_CTRL.TMO the hold stands. -/
theorem exec_llHoldTimeout_early (h : Hold) (hhold : (getP s p).hold = some h) (hearly : s.ht < h.since + regF s rTrcLlCtrl 31 0) :
    exec (.llHoldTimeout p) s = .next s := by
  show execLlHoldTimeout p s = _
  simp only [execLlHoldTimeout, hhold, if_pos hearly, ok]

/-- From then on it ends with RUN to each root, and records are dropped. -/
theorem exec_llHoldTimeout_late (hP : tabWf Part.fresh s.parts = true) (h : Hold) (hhold : (getP s p).hold = some h)
    (hlate : h.since + regF s rTrcLlCtrl 31 0 ≤ s.ht) : exec (.llHoldTimeout p) s =
    .next (ctlPush (hevt (setP s p { getP s p with hold := none, holdTmo := true }) 0x006 (256 + p.val) [])
      (liveRegions s p) p .run 0 0) := by
  rw [← holdEnded_timedOut s p hP]
  show execLlHoldTimeout p s = _
  simp only [execLlHoldTimeout, hhold, if_neg (not_lt.mpr hlate), ok]

end

/-! ### The statement -/

/-- Settles O33: each event of a lossless hold has the effect its rule gives, and none without its condition. -/
theorem losslessHoldsStopAndRelease : Obligations.LosslessHoldsStopAndRelease := by
  unfold Obligations.LosslessHoldsStopAndRelease
  rintro s p x rfl hc
  refine ⟨fun point => ⟨exec_llHoldRequest_wanted s p point, exec_llHoldRequest_unwanted s p point⟩, exec_llHoldStart_holds s p,
    exec_llHoldStart_idle s p, fun h hhold => ⟨?_, exec_llHoldEnd_undrained s p, ?_, ?_⟩,
    fun hhold => ⟨exec_llHoldTimeout_none s p hhold, fun htmo hall => exec_llHoldEnd_dropping s p hall hhold htmo⟩⟩
  · exact fun hall => exec_llHoldEnd_held s p hall (by rw [hhold]; rfl)
  · exact exec_llHoldTimeout_late s p (canonical_parts s hc) h hhold
  · exact exec_llHoldTimeout_early s p h hhold

end Sys2Proof.Machine
end


section
/-! SUPPORT. The counterexample to O44: SRC has 16 bits, and in a grid of more than 192 rows a core's flow source does not fit them. Its record
carries the source number modulo 2 ^ 16, and the gap that stands under that number goes ahead of it. -/

namespace Sys2Proof.Machine

/-- The site of the core at row 192, column 0: the first whose flow source passes 16 bits (Table 5.1). -/
def farSite : Nat := siteIdx 192 0

/-- A pending gap of one record. -/
def oneDropped : Gap := ⟨0, false, false, false, 1, 0, 0, 3, 0⟩

/-- The site's Bobbin has one gap pending, under source 0. -/
def farBobbin : Site := { Site.fresh with gaps := [(0, some oneDropped)] }

/-- A grid of 193 rows, with FLOW_ON at 1 at the site. -/
def farState : State :=
  setAg (setS { State.reset with integ := { State.reset.integ with rows := 193 } } farSite farBobbin) farSite aBtCtrl 1

/-- The indirect transfer's record finds the gap ahead of it. -/
theorem exec_flowEvent_farState :
    ∃ t : State, exec (.flowEvent farSite none none (some 0)) farState = .next t ∧ (getS t farSite).fifo.length = 2 :=
  ⟨_, rfl, by decide +kernel⟩

/-- Refutes O44: no gap is pending under the number of the flow source, but one is under the 16 bits of it that a record carries, so the
Bobbin's FIFO gains that source's GAP record ahead of the FLOW_IND. -/
theorem not_encodersMakeTraceRecords : ¬ Obligations.EncodersMakeTraceRecords := by
  unfold Obligations.EncodersMakeTraceRecords
  intro h
  obtain ⟨-, hflow, -⟩ := h farState farSite farBobbin (by decide +kernel) (by decide +kernel) (by decide)
  obtain ⟨hindirect, -⟩ := hflow Src.fresh (by decide +kernel) rfl rfl rfl (by decide +kernel) (by decide +kernel) rfl rfl rfl
    (by decide +kernel) (by decide +kernel) (by decide) rfl (by decide +kernel) (by decide +kernel)
  obtain ⟨t, hnext, hfifo⟩ := hindirect 0
  obtain ⟨u, hu, htwo⟩ := exec_flowEvent_farState
  rw [Host.Outcome.next.inj (hu.symm.trans hnext), hfifo] at htwo
  exact absurd htwo (by decide)

end Sys2Proof.Machine
end


section
/-! PROPERTY. The funnel: an input's head record into the D queue or the reorder store, the release of the least E, and gaps that are placed. -/

namespace Sys2Proof.Machine

/-! ### An input's head taken (R149, R151) -/

/-- Records that move up into the local input change neither the D queue nor the reorder store. -/
theorem localRefill_keeps (n : Nat) (f : Funnel) : (localRefill n f).dq = f.dq ∧ (localRefill n f).store = f.store := by
  induction n generalizing f with
  | zero => exact ⟨rfl, rfl⟩
  | succ n ih =>
    unfold localRefill
    split
    next => exact ⟨rfl, rfl⟩
    next =>
      split
      · exact ih _
      · exact ⟨rfl, rfl⟩
    next =>
      split
      · exact ih _
      · exact ⟨rfl, rfl⟩

section
variable (s : State)

/-- A head record taken changes the funnel, but neither the D queue nor the reorder store. -/
theorem inputPop_keeps (n : Nat) : (inputPop s n).funnel.dq = s.funnel.dq ∧ (inputPop s n).funnel.store = s.funnel.store ∧
    (inputPop s n).sites = s.sites := by
  unfold inputPop
  dsimp only
  split
  · obtain ⟨hdq, hstore⟩ := localRefill_keeps (s.funnel.held.length + s.funnel.emitQ.length)
      { s.funnel with local_ := s.funnel.local_.drop 1 }
    exact ⟨hdq, hstore, rfl⟩
  · exact ⟨rfl, rfl, rfl⟩

/-- The local input's head, when nothing waits to move up. -/
theorem inputPop_local (hheld : s.funnel.held = []) (hemit : s.funnel.emitQ = []) :
    inputPop s 16 = { s with funnel := { s.funnel with local_ := s.funnel.local_.drop 1 } } := by
  simp [inputPop, hheld, hemit, localRefill]

/-- The counts of a dump change neither the funnel nor a site. -/
theorem noteDump_keeps (r : Rec) : (noteDump s r).funnel = s.funnel ∧ (noteDump s r).sites = s.sites := by
  unfold noteDump
  split <;> exact ⟨rfl, rfl⟩

/-! ### FUNNEL_PARSE (R149, R155) -/

/-- An empty input gives nothing. -/
theorem exec_funnelParse_empty (n : Fin 17) (h : inputHead s n = none) : exec (.funnelParse n) s = .next s := by
  show execFunnelParse n s = _
  simp only [execFunnelParse, h, ok]

/-- A class D record that fits joins the D queue. -/
theorem funnelParse_classD (n : Fin 17) (r : Rec) (hhead : inputHead s n = some r) (hcls : recCls r = 4)
    (hroom : unitsOf s.funnel.dq + recUnits r ≤ 4096) :
    ∃ t : State, exec (.funnelParse n) s = .next t ∧ t.funnel.dq = s.funnel.dq ++ [r] ∧ t.funnel.store = s.funnel.store ∧
      t.sites = s.sites := by
  obtain ⟨hdq, hstore, hsites⟩ := inputPop_keeps s n
  obtain ⟨hfunnel, hnote⟩ := noteDump_keeps (inputPop s n) r
  have hexec : exec (.funnelParse n) s = .next (parseD s n r) := by
    show execFunnelParse n s = _
    simp only [execFunnelParse, hhead, if_pos hcls, ok]
  refine ⟨_, hexec, ?_, ?_, ?_⟩ <;> simp only [parseD, if_pos hroom, hfunnel, hnote, hdq, hstore, hsites]

/-- A hub event is accepted as it stands. -/
theorem acceptRec_hevt (n : Nat) (r : Rec) (htype : recType r = 8) : acceptRec s n r = (r, false) := by
  have hext : extends_ n r = false := by simp [extends_, htype]
  have hsum : isSummary r = false := by simp [isSummary, htype]
  simp [acceptRec, hext, hsum, htype]

/-- No watcher takes a hub event. -/
theorem watchParsed_hevt (r : Rec) (htype : recType r = 8) : watchParsed s r = s := by
  have hsum : isSummary r = false := by simp [isSummary, htype]
  simp [watchParsed, hsum, htype]

/-- A hub event alone in its source stands in the store at its own time. -/
theorem estimate_hevt (r : Rec) (htype : recType r = 8) (hfirst : tget none s.funnel.srcE (recSrc r) = none) :
    estimate s r = (((recPay r 0).toNat : Nat) : Rat) := by
  have htime : holdsTime r = true := by simp [holdsTime, htype]
  simp [estimate, htime, hfirst]

/-- A record in time, for which there is room, joins the reorder store. -/
theorem storeRec_inTime (n : Nat) (r : Rec) (hroom : storeUnits s + recUnits r ≤ 32768)
    (htime : (s.ht : Rat) ≤ estimate s r + (winW s : Nat)) :
    storeRec s n r = { s with funnel := { s.funnel with
      srcE := tput none s.funnel.srcE (recSrc r) (some (estimate s r))
      store := s.funnel.store ++ [⟨r, estimate s r, n, s.funnel.seq⟩]
      seq := s.funnel.seq + 1 } } := by
  have hmake (e : Tab (Option Rat)) : makeRoom 32768 (recUnits r) { s with funnel := { s.funnel with srcE := e } } =
      { s with funnel := { s.funnel with srcE := e } } := if_pos (.inl hroom)
  rw [storeRec, hmake]
  exact if_neg (not_lt.mpr htime)

/-- A hub event of the local input, alone in its source and in time, joins the reorder store. -/
theorem funnelParse_hevt (r : Rec) (rest : List Rec) (hlocal : s.funnel.local_ = r :: rest) (htype : recType r = 8)
    (hcls : recCls r = 0) (hfirst : tget none s.funnel.srcE (recSrc r) = none) (htime : s.ht ≤ (recPay r 0).toNat + winW s)
    (hroom : storeUnits s + recUnits r ≤ 32768) (hheld : s.funnel.held = []) (hemit : s.funnel.emitQ = []) :
    ∃ t : State, exec (.funnelParse 16) s = .next t ∧ t.funnel.local_ = rest ∧
      t.funnel.store = s.funnel.store ++ [⟨r, (((recPay r 0).toNat : Nat) : Rat), 16, s.funnel.seq⟩] ∧
      t.funnel.dq = s.funnel.dq := by
  have hhead : inputHead s ((16 : Fin 17) : Nat) = some r := by simp [inputHead, hlocal]
  have hpop := inputPop_local s hheld hemit
  have hest : estimate (inputPop s 16) r = (((recPay r 0).toNat : Nat) : Rat) :=
    estimate_hevt _ r htype (by rw [hpop]; exact hfirst)
  have hexec : exec (.funnelParse 16) s = .next (storeRec (inputPop s 16) 16 r) := by
    show execFunnelParse 16 s = _
    simp only [execFunnelParse, hhead]
    simp [hcls, htype, acceptRec_hevt s _ r htype, watchParsed_hevt _ r htype, ok]
  have hstore := storeRec_inTime (inputPop s 16) 16 r (by rw [hpop]; exact hroom) (by rw [hest, hpop]; exact_mod_cast htime)
  rw [hest, hpop] at hstore
  rw [hpop] at hexec
  exact ⟨_, hexec.trans (congrArg _ hstore), by simp [hlocal], rfl, rfl⟩

/-! ### FUNNEL_RELEASE (R150) -/

/-- The record that goes first is a stored one, and none has a smaller E. -/
theorem firstOut_least (l : List Store) (x : Store) (h : firstOut l = some x) : x ∈ l ∧ ∀ y ∈ l, x.e ≤ y.e := by
  induction l generalizing x with
  | nil => cases h
  | cons a l ih =>
    unfold firstOut at h
    split at h
    next hnone =>
      obtain rfl : a = x := by simpa using h
      have hnil : l = [] := by
        cases l with
        | nil => rfl
        | cons b l =>
          unfold firstOut at hnone
          split at hnone
          · cases hnone
          · split at hnone <;> cases hnone
      subst hnil
      simp
    next y hy =>
      obtain ⟨hmem, hleast⟩ := ih y hy
      split at h
      next hlt =>
        obtain rfl : y = x := by simpa using h
        have hya : y.e ≤ a.e := by
          rcases hlt with hlt | ⟨heq, -⟩
          · exact le_of_lt hlt
          · exact le_of_eq heq
        exact ⟨List.mem_cons_of_mem _ hmem, List.forall_mem_cons.2 ⟨hya, hleast⟩⟩
      next hge =>
        obtain rfl : a = x := by simpa using h
        have hay : a.e ≤ y.e := not_lt.mp fun hlt => hge (.inl hlt)
        exact ⟨List.mem_cons_self, List.forall_mem_cons.2 ⟨le_refl _, fun z hz => hay.trans (hleast z hz)⟩⟩

/-- An empty store releases nothing. -/
theorem exec_funnelRelease_empty (h : s.funnel.store = []) : exec .funnelRelease s = .next s := by
  show execFunnelRelease s = _
  simp only [execFunnelRelease, h, firstOut, ok]

section
variable (x : Store) (h : firstOut s.funnel.store = some x)
include h

/-- Before E + W nothing is released. -/
theorem exec_funnelRelease_early (hearly : (s.ht : Rat) < x.e + (winW s : Rat)) : exec .funnelRelease s = .next s := by
  show execFunnelRelease s = _
  simp only [execFunnelRelease, h]
  exact if_neg (not_le.mpr hearly)

/-- From E + W on the record of least E goes to the sinks. -/
theorem exec_funnelRelease_due (hdue : x.e + (winW s : Rat) ≤ (s.ht : Rat)) : exec .funnelRelease s = .next (release
    { s with funnel := { s.funnel with store := s.funnel.store.filter fun y => y.seq ≠ x.seq } } x.r) := by
  have hfirst : releaseFirst s = release
      { s with funnel := { s.funnel with store := s.funnel.store.filter fun y => y.seq ≠ x.seq } } x.r := by
    simp only [releaseFirst, h]
  show execFunnelRelease s = _
  simp only [execFunnelRelease, h, ← hfirst]
  exact if_pos hdue

end

/-! ### GAP_FLUSH (R144) -/

/-- A gap whose run began 40,000 ht ago is due. -/
theorem gapDue_some (g : Gap) (h : g.since + 40000 ≤ s.ht) :
    (some g).filter (fun g => decide (g.since + 40000 ≤ s.ht)) = some g := by simp [h]

/-- Before then it is not. -/
theorem gapDue_none (g : Gap) (h : ¬ g.since + 40000 ≤ s.ht) :
    (some g).filter (fun g => decide (g.since + 40000 ≤ s.ht)) = none := by simpa using h

section
variable (src : BitVec 16) (g : Gap)

/-- A due gap joins a Bobbin's FIFO that has room. -/
theorem exec_gapFlush_bobbin (i : Nat) (hg : tget none (getS s i).gaps src.toNat = some g) (hdue : g.since + 40000 ≤ s.ht)
    (hroom : unitsOf (getS s i).fifo + 3 ≤ 8) : exec (.gapFlush (.bobbin i) src) s = .next (setS s i { getS s i with
      fifo := (getS s i).fifo ++ [gapRec src.toNat g], gaps := tput none (getS s i).gaps src.toNat none }) := by
  show execGapFlush (.bobbin i) src s = _
  simp only [execGapFlush, hg, gapDue_some s g hdue, if_pos hroom, ok]

/-- A gap that is not due, or finds no room, stays. -/
theorem exec_gapFlush_bobbin_waits (i : Nat) (hg : tget none (getS s i).gaps src.toNat = some g)
    (h : s.ht < g.since + 40000 ∨ 8 < unitsOf (getS s i).fifo + 3) : exec (.gapFlush (.bobbin i) src) s = .next s := by
  show execGapFlush (.bobbin i) src s = _
  by_cases hdue : g.since + 40000 ≤ s.ht
  · have hfull : ¬ unitsOf (getS s i).fifo + 3 ≤ 8 := by omega
    simp only [execGapFlush, hg, gapDue_some s g hdue, if_neg hfull, ok]
  · simp only [execGapFlush, hg, gapDue_none s g hdue, ok]

/-- No gap, nothing to place. -/
theorem exec_gapFlush_bobbin_none (i : Nat) (h : tget none (getS s i).gaps src.toNat = none) :
    exec (.gapFlush (.bobbin i) src) s = .next s := by
  show execGapFlush (.bobbin i) src s = _
  simp only [execGapFlush, h, Option.filter_none, ok]

/-- A due gap joins a Flyer's queue that has room. -/
theorem exec_gapFlush_flyer (f : Nat) (hg : tget none (getF s f).gaps src.toNat = some g)
    (hages : tget none (getF s f).ages src.toNat = none) (hdue : g.since + 40000 ≤ s.ht)
    (hroom : unitsOf ((getF s f).q.map QRec.r) + 3 ≤ 128) : exec (.gapFlush (.flyer f) src) s = .next (setF s f { getF s f with
      q := (getF s f).q ++ [⟨gapRec src.toNat g, s.ht⟩], gaps := tput none (getF s f).gaps src.toNat none }) := by
  show execGapFlush (.flyer f) src s = _
  simp only [execGapFlush, hg, hages, gapDue_some s g hdue, Option.filter_none, if_neg (not_lt.mpr hroom), ok]

/-- A due gap of records that the ring writer dropped goes to the head of its queue. -/
theorem exec_gapFlush_ring_written (hg : tget none s.ring.gaps src.toNat = some g) (hdue : g.since + 40000 ≤ s.ht)
    (hroom : unitsOf s.ring.q + 3 ≤ 1024) : exec (.gapFlush .ring src) s = .next { s with ring := { s.ring with
      q := gapRec src.toNat g :: s.ring.q, gaps := tput none s.ring.gaps src.toNat none } } := by
  show execGapFlush .ring src s = _
  simp only [execGapFlush, hg, gapDue_some s g hdue, if_neg (not_lt.mpr hroom), ok]

/-- A due gap of records that the ring writer's queue dropped goes to its tail. -/
theorem exec_gapFlush_ring_queued (hg : tget none s.ring.qgaps src.toNat = some g) (hno : tget none s.ring.gaps src.toNat = none)
    (hdue : g.since + 40000 ≤ s.ht) (hroom : unitsOf s.ring.q + 3 ≤ 1024) :
    exec (.gapFlush .ring src) s = .next { s with ring := { s.ring with
      q := s.ring.q ++ [gapRec src.toNat g], qgaps := tput none s.ring.qgaps src.toNat none } } := by
  show execGapFlush .ring src s = _
  simp only [execGapFlush, hg, hno, gapDue_some s g hdue, Option.filter_none, if_neg (not_lt.mpr hroom), ok]

end

end

/-! ### The statement -/

/-- Settles O46: the funnel's events have the effect their rules give, by the order of the reorder store. -/
theorem theFunnelOrdersRecordsAndPlacesGaps : Obligations.TheFunnelOrdersRecordsAndPlacesGaps := by
  unfold Obligations.TheFunnelOrdersRecordsAndPlacesGaps
  intro s _
  refine ⟨exec_funnelParse_empty s, funnelParse_classD s, funnelParse_hevt s, exec_funnelRelease_empty s,
    fun x hx => ⟨firstOut_least _ x hx, exec_funnelRelease_early s x hx, exec_funnelRelease_due s x hx⟩,
    fun src i g hg => ⟨exec_gapFlush_bobbin s src g i hg, exec_gapFlush_bobbin_waits s src g i hg⟩,
    fun src f g => exec_gapFlush_flyer s src g f, exec_gapFlush_ring_written s, exec_gapFlush_ring_queued s,
    exec_gapFlush_bobbin_none s⟩

end Sys2Proof.Machine
end


section
/-! SUPPORT. What a health change leaves of the registers and of the trace buffer, and the keys of the requesters' own copies. -/

namespace Sys2Proof.Machine

section
variable (s : State)

/-! ### Registers that a health change keeps (R389, R294, R410) -/

/-- The registers that a health change counts in: HLT_GEN, HNK_QUEUE, ID_MMAP and ID_MMAP_GEN. -/
def healthRegs : List Nat := [rHltGen, rHnkQueue, rIdMmap, rIdMmapGen]

/-- Any other register keeps its value. -/
theorem reg_healthChange_ne (k u : Nat) (l : Bool) {o : Nat} (h : o ∉ healthRegs) : reg (healthChange s k u l) o = reg s o := by
  obtain ⟨hgen, hqueue, hmap, hmapGen⟩ : o ≠ rHltGen ∧ o ≠ rHnkQueue ∧ o ≠ rIdMmap ∧ o ≠ rIdMmapGen := by
    simpa [healthRegs] using h
  have hlocal (t : State) (r : Rec) : reg (pushLocal t r) o = reg t o := by
    rw [pushLocal_eq]
    rfl
  rw [healthChange, reg_publishMap _ _ hmap hmapGen, journal, reg_submit_ne _ _ _ _ hqueue, hevt, hlocal]
  exact reg_setReg_ne _ _ _ _ hgen

/-- One stored value read under another register's reset value. -/
theorem regGet_of_reg {s t : State} {key : Nat} (h : reg t key = reg s key) (o : Nat) : regGet t key o = regGet s key o := by
  have hstored : tget 0 t.regs key = tget 0 s.regs key := by simpa [reg, regGet] using h
  rw [regGet, regGet, hstored]

/-! ### The requesters' own copies (R381) -/

/-- A requester's copy lies above every register of the window. -/
theorem ne_keyWho (who : Who) {k o : Nat} (h : k < 0x1000000) : k ≠ keyWho who o := by
  unfold keyWho
  omega

/-- The copies of two registers are apart. -/
theorem keyWho_ne (who : Who) {o p : Nat} (h : o ≠ p) : keyWho who o ≠ keyWho who p := by
  unfold keyWho
  omega

/-- A requester's copy is none of the registers that a health change counts in. -/
theorem keyWho_not_healthRegs (who : Who) (o : Nat) : keyWho who o ∉ healthRegs := by
  intro h
  have hsmall : ∀ k ∈ healthRegs, k < 0x1000000 := by decide
  exact ne_keyWho who (hsmall _ h) rfl

/-! ### The trace buffer's rises of TLINE (R158) -/

/-- Raised lines may add a rise of TLINE to the trace buffer, and change nothing else of it. -/
theorem raiseLines_buffer (m : Word) : ∃ l : List Nat, (raiseLines s m).buffer = { s.buffer with rises := l } := by
  have hb : (raiseLines s m).buffer = if m.getLsbD (regF s rTrcWinCtrl 37 32) && regF s rTrcWinCtrl 1 0 == 2 then
      { s.buffer with rises := s.buffer.rises ++ [s.ht] } else s.buffer := rfl
  rw [hb]
  split
  · exact ⟨_, rfl⟩
  · exact ⟨s.buffer.rises, rfl⟩

/-- So does a health change. -/
theorem healthChange_buffer (k u : Nat) (l : Bool) : ∃ rises : List Nat, (healthChange s k u l).buffer = { s.buffer with rises := rises } := by
  obtain ⟨rises, h⟩ := raiseLines_buffer (setRegF s rHltGen 31 0 (regF s rHltGen 31 0 + 1)) (word (2 ^ 5))
  exact ⟨rises, by rw [healthChange, publishMap_buffer, journal_buffer, hevt_buffer, raiseLine, h, setRegF_buffer]⟩

end

end Sys2Proof.Machine
end


section
/-! PROPERTY. The trace buffer: its mode writes, its trigger, the end of a capture, its banks, and the spill ring's blocks. -/

namespace Sys2Proof.Machine

section
variable (s : State)

/-! ### What the buffer's intake changes (R157 to R160) -/

/-- From s to t the trace buffer has taken records: registers, the buffer and the funnel have changed. -/
def BufferWork (s t : State) : Prop := t = { s with regs := t.regs, buffer := t.buffer, funnel := t.funnel }

theorem BufferWork.refl : BufferWork s s := rfl

theorem BufferWork.trans {s t u : State} (h : BufferWork s t) (k : BufferWork t u) : BufferWork s u := by
  rw [BufferWork, k, h]

theorem BufferWork.keeps {s t : State} (h : BufferWork s t) : t.evPend = s.evPend ∧ t.sites = s.sites := by
  rw [h]
  exact ⟨rfl, rfl⟩

theorem bufferWork_forAll {α : Type} (l : List α) (f : State → α → State) (h : ∀ t a, BufferWork t (f t a)) :
    BufferWork s (forAll l f s) :=
  forAll_keeps (BufferWork s) l f s rfl fun t a _ ht => ht.trans (h t a)

section
variable {s} {t : State} (h : BufferWork s t)
include h

theorem BufferWork.setBuffer (b : Buffer) : BufferWork s { t with buffer := b } := h.trans rfl

theorem BufferWork.setSink (n : Nat) (x : Sink) : BufferWork s (setSink t n x) := h.trans rfl

theorem BufferWork.countDrop (n : Nat) (r : Rec) : BufferWork s (countDrop t n r) := h.trans rfl

end

/-- A record written, in the open block or in a new one. -/
theorem bufferWork_bufWrite (r : Rec) : BufferWork s (bufWrite s r) := by
  unfold bufWrite
  split <;> rfl

/-- The pending gaps written into closing blocks. -/
theorem bufferWork_closeGaps : BufferWork s (closeGaps s) := by
  unfold closeGaps
  dsimp only
  exact ((((BufferWork.refl s).setBuffer _).trans (bufferWork_forAll _ _ bufWrite bufferWork_bufWrite)).setBuffer _).setSink 0 _

/-- A record that the buffer keeps. -/
theorem bufferWork_bufTake (r : Rec) {t : State} (h : bufTake s r = some t) : BufferWork s t := by
  unfold bufTake at h
  split at h
  · cases h
  · split at h
    · obtain rfl := Option.some.inj h
      exact bufferWork_bufWrite s r
    · split at h
      · obtain ⟨b, -, rfl⟩ := Option.map_eq_some_iff.1 h
        exact ((BufferWork.refl s).setBuffer b).trans (bufferWork_bufWrite _ r)
      · split at h
        · cases h
        · obtain rfl := Option.some.inj h
          exact bufferWork_bufWrite s r

/-- Records that the buffer keeps. -/
theorem bufferWork_bufTakeAll (l : List Rec) {t : State} (h : bufTakeAll s l = some t) : BufferWork s t := by
  induction l generalizing s with
  | nil =>
    obtain rfl := Option.some.inj h
    exact .refl s
  | cons r l ih =>
    obtain ⟨u, hu, ht⟩ := Option.bind_eq_some_iff.1 h
    exact (bufferWork_bufTake s r hu).trans (ih u ht)

/-- A record offered to the buffer: dropped, the first of the post region, kept, or without a block. -/
theorem bufferWork_bufferTake (r : Rec) : BufferWork s (bufferTake s r) := by
  unfold bufferTake
  dsimp only
  split
  next => exact (BufferWork.refl s).countDrop 0 r
  next =>
    split
    next => exact (((BufferWork.refl s).setBuffer _).trans (bufferWork_bufWrite _ r)).setBuffer _
    next =>
      split
      next t ht => exact (bufferWork_bufTakeAll s _ ht).setSink 0 _
      next =>
        split
        next => split <;> split <;> rfl
        next => exact ((bufferWork_closeGaps s).setBuffer _).countDrop 0 r

theorem bufferWork_bufferStep : BufferWork s (bufferStep s) := by
  unfold bufferStep
  dsimp only
  split
  next => exact .refl s
  next r l _ => exact ((BufferWork.refl s).setSink 0 _).trans (bufferWork_bufferTake _ r)

theorem bufferWork_bufferFlush : BufferWork s (bufferFlush s) :=
  bufferWork_forAll s _ _ fun t _ => bufferWork_bufferStep t

/-! ### The end of a capture (R160) -/

/-- A capture that ends is CAPTURED and raises line 3. -/
theorem endCapture_captured (cause : Nat) (h : tabWf 0 s.evPend = true) : (endCapture s cause).buffer.st = 4 ∧
    (endCapture s cause).buffer.trigAt = none ∧ LineRaised (endCapture s cause) 3 ∧ (endCapture s cause).sites = s.sites := by
  obtain ⟨hpend, hsites⟩ := ((bufferWork_bufferFlush s).trans (bufferWork_closeGaps _)).keeps
  obtain ⟨rises, hbuffer⟩ := raiseLines_buffer
    { closeGaps (bufferFlush s) with buffer := { (closeGaps (bufferFlush s)).buffer with st := 4, trigAt := none } } (word (2 ^ 3))
  have hend : (endCapture s cause).buffer = { (closeGaps (bufferFlush s)).buffer with st := 4, trigAt := none, rises := rises } := by
    rw [endCapture, hevt_buffer, raiseLine, hbuffer]
  refine ⟨by rw [hend], by rw [hend], fun k hk => ?_, ?_⟩
  · rw [endCapture, hevt_evPend]
    exact raiseLine_set _ 3 k (by rw [hpend]; exact h) (by decide) hk
  · rw [endCapture, hevt_sites, raiseLine, raiseLines_sites]
    exact hsites

/-- Outside a capture CAPTURE_END changes nothing. -/
theorem exec_captureEnd_idle (h : s.buffer.st ≠ 3) : exec .captureEnd s = .next s := if_pos h

section
variable (hst : s.buffer.st = 3)
include hst

/-- A capture that is not full and has no TRC_WIN_TMO goes on. -/
theorem exec_captureEnd_goesOn (hfull : s.buffer.full = false) (htmo : regF s rTrcWinTmo 31 0 = 0) :
    exec .captureEnd s = .next s := by
  show execCaptureEnd s = _
  simp [execCaptureEnd, hst, hfull, htmo, ok]

/-- A capture ends full, or once TRC_WIN_TMO has passed since its trigger. -/
theorem exec_captureEnd_ends (h : s.buffer.full = true ∨ regF s rTrcWinTmo 31 0 ≠ 0 ∧ ∃ t0 : Nat, s.buffer.trigAt = some t0 ∧
    t0 + regF s rTrcWinTmo 31 0 ≤ s.ht) : ∃ cause : Nat, exec .captureEnd s = .next (endCapture s cause) := by
  by_cases hfull : s.buffer.full = true
  · refine ⟨0, ?_⟩
    show execCaptureEnd s = _
    simp only [execCaptureEnd, hst, hfull, ne_eq, not_true_eq_false, if_false, if_true, ok]
  · obtain ⟨htmo, t0, htrig, hlate⟩ := h.resolve_left hfull
    refine ⟨1, ?_⟩
    have hpassed : regF s rTrcWinTmo 31 0 ≠ 0 ∧ s.buffer.trigAt.getD s.ht + regF s rTrcWinTmo 31 0 ≤ s.ht :=
      ⟨htmo, by rw [htrig]; exact hlate⟩
    show execCaptureEnd s = _
    simp only [execCaptureEnd, hst, ne_eq, not_true_eq_false, if_false, if_neg hfull, ok]
    exact if_pos hpassed

end

/-! ### The buffer's mode (R157) -/

/-- Outside a capture a write of MODE empties the buffer. -/
theorem bufferMode_empties (v : Word) (hst : s.buffer.st ≠ 3) : (bufferMode s v).buffer =
    { Buffer.fresh with st := if bits v 1 0 = 0 then 0 else if bits v 1 0 = 2 then 2 else 1, out := s.buffer.out, errAt := s.buffer.errAt } ∧
    (bufferMode s v).sites = s.sites ∧ (bufferMode s v).hubMem = s.hubMem := by
  simp only [bufferMode, if_neg hst]
  exact ⟨rfl, rfl, rfl⟩

variable (who : Who)

theorem exec_bufferModeWrite_refused (v : Word) (h : mayReg s who rTrcWinCtrl true v = false) :
    exec (.bufferModeWrite who v) s = .next s := if_neg (Bool.eq_false_iff.1 h)

theorem exec_bufferModeWrite_allowed (v : Word) (h : mayReg s who rTrcWinCtrl true v = true) :
    exec (.bufferModeWrite who v) s = .next (bufferMode s v) := if_pos h

/-! ### The trigger (R158) -/

/-- The TRIG record of a trigger. -/
def trigRec (time line : Nat) (sw : Bool) : Rec := mkRec (srcDistaff 9) 0x0D 0 (line * 2 ^ 30 + b2n sw * 2 ^ 29) [word time]

/-- Its TYPE, and the bit that tells a software trigger. -/
theorem trigRec_fields (time line : Nat) (sw : Bool) : recType (trigRec time line sw) = 0x0D ∧ bit (trigRec time line sw).hdr 29 = sw := by
  have hsw : b2n sw < 2 := by cases sw <;> decide
  have hbit : (b2n sw = 1) = (sw = true) := by cases sw <;> simp [b2n]
  constructor
  · simp only [recType, trigRec, mkRec, bits, word_toNat, srcDistaff, List.length_singleton]
    omega
  · rw [Bool.eq_iff_iff, ← hbit, bit, BitVec.getLsbD, trigRec, mkRec, word_toNat, Nat.testBit_eq_decide_div_mod_eq, decide_eq_true_iff]
    simp only [srcDistaff, List.length_singleton]
    omega

/-- An armed trigger starts the post region with a TRIG record. -/
theorem fireTrigger_armed (time line : Nat) (sw : Bool) (hmode : bufMode s = 2) (hst : s.buffer.st = 2) : fireTrigger s time line sw =
    pushLocal { s with buffer := { s.buffer with st := 3, trigAt := some time } } (trigRec time line sw) := by
  simp only [fireTrigger, hmode, hst, ne_eq, not_true_eq_false, if_false, if_true, trigRec]

/-- One that is not armed is counted. -/
theorem fireTrigger_unarmed (time line : Nat) (sw : Bool) (hmode : bufMode s = 2) (hst : s.buffer.st ≠ 2) :
    fireTrigger s time line sw = countF s rTrcWinStat 63 48 1 := by
  simp only [fireTrigger, hmode, ne_eq, not_true_eq_false, if_false, if_neg hst]

theorem exec_trcWinFire_refused (h : mayReg s who rTrcWinFire true 1 = false) : exec (.trcWinFire who) s = .next s :=
  if_neg (Bool.eq_false_iff.1 h)

section
variable (hmay : mayReg s who rTrcWinFire true 1 = true)
include hmay

theorem exec_trcWinFire_allowed : exec (.trcWinFire who) s = .next (swTrigger s) := if_pos hmay

/-- Outside WINDOW mode FIRE does nothing. -/
theorem exec_trcWinFire_otherMode (hmode : bufMode s ≠ 2) : exec (.trcWinFire who) s = .next s := by
  rw [exec_trcWinFire_allowed s who hmay]
  simp [swTrigger, fireTrigger, hmode]

/-- Of a buffer that is not armed it counts. -/
theorem exec_trcWinFire_unarmed (hmode : bufMode s = 2) (hst : s.buffer.st ≠ 2) :
    exec (.trcWinFire who) s = .next (countF s rTrcWinStat 63 48 1) := by
  rw [exec_trcWinFire_allowed s who hmay, ← fireTrigger_unarmed s s.ht (Config.swTrigLine s.freeCtr).toNat true hmode hst]
  simp [swTrigger, hst]

/-- An armed buffer's post region starts at the present time. -/
theorem exec_trcWinFire_armed (hmode : bufMode s = 2) (hst : s.buffer.st = 2) :
    exec (.trcWinFire who) s = .next (pushLocal
      { s with buffer := { s.buffer with st := 3, trigAt := some s.ht }, freeCtr := s.freeCtr + 1 }
      (trigRec s.ht (Config.swTrigLine s.freeCtr).toNat true)) := by
  have hfires : (decide (bufMode s = 2) && decide (s.buffer.st = 2)) = true := by simp [hmode, hst]
  rw [exec_trcWinFire_allowed s who hmay, swTrigger, hfires, if_pos rfl]
  exact congrArg _ (fireTrigger_armed { s with freeCtr := s.freeCtr + 1 } _ _ _ hmode hst)

end

/-- Without a rise of TLINE nothing triggers. -/
theorem exec_bufferTrigger_none (h : s.buffer.rises = []) : exec .bufferTrigger s = .next s := by
  show execBufferTrigger s = _
  simp only [execBufferTrigger, h, ok]

/-- The oldest rise of TLINE starts the post region at its own time. -/
theorem exec_bufferTrigger_armed (t0 : Nat) (rest : List Nat) (h : s.buffer.rises = t0 :: rest) (hmode : bufMode s = 2)
    (hst : s.buffer.st = 2) : exec .bufferTrigger s = .next (pushLocal
      { s with buffer := { s.buffer with rises := rest, st := 3, trigAt := some t0 } } (trigRec t0 (regF s rTrcWinCtrl 37 32) false)) := by
  show execBufferTrigger s = _
  simp only [execBufferTrigger, h, ok]
  exact congrArg _ (fireTrigger_armed { s with buffer := { s.buffer with rises := rest } } _ _ _ hmode hst)

/-! ### Banks (R156) -/

/-- A bank that is out stays out. -/
theorem exec_bufferBankRetire_out (bank : Fin 8) (h : bank.val ∈ s.buffer.out) : exec (.bufferBankRetire bank) s = .next s :=
  congrArg Host.Outcome.next (if_pos (List.contains_iff_mem.2 h))

/-- A bank in service leaves the buffer while the recovery engine runs. -/
theorem bankGone_retires (bank : Nat) (h : bank ∉ s.buffer.out) (hrec : s.boot.recStop = false) :
    (bankGone s bank).buffer.out = s.buffer.out ++ [bank] ∧ (bankGone s bank).sites = s.sites ∧ (bankGone s bank).parts = s.parts := by
  have hgone : bankGone s bank = healthChange (hevt (retireBank s bank) 0x004 bank []) 10 bank true := by
    rw [bankGone, if_neg (mt List.contains_iff_mem.1 h), hrec]
    rfl
  obtain ⟨rises, hbuffer⟩ := healthChange_buffer (hevt (retireBank s bank) 0x004 bank []) 10 bank true
  refine ⟨?_, ?_, ?_⟩
  · rw [hgone, hbuffer, hevt_buffer]
    rfl
  · rw [hgone, healthChange_sites, hevt_sites]
    rfl
  · rw [hgone, healthChange_parts, hevt_parts]
    rfl

/-- A bank that leaves, or is reported, counts in the health registers alone. -/
theorem reg_bankGone_ne (bank : Nat) {o : Nat} (h : o ∉ healthRegs) : reg (bankGone s bank) o = reg s o := by
  have hretire : reg (hevt (retireBank s bank) 0x004 bank []) o = reg s o := by
    rw [hevt_eq]
    rfl
  unfold bankGone
  split
  · rfl
  · split
    · exact reg_healthChange_ne s _ _ _ h
    · exact (reg_healthChange_ne _ _ _ _ h).trans hretire

theorem reg_bankError_ne (bank : Nat) {o : Nat} (h : o ∉ healthRegs) : reg (bankError s bank) o = reg s o := by
  unfold bankError
  dsimp only
  split
  · exact reg_bankGone_ne { s with buffer := { s.buffer with errAt := tput 0 s.buffer.errAt bank (s.ht + 1) } } bank h
  · rfl

/-! ### TRC_BUF_RDATA (R161, R156) -/

theorem exec_trcBufRdataRead_refused (err : Fin 3) (h : mayReg s who rTrcBufRdata false 0 = false) :
    exec (.trcBufRdataRead ⟨who, err⟩) s = .next s := if_neg (Bool.eq_false_iff.1 h)

/-- A good unit's read advances the requester's own address, and that alone. -/
theorem exec_trcBufRdataRead_good (hmay : mayReg s who rTrcBufRdata false 0 = true)
    (hgood : (regGet s (keyWho who rTrcBufRaddr) rTrcBufRaddr).toNat % max 1 (512 * bufBlocks s) ∉ s.buffer.bad) :
    exec (.trcBufRdataRead ⟨who, 0⟩) s = .next (regPut s (keyWho who rTrcBufRaddr) rTrcBufRaddr
      (word (((regGet s (keyWho who rTrcBufRaddr) rTrcBufRaddr).toNat + 1) % 2 ^ 24))) := by
  have hread : exec (.trcBufRdataRead ⟨who, 0⟩) s = .next (bufRead s who).2 := if_pos hmay
  rw [hread]
  simp [bufRead, hgood]

/-- Every read advances it. -/
theorem regGet_bufRead (h : tabWf 0 s.regs = true) : regGet (bufRead s who).2 (keyWho who rTrcBufRaddr) rTrcBufRaddr =
    word (((regGet s (keyWho who rTrcBufRaddr) rTrcBufRaddr).toNat + 1) % 2 ^ 24) := by
  have hput (v : Word) : regGet (regPut s (keyWho who rTrcBufRaddr) rTrcBufRaddr v) (keyWho who rTrcBufRaddr) rTrcBufRaddr = v := by
    rw [regGet_regPut _ _ _ _ _ h, if_pos rfl]
  have hkept (t : State) (bank : Option Nat) : regGet (bank.elim t (bankError (countF t rTrcBufStat 63 48 1)))
      (keyWho who rTrcBufRaddr) rTrcBufRaddr = regGet t (keyWho who rTrcBufRaddr) rTrcBufRaddr := by
    cases bank with
    | none => rfl
    | some bank =>
      exact (regGet_of_reg (reg_bankError_ne _ bank (keyWho_not_healthRegs who rTrcBufRaddr)) rTrcBufRaddr).trans
        (regGet_regPut_ne _ _ _ _ _ _ (ne_keyWho who (by decide)).symm)
  unfold bufRead
  dsimp only
  split
  · exact (hkept _ _).trans (hput _)
  · exact hput _

/-- A unit found bad changes no register. -/
theorem markBad_regs : (markBad s who).regs = s.regs := by
  unfold markBad
  dsimp only
  split <;> rfl

/-- So does the read of a unit with an uncorrectable error. -/
theorem trcBufRdataRead_bad (hR : tabWf 0 s.regs = true) (hmay : mayReg s who rTrcBufRdata false 0 = true) :
    ∃ t : State, exec (.trcBufRdataRead ⟨who, 2⟩) s = .next t ∧ regGet t (keyWho who rTrcBufRaddr) rTrcBufRaddr =
      word (((regGet s (keyWho who rTrcBufRaddr) rTrcBufRaddr).toNat + 1) % 2 ^ 24) := by
  have hread : exec (.trcBufRdataRead ⟨who, 2⟩) s = .next (bufRead (markBad s who) who).2 := if_pos hmay
  refine ⟨_, hread, ?_⟩
  have hsame : regGet (markBad s who) (keyWho who rTrcBufRaddr) rTrcBufRaddr = regGet s (keyWho who rTrcBufRaddr) rTrcBufRaddr := by
    rw [regGet, markBad_regs, regGet]
  rw [regGet_bufRead _ who (by rw [markBad_regs]; exact hR), hsame]

/-! ### The spill ring (R162) -/

/-- With no ring, a block outstanding, or a full ring that is not overwritten, no block is written. -/
theorem exec_spillBlockWrite_idle (h : regF s rTrcSpillSize 23 0 = 0 ∨ mpBusy s .spill = true ∨
    spillFull s = true ∧ bit (reg s rTrcSpillCtrl) 0 = false) : exec .spillBlockWrite s = .next s := by
  refine if_pos ?_
  rcases h with h | h | ⟨hfull, hover⟩
  · exact .inl h
  · exact .inr (.inl h)
  · exact .inr (.inr (.inr ⟨hfull, by rw [hover]; rfl⟩))

/-- The stream's next block is asked of the master port. -/
theorem exec_spillBlockWrite_asks (hsize : regF s rTrcSpillSize 23 0 ≠ 0) (hbusy : mpBusy s .spill = false)
    (hring : (getSink s 2).ringFull = false) (hblock : 512 ≤ (getSink s 2).q.length) (hfull : spillFull s = false) :
    exec .spillBlockWrite s = .next (mpAsk (setSink s 2 (sinkDrop s.ht 2 512 (getSink s 2))) .spill true
      (4096 * bits (reg s rTrcSpillBase) 63 12 + 4096 * regF s rTrcSpillPtr 23 0) 32 ((getSink s 2).q.take 512)) := by
  show execSpillBlockWrite s = _
  simp [execSpillBlockWrite, hsize, hbusy, hring, not_lt.mpr hblock, hfull, ok]

/-- With nothing that waits at the sink, its stream loses the block alone. -/
theorem sinkDrop_noWait (now n k : Nat) (x : Sink) (h : x.wait = []) : (sinkDrop now n k x).q = x.q.drop k := by
  simp [sinkDrop, sinkRefill, h]

end

/-! ### The statement -/

/-- Settles O47: each command of the trace buffer has the effect its rule gives, and none without rights or its condition. -/
theorem theTraceBufferCaptures : Obligations.TheTraceBufferCaptures := by
  unfold Obligations.TheTraceBufferCaptures
  intro s hc
  refine ⟨fun who v => ⟨exec_bufferModeWrite_refused s who v, fun hmay hst => ?mode⟩,
    fun who => ⟨exec_trcWinFire_refused s who, exec_trcWinFire_otherMode s who, exec_trcWinFire_unarmed s who, ?fire, ?read,
      fun hmay err => exec_trcBufRdataRead_refused s who err hmay⟩,
    exec_bufferTrigger_none s, ?rise, exec_captureEnd_idle s, exec_captureEnd_goesOn s, ?capture,
    fun bank => ⟨exec_bufferBankRetire_out s bank, fun hin hrec => ⟨_, rfl, bankGone_retires s bank hin hrec⟩⟩,
    exec_spillBlockWrite_idle s, ?spill⟩
  case mode =>
    obtain ⟨hbuffer, hsites, hmem⟩ := bufferMode_empties s v hst
    refine ⟨_, exec_bufferModeWrite_allowed s who v hmay, ?_⟩
    rw [hbuffer]
    exact ⟨rfl, rfl, rfl, rfl, rfl, hsites, hmem⟩
  case fire =>
    intro hmay hmode hst
    obtain ⟨htype, hsw⟩ := trigRec_fields s.ht (Config.swTrigLine s.freeCtr).toNat true
    exact ⟨_, _, exec_trcWinFire_armed s who hmay hmode hst, by rw [pushLocal_buffer],
      by rw [pushLocal_buffer, pushLocal_freeCtr], htype, hsw, rfl⟩
  case read =>
    rintro hmay k rfl a rfl
    exact ⟨exec_trcBufRdataRead_good s who hmay, trcBufRdataRead_bad s who (canonical_regs s hc) hmay⟩
  case rise =>
    intro t0 rest hrises hmode hst
    obtain ⟨htype, hsw⟩ := trigRec_fields t0 (regF s rTrcWinCtrl 37 32) false
    exact ⟨_, _, exec_bufferTrigger_armed s t0 rest hrises hmode hst, by rw [pushLocal_buffer], by rw [pushLocal_buffer], htype, hsw, rfl⟩
  case capture =>
    intro hst hends
    obtain ⟨cause, hexec⟩ := exec_captureEnd_ends s hst hends
    exact ⟨_, hexec, endCapture_captured s cause (canonical_evPend s hc)⟩
  case spill =>
    rintro x rfl hsize hbusy hring hblock hfull
    exact ⟨exec_spillBlockWrite_asks s hsize hbusy hring hblock hfull, sinkDrop_noWait _ _ _ _⟩

end Sys2Proof.Machine
end


section
/-! SUPPORT. The master port: the end of a request at its client, the tags, and the request that goes next. -/

namespace Sys2Proof.Machine

/-- What a list's members answer, when each answers one value or none and one of them answers it. -/
theorem findSome?_of_mem {α β : Type} (f : α → Option β) (r : Option β) (l : List α) (hall : ∀ a ∈ l, f a = none ∨ f a = r)
    (hone : ∃ a ∈ l, f a = r) : l.findSome? f = r := by
  cases hr : l.findSome? f with
  | none =>
    obtain ⟨a, ha, h⟩ := hone
    exact (List.findSome?_eq_none_iff.1 hr a ha).symm.trans h
  | some b =>
    obtain ⟨a, ha, h⟩ := List.exists_of_findSome?_eq_some hr
    rcases hall a ha with hn | hs
    · cases hn.symm.trans h
    · exact h.symm.trans hs

/-- The units of a list, read one by one. -/
theorem map_getD_range {α : Type} (d : α) (n : Nat) (l : List α) (h : l.length = n) : (List.range n).map (fun k => l.getD k d) = l := by
  subst h
  refine List.ext_getElem (by simp) fun i h1 h2 => ?_
  simp [h2]

section
variable (s : State)

/-- A field of a register after a field below or above it is replaced. -/
theorem regF_setRegF_apart (o hi lo x a b : Nat) (h : tabWf 0 s.regs = true) (hl : lo ≤ hi) (hh : hi < 64) (hab : hi < b ∨ a < lo) :
    regF (setRegF s o hi lo x) o a b = regF s o a b := by
  rw [regF, setRegF, reg_setReg _ _ _ _ h, if_pos rfl, regF]
  rcases hab with hab | hab
  · exact bits_setBits_above _ _ _ _ _ _ hl hh hab
  · exact bits_setBits_below _ _ _ _ _ _ hl hh hab

/-- So after a count in it. -/
theorem regF_countF_apart (o hi lo n a b : Nat) (h : tabWf 0 s.regs = true) (hl : lo ≤ hi) (hh : hi < 64) (hab : hi < b ∨ a < lo) :
    regF (countF s o hi lo n) o a b = regF s o a b :=
  regF_setRegF_apart s o hi lo _ a b h hl hh hab

/-- A saturating count of 16 bits. -/
theorem regF_count16 (o hi lo n : Nat) (h : tabWf 0 s.regs = true) (hw : hi = lo + 15) (hh : hi < 64) :
    regF (countF s o hi lo n) o hi lo = min (regF s o hi lo + n) 0xFFFF := by
  rw [regF_countF _ _ _ _ _ h (by omega) hh, show hi + 1 - lo = 16 by omega]
  rfl

theorem regF_of_reg {s t : State} {o : Nat} (h : reg t o = reg s o) (hi lo : Nat) : regF t o hi lo = regF s o hi lo := by
  rw [regF, h, regF]

/-! ### The end of an indirect access (R362) -/

variable (who : Who)

/-- A requester's own copy read after it is replaced. -/
theorem regGet_regPut_self (k o : Nat) (v : Word) (h : tabWf 0 s.regs = true) : regGet (regPut s k o v) k o = v := by
  rw [regGet_regPut _ _ _ _ _ h, if_pos rfl]

/-- The registers that stand before the end's STATE is shown: ADDR advanced, and the data of a read that has not failed. -/
def accAdvanced (fail : Bool) (data : Option Word) : State :=
  let c := regGet s (keyWho who rMptAccCtrl) rMptAccCtrl
  let s1 := regPut s (keyWho who rMptAccCtrl) rMptAccCtrl (setBits c 63 3 (bits c 63 3 + 1))
  if fail then s1 else data.elim s1 fun d => regPut s1 (keyWho who rMptAccData) rMptAccData d

theorem accEnd_eq (fail : Bool) (data : Option Word) : accEnd s who fail data =
    regPut (accAdvanced s who fail data) (keyWho who rMptAccStat) rMptAccStat (if fail then 3 else 2) := rfl

/-- They stay canonical. -/
theorem accAdvanced_wf (fail : Bool) (data : Option Word) (h : tabWf 0 s.regs = true) :
    tabWf 0 (accAdvanced s who fail data).regs = true := by
  have hctrl := regPut_wf s (keyWho who rMptAccCtrl) rMptAccCtrl (setBits (regGet s (keyWho who rMptAccCtrl) rMptAccCtrl) 63 3
    (bits (regGet s (keyWho who rMptAccCtrl) rMptAccCtrl) 63 3 + 1)) h
  unfold accAdvanced
  cases fail with
  | true => exact hctrl
  | false =>
    cases data with
    | none => exact hctrl
    | some d => exact regPut_wf _ _ _ _ hctrl

/-- The end of an access changes registers alone. -/
theorem accEnd_frame (fail : Bool) (data : Option Word) : accEnd s who fail data = { s with regs := (accEnd s who fail data).regs } := by
  rw [accEnd_eq]
  unfold accAdvanced
  cases fail with
  | true => rfl
  | false => cases data <;> rfl

/-- It shows how it ended. -/
theorem accState_accEnd (fail : Bool) (data : Option Word) (h : tabWf 0 s.regs = true) :
    accState (accEnd s who fail data) who = if fail then 3 else 2 := by
  rw [accState, accEnd_eq, regGet_regPut_self _ _ _ _ (accAdvanced_wf s who fail data h)]
  cases fail <;> rfl

/-- No register of the window changes. -/
theorem reg_accEnd (fail : Bool) (data : Option Word) {o : Nat} (ho : o < 0x1000000) : reg (accEnd s who fail data) o = reg s o := by
  have hput (t : State) (p : Nat) (v : Word) : reg (regPut t (keyWho who p) p v) o = reg t o :=
    regGet_regPut_ne _ _ _ _ _ _ (ne_keyWho who ho)
  rw [accEnd_eq, hput]
  unfold accAdvanced
  cases fail with
  | true => exact hput _ _ _
  | false =>
    cases data with
    | none => exact hput _ _ _
    | some d => exact (hput _ _ _).trans (hput _ _ _)

/-- A read that has not failed gives its data. -/
theorem regGet_accEnd_data (d : Word) (h : tabWf 0 s.regs = true) :
    regGet (accEnd s who false (some d)) (keyWho who rMptAccData) rMptAccData = d := by
  rw [accEnd_eq, regGet_regPut_ne _ _ _ _ _ _ (keyWho_ne who (by decide))]
  exact regGet_regPut_self _ _ _ _ (regPut_wf _ _ _ _ h)

/-! ### The end of a request (R361) -/

section
variable (q : MpReq) (fail : Bool)

/-- A dump block written: its number, USED, and HELD. -/
theorem windowWritten_frame : windowWritten s q = { s with regs := (windowWritten s q).regs, hang := (windowWritten s q).hang } := by
  unfold windowWritten
  dsimp only
  split <;> rfl

/-- What a client makes of its request's end changes registers, the funnel and the dump program's state. -/
theorem mpDone_frame : mpDone s q fail =
    { s with regs := (mpDone s q fail).regs, funnel := (mpDone s q fail).funnel, hang := (mpDone s q fail).hang } := by
  unfold mpDone
  split
  next who _ => rw [accEnd_frame]
  next =>
    split
    · split
      · rfl
      · rw [windowWritten_frame]
    · rfl
  next => split <;> rfl

theorem mpDone_master : (mpDone s q fail).master = s.master := by rw [mpDone_frame]

theorem mpDone_evPend : (mpDone s q fail).evPend = s.evPend := by rw [mpDone_frame]

/-- Of the window's registers it changes TRC_SPILL_PTR and DMP_WIN_STAT alone. -/
theorem reg_mpDone_ne {o : Nat} (ho : o < 0x1000000) (hspill : o ≠ rTrcSpillPtr) (hwin : o ≠ rDmpWinStat) :
    reg (mpDone s q fail) o = reg s o := by
  have hset (t : State) (p hi lo x : Nat) (hp : o ≠ p) : reg (setRegF t p hi lo x) o = reg t o := reg_setReg_ne _ _ _ _ hp
  unfold mpDone
  split
  next who _ => exact reg_accEnd s who fail _ ho
  next =>
    split
    · split
      · rfl
      · unfold windowWritten
        dsimp only
        split
        · exact (hset _ _ _ _ _ hwin).trans (hset _ _ _ _ _ hwin)
        · exact hset _ _ _ _ _ hwin
    · rfl
  next =>
    split
    · rfl
    · exact hset _ _ _ _ _ hspill

/-- An indirect access shows how it ended. -/
theorem accState_mpDone (h : tabWf 0 s.regs = true) (hq : q.client = .indirect who) :
    accState (mpDone s q fail) who = if fail then 3 else 2 := by
  unfold mpDone
  simp only [hq]
  exact accState_accEnd s who fail _ h

end

/-! ### GO (R362, R376) -/

theorem exec_mptAccGo_refused (v : Word) (h : mayReg s who rMptAccCtrl true v = false) : exec (.mptAccGo who v) s = .next s :=
  if_neg (Bool.eq_false_iff.1 h)

theorem exec_mptAccGo_allowed (v : Word) (h : mayReg s who rMptAccCtrl true v = true) :
    exec (.mptAccGo who v) s = .next (accWrite s who v) := if_pos h

/-- Without GO, or with the copy BUSY, nothing is asked of the port. -/
theorem accWrite_quiet (v : Word) (h : bit v 0 = false ∨ accState s who = 1) : (accWrite s who v).master = s.master := by
  have hno : ¬ (bit v 0 && accState s who != 1) = true := by
    rcases h with h | h <;> simp [h]
  unfold accWrite
  dsimp only
  rw [if_neg hno]
  rfl

/-- GO asks for one access and makes the copy BUSY. -/
theorem accWrite_asks (v : Word) (hR : tabWf 0 s.regs = true) (hgo : bit v 0 = true) (hidle : accState s who ≠ 1) :
    accState (accWrite s who v) who = 1 ∧ (accWrite s who v).master.waiting = s.master.waiting ++
      [⟨.indirect who, bit v 1, 8 * bits v 63 3, 1, if bit v 1 then [regGet s (keyWho who rMptAccData) rMptAccData] else [],
        0, [], false, false, [], false⟩] := by
  have hyes : (bit v 0 && accState s who != 1) = true := by simp [hgo, hidle]
  unfold accWrite
  dsimp only
  rw [if_pos hyes]
  refine ⟨?_, rfl⟩
  show bits (regGet (regPut _ _ _ _) _ _) 1 0 = 1
  rw [regGet_regPut_self _ _ _ _ (regPut_wf _ _ _ _ hR)]
  rfl

/-! ### Tags (R359, R361) -/

section
variable (wr : Bool) (tag : Nat) (x : Option MpReq)

theorem tagsOf_setTag : tagsOf (setTag s wr tag x) wr = tput none (tagsOf s wr) tag x := by cases wr <;> rfl

@[simp] theorem setTag_regs : (setTag s wr tag x).regs = s.regs := by cases wr <;> rfl

@[simp] theorem setTag_evPend : (setTag s wr tag x).evPend = s.evPend := by cases wr <;> rfl

theorem reg_setTag (o : Nat) : reg (setTag s wr tag x) o = reg s o := by rw [reg, regGet, setTag_regs, reg, regGet]

theorem regF_setTag (o hi lo : Nat) : regF (setTag s wr tag x) o hi lo = regF s o hi lo := regF_of_reg (reg_setTag s wr tag x o) hi lo

/-- A tag given up is free. -/
theorem tget_setTag_none (h : tabWf none (tagsOf s wr) = true) : tget none (tagsOf (setTag s wr tag none) wr) tag = none := by
  rw [tagsOf_setTag, tget_tput _ _ _ _ _ h, if_pos rfl]

/-- A tag taken holds its request. -/
theorem tget_setTag_some (q : MpReq) : tget none (tagsOf (setTag s wr tag (some q)) wr) tag = some q := by
  rw [tagsOf_setTag, tget_tput_self _ _ _ _ (Option.some_ne_none q)]

end

/-! ### MP_REQUEST_ISSUE (R358 to R360) -/

/-- Off the dump window's route the D route feeds no block to the port. -/
theorem dumpFeed_otherRoute (h : dRoute s ≠ 2) : dumpFeed s = s := if_pos h

theorem mpPlace_lt (c : MpClient) : mpPlace c < 3 := by cases c <;> simp [mpPlace]

/-- The one request that waits goes next when it is out of range or finds a tag. -/
theorem mpNext_single (q : MpReq) (h : s.master.waiting = [q]) :
    mpNext s = if !mpRange s q || (freeTag s q.wr).isSome then some q else none := by
  have hplace := mpPlace_lt q.client
  refine findSome?_of_mem _ _ _ (fun c _ => ?_) ⟨mpPlace q.client, ?_, ?_⟩
  · by_cases hc : mpPlace q.client = c
    · right
      simp [h, hc, Option.filter_some]
    · left
      simp [h, hc]
  · refine List.mem_map.2 ⟨(mpPlace q.client + 3 - s.master.rr % 3) % 3, List.mem_range.2 (Nat.mod_lt _ (by decide)), ?_⟩
    omega
  · simp [h, Option.filter_some]

theorem mpNext_none (h : s.master.waiting = []) : mpNext s = none := by
  refine List.findSome?_eq_none_iff.2 fun c _ => ?_
  simp [h]

/-- A port that is off, and one for which nothing waits, issues nothing. -/
theorem exec_mpRequestIssue_idle (hroute : dRoute s ≠ 2) (h : bit (reg s rMptCfg) 63 = false ∨ s.master.waiting = []) :
    exec .mpRequestIssue s = .next s := by
  show execMpRequestIssue s = _
  rcases h with h | h
  · simp only [execMpRequestIssue, dumpFeed_otherRoute s hroute, h, Bool.not_false, if_true, ok]
  · simp only [execMpRequestIssue, dumpFeed_otherRoute s hroute, mpNext_none s h, ok, ite_self]

section
variable (q : MpReq)

/-- The one request that waits taken out of the queue. -/
def requestTaken : State := { s with master := { s.master with waiting := [], rr := mpPlace q.client + 1 } }

theorem takeOut_self : takeOut q [q] = [] := if_pos rfl

variable (hroute : dRoute s ≠ 2) (hon : bit (reg s rMptCfg) 63 = true) (hq : s.master.waiting = [q])
include hroute hon hq

/-- An indirect access out of range ends in error (R360). -/
theorem exec_mpRequestIssue_outside (who : Who) (hrange : mpRange s q = false) (hclient : q.client = .indirect who) :
    exec .mpRequestIssue s = .next (mpDone (countF (requestTaken s q) rMptStat2 63 48 1) q true) := by
  show execMpRequestIssue s = _
  simp only [execMpRequestIssue, dumpFeed_otherRoute s hroute, hon, mpNext_single s q hq, hrange, hclient, hq, takeOut_self, requestTaken,
    Bool.not_true, Bool.not_false, Bool.true_or, Bool.false_eq_true, if_true, if_false, ok]

/-- One in range, with tokens and a tag, is issued (R358, R359). -/
theorem exec_mpRequestIssue_issues (tag : Nat) (hrange : mpRange s q = true) (hrate : regF s rMptRate 11 0 ≠ 0)
    (htokens : 4096 * q.beats ≤ tokensNow s) (htag : freeTag s q.wr = some tag) :
    exec .mpRequestIssue s = .next (setTag { requestTaken s q with master := { (requestTaken s q).master with
      tokens := tokensNow s - 4096 * q.beats, tokenAt := s.ht } } q.wr tag (some { q with issued := s.ht })) := by
  have hpaid : ¬ (regF s rMptRate 11 0 = 0 ∨ tokensNow s < 4096 * q.beats) := by omega
  show execMpRequestIssue s = _
  simp only [execMpRequestIssue, dumpFeed_otherRoute s hroute, hon, mpNext_single s q hq, hrange, htag, hq, takeOut_self, requestTaken,
    Bool.not_true, Bool.false_or, Bool.false_eq_true, Option.isSome_some, if_true, if_false, if_neg hpaid, ok]

/-- One in range that finds no tokens or no tag waits. -/
theorem exec_mpRequestIssue_waits (hrange : mpRange s q = true)
    (h : regF s rMptRate 11 0 = 0 ∨ tokensNow s < 4096 * q.beats ∨ freeTag s q.wr = none) : exec .mpRequestIssue s = .next s := by
  show execMpRequestIssue s = _
  cases htag : freeTag s q.wr with
  | none =>
    simp only [execMpRequestIssue, dumpFeed_otherRoute s hroute, hon, mpNext_single s q hq, hrange, htag, Bool.not_true, Bool.false_or,
      Bool.false_eq_true, Option.isSome_none, if_false, ok]
  | some tag =>
    have hunpaid : regF s rMptRate 11 0 = 0 ∨ tokensNow s < 4096 * q.beats := by simpa [htag] using h
    simp only [execMpRequestIssue, dumpFeed_otherRoute s hroute, hon, mpNext_single s q hq, hrange, htag, Bool.not_true, Bool.false_or,
      Bool.false_eq_true, Option.isSome_some, if_true, if_false, if_pos hunpaid, ok]

end

/-- The bucket after tokens are paid at the present time. -/
theorem tokensNow_paid (n : Nat) {t : State} (htokens : t.master.tokens = tokensNow s - n) (hat : t.master.tokenAt = t.ht)
    (hregs : t.regs = s.regs) : tokensNow t = tokensNow s - n := by
  have hfield (hi lo : Nat) : regF t rMptRate hi lo = regF s rMptRate hi lo := by rw [regF, reg, regGet, hregs, ← regGet, ← reg, ← regF]
  rw [tokensNow, htokens, hat, hfield 43 32, Nat.sub_self, Nat.mul_zero, Nat.add_zero, tokensNow]
  omega

end

end Sys2Proof.Machine
end


section
/-! SUPPORT. The master port's completions: read beats, write completions, and accesses that time out (R361). -/

namespace Sys2Proof.Machine

section
variable (s : State) (tag : BitVec 8)

/-! ### Tags that hold nothing, and quarantined ones -/

theorem exec_mpReadBeat_free (last : Bool) (data : List Word) (err : Fin 4) (h : tget none s.master.rd tag.toNat = none) :
    exec (.mpReadBeat tag last data err) s = .next s := by
  show execMpReadBeat tag last data err s = _
  simp only [execMpReadBeat, h, ok]

theorem exec_mpWriteCompletion_free (err : Fin 4) (h : tget none s.master.wrt tag.toNat = none) :
    exec (.mpWriteCompletion tag err) s = .next s := by
  show execMpWriteCompletion tag err s = _
  simp only [execMpWriteCompletion, h, ok]

/-- A late completion is counted. -/
theorem regF_lateDone (wr : Bool) (n : Nat) (h : tabWf 0 s.regs = true) :
    regF (lateDone s wr n) rMptStat 15 0 = min (regF s rMptStat 15 0 + 1) 0xFFFF := by
  rw [lateDone, regF_setTag, regF_count16 _ _ _ _ _ h rfl (by decide)]

/-- It frees the tag. -/
theorem tget_lateDone (wr : Bool) (n : Nat) (h : tabWf none (tagsOf s wr) = true) :
    tget none (tagsOf (lateDone s wr n) wr) n = none :=
  tget_setTag_none (countF s rMptStat 15 0 1) wr n h

section
variable (q : MpReq)

theorem exec_mpReadBeat_quarantined (last : Bool) (data : List Word) (err : Fin 4) (hq : tget none s.master.rd tag.toNat = some q)
    (hquar : q.quar = true) : exec (.mpReadBeat tag last data err) s = .next (if last then lateDone s false tag.toNat else s) := by
  show execMpReadBeat tag last data err s = _
  simp only [execMpReadBeat, hq, hquar, if_true, ok]

theorem exec_mpWriteCompletion_quarantined (err : Fin 4) (hq : tget none s.master.wrt tag.toNat = some q) (hquar : q.quar = true) :
    exec (.mpWriteCompletion tag err) s = .next (lateDone s true tag.toNat) := by
  show execMpWriteCompletion tag err s = _
  simp only [execMpWriteCompletion, hq, hquar, if_true, ok]

/-! ### Read beats -/

/-- A read's request with one beat more. -/
def beatTaken (data : List Word) (err : Fin 4) : MpReq :=
  { q with
    got := q.got ++ (List.range 16).map fun k => data.getD k 0
    bad := q.bad || decide (2 ≤ err.val)
    ue := if err.val = 2 then q.ue ++ [q.got.length / 16] else q.ue
    dec := q.dec || err.val == 3 }

/-- The first beat of a read is the beat's units. -/
theorem beatTaken_got (data : List Word) (err : Fin 4) (hgot : q.got = []) (hdata : data.length = 16) :
    (beatTaken q data err).got = data := by
  simp only [beatTaken, hgot, List.nil_append]
  exact map_getD_range 0 16 data hdata

/-- A beat in error counts in MPT_STAT. -/
def beatCounted (err : Fin 4) : State := if decide (2 ≤ err.val) then countF s rMptStat 63 48 1 else s

theorem beatCounted_master (err : Fin 4) : (beatCounted s err).master = s.master := by
  unfold beatCounted
  split <;> rfl

theorem beatCounted_wf (err : Fin 4) (h : tabWf 0 s.regs = true) : tabWf 0 (beatCounted s err).regs = true := by
  unfold beatCounted
  split
  · exact countF_wf _ _ _ _ _ h
  · exact h

theorem regF_beatCounted (err : Fin 4) (h : tabWf 0 s.regs = true) (herr : 2 ≤ err.val) :
    regF (beatCounted s err) rMptStat 63 48 = min (regF s rMptStat 63 48 + 1) 0xFFFF := by
  rw [beatCounted, decide_eq_true herr, if_pos rfl, regF_count16 _ _ _ _ _ h rfl (by decide)]

section
variable (data : List Word) (err : Fin 4) (hq : tget none s.master.rd tag.toNat = some q) (hquar : q.quar = false)
include hq hquar

/-- A beat that is not the last is kept with its tag. -/
theorem exec_mpReadBeat_more : exec (.mpReadBeat tag false data err) s =
    .next (setTag (beatCounted s err) false tag.toNat (some (beatTaken q data err))) := by
  show execMpReadBeat tag false data err s = _
  simp only [execMpReadBeat, hq, hquar, Bool.false_eq_true, if_false, ok, beatCounted, beatTaken]

/-- The last frees the tag and ends the request. -/
theorem exec_mpReadBeat_last : exec (.mpReadBeat tag true data err) s =
    .next (mpDone (setTag (beatCounted s err) false tag.toNat none) (beatTaken q data err) (beatTaken q data err).bad) := by
  show execMpReadBeat tag true data err s = _
  simp only [execMpReadBeat, hq, hquar, Bool.false_eq_true, if_false, if_true, ok, beatCounted, beatTaken]

end

/-- A read that has ended holds its tag no longer. -/
theorem tget_readEnded (r : MpReq) (fail : Bool) (err : Fin 4) (h : tabWf none s.master.rd = true) :
    tget none (mpDone (setTag (beatCounted s err) false tag.toNat none) r fail).master.rd tag.toNat = none := by
  rw [mpDone_master]
  exact tget_setTag_none (beatCounted s err) false tag.toNat (by rw [tagsOf, beatCounted_master]; exact h)

/-- An indirect access's first beat that is not the last. -/
theorem mpReadBeat_collects (data : List Word) (err : Fin 4) (hq : tget none s.master.rd tag.toNat = some q) (hquar : q.quar = false)
    (hgot : q.got = []) (hbad : q.bad = false) (hdata : data.length = 16) :
    ∃ (t : State) (q1 : MpReq), exec (.mpReadBeat tag false data err) s = .next t ∧ tget none t.master.rd tag.toNat = some q1 ∧
      q1.got = data ∧ q1.bad = decide (2 ≤ err.val) :=
  ⟨_, _, exec_mpReadBeat_more s tag q data err hq hquar, tget_setTag_some (beatCounted s err) false tag.toNat _,
    beatTaken_got q data err hgot hdata, by simp [beatTaken, hbad]⟩

/-- An indirect read's one beat ends it: in error, or with the unit of its address. -/
theorem mpReadBeat_endsIndirect (who : Who) (data : List Word) (err : Fin 4) (hR : tabWf 0 s.regs = true)
    (hrd : tabWf none s.master.rd = true) (hq : tget none s.master.rd tag.toNat = some q) (hquar : q.quar = false)
    (hclient : q.client = .indirect who) (hwr : q.wr = false) (hgot : q.got = []) (hbad : q.bad = false) (hdata : data.length = 16) :
    ∃ t : State, exec (.mpReadBeat tag true data err) s = .next t ∧ tget none t.master.rd tag.toNat = none ∧
      (2 ≤ err.val → accState t who = 3 ∧ regF t rMptStat 63 48 = min (regF s rMptStat 63 48 + 1) 0xFFFF) ∧
      (err.val < 2 → accState t who = 2 ∧ regGet t (keyWho who rMptAccData) rMptAccData = data.getD (q.addr % 128 / 8) 0) := by
  have hfail : (beatTaken q data err).bad = decide (2 ≤ err.val) := by simp [beatTaken, hbad]
  have hregs : tabWf 0 (setTag (beatCounted s err) false tag.toNat none).regs = true := by
    rw [setTag_regs]
    exact beatCounted_wf s err hR
  have hshown := accState_mpDone _ who (beatTaken q data err) (beatTaken q data err).bad hregs hclient
  refine ⟨_, exec_mpReadBeat_last s tag q data err hq hquar, tget_readEnded s tag _ _ err hrd, fun herr => ⟨?_, ?_⟩,
    fun herr => ⟨?_, ?_⟩⟩
  · rw [hshown, hfail, decide_eq_true herr, if_pos rfl]
  · rw [regF_of_reg (reg_mpDone_ne _ _ _ (by decide) (by decide) (by decide)), regF_setTag, regF_beatCounted s err hR herr]
  · rw [hshown, hfail, decide_eq_false (not_le.mpr herr), if_neg Bool.false_ne_true]
  · have hend : mpDone (setTag (beatCounted s err) false tag.toNat none) (beatTaken q data err) (beatTaken q data err).bad =
        accEnd (setTag (beatCounted s err) false tag.toNat none) who false (some (data.getD (q.addr % 128 / 8) 0)) := by
      have hc : (beatTaken q data err).client = .indirect who := hclient
      have hw : (beatTaken q data err).wr = false := hwr
      have ha : (beatTaken q data err).addr = q.addr := rfl
      simp only [mpDone, hc, hw, ha, Bool.false_eq_true, if_false, hfail, beatTaken_got q data err hgot hdata,
        decide_eq_false (not_le.mpr herr)]
    rw [hend]
    exact regGet_accEnd_data _ _ _ hregs

/-- A dump read's one beat gives the program its words, which of them are uncorrectable, and whether the read has failed. -/
theorem mpReadBeat_endsDump (data : List Word) (err : Fin 4) (hrd : tabWf none s.master.rd = true)
    (hq : tget none s.master.rd tag.toNat = some q) (hquar : q.quar = false) (hclient : q.client = .dump) (hwr : q.wr = false)
    (hgot : q.got = []) (hue : q.ue = []) (hdec : q.dec = false) (hbeats : q.beats = 1) (hdata : data.length = 16) :
    ∃ t : State, exec (.mpReadBeat tag true data err) s = .next t ∧ tget none t.master.rd tag.toNat = none ∧
      t.hang.work.rd = some (data.map fun d => (d, err.val == 2), err.val == 3) := by
  refine ⟨_, exec_mpReadBeat_last s tag q data err hq hquar, tget_readEnded s tag _ _ err hrd, ?_⟩
  have hc : (beatTaken q data err).client = .dump := hclient
  have hw : (beatTaken q data err).wr = false := hwr
  have hb : (beatTaken q data err).beats = 1 := hbeats
  have hd : (beatTaken q data err).dec = (err.val == 3) := by simp [beatTaken, hdec]
  have hu : (beatTaken q data err).ue = if err.val = 2 then [0] else [] := by simp [beatTaken, hue, hgot]
  have hwords : data.zipIdx.map (fun e => (e.1, (beatTaken q data err).ue.contains (e.2 / 16))) = data.map fun d => (d, err.val == 2) := by
    refine List.ext_getElem (by simp) fun i h1 h2 => ?_
    have hi : i < 16 := by simpa [hdata] using h2
    by_cases h : err.val = 2 <;> simp [hu, h, hi]
  simp only [mpDone, hc, hw, hb, hd, Bool.false_eq_true, if_false, beatTaken_got q data err hgot hdata, hdata, hwords, Nat.mul_one,
    lt_self_iff_false, decide_false, Bool.or_false]

/-! ### Write completions -/

/-- A write in error counts in MPT_STAT. -/
def writeCounted (err : Fin 4) : State := if decide (2 ≤ err.val) then countErr s q 1 else s

theorem countErr_frame (n : Nat) : countErr s q n = { s with regs := (countErr s q n).regs } := by
  unfold countErr
  split <;> rfl

theorem countErr_wf (n : Nat) (h : tabWf 0 s.regs = true) : tabWf 0 (countErr s q n).regs = true := by
  unfold countErr
  split <;> exact countF_wf _ _ _ _ _ h

theorem writeCounted_frame (err : Fin 4) : writeCounted s q err = { s with regs := (writeCounted s q err).regs } := by
  unfold writeCounted
  split
  · exact countErr_frame s q 1
  · rfl

theorem writeCounted_wf (err : Fin 4) (h : tabWf 0 s.regs = true) : tabWf 0 (writeCounted s q err).regs = true := by
  unfold writeCounted
  split
  · exact countErr_wf s q 1 h
  · exact h

theorem exec_mpWriteCompletion_ends (err : Fin 4) (hq : tget none s.master.wrt tag.toNat = some q) (hquar : q.quar = false) :
    exec (.mpWriteCompletion tag err) s =
      .next (mpDone (setTag (writeCounted s q err) true tag.toNat none) q (decide (2 ≤ err.val))) := by
  show execMpWriteCompletion tag err s = _
  simp only [execMpWriteCompletion, hq, hquar, Bool.false_eq_true, if_false, ok, writeCounted]

/-- A write that has ended: its tag is free, and the register that its client is shown. -/
theorem writeEnded_wf (err : Fin 4) (h : tabWf 0 s.regs = true) :
    tabWf 0 (setTag (writeCounted s q err) true tag.toNat none).regs = true := by
  rw [setTag_regs]
  exact writeCounted_wf s q err h

theorem tget_writeEnded (err : Fin 4) (fail : Bool) (h : tabWf none s.master.wrt = true) :
    tget none (mpDone (setTag (writeCounted s q err) true tag.toNat none) q fail).master.wrt tag.toNat = none := by
  rw [mpDone_master]
  exact tget_setTag_none (writeCounted s q err) true tag.toNat (by rw [writeCounted_frame]; exact h)

/-- A write that has not failed counts nothing. -/
theorem writeCounted_good (err : Fin 4) (herr : err.val < 2) : writeCounted s q err = s := by
  rw [writeCounted, decide_eq_false (not_le.mpr herr), if_neg Bool.false_ne_true]

/-- A block of the spill ring written: WR moves on, and the ring holds one block more. -/
theorem spillWritten_moves (h : tabWf 0 s.regs = true) : regF (spillWritten s) rTrcSpillPtr 23 0 =
    (regF s rTrcSpillPtr 23 0 + 1) % max 1 (regF s rTrcSpillSize 23 0) ∧
    (spillWritten s).funnel.spillHeld = min (max 1 (regF s rTrcSpillSize 23 0)) (s.funnel.spillHeld + 1) := by
  have hsize : regF s rTrcSpillSize 23 0 < 2 ^ 24 := bits_lt _ 23 0
  have hmod := Nat.mod_lt (regF s rTrcSpillPtr 23 0 + 1) (show 0 < max 1 (regF s rTrcSpillSize 23 0) by omega)
  refine ⟨?_, rfl⟩
  have hput := regF_setRegF
    { s with funnel := { s.funnel with spillHeld := min (max 1 (regF s rTrcSpillSize 23 0)) (s.funnel.spillHeld + 1) } }
    rTrcSpillPtr 23 0 ((regF s rTrcSpillPtr 23 0 + 1) % max 1 (regF s rTrcSpillSize 23 0)) h (by decide) (by decide)
  exact hput.trans (Nat.mod_eq_of_lt (by omega))

/-- One block more in the dump window. -/
def blockCounted : State := { s with hang := { s.hang with blocks := s.hang.blocks + 1 } }

/-- A block of the dump window written: one block more, which USED shows. -/
theorem windowWritten_moves (h : tabWf 0 s.regs = true) : (windowWritten s q).hang.blocks = s.hang.blocks + 1 ∧
    regF (windowWritten s q) rDmpWinStat 55 32 = (s.hang.blocks + 1) % 2 ^ 24 := by
  have hused := regF_setRegF (blockCounted s) rDmpWinStat 55 32 (s.hang.blocks + 1) h (by decide) (by decide)
  have hwf := setRegF_wf (blockCounted s) rDmpWinStat 55 32 (s.hang.blocks + 1) h
  unfold windowWritten
  dsimp only
  split
  · exact ⟨rfl, (regF_setRegF_apart _ _ _ _ _ _ _ hwf (by decide) (by decide) (by decide)).trans hused⟩
  · exact ⟨rfl, hused⟩

/-- A write in error is counted, and gives the dump program nothing. -/
theorem mpDone_failedWrite (err : Fin 4) (hR : tabWf 0 s.regs = true) (hwr : q.wr = true) (herr : 2 ≤ err.val) :
    regF (mpDone (setTag (writeCounted s q err) true tag.toNat none) q true) rMptStat 47 32 = min (regF s rMptStat 47 32 + 1) 0xFFFF ∧
    (mpDone (setTag (writeCounted s q err) true tag.toNat none) q true).hang = s.hang := by
  constructor
  · rw [regF_of_reg (reg_mpDone_ne _ _ _ (by decide) (by decide) (by decide)), regF_setTag, writeCounted, decide_eq_true herr,
      if_pos rfl, countErr, if_pos hwr, regF_count16 _ _ _ _ _ hR rfl (by decide)]
  · have hcounted : (setTag (writeCounted s q err) true tag.toNat none).hang = s.hang := by
      rw [writeCounted_frame]
      rfl
    unfold mpDone
    split
    next => rw [accEnd_frame, hcounted]
    next => simp only [hwr, if_true, hcounted]
    next => simp only [if_true, hcounted]

/-! ### Time-outs -/

theorem exec_mpTimeout_free (wr : Bool) (h : tget none (tagsOf s wr) tag.toNat = none) : exec (.mpTimeout wr tag) s = .next s := by
  show execMpTimeout wr tag s = _
  simp only [execMpTimeout, h, ok]

/-- A quarantined tag, and one within MPT_CFG.TMO, does not time out. -/
theorem exec_mpTimeout_idle (wr : Bool) (hq : tget none (tagsOf s wr) tag.toNat = some q)
    (h : q.quar = true ∨ s.ht < q.issued + regF s rMptCfg 31 0) : exec (.mpTimeout wr tag) s = .next s := by
  show execMpTimeout wr tag s = _
  simp only [execMpTimeout, hq, if_pos h, ok]

/-- The state in which an access that timed out has been counted and its tag quarantined. -/
def timedOut (wr : Bool) : State :=
  countErr (countF (setTag s wr tag.toNat (some { q with quar := true })) rMptStat 31 16 1) q (q.beats - q.got.length / 16)

theorem timedOut_frame (wr : Bool) : timedOut s tag q wr =
    { setTag s wr tag.toNat (some { q with quar := true }) with regs := (timedOut s tag q wr).regs } := by
  rw [timedOut, countErr_frame]
  rfl

/-- Its end at its client, and line 13 when the space's last tag is quarantined. -/
theorem exec_mpTimeout_late (wr : Bool) (hq : tget none (tagsOf s wr) tag.toNat = some q) (hquar : q.quar = false)
    (hlate : q.issued + regF s rMptCfg 31 0 ≤ s.ht) : exec (.mpTimeout wr tag) s =
      .next (if quarantined (mpDone (timedOut s tag q wr) q true) wr = 256 then raiseLine (mpDone (timedOut s tag q wr) q true) 13
        else mpDone (timedOut s tag q wr) q true) := by
  have hno : ¬ (q.quar = true ∨ s.ht < q.issued + regF s rMptCfg 31 0) := by simp [hquar, hlate]
  show execMpTimeout wr tag s = _
  simp only [execMpTimeout, hq, if_neg hno, ok, timedOut]
  rfl

theorem timedOut_wf (wr : Bool) (h : tabWf 0 s.regs = true) : tabWf 0 (timedOut s tag q wr).regs = true :=
  countErr_wf _ _ _ (countF_wf _ _ _ _ _ (by rw [setTag_regs]; exact h))

theorem regF_timedOut (wr : Bool) (h : tabWf 0 s.regs = true) :
    regF (timedOut s tag q wr) rMptStat 31 16 = min (regF s rMptStat 31 16 + 1) 0xFFFF := by
  have hset : tabWf 0 (setTag s wr tag.toNat (some { q with quar := true })).regs = true := by
    rw [setTag_regs]
    exact h
  have hcounted := regF_count16 (setTag s wr tag.toNat (some { q with quar := true })) rMptStat 31 16 1 hset rfl (by decide)
  rw [regF_setTag] at hcounted
  rw [← hcounted, timedOut, countErr]
  split <;> exact regF_countF_apart _ _ _ _ _ _ _ (countF_wf _ _ _ _ _ hset) (by decide) (by decide) (by decide)

/-- What a timed-out access leaves. -/
theorem mpTimeout_quarantines (wr : Bool) (hR : tabWf 0 s.regs = true) (hE : tabWf 0 s.evPend = true)
    (hq : tget none (tagsOf s wr) tag.toNat = some q) (hquar : q.quar = false) (hlate : q.issued + regF s rMptCfg 31 0 ≤ s.ht) :
    ∃ t : State, exec (.mpTimeout wr tag) s = .next t ∧ tget none (tagsOf t wr) tag.toNat = some { q with quar := true } ∧
      regF t rMptStat 31 16 = min (regF s rMptStat 31 16 + 1) 0xFFFF ∧
      (∀ who : Who, q.client = .indirect who → accState t who = 3) ∧ (quarantined t wr = 256 → LineRaised t 13) := by
  have hE2 : tabWf 0 (mpDone (timedOut s tag q wr) q true).evPend = true := by
    rw [mpDone_evPend, timedOut_frame, setTag_evPend]
    exact hE
  have htags : tget none (tagsOf (mpDone (timedOut s tag q wr) q true) wr) tag.toNat = some { q with quar := true } := by
    have hmaster : tagsOf (mpDone (timedOut s tag q wr) q true) wr = tagsOf (setTag s wr tag.toNat (some { q with quar := true })) wr := by
      rw [tagsOf, mpDone_master, timedOut_frame, tagsOf]
    rw [hmaster]
    exact tget_setTag_some _ _ _ _
  have hstat : regF (mpDone (timedOut s tag q wr) q true) rMptStat 31 16 = min (regF s rMptStat 31 16 + 1) 0xFFFF := by
    rw [regF_of_reg (reg_mpDone_ne _ _ _ (by decide) (by decide) (by decide)), regF_timedOut s tag q wr hR]
  have hacc (who : Who) (hc : q.client = .indirect who) : accState (mpDone (timedOut s tag q wr) q true) who = 3 :=
    accState_mpDone _ who q true (timedOut_wf s tag q wr hR) hc
  refine ⟨_, exec_mpTimeout_late s tag q wr hq hquar hlate, ?_⟩
  split
  next => exact ⟨htags, hstat, hacc, fun _ k hk => raiseLine_set _ 13 k hE2 (by decide) hk⟩
  next hless => exact ⟨htags, hstat, hacc, fun hall => absurd hall hless⟩

end

end

end Sys2Proof.Machine
end


section
/-! SUPPORT. The trace lanes: frames and their headers, and lanes that enter and leave service (R364 to R366). -/

namespace Sys2Proof.Machine

theorem canonical_lanes (s : State) (h : canonical s = true) : tabWf Lane.fresh s.lanes = true := by
  simp only [canonical, Bool.and_eq_true] at h
  tauto

/-! ### The header word (R364, Table 13.11) -/

/-- A byte into a reflected CRC of 32 bits. -/
theorem crcByteR_lt (poly c : Nat) (b : Byte) (hp : poly < 2 ^ 32) (hc : c < 2 ^ 32) : crcByteR poly c b < 2 ^ 32 := by
  refine foldl_lt _ _ (fun c _ hc => ?_) _ _ (Nat.xor_lt_two_pow hc (by have := b.isLt; omega))
  split
  · exact Nat.xor_lt_two_pow (by omega) hp
  · omega

/-- A frame's CRC has 32 bits. -/
theorem frameCrc_lt (h lo n : Nat) (us : List Word) : frameCrc h lo n us < 2 ^ 32 :=
  Nat.xor_lt_two_pow (foldl_lt _ _ (fun c b hc => crcByteR_lt _ c b (by decide) hc) _ _ (by decide)) (by decide)

/-- NW of a header. -/
theorem hdrNw_laneHdr (dev fseq nl lane : Nat) (strm replay : Bool) (nw bstart : Nat) (pay : List Word) :
    hdrNw (laneHdr dev fseq nl lane strm replay nw bstart pay) = nw % 64 := by
  have hdev := Nat.mod_lt dev (show 0 < 2 ^ 16 by decide)
  have hseq := Nat.mod_lt fseq (show 0 < 2 ^ 32 by decide)
  have hnl := Nat.mod_lt nl (show 0 < 32 by decide)
  have hlane := Nat.mod_lt lane (show 0 < 16 by decide)
  have hb := Nat.mod_lt bstart (show 0 < 64 by decide)
  rw [hdrNw, laneHdr, BitVec.toNat_ofNat]
  have hcrc := frameCrc_lt (0xD5E1 * 2 ^ 112 + dev % 2 ^ 16 * 2 ^ 96 + fseq % 2 ^ 32 * 2 ^ 64 + nl % 32 * 2 ^ 59 + lane % 16 * 2 ^ 55 +
    b2n strm * 2 ^ 54 + b2n replay * 2 ^ 53 + nw % 64 * 2 ^ 47 + bstart % 64 * 2 ^ 41) 32 12 pay
  generalize frameCrc _ 32 12 pay = crc at hcrc ⊢
  omega

section
variable (s : State)

/-! ### Frames sent (R364 to R366) -/

/-- A new frame of a stream on a lane. -/
def frameOf (d : Bool) (n nl : Nat) (us : List Word) (bstart : Nat) : LaneFrame :=
  ⟨nextFseq s d, d, laneHdr s.integ.devid.toNat (nextFseq s d) nl n d false (us.length / 2) bstart
    (us ++ List.replicate (126 - us.length) 0), us ++ List.replicate (126 - us.length) 0⟩

/-- A frame of at most 126 units is padded to 126, and NW counts its words. -/
theorem frameOf_payload (d : Bool) (n nl : Nat) (us : List Word) (bstart : Nat) (h : us.length ≤ 126) :
    (frameOf s d n nl us bstart).pay.length = 126 ∧ (frameOf s d n nl us bstart).pay.take us.length = us ∧
      hdrNw (frameOf s d n nl us bstart).hdr = us.length / 2 := by
  refine ⟨?_, List.take_left' rfl, ?_⟩
  · simp only [frameOf, List.length_append, List.length_replicate]
    omega
  · rw [frameOf, hdrNw_laneHdr]
    omega

/-- A lane after a frame: its last 32 frames end with it, and its last frame began now. -/
theorem getL_laneSend (n : Nat) (f : LaneFrame) (h : tabWf Lane.fresh s.lanes = true) :
    (getL (laneSend s n f) n).hist.getLast? = some f ∧ (getL (laneSend s n f) n).lastAt = s.ht := by
  rw [laneSend, getL_setL _ _ _ _ h, if_pos rfl]
  refine ⟨?_, rfl⟩
  rw [List.getLast?_drop, if_neg (by simp only [List.length_append, List.length_singleton]; omega), List.getLast?_concat]

/-- A frame of the trace stream sent on a lane. -/
theorem newFrame_sends (n nl : Nat) (us : List Word) (bstart : Nat) (hL : tabWf Lane.fresh s.lanes = true) (hR : tabWf 0 s.regs = true) :
    (getL (newFrame s false n nl us bstart) n).hist.getLast? = some (frameOf s false n nl us bstart) ∧
    (getL (newFrame s false n nl us bstart) n).lastAt = s.ht ∧
    regF (newFrame s false n nl us bstart) rTptFseq 31 0 = (regF s rTptFseq 31 0 + 1) % 2 ^ 32 ∧
    (newFrame s false n nl us bstart).funnel = s.funnel := by
  obtain ⟨hlast, hat⟩ := getL_laneSend s n (frameOf s false n nl us bstart) hL
  exact ⟨hlast, hat, regF_setRegF (laneSend s n (frameOf s false n nl us bstart)) rTptFseq 31 0 _ hR (by decide) (by decide), rfl⟩

/-! ### LANE_FRAME_SEND (R364, R365) -/

section
variable (hroute : dRoute s ≠ 1)
include hroute

/-- Off the D lanes' route class D records form no stream. -/
theorem ownD_otherRoute : ownD s = false := by simp [ownD, hroute]

/-- When a stream sends none. -/
theorem frameSend_waits (d : Bool) (h : bit (reg s rTptCtrl) 0 = false ∨ d = true) : frameSend s d = s := by
  simp only [frameSend, if_pos hroute, ownD_otherRoute s hroute, Bool.not_false, Bool.and_true]
  exact if_pos (h.elim (fun h => .inl (by rw [h]; rfl)) fun h => .inr (.inl h))

/-- What a frame of the trace stream is made of. -/
theorem frameSend_trace (hon : bit (reg s rTptCtrl) 0 = true) : frameSend s false =
    if min 126 ((getSink s 1).q.length / 2 * 2) = 0 then s
    else (nextLane s false (streamLanes s false)).elim s fun lane =>
      newFrame (setSink s 1 (sinkDrop s.ht 1 (min 126 ((getSink s 1).q.length / 2 * 2)) (getSink s 1))) false lane
        (streamLanes s false).length ((getSink s 1).q.take (min 126 ((getSink s 1).q.length / 2 * 2)))
        (blockStart (getSink s 1).fill (getSink s 1).q.length (min 126 ((getSink s 1).q.length / 2 * 2))) := by
  simp only [frameSend, if_pos hroute, ownD_otherRoute s hroute, Bool.not_false, Bool.and_true, hon, Bool.not_true, Bool.false_eq_true,
    false_or, if_false]
  cases nextLane s false (streamLanes s false) with
  | none => rfl
  | some lane => rfl

/-- With the lanes off no frame is sent. -/
theorem exec_laneFrameSend_off (hoff : bit (reg s rTptCtrl) 0 = false) (d : Bool) : exec (.laneFrameSend d) s = .next s :=
  congrArg Host.Outcome.next (frameSend_waits s hroute d (.inl hoff))

/-- The D stream has none of its own. -/
theorem exec_laneFrameSend_dStream : exec (.laneFrameSend true) s = .next s :=
  congrArg Host.Outcome.next (frameSend_waits s hroute true (.inr rfl))

/-- Without a lane, or without a whole word, the trace stream sends none. -/
theorem exec_laneFrameSend_waits (hon : bit (reg s rTptCtrl) 0 = true)
    (h : nextLane s false (streamLanes s false) = none ∨ (getSink s 1).q.length < 2) : exec (.laneFrameSend false) s = .next s := by
  refine congrArg Host.Outcome.next ((frameSend_trace s hroute hon).trans ?_)
  rcases h with h | h
  · rw [h, Option.elim_none, ite_self]
  · exact if_pos (by omega)

/-- The trace stream's next units go out on its next lane under the next FSEQ. -/
theorem laneFrameSend_sends (lane k : Nat) (hL : tabWf Lane.fresh s.lanes = true) (hR : tabWf 0 s.regs = true)
    (hon : bit (reg s rTptCtrl) 0 = true) (hlane : nextLane s false (streamLanes s false) = some lane)
    (hk : k = min 126 ((getSink s 1).q.length / 2 * 2)) (hpos : 0 < k) : ∃ (t : State) (f : LaneFrame),
    exec (.laneFrameSend false) s = .next t ∧ (getL t lane).hist.getLast? = some f ∧ f.fseq = regF s rTptFseq 31 0 ∧
    (getL t lane).lastAt = s.ht ∧ f.pay.length = 126 ∧ f.pay.take k = (getSink s 1).q.take k ∧ hdrNw f.hdr = k / 2 ∧
    regF t rTptFseq 31 0 = (regF s rTptFseq 31 0 + 1) % 2 ^ 32 := by
  have hlen : ((getSink s 1).q.take k).length = k := List.length_take_of_le (by omega)
  have hsend : frameSend s false = newFrame (setSink s 1 (sinkDrop s.ht 1 k (getSink s 1))) false lane (streamLanes s false).length
      ((getSink s 1).q.take k) (blockStart (getSink s 1).fill (getSink s 1).q.length k) := by
    rw [frameSend_trace s hroute hon, ← hk, if_neg (Nat.ne_of_gt hpos), hlane, Option.elim_some]
  obtain ⟨hlast, hat, hfseq, -⟩ := newFrame_sends (setSink s 1 (sinkDrop s.ht 1 k (getSink s 1))) lane (streamLanes s false).length
    ((getSink s 1).q.take k) (blockStart (getSink s 1).fill (getSink s 1).q.length k) hL hR
  obtain ⟨hpay, htake, hnw⟩ := frameOf_payload (setSink s 1 (sinkDrop s.ht 1 k (getSink s 1))) false lane (streamLanes s false).length
    ((getSink s 1).q.take k) (blockStart (getSink s 1).fill (getSink s 1).q.length k) (by omega)
  rw [hlen] at htake hnw
  exact ⟨_, _, congrArg Host.Outcome.next hsend, hlast, rfl, hat, hpay, htake, hnw, hfseq⟩

end

/-! ### LANE_IDLE_FRAME (R365) -/

section
variable (n : Fin 16)

theorem exec_laneIdleFrame_idle (h : bit (reg s rTptCtrl) 0 = false ∨ (getL s n).inSvc = false ∨ s.ht < (getL s n).lastAt + 400) :
    exec (.laneIdleFrame n) s = .next s := by
  refine if_neg fun ⟨hon, hsvc, hat⟩ => ?_
  rcases h with h | h | h
  · exact Bool.false_ne_true (h.symm.trans hon)
  · exact Bool.false_ne_true (h.symm.trans hsvc)
  · omega

/-- A lane idle for 400 ht sends a frame with NW 0. -/
theorem laneIdleFrame_sends (hL : tabWf Lane.fresh s.lanes = true) (hR : tabWf 0 s.regs = true) (hon : bit (reg s rTptCtrl) 0 = true)
    (hsvc : (getL s n).inSvc = true) (hat : (getL s n).lastAt + 400 ≤ s.ht) (hroute : dRoute s ≠ 1) : ∃ (t : State) (f : LaneFrame),
    exec (.laneIdleFrame n) s = .next t ∧ (getL t n).hist.getLast? = some f ∧ hdrNw f.hdr = 0 ∧
    regF t rTptFseq 31 0 = (regF s rTptFseq 31 0 + 1) % 2 ^ 32 ∧ t.funnel = s.funnel := by
  have hd : ((dLanes s).contains n.val && dRoute s == 1) = false := by simp [hroute]
  have hexec : exec (.laneIdleFrame n) s =
      .next (newFrame s false n (streamLanes s ((dLanes s).contains n.val)).length [] 0) := by
    show execLaneIdleFrame n s = _
    simp only [execLaneIdleFrame, hd, hon, hsvc, hat, and_self, if_true, ok]
  obtain ⟨hlast, -, hfseq, hfunnel⟩ := newFrame_sends s n (streamLanes s ((dLanes s).contains n.val)).length [] 0 hL hR
  obtain ⟨-, -, hnw⟩ := frameOf_payload s false n (streamLanes s ((dLanes s).contains n.val)).length [] 0 (by decide)
  exact ⟨_, _, hexec, hlast, hnw, hfseq, hfunnel⟩

end

/-! ### Frames sent again (R366) -/

/-- From s to t frames have been sent again: no lane enters or leaves service, comes up or falls, and the upper counts of TPT_ERR stand. -/
structure ReplayWork (s t : State) : Prop where
  eq : t = { s with regs := t.regs, lanes := t.lanes }
  regsWf : tabWf 0 s.regs = true → tabWf 0 t.regs = true
  lanesWf : tabWf Lane.fresh s.lanes = true → tabWf Lane.fresh t.lanes = true
  svc : tabWf Lane.fresh s.lanes = true → ∀ n : Nat, (getL t n).inSvc = (getL s n).inSvc ∧ (getL t n).up = (getL s n).up
  errs : tabWf 0 s.regs = true → regF t rTptErr 63 48 = regF s rTptErr 63 48 ∧ regF t rTptErr 47 32 = regF s rTptErr 47 32

theorem ReplayWork.refl : ReplayWork s s := ⟨rfl, id, id, fun _ _ => ⟨rfl, rfl⟩, fun _ => ⟨rfl, rfl⟩⟩

theorem ReplayWork.trans {s t u : State} (h : ReplayWork s t) (k : ReplayWork t u) : ReplayWork s u where
  eq := by rw [k.eq, h.eq]
  regsWf hs := k.regsWf (h.regsWf hs)
  lanesWf hs := k.lanesWf (h.lanesWf hs)
  svc hs n := ⟨(k.svc (h.lanesWf hs) n).1.trans (h.svc hs n).1, (k.svc (h.lanesWf hs) n).2.trans (h.svc hs n).2⟩
  errs hs := ⟨(k.errs (h.regsWf hs)).1.trans (h.errs hs).1, (k.errs (h.regsWf hs)).2.trans (h.errs hs).2⟩

theorem replayWork_forAll {α : Type} (l : List α) (f : State → α → State) (h : ∀ t a, ReplayWork t (f t a)) : ReplayWork s (forAll l f s) :=
  forAll_keeps (ReplayWork s) l f s (.refl s) fun t a _ ht => ht.trans (h t a)

/-- A lane's frames replaced. -/
theorem replayWork_setL (n : Nat) (x : Lane) (hsvc : x.inSvc = (getL s n).inSvc) (hup : x.up = (getL s n).up) :
    ReplayWork s (setL s n x) where
  eq := rfl
  regsWf := id
  lanesWf hs := setL_wf s n x hs
  svc hs m := by
    by_cases hm : m = n
    · subst hm
      rw [getL_setL _ _ _ _ hs, if_pos rfl]
      exact ⟨hsvc, hup⟩
    · rw [getL_setL_ne _ _ _ _ hm]
      exact ⟨rfl, rfl⟩
  errs _ := ⟨rfl, rfl⟩

/-- A frame sent again, or too old to be, counts in the lower half of TPT_ERR. -/
theorem replayWork_countErr (hi lo : Nat) (hl : lo ≤ hi) (hh : hi < 32) : ReplayWork s (countF s rTptErr hi lo 1) where
  eq := rfl
  regsWf hs := countF_wf s _ _ _ _ hs
  lanesWf := id
  svc _ _ := ⟨rfl, rfl⟩
  errs hs := ⟨regF_countF_apart _ _ _ _ _ _ _ hs hl (by omega) (.inl (by omega)),
    regF_countF_apart _ _ _ _ _ _ _ hs hl (by omega) (.inl (by omega))⟩

theorem replayWork_replayOne (l : List Nat) (k : Nat) (f : LaneFrame) : ReplayWork s (replayOne s l k f) := by
  unfold replayOne
  split
  · exact replayWork_countErr s 15 0 (by decide) (by decide)
  · exact (replayWork_countErr s 31 16 (by decide) (by decide)).trans (replayWork_setL _ _ _ rfl rfl)

theorem replayWork_replayOwed : ReplayWork s (replayOwed s) := by
  unfold replayOwed
  refine replayWork_forAll s _ _ fun t n => ?_
  dsimp only
  refine ReplayWork.trans (replayWork_setL t n _ ?_ ?_) (replayWork_forAll _ _ _ fun u e => ?_)
  · rfl
  · rfl
  · exact replayWork_replayOne u _ _ _

/-! ### Lanes that enter and leave service (R366, R428) -/

section
variable (n : Nat)

theorem getL_setL_self (x : Lane) (h : tabWf Lane.fresh s.lanes = true) : getL (setL s n x) n = x := by
  rw [getL_setL _ _ _ _ h, if_pos rfl]

/-- A health change of a lane keeps the lanes and TPT_ERR. -/
theorem getL_healthChange (k u m : Nat) (l : Bool) : getL (healthChange s k u l) m = getL s m := by
  rw [getL, healthChange_lanes, getL]

theorem regF_healthChange_tptErr (k u : Nat) (l : Bool) (hi lo : Nat) : regF (healthChange s k u l) rTptErr hi lo = regF s rTptErr hi lo :=
  regF_of_reg (reg_healthChange_ne s k u l (by decide)) hi lo

/-- A lane that may and is not in service joins it. -/
theorem laneJoin_joins (hfit : laneFit s n = true) (hsvc : (getL s n).inSvc = false) (hL : tabWf Lane.fresh s.lanes = true)
    (hE : tabWf 0 s.evPend = true) :
    (getL (laneJoin s n) n).inSvc = true ∧ (getL (laneJoin s n) n).up = (getL s n).up ∧ LineRaised (laneJoin s n) 5 := by
  have hjoin : laneJoin s n = healthChange (replayOwed (setL s n { getL s n with inSvc := true, lastAt := s.ht })) 13 n false :=
    if_pos (by rw [hfit, hsvc]; rfl)
  have hwork := replayWork_replayOwed (setL s n { getL s n with inSvc := true, lastAt := s.ht })
  obtain ⟨hin, hup⟩ := hwork.svc (setL_wf s n _ hL) n
  rw [getL_setL_self s n _ hL] at hin hup
  rw [hjoin, getL_healthChange]
  exact ⟨hin, hup, healthChange_raises _ _ _ _ (by rw [hwork.eq]; exact hE)⟩

theorem laneJoin_unfit (h : laneFit s n = false ∨ (getL s n).inSvc = true) : laneJoin s n = s :=
  if_neg (by rcases h with h | h <;> simp [h])

/-- A lane in service leaves it, counted and shown in health. -/
theorem laneLeave_leaves (hsvc : (getL s n).inSvc = true) (hL : tabWf Lane.fresh s.lanes = true) (hE : tabWf 0 s.evPend = true)
    (hR : tabWf 0 s.regs = true) : (getL (laneLeave s n) n).inSvc = false ∧ (getL (laneLeave s n) n).up = (getL s n).up ∧
    regF (laneLeave s n) rTptErr 63 48 = min (regF s rTptErr 63 48 + 1) 0xFFFF ∧
    regF (laneLeave s n) rTptErr 47 32 = regF s rTptErr 47 32 ∧ LineRaised (laneLeave s n) 5 := by
  have hleave : laneLeave s n =
      healthChange (replayOwed (countF (setL s n { getL s n with inSvc := false }) rTptErr 63 48 1)) 13 n true := if_pos hsvc
  have hwork := replayWork_replayOwed (countF (setL s n { getL s n with inSvc := false }) rTptErr 63 48 1)
  obtain ⟨hin, hup⟩ := hwork.svc (setL_wf s n _ hL) n
  obtain ⟨hdown, hstall⟩ := hwork.errs (countF_wf (setL s n { getL s n with inSvc := false }) _ _ _ _ hR)
  rw [getL_countF, getL_setL_self s n _ hL] at hin hup
  rw [hleave, getL_healthChange, regF_healthChange_tptErr, regF_healthChange_tptErr]
  refine ⟨hin, hup, hdown.trans ?_, hstall.trans ?_, healthChange_raises _ _ _ _ (by rw [hwork.eq]; exact hE)⟩
  · exact regF_count16 (setL s n { getL s n with inSvc := false }) _ _ _ _ hR rfl (by decide)
  · exact regF_countF_apart (setL s n { getL s n with inSvc := false }) _ _ _ _ _ _ hR (by decide) (by decide) (by decide)

theorem laneLeave_out (h : (getL s n).inSvc = false) : laneLeave s n = s := if_neg (by rw [h]; exact Bool.false_ne_true)

/-- A lane that fails out of service changes nothing more. -/
theorem laneFail_out (h : (getL s n).inSvc = false) : laneFail s n = s := by
  rw [laneFail, h, Bool.and_false, if_neg Bool.false_ne_true, laneLeave_out s n h]

/-- With the recovery engine stopped a lane that fails in service is only reported. -/
theorem laneFail_reported (hsvc : (getL s n).inSvc = true) (hrec : s.boot.recStop = true) :
    laneFail s n = healthChange s 13 n true := if_pos (by rw [hsvc, hrec]; rfl)

/-- Otherwise it leaves service. -/
theorem laneFail_leaves (hrec : s.boot.recStop = false) : laneFail s n = laneLeave s n := if_neg (by simp [hrec])

end

/-! ### LANE_IN_SERVICE, LANE_DOWN and LANE_STALL (R366) -/

section
variable (n : Fin 16)

/-- The lane's own record after its UP has changed. -/
def laneUp (up : Bool) : State := setL s n { getL s n with up := up }

theorem getL_laneUp (up : Bool) (h : tabWf Lane.fresh s.lanes = true) : getL (laneUp s n up) n = { getL s n with up := up } :=
  getL_setL_self s n _ h

theorem exec_laneInService_absent (h : s.integ.lanes.getLsbD n = false) : exec (.laneInService n) s = .next s :=
  if_neg (by rw [h]; exact Bool.false_ne_true)

theorem exec_laneInService_present (h : s.integ.lanes.getLsbD n = true) :
    exec (.laneInService n) s = .next (laneJoin (laneUp s n true) n) := if_pos h

theorem exec_laneDown : exec (.laneDown n) s = .next (laneFail (laneUp s n false) n) := rfl

theorem exec_laneStall_out (h : (getL s n).inSvc = false) : exec (.laneStall n) s = .next s :=
  if_neg (by rw [h]; exact Bool.false_ne_true)

theorem exec_laneStall_in (h : (getL s n).inSvc = true) :
    exec (.laneStall n) s = .next (laneFail (countF s rTptErr 47 32 1) n) := if_pos h

/-- With the recovery engine stopped a lane that stalls stays in service, counted and reported. -/
theorem laneStall_reported (hE : tabWf 0 s.evPend = true) (hR : tabWf 0 s.regs = true) (hsvc : (getL s n).inSvc = true)
    (hrec : s.boot.recStop = true) : ∃ t : State, exec (.laneStall n) s = .next t ∧ (getL t n).inSvc = true ∧
    regF t rTptErr 47 32 = min (regF s rTptErr 47 32 + 1) 0xFFFF ∧ LineRaised t 5 := by
  refine ⟨_, exec_laneStall_in s n hsvc, ?_⟩
  rw [laneFail_reported (countF s rTptErr 47 32 1) n hsvc hrec, getL_healthChange, regF_healthChange_tptErr]
  exact ⟨hsvc, regF_count16 s _ _ _ _ hR rfl (by decide), healthChange_raises _ _ _ _ hE⟩

variable (hL : tabWf Lane.fresh s.lanes = true)
include hL

/-- A lane in service, or not enabled, only comes up. -/
theorem exec_laneInService_comesUp (hin : s.integ.lanes.getLsbD n = true)
    (h : (getL s n).inSvc = true ∨ bit (reg s rTptCtrl) (16 + n.val) = false) :
    exec (.laneInService n) s = .next (setL s n { getL s n with up := true }) := by
  rw [exec_laneInService_present s n hin, laneJoin_unfit]
  · rfl
  · rcases h with h | h
    · right
      rw [getL_laneUp s n true hL]
      exact h
    · left
      show (_ && bit (reg s rTptCtrl) (16 + n.val)) = false
      rw [h, Bool.and_false]

/-- A lane enabled joins service once it is up. -/
theorem laneInService_joins (hE : tabWf 0 s.evPend = true) (hin : s.integ.lanes.getLsbD n = true) (hsvc : (getL s n).inSvc = false)
    (hen : bit (reg s rTptCtrl) (16 + n.val) = true) : ∃ t : State, exec (.laneInService n) s = .next t ∧
    (getL t n).inSvc = true ∧ (getL t n).up = true ∧ LineRaised t 5 := by
  have hget := getL_laneUp s n true hL
  have hfit : laneFit (laneUp s n true) n = true := by
    show (s.integ.lanes.getLsbD n && (getL (laneUp s n true) n).up && bit (reg s rTptCtrl) (16 + n.val)) = true
    rw [hin, hget, hen]
    rfl
  obtain ⟨hjoined, hup, hline⟩ := laneJoin_joins (laneUp s n true) n hfit (by rw [hget]; exact hsvc) (setL_wf s n _ hL) hE
  exact ⟨_, exec_laneInService_present s n hin, hjoined, by rw [hup, hget], hline⟩

/-- A lane out of service that falls is down, and no more. -/
theorem exec_laneDown_out (h : (getL s n).inSvc = false) : exec (.laneDown n) s = .next (setL s n { getL s n with up := false }) := by
  rw [exec_laneDown, laneFail_out]
  · rfl
  · rw [getL_laneUp s n false hL]
    exact h

/-- With the recovery engine stopped a lane that falls stays in service, down and reported. -/
theorem laneDown_reported (hE : tabWf 0 s.evPend = true) (hsvc : (getL s n).inSvc = true) (hrec : s.boot.recStop = true) :
    ∃ t : State, exec (.laneDown n) s = .next t ∧ (getL t n).inSvc = true ∧ (getL t n).up = false ∧ LineRaised t 5 := by
  have hget := getL_laneUp s n false hL
  refine ⟨_, exec_laneDown s n, ?_⟩
  rw [laneFail_reported (laneUp s n false) n (by rw [hget]; exact hsvc) hrec, getL_healthChange, hget]
  exact ⟨hsvc, rfl, healthChange_raises _ _ _ _ hE⟩

section
variable (hE : tabWf 0 s.evPend = true) (hR : tabWf 0 s.regs = true) (hsvc : (getL s n).inSvc = true) (hrec : s.boot.recStop = false)
include hE hR hsvc hrec

/-- A lane in service that falls leaves it. -/
theorem laneDown_leaves : ∃ t : State, exec (.laneDown n) s = .next t ∧ (getL t n).inSvc = false ∧ (getL t n).up = false ∧
    regF t rTptErr 63 48 = min (regF s rTptErr 63 48 + 1) 0xFFFF ∧ LineRaised t 5 := by
  have hget := getL_laneUp s n false hL
  obtain ⟨hleft, hup, hcount, -, hline⟩ :=
    laneLeave_leaves (laneUp s n false) n (by rw [hget]; exact hsvc) (setL_wf s n _ hL) hE hR
  refine ⟨_, exec_laneDown s n, ?_⟩
  rw [laneFail_leaves (laneUp s n false) n hrec]
  exact ⟨hleft, by rw [hup, hget], hcount, hline⟩

/-- So does one that stalls, and the stall is counted too. -/
theorem laneStall_leaves : ∃ t : State, exec (.laneStall n) s = .next t ∧ (getL t n).inSvc = false ∧
    regF t rTptErr 47 32 = min (regF s rTptErr 47 32 + 1) 0xFFFF ∧
    regF t rTptErr 63 48 = min (regF s rTptErr 63 48 + 1) 0xFFFF ∧ LineRaised t 5 := by
  have hwf := countF_wf s rTptErr 47 32 1 hR
  obtain ⟨hleft, -, hcount, hstall, hline⟩ := laneLeave_leaves (countF s rTptErr 47 32 1) n hsvc hL hE hwf
  refine ⟨_, exec_laneStall_in s n hsvc, ?_⟩
  rw [laneFail_leaves (countF s rTptErr 47 32 1) n hrec]
  refine ⟨hleft, hstall.trans (regF_count16 s _ _ _ _ hR rfl (by decide)), hcount.trans ?_, hline⟩
  rw [regF_countF_apart s _ _ _ _ _ _ hR (by decide) (by decide) (by decide)]

end

end

end

end Sys2Proof.Machine
end


section
/-! PROPERTY. The master port issues, completes and times out; the trace lanes send frames and enter and leave service. -/

namespace Sys2Proof.Machine

section
variable (s : State)

/-- MPT_ACC_GO: refused, quiet, or one more request. -/
theorem mptAccGo_outcomes (hR : tabWf 0 s.regs = true) (who : Who) (v : Word) :
    (mayReg s who rMptAccCtrl true v = false → exec (.mptAccGo who v) s = .next s) ∧
    (mayReg s who rMptAccCtrl true v = true → ∃ t : State, exec (.mptAccGo who v) s = .next t ∧
      (bit v 0 = false ∨ accState s who = 1 → t.master = s.master) ∧
      (bit v 0 = true → accState s who ≠ 1 → accState t who = 1 ∧ t.master.waiting = s.master.waiting ++
        [⟨.indirect who, bit v 1, 8 * bits v 63 3, 1, if bit v 1 then [regGet s (keyWho who rMptAccData) rMptAccData] else [],
          0, [], false, false, [], false⟩])) :=
  ⟨exec_mptAccGo_refused s who v, fun hmay => ⟨_, exec_mptAccGo_allowed s who v hmay, accWrite_quiet s who v, accWrite_asks s who v hR⟩⟩

/-- MP_REQUEST_ISSUE for the one request that waits: outside the range, issued, or waiting. -/
theorem mpRequestIssue_outcomes (hR : tabWf 0 s.regs = true) (q : MpReq) (hroute : dRoute s ≠ 2) (hon : bit (reg s rMptCfg) 63 = true)
    (hq : s.master.waiting = [q]) :
    (∀ who : Who, mpRange s q = false → q.client = .indirect who → ∃ t : State, exec .mpRequestIssue s = .next t ∧
      t.master.waiting = [] ∧ accState t who = 3 ∧ regF t rMptStat2 63 48 = min (regF s rMptStat2 63 48 + 1) 0xFFFF ∧
      t.master.rd = s.master.rd ∧ t.master.wrt = s.master.wrt) ∧
    (∀ tag : Nat, mpRange s q = true → regF s rMptRate 11 0 ≠ 0 → 4096 * q.beats ≤ tokensNow s → freeTag s q.wr = some tag →
      ∃ t : State, exec .mpRequestIssue s = .next t ∧ t.master.waiting = [] ∧
        tget none (tagsOf t q.wr) tag = some { q with issued := s.ht } ∧ tokensNow t = tokensNow s - 4096 * q.beats) ∧
    (mpRange s q = true → regF s rMptRate 11 0 = 0 ∨ tokensNow s < 4096 * q.beats ∨ freeTag s q.wr = none →
      exec .mpRequestIssue s = .next s) := by
  refine ⟨fun who hrange hclient => ?_, fun tag hrange hrate htokens htag => ?_, exec_mpRequestIssue_waits s q hroute hon hq⟩
  · have hmaster := mpDone_master (countF (requestTaken s q) rMptStat2 63 48 1) q true
    refine ⟨_, exec_mpRequestIssue_outside s q hroute hon hq who hrange hclient, by rw [hmaster]; rfl, ?_, ?_, by rw [hmaster]; rfl,
      by rw [hmaster]; rfl⟩
    · exact accState_mpDone _ who q true (countF_wf (requestTaken s q) _ _ _ _ hR) hclient
    · rw [regF_of_reg (reg_mpDone_ne _ q true (by decide) (by decide) (by decide))]
      exact regF_count16 (requestTaken s q) _ _ _ _ hR rfl (by decide)
  · refine ⟨_, exec_mpRequestIssue_issues s q hroute hon hq tag hrange hrate htokens htag, ?_, tget_setTag_some _ q.wr tag _, ?_⟩
    · cases q.wr <;> rfl
    · cases q.wr <;> exact tokensNow_paid s _ rfl rfl rfl

/-- The end of a write at its client. -/
theorem mpWriteCompletion_ends (hR : tabWf 0 s.regs = true) (hwrt : tabWf none s.master.wrt = true) (tag : BitVec 8) (err : Fin 4)
    (q : MpReq) (hq : tget none s.master.wrt tag.toNat = some q) (hquar : q.quar = false) (hwr : q.wr = true) : ∃ t : State,
    exec (.mpWriteCompletion tag err) s = .next t ∧ tget none t.master.wrt tag.toNat = none ∧
    (∀ who : Who, q.client = .indirect who → accState t who = if 2 ≤ err.val then 3 else 2) ∧
    (q.client = .spill → err.val < 2 → regF t rTrcSpillPtr 23 0 =
      (regF s rTrcSpillPtr 23 0 + 1) % max 1 (regF s rTrcSpillSize 23 0) ∧
      t.funnel.spillHeld = min (max 1 (regF s rTrcSpillSize 23 0)) (s.funnel.spillHeld + 1)) ∧
    (q.client = .spill → 2 ≤ err.val → t.funnel = s.funnel) ∧
    (q.client = .dump → err.val < 2 → t.hang.blocks = s.hang.blocks + 1 ∧ regF t rDmpWinStat 55 32 = (s.hang.blocks + 1) % 2 ^ 24) ∧
    (2 ≤ err.val → regF t rMptStat 47 32 = min (regF s rMptStat 47 32 + 1) 0xFFFF ∧ t.hang = s.hang) := by
  have hfreed : tabWf 0 (setTag s true tag.toNat none).regs = true := by
    rw [setTag_regs]
    exact hR
  refine ⟨_, exec_mpWriteCompletion_ends s tag q err hq hquar, tget_writeEnded s tag q err _ hwrt, fun who hclient => ?_,
    fun hclient herr => ?_, fun hclient herr => ?_, fun hclient herr => ?_, fun herr => ?_⟩
  · simpa using accState_mpDone _ who q (decide (2 ≤ err.val)) (writeEnded_wf s tag q err hR) hclient
  · have hend : mpDone (setTag s true tag.toNat none) q false = spillWritten (setTag s true tag.toNat none) := by
      simp only [mpDone, hclient, Bool.false_eq_true, if_false]
    rw [decide_eq_false (not_le.mpr herr), writeCounted_good s q err herr, hend]
    exact spillWritten_moves (setTag s true tag.toNat none) hfreed
  · have hend : mpDone (setTag (writeCounted s q err) true tag.toNat none) q true = setTag (writeCounted s q err) true tag.toNat none := by
      simp only [mpDone, hclient, if_true]
    rw [decide_eq_true herr, hend, writeCounted_frame]
    rfl
  · have hend : mpDone (setTag s true tag.toNat none) q false = windowWritten (setTag s true tag.toNat none) q := by
      simp only [mpDone, hclient, hwr, Bool.false_eq_true, if_false, if_true]
    rw [decide_eq_false (not_le.mpr herr), writeCounted_good s q err herr, hend]
    exact windowWritten_moves (setTag s true tag.toNat none) q hfreed
  · rw [decide_eq_true herr]
    exact mpDone_failedWrite s tag q err hR hwr herr

end

/-- Settles O54: an issue, a completion and a time-out each end in what their client is shown, and a lane's frame, its entry into
service and its failure each change its own record, the counts and health. -/
theorem theMasterPortAndTheTraceLanesMoveData : Obligations.TheMasterPortAndTheTraceLanesMoveData := by
  intro s hc hrd hwrt
  have hR := canonical_regs s hc
  have hE := canonical_evPend s hc
  have hL := canonical_lanes s hc
  refine ⟨mptAccGo_outcomes s hR, exec_mpRequestIssue_idle s, mpRequestIssue_outcomes s hR, fun tag last data err => ?_,
    fun wr tag => ⟨exec_mpTimeout_free s tag wr, fun q hq => ⟨exec_mpTimeout_idle s tag q wr hq, mpTimeout_quarantines s tag q wr hR hE hq⟩⟩,
    fun hoff hroute => exec_laneFrameSend_off s hroute hoff, fun hroute => ?_, fun n x hx => ?_⟩
  · refine ⟨exec_mpReadBeat_free s tag last data err, exec_mpWriteCompletion_free s tag err, fun q hq hquar => ?_,
      fun q hq hquar => ?_, fun q who hq hquar hclient hwr hgot hbad hdata => ?_,
      fun q => mpReadBeat_endsDump s tag q data err hrd, mpWriteCompletion_ends s hR hwrt tag err⟩
    · exact ⟨exec_mpReadBeat_quarantined s tag q false data err hq hquar, _, exec_mpReadBeat_quarantined s tag q true data err hq hquar,
        tget_lateDone s false _ hrd, regF_lateDone s false _ hR⟩
    · exact ⟨_, exec_mpWriteCompletion_quarantined s tag q err hq hquar, tget_lateDone s true _ hwrt, regF_lateDone s true _ hR⟩
    · exact ⟨mpReadBeat_collects s tag q data err hq hquar hgot hbad hdata,
        mpReadBeat_endsIndirect s tag q who data err hR hrd hq hquar hclient hwr hgot hbad hdata⟩
  · refine ⟨exec_laneFrameSend_dStream s hroute, fun hwait => ?_, fun lane k => laneFrameSend_sends s hroute lane k hL hR⟩
    cases hon : bit (reg s rTptCtrl) 0 with
    | false => exact exec_laneFrameSend_off s hroute hon false
    | true => exact exec_laneFrameSend_waits s hroute hon hwait
  · subst hx
    exact ⟨exec_laneIdleFrame_idle s n, laneIdleFrame_sends s n hL hR, exec_laneInService_absent s n,
      exec_laneInService_comesUp s n hL, laneInService_joins s n hL hE,
      fun hout => ⟨exec_laneDown_out s n hL hout, exec_laneStall_out s n hout⟩,
      fun hsvc hrec => ⟨laneDown_reported s n hL hE hsvc hrec, laneStall_reported s n hE hR hsvc hrec⟩,
      fun hsvc hrec => ⟨laneDown_leaves s n hL hE hR hsvc hrec, laneStall_leaves s n hL hE hR hsvc hrec⟩⟩

end Sys2Proof.Machine
end


section
/-! SUPPORT. What commits, records and reports leave as they were: the Hank store but for its order of commits, the cells of the NAND
devices, XSPI_STAT, and lines already raised (R292 to R294, R297, R306, R309). -/

namespace Sys2Proof.Machine

/-! ### The frame of the Hank store's work -/

/-- From s to t the Hank store and its devices have worked: its order of commits, its stream, its devices and other registers may have
changed, and no line has been cleared. -/
structure HankFrame (s t : State) : Prop where
  integ : t.integ = s.integ
  boot : t.boot = s.boot
  ht : t.ht = s.ht
  hank : t.hank = { s.hank with inq := t.hank.inq, queue := t.hank.queue, nextC := t.hank.nextC, stream := t.hank.stream }
  regsWf : tabWf 0 s.regs = true → tabWf 0 t.regs = true
  pendWf : tabWf 0 s.evPend = true → tabWf 0 t.evPend = true
  lines : tabWf 0 s.evPend = true → ∀ n : Nat, LineRaised s n → LineRaised t n
  xsp : reg t rXspStat = reg s rXspStat
  nandsWf : tabWf Nand.fresh s.nands = true → tabWf Nand.fresh t.nands = true

theorem HankFrame.refl (s : State) : HankFrame s s := ⟨rfl, rfl, rfl, rfl, id, id, fun _ _ => id, rfl, id⟩

theorem HankFrame.trans {s t u : State} (h : HankFrame s t) (k : HankFrame t u) : HankFrame s u where
  integ := k.integ.trans h.integ
  boot := k.boot.trans h.boot
  ht := k.ht.trans h.ht
  hank := by rw [k.hank, h.hank]
  regsWf hs := k.regsWf (h.regsWf hs)
  pendWf hs := k.pendWf (h.pendWf hs)
  lines hs n hn := k.lines (h.pendWf hs) n (h.lines hs n hn)
  xsp := k.xsp.trans h.xsp
  nandsWf hs := k.nandsWf (h.nandsWf hs)

section
variable {s t : State}

theorem HankFrame.retired (h : HankFrame s t) : t.hank.retired = s.hank.retired := by rw [h.hank]

theorem HankFrame.pfw (h : HankFrame s t) : t.hank.pfw = s.hank.pfw := by rw [h.hank]

theorem HankFrame.banks (h : HankFrame s t) : banks t = banks s := by rw [Machine.banks, h.retired, Machine.banks]

theorem HankFrame.mirrors (h : HankFrame s t) (d : Nat) : mirrorsGone t d = mirrorsGone s d := by
  rw [mirrorsGone, h.banks, mirrorsGone]

/-- Changes of devices, the funnel and the stream to NAND. -/
theorem HankFrame.of_devices (heq : t = { s with nands := t.nands, funnel := t.funnel, hank := { s.hank with stream := t.hank.stream } })
    (hwf : tabWf Nand.fresh s.nands = true → tabWf Nand.fresh t.nands = true) : HankFrame s t where
  integ := by rw [heq]
  boot := by rw [heq]
  ht := by rw [heq]
  hank := by rw [heq]
  regsWf hs := by rw [heq]; exact hs
  pendWf hs := by rw [heq]; exact hs
  lines _ n hn := by rw [heq]; exact hn
  xsp := by rw [heq]; rfl
  nandsWf := hwf

end

section
variable (s : State) (d : Nat)

theorem hankFrame_setN (x : Nand) : HankFrame s (setN s d x) := .of_devices rfl (setN_wf s d x)

theorem hankFrame_setB (b : Nat) (x : NBlk) : HankFrame s (setB s d b x) := hankFrame_setN s d _

/-- Another register's count. -/
theorem hankFrame_countF (o hi lo n : Nat) (h : rXspStat ≠ o) : HankFrame s (countF s o hi lo n) :=
  ⟨rfl, rfl, rfl, rfl, countF_wf s o hi lo n, id, fun _ _ => id, reg_setReg_ne _ _ _ _ h, id⟩

end

/-! ### Work that leaves the devices' cells -/

/-- A device but for whether it owes a LOGSTATE. -/
def oweBlind (n : Nand) : Nand := { n with owes := false }

/-- From s to t the Hank store has worked, and devices have at most come to owe a LOGSTATE. -/
structure StoreWork (s t : State) : Prop extends HankFrame s t where
  dev : ∀ e : Nat, oweBlind (getN t e) = oweBlind (getN s e)

theorem StoreWork.refl (s : State) : StoreWork s s := ⟨.refl s, fun _ => rfl⟩

theorem StoreWork.trans {s t u : State} (h : StoreWork s t) (k : StoreWork t u) : StoreWork s u :=
  ⟨h.toHankFrame.trans k.toHankFrame, fun e => (k.dev e).trans (h.dev e)⟩

theorem StoreWork.forAll {α : Type} (l : List α) (f : State → α → State) (s : State) (h : ∀ t a, StoreWork t (f t a)) :
    StoreWork s (Machine.forAll l f s) :=
  forAll_keeps (StoreWork s) l f s (.refl s) fun t a _ ht => ht.trans (h t a)

/-- What leaves the devices as they were. -/
theorem HankFrame.storeWork {s t : State} (h : HankFrame s t) (hn : t.nands = s.nands) : StoreWork s t :=
  ⟨h, fun e => by rw [getN, hn, getN]⟩

section
variable {s t : State} (h : StoreWork s t) (d : Nat)
include h

theorem StoreWork.blks : (getN t d).blks = (getN s d).blks := (congrArg Nand.blks (h.dev d) :)
theorem StoreWork.seq : (getN t d).seq = (getN s d).seq := (congrArg Nand.seq (h.dev d) :)
theorem StoreWork.out : (getN t d).out = (getN s d).out := (congrArg Nand.out (h.dev d) :)
theorem StoreWork.mounted : (getN t d).mounted = (getN s d).mounted := (congrArg Nand.mounted (h.dev d) :)
theorem StoreWork.opKind : (getN t d).opKind = (getN s d).opKind := (congrArg Nand.opKind (h.dev d) :)
theorem StoreWork.erase : (getN t d).erase = (getN s d).erase := (congrArg Nand.erase (h.dev d) :)
theorem StoreWork.lastWl : (getN t d).lastWl = (getN s d).lastWl := (congrArg Nand.lastWl (h.dev d) :)
theorem StoreWork.getB (b : Nat) : getB t d b = getB s d b := by rw [Machine.getB, h.blks, Machine.getB]

end

section
variable (s : State)

/-- A commit of the hub's own comes into the order of commits, or waits. -/
theorem submit_hank (a : Area) (o : Nat) (b : List Word) : (submit s a o b).hank =
    { s.hank with inq := (submit s a o b).hank.inq, queue := (submit s a o b).hank.queue, nextC := (submit s a o b).hank.nextC } := by
  simp only [submit, enterOrder, Option.elim]
  split
  · rfl
  · split
    · rfl
    · split <;> rfl

theorem storeWork_submit (a : Area) (o : Nat) (b : List Word) : StoreWork s (submit s a o b) where
  integ := submit_integ ..
  boot := submit_boot ..
  ht := submit_ht ..
  hank := by rw [submit_hank]
  regsWf := submit_regs_wf s a o b
  pendWf hs := by rw [submit_evPend]; exact hs
  lines _ n hn := lineRaised_of_evPend hn (submit_evPend ..)
  xsp := reg_submit_ne s a o b (by decide)
  nandsWf hs := by rw [submit_nands]; exact hs
  dev e := by rw [getN, submit_nands, getN]

theorem storeWork_journal (c a : Nat) (m : List Word) : StoreWork s (journal s c a m) := storeWork_submit s ..

theorem storeWork_addCounter (i v : Nat) : StoreWork s (addCounter s i v) := storeWork_submit s ..

theorem storeWork_hevt (c a : Nat) (pay : List Word) : StoreWork s (hevt s c a pay) :=
  (HankFrame.of_devices (by rw [hevt_eq]) fun hs => by rw [hevt_eq]; exact hs).storeWork (by rw [hevt_eq])

theorem publishMap_regs_wf (h : tabWf 0 s.regs = true) : tabWf 0 (publishMap s).regs = true := by
  unfold publishMap
  split
  · exact h
  · exact setRegF_wf _ _ _ _ _ (setRegF_wf _ _ _ _ _ h)

/-- A health change raises line 5 and clears none (R389). -/
theorem storeWork_healthChange (k u : Nat) (l : Bool) : StoreWork s (healthChange s k u l) where
  integ := healthChange_integ ..
  boot := healthChange_boot ..
  ht := healthChange_ht ..
  hank := by
    rw [healthChange, publishMap_hank, journal, submit_hank, hevt_eq]
    rfl
  regsWf hs := publishMap_regs_wf _ (submit_regs_wf _ _ _ _ (by rw [hevt_eq]; exact setRegF_wf s _ _ _ _ hs))
  pendWf := healthChange_evPend_wf s k u l
  lines hs n hn r hr := by
    rw [healthChange, publishMap_evPend, journal, submit_evPend, hevt_evPend]
    exact raiseLine_keeps (setRegF s rHltGen 31 0 (regF s rHltGen 31 0 + 1)) 5 r n hs (hn r hr)
  xsp := reg_healthChange_ne s k u l (by decide)
  nandsWf hs := by rw [healthChange_nands]; exact hs
  dev e := by rw [getN, healthChange_nands, getN]

/-- A copy of a dump's newest entry (R301). -/
theorem storeWork_entryWith (num : Nat) (f : Word → Word) : StoreWork s (entryWith s num f) := by
  unfold entryWith
  split
  · exact .refl s
  · exact storeWork_submit s _ _ _

theorem storeWork_lostDumps (nums : List Nat) : StoreWork s (lostDumps s nums) := .forAll _ _ _ fun t _ => storeWork_entryWith t _ _

/-! ### LOGSTATE (R306) -/

/-- Every device owes a LOGSTATE. -/
def allOwe : State := { s with nands := s.nands.map fun k => (k.1, { k.2 with owes := true }) }

theorem oweBlind_tget_owing (t : Tab Nand) (e : Nat) :
    oweBlind (tget Nand.fresh (t.map fun k => (k.1, { k.2 with owes := true })) e) = oweBlind (tget Nand.fresh t e) := by
  induction t with
  | nil => rfl
  | cons k t ih =>
    simp only [List.map_cons, tget]
    split
    · rfl
    · exact ih

theorem tabWf_owing (t : Tab Nand) (h : tabWf Nand.fresh t = true) :
    tabWf Nand.fresh (t.map fun k => (k.1, { k.2 with owes := true })) = true := by
  induction t with
  | nil => rfl
  | cons k t ih =>
    obtain ⟨-, hlt, hwf⟩ := (tabWf_cons _ _ _).1 h
    refine (tabWf_cons _ _ _).2 ⟨fun e => ?_, fun f hf => ?_, ih hwf⟩
    · exact Bool.noConfusion (congrArg Nand.owes e : true = false)
    · obtain ⟨g, hg, rfl⟩ := List.mem_map.1 hf
      exact hlt g hg

theorem storeWork_allOwe : StoreWork s (allOwe s) :=
  ⟨.of_devices rfl (tabWf_owing s.nands), oweBlind_tget_owing s.nands⟩

theorem storeWork_logCommit (n : Nat) (l : List (Nat × Nat × NBlk)) : StoreWork s (logCommit s n l) := by
  induction n generalizing s l with
  | zero => exact .refl s
  | succ n ih =>
    have hone (body : List Word) : StoreWork s (submit (allOwe s) .logstate 9 body) := (storeWork_allOwe s).trans (storeWork_submit _ _ _ _)
    unfold logCommit
    extract_lets body owing s1
    split
    · exact hone body
    · exact (hone body).trans (ih s1 _)

end

end Sys2Proof.Machine
end


section
/-! SUPPORT. NAND devices that leave service or are identified, blocks whose pages move to another, and blocks that retire (R308, R309, R314). -/

namespace Sys2Proof.Machine

section
variable (s : State) (d : Nat)

/-! ### Devices and blocks read after a write -/

theorem getN_setN_self (x : Nand) (h : tabWf Nand.fresh s.nands = true) : getN (setN s d x) d = x :=
  (getN_setN _ _ _ _ h).trans (if_pos rfl)

theorem getN_setB (b : Nat) (x : NBlk) (h : tabWf Nand.fresh s.nands = true) :
    getN (setB s d b x) d = { getN s d with blks := tput NBlk.fresh (getN s d).blks b x } := getN_setN_self s d _ h

theorem getB_setB_self (b : Nat) (x : NBlk) (h : tabWf Nand.fresh s.nands = true) (hb : tabWf NBlk.fresh (getN s d).blks = true) :
    getB (setB s d b x) d b = x := by
  rw [getB, getN_setB s d b x h]
  exact (tget_tput _ _ _ _ _ hb).trans (if_pos rfl)

/-! ### A device that leaves service (R309) -/

/-- A device out of service. -/
def Nand.left (n : Nand) : Nand := { n with out := true, mounted := false, opKind := 0, want := none, cache := none, erase := [] }

/-- The state in which a device has left service, before it is reported. -/
def deviceLeft : State :=
  { setN s d (getN s d).left with hank := { s.hank with stream := s.hank.stream.filter fun t => t.dev != d } }

theorem hankFrame_deviceLeft : HankFrame s (deviceLeft s d) := .of_devices rfl (setN_wf s d _)

theorem getN_deviceLeft (h : tabWf Nand.fresh s.nands = true) : getN (deviceLeft s d) d = (getN s d).left := getN_setN_self s d _ h

theorem nandOut_leaves (hout : (getN s d).out = false) (hrec : s.boot.recStop = false) : StoreWork (deviceLeft s d) (nandOut s d) := by
  unfold nandOut
  rw [if_neg (by simp [hout]), if_neg (by simp [hrec])]
  exact ((storeWork_journal _ _ _ _).trans (storeWork_hevt _ _ _ _)).trans ((storeWork_lostDumps _ _).trans (storeWork_healthChange _ _ _ _))

/-- One that is out already stays as it was, and with the recovery engine stopped it is only reported (R428). -/
theorem nandOut_stays (h : (getN s d).out = true ∨ s.boot.recStop = true) : StoreWork s (nandOut s d) := by
  unfold nandOut
  split
  · exact .refl s
  next hout => rw [if_pos (h.resolve_left hout)]; exact storeWork_healthChange _ _ _ _

theorem nandOut_cases : StoreWork s (nandOut s d) ∨ StoreWork (deviceLeft s d) (nandOut s d) := by
  cases hout : (getN s d).out with
  | true => exact .inl (nandOut_stays s d (.inl hout))
  | false => cases hrec : s.boot.recStop with
    | true => exact .inl (nandOut_stays s d (.inr hrec))
    | false => exact .inr (nandOut_leaves s d hout hrec)

theorem hankFrame_nandOut : HankFrame s (nandOut s d) :=
  (nandOut_cases s d).elim (·.toHankFrame) fun h => (hankFrame_deviceLeft s d).trans h.toHankFrame

/-- Another device stands. -/
theorem nandOut_others {e : Nat} (he : e ≠ d) : oweBlind (getN (nandOut s d) e) = oweBlind (getN s e) :=
  (nandOut_cases s d).elim (·.dev e) fun h => (h.dev e).trans (congrArg oweBlind (getN_setN_ne s d e _ he))

theorem nandOut_out (hout : (getN s d).out = false) (hrec : s.boot.recStop = false) (h : tabWf Nand.fresh s.nands = true) :
    (getN (nandOut s d) d).out = true ∧ (getN (nandOut s d) d).mounted = false := by
  have hleft := nandOut_leaves s d hout hrec
  rw [hleft.out, hleft.mounted, getN_deviceLeft s d h]
  exact ⟨rfl, rfl⟩

/-- The device's blocks stand, and it begins no operation. -/
theorem nandOut_cells (h : tabWf Nand.fresh s.nands = true) : (getN (nandOut s d) d).blks = (getN s d).blks ∧
    ((getN s d).opKind = 0 → (getN (nandOut s d) d).opKind = 0) := by
  rcases nandOut_cases s d with hw | hw
  · exact ⟨hw.blks d, (hw.opKind d).trans⟩
  · rw [hw.blks, hw.opKind, getN_deviceLeft s d h]
    exact ⟨rfl, fun _ => rfl⟩

/-! ### Identification at the mount (R314) -/

theorem mountDev_keeps (h : fitted s d = false ∨ (getN s d).out = true) : mountDev s d = s := by
  unfold mountDev
  exact if_pos (by simpa using h)

theorem mountDev_goneOut (hfit : fitted s d = true) (hout : (getN s d).out = false) (h : geomOk s = false ∨ mirrorsGone s d = true) :
    mountDev s d = nandOut s d := by
  unfold mountDev
  rw [if_neg (by simp [hfit, hout]), if_pos (by simpa using h)]

theorem mountDev_identified (hfit : fitted s d = true) (hout : (getN s d).out = false) (hgeom : geomOk s = true)
    (hmirrors : mirrorsGone s d = false) :
    ∃ l : Tab NBlk, StoreWork (setN s d { getN s d with mounted := true, blks := l }) (mountDev s d) := by
  unfold mountDev
  rw [if_neg (by simp [hfit, hout]), if_neg (by simp [hgeom, hmirrors])]
  extract_lets n keep gone back s1
  refine ⟨back, ?_⟩
  split
  · exact .refl s1
  · exact storeWork_logCommit s1 _ _

theorem hankFrame_mountDev : HankFrame s (mountDev s d) := by
  by_cases hin : fitted s d = true ∧ (getN s d).out = false
  · by_cases hgood : geomOk s = true ∧ mirrorsGone s d = false
    · obtain ⟨l, hl⟩ := mountDev_identified s d hin.1 hin.2 hgood.1 hgood.2
      exact (hankFrame_setN s d _).trans hl.toHankFrame
    · rw [mountDev_goneOut s d hin.1 hin.2 (by simpa [or_iff_not_imp_left] using hgood)]
      exact hankFrame_nandOut s d
  · rw [mountDev_keeps s d (by simpa [or_iff_not_imp_left] using hin)]
    exact .refl s

theorem mountDev_others {e : Nat} (he : e ≠ d) : oweBlind (getN (mountDev s d) e) = oweBlind (getN s e) := by
  by_cases hin : fitted s d = true ∧ (getN s d).out = false
  · by_cases hgood : geomOk s = true ∧ mirrorsGone s d = false
    · obtain ⟨l, hl⟩ := mountDev_identified s d hin.1 hin.2 hgood.1 hgood.2
      exact (hl.dev e).trans (congrArg oweBlind (getN_setN_ne s d e _ he))
    · rw [mountDev_goneOut s d hin.1 hin.2 (by simpa [or_iff_not_imp_left] using hgood)]
      exact nandOut_others s d he
  · rw [mountDev_keeps s d (by simpa [or_iff_not_imp_left] using hin)]

/-- A fitted device in service is identified, or leaves service. -/
theorem mountDev_settles (h : tabWf Nand.fresh s.nands = true) (hfit : fitted s d = true) (hout : (getN s d).out = false)
    (hrec : s.boot.recStop = false) : (getN (mountDev s d) d).out = (!geomOk s || mirrorsGone s d) ∧
      (getN (mountDev s d) d).mounted = !(getN (mountDev s d) d).out := by
  by_cases hgood : geomOk s = true ∧ mirrorsGone s d = false
  · obtain ⟨l, hl⟩ := mountDev_identified s d hfit hout hgood.1 hgood.2
    rw [hl.out, hl.mounted, getN_setN_self s d _ h]
    simp [hgood, hout]
  · have hbad : geomOk s = false ∨ mirrorsGone s d = true := by simpa [or_iff_not_imp_left] using hgood
    rw [mountDev_goneOut s d hfit hout hbad, (nandOut_out s d hout hrec h).1, (nandOut_out s d hout hrec h).2]
    rcases hbad with hbad | hbad <;> simp [hbad]

/-! ### Pages that move to another block (R308, R309) -/

/-- The copies of some pages: their SEQ rises from a number, and KIND is 1. -/
def copiesOf (seq : Nat) (l : List NPage) : List NPage := ((List.range l.length).zip l).map fun e => { e.2 with seq := seq + e.1, kind := 1 }

theorem copiesOf_data (seq : Nat) (l : List NPage) : (copiesOf seq l).map NPage.data = l.map NPage.data := by
  unfold copiesOf
  have hsnd : ((List.range l.length).zip l).map Prod.snd = l := List.map_snd_zip (by simp)
  conv_rhs => rw [← hsnd]
  rw [List.map_map, List.map_map]
  rfl

/-- The readable pages of block b copied to block c, before the LOGSTATE. -/
def copied (b c : Nat) : State :=
  let good := (getB s d b).pages.filter fun p => !p.bad
  let s1 := countF (setB s d c { getB s d c with pages := copiesOf (getN s d).seq good }) rHnkErr 15 0 1
  setN s1 d { getN s1 d with seq := (getN s d).seq + good.length }

theorem relocate_copies (b c : Nat) (hc : leastErased s d ((freeBlocks s d).filter fun x => x ≠ b) = some c) :
    ∃ t : State, relocate s d b = some (c, t) ∧ StoreWork (copied s d b c) t := by
  unfold relocate
  rw [hc]
  exact ⟨_, rfl, storeWork_logCommit (copied s d b c) _ _⟩

theorem hankFrame_copied (b c : Nat) : HankFrame s (copied s d b c) :=
  ((hankFrame_setB s d c _).trans (hankFrame_countF _ rHnkErr 15 0 1 (by decide))).trans (hankFrame_setN _ d _)

theorem getN_copied (b c : Nat) (h : tabWf Nand.fresh s.nands = true) : getN (copied s d b c) d =
    { getN s d with
      blks := tput NBlk.fresh (getN s d).blks c
        { getB s d c with pages := copiesOf (getN s d).seq ((getB s d b).pages.filter fun p => !p.bad) }
      seq := (getN s d).seq + ((getB s d b).pages.filter fun p => !p.bad).length } := by
  unfold copied
  extract_lets good y s1
  have hwf : tabWf Nand.fresh s1.nands = true := setN_wf s d _ h
  have hget : getN s1 d = _ := getN_setB s d c _ h
  exact (getN_setN_self s1 d _ hwf).trans (congrArg (fun n : Nand => { n with seq := (getN s d).seq + good.length }) hget)

theorem copied_data (b c : Nat) (h : tabWf Nand.fresh s.nands = true) (hb : tabWf NBlk.fresh (getN s d).blks = true) :
    (getB (copied s d b c) d c).pages.map NPage.data = ((getB s d b).pages.filter fun p => !p.bad).map NPage.data := by
  rw [getB, getN_copied s d b c h]
  dsimp only
  rw [tget_tput _ _ _ _ _ hb, if_pos rfl]
  exact copiesOf_data _ _

/-- What a relocation leaves, whichever block it takes. -/
theorem relocate_keeps (b : Nat) (h : tabWf Nand.fresh s.nands = true) (hb : tabWf NBlk.fresh (getN s d).blks = true) {c : Nat} {t : State}
    (hr : relocate s d b = some (c, t)) :
    HankFrame s t ∧ tabWf NBlk.fresh (getN t d).blks = true ∧ (getN t d).opKind = (getN s d).opKind := by
  cases hleast : leastErased s d ((freeBlocks s d).filter fun x => x ≠ b) with
  | none =>
    rw [relocate, hleast] at hr
    cases hr
  | some c' =>
    obtain ⟨t', ht, hw⟩ := relocate_copies s d b c' hleast
    obtain ⟨rfl, rfl⟩ : c' = c ∧ t' = t := by simpa [ht] using hr
    rw [hw.blks, hw.opKind, getN_copied s d b c' h]
    exact ⟨(hankFrame_copied s d b c').trans hw.toHankFrame, tabWf_tput _ _ _ _ hb, rfl⟩

/-- A block's pages move to the least erased free block, and the block is to be erased. -/
theorem moveBlock_moves (b c : Nat) (h : tabWf Nand.fresh s.nands = true) (hb : tabWf NBlk.fresh (getN s d).blks = true)
    (hc : leastErased s d ((freeBlocks s d).filter fun x => x ≠ b) = some c) :
    (getN (moveBlock s d b) d).erase = (getN s d).erase ++ [b] ∧ (getN (moveBlock s d b) d).lastWl = (getN s d).lastWl ∧
      (getB (moveBlock s d b) d c).pages.map NPage.data = ((getB s d b).pages.filter fun p => !p.bad).map NPage.data := by
  obtain ⟨t, ht, hw⟩ := relocate_copies s d b c hc
  have hwf : tabWf Nand.fresh t.nands = true := hw.nandsWf ((hankFrame_copied s d b c).nandsWf h)
  have hmove : moveBlock s d b = setN t d { getN t d with erase := (getN t d).erase ++ [b] } := by simp only [moveBlock, ht]
  have hget : getN (moveBlock s d b) d = { getN t d with erase := (getN t d).erase ++ [b] } := by rw [hmove, getN_setN_self t d _ hwf]
  refine ⟨?_, ?_, ?_⟩
  · rw [hget, hw.erase, getN_copied s d b c h]
  · rw [hget, hw.lastWl, getN_copied s d b c h]
  · rw [← copied_data s d b c h hb, ← hw.getB, getB, hget, getB]

/-! ### A block that retires (R309) -/

theorem blockRetire_empties (b : Nat) (h : tabWf Nand.fresh s.nands = true) (hb : tabWf NBlk.fresh (getN s d).blks = true)
    (hrec : s.boot.recStop = false) : HankFrame s (blockRetire s d b) ∧ (getB (blockRetire s d b) d b).pages = [] ∧
      ((getN s d).opKind = 0 → (getN (blockRetire s d b) d).opKind = 0) := by
  unfold blockRetire
  rw [if_neg (by simp [hrec])]
  extract_lets x nums r s1 s2 go str h2 s3 y s4 s5 arg s6
  have h1 : HankFrame s s1 ∧ tabWf NBlk.fresh (getN s1 d).blks = true ∧ (getN s1 d).opKind = (getN s d).opKind := by
    have hr (e : Nat × State) (he : r = some e) : relocate s d b = some e := by
      simp only [r] at he
      split at he
      · cases he
      · exact he
    simp only [s1]
    cases hcase : r with
    | none => exact ⟨.refl s, hb, rfl⟩
    | some e => exact relocate_keeps s d b h hb (hr e hcase)
  obtain ⟨hframe, hblks, hkind⟩ := h1
  have hwf1 := hframe.nandsWf h
  have h26 : StoreWork s2 s6 := by
    have h23 : StoreWork s2 s3 := (HankFrame.of_devices (t := s3) rfl id).storeWork rfl
    exact h23.trans <| (storeWork_logCommit s3 _ _).trans <| (storeWork_addCounter s4 7 1).trans <|
      (storeWork_journal s5 _ _ _).trans <| (storeWork_hevt _ _ _ _).trans (storeWork_lostDumps _ nums)
  have hframe6 : HankFrame s s6 := hframe.trans ((hankFrame_setB s1 d b _).trans h26.toHankFrame)
  have hpages : (getB s6 d b).pages = [] := by
    rw [h26.getB, getB_setB_self s1 d b _ hwf1 hblks]
  have hkind6 : (getN s6 d).opKind = (getN s d).opKind := by
    rw [h26.opKind, getN_setB s1 d b _ hwf1, ← hkind]
  split
  · obtain ⟨hcells, hop⟩ := nandOut_cells s6 d (hframe6.nandsWf h)
    exact ⟨hframe6.trans (hankFrame_nandOut s6 d), by rw [getB, hcells]; exact hpages, fun h0 => hop (hkind6.trans h0)⟩
  · exact ⟨hframe6, hpages, hkind6.trans⟩

end

end Sys2Proof.Machine
end


section
/-! SUPPORT. Operations of NAND devices: what begins on an idle device, what completes at a status poll, and what fails (R307 to R309, R371). -/

namespace Sys2Proof.Machine

/-! ### Blocks and SEQ while operations begin -/

/-- From s to t operations may have begun and erases may have come to be owed: blocks and SEQ of every device stand. -/
structure CellsKept (s t : State) : Prop where
  wf : tabWf Nand.fresh s.nands = true → tabWf Nand.fresh t.nands = true
  cells : tabWf Nand.fresh s.nands = true → ∀ e : Nat, (getN t e).blks = (getN s e).blks ∧ (getN t e).seq = (getN s e).seq

theorem CellsKept.of_nands {s t : State} (h : t.nands = s.nands) : CellsKept s t where
  wf hs := by rw [h]; exact hs
  cells _ e := by rw [getN, h, getN]; exact ⟨rfl, rfl⟩

theorem CellsKept.refl (s : State) : CellsKept s s := .of_nands rfl

theorem CellsKept.trans {s t u : State} (h : CellsKept s t) (k : CellsKept t u) : CellsKept s u where
  wf hs := k.wf (h.wf hs)
  cells hs e := ⟨(k.cells (h.wf hs) e).1.trans (h.cells hs e).1, (k.cells (h.wf hs) e).2.trans (h.cells hs e).2⟩

theorem StoreWork.cellsKept {s t : State} (h : StoreWork s t) : CellsKept s t := ⟨h.nandsWf, fun _ e => ⟨h.blks e, h.seq e⟩⟩

theorem CellsKept.getB {s t : State} (h : CellsKept s t) (hs : tabWf Nand.fresh s.nands = true) (d b : Nat) : getB t d b = getB s d b := by
  rw [Machine.getB, (h.cells hs d).1, Machine.getB]

section
variable (s : State) (d : Nat)

theorem cellsKept_setN (x : Nand) (hb : x.blks = (getN s d).blks) (hq : x.seq = (getN s d).seq) : CellsKept s (setN s d x) where
  wf := setN_wf s d x
  cells hs e := by
    rw [getN_setN _ _ _ _ hs]
    split
    next he => rw [he]; exact ⟨hb, hq⟩
    next => exact ⟨rfl, rfl⟩

theorem cellsKept_startOp (kind b p : Nat) (us : List Word) : CellsKept s (startOp s d kind b p us) := cellsKept_setN s d _ rfl rfl

theorem cellsKept_setHead (b p : Nat) : CellsKept s (setHead s d b p) := cellsKept_setN s d _ rfl rfl

/-- A copy reclaimed is only marked for erasing (R310). -/
theorem cellsKept_reclaim : CellsKept s (reclaim s) := by
  unfold reclaim
  split
  · exact .refl s
  · extract_lets nums
    split
    · exact .refl s
    · refine CellsKept.trans ?_ (storeWork_entryWith _ _ _).cellsKept
      exact forAll_keeps (CellsKept s) [0, 1] _ s (.refl s) fun t e _ ht => ht.trans (cellsKept_setN t e _ rfl rfl)

theorem cellsKept_streamBlock : CellsKept s (streamBlock s) := by
  unfold streamBlock
  split
  · split
    · exact .refl s
    · split
      · exact .of_nands rfl
      · exact cellsKept_reclaim s
  · split
    · exact .of_nands rfl
    · exact cellsKept_reclaim s

theorem dPump_nands (n cap k : Nat) : (dPump n cap k s).nands = s.nands := by
  induction k generalizing s with
  | zero => rfl
  | succ k ih =>
    unfold dPump
    split
    · unfold endDRoute
      split <;> rfl
    · split
      · rfl
      · exact ih _

theorem cellsKept_streamNext : CellsKept s (streamNext s d) := by
  have hpump : CellsKept s (dPump 3 1024 4097 s) := .of_nands (dPump_nands s 3 1024 4097)
  unfold streamNext
  extract_lets s1 x s2
  have h2 : CellsKept s s2 := hpump.trans (cellsKept_streamBlock s1)
  split
  · exact hpump
  · split
    · exact h2
    · extract_lets n
      split
      · exact h2.trans (CellsKept.trans (t := setSink s2 3 { x with q := x.q.drop 512 }) (.of_nands rfl) (cellsKept_startOp _ d _ _ _ _))
      · exact h2

theorem cellsKept_nandIdle : CellsKept s (nandIdle s d) := by
  unfold nandIdle
  extract_lets n
  split
  · exact .refl s
  · split
    · exact cellsKept_startOp s d _ _ _ _
    · split
      · exact .refl s
      · exact cellsKept_startOp s d _ _ _ _
    · split
      · exact cellsKept_streamNext s d
      · exact .refl s

/-! ### What an idle device begins -/

theorem nandIdle_waits (h : s.hank.pfw ≠ 0 ∨ (getN s d).opKind ≠ 0) : nandIdle s d = s := by
  unfold nandIdle
  exact if_pos (h.imp_right .inl)

theorem nandIdle_reads (hup : nandUp s d = true) (hidle : (getN s d).opKind = 0) (hpfw : s.hank.pfw = 0) {b p : Nat}
    (hwant : (getN s d).want = some (b, p)) : nandIdle s d = startOp s d 3 b p [] := by
  unfold nandIdle
  extract_lets n
  rw [if_neg (by simp [n, hup, hidle, hpfw]), hwant]

/-! ### What completes (R305, R307, R308) -/

/-- The page under way stands in its block. -/
def programmed (r : NStream) : State :=
  setB (setN s d { getN s d with seq := (getN s d).seq + 1, opKind := 0, buf := [] }) d (getN s d).opBlk
    { getB s d (getN s d).opBlk with
      pages := (getB s d (getN s d).opBlk).pages ++ [⟨(getN s d).seq, r.num, r.pidx, 0, (getN s d).buf, false⟩] }

theorem pageDone_programs (r : NStream) (h : s.hank.stream = some r) : CellsKept (programmed s d r) (pageDone s d) := by
  unfold pageDone
  extract_lets n x fin
  split
  next hnone => cases h.symm.trans hnone
  next t ht =>
    cases h.symm.trans ht
    extract_lets y s1 h2 s2 g3 s3 link
    have h3 : CellsKept (programmed s d r) s3 := .of_nands rfl
    split
    · exact (h3.trans (cellsKept_setHead s3 d _ _)).trans (storeWork_logCommit _ _ _).cellsKept
    · exact h3

theorem programmed_cells (r : NStream) (h : tabWf Nand.fresh s.nands = true) (hb : tabWf NBlk.fresh (getN s d).blks = true) :
    (getB (programmed s d r) d (getN s d).opBlk).pages =
        (getB s d (getN s d).opBlk).pages ++ [⟨(getN s d).seq, r.num, r.pidx, 0, (getN s d).buf, false⟩] ∧
      (getN (programmed s d r) d).seq = (getN s d).seq + 1 := by
  unfold programmed
  have hwf : tabWf Nand.fresh (setN s d { getN s d with seq := (getN s d).seq + 1, opKind := 0, buf := [] }).nands = true := setN_wf s d _ h
  rw [getB_setB_self _ d _ _ hwf (by rw [getN_setN_self s d _ h]; exact hb), getN_setB _ d _ _ hwf, getN_setN_self s d _ h]
  exact ⟨rfl, rfl⟩

/-- The block under way holds nothing. -/
def erased : State :=
  setB (setN s d { getN s d with opKind := 0, erase := (getN s d).erase.filter fun b => b != (getN s d).opBlk }) d (getN s d).opBlk
    { getB s d (getN s d).opBlk with pages := [] }

theorem eraseDone_erases : StoreWork (erased s d) (eraseDone s d) := storeWork_logCommit (erased s d) _ _

theorem erased_pages (h : tabWf Nand.fresh s.nands = true) (hb : tabWf NBlk.fresh (getN s d).blks = true) :
    (getB (erased s d) d (getN s d).opBlk).pages = [] := by
  unfold erased
  rw [getB_setB_self _ d _ _ (setN_wf s d _ h) (by rw [getN_setN_self s d _ h]; exact hb)]

/-- A page lost to BCH changes the cells of its device alone (R309). -/
theorem pageLost_keeps (b p : Nat) (h : tabWf Nand.fresh s.nands = true) :
    HankFrame s (pageLost s d b p) ∧ ∃ l : Tab NBlk, oweBlind (getN (pageLost s d b p) d) = oweBlind { getN s d with blks := l } := by
  have hsame : HankFrame s s ∧ ∃ l : Tab NBlk, oweBlind (getN s d) = oweBlind { getN s d with blks := l } := ⟨.refl s, (getN s d).blks, rfl⟩
  unfold pageLost
  extract_lets x
  split
  · exact hsame
  · split
    · exact hsame
    · next y _ _ =>
      have hw := storeWork_entryWith (countF (setB s d b { x with pages := x.pages.set p { y with bad := true } }) rHnkErr 31 16 1) y.num
        fun u => setBits u 17 17 1
      exact ⟨(hankFrame_setB s d b _).trans ((hankFrame_countF _ _ _ _ _ (by decide)).trans hw.toHankFrame), _,
        (hw.dev d).trans (congrArg oweBlind (getN_setB s d b _ h))⟩

/-- A page is in the read buffer, and the device is idle. -/
theorem readDone_reads (bad : Bool) (h : tabWf Nand.fresh s.nands = true) : HankFrame s (readDone s d bad) ∧
    (getN (readDone s d bad) d).opKind = 0 ∧ (getN (readDone s d bad) d).want = none ∧
    (getN (readDone s d bad) d).cache = some ((getN s d).opBlk, (getN s d).opPage) ∧
    (bad = true → (getN (readDone s d bad) d).cacheBad = true) := by
  unfold readDone
  extract_lets n lost s1
  have hget : getN s1 d = { n with opKind := 0, want := none, cache := some (n.opBlk, n.opPage), cacheBad := lost } := getN_setN_self s d _ h
  have hlost (hbad : bad = true) : lost = true := by simp [lost, hbad]
  split
  · obtain ⟨hframe, l, hl⟩ := pageLost_keeps s1 d n.opBlk n.opPage (setN_wf s d _ h)
    rw [hget] at hl
    exact ⟨(hankFrame_setN s d _).trans hframe, (congrArg Nand.opKind hl :), (congrArg Nand.want hl :), (congrArg Nand.cache hl :),
      fun hbad => (congrArg Nand.cacheBad hl :).trans (hlost hbad)⟩
  · rw [hget]
    exact ⟨hankFrame_setN s d _, rfl, rfl, rfl, hlost⟩

/-! ### A program or an erase that fails (R309) -/

/-- The operation on the block has ended, and what it programmed is owed again. -/
theorem opFail_retires (b : Nat) (h : tabWf Nand.fresh s.nands = true) (hb : tabWf NBlk.fresh (getN s d).blks = true)
    (hrec : s.boot.recStop = false) : HankFrame s (opFail s d b) ∧ (getB (opFail s d b) d b).pages = [] ∧
      ((getN s d).opBlk = b → (getN s d).opKind = 1 ∨ (getN s d).opKind = 2 → (getN (opFail s d b) d).opKind = 0) := by
  unfold opFail
  extract_lets n hit s1 x s2
  have h2 : HankFrame s s2 ∧ (getN s2 d).blks = (getN s d).blks ∧ (hit = true → (getN s2 d).opKind = 0) := by
    have h1 : HankFrame s s1 ∧ (getN s1 d).blks = (getN s d).blks ∧ (hit = true → (getN s1 d).opKind = 0) := by
      simp only [s1]
      split
      · rw [getN_setN_self s d _ h]
        exact ⟨hankFrame_setN s d _, rfl, fun _ => rfl⟩
      next hno => exact ⟨.refl s, rfl, fun hit => absurd hit hno⟩
    simp only [s2]
    split
    · exact ⟨h1.1.trans (.of_devices rfl id), h1.2⟩
    · exact h1
  obtain ⟨hframe, hblks, hkind⟩ := h2
  obtain ⟨hretire, hpages, hidle⟩ := blockRetire_empties s2 d b (hframe.nandsWf h) (by rw [hblks]; exact hb) (by rw [hframe.boot]; exact hrec)
  exact ⟨hframe.trans hretire, hpages, fun hop hk => hidle (hkind (by rcases hk with hk | hk <;> simp [hit, n, hop, hk]))⟩

end

end Sys2Proof.Machine
end


section
/-! PROPERTY. The commands of the NAND devices: status polls, limits, retirements, patrol and wear levelling (R307 to R309, R314, R371). -/

namespace Sys2Proof.Machine

section
variable (s : State) (d : Fin 2)

/-! ### A device that is not in service -/

section
variable (hup : nandUp s d = false)
include hup

theorem exec_xspiStatusPoll_down (done : Bool) : exec (.xspiStatusPoll d done) s = .next s := if_neg (by simp [hup])

theorem exec_nandPatrol_down (blk p corr : Nat) : exec (.nandPatrol d blk p corr) s = .next s := by
  show execNandPatrol d blk p corr s = _
  exact if_pos (.inl (by simp [hup]))

theorem exec_nandBlockRetire_down (blk : Nat) : exec (.nandBlockRetire d blk) s = .next s := if_neg (by simp [hup])

theorem exec_nandWearLevel_down : exec (.nandWearLevel d) s = .next s := if_neg (by simp [hup])

theorem exec_xspiDqsTimeout_down (c : Fin 4) (hc : c.val / 2 = d.val) : exec (.xspiDqsTimeout c) s = .next s := by
  show execXspiDqsTimeout c s = _
  unfold execXspiDqsTimeout
  rw [hc]
  exact if_pos (.inl (by simp [hup]))

end

/-! ### Limits (R371) -/

/-- Identification is not overdue, and no operation is. -/
theorem exec_xspiOpTimeout_intime (hmount : s.hank.mount ≠ 1 ∨ fitted s d = false ∨ (getN s d).out = true ∨ s.ht < s.hank.mountAt + 4000000)
    (hop : nandUp s d = false ∨ (getN s d).opKind = 0 ∨ s.ht < (getN s d).opAt + opLimit (getN s d).opKind) :
    exec (.xspiOpTimeout d) s = .next s := by
  show execXspiOpTimeout d s = _
  have hno : ¬(s.hank.mount = 1 ∧ fitted s d = true ∧ (!(getN s d).out) = true ∧ s.hank.mountAt + 4000000 ≤ s.ht) := by
    rintro ⟨h1, h2, h3, h4⟩
    rcases hmount with h | h | h | h
    · exact h h1
    · simp [h] at h2
    · simp [h] at h3
    · omega
  exact (if_neg hno).trans (if_pos (hop.imp_left fun h => by simp [h]))

/-- A device that is not identified in time leaves service. -/
theorem xspiOpTimeout_unidentified (h : tabWf Nand.fresh s.nands = true) (hmount : s.hank.mount = 1) (hfit : fitted s d = true)
    (hout : (getN s d).out = false) (hrec : s.boot.recStop = false) (hlate : s.hank.mountAt + 4000000 ≤ s.ht) :
    ∃ t : State, exec (.xspiOpTimeout d) s = .next t ∧ (getN t d).out = true :=
  ⟨_, if_pos ⟨hmount, hfit, by simp [hout], hlate⟩, (nandOut_out (countF s rXspStat 63 48 1) d hout hrec h).1⟩

theorem exec_xspiOpTimeout_late (hup : nandUp s d = true) (hmount : s.hank.mount ≠ 1) (hk : (getN s d).opKind ≠ 0)
    (hlate : (getN s d).opAt + opLimit (getN s d).opKind ≤ s.ht) : exec (.xspiOpTimeout d) s =
      .next (if (getN s d).opKind = 3 then readDone (countF s rXspStat 63 48 1) d true
        else opFail (countF s rXspStat 63 48 1) d (getN s d).opBlk) := by
  show execXspiOpTimeout d s = _
  exact (if_neg fun h => hmount h.1).trans (if_neg (by simp only [hup, hk]; simpa using hlate))

/-- A count of XSPI_STAT as the Hank store's later work leaves it. -/
theorem HankFrame.xspCounted {t : State} {hi lo : Nat} (h : HankFrame (countF s rXspStat hi lo 1) t) (hR : tabWf 0 s.regs = true)
    (hw : hi = lo + 15) (hh : hi < 64) : regF t rXspStat hi lo = min (regF s rXspStat hi lo + 1) 0xFFFF := by
  rw [regF_of_reg h.xsp, regF_count16 s _ _ _ _ hR hw hh]

section
variable (hup : nandUp s d = true) (hR : tabWf 0 s.regs = true) (hN : tabWf Nand.fresh s.nands = true)
include hup hR hN

/-- A read past its limit is uncorrectable. -/
theorem xspiOpTimeout_failsRead (hmount : s.hank.mount ≠ 1) (hlate : (getN s d).opAt + opLimit (getN s d).opKind ≤ s.ht)
    (hk : (getN s d).opKind = 3) : ∃ t : State, exec (.xspiOpTimeout d) s = .next t ∧ (getN t d).cacheBad = true ∧
      (getN t d).opKind = 0 ∧ regF t rXspStat 63 48 = min (regF s rXspStat 63 48 + 1) 0xFFFF := by
  obtain ⟨hframe, hidle, -, -, hbad⟩ := readDone_reads (countF s rXspStat 63 48 1) d true hN
  refine ⟨_, exec_xspiOpTimeout_late s d hup hmount (by simp [hk]) hlate, ?_⟩
  rw [if_pos hk]
  exact ⟨hbad rfl, hidle, hframe.xspCounted s hR rfl (by decide)⟩

/-- A program or an erase past its limit has failed: its block retires. -/
theorem xspiOpTimeout_failsBlock (hb : tabWf NBlk.fresh (getN s d).blks = true) (hmount : s.hank.mount ≠ 1)
    (hlate : (getN s d).opAt + opLimit (getN s d).opKind ≤ s.ht) (hk : (getN s d).opKind = 1 ∨ (getN s d).opKind = 2)
    (hrec : s.boot.recStop = false) : ∃ t : State, exec (.xspiOpTimeout d) s = .next t ∧ (getB t d (getN s d).opBlk).pages = [] ∧
      (getN t d).opKind = 0 ∧ regF t rXspStat 63 48 = min (regF s rXspStat 63 48 + 1) 0xFFFF := by
  obtain ⟨hframe, hpages, hidle⟩ := opFail_retires (countF s rXspStat 63 48 1) d (getN s d).opBlk hN hb hrec
  refine ⟨_, exec_xspiOpTimeout_late s d hup hmount (by omega) hlate, ?_⟩
  rw [if_neg (by omega)]
  exact ⟨hpages, hidle rfl hk, hframe.xspCounted s hR rfl (by decide)⟩

/-- A read without strobe is tried once more, and is then uncorrectable (R370). -/
theorem xspiDqsTimeout_outcomes (c : Fin 4) (hc : c.val / 2 = d.val) :
    ((getN s d).opKind ≠ 3 ∨ (getN s d).opPage % 2 ≠ c.val % 2 → exec (.xspiDqsTimeout c) s = .next s) ∧
    ((getN s d).opKind = 3 → (getN s d).opPage % 2 = c.val % 2 → ∃ t : State, exec (.xspiDqsTimeout c) s = .next t ∧
      regF t rXspStat 47 32 = min (regF s rXspStat 47 32 + 1) 0xFFFF ∧
      ((getN s d).dqsTried = false → getN t d = { getN s d with dqsTried := true, opAt := s.ht }) ∧
      ((getN s d).dqsTried = true → (getN t d).cacheBad = true ∧ (getN t d).opKind = 0)) := by
  have hexec : exec (.xspiDqsTimeout c) s = execXspiDqsTimeout c s := rfl
  rw [hexec]
  unfold execXspiDqsTimeout
  rw [hc]
  constructor
  · exact fun h => if_pos (.inr h)
  · intro hk hpage
    rw [if_neg (by simp [hup, hk, hpage])]
    cases htried : (getN s d).dqsTried with
    | false =>
      have hframe := hankFrame_setN (countF s rXspStat 47 32 1) d { getN s d with dqsTried := true, opAt := s.ht }
      exact ⟨_, if_neg (by simp), hframe.xspCounted s hR rfl (by decide),
        fun _ => getN_setN_self (countF s rXspStat 47 32 1) d _ hN, fun h => by cases h⟩
    | true =>
      obtain ⟨hframe, hidle, -, -, hbad⟩ := readDone_reads (countF s rXspStat 47 32 1) d true hN
      exact ⟨_, if_pos (by simp), hframe.xspCounted s hR rfl (by decide), fun h => (by cases h), fun _ => ⟨hbad rfl, hidle⟩⟩

end

/-! ### Status polls (R307, R371) -/

theorem exec_xspiStatusPoll_up (hup : nandUp s d = true) (done : Bool) : exec (.xspiStatusPoll d done) s = .next (pollDone s d done) := if_pos hup

section
variable (hup : nandUp s d = true) (hN : tabWf Nand.fresh s.nands = true) (hb : tabWf NBlk.fresh (getN s d).blks = true)
include hup

/-- An operation that has not completed goes on. -/
theorem exec_xspiStatusPoll_busy (hk : (getN s d).opKind ≠ 0) : exec (.xspiStatusPoll d false) s = .next s := by
  rw [exec_xspiStatusPoll_up s d hup, pollDone]
  simp only [Bool.not_false, or_true, if_true]
  rw [nandIdle_waits s d (.inr hk)]

include hN

/-- An idle device begins the read that is waited for. -/
theorem xspiStatusPoll_begins (hk : (getN s d).opKind = 0) (hpfw : s.hank.pfw = 0) (b p : Nat) (hwant : (getN s d).want = some (b, p)) :
    ∃ t : State, exec (.xspiStatusPoll d true) s = .next t ∧ (getN t d).opKind = 3 ∧ (getN t d).opBlk = b ∧ (getN t d).opPage = p ∧
      (getN t d).opAt = s.ht := by
  refine ⟨startOp s d 3 b p [], ?_, ?_⟩
  · rw [exec_xspiStatusPoll_up s d hup, pollDone, if_pos (.inl hk), nandIdle_reads s d hup hk hpfw hwant]
  · rw [startOp, getN_setN_self s d _ hN]
    exact ⟨rfl, rfl, rfl, rfl⟩

/-- A read is in the buffer, and nothing begins under a power-fail warning. -/
theorem xspiStatusPoll_reads (hk : (getN s d).opKind = 3) (hpfw : s.hank.pfw ≠ 0) : ∃ t : State,
    exec (.xspiStatusPoll d true) s = .next t ∧ (getN t d).opKind = 0 ∧ (getN t d).want = none ∧
      (getN t d).cache = some ((getN s d).opBlk, (getN s d).opPage) := by
  obtain ⟨hframe, hidle, hwant, hcache, -⟩ := readDone_reads s d false hN
  refine ⟨readDone s d false, ?_, hidle, hwant, hcache⟩
  rw [exec_xspiStatusPoll_up s d hup, pollDone]
  simp only [hk, Bool.not_true, Bool.false_eq_true, or_false, OfNat.ofNat_ne_zero, if_false, OfNat.ofNat_ne_one, Nat.reduceEqDiff]
  rw [nandIdle_waits _ d (.inl (by rw [hframe.pfw]; exact hpfw))]

include hb

/-- The page programmed is its block's next. -/
theorem xspiStatusPoll_programs (hk : (getN s d).opKind = 1) (r : NStream) (hr : s.hank.stream = some r) : ∃ t : State,
    exec (.xspiStatusPoll d true) s = .next t ∧ (getB t d (getN s d).opBlk).pages =
      (getB s d (getN s d).opBlk).pages ++ [⟨(getN s d).seq, r.num, r.pidx, 0, (getN s d).buf, false⟩] ∧
      (getN t d).seq = (getN s d).seq + 1 := by
  have hwf : tabWf Nand.fresh (programmed s d r).nands = true := setN_wf _ d _ (setN_wf s d _ hN)
  have hkept := (pageDone_programs s d r hr).trans (cellsKept_nandIdle (pageDone s d) d)
  refine ⟨nandIdle (pageDone s d) d, ?_, ?_⟩
  · rw [exec_xspiStatusPoll_up s d hup, pollDone]
    simp [hk]
  · rw [hkept.getB hwf, (hkept.cells hwf d).2]
    exact programmed_cells s d r hN hb

/-- The block erased is empty. -/
theorem xspiStatusPoll_erases (hk : (getN s d).opKind = 2) :
    ∃ t : State, exec (.xspiStatusPoll d true) s = .next t ∧ (getB t d (getN s d).opBlk).pages = [] := by
  have hwf : tabWf Nand.fresh (erased s d).nands = true := setN_wf _ d _ (setN_wf s d _ hN)
  have hkept := (eraseDone_erases s d).cellsKept.trans (cellsKept_nandIdle (eraseDone s d) d)
  refine ⟨nandIdle (eraseDone s d) d, ?_, ?_⟩
  · rw [exec_xspiStatusPoll_up s d hup, pollDone]
    simp [hk]
  · rw [hkept.getB hwf]
    exact erased_pages s d hN hb

/-! ### Retirement, patrol and wear levelling (R308, R309) -/

theorem nandBlockRetire_outcomes (blk : Nat) :
    (s.integ.nBlocks ≤ blk ∨ (getB s d blk).state = 3 → exec (.nandBlockRetire d blk) s = .next s) ∧
    (blk < s.integ.nBlocks → (getB s d blk).state ≠ 3 → s.boot.recStop = false → ∃ t : State,
      exec (.nandBlockRetire d blk) s = .next t ∧ (getB t d blk).pages = []) := by
  constructor
  · intro h
    exact if_neg fun hgo => by
      obtain ⟨-, hlt, hst⟩ := hgo
      exact h.elim (fun h => by omega) hst
  · intro hlt hst hrec
    exact ⟨_, if_pos ⟨hup, hlt, hst⟩, (opFail_retires s d blk hN hb hrec).2.1⟩

/-- The patrol relocates a FULL block whose page needed more than 24 corrections. -/
theorem nandPatrol_outcomes (blk p corr : Nat) :
    (s.hank.pfw ≠ 0 ∨ (getB s d blk).pages.length ≤ p ∨ (getB s d blk).state ≠ 2 ∧ corr ≤ 32 ∨ (getN s d).erase.contains blk = true →
      exec (.nandPatrol d blk p corr) s = .next s) ∧
    (∀ c : Nat, s.hank.pfw = 0 → p < (getB s d blk).pages.length → (getB s d blk).state = 2 → (getN s d).erase.contains blk = false →
      leastErased s d ((freeBlocks s d).filter fun x => x ≠ blk) = some c → 24 < corr → corr ≤ 32 → ∃ t : State,
      exec (.nandPatrol d blk p corr) s = .next t ∧ (getN t d).erase = (getN s d).erase ++ [blk] ∧
      (getB t d c).pages.map NPage.data = ((getB s d blk).pages.filter fun y => !y.bad).map NPage.data) := by
  have hexec : exec (.nandPatrol d blk p corr) s = execNandPatrol d blk p corr s := rfl
  rw [hexec]
  unfold execNandPatrol
  extract_lets x s1
  constructor
  · intro h
    by_cases hskip : (!nandUp s d) = true ∨ s.hank.pfw ≠ 0 ∨ x.pages.length ≤ p ∨ (getN s d).erase.contains blk = true
    · exact if_pos hskip
    · obtain ⟨hst, hcorr⟩ : x.state ≠ 2 ∧ corr ≤ 32 := by tauto
      have hs1 : s1 = s := if_neg (by omega)
      rw [if_neg hskip, if_neg (fun h => hst h.1), hs1]
      rfl
  · intro c hpfw hp hst herase hc hlow hhigh
    have hs1 : s1 = s := if_neg (by omega)
    obtain ⟨hmoved, -, hdata⟩ := moveBlock_moves s d blk c hN hb hc
    refine ⟨moveBlock s d blk, ?_, hmoved, hdata⟩
    rw [if_neg (by simp only [hup, hpfw, herase]; simpa using hp), if_pos ⟨hst, .inl hlow⟩, hs1]
    rfl

/-- Wear levelling moves the least erased full block once the spread passes its limit, at most once in 2^36 ht. -/
theorem nandWearLevel_outcomes (b c : Nat)
    (hfull : leastErased s d ((blocksIn s d 2).filter fun x => !(getN s d).erase.contains x) = some b)
    (hfree : leastErased s d ((freeBlocks s d).filter fun x => x ≠ b) = some c) :
    ((eraseSpread s d ≤ regF s rHnkNandCfg 43 32 ∨ s.hank.pfw ≠ 0 ∨ ((getN s d).lastWl ≠ 0 ∧ s.ht + 1 < (getN s d).lastWl + 2 ^ 36)) →
      exec (.nandWearLevel d) s = .next s) ∧
    (regF s rHnkNandCfg 43 32 < eraseSpread s d → s.hank.pfw = 0 → (getN s d).lastWl = 0 ∨ (getN s d).lastWl + 2 ^ 36 ≤ s.ht + 1 →
      ∃ t : State, exec (.nandWearLevel d) s = .next t ∧ (getN t d).lastWl = s.ht + 1 ∧ (getN t d).erase = (getN s d).erase ++ [b]) := by
  have hexec : exec (.nandWearLevel d) s = execNandWearLevel d s := rfl
  rw [hexec]
  unfold execNandWearLevel
  extract_lets n
  constructor
  · intro h
    refine if_neg fun hgo => ?_
    obtain ⟨-, hpfw, hspread, hwl⟩ := hgo
    rcases h with h | h | ⟨h, hearly⟩
    · exact absurd hspread (by omega)
    · exact h hpfw
    · exact hwl.elim h fun hwl => absurd hearly (Nat.not_lt.2 hwl)
  · intro hspread hpfw hwl
    have hwf : tabWf Nand.fresh (setN s d { n with lastWl := s.ht + 1 }).nands = true := setN_wf s d _ hN
    have hget : getN (setN s d { n with lastWl := s.ht + 1 }) d = { n with lastWl := s.ht + 1 } := getN_setN_self s d _ hN
    have hblks (x : Nat) : getB (setN s d { n with lastWl := s.ht + 1 }) d x = getB s d x := by rw [getB, hget, getB]
    have hfree' : leastErased (setN s d { n with lastWl := s.ht + 1 }) d
        ((freeBlocks (setN s d { n with lastWl := s.ht + 1 }) d).filter fun x => x ≠ b) = some c := by
      rw [← hfree]
      unfold leastErased freeBlocks blockFree
      simp only [hblks]
      rfl
    obtain ⟨herase, hlast, -⟩ := moveBlock_moves _ d b c hwf (by rw [hget]; exact hb) hfree'
    rw [hget] at herase hlast
    refine ⟨moveBlock (setN s d { n with lastWl := s.ht + 1 }) d b, ?_, hlast, herase⟩
    rw [if_pos ⟨hup, hpfw, hspread, hwl⟩, hfull]
    rfl

end

end

end Sys2Proof.Machine
end


section
/-! PROPERTY. The mount of NAND, MRAM banks that retire, HNK_PIN and the read window (R309, R310, R314, R316, R317). -/

namespace Sys2Proof.Machine

section
variable (s : State)

/-! ### The mount of NAND (R314) -/

theorem exec_nandMount_waits (h : s.hank.mount ≠ 1) : exec .nandMount s = .next s := if_neg h

/-- Each fitted device in service is identified, or leaves service. -/
theorem nandMount_settles (hN : tabWf Nand.fresh s.nands = true) (hmount : s.hank.mount = 1) : ∃ t : State, exec .nandMount s = .next t ∧
    t.hank.mount = 2 ∧ ∀ d : Nat, d < 2 → fitted s d = true → (getN s d).out = false → s.boot.recStop = false →
      ((getN t d).out = (!geomOk s || mirrorsGone s d)) ∧ ((getN t d).mounted = !(getN t d).out) := by
  refine ⟨_, if_pos hmount, rfl, fun d hd hfit hout hrec => ?_⟩
  have hframe := hankFrame_mountDev s 0
  show (getN (mountDev (mountDev s 0) 1) d).out = _ ∧ (getN (mountDev (mountDev s 0) 1) d).mounted = !(getN (mountDev (mountDev s 0) 1) d).out
  obtain rfl | rfl : d = 0 ∨ d = 1 := by omega
  · have hdev := mountDev_others (mountDev s 0) 1 (e := 0) (by decide)
    have hmounted : (getN (mountDev (mountDev s 0) 1) 0).mounted = (getN (mountDev s 0) 0).mounted := (congrArg Nand.mounted hdev :)
    have hgone : (getN (mountDev (mountDev s 0) 1) 0).out = (getN (mountDev s 0) 0).out := (congrArg Nand.out hdev :)
    rw [hmounted, hgone]
    exact mountDev_settles s 0 hN hfit hout hrec
  · have hout0 : (getN (mountDev s 0) 1).out = false := (congrArg Nand.out (mountDev_others s 0 (e := 1) (by decide)) :).trans hout
    have hfit0 : fitted (mountDev s 0) 1 = true := by rw [fitted, hframe.integ]; exact hfit
    have hgeom0 : geomOk (mountDev s 0) = geomOk s := by rw [geomOk, hframe.integ, geomOk]
    rw [← hgeom0, ← hframe.mirrors]
    exact mountDev_settles _ 1 (hframe.nandsWf hN) hfit0 hout0 (by rw [hframe.boot]; exact hrec)

/-! ### MRAM banks that retire (R316) -/

theorem post_regs_wf (i : Nat) (st : Status) (n : Nat) (h : tabWf 0 s.regs = true) : tabWf 0 (post s i st n).regs = true := by
  rcases postArrival_eq s ⟨i, st, BitVec.ofNat 32 n, none, [], 0, none⟩ with he | he | he <;> rw [post, he]
  · exact h
  · exact countF_wf _ _ _ _ _ h
  · exact h

/-- A bank out of service: the rings closed up, and no line or register changed. -/
theorem bankRetire_leaves (b : Nat) : (bankRetire s b).hank.retired = s.hank.retired ++ [b] ∧ (bankRetire s b).evPend = s.evPend ∧
    (tabWf 0 s.regs = true → tabWf 0 (bankRetire s b).regs = true) := by
  unfold bankRetire
  extract_lets h k kept lost total s1
  split
  · exact ⟨rfl, rfl, id⟩
  · have hw := storeWork_addCounter s1 8 lost
    exact ⟨hw.retired, addCounter_evPend s1 8 lost, hw.regsWf⟩

/-- With no bank in service nothing is left to commit. -/
theorem commitsEnd_ends : (commitsEnd s).hank.retired = s.hank.retired ∧ (commitsEnd s).evPend = s.evPend ∧
    (tabWf 0 s.regs = true → tabWf 0 (commitsEnd s).regs = true) ∧
    (banks s = [] → (commitsEnd s).hank.queue = [] ∧ (commitsEnd s).hank.inq = []) := by
  unfold commitsEnd
  split
  · extract_lets
    have hone (t : State) (c : Commit) : OutcomeWork t (c.opId.elim t fun id => post t id .noagent 0) := by
      cases c.opId with
      | none => exact .refl t
      | some id => exact outcomeWork_postArrival ..
    have hwork := OutcomeWork.forAll (s.hank.queue ++ s.hank.inq) _ { s with hank := { s.hank with queue := [], inq := [] } } hone
    refine ⟨by rw [hwork.eq], by rw [hwork.eq], fun hs => ?_, fun _ => by rw [hwork.eq]; exact ⟨rfl, rfl⟩⟩
    refine forAll_keeps (fun t => tabWf 0 t.regs = true) _ _ _ hs fun t c _ ht => ?_
    cases c.opId with
    | none => exact ht
    | some id => exact post_regs_wf t id _ _ ht
  next hsome => exact ⟨rfl, rfl, id, fun h => by simp [h] at hsome⟩

theorem mramGone_outside (b : Nat) (h : b ∉ banks s) : mramGone s b = s := by
  unfold mramGone
  exact if_pos (by simpa using h)

/-- A bank in service that retires, seen before the commits that end. -/
theorem mramGone_retiring (b : Nat) (hin : b ∈ banks s) (hrec : s.boot.recStop = false) : ∃ u t : State,
    HankFrame (bankRetire s b) u ∧ HankFrame (healthChange u 11 b true) t ∧ mramGone s b = commitsEnd t := by
  unfold mramGone
  rw [if_neg (by simpa using hin), if_neg (by simp [hrec])]
  extract_lets s1 s2 s3
  refine ⟨s1, s3, ?_, ?_, rfl⟩
  · exact ((storeWork_journal _ _ _ _).trans <| (storeWork_hevt _ _ _ _).trans (storeWork_addCounter _ 6 1)).toHankFrame
  · refine forAll_keeps (HankFrame s2) [0, 1] _ s2 (.refl s2) fun t d _ ht => ?_
    split
    · exact ht.trans (hankFrame_nandOut t d)
    · exact ht

theorem mramGone_retires (b : Nat) (hP : tabWf 0 s.evPend = true) (hin : b ∈ banks s) (hrec : s.boot.recStop = false) :
    (mramGone s b).hank.retired = s.hank.retired ++ [b] ∧ LineRaised (mramGone s b) 5 ∧
      (banks (mramGone s b) = [] → (mramGone s b).hank.queue = [] ∧ (mramGone s b).hank.inq = []) := by
  obtain ⟨u, t, hu, ht, hgone⟩ := mramGone_retiring s b hin hrec
  obtain ⟨hretired, hpend, -⟩ := bankRetire_leaves s b
  obtain ⟨hkept, hlines, -, hempty⟩ := commitsEnd_ends t
  have hPu : tabWf 0 u.evPend = true := hu.pendWf (by rw [hpend]; exact hP)
  have hraised : LineRaised t 5 := ht.lines (healthChange_evPend_wf u 11 b true hPu) 5 (healthChange_raises u 11 b true hPu)
  rw [hgone, hkept, ht.retired, (storeWork_healthChange u 11 b true).retired, hu.retired, hretired]
  refine ⟨rfl, lineRaised_of_evPend hraised hlines, fun hnone => hempty ?_⟩
  rw [banks, hkept] at hnone
  exact hnone

theorem mramGone_regs_wf (b : Nat) (h : tabWf 0 s.regs = true) : tabWf 0 (mramGone s b).regs = true := by
  by_cases hin : b ∈ banks s
  · cases hrec : s.boot.recStop with
    | false =>
      obtain ⟨u, t, hu, ht, hgone⟩ := mramGone_retiring s b hin hrec
      obtain ⟨-, -, hwf⟩ := bankRetire_leaves s b
      obtain ⟨-, -, hend, -⟩ := commitsEnd_ends t
      rw [hgone]
      exact hend (ht.regsWf ((storeWork_healthChange u 11 b true).regsWf (hu.regsWf (hwf h))))
    | true =>
      unfold mramGone
      rw [if_neg (by simpa using hin), if_pos hrec]
      exact (storeWork_healthChange s 11 b true).regsWf h
  · rw [mramGone_outside s b hin]
    exact h

theorem mramBankRetire_outcomes (hP : tabWf 0 s.evPend = true) (b : Fin 4) :
    (b.val ∉ banks s → exec (.mramBankRetire b) s = .next s) ∧ (b.val ∈ banks s → s.boot.recStop = false → ∃ t : State,
      exec (.mramBankRetire b) s = .next t ∧ t.hank.retired = s.hank.retired ++ [b.val] ∧ LineRaised t 5 ∧
      (banks t = [] → t.hank.queue = [] ∧ t.hank.inq = [])) :=
  ⟨fun hno => congrArg Host.Outcome.next (mramGone_outside s b hno), fun hin hrec => ⟨mramGone s b, rfl, mramGone_retires s b hP hin hrec⟩⟩

/-! ### HNK_PIN (R310) -/

theorem hnkPinWrite_outcomes (who : Who) (v : Word) :
    (mayReg s who rHnkPin true v = false → exec (.hnkPinWrite who v) s = .next s) ∧
    (∀ e : List Word, mayReg s who rHnkPin true v = true → newestEntry s (bits v 31 0) = some e → exec (.hnkPinWrite who v) s =
      .next (submit s .dindex 9 (e.set 0 (setBits (e.getD 0 0) 23 23 (bits v 32 32))))) ∧
    (mayReg s who rHnkPin true v = true → newestEntry s (bits v 31 0) = none → exec (.hnkPinWrite who v) s = .next s) := by
  have hexec (hmay : mayReg s who rHnkPin true v = true) : exec (.hnkPinWrite who v) s = .next (pinWrite s v) := if_pos hmay
  refine ⟨fun hno => if_neg (by simp [hno]), fun e hmay he => ?_, fun hmay hnone => ?_⟩
  · rw [hexec hmay, pinWrite, entryWith, he]
  · rw [hexec hmay, pinWrite, entryWith, hnone]

/-! ### The read window (R317) -/

/-- An MRAM unit that is shown as it is stored reads as uncorrectable just when it is marked so. -/
theorem hankUnit_ecc (space a k : Nat) (h : hankAddr s space a = some k) :
    (hankUnit s space a).2 = if s.hank.bad.contains k then 2 else 0 := by
  have hstored (hs : hankUnit s space a = match hankAddr s space a with
      | none => (0, 3)
      | some k => if s.hank.bad.contains k then (Config.badUnit k, 2) else (tget 0 s.hank.units k, 0)) :
      (hankUnit s space a).2 = if s.hank.bad.contains k then 2 else 0 := by
    rw [hs, h]
    dsimp only
    split <;> rfl
  match space with
  | 0 => exact hstored rfl
  | 1 => cases h
  | 2 => cases h
  | 3 => exact hstored rfl
  | 4 => exact hstored rfl
  | 5 => cases h
  | 6 => exact hstored rfl
  | n + 7 => cases h

/-- ADDR advanced and ECC shown: the state a read of HNK_RD_DATA leaves. -/
def windowNext (k : Nat) (sel : Word) (ecc : Nat) : State :=
  regPut { s with hank := { s.hank with rdEcc := ecc } } k rHnkRdSel (setBits sel 59 0 (bits sel 59 0 + 1))

/-- A device of which a page is waited for. -/
def wanted (d b p : Nat) : State := setN s d { getN s d with want := some (b, p) }

/-- A page waited for is read at once by an idle device, and no register changes. -/
theorem nandIdle_fetches (d b p : Nat) (hN : tabWf Nand.fresh s.nands = true) (hup : nandUp s d = true) :
    (nandIdle (wanted s d b p) d).regs = s.regs ∧ (getN (nandIdle (wanted s d b p) d) d).want = some (b, p) ∧
      ((getN s d).opKind = 0 → s.hank.pfw = 0 → (getN (nandIdle (wanted s d b p) d) d).opKind = 3 ∧
        (getN (nandIdle (wanted s d b p) d) d).opBlk = b ∧ (getN (nandIdle (wanted s d b p) d) d).opPage = p) := by
  have hget : getN (wanted s d b p) d = { getN s d with want := some (b, p) } := getN_setN_self s d _ hN
  by_cases hidle : (getN s d).opKind = 0 ∧ s.hank.pfw = 0
  · have hup' : nandUp (wanted s d b p) d = true := by rw [nandUp, hget]; exact hup
    rw [nandIdle_reads (wanted s d b p) d hup' (by rw [hget]; exact hidle.1) hidle.2 (by rw [hget]), startOp,
      getN_setN_self (wanted s d b p) d _ (setN_wf s d _ hN), hget]
    exact ⟨rfl, rfl, fun _ _ => ⟨rfl, rfl, rfl⟩⟩
  · rw [nandIdle_waits (wanted s d b p) d (by rw [hget]; exact (not_and_or.1 hidle).symm), hget]
    exact ⟨rfl, rfl, fun h0 h1 => absurd ⟨h0, h1⟩ hidle⟩

/-- A unit found uncorrectable may retire its bank. -/
theorem mramError_regs_wf (a : Nat) (hR : tabWf 0 s.regs = true) : tabWf 0 (mramError s a).regs = true := by
  unfold mramError
  extract_lets b last h s1
  have h1 : tabWf 0 s1.regs = true := countF_wf _ _ _ _ _ hR
  split
  · exact mramGone_regs_wf s1 b h1
  · exact h1

section
variable (who : Who) (sel : Word) (hsel : sel = regGet s (keyWho who rHnkRdSel) rHnkRdSel)

theorem exec_hnkRdDataRead_refused (hmay : mayReg s who rHnkRdData false 0 = false) (err : ReadErr) :
    exec (.hnkRdDataRead ⟨who, err⟩) s = .next s := if_neg (ne_true_of_eq_false hmay)

variable (hmay : mayReg s who rHnkRdData false 0 = true)
include hsel hmay

/-- A unit that is none of MRAM's own. -/
theorem exec_hnkRdDataRead_shown (hspace : bits sel 63 60 ≠ 5) (err : ReadErr) (hnone : hankAddr s (bits sel 63 60) (bits sel 59 0) = none) :
    exec (.hnkRdDataRead ⟨who, err⟩) s =
      .next (windowNext s (keyWho who rHnkRdSel) sel (hankUnit s (bits sel 63 60) (bits sel 59 0)).2) := by
  refine (if_pos hmay).trans (congrArg Host.Outcome.next ?_)
  unfold hankRead
  simp only [← hsel]
  rw [if_neg hspace, hnone]
  rfl

/-- A unit of MRAM, and what the read found wrong with it. -/
theorem exec_hnkRdDataRead_stored (hspace : bits sel 63 60 ≠ 5) (err : ReadErr) (a : Nat)
    (ha : hankAddr s (bits sel 63 60) (bits sel 59 0) = some a) : exec (.hnkRdDataRead ⟨who, err⟩) s =
      .next (windowNext (if err.val = 2 ∨ s.hank.bad.contains a = true then mramError s a else s) (keyWho who rHnkRdSel) sel
        (if err.val = 2 ∨ a ∈ s.hank.bad then 2 else err.val)) := by
  refine (if_pos hmay).trans (congrArg Host.Outcome.next ?_)
  unfold hankRead
  simp only [← hsel]
  rw [if_neg hspace, ha]
  dsimp only
  rw [hankUnit_ecc { s with hank := { s.hank with bad := if err.val = 2 then a :: s.hank.bad else s.hank.bad } } _ _ a ha]
  by_cases herr : err.val = 2
  · simp [herr, windowNext]
  · by_cases hbad : a ∈ s.hank.bad <;> simp [herr, hbad, windowNext]

/-- A page that is not in the buffer is fetched; ADDR stays. -/
theorem exec_hnkRdDataRead_fetch (hspace : bits sel 63 60 = 5) (hup : nandUp s (bits sel 59 59) = true)
    (hblk : bits sel 48 32 < s.integ.nBlocks) (hpage : bits sel 23 16 < s.integ.nPages)
    (hcache : (getN s (bits sel 59 59)).cache ≠ some (bits sel 48 32, bits sel 23 16)) (hwant : (getN s (bits sel 59 59)).want = none)
    (err : ReadErr) : exec (.hnkRdDataRead ⟨who, err⟩) s =
      .next (nandIdle (wanted s (bits sel 59 59) (bits sel 48 32) (bits sel 23 16)) (bits sel 59 59)) := by
  refine (if_pos hmay).trans (congrArg Host.Outcome.next ?_)
  unfold hankRead
  simp only [← hsel]
  rw [if_pos hspace, if_neg (by simp only [hup]; simp; omega), if_neg hcache, hwant]
  rfl

/-- Outside NAND a read advances ADDR, and an uncorrectable MRAM unit shows as such. -/
theorem hnkRdDataRead_advances (hR : tabWf 0 s.regs = true) (hspace : bits sel 63 60 ≠ 5) (err : ReadErr) : ∃ t : State,
    exec (.hnkRdDataRead ⟨who, err⟩) s = .next t ∧
    regGet t (keyWho who rHnkRdSel) rHnkRdSel = setBits sel 59 0 (bits sel 59 0 + 1) ∧
    (hankAddr s (bits sel 63 60) (bits sel 59 0) = none → t.nands = s.nands ∧
      t.hank = { s.hank with rdEcc := (hankUnit s (bits sel 63 60) (bits sel 59 0)).2 }) ∧
    ∀ a : Nat, hankAddr s (bits sel 63 60) (bits sel 59 0) = some a →
      t.hank.rdEcc = (if err.val = 2 ∨ a ∈ s.hank.bad then 2 else err.val) ∧
      (err.val ≠ 2 → a ∉ s.hank.bad → t.nands = s.nands ∧ t.hank = { s.hank with rdEcc := err.val }) := by
  cases haddr : hankAddr s (bits sel 63 60) (bits sel 59 0) with
  | none =>
    exact ⟨_, exec_hnkRdDataRead_shown s who sel hsel hmay hspace err haddr, regGet_regPut_self _ _ _ _ hR, fun _ => ⟨rfl, rfl⟩,
      fun a ha => by cases ha⟩
  | some a =>
    refine ⟨_, exec_hnkRdDataRead_stored s who sel hsel hmay hspace err a haddr, regGet_regPut_self _ _ _ _ ?_, fun h => (by cases h),
      fun b hb => ?_⟩
    · split
      · exact mramError_regs_wf s a hR
      · exact hR
    · obtain rfl : a = b := Option.some.inj hb
      refine ⟨rfl, fun herr hgood => ?_⟩
      have hno : ¬(err.val = 2 ∨ s.hank.bad.contains a = true) := by simp [herr, hgood]
      rw [if_neg hno, if_neg (by simp [herr, hgood])]
      exact ⟨rfl, rfl⟩

/-- The fetch begins at once on an idle device. -/
theorem hnkRdDataRead_fetches (hN : tabWf Nand.fresh s.nands = true) (d : Nat) (hspace : bits sel 63 60 = 5) (hd : d = bits sel 59 59)
    (hup : nandUp s d = true) (hblk : bits sel 48 32 < s.integ.nBlocks) (hpage : bits sel 23 16 < s.integ.nPages)
    (hcache : (getN s d).cache ≠ some (bits sel 48 32, bits sel 23 16)) (hwant : (getN s d).want = none) (err : ReadErr) : ∃ t : State,
    exec (.hnkRdDataRead ⟨who, err⟩) s = .next t ∧ t.regs = s.regs ∧ (getN t d).want = some (bits sel 48 32, bits sel 23 16) ∧
      ((getN s d).opKind = 0 → s.hank.pfw = 0 → (getN t d).opKind = 3 ∧ (getN t d).opBlk = bits sel 48 32 ∧
        (getN t d).opPage = bits sel 23 16) := by
  refine ⟨nandIdle (wanted s d (bits sel 48 32) (bits sel 23 16)) d, ?_, ?_⟩
  · rw [hd]
    exact exec_hnkRdDataRead_fetch s who sel hsel hmay hspace (hd ▸ hup) hblk hpage (hd ▸ hcache) (hd ▸ hwant) err
  · exact nandIdle_fetches s d _ _ hN hup

end

end

end Sys2Proof.Machine
end


section
/-! SUPPORT. Leases that end and Whorls that are reset and loaded leave hub time, the Hank store, the declarations, DMP_STAT and the
well-formedness of the registers (R264, R265, R281). -/

namespace Sys2Proof.Machine

/-! ### What the end of a lease leaves -/

/-- Hub time, the Hank store, and the declarations but for the dump program's work. -/
def sessionView (s : State) : Nat × Hank × Hang := (s.ht, s.hank, { s.hang with work := DumpWork.fresh })

/-- From s to t leases and sessions have ended, or Whorls have been loaded. -/
structure SessionWork (s t : State) : Prop where
  view : sessionView t = sessionView s
  dmpStat : reg t rDmpStat = reg s rDmpStat
  regsWf : tabWf 0 s.regs = true → tabWf 0 t.regs = true

/-- The pending lines stand too. -/
structure LeaseWork (s t : State) : Prop extends SessionWork s t where
  evPend : t.evPend = s.evPend

theorem SessionWork.trans {s t u : State} (h : SessionWork s t) (k : SessionWork t u) : SessionWork s u where
  view := k.view.trans h.view
  dmpStat := k.dmpStat.trans h.dmpStat
  regsWf hs := k.regsWf (h.regsWf hs)

theorem SessionWork.ht {s t : State} (h : SessionWork s t) : t.ht = s.ht := congrArg Prod.fst h.view

theorem SessionWork.hank {s t : State} (h : SessionWork s t) : t.hank = s.hank := congrArg (fun v => v.2.1) h.view

theorem SessionWork.hang {s t : State} (h : SessionWork s t) :
    ({ t.hang with work := DumpWork.fresh } : Hang) = { s.hang with work := DumpWork.fresh } := congrArg (fun v => v.2.2) h.view

theorem LeaseWork.trans {s t u : State} (h : LeaseWork s t) (k : LeaseWork t u) : LeaseWork s u :=
  ⟨h.toSessionWork.trans k.toSessionWork, k.evPend.trans h.evPend⟩

/-- Changes elsewhere in the state. -/
theorem SessionWork.of_regs {s t : State} (hv : sessionView t = sessionView s) (hr : t.regs = s.regs) : SessionWork s t where
  view := hv
  dmpStat := by rw [reg, regGet, hr, reg, regGet]
  regsWf hs := by rw [hr]; exact hs

theorem LeaseWork.of_regs {s t : State} (hv : sessionView t = sessionView s) (hp : t.evPend = s.evPend) (hr : t.regs = s.regs) :
    LeaseWork s t := ⟨.of_regs hv hr, hp⟩

theorem LeaseWork.refl (s : State) : LeaseWork s s := .of_regs rfl rfl rfl

theorem LeaseWork.forAll {α : Type} (l : List α) (f : State → α → State) (s : State) (h : ∀ t a, LeaseWork t (f t a)) :
    LeaseWork s (Machine.forAll l f s) :=
  forAll_keeps (LeaseWork s) l f s (.refl s) fun t a _ ht => ht.trans (h t a)

theorem SessionWork.forAll {α : Type} (l : List α) (f : State → α → State) (s : State) (h : ∀ t a, SessionWork t (f t a)) :
    SessionWork s (Machine.forAll l f s) :=
  forAll_keeps (SessionWork s) l f s (.of_regs rfl rfl) fun t a _ ht => ht.trans (h t a)

theorem LeaseWork.ite {c : Prop} [Decidable c] {s a b : State} (ha : LeaseWork s a) (hb : LeaseWork s b) : LeaseWork s (if c then a else b) := by
  split
  · exact ha
  · exact hb

theorem LeaseWork.iteSnd {α : Type} {c : Prop} [Decidable c] {s : State} {a b : α × State} (ha : LeaseWork s a.2) (hb : LeaseWork s b.2) :
    LeaseWork s (if c then a else b).2 := by
  split
  · exact ha
  · exact hb

/-- More changes elsewhere in the state. -/
theorem SessionWork.after {s t u : State} (h : SessionWork s t) (hv : sessionView u = sessionView t) (hr : u.regs = t.regs) :
    SessionWork s u := h.trans (.of_regs hv hr)

section
variable (s : State)

/-- A register of another key. -/
theorem leaseWork_regPut (k o : Nat) (v : Word) (h : rDmpStat ≠ k) : LeaseWork s (regPut s k o v) where
  view := rfl
  dmpStat := regGet_regPut_ne _ _ _ _ _ _ h
  regsWf := regPut_wf s k o v
  evPend := rfl

/-- An object's copy of a register. -/
theorem leaseWork_keyObj (n o : Nat) (v : Word) : LeaseWork s (regPut s (keyObj n o) o v) :=
  leaseWork_regPut s _ o v (by unfold keyObj rDmpStat; omega)

theorem leaseWork_countObj (n o hi lo k : Nat) : LeaseWork s (countObj s n o hi lo k) := leaseWork_keyObj s n o _

/-! ### Agent registers written at a lease's end -/

theorem leaseWork_setAg (i r : Nat) (v : Word) : LeaseWork s (setAg s i r v) := .of_regs rfl rfl rfl

section
variable (f : Nat)

theorem leaseWork_setCard (x : Card) : LeaseWork s (setCard s f x) := .of_regs rfl rfl rfl

theorem leaseWork_driveTap (i : Nat) (en : Bool) (slot : Nat) : LeaseWork s (driveTap s i en slot) := .of_regs rfl rfl rfl

theorem leaseWork_closeWindow (code : Nat) : LeaseWork s (closeWindow s f code) := by
  unfold closeWindow
  extract_lets x
  split
  next =>
    split
    · exact leaseWork_setCard s f _
    · extract_lets inc cov wseq s1 s2
      have h2 : LeaseWork s s2 := (leaseWork_setAg s _ _ _).trans (.ite (leaseWork_countObj s1 f _ _ _ _) (.refl s1))
      have hend (z : Card) : LeaseWork s (setCard s2 f z) := h2.trans (leaseWork_setCard s2 f z)
      exact .ite (hend _) <| .ite ((hend _).trans (leaseWork_countObj _ f _ _ _ _)) (hend _)
  next => exact leaseWork_setCard s f _

theorem leaseWork_selectTap (sel : Option (Nat × Nat)) : LeaseWork s (selectTap s f sel) := by
  unfold selectTap
  extract_lets x s1 s2
  have h1 : LeaseWork s s1 := by
    simp only [s1]
    split
    · exact leaseWork_driveTap s _ _ _
    · exact .refl s
  have h2 : LeaseWork s1 s2 := by
    simp only [s2]
    split
    · exact leaseWork_driveTap s1 _ _ _
    · exact .refl s1
  exact (h1.trans h2).trans (leaseWork_setCard s2 f _)

theorem leaseWork_redrive : LeaseWork s (redrive s f) := by
  unfold redrive
  split
  · exact leaseWork_driveTap s _ _ _
  · exact .refl s

theorem leaseWork_settleCard : LeaseWork s (settleCard s f) := by
  unfold settleCard
  dsimp only
  split
  · exact .refl s
  · split
    · exact .ite (.refl s) (leaseWork_selectTap s f _)
    · exact .ite (leaseWork_redrive s f) <| (LeaseWork.ite (leaseWork_closeWindow s f 3) (.refl s)).trans (leaseWork_selectTap _ f _)

end

section
variable (i : Nat)

theorem leaseWork_setS (x : Site) : LeaseWork s (setS s i x) := .of_regs rfl rfl rfl

theorem leaseWork_setF (x : Flyer) : LeaseWork s (setF s i x) := .of_regs rfl rfl rfl

theorem leaseWork_setAgNext (r : Nat) (v : Word) : LeaseWork s (setAgNext s i r v) :=
  (LeaseWork.ite (.refl s) (leaseWork_setS s i _)).trans (leaseWork_setAg (agHold s i r) i r v)

theorem leaseWork_setFlyNext (c r : Nat) (v : Word) : LeaseWork s (setFlyNext s c r v) := by
  unfold setFlyNext
  extract_lets x s1
  have h1 : LeaseWork s s1 := .ite (.refl s) (leaseWork_setF s c _)
  exact h1.trans (.of_regs rfl rfl rfl)

theorem leaseWork_xtEvent (k ch delay : Nat) : LeaseWork s (xtEvent s k ch delay) := by
  unfold xtEvent
  split
  · exact .refl s
  · exact .ite (.refl s) (leaseWork_setF s _ _)

theorem leaseWork_agWrite (issuer r : Nat) (v : Word) : LeaseWork s (agWrite s i issuer r v).2 := by
  unfold agWrite
  split
  next => exact .refl s
  next l _ =>
    refine .iteSnd (.refl s) <| .iteSnd (.of_regs rfl rfl rfl) <| .iteSnd (.iteSnd (.refl s) (leaseWork_setS s i _)) <|
      .iteSnd (.forAll _ _ _ fun t n => leaseWork_xtEvent t _ n 2) <| .iteSnd (leaseWork_setFlyNext s _ _ _) <|
      .iteSnd (leaseWork_setAgNext s i _ _) <| .iteSnd (.iteSnd (.refl s) (leaseWork_setAgNext s i _ _)) <| .iteSnd ?settle <|
      .iteSnd ((leaseWork_setAgNext s i r (l.write (ag s i r) v)).trans (leaseWork_setS _ i _)) <|
      .iteSnd ?counter (leaseWork_setAgNext s i _ _)
    case settle =>
      refine (leaseWork_setAg s i r (l.write (ag s i r) v)).trans ?_
      cases flyerOf s i with
      | none => exact .refl _
      | some f => exact leaseWork_settleCard _ f
    case counter => exact (LeaseWork.ite (leaseWork_setAg s i _ _) (.refl s)).trans (leaseWork_setAg _ i _ _)

end

/-! ### Leases and sessions -/

/-- The dump route ends where it is the unit's end. -/
theorem leaseWork_endDRoute : LeaseWork s (endDRoute s) := by
  unfold endDRoute
  split
  · exact ⟨⟨rfl, reg_setReg_ne _ _ _ _ (by decide), setRegF_wf { s with funnel := { s.funnel with dEnd := false } } _ _ _ _⟩, rfl⟩
  · exact .refl s

theorem leaseWork_leaseReset (req : Word) : LeaseWork s (leaseReset s req) := by
  unfold leaseReset
  extract_lets u c funnel
  split
  · exact .forAll _ _ _ fun t i => leaseWork_agWrite t i _ _ _
  · exact leaseWork_agWrite s _ _ _ _
  · exact leaseWork_keyObj s _ _ _
  · exact LeaseWork.trans (t := { s with funnel := { s.funnel with dEnd := true } }) (.of_regs rfl rfl rfl) (leaseWork_endDRoute _)
  · exact .of_regs rfl rfl rfl
  · exact .refl s

theorem leaseWork_wakeOwnerGone (code : Nat) (req : Word) : LeaseWork s (wakeOwnerGone s code req) :=
  .forAll _ _ _ fun t _ => .forAll _ _ t fun _ _ => .of_regs rfl rfl rfl

theorem leaseWork_leaseEnd (w h : Nat) : LeaseWork s (leaseEnd s w h) := by
  unfold leaseEnd
  split
  · exact .refl s
  next l _ =>
    have hset : LeaseWork s (setLease s w h none) := .of_regs rfl rfl rfl
    exact (hset.trans (leaseWork_wakeOwnerGone _ (64 * w + h) l.req)).trans (leaseWork_leaseReset _ l.req)

theorem sessionWork_hevt (c a : Nat) (pay : List Word) : SessionWork s (hevt s c a pay) := by
  rw [hevt_eq]
  exact .of_regs rfl rfl

theorem sessionWork_leaseLapse (w h cause : Nat) : SessionWork s (leaseLapse s w h cause) := by
  unfold leaseLapse
  split
  · exact .of_regs rfl rfl
  · have hraise : SessionWork s (raiseLine (leaseEnd s w h) 10) := (leaseWork_leaseEnd s w h).toSessionWork.after rfl rfl
    exact hraise.trans (sessionWork_hevt _ _ _ _)

theorem sessionWork_endSession (w cause : Nat) : SessionWork s (endSession s w cause) := by
  have hset : SessionWork s (setW s w { getW s w with tk := [] }) := .of_regs rfl rfl
  exact hset.trans (.forAll (List.range 64) _ _ fun t h => sessionWork_leaseLapse t w h cause)

/-- A Whorl reset, once the dump it ran is broken off. -/
theorem sessionWork_whorlReset (w cause : Nat) : SessionWork (dumpBroken s w) (whorlReset s w cause) := by
  have hend := sessionWork_endSession (dumpBroken s w) w cause
  unfold whorlReset
  generalize endSession (dumpBroken s w) w cause = t at hend ⊢
  exact hend.after rfl rfl

theorem sessionWork_loadRom (w : Nat) (q : LoadReq) : SessionWork s (loadRom s w q) := by
  unfold loadRom
  dsimp only
  split
  · exact .of_regs rfl rfl
  · exact .of_regs rfl rfl

theorem sessionWork_loadRomAuto (w idx : Nat) : SessionWork (dumpBroken s w) (loadRomAuto s w idx) :=
  (sessionWork_whorlReset s w 1).trans (sessionWork_loadRom _ w _)

theorem dumpBroken_idle (w : Nat) (h : s.hang.running = none) : dumpBroken s w = s := by
  unfold dumpBroken
  rw [h]

/-! ### An operation given up -/

theorem outcomeWork_releaseIssue : OutcomeWork s (releaseIssue s) := by
  unfold releaseIssue
  split
  · exact outcomeWork_releaseHeld s 64
  · exact .refl s

theorem outcomeWork_giveUp (op : Nat) : OutcomeWork s (giveUp s op) := by
  unfold giveUp
  split
  · refine OutcomeWork.trans ?_ (outcomeWork_countF_spnLate _)
    refine OutcomeWork.trans ?_ (outcomeWork_releaseIssue _)
    split <;> exact ⟨rfl, fun _ _ => rfl⟩
  · exact ⟨rfl, fun _ _ => rfl⟩

/-- An operation given up, or none. -/
theorem outcomeWork_giveUpAny (op : Option Nat) : OutcomeWork s (op.elim s (giveUp s)) := by
  cases op with
  | none => exact .refl s
  | some op => exact outcomeWork_giveUp s op

theorem dumpBroken_hank (w : Nat) : (dumpBroken s w).hank = s.hank := by
  unfold dumpBroken
  split
  · rfl
  · split
    · exact (congrArg State.hank (outcomeWork_giveUpAny s s.hang.work.op).eq :)
    · rfl

theorem loadRomAuto_hank (w idx : Nat) : (loadRomAuto s w idx).hank = s.hank :=
  (sessionWork_loadRomAuto s w idx).hank.trans (dumpBroken_hank s w)

end

end Sys2Proof.Machine
end


section
/-! PROPERTY. The mount of MRAM and the stages of start-up that wait for it (R293, R302, R314, R403). -/

namespace Sys2Proof.Machine

section
variable (s : State)

/-! ### What start-up leaves of the Hank store (R403) -/

theorem advanceEpoch_hank (ls : List Nat) (i : Nat) : (advanceEpoch s ls i).hank = s.hank :=
  (congrArg State.hank (linkTraffic_advanceEpoch s ls i).eq :)

theorem releaseIssue_hank : (releaseIssue s).hank = s.hank := (congrArg State.hank (outcomeWork_releaseIssue s).eq :)

theorem carefulSwitch_hank : (carefulSwitch s).hank = s.hank := by
  unfold carefulSwitch
  split
  · rfl
  · dsimp only
    rw [releaseIssue_hank, publishMap_hank]
    split
    · exact forAll_keeps (fun t => t.hank = s.hank) _ _ _ rfl fun t i _ ht => (advanceEpoch_hank t _ i).trans ht
    · rfl

theorem setCareful_hank (want : Bool) : (setCareful s want).hank = s.hank := carefulSwitch_hank (setReg s rSpnMode _)

theorem timeUpdate_hank : (timeUpdate s).hank = s.hank := by
  unfold timeUpdate
  extract_lets n
  split
  · rfl
  · exact hevt_hank ..

theorem stageElect_hank : (stageElect s).hank = s.hank :=
  forAll_keeps (fun t => t.hank = s.hank) _ _ _ rfl fun t ch _ ht => (congrArg State.hank (chSend_eq t ch 4 0 _ none) :).trans ht

theorem stageReady_hank : (stageReady s).hank = s.hank := by
  unfold stageReady
  extract_lets s1
  cases s.boot.whorl with
  | none => rfl
  | some w => exact loadRomAuto_hank s1 w 2

theorem stageHold_hank : (stageHold s).hank = s.hank := by
  unfold stageHold
  split
  · rfl
  · exact stageReady_hank s

theorem bootAdvance_hank : (bootAdvance s).hank = s.hank := by
  unfold bootAdvance
  split
  · rfl
  · extract_lets s1
    have h1 : s1.hank = s.hank := by
      simp only [s1]
      split
      · rfl
      · exact stageElect_hank s
    split
    · exact (timeUpdate_hank s1).trans h1
    · rw [stageHold_hank, setCareful_hank, timeUpdate_hank, h1]

/-! ### The mount of MRAM (R293, R314) -/

theorem storeWork_markTorn (e : List Word) : StoreWork s (markTorn s e) :=
  (storeWork_submit s _ _ _).trans <| (storeWork_addCounter _ 5 1).trans <| (storeWork_journal _ _ _ _).trans (storeWork_hevt _ _ _ _)

theorem applyEntries_hank (body : List Word) : (applyEntries body s).hank = s.hank := by
  induction body, s using applyEntries.induct with
  | case1 s i e t d b x ih =>
    rw [applyEntries]
    exact ih
  | case2 s t hshort =>
    rw [applyEntries]
    exact hshort

/-- A LOGSTATE changes maps alone. -/
theorem applyLog_hank (body : List Word) : (applyLog s body).hank = s.hank := applyEntries_hank _ _

theorem exec_hankMount_mounted (hmount : s.hank.mount ≠ 0) (hboot : booting s = false) : exec .hankMount s = .next s := by
  have hkeep : hankMount s = s := if_pos (.inl hmount)
  show Host.Outcome.next (bootAdvance (hankMount s)) = _
  rw [hkeep, bootAdvance, if_pos (by simp [hboot])]

theorem hankMount_identifies (hmount : s.hank.mount = 0) (hreset : s.boot.inReset = false) (hbanks : banks s ≠ []) :
    (hankMount s).hank.mount = 1 ∧ (hankMount s).hank.durable = highestCnum s ∧ (hankMount s).hank.dumpNext = counter s 3 + 1 ∧
      (hankMount s).hank.pfw = if s.hank.pinLow then 3 else 0 := by
  unfold hankMount
  rw [if_neg (by simp [hmount, hreset, hbanks])]
  extract_lets top pfr dumps pon first torn log newPf sync h s1 s1' s2 s3 s4
  have hlog : s1'.hank = s1.hank := by
    simp only [s1']
    cases log with
    | none => rfl
    | some f => exact applyLog_hank s1 (frameBody f)
  have h12 : StoreWork s1' s2 := by
    simp only [s2]
    split
    · exact storeWork_addCounter s1' 0 1
    · exact .refl s1'
  have h34 : StoreWork s3 s4 := by
    simp only [s4]
    cases newPf with
    | none => exact .refl s3
    | some f => exact (storeWork_journal s3 _ _ _).trans (storeWork_addCounter _ 1 1)
  have hwork := ((h12.trans (.forAll torn markTorn s2 storeWork_markTorn)).trans h34).trans <|
    (storeWork_journal s4 0x8001 (pon % 2 ^ 32) [word top]).trans (storeWork_addCounter _ 3 16)
  rw [hwork.hank, hlog]
  exact ⟨rfl, rfl, rfl, rfl⟩

/-- DURABLE is the highest number found, and the dump numbers follow the counter. -/
theorem exec_hankMount_identifies (hmount : s.hank.mount = 0) (hreset : s.boot.inReset = false) (hbanks : banks s ≠ []) : ∃ t : State,
    exec .hankMount s = .next t ∧ t.hank.mount = 1 ∧ t.hank.durable = highestCnum s ∧ t.hank.dumpNext = counter s 3 + 1 ∧
      t.hank.pfw = (if s.hank.pinLow then 3 else 0) := by
  refine ⟨bootAdvance (hankMount s), rfl, ?_⟩
  rw [bootAdvance_hank]
  exact hankMount_identifies s hmount hreset hbanks

end

end Sys2Proof.Machine
end


section
/-! PROPERTY. The start, the limit and the end of the dump program (R213, R214, R226, R233). -/

namespace Sys2Proof.Machine

section
variable (s : State)

/-! ### A halt request leaves the declarations and DMP_STAT (R107) -/

/-- The declarations, the dump that runs, and DMP_STAT. -/
def dumpView (s : State) : Hang × Word := (s.hang, reg s rDmpStat)

theorem OutcomeWork.dumpView {s t : State} (h : OutcomeWork s t) : dumpView t = dumpView s :=
  Prod.ext (congrArg State.hang h.eq :) (h.reg rDmpStat (by decide))

/-- What each step of a fold keeps, the fold keeps. -/
theorem dumpView_forAll {α : Type} (l : List α) (f : State → α → State) (s : State) (h : ∀ t a, dumpView (f t a) = dumpView t) :
    dumpView (forAll l f s) = dumpView s :=
  forAll_keeps (fun t => dumpView t = dumpView s) l f s rfl fun t a _ ht => (h t a).trans ht

theorem dumpView_hevt (c a : Nat) (pay : List Word) : dumpView (hevt s c a pay) = dumpView s := by
  rw [hevt_eq]
  rfl

theorem dumpView_holdEnded (p arg : Nat) : dumpView (holdEnded s p arg) = dumpView s := dumpView_hevt _ _ _ _

theorem dumpView_askHubs (p : Nat) (cutId : Word) (dl : Nat) (parent : Option Nat) : dumpView (askHubs s p cutId dl parent).2 = dumpView s := by
  rw [askHubs_eq]
  rfl

theorem dumpView_ctlPush (rs : List Nat) (p : Nat) (opc : StOpc) (arg cause : Nat) : dumpView (ctlPush s rs p opc arg cause) = dumpView s := by
  rw [ctlPush_eq]
  rfl

theorem dumpView_setCause (p cause : Nat) : dumpView (setCause s p cause) = dumpView s := by
  rw [setCause_eq, causeNoted_eq]
  rfl

theorem dumpView_cutNone (p : Nat) (ws : List Waiter) (n : Nat) (owed : Option Cut) : dumpView (cutNone s p ws n owed) = dumpView s := by
  unfold cutNone
  extract_lets x s1
  have hout : OutcomeWork s1 (releaseHeld (forAll ws (postWaiter .noagent n) s1) p) :=
    (OutcomeWork.forAll _ _ _ fun t w => outcomeWork_postWaiter t _ _ w).trans (outcomeWork_releaseHeld _ p)
  exact hout.dumpView

theorem dumpView_cutStart (p : Nat) (ws : List Waiter) : dumpView (cutStart s p none ws none) = dumpView s := by
  unfold cutStart
  extract_lets x ws1 s0 live s1 a dl b cut y s2
  have h0 : dumpView s0 = dumpView s := dumpView_forAll _ _ s fun _ _ => rfl
  split
  · exact (dumpView_cutNone s0 p _ _ _).trans h0
  · have h1 : dumpView s1 = dumpView s0 := by
      simp only [s1]
      split
      · exact dumpView_holdEnded s0 p 2
      · rfl
    have h2 : dumpView s2 = dumpView s1 := dumpView_askHubs a.2 p a.1 dl none
    refine (dumpView_forAll _ _ s2 fun t r => ?_).trans (h2.trans (h1.trans h0))
    dsimp only
    split
    · rfl
    · exact dumpView_ctlPush _ _ _ _ _ _

theorem dumpView_haltReq (p cause : Nat) (w : Waiter) : dumpView (haltReq s p cause w) = dumpView s := by
  have hpost (st : Status) : dumpView (postWaiter st 0 s w) = dumpView s := (outcomeWork_postWaiter s st 0 w).dumpView
  have hcut : dumpView (setCause (cutStart s p none [w] none) p cause) = dumpView s :=
    (dumpView_setCause _ p cause).trans (dumpView_cutStart s p [w])
  unfold haltReq
  dsimp only
  split
  · exact hpost _
  · split
    · rfl
    · exact hpost _
  · split
    · exact hpost _
    · exact hcut
  · exact hcut

/-- The mark of a dump that has ended. -/
theorem bit_endedMark (v : Word) (p : Nat) (h : p < 64) : bit (v ||| word (2 ^ p)) p = true := by
  rw [bit, BitVec.getLsbD_or, word_pow_getLsbD]
  simp [h]

/-! ### Start (R213, R214) -/

theorem exec_dumpProgramStart_idle (h : s.hang.queue = [] ∨ s.hang.running.isSome = true ∨ bit (reg s rHngCtrl) 0 = false) :
    exec .dumpProgramStart s = .next s := by
  show execDumpProgramStart s = _
  unfold execDumpProgramStart
  split
  · rfl
  next d t hq =>
    refine if_pos ?_
    rcases h with h | h | h
    · rw [h] at hq
      cases hq
    · exact .inl h
    · exact .inr (by simp [h])

theorem leaseWork_leaseTry (w : Nat) (v span : Word) : LeaseWork s (leaseTry s w v span).2.2 := by
  have hset (h : Nat) (l : Option Lease) : LeaseWork s (setLease s w h l) := .of_regs rfl rfl rfl
  unfold leaseTry
  extract_lets x
  split
  · exact .refl s
  · split
    · exact .refl s
    · split
      · exact hset _ _
      · split
        · exact .refl s
        · split
          · exact .refl s
          · exact hset _ _

/-- The oldest declaration taken from the queue. -/
def declTaken (rest : List Decl) : State := { s with hang := { s.hang with queue := rest } }

theorem dumpBegin_begins (w : Nat) (d : Decl) (h : tabWf 0 s.regs = true) : (dumpBegin s w d).hang.queue = s.hang.queue ∧
    (dumpBegin s w d).hang.running = some d ∧ (dumpBegin s w d).hang.whorl = some w ∧ (dumpBegin s w d).hang.startAt = s.ht ∧
    regF (dumpBegin s w d) rDmpStat 63 32 = d.num % 2 ^ 32 := by
  unfold dumpBegin
  extract_lets a u staged old blank s1 s2 s3 dest s4 s5
  have h4 : LeaseWork s1 s4 := ((leaseWork_leaseTry s1 w _ 0).trans (leaseWork_leaseTry s2 w _ 0)).trans <|
    .ite (.refl s3) (leaseWork_regPut s3 _ _ _ (by decide))
  have hwf4 : tabWf 0 s4.regs = true := h4.regsWf h
  have hview := dumpView_haltReq (setRegF s5 rDmpWinStat 55 32 0) d.part 3 a.1
  have hhang : (haltReq (setRegF s5 rDmpWinStat 55 32 0) d.part 3 a.1).hang = s4.hang := congrArg Prod.fst hview
  have hstat : reg (haltReq (setRegF s5 rDmpWinStat 55 32 0) d.part 3 a.1) rDmpStat = reg s5 rDmpStat :=
    (congrArg Prod.snd hview).trans (reg_setReg_ne _ _ _ _ (by decide))
  rw [hhang]
  refine ⟨(congrArg Hang.queue h4.hang :), (congrArg Hang.running h4.hang :), (congrArg Hang.whorl h4.hang :),
    (congrArg Hang.startAt h4.hang :), ?_⟩
  rw [regF_of_reg hstat, regF_setRegF_apart _ _ _ _ _ _ _ (setRegF_wf _ _ _ _ _ hwf4) (by decide) (by decide) (by decide),
    regF_setRegF _ _ _ _ _ hwf4 (by decide) (by decide)]

/-- A program that cannot run ends at once: the hub halts the partition alone. -/
theorem dumpSnip_hang (p : Nat) : (dumpSnip s p).hang = s.hang :=
  congrArg Prod.fst (dumpView_haltReq (silentWaiter s).2 p 3 (silentWaiter s).1)

section
variable (d : Decl) (rest : List Decl)

/-- The oldest declaration taken up: by the Whorl named, by another on which the hub loads the program and notes so, or by none. -/
def dumpStarted : Option (Nat × Bool) → State
  | some (w, false) => dumpBegin (declTaken s rest) w d
  | some (w, true) => dumpBegin (countF (loadRomAuto (declTaken s rest) w 1) rHngStat 6 6 1) w d
  | none => dumpSnip { s with hang := { s.hang with queue := rest, ended := s.hang.ended ||| word (2 ^ d.part) } } d.part

variable (hq : s.hang.queue = d :: rest) (hidle : s.hang.running = none) (henabled : bit (reg s rHngCtrl) 0 = true)
include hq hidle henabled

theorem exec_dumpProgramStart_takes : exec .dumpProgramStart s = .next (dumpStarted s d rest (dumpWhorl s)) := by
  have hsame : dumpWhorl (declTaken s rest) = dumpWhorl s := rfl
  show execDumpProgramStart s = _
  unfold execDumpProgramStart
  rw [hq]
  dsimp only
  rw [if_neg (by simp [hidle, henabled]), ← declTaken, hsame]
  rcases dumpWhorl s with _ | ⟨w, _ | _⟩ <;> rfl

/-- The oldest declaration is dumped, or only noted as ended. -/
theorem dumpProgramStart_takes (hR : tabWf 0 s.regs = true) (hpart : d.part < 64) : ∃ t : State, exec .dumpProgramStart s = .next t ∧
    t.hang.queue = rest ∧ (∀ (w : Nat) (auto : Bool), dumpWhorl s = some (w, auto) → t.hang.running = some d ∧ t.hang.whorl = some w ∧
      t.hang.startAt = s.ht ∧ regF t rDmpStat 63 32 = d.num % 2 ^ 32) ∧
    (dumpWhorl s = none → t.hang.running = none ∧ bit t.hang.ended d.part = true) := by
  refine ⟨_, exec_dumpProgramStart_takes s d rest hq hidle henabled, ?_⟩
  rcases dumpWhorl s with _ | ⟨w, _ | _⟩
  case none =>
    rw [dumpStarted, dumpSnip_hang]
    exact ⟨rfl, fun w auto h => (by cases h), fun _ => ⟨hidle, bit_endedMark _ _ hpart⟩⟩
  case some.false =>
    obtain ⟨hqueue, hrunning, hwhorl, hstart, hnum⟩ := dumpBegin_begins (declTaken s rest) w d hR
    refine ⟨hqueue, fun v auto h => ?_, fun h => (by cases h)⟩
    obtain ⟨rfl, -⟩ : w = v ∧ false = auto := by simpa using h
    exact ⟨hrunning, hwhorl, hstart, hnum⟩
  case some.true =>
    have hload := sessionWork_loadRomAuto (declTaken s rest) w 1
    rw [dumpBroken_idle (declTaken s rest) w hidle] at hload
    rw [dumpStarted]
    generalize loadRomAuto (declTaken s rest) w 1 = u at hload ⊢
    obtain ⟨hqueue, hrunning, hwhorl, hstart, hnum⟩ :=
      dumpBegin_begins (countF u rHngStat 6 6 1) w d (countF_wf _ _ _ _ _ (hload.regsWf hR))
    refine ⟨hqueue.trans (congrArg Hang.queue hload.hang :), fun v auto h => ?_, fun h => (by cases h)⟩
    obtain ⟨rfl, -⟩ : w = v ∧ true = auto := by simpa using h
    exact ⟨hrunning, hwhorl, hstart.trans hload.ht, hnum⟩

end

/-! ### The limit (R214, R233) -/

theorem endRec_ends (w num flags time units bad failed : Nat) (a b : Bool) (hf : flags = 4 * b2n a + 2 + b2n b) :
    isEnd (endRec w num 0 flags time units bad failed) = true ∧ bit ((endRec w num 0 flags time units bad failed).pay.headD 0) 28 = true := by
  constructor
  · have hhdr : (endRec w num 0 flags time units bad failed).hdr.toNat =
        (srcDistaff w * 2 ^ 48 + 0x0C * 2 ^ 43 + 4 * 2 ^ 40 + 4 * 2 ^ 36 + 15 * 2 ^ 32) % 2 ^ 64 := word_toNat _
    have htype : recType (endRec w num 0 flags time units bad failed) = 0x0C := by
      rw [recType, bits, hhdr]
      omega
    have hkind : bits (endRec w num 0 flags time units bad failed).hdr 35 32 = 15 := by
      rw [bits, hhdr]
      omega
    rw [isEnd, htype, hkind]
    rfl
  · show (word (num * 2 ^ 32 + 0 * 2 ^ 30 + flags * 2 ^ 27)).getLsbD 28 = true
    rw [word, BitVec.getLsbD_ofNat, Nat.testBit_eq_decide_div_mod_eq, hf]
    have ha : b2n a ≤ 1 := by cases a <;> decide
    have hb : b2n b ≤ 1 := by cases b <;> decide
    simp only [Nat.reduceLT, decide_true, Bool.true_and, decide_eq_true_eq]
    omega

theorem exec_dumpTimeout_idle (h : s.hang.running = none ∨ s.hang.whorl = none) : exec .dumpTimeout s = .next s := by
  show execDumpTimeout s = _
  unfold execDumpTimeout
  split
  next hd hw => simp [hd, hw] at h
  next => rfl

section
variable (d : Decl) (w : Nat) (hd : s.hang.running = some d) (hw : s.hang.whorl = some w)
include hd hw

theorem exec_dumpTimeout_runs : exec .dumpTimeout s =
    if s.hang.startAt + (reg s rDmpTmo).toNat ≤ s.ht ∧ s.hang.work.phase ≠ .abort then .next (dumpAbort s w d) else .next s := by
  show execDumpTimeout s = _
  unfold execDumpTimeout
  rw [hd, hw]
  rfl

theorem exec_dumpTimeout_waits (h : s.ht < s.hang.startAt + (reg s rDmpTmo).toNat ∨ s.hang.work.phase = .abort) :
    exec .dumpTimeout s = .next s := by
  rw [exec_dumpTimeout_runs s d w hd hw, if_neg]
  rintro ⟨hlate, hphase⟩
  exact h.elim (fun h => by omega) hphase

end

/-- The reads stop, and END with ABORT waits for the mover. -/
theorem dumpAbort_stops (w : Nat) (d : Decl) : (dumpAbort s w d).hang.running = s.hang.running ∧ (dumpAbort s w d).hang.work.phase = .abort ∧
    (dumpAbort s w d).hang.work.op = none ∧ (dumpAbort s w d).hang.work.item = none ∧ (dumpAbort s w d).hang.work.todo = [] ∧
    (s.hang.work.mram = false → ∃ e : Rec, (dumpAbort s w d).hang.work.out.getLast? = some e ∧ isEnd e = true ∧
      bit (e.pay.headD 0) 28 = true) := by
  unfold dumpAbort
  extract_lets x s1 lost l e
  refine ⟨(congrArg (fun t => t.hang.running) (outcomeWork_giveUpAny s x.op).eq :), rfl, rfl, rfl, rfl, fun hmram => ⟨e, ?_, ?_⟩⟩
  · simp [x, hmram]
  · exact endRec_ends _ _ _ _ _ _ _ _ _ rfl

/-- A dump whose limit has passed stops, once. -/
theorem dumpTimeout_outcomes (d : Decl) (w : Nat) (hd : s.hang.running = some d) (hw : s.hang.whorl = some w) :
    (s.ht < s.hang.startAt + (reg s rDmpTmo).toNat ∨ s.hang.work.phase = .abort → exec .dumpTimeout s = .next s) ∧
    (s.hang.startAt + (reg s rDmpTmo).toNat ≤ s.ht → s.hang.work.phase ≠ .abort → ∃ t : State, exec .dumpTimeout s = .next t ∧
      t.hang.running = some d ∧ t.hang.work.phase = .abort ∧ t.hang.work.op = none ∧ t.hang.work.item = none ∧ t.hang.work.todo = [] ∧
      (s.hang.work.mram = false → ∃ e : Rec, t.hang.work.out.getLast? = some e ∧ isEnd e = true ∧ bit (e.pay.headD 0) 28 = true)) := by
  refine ⟨exec_dumpTimeout_waits s d w hd hw, fun hlate hphase => ⟨dumpAbort s w d, ?_, ?_⟩⟩
  · rw [exec_dumpTimeout_runs s d w hd hw, if_pos ⟨hlate, hphase⟩]
  · rw [← hd]
    exact dumpAbort_stops s w d

/-! ### The end (R226) -/

theorem dumpFinish_ends (hR : tabWf 0 s.regs = true) (hP : tabWf 0 s.evPend = true) (d : Decl) (w level flags : Nat) (hpart : d.part < 64)
    (hlevel : level < 4) (hflags : flags < 16) : (dumpFinish s w d level flags).hang.running = none ∧
      (dumpFinish s w d level flags).hang.whorl = none ∧ regF (dumpFinish s w d level flags) rDmpStat 31 30 = level ∧
      regF (dumpFinish s w d level flags) rDmpStat 29 26 = flags ∧ LineRaised (dumpFinish s w d level flags) 2 ∧
      bit (dumpFinish s w d level flags).hang.ended d.part = true := by
  unfold dumpFinish
  extract_lets s1 s2 s3 s4
  have h3 : LeaseWork s2 s3 := .forAll _ _ s2 fun t h => leaseWork_leaseEnd t w h
  have h4 : OutcomeWork s3 s4 := outcomeWork_giveUpAny s3 _
  have hstat : reg s4 rDmpStat = reg s1 rDmpStat := by
    rw [h4.reg _ (by decide), h3.dmpStat]
    exact (sessionWork_hevt s1 _ _ _).dmpStat
  have hpend : s4.evPend = s2.evPend := (congrArg State.evPend h4.eq :).trans h3.evPend
  have hwf : tabWf 0 (setRegF s rDmpStat 31 30 level).regs = true := setRegF_wf s _ _ _ _ hR
  refine ⟨rfl, rfl, ?_, ?_, ?_, ?_⟩
  · refine (regF_of_reg hstat _ _).trans ?_
    rw [regF_setRegF_apart _ _ _ _ _ _ _ hwf (by decide) (by decide) (by decide), regF_setRegF s _ _ _ _ hR (by decide) (by decide)]
    exact Nat.mod_eq_of_lt hlevel
  · refine (regF_of_reg hstat _ _).trans ?_
    rw [regF_setRegF _ _ _ _ _ hwf (by decide) (by decide)]
    exact Nat.mod_eq_of_lt hflags
  · refine lineRaised_of_evPend (s := s2) (fun k hk => raiseLine_set _ 2 k ?_ (by decide) hk) hpend
    rw [hevt_evPend]
    exact hP
  · exact bit_endedMark _ _ hpart

end

end Sys2Proof.Machine
end


section
/-! PROPERTY. The NAND devices, the MRAM banks, the read window and the dump program together. -/

namespace Sys2Proof.Machine

theorem canonical_nands (s : State) (h : canonical s = true) : tabWf Nand.fresh s.nands = true := by
  simp only [canonical, Bool.and_eq_true] at h
  tauto

/-- Settles O50: the commands take device, bank, entry and declaration each on its own, over a frame of what the Hank store's work, an ended
lease and a halt request leave. -/
theorem nandDevicesMountProgramAndRetire : Obligations.NandDevicesMountProgramAndRetire := by
  unfold Obligations.NandDevicesMountProgramAndRetire
  intro s hc
  have hR := canonical_regs s hc
  have hP := canonical_evPend s hc
  have hN := canonical_nands s hc
  refine ⟨exec_hankMount_identifies s, exec_hankMount_mounted s, exec_nandMount_waits s, nandMount_settles s hN, mramBankRetire_outcomes s hP,
    ?devices, hnkPinWrite_outcomes s, ?window, exec_dumpProgramStart_idle s,
    fun d rest hq hidle henabled hpart => dumpProgramStart_takes s d rest hq hidle henabled hR hpart,
    exec_dumpTimeout_idle s, dumpTimeout_outcomes s, ?finish⟩
  case devices =>
    rintro d n rfl hb
    refine ⟨fun hdown => ⟨exec_xspiStatusPoll_down s d hdown,
        fun blk p corr => ⟨exec_nandPatrol_down s d hdown blk p corr, exec_nandBlockRetire_down s d hdown blk⟩,
        exec_nandWearLevel_down s d hdown, exec_xspiDqsTimeout_down s d hdown, fun hmount => exec_xspiOpTimeout_intime s d hmount (.inl hdown)⟩,
      xspiOpTimeout_unidentified s d hN, fun hup => ?_⟩
    exact ⟨exec_xspiStatusPoll_busy s d hup, xspiStatusPoll_begins s d hup hN, xspiStatusPoll_programs s d hup hN hb,
      xspiStatusPoll_erases s d hup hN hb, xspiStatusPoll_reads s d hup hN,
      fun hmount => ⟨fun hop => exec_xspiOpTimeout_intime s d (.inl hmount) (.inr hop), fun hlate =>
        ⟨xspiOpTimeout_failsRead s d hup hR hN hmount hlate, xspiOpTimeout_failsBlock s d hup hR hN hb hmount hlate⟩⟩,
      xspiDqsTimeout_outcomes s d hup hR hN, nandBlockRetire_outcomes s d hup hN hb, nandPatrol_outcomes s d hup hN hb,
      nandWearLevel_outcomes s d hup hN hb⟩
  case window =>
    rintro who k sel rfl hsel
    exact ⟨exec_hnkRdDataRead_refused s who, fun hmay => hnkRdDataRead_advances s who sel hsel hmay hR,
      fun d hmay => hnkRdDataRead_fetches s who sel hsel hmay hN d⟩
  case finish =>
    rintro d w level flags t hpart hlevel hflags rfl
    exact dumpFinish_ends s hR hP d w level flags hpart hlevel hflags

end Sys2Proof.Machine
end


section
/-! SUPPORT. Bits of words as the Lopra instructions write them (R254, R255, Table 9.9). -/

namespace Sys2Proof.Machine

/-- A flag as a word. -/
theorem word_b2n (c : Bool) : word (b2n c) = if c then 1 else 0 := by cases c <;> rfl

/-- A number read back from its word. -/
theorem word_toNat_self (v : Word) : word v.toNat = v := BitVec.ofNat_toNat ..

/-- A number that fits a word. -/
theorem toNat_word (n : Nat) (h : n < 2 ^ 64) : (word n).toNat = n := by rw [word_toNat, Nat.mod_eq_of_lt h]

/-- The low bits of a word. -/
theorem bits_zero (v : Word) (hi : Nat) : bits v hi 0 = v.toNat % 2 ^ (hi + 1) := by
  rw [bits, pow_zero, Nat.div_one, Nat.sub_zero]

/-- A signed comparison as a word. -/
theorem word_slt (a b : Word) : word (b2n (a.slt b)) = if a.toInt < b.toInt then 1 else 0 := by
  simp only [word_b2n, BitVec.slt, decide_eq_true_eq]

/-- An unsigned comparison as a word. -/
theorem word_ult (a b : Word) : word (b2n (a.ult b)) = if a.toNat < b.toNat then 1 else 0 := by
  simp only [word_b2n, BitVec.ult, decide_eq_true_eq]

/-- A signed comparison turned round. -/
theorem not_slt (a b : Word) : (!a.slt b) = decide (b.toInt ≤ a.toInt) := by
  simp only [BitVec.slt, ← decide_not, Int.not_lt]

/-- An unsigned comparison turned round. -/
theorem not_ult (a b : Word) : (!a.ult b) = decide (b.toNat ≤ a.toNat) := by
  simp only [BitVec.ult, ← decide_not, Nat.not_lt]

/-- A sign-extended immediate keeps its value. -/
theorem toInt_immS (i : BitVec 16) : (immS i).toInt = i.toInt := BitVec.toInt_signExtend_of_le (by decide)

/-- A bit of a field. -/
theorem getLsbD_eq_bits (v : Word) (hi lo i : Nat) (hl : lo ≤ i) (hi' : i ≤ hi) : v.getLsbD i = (bits v hi lo).testBit (i - lo) := by
  rw [bits, Nat.testBit_mod_two_pow, Nat.testBit_div_two_pow, ← BitVec.testBit_toNat, Nat.sub_add_cancel hl,
    decide_eq_true (by omega), Bool.true_and]

/-- A bit of a word after a field is replaced. -/
theorem getLsbD_setBits (v : Word) (hi lo x i : Nat) (hl : lo ≤ hi) (hh : hi < 64) :
    (setBits v hi lo x).getLsbD i = if lo ≤ i ∧ i ≤ hi then x.testBit (i - lo) else v.getLsbD i := by
  split
  next hin =>
    obtain ⟨hlo, hhi⟩ := hin
    rw [getLsbD_eq_bits _ hi lo i hlo hhi, bits_setBits v hi lo x hl hh, Nat.testBit_mod_two_pow, decide_eq_true (by omega),
      Bool.true_and]
  next hout =>
    rw [getLsbD_eq_bits _ i i i (Nat.le_refl i) (Nat.le_refl i), getLsbD_eq_bits v i i i (Nat.le_refl i) (Nat.le_refl i)]
    by_cases hb : i < lo
    · rw [bits_setBits_below v hi lo x i i hl hh hb]
    · rw [bits_setBits_above v hi lo x i i hl hh (by omega)]

end Sys2Proof.Machine
end


section
/-! PROPERTY. The register instructions: the effect is the instruction's own term, so that what is left is the value written. -/

namespace Sys2Proof.Machine

/-- Settles O4: each effect by name; SLTI and SLTIU compare as numbers do, and INSH replaces the bits of its lane. -/
theorem registerInstructionsWriteOneRegister : Obligations.RegisterInstructionsWriteOneRegister := by
  intro s w d a b imm x hx
  subst hx
  refine ⟨fun fn hex => show execAlu w fn d a b s = _ from insn_executes _ _ _ _ hex, fun hex => ?immediate, fun lane hex => ?lane⟩
  case immediate =>
    refine ⟨show execAddi w d a imm s = _ from insn_executes _ _ _ _ hex, show execAndi w d a imm s = _ from insn_executes _ _ _ _ hex,
      show execOri w d a imm s = _ from insn_executes _ _ _ _ hex, show execXori w d a imm s = _ from insn_executes _ _ _ _ hex,
      ?slti, ?sltiu⟩
    case slti =>
      show execSlti w d a imm s = _
      rw [execSlti, insn_executes _ _ _ _ hex, setD, word_slt, toInt_immS]
    case sltiu =>
      show execSltiu w d a imm s = _
      rw [execSltiu, insn_executes _ _ _ _ hex, setD, word_ult, immS]
  case lane =>
    have hlane := lane.isLt
    refine ⟨_, show execInsh w d lane imm s = _ from insn_executes _ _ _ _ hex, fun i _ => ?_⟩
    rw [getLsbD_setBits _ _ _ _ _ (by omega) (by omega), BitVec.testBit_toNat]
    simp only [Nat.lt_add_one_iff]

/-- Settles O5: each target by name; the offset counts instructions of 4 bytes (R254). -/
theorem branchesAndJumpsMoveThePc : Obligations.BranchesAndJumpsMoveThePc := by
  intro s w d a imm off x hx
  subst hx
  refine ⟨fun hex goes hgoes => ?branch, fun hex => ⟨?j, show execNop w s = _ from insn_executes _ _ _ _ hex⟩, fun hex => ?jal,
    fun hex => show execJr w a s = _ from insn_executes _ _ _ _ hex, fun hex => show execJalr w d a s = _ from insn_executes _ _ _ _ hex⟩
  case branch =>
    have htarget (c : Bool) : branch s w (getW s w) c imm = setW s w { getW s w with pc := goes c } := by
      rw [branch, hgoes, target, nextPc, BitVec.mul_comm]
    refine ⟨?beq, ?bne, ?blt, ?bge, ?bltu, ?bgeu⟩
    case beq =>
      show execBeq w d a imm s = _
      rw [execBeq, insn_executes _ _ _ _ hex, htarget, beq_eq_decide]
    case bne =>
      show execBne w d a imm s = _
      rw [execBne, insn_executes _ _ _ _ hex, htarget, bne, beq_eq_decide, ← decide_not]
    case blt =>
      show execBlt w d a imm s = _
      rw [execBlt, insn_executes _ _ _ _ hex, htarget, BitVec.slt]
    case bge =>
      show execBge w d a imm s = _
      rw [execBge, insn_executes _ _ _ _ hex, htarget, not_slt]
    case bltu =>
      show execBltu w d a imm s = _
      rw [execBltu, insn_executes _ _ _ _ hex, htarget, BitVec.ult]
    case bgeu =>
      show execBgeu w d a imm s = _
      rw [execBgeu, insn_executes _ _ _ _ hex, htarget, not_ult]
  case j =>
    show execJ w off s = _
    rw [execJ, insn_executes _ _ _ _ hex, target, nextPc, BitVec.mul_comm]
  case jal =>
    show execJal w off s = _
    rw [execJal, insn_executes _ _ _ _ hex, target, nextPc, BitVec.mul_comm]


/-! ### Timers, deadlines and the Whorl itself (R241, R247, R260) -/

/-- A span clamped to 400 to 2^40 ht (R241). -/
theorem clampDl_eq (v : Word) : clampDl v = if v.toNat < 400 then 400 else if 2 ^ 40 < v.toNat then 2 ^ 40 else v.toNat := by
  unfold clampDl
  split
  · omega
  · split <;> omega

/-- A Whorl that goes on runs. -/
@[simp] theorem advance_st (x : Whorl) : (advance x).st = x.st := rfl

/-- A RUNNING Whorl that goes on is listed. -/
theorem advance_ne_fresh (x : Whorl) (h : x.st = .running) : advance x ≠ Whorl.fresh := ne_fresh_of_running _ h

/-- A Whorl that stops after its instruction (R260). -/
theorem whorlStop_advance (s : State) (w : Nat) (h : (getW s w).st = .running) :
    whorlStop (setW s w (advance (getW s w))) w = raiseLine (setW s w { advance (getW s w) with st := .stopped }) 6 := by
  have hlisted := advance_ne_fresh _ h
  have hstopped : ({ advance (getW s w) with st := .stopped } : Whorl) ≠ Whorl.fresh := fun he => by
    have hst := congrArg Whorl.st he
    cases hst
  simp only [whorlStop, getW_setW_self _ _ _ hlisted, advance_st, h, if_true, setW_setW _ _ _ _ hlisted hstopped]

/-- The fields of WHOAMI's word (Table 9.10). -/
theorem whoami_fields (rom : Bool) (owner : BitVec 9) (w : Fin 8) :
    bits (word (b2n rom * 2 ^ 17 + owner.toNat * 2 ^ 8 + w.val)) 7 0 = w.val ∧
      bits (word (b2n rom * 2 ^ 17 + owner.toNat * 2 ^ 8 + w.val)) 16 8 = owner.toNat ∧
      bit (word (b2n rom * 2 ^ 17 + owner.toNat * 2 ^ 8 + w.val)) 17 = rom := by
  have howner := owner.isLt
  have hw := w.isLt
  have hrom : b2n rom < 2 := by cases rom <;> decide
  have hfits : (word (b2n rom * 2 ^ 17 + owner.toNat * 2 ^ 8 + w.val)).toNat = b2n rom * 2 ^ 17 + owner.toNat * 2 ^ 8 + w.val :=
    toNat_word _ (by omega)
  refine ⟨by rw [bits, hfits]; omega, by rw [bits, hfits]; omega, ?_⟩
  rw [bit, ← BitVec.testBit_toNat, hfits, Nat.testBit_eq_decide_div_mod_eq,
    show (b2n rom * 2 ^ 17 + owner.toNat * 2 ^ 8 + w.val) / 2 ^ 17 % 2 = b2n rom by omega]
  cases rom <;> rfl

/-- Settles O6: each effect by name, the clamp, WHOAMI's fields and the stop by their lemmas. -/
theorem timerAndSystemInstructions : Obligations.TimerAndSystemInstructions := by
  intro s w d a t x hx
  subst hx
  refine ⟨fun hex => ⟨show execRdtime w d s = _ from insn_executes _ _ _ _ hex, show execTrd w d t s = _ from insn_executes _ _ _ _ hex,
    show execRddl w d s = _ from insn_executes _ _ _ _ hex, _, show execWhoami w d s = _ from insn_executes _ _ _ _ hex,
    whoami_fields _ _ _⟩, fun hex => ⟨⟨_, show execTset w t a s = _ from insn_executes _ _ _ _ hex, rfl, decide_eq_true_iff⟩, ?setdl⟩,
    fun hex => ⟨show execTclr w t s = _ from insn_executes _ _ _ _ hex, ?stopw⟩⟩
  case setdl =>
    show execSetdl w a s = _
    rw [execSetdl, insn_executes _ _ _ _ hex, clampDl_eq]
  case stopw =>
    show execStopw w s = _
    rw [execStopw, insn_executes _ _ _ _ hex, whorlStop_advance s w hex.1]


/-! ### Tickets and fences (R240, R251) -/

/-- A number with the bits that a test picks below n: it stays below 2^n, and its bits are those. -/
theorem sum_two_pow_filter (p : Nat → Bool) (n : Nat) :
    (((List.range n).filter p).map fun t => 2 ^ t).sum < 2 ^ n ∧
      ∀ t : Nat, t < n → (((List.range n).filter p).map fun t => 2 ^ t).sum.testBit t = p t := by
  induction n with
  | zero => exact ⟨by simp, fun t ht => absurd ht (Nat.not_lt_zero t)⟩
  | succ n ih =>
    obtain ⟨hlt, hbits⟩ := ih
    rw [List.range_succ, List.filter_append, List.map_append, List.sum_append, Nat.add_comm]
    cases hp : p n with
    | false =>
      simp only [List.filter_singleton, hp, cond_false, List.map_nil, List.sum_nil, Nat.zero_add]
      refine ⟨hlt.trans (Nat.pow_lt_pow_right (by decide) (Nat.lt_succ_self n)), fun t ht => ?_⟩
      rcases Nat.lt_succ_iff_lt_or_eq.1 ht with h | rfl
      · exact hbits t h
      · rw [hp, Nat.testBit_lt_two_pow hlt]
    | true =>
      simp only [List.filter_singleton, hp, cond_true, List.map_singleton, List.sum_singleton]
      refine ⟨by rw [pow_succ]; omega, fun t ht => ?_⟩
      rcases Nat.lt_succ_iff_lt_or_eq.1 ht with h | rfl
      · rw [Nat.testBit_two_pow_add_gt h, hbits t h]
      · rw [Nat.testBit_two_pow_add_eq, Nat.testBit_lt_two_pow hlt, hp, Bool.not_false]

/-- A bit of TKPEND's mask. -/
theorem pendMask_getLsbD (x : Whorl) (t : Nat) (h : t < 64) : (pendMask x).getLsbD t = decide ((getTk x t).st = .pending) := by
  rw [pendMask, word, BitVec.getLsbD_ofNat, (sum_two_pow_filter _ 64).2 t h, decide_eq_true h, Bool.true_and]

section
variable (s : State) (w d : Nat) (p : TkKind → Bool) (x : Whorl)

/-- A fence stalls while an operation of its kinds is PENDING. -/
theorem fence_stalls (h : ∃ t : Nat, t < 64 ∧ (getTk x t).st = .pending ∧ p (getTk x t).kind = true) : fence s w d p x = s := by
  obtain ⟨t, ht, hst, hkind⟩ := h
  refine if_pos (List.any_eq_true.2 ⟨getTk x t, List.mem_map_of_mem (List.mem_range.2 ht), ?_⟩)
  rw [hst, hkind]
  rfl

/-- A fence over none counts those that ended TIMEOUT. -/
theorem fence_counts (h : ∀ t : Nat, t < 64 → (getTk x t).st = .pending → p (getTk x t).kind = false) :
    fence s w d p x = setW s w (advance (setG x d (word ((List.range 64).filter fun t =>
      (getTk x t).st == .done && p (getTk x t).kind && (getTk x t).status == .timeout).length))) := by
  have hnone : ((List.range 64).map fun t => getTk x t).any (fun k => k.st == .pending && p k.kind) = false := by
    simp only [List.any_eq_false, List.mem_map, List.mem_range, forall_exists_index, and_imp]
    rintro _ t ht rfl
    simpa using h t ht
  simp only [fence, hnone, Bool.false_eq_true, if_false, setD, List.filter_map, List.length_map]
  rfl

end

/-- The kinds of FENCE.AG. -/
theorem isAgent_eq (k : TkKind) : isAgent k = (k == .agent) := by cases k <;> rfl

/-- The kinds of FENCE.ALL. -/
theorem isFenced_eq (k : TkKind) : isFenced k = (k != .send && k != .recv) := by cases k <;> rfl

/-- Settles O7: a ticket's word by its state, TKPEND's bits, and the fences by whether one is PENDING. -/
theorem ticketInstructionsAndFences : Obligations.TicketInstructionsAndFences := by
  intro s w d a x hx
  subst hx
  have hticket : bits (gReg (getW s w) a) 5 0 = (gReg (getW s w) a).toNat % 64 := bits_zero _ 5
  refine ⟨fun hex => ⟨_, show execTkst w d a s = _ from insn_executes _ _ _ _ hex, fun t ht => ?tkst⟩, fun hex t ht => ?tkfree,
    fun hex => ⟨⟨_, show execTkpend w d s = _ from insn_executes _ _ _ _ hex, fun t ht => pendMask_getLsbD _ t ht⟩,
      fun n hn hnone => ?agGoes, fun hsome => ?agStalls, fun n hn hnone => ?allGoes, fun hsome => ?allStalls⟩⟩
  case tkst =>
    rw [hticket, ← ht, tkWord]
    refine ⟨fun hst => ?_, fun hst => ?_, fun hst => ?_⟩ <;> simp only [hst, wakeNone]
  case tkfree =>
    have hfree : exec (.tkfree w a) s = _ := show execTkfree w a s = _ from insn_executes _ _ _ _ hex
    simp only [hticket, ← ht] at hfree
    exact ⟨fun hst => by rw [hfree, if_pos hst], fun hst => by rw [hfree, if_neg hst]⟩
  case agGoes =>
    show execFenceAg w d s = _
    rw [execFenceAg, insn_executes _ _ _ _ hex, fence_counts _ _ _ _ _ fun t ht hst => by simpa [isAgent_eq] using hnone t ht hst, hn]
    simp only [isAgent_eq]
  case agStalls =>
    obtain ⟨t, ht, hst, hkind⟩ := hsome
    show execFenceAg w d s = _
    rw [execFenceAg, insn_executes _ _ _ _ hex, fence_stalls _ _ _ _ _ ⟨t, ht, hst, by rw [hkind]; rfl⟩]
  case allGoes =>
    show execFenceAll w d s = _
    rw [execFenceAll, insn_executes _ _ _ _ hex, fence_counts _ _ _ _ _ fun t ht hst => ?_, hn]
    · simp only [isFenced_eq, Bool.and_assoc]
    · rcases hnone t ht hst with h | h <;> rw [h] <;> rfl
  case allStalls =>
    obtain ⟨t, ht, hst, hsend, hrecv⟩ := hsome
    show execFenceAll w d s = _
    rw [execFenceAll, insn_executes _ _ _ _ hex, fence_stalls _ _ _ _ _ ⟨t, ht, hst, by simp [isFenced_eq, hsend, hrecv]⟩]


/-! ### Waits (R248, R249) -/

/-- A search over the numbers below n ends at the lowest that passes. -/
theorem find_range_lowest {n t : Nat} {p : Nat → Bool} {P : Nat → Prop} (hP : ∀ u : Nat, P u ↔ u < n ∧ p u = true) (ht : P t)
    (hlow : ∀ u : Nat, u < t → ¬ P u) : (List.range n).find? p = some t := by
  obtain ⟨hn, hpt⟩ := (hP t).1 ht
  refine List.find?_range_eq_some.2 ⟨hpt, List.mem_range.2 hn, fun u hu => ?_⟩
  cases hpu : p u with
  | false => rfl
  | true => exact absurd ((hP u).2 ⟨hu.trans hn, hpu⟩) (hlow u hu)

/-- It finds nothing where none passes. -/
theorem find_range_none {n : Nat} {p : Nat → Bool} {P : Nat → Prop} (hP : ∀ u : Nat, P u ↔ u < n ∧ p u = true)
    (h : ∀ u : Nat, ¬ P u) :
    (List.range n).find? p = none :=
  List.find?_eq_none.2 fun u hu hpu => h u ((hP u).2 ⟨List.mem_range.1 hu, hpu⟩)

/-- What a WAIT may wait for: a ticket that is not FREE, a line, an armed timer. -/
theorem waitsFor_iff (x : Whorl) (tm em : Word) (mask : BitVec 4) : waitsFor x tm em mask = true ↔
    (∃ t : Nat, t < 64 ∧ tm.getLsbD t = true ∧ (getTk x t).st ≠ .free) ∨ em ≠ 0 ∨
      ∃ t : Nat, t < 4 ∧ mask.getLsbD t = true ∧ (getTimer x t).armed ≠ none := by
  simp only [waitsFor, Bool.or_eq_true, List.any_eq_true, List.mem_range, Bool.and_eq_true, bit, bne_iff_ne, Option.isSome_iff_ne_none,
    or_assoc]

section
variable (s : State) (w : Fin 8) (d a b : Fin 32) (tm : BitVec 4) (hex : Executes s w [d, a, b])
include hex

/-- WAIT and POLL report the item of the ready set. -/
theorem exec_wait_poll_ready (r : Ready) (h : readyItem s w (getW s w) (gReg (getW s w) a) (gReg (getW s w) b) tm = some r) :
    exec (.wait w d a b tm) s = .next (reportItem s w d (getW s w) r) ∧
      exec (.poll w d a b tm) s = .next (reportItem s w d (getW s w) r) := by
  refine ⟨?_, ?_⟩
  · show execWait w d a b tm s = _
    simp only [execWait, insn_executes _ _ _ _ hex, h]
  · show execPoll w d a b tm s = _
    simp only [execPoll, insn_executes _ _ _ _ hex, h]

variable (h : readyItem s w (getW s w) (gReg (getW s w) a) (gReg (getW s w) b) tm = none)
include h

/-- POLL reports an empty ready set. -/
theorem exec_poll_empty : exec (.poll w d a b tm) s = .next (setW s w (advance (setG (getW s w) d (wakeWord 3 0 0 0)))) := by
  show execPoll w d a b tm s = _
  simp only [execPoll, insn_executes _ _ _ _ hex, h]
  rfl

/-- WAIT stalls on an empty ready set while something may still come. -/
theorem exec_wait_empty : exec (.wait w d a b tm) s =
    .next (if waitsFor (getW s w) (gReg (getW s w) a) (gReg (getW s w) b) tm then s
      else setW s w (advance (setG (getW s w) d (wakeWord 3 0 0 0)))) := by
  show execWait w d a b tm s = _
  simp only [execWait, insn_executes _ _ _ _ hex, h]
  rfl

end

/-- Settles O11: the ready set is searched by its kinds in turn, and an empty one by what a WAIT may wait for. -/
theorem waitAndPollReportTheReadySet : Obligations.WaitAndPollReportTheReadySet := by
  intro s w d a b tm x report hx hex hreport ticket line timer
  subst hx
  have hticket (u : Nat) : ticket u ↔ u < 64 ∧ (bit (gReg (getW s w) a) u && (getTk (getW s w) u).st == .done) = true := by
    simp only [ticket, bit, Bool.and_eq_true, beq_iff_eq]
  have hline (u : Nat) : line u ↔ u < 64 ∧ (bit (gReg (getW s w) b) u && bit (tget 0 s.evPend w) u) = true := by
    simp only [line, bit, Bool.and_eq_true]
  have htimer (u : Nat) : timer u ↔ u < 4 ∧ (tm.getLsbD u && (getTimer (getW s w) u).expired) = true := by
    simp only [timer, Bool.and_eq_true]
  have hready (r : Ready) (h : readyItem s w (getW s w) (gReg (getW s w) a) (gReg (getW s w) b) tm = some r) :
      report (reportItem s w d (getW s w) r) := (hreport _).2 (exec_wait_poll_ready s w d a b tm hex r h)
  refine ⟨fun t ht hlow => ?ticket, fun n hno hn hlow => ?line, fun t hno hnol ht hlow => ?timer, fun hno hnol hnot => ?empty⟩
  case ticket =>
    have h := hready (.ticket t) (by simp only [readyItem, find_range_lowest hticket ht hlow])
    obtain ⟨-, -, hdone⟩ := ht
    simpa only [reportItem, setD, tkWord, hdone] using h
  case line => exact hready (.line n) (by simp only [readyItem, find_range_none hticket hno, find_range_lowest hline hn hlow])
  case timer =>
    exact hready (.timer t) (by
      simp only [readyItem, find_range_none hticket hno, find_range_none hline hnol, find_range_lowest htimer ht hlow, Option.map_some])
  case empty =>
    have hnone : readyItem s w (getW s w) (gReg (getW s w) a) (gReg (getW s w) b) tm = none := by
      simp only [readyItem, find_range_none hticket hno, find_range_none hline hnol, find_range_none htimer hnot, Option.map_none]
    refine ⟨exec_poll_empty s w d a b tm hex hnone, fun hsome => ?_, fun hb ha ht => ?_⟩
    · rw [exec_wait_empty s w d a b tm hex hnone, if_pos ((waitsFor_iff _ _ _ _).2 hsome)]
    · rw [exec_wait_empty s w d a b tm hex hnone, if_neg]
      rw [waitsFor_iff]
      rintro (⟨t, ht64, hbit, hst⟩ | hne | ⟨t, ht4, hbit, harm⟩)
      · exact hst (ha t ht64 hbit)
      · exact hne hb
      · exact harm (ht t ht4 hbit)


/-! ### Event lines (R244 to R246, R266) -/

/-- The lines that software raises are 16 to 63 (R244). -/
theorem userLines_getLsbD (v : Word) (i : Nat) : (v &&& ~~~ 0xFFFF).getLsbD i = (decide (16 ≤ i) && v.getLsbD i) := by
  have hlow : (0xFFFF : Word).getLsbD i = decide (i < 16) := by
    rw [show (0xFFFF : Word) = BitVec.ofNat 64 (2 ^ 16 - 1) from rfl, BitVec.getLsbD_ofNat, Nat.testBit_two_pow_sub_one, ← Bool.decide_and]
    exact decide_eq_decide.2 (by omega)
  rw [BitVec.getLsbD_and, BitVec.getLsbD_not, hlow]
  by_cases hi : i < 64
  · simp [hi, Bool.and_comm, ← decide_not]
  · rw [BitVec.getLsbD_of_ge v i (Nat.not_lt.1 hi), Bool.false_and, Bool.and_false]

/-- A raise of software's lines, in every reader's copy. -/
theorem raiseLines_user (s : State) (v : Word) (h : tabWf 0 s.evPend = true) (k i : Nat) (hk : k < 9) :
    (tget 0 (raiseLines s (v &&& ~~~ 0xFFFF)).evPend k).getLsbD i =
      ((tget 0 s.evPend k).getLsbD i || (decide (16 ≤ i) && v.getLsbD i)) := by
  rw [raiseLines_evPend _ _ _ h, if_pos hk, BitVec.getLsbD_or, userLines_getLsbD]

/-- Settles O12: EVSET and EVT_RAISE raise the same lines, EVCLR clears its own reader's. -/
theorem eventLinesReachEveryReader : Obligations.EventLinesReachEveryReader := by
  refine ⟨fun s w d b x hx hwf => ?_, fun s who v hwf => ⟨fun hmay => ?raise, fun hmay => ?refused⟩⟩
  · subst hx
    refine ⟨fun hex => ⟨_, show execEvset w b s = _ from insn_executes _ _ _ _ hex, ?_, raiseLines_user _ _ hwf, rfl, rfl, rfl, rfl⟩,
      fun hex => ⟨_, show execEvclr w b s = _ from insn_executes _ _ _ _ hex, ?_, fun i => ?own, fun k hk => ?other, rfl, rfl⟩,
      fun hex => show execEvrd w d s = _ from insn_executes _ _ _ _ hex⟩
    · exact getW_setW_self _ _ _ (advance_ne_fresh _ hex.1)
    · exact getW_setW_self _ _ _ (advance_ne_fresh _ hex.1)
    case own =>
      have hown : tget 0 (setPend (setW s w (advance (getW s w))) w (tget 0 s.evPend w &&& ~~~ gReg (getW s w) b)).evPend w =
          tget 0 s.evPend w &&& ~~~ gReg (getW s w) b := by
        show tget 0 (tput 0 s.evPend w _) w = _
        rw [tget_tput _ _ _ _ _ hwf, if_pos rfl]
      rw [hown, BitVec.getLsbD_and, BitVec.getLsbD_not]
      by_cases hi : i < 64
      · simp [hi]
      · rw [BitVec.getLsbD_of_ge _ i (Nat.not_lt.1 hi), Bool.false_and, Bool.false_and]
    case other => exact tget_tput_ne _ _ _ _ _ hk
  case raise =>
    refine ⟨raiseLines s (v &&& ~~~ 0xFFFF), ?_, rfl, rfl, raiseLines_user s v hwf⟩
    show execEvtRaise who v s = _
    rw [execEvtRaise, if_pos hmay, ok]
  case refused =>
    show execEvtRaise who v s = _
    rw [execEvtRaise, hmay]
    rfl

/-! ### No FREE ticket (R239) -/

/-- Without a FREE ticket an issue counts in NOTKT. -/
theorem issue_ticketless (s : State) (w d : Nat) (x : Whorl) (kind : TkKind) (bad : Option Status) (now : Bool) (result chan : Option Nat)
    (lease : List Nat) (act : State → Nat → Nat → State) (h : ∀ t : Nat, t < 64 → (getTk x t).st ≠ .free) :
    issue s w d x kind bad now result chan lease act =
      setW s w (advance (setG { x with notkt := min (x.notkt + 1) 65535 } d (BitVec.allOnes 64))) := by
  have hfree : freeTk x = none := List.find?_eq_none.2 fun t ht => by simpa using h t (List.mem_range.1 ht)
  simp only [issue, hfree]
  rfl

/-- Settles O13: each instruction is an issue once it executes. -/
theorem issueWithoutAFreeTicket : Obligations.IssueWithoutAFreeTicket := by
  intro s i w d rs hplain hex hnone
  unfold asyncPlain at hplain
  split at hplain <;> cases hplain
  case h_1 =>
    show execAgw _ _ _ _ _ s = _
    rw [execAgw, insn_executes _ _ _ _ hex, agentIssue, issue_ticketless (h := hnone)]
  case h_2 =>
    show execHalt _ _ _ s = _
    rw [execHalt, insn_executes _ _ _ _ hex, issue_ticketless (h := hnone)]
  case h_3 =>
    show execHaltPlanned _ _ _ _ _ s = _
    rw [execHaltPlanned, insn_executes _ _ _ _ hex, issue_ticketless (h := hnone)]
  case h_4 =>
    show execRun _ _ _ s = _
    rw [execRun, insn_executes _ _ _ _ hex, issue_ticketless (h := hnone)]
  case h_5 =>
    show execStep _ _ _ _ s = _
    rw [execStep, insn_executes _ _ _ _ hex, issue_ticketless (h := hnone)]
  case h_6 =>
    show execSnip _ _ _ s = _
    rw [execSnip, insn_executes _ _ _ _ hex, issue_ticketless (h := hnone)]
  case h_7 =>
    show execTapr _ _ _ _ _ s = _
    rw [execTapr, insn_executes _ _ _ _ hex, agentIssue, issue_ticketless (h := hnone)]
  case h_8 =>
    show execTapc _ _ _ _ s = _
    rw [execTapc, insn_executes _ _ _ _ hex, agentIssue, issue_ticketless (h := hnone)]

end Sys2Proof.Machine
end


section
/-! SUPPORT. Loads and stores of a Whorl over its address map, one lemma for each region of Table 9.2 (R237, R238). -/

namespace Sys2Proof.Machine

/-- An access of 8, 4, 2 or 1 bytes (R237). -/
def Width (n : Nat) : Prop := n = 8 ∨ n = 4 ∨ n = 2 ∨ n = 1

/-- A region that starts at a multiple of 8 keeps alignment. -/
theorem aligned_in_region {n : Nat} (hn : Width n) (base o : Nat) (hb : base % 8 = 0) (h : o % n = 0) : (base + o) % n = 0 := by
  rcases hn with rfl | rfl | rfl | rfl <;> omega

/-- Rights to hub memory depend on the requester's rights and the registers. -/
theorem mayMem_congr {s t : State} {who : Who} (hr : rightsOf t who = rightsOf s who) (hg : t.regs = s.regs) (off n : Nat) (wr : Bool) :
    mayMem t who off n wr = mayMem s who off n wr := by
  simp only [mayMem, hr, unlockLevel, regF, inMap, inHmem, reg, regGet, hg] <;> rfl

/-- A Whorl's rights are its own (R262). -/
theorem mayMem_setW (s : State) (w : Nat) (y : Whorl) (hy : y ≠ Whorl.fresh) (hr : y.rights = (getW s w).rights) (off n : Nat) (wr : Bool) :
    mayMem (setW s w y) (.whorl w) off n wr = mayMem s (.whorl w) off n wr :=
  mayMem_congr (who := .whorl w) ((congrArg Whorl.rights (getW_setW_self s w y hy)).trans hr) rfl _ _ _

/-! ### Loads -/

section
variable (s : State) (w : Nat) (x : Whorl) (n o : Nat)

theorem loadAt_misaligned (a : Nat) (h : a % n ≠ 0) : loadAt s w x a n = .inl .align := if_pos h

theorem loadAt_local (h : (0x1000000 + o) % n = 0) (ho : o < 0x10000) :
    loadAt s w x (0x1000000 + o) n = .inr (word (readLe x.ls o n), s) := by
  rw [loadAt, if_neg (not_not.2 h), if_neg (by omega), if_neg (by simp [inHub]; omega), if_pos (by omega), Nat.add_sub_cancel_left]

theorem loadAt_hub (h : (0x100000 + o) % n = 0) (ho : o < 0x800000) : loadAt s w x (0x100000 + o) n =
    if mayMem s (.whorl w) o n false then .inr (word (readLe s.hubMem o n), s) else .inl .rights := by
  rw [loadAt, if_neg (not_not.2 h), if_neg (by omega), if_pos (by simp [inHub]; omega), Nat.add_sub_cancel_left]

theorem loadAt_rom (h : (0x2000000 + o) % n = 0) (ho : o < 0x80000) :
    loadAt s w x (0x2000000 + o) n = .inr (word (romLe o n), s) := by
  rw [loadAt, if_neg (not_not.2 h), if_neg (by omega), if_neg (by simp [inHub]; omega), if_neg (by omega), if_pos (by omega),
    Nat.add_sub_cancel_left]

theorem loadAt_window (a : Nat) (r : Word × State) (h : a % 8 = 0) (ha : a < 0x20000) (hr : winRead s (.whorl w) a = (0, r)) :
    loadAt s w x a 8 = .inr r := by
  simp [loadAt, h, ha, hr]

end

/-! ### Stores -/

section
variable (s : State) (w n o : Nat) (v : Word)

theorem storeAt_misaligned (a : Nat) (h : a % n ≠ 0) : storeAt s w a n v = .inl .align := if_pos h

/-- A RUNNING Whorl's store above its code area. -/
theorem storeAt_local (y : Whorl) (hy : y.st = .running) (h : (0x1000000 + o) % n = 0) (ho : o < 0x10000) (hc : y.codeBytes ≤ o) :
    storeAt (setW s w y) w (0x1000000 + o) n v = .inr (setW s w { y with ls := writeLe y.ls o n v.toNat }) := by
  have hlisted := ne_fresh_of_running y hy
  have hstored : ({ y with ls := writeLe y.ls o n v.toNat } : Whorl) ≠ Whorl.fresh := ne_fresh_of_running _ hy
  rw [storeAt, getW_setW_self _ _ _ hlisted, if_neg (not_not.2 h), if_neg (by omega), if_neg (by simp [inHub]; omega), if_pos (by omega),
    Nat.add_sub_cancel_left, setW_setW _ _ _ _ hlisted hstored]

/-- The code area takes no stores (R238). -/
theorem storeAt_code (y : Whorl) (hy : y.st = .running) (h : (0x1000000 + o) % n = 0) (ho : o < y.codeBytes) :
    storeAt (setW s w y) w (0x1000000 + o) n v = .inl .addr := by
  rw [storeAt, getW_setW_self _ _ _ (ne_fresh_of_running y hy), if_neg (not_not.2 h), if_neg (by omega), if_neg (by simp [inHub]; omega),
    if_neg (by omega)]

theorem storeAt_hub (h : (0x100000 + o) % n = 0) (ho : o < 0x800000) : storeAt s w (0x100000 + o) n v =
    if mayMem s (.whorl w) o n true then .inr { s with hubMem := writeLe s.hubMem o n v.toNat } else .inl .rights := by
  rw [storeAt, if_neg (not_not.2 h), if_neg (by omega), if_pos (by simp [inHub]; omega), Nat.add_sub_cancel_left]

theorem storeAt_window (a : Nat) (t : State) (h : a % 8 = 0) (ha : a < 0x20000) (hr : winWrite s (.whorl w) a v 0xFF = (0, t)) :
    storeAt s w a 8 v = .inr t := by
  simp only [storeAt, h, ha, hr, ne_eq, not_true_eq_false, if_false, if_true]

end

/-- What a store leaves: its own bytes, and every other as it was. -/
theorem writeLe_bytes (m : List Host.Cell) (o n v : Nat) (h : memWf m = true) : readLe (writeLe m o n v) o n = v % 256 ^ n ∧
    ∀ b : Nat, b < o ∨ o + n ≤ b → tget 0 (writeLe m o n v) b = tget 0 m b :=
  ⟨readLe_writeLe m o n v h, fun b hb => by rw [byte_writeLe m o n v b h, if_neg (by omega)]⟩

end Sys2Proof.Machine
end


section
/-! PROPERTY. The loads and stores of a Whorl by the region of their address. -/

namespace Sys2Proof.Machine

/-! ### LD8 to LD1 -/

/-- A load that executes. -/
theorem exec_loadOf (s : State) (w : Fin 8) (d a : Fin 32) (imm : BitVec 16) {n : Nat} (hn : Width n) (hex : Executes s w [d, a]) :
    exec (loadOf n w d a imm) s = .next (loadInsn s w d a n imm (getW s w)) := by
  rcases hn with rfl | rfl | rfl | rfl
  · exact show execLd8 w d a imm s = _ from insn_executes _ _ _ _ hex
  · exact show execLd4 w d a imm s = _ from insn_executes _ _ _ _ hex
  · exact show execLd2 w d a imm s = _ from insn_executes _ _ _ _ hex
  · exact show execLd1 w d a imm s = _ from insn_executes _ _ _ _ hex

section
variable (s : State) (w d a n : Nat) (imm : BitVec 16) (x : Whorl)

/-- A load that is answered. -/
theorem loadInsn_answered (r : Word × State) (h : loadAt s w x (effAddr x a imm).toNat n = .inr r) :
    loadInsn s w d a n imm x = setW r.2 w (advance (setG (getW r.2 w) d r.1)) := by
  simp only [loadInsn, h, setD]

/-- A load that faults (R261). -/
theorem loadInsn_faults (c : FCode) (h : loadAt s w x (effAddr x a imm).toNat n = .inl c) :
    loadInsn s w d a n imm x = whorlFault s w c (effAddr x a imm) := by
  simp only [loadInsn, h]

end

/-- Settles O9: a load by the region of its address. -/
theorem loadsReadLocalStoreAndHubMemory : Obligations.LoadsReadLocalStoreAndHubMemory := by
  intro s w d a imm n x ad hx hn had hex
  subst hx
  have heff : effAddr (getW s w) a imm = ad := had.symm
  rw [exec_loadOf s w d a imm hn hex]
  have hat {base o : Nat} (h : ad = word (base + o)) (hlt : base + o < 2 ^ 64) : (effAddr (getW s w) a imm).toNat = base + o := by
    rw [heff, h, toNat_word _ hlt]
  refine ⟨fun o ho hlt h => ?_, fun o ho hlt h => ?_, fun o ho hlt h => ?_, fun v t hn8 hal hlt h => ?_, fun hal => ?_⟩
  · rw [loadInsn_answered (h := by
      rw [hat h (by omega)]; exact loadAt_local s w _ n o (aligned_in_region hn _ o (by decide) ho) hlt)]
  · have hload := loadAt_hub s w (getW s w) n o (aligned_in_region hn _ o (by decide) ho) hlt
    rw [← hat h (by omega)] at hload
    cases hmay : mayMem s (.whorl w) o n false with
    | true =>
      rw [hmay, if_pos rfl] at hload
      rw [loadInsn_answered (h := hload), if_pos rfl]
    | false =>
      rw [hmay] at hload
      rw [loadInsn_faults (h := hload), heff]
      rfl
  · rw [loadInsn_answered (h := by
      rw [hat h (by omega)]; exact loadAt_rom s w _ n o (aligned_in_region hn _ o (by decide) ho) hlt)]
  · subst hn8
    rw [loadInsn_answered (h := by rw [heff]; exact loadAt_window s w _ _ (v, t) hal hlt h)]
  · rw [loadInsn_faults (h := by rw [heff]; exact loadAt_misaligned s w _ n _ hal), heff]

/-! ### ST8 to ST1 -/

/-- A store that executes. -/
theorem exec_storeOf (s : State) (w : Fin 8) (d a : Fin 32) (imm : BitVec 16) {n : Nat} (hn : Width n) (hex : Executes s w [d, a]) :
    exec (storeOf n w d a imm) s = .next (storeInsn s w d a n imm (getW s w)) := by
  rcases hn with rfl | rfl | rfl | rfl
  · exact show execSt8 w d a imm s = _ from insn_executes _ _ _ _ hex
  · exact show execSt4 w d a imm s = _ from insn_executes _ _ _ _ hex
  · exact show execSt2 w d a imm s = _ from insn_executes _ _ _ _ hex
  · exact show execSt1 w d a imm s = _ from insn_executes _ _ _ _ hex

section
variable (s : State) (w d a n : Nat) (imm : BitVec 16) (x : Whorl)

/-- A store that acts. -/
theorem storeInsn_acts (t : State) (h : storeAt (setW s w (advance x)) w (effAddr x a imm).toNat n (gReg x d) = .inr t) :
    storeInsn s w d a n imm x = t := by
  simp only [storeInsn, h]

/-- A store that faults (R261). -/
theorem storeInsn_faults (c : FCode) (h : storeAt (setW s w (advance x)) w (effAddr x a imm).toNat n (gReg x d) = .inl c) :
    storeInsn s w d a n imm x = whorlFault s w c (effAddr x a imm) := by
  simp only [storeInsn, h]

end

/-- Settles O10: a store by the region of its address. -/
theorem storesWriteLocalStoreAndHubMemory : Obligations.StoresWriteLocalStoreAndHubMemory := by
  intro s w d a imm n x ad hx hn had hex
  subst hx
  have heff : effAddr (getW s w) a imm = ad := had.symm
  rw [exec_storeOf s w d a imm hn hex]
  have hat {base o : Nat} (h : ad = word (base + o)) (hlt : base + o < 2 ^ 64) : (effAddr (getW s w) a imm).toNat = base + o := by
    rw [heff, h, toNat_word _ hlt]
  have hlisted := advance_ne_fresh _ hex.1
  have hmayAt (o : Nat) : mayMem (setW s w (advance (getW s w))) (.whorl w) o n true = mayMem s (.whorl w) o n true :=
    mayMem_setW s w _ hlisted rfl o n true
  refine ⟨fun o ho hlt h hcode hwf => ?_, fun o ho hlt _ h => ?_, fun o ho hlt h hwf hmay => ?_, fun o ho hlt h hmay => ?_,
    fun t hn8 hal hlt h => ?_, fun hal => ?_⟩
  · refine ⟨_, congrArg _ (storeInsn_acts (h := ?_)), writeLe_bytes _ o n _ hwf⟩
    rw [hat h (by omega)]
    exact storeAt_local s w n o _ _ hex.1 (aligned_in_region hn _ o (by decide) ho) hlt hcode
  · rw [storeInsn_faults (h := by
      rw [hat h (by omega)]; exact storeAt_code s w n o _ _ hex.1 (aligned_in_region hn _ o (by decide) ho) hlt), heff]
  · refine ⟨_, congrArg _ (storeInsn_acts (h := ?_)), writeLe_bytes _ o n _ hwf⟩
    rw [hat h (by omega), storeAt_hub _ w n o _ (aligned_in_region hn _ o (by decide) ho) hlt, hmayAt, if_pos hmay]
    rfl
  · rw [storeInsn_faults (c := .rights), heff]
    rw [hat h (by omega), storeAt_hub _ w n o _ (aligned_in_region hn _ o (by decide) ho) hlt, hmayAt, hmay]
    rfl
  · subst hn8
    rw [storeInsn_acts (h := by rw [heff]; exact storeAt_window _ w _ _ t hal hlt h)]
  · rw [storeInsn_faults (h := by rw [heff]; exact storeAt_misaligned _ w n _ _ hal), heff]


/-! ### Set registers (R252, Table 9.11) -/

/-- The low half of a set register. -/
theorem setLo_eq (v : BitVec 128) : setLo v = v.extractLsb' 0 64 := by
  refine BitVec.eq_of_getLsbD_eq fun i hi => ?_
  simp [setLo, hi]

/-- The high half of a set register. -/
theorem setHi_eq (v : BitVec 128) : (v >>> 64).setWidth 64 = v.extractLsb' 64 64 := by
  refine BitVec.eq_of_getLsbD_eq fun i hi => ?_
  simp [hi]

/-- The halves as numbers. -/
theorem setLo_toNat (v : BitVec 128) : (setLo v).toNat = v.toNat % 2 ^ 64 := BitVec.toNat_setWidth ..

theorem setHi_toNat (v : BitVec 128) : ((v >>> 64).setWidth 64 : Word).toNat = v.toNat / 2 ^ 64 := by
  rw [BitVec.toNat_setWidth, BitVec.toNat_ushiftRight, Nat.shiftRight_eq_div_pow]
  have hlt := v.isLt
  omega

/-- Bits of a descriptor with its engine mask replaced. -/
theorem withEng_getLsbD (v : BitVec 128) (u : Word) (i : Nat) (hi : i < 128) : (withEng v (bits u 3 0)).getLsbD i =
    if 120 ≤ i ∧ i < 124 then u.getLsbD (i - 120) else v.getLsbD i := by
  have hmask : (0xF#128).getLsbD (i - 120) = decide (i - 120 < 4) := by
    rw [show (0xF#128) = BitVec.ofNat 128 (2 ^ 4 - 1) from rfl, BitVec.getLsbD_ofNat, Nat.testBit_two_pow_sub_one,
      decide_eq_true (by omega), Bool.true_and]
  have hfield : (BitVec.ofNat 128 (bits u 3 0 % 16)).getLsbD (i - 120) = (decide (i - 120 < 4) && u.getLsbD (i - 120)) := by
    rw [bits_zero, show (16 : Nat) = 2 ^ 4 from rfl, Nat.mod_mod, BitVec.getLsbD_ofNat, Nat.testBit_mod_two_pow, BitVec.testBit_toNat,
      decide_eq_true (by omega), Bool.true_and]
  simp only [withEng, BitVec.getLsbD_or, BitVec.getLsbD_and, BitVec.getLsbD_not, BitVec.getLsbD_shiftLeft, hmask, hfield, hi]
  by_cases h120 : 120 ≤ i
  · by_cases h124 : i < 124
    · simp [h120, h124, Nat.not_lt.2 h120, show i - 120 < 4 by omega]
    · simp [h120, h124, show ¬ i - 120 < 4 by omega]
  · simp [h120, Nat.not_le.1 h120]

section
variable (s : State) (w : Nat) (x : Whorl) (a : Nat)

/-- An address not aligned to 16 (R252). -/
theorem loadSet_misaligned (h : a % 16 ≠ 0) : loadSet s w x a = .inl .align := by
  simp only [loadSet, setAddrBad, if_pos h]

theorem storeSet_misaligned (v : BitVec 128) (h : a % 16 ≠ 0) : storeSet s w a v = .inl .align := by
  simp only [storeSet, setAddrBad, if_pos h]

variable (h : a % 16 = 0) (ha : 0x20000 ≤ a)
include h ha

/-- The 16 bytes that two loads answer. -/
theorem loadSet_halves (lo hi : Word × State) (hlo : loadAt s w x a 8 = .inr lo) (hhi : loadAt s w x (a + 8) 8 = .inr hi) :
    loadSet s w x a = .inr (hi.1 ++ lo.1) := by
  simp only [loadSet, setAddrBad, h, ne_eq, not_true_eq_false, if_false, if_neg (Nat.not_lt.2 ha), hlo, hhi]

/-- The 16 bytes as two stores. -/
theorem storeSet_halves (v : BitVec 128) (t u : State) (hlo : storeAt s w a 8 (setLo v) = .inr t)
    (hhi : storeAt t w (a + 8) 8 ((v >>> 64).setWidth 64) = .inr u) : storeSet s w a v = .inr u := by
  simp only [storeSet, setAddrBad, h, ne_eq, not_true_eq_false, if_false, if_neg (Nat.not_lt.2 ha), hlo, hhi]

end

section
variable (s : State) (w : Fin 8) (sd sa : Fin 16) (ga : Fin 32) (hex : Executes s w [ga])
include hex

theorem exec_sld (v : BitVec 128) (h : loadSet s w (getW s w) (gReg (getW s w) ga).toNat = .inr v) :
    exec (.sld w sd ga) s = .next (setW s w (advance (setSr (getW s w) sd v))) := by
  show execSld w sd ga s = _
  simp only [execSld, insn_executes _ _ _ _ hex, h]

theorem exec_sst (t : State) (h : storeSet (setW s w (advance (getW s w))) w (gReg (getW s w) ga).toNat (sReg (getW s w) sa) = .inr t) :
    exec (.sst w sa ga) s = .next t := by
  show execSst w sa ga s = _
  simp only [execSst, insn_executes _ _ _ _ hex, h]

/-- A set register's address that is not aligned to 16 faults. -/
theorem exec_setAccess_misaligned (h : (gReg (getW s w) ga).toNat % 16 ≠ 0) :
    exec (.sld w sd ga) s = .next (whorlFault s w .align (gReg (getW s w) ga)) ∧
      exec (.sst w sa ga) s = .next (whorlFault s w .align (gReg (getW s w) ga)) := by
  refine ⟨?_, ?_⟩
  · show execSld w sd ga s = _
    simp only [execSld, insn_executes _ _ _ _ hex, loadSet_misaligned _ _ _ _ h]
  · show execSst w sa ga s = _
    simp only [execSst, insn_executes _ _ _ _ hex, storeSet_misaligned _ _ _ _ h]

end

/-- Settles O8: the moves by name, and the accesses as two accesses of 8 bytes each. -/
theorem setRegisterInstructions : Obligations.SetRegisterInstructions := by
  intro s w sd sa ga gb x hx
  subst hx
  refine ⟨fun hex => ⟨show execSmk w sd ga gb s = _ from insn_executes _ _ _ _ hex, ?srd⟩,
    fun hex => show execSmv w sd sa s = _ from insn_executes _ _ _ _ hex,
    fun hex => ⟨_, show execSeng w sd sa gb s = _ from insn_executes _ _ _ _ hex, withEng_getLsbD _ _⟩,
    fun hex o ho hlt h => ?local_, fun hex o ho hlt h => ?hub, fun hex h => exec_setAccess_misaligned s w sd sa ga hex h⟩
  case srd =>
    show execSrd w sa ga gb s = _
    simp only [execSrd, insn_executes _ _ _ _ hex, setD, setLo_eq, setHi_eq]
  case local_ =>
    have hat : (gReg (getW s w) ga).toNat = 0x1000000 + o := by rw [h, toNat_word _ (by omega)]
    refine ⟨exec_sld s w sd ga hex _ ?_, fun hcode => exec_sst s w sa ga hex _ ?_⟩ <;> rw [hat]
    · refine loadSet_halves _ _ _ _ (by omega) (by omega) (_, s) (_, s) (loadAt_local s w _ 8 o (by omega) hlt) ?_
      rw [Nat.add_assoc]
      exact loadAt_local s w _ 8 (o + 8) (by omega) (by omega)
    · rw [← setLo_toNat, ← setHi_toNat]
      refine storeSet_halves _ _ _ (by omega) (by omega) _ _ _ (storeAt_local s w 8 o _ _ hex.1 (by omega) hlt hcode) ?_
      rw [Nat.add_assoc]
      exact storeAt_local s w 8 (o + 8) _ _ hex.1 (by omega) (by omega) (Nat.le_add_right_of_le hcode)
  case hub =>
    have hat : (gReg (getW s w) ga).toNat = 0x100000 + o := by rw [h, toNat_word _ (by omega)]
    have hlisted := advance_ne_fresh _ hex.1
    refine ⟨fun hlo hhi => exec_sld s w sd ga hex _ ?_, fun hlo hhi => exec_sst s w sa ga hex _ ?_⟩ <;> rw [hat]
    · refine loadSet_halves _ _ _ _ (by omega) (by omega) (word (readLe s.hubMem o 8), s) (word (readLe s.hubMem (o + 8) 8), s) ?_ ?_
      · rw [loadAt_hub s w _ 8 o (by omega) hlt, if_pos hlo]
      · rw [Nat.add_assoc, loadAt_hub s w _ 8 (o + 8) (by omega) (by omega), if_pos hhi]
    · rw [← setLo_toNat, ← setHi_toNat]
      have hfirst := storeAt_hub (setW s w (advance (getW s w))) w 8 o (setLo (sReg (getW s w) sa)) (by omega) hlt
      rw [mayMem_setW s w _ hlisted rfl, if_pos hlo] at hfirst
      refine storeSet_halves _ _ _ (by omega) (by omega) _ _ _ hfirst ?_
      rw [Nat.add_assoc, storeAt_hub _ w 8 (o + 8) _ (by omega) (by omega), if_pos]
      · rfl
      · exact (mayMem_setW s w _ hlisted rfl _ _ _).trans hhi

end Sys2Proof.Machine
end


section
/-! SUPPORT. Issue with a FREE ticket: the operation it hands on, the ticket that a failed check ends at once, and buffers (R239, R240,
R267, R268). -/

namespace Sys2Proof.Machine

/-! ### Tickets at issue -/

/-- An agent operation of a Whorl, before its instruction's own part. -/
def issuedOp (s : State) (w t : Nat) (set : BitVec 128) (type : OpType) (reg : Nat) : Op :=
  mkOp s.opCtr w (getW s w).dl (.ticket w t) set (opSites s set) type reg

section
variable (s : State) (w d t : Nat) (kind : TkKind) (h : LowestFree (getW s w) t)
include h

/-- A failed check ends the ticket at once, and nothing is issued (R268). -/
theorem issue_refused (st : Status) (now : Bool) (result chan : Option Nat) (lease : List Nat) (act : State → Nat → Nat → State) :
    issue s w d (getW s w) kind (some st) now result chan lease act = Ticketed s w d t (RefusedTicket s w kind st) := by
  simp only [issue, freeTk_of_lowestFree _ _ h]
  rfl

section
variable (set : BitVec 128) (result : Option Nat) (lease : List Nat) (mk : Op → Op) (type : OpType) (reg : Nat)

/-- An agent operation whose checks pass goes to its issuer with the sites of its set (R253, R270). -/
theorem agentIssue_passed (hs : opSites s set ≠ []) : agentIssue s w d (getW s w) kind set none result lease mk type reg =
    issueOp (Ticketed s w d t (PendingTicket s w kind none result none lease))
      (mk (issuedOp s w t set type reg)) := by
  rw [agentIssue, if_neg hs, Option.or_none, issue_passed _ _ _ _ _ _ _ _ _ _ h]
  rfl

/-- One whose check fails is not issued. -/
theorem agentIssue_refused (st : Status) : agentIssue s w d (getW s w) kind set (some st) result lease mk type reg =
    Ticketed s w d t (RefusedTicket s w kind st) := by
  rw [agentIssue, Option.some_or, issue_refused _ _ _ _ _ h]

/-- One whose set names no agent ends NOAGENT (R268). -/
theorem agentIssue_nobody (hs : opSites s set = []) : agentIssue s w d (getW s w) kind set none result lease mk type reg =
    Ticketed s w d t (RefusedTicket s w kind .noagent) := by
  rw [agentIssue, if_pos hs, Option.none_or, issue_refused _ _ _ _ _ h]

end

end

/-! ### Buffers (R267) -/

/-- An instruction whose buffer is good goes on. -/
theorem withBuf_good (s : State) (w a : Nat) (go : State) : withBuf s w a none go = go := rfl

/-- One whose buffer is bad faults at its address. -/
theorem withBuf_bad (s : State) (w : Nat) (v : Word) (c : FCode) (go : State) :
    withBuf s w v.toNat (some c) go = whorlFault s w c v := by
  rw [withBuf, word_toNat_self]

section
variable (s : State) (w : Nat) (x : Whorl) (a n align : Nat) (wr : Bool)

theorem bufBad_misaligned (h : a % align ≠ 0) : bufBad s w x a n align wr = some .align := if_pos h

theorem bufBad_local (h : a % align = 0) (hlo : 0x1000000 ≤ a) (hhi : a + n ≤ 0x1010000) :
    bufBad s w x a n align wr = if wr ∧ a < 0x1000000 + x.codeBytes then some .addr else none := by
  rw [bufBad, if_neg (not_not.2 h), if_pos ⟨hlo, hhi⟩]

theorem bufBad_hub (h : a % align = 0) (hlo : 0x100000 ≤ a) (hhi : a + n ≤ 0x900000) :
    bufBad s w x a n align wr = if mayMem s (.whorl w) (a - 0x100000) n wr then none else some .rights := by
  rw [bufBad, if_neg (not_not.2 h), if_neg (by omega), if_pos ⟨hlo, hhi⟩]

theorem bufBad_outside (h : a % align = 0) (hl : ¬ (0x1000000 ≤ a ∧ a + n ≤ 0x1010000))
    (hh : ¬ (0x100000 ≤ a ∧ a + n ≤ 0x900000)) :
    bufBad s w x a n align wr = some .addr := by
  rw [bufBad, if_neg (not_not.2 h), if_neg hl, if_neg hh]

end

/-! ### Leases named by an instruction -/

/-- Resources of which one is not held have no codes. -/
theorem leaseCodes_none (x : Whorl) (w : Nat) (l : List Word) (v : Word) (hv : v ∈ l) (h : heldBy x v = none) : leaseCodes x w l = none := by
  induction l with
  | nil => cases hv
  | cons u l ih =>
    rw [leaseCodes]
    rcases List.mem_cons.1 hv with rfl | hv
    · rw [h]; rfl
    · rw [ih hv]; cases heldBy x u <;> rfl

/-- One resource held under a handle. -/
theorem leaseCodes_single (x : Whorl) (w : Nat) (v : Word) (h : Nat) (hh : heldBy x v = some h) : leaseCodes x w [v] = some [64 * w + h] := by
  simp only [leaseCodes, hh, Option.bind_some, Option.map_some]

end Sys2Proof.Machine
end


section
/-! PROPERTY. The agent instructions issue their operation, and checks and buffers at issue refuse it. -/

namespace Sys2Proof.Machine

/-- Settles O14: each instruction's checks pass, so that its operation follows its ticket. -/
theorem agentInstructionsIssueTheirOperation : Obligations.AgentInstructionsIssueTheirOperation := by
  intro s w d b sa reg red rd x set t hx hset hex hfree hform hrights hsites mine
  subst hx hset
  have hissue := agentIssue_passed s w d t .agent hfree (sReg (getW s w) sa) (hs := hsites)
  refine ⟨?agw, fun hone hred => ?agr, fun o ho hal hfit hmay => ?collect, fun o n ho hn hzero hfit hmay hkind => ?lm⟩
  case agw =>
    refine ⟨{ issuedOp s w t (sReg (getW s w) sa) .write reg.toNat with data := [gReg (getW s w) b] },
      ⟨rfl, rfl, rfl, rfl, rfl, rfl, rfl⟩, rfl, rfl, rfl, ?_⟩
    show execAgw w d sa b reg s = _
    simp only [execAgw, insn_executes _ _ _ _ hex, hform, hrights, checks_pass, hissue]
  case agr =>
    refine ⟨{ issuedOp s w t (sReg (getW s w) sa) .read reg.toNat with red := red, buf := (gReg (getW s w) b).toNat - 0x100000 },
      ⟨rfl, rfl, rfl, rfl, rfl, rfl, rfl⟩, rfl, rfl, rfl, ?_⟩
    have hgood : (decide (red ≠ .none) || kindOne (sReg (getW s w) sa)) = true := by simpa [kindOne] using hone
    show execAgr w d sa b reg red s = _
    simp only [execAgr, insn_executes _ _ _ _ hex, decide_eq_false hred, hform, hgood, hrights, Bool.not_false, Bool.true_or, Bool.and_self,
      Bool.false_eq_true, if_false, withBuf_good, checks_pass, hissue]
  case collect =>
    have hat : (gReg (getW s w) b).toNat = 0x100000 + o := by rw [ho, toNat_word _ (by omega)]
    have hbuf : bufBad s w (getW s w) (0x100000 + o) (16 + 16 * (opSites s (sReg (getW s w) sa)).length) 16 true = none := by
      rw [bufBad_hub _ _ _ _ _ _ _ (by omega) (by omega) (by omega), Nat.add_sub_cancel_left, hmay, if_pos rfl]
    refine ⟨{ issuedOp s w t (sReg (getW s w) sa) .read reg.toNat with red := .collect, buf := 0x100000 + o - 0x100000 },
      ⟨rfl, rfl, rfl, rfl, rfl, rfl, rfl⟩, rfl, rfl, rfl, Nat.add_sub_cancel_left .., ?_⟩
    show execAgr w d sa b reg .collect s = _
    simp only [execAgr, insn_executes _ _ _ _ hex, hat, hbuf, hform, hrights, decide_true, if_true, withBuf_good, ne_eq, reduceCtorEq,
      not_false_eq_true, Bool.true_or, Bool.and_self, Bool.not_true, Bool.false_or, decide_eq_true (show 0x100000 + o < 0x1000000 by omega),
      checks_pass, hissue]
  case lm =>
    refine ⟨lmdOp s (gReg (getW s w) b) rd (issuedOp s w t (sReg (getW s w) sa) (if rd then .lmRead else .lmWrite) 0),
      ⟨rfl, rfl, rfl, rfl, rfl, rfl, rfl⟩, rfl, rfl, hn.symm, ho.symm, rfl, ?_, ?_⟩
    · rintro rfl
      rw [ho, hn]
      rfl
    · have hform' : lmdForm s (sReg (getW s w) sa) (gReg (getW s w) b) rd = true := by
        have hone : (!rd || lmdStr (gReg (getW s w) b) || kindOne (sReg (getW s w) sa)) = true := by
          cases rd with
          | false => rfl
          | true => simpa [kindOne, lmdStr] using hkind rfl
        rw [lmdForm, hform, hzero, hone, lmdBuf, lmdWords, ← ho, ← hn, decide_eq_true hfit]
        rfl
      have hbuf : (decide (o + 8 * n ≤ 0x800000) && !(rd && lmdStr (gReg (getW s w) b)) && !mayMem s (.whorl w) o (8 * n) rd) = false := by
        cases hused : rd && lmdStr (gReg (getW s w) b) with
        | true => simp
        | false => rw [hmay (Bool.and_eq_false_iff.1 hused)]; simp
      show execAgrLm w d sa b rd s = _
      simp only [execAgrLm, insn_executes _ _ _ _ hex, lmdBuf, lmdWords, ← ho, ← hn, hbuf, hform', hrights, Bool.false_eq_true, if_false,
        withBuf_good, checks_pass, hissue]

/-- A tap entry that the Whorl does not hold at one core of a set leaves the set without codes (R277). -/
theorem tapCodes_none (s : State) (x : Whorl) (w j i c : Nat) (set : BitVec 128) (hi : i ∈ opSites s set) (hc : coreOf s i = some c)
    (hheld : heldBy x (tapLease j c) = none) : tapCodes s x w j set = none :=
  leaseCodes_none _ _ _ _ (List.mem_map.2 ⟨c, List.mem_filterMap.2 ⟨i, hi, hc⟩, rfl⟩) hheld

/-- Settles O15: the checks end the ticket in their order, and a bad buffer faults before any ticket is taken. -/
theorem checksAndBuffersAtIssue : Obligations.ChecksAndBuffersAtIssue := by
  refine ⟨fun s w d b sa reg j x set t hx hset hfree => ?checks, fun s w d a b sa j cls units area n x c hx => ?buffers,
    fun s w x a n wr => ⟨bufBad_misaligned s w x a n 8 wr, bufBad_local s w x a n 8 wr, bufBad_hub s w x a n 8 wr,
      bufBad_outside s w x a n 8 wr⟩⟩
  case checks =>
    subst hx hset
    refine ⟨fun hex hform => ?form, fun hex hform hrights => ?rights, fun hex hform hrights hsites => ?nobody,
      fun hex hform hrights ⟨i, c, hi, hc, hheld⟩ => ?locked⟩
    case form =>
      show execAgw w d sa b reg s = _
      simp only [execAgw, insn_executes _ _ _ _ hex, checks, hform, Bool.not_false, if_true, agentIssue_refused s w d t .agent hfree]
    case rights =>
      show execAgw w d sa b reg s = _
      simp only [execAgw, insn_executes _ _ _ _ hex, checks, hform, hrights, Bool.not_true, Bool.not_false, Bool.false_eq_true, if_false,
        if_true, agentIssue_refused s w d t .agent hfree]
    case nobody =>
      show execAgw w d sa b reg s = _
      simp only [execAgw, insn_executes _ _ _ _ hex, hform, hrights, checks_pass, agentIssue_nobody s w d t .agent hfree (hs := hsites)]
    case locked =>
      show execTapc w d sa j s = _
      simp only [execTapc, insn_executes _ _ _ _ hex, checks, hform, hrights, tapCodes_none s _ w j i c _ hi hc hheld, Option.isSome_none,
        Bool.not_true, Bool.not_false, Bool.false_eq_true, if_false, if_true, agentIssue_refused s w d t .tap hfree]
  case buffers =>
    subst hx
    refine ⟨fun hex hbad => ?tap, fun hex => ⟨fun hcls hlo hhi hbad => ?emit, fun hbad => ?commit,
      fun hbad => ?send, fun hbad => ?recv⟩⟩
    case tap =>
      show execTap w d sa b j s = _
      simp only [execTap, insn_executes _ _ _ _ hex, hbad, withBuf_bad]
    case emit =>
      show execEmit w d a b cls units s = _
      simp only [execEmit, if_neg (show ¬ (3 < cls.val ∨ units.val = 0 ∨ units.val = 15) by omega),
        insn_executes _ _ _ _ hex, hbad, withBuf_bad]
    case commit =>
      show execCommit w d a b area s = _
      simp only [execCommit, insn_executes _ _ _ _ hex, hbad, withBuf_bad]
    case send =>
      show execSend w d a b n s = _
      simp only [execSend, insn_executes _ _ _ _ hex, hbad, withBuf_bad]
    case recv =>
      show execRecv w d a b n s = _
      simp only [execRecv, insn_executes _ _ _ _ hex, hbad, withBuf_bad]

end Sys2Proof.Machine
end


section
/-! PROPERTY. EMIT, COMMIT, SEND and RECV hand their buffer on (R278, R279, R285, R286). -/

namespace Sys2Proof.Machine

/-! ### Records -/

/-- The fields of a record's header are the numbers it is made of (Table 5.2). -/
theorem mkRec_fields (src type cls body : Nat) (pay : List Word) (hsrc : src < 2 ^ 16) (htype : type < 32) (hcls : cls < 8)
    (hbody : body < 2 ^ 36) (hpay : pay.length < 16) :
    recSrc (mkRec src type cls body pay) = src ∧ recType (mkRec src type cls body pay) = type ∧
    recCls (mkRec src type cls body pay) = cls ∧ recBody (mkRec src type cls body pay) = body := by
  simp only [recSrc, recType, recCls, recBody, mkRec, bits, word_toNat]
  omega

/-- A buffer holds the units asked for. -/
theorem bufUnits_length (s : State) (x : Whorl) (a n : Nat) : (bufUnits s x a n).length = n := by
  unfold bufUnits readUnits
  split <;> simp

/-- Taking a ticket leaves the units of every buffer. -/
theorem bufUnits_ticketed (s : State) (w d t : Nat) (k : Ticket) (x : Whorl) (a n : Nat) :
    bufUnits (Ticketed s w d t k) x a n = bufUnits s x a n := rfl

/-! ### Words that name a channel -/

/-- The fields of a word that names a destination and a channel (R285). -/
theorem sendWord_fields (dst ch : Nat) (hch : ch < 8) (hdst : dst < 128) :
    bits (word (dst * 2 ^ 8 + ch)) 2 0 = ch ∧ bits (word (dst * 2 ^ 8 + ch)) 14 8 = dst ∧ bits (word (dst * 2 ^ 8 + ch)) 63 15 = 0 ∧
    bits (word (dst * 2 ^ 8 + ch)) 7 3 = 0 := by
  simp only [bits, word_toNat]
  omega

/-! ### Areas of the Hank store -/

/-- A length in the range of an area names one of the five areas of Table 10.5. -/
theorem commitArea_some {area n : Nat} {ar : Area} (h : commitArea area n = some ar) : area ≤ 4 := by
  by_contra hlt
  obtain ⟨k, rfl⟩ : ∃ k, area = k + 5 := ⟨area - 5, by omega⟩
  cases h

/-- Settles O18: the checks pass, and each instruction's own effect follows its ticket. -/
theorem emitCommitSendAndReceiveIssue : Obligations.EmitCommitSendAndReceiveIssue := by
  intro s w d a b cls units area n x t o hx hfree hroot hex tk
  subst hx
  refine ⟨fun hcls hlo hhi ho hbuf => ?emit, fun len ar codes s1 ho hlen har hbuf hnone hmover hs1 => ?commit,
    fun ch dst h hch hdst hword ho hbuf hheld hroute s1 c hs1 hc => ?send, fun ch hch hword hchan ho hbuf => ?recv⟩
  case emit =>
    have hfields := mkRec_fields (srcDistaff w) 9 cls (bits (gReg (getW s w) b) 35 0) (word s.ht :: bufUnits s (getW s w) o units)
      (by unfold srcDistaff; omega) (by omega) cls.isLt (bits_lt _ 35 0) (by rw [List.length_cons, bufUnits_length]; omega)
    obtain ⟨hsrc, htype, hclass, hbody⟩ := hfields
    refine ⟨_, hsrc, htype, hclass, hbody, rfl, ?_⟩
    show execEmit w d a b cls units s = _
    simp only [execEmit, if_neg (show ¬ (3 < cls.val ∨ units.val = 0 ∨ units.val = 15) by omega), insn_executes _ _ _ _ hex, ← ho, hbuf,
      withBuf_good, hroot, checks_pass, issue_passed _ _ _ _ _ _ _ _ _ _ hfree, if_true, tk]
  case commit =>
    have hcodes : (if area.val = 3 ∨ area.val = 4 then leaseCodes (getW s w) w [moverLease] else some []) = some codes := by
      have hle := commitArea_some har
      split
      case isTrue h => exact hmover (by omega)
      case isFalse h => rw [hnone (by omega)]
    show execCommit w d a b area s = _
    simp only [execCommit, insn_executes _ _ _ _ hex, ← ho, ← hlen, hbuf, withBuf_good, har, hcodes, Option.isSome_some, hroot, checks_pass,
      issue_passed _ _ _ _ _ _ _ _ _ _ hfree, if_true, Option.getD_some, hs1, tk, bufUnits_ticketed]
  case send =>
    obtain ⟨hbch, hbdst, hbhi, hbmid⟩ := sendWord_fields dst ch hch hdst
    show execSend w d a b n s = _
    simp only [execSend, insn_executes _ _ _ _ hex, ← ho, hbuf, withBuf_good, hword, hbch, hbdst, hbhi, hbmid,
      leaseCodes_single _ _ _ _ hheld,
      hroot, Option.isSome_some, beq_self_eq_true, Bool.and_self, checks_pass, Option.isNone_iff_eq_none, Option.isSome_iff_ne_none.1 hroute,
      if_false, Option.or_none, issue_passed _ _ _ _ _ _ _ _ _ _ hfree, if_true, Option.getD_some, hs1, hc, tk,
      bufUnits_ticketed]
  case recv =>
    show execRecv w d a b n s = _
    simp only [execRecv, insn_executes _ _ _ _ hex, ← ho, hbuf, withBuf_good, hword, bits_word_low ch 2 hch (by decide),
      bits_word_high ch 63 3 hch, beq_self_eq_true, hchan, Bool.and_self, hroot, checks_pass, issue_passed _ _ _ _ _ _ _ _ _ _ hfree,
      if_true, tk]
    rfl

end Sys2Proof.Machine
end


section
/-! PROPERTY. What a reset leaves (R236, R280, R399). -/

namespace Sys2Proof.Machine

/-- A Whorl of the reset state is fresh, and holds no lease. -/
theorem getLease_reset (w h : Nat) : getLease (getW State.reset w) h = none := rfl

/-- Settles O2: every table of the reset state is empty, so that each reads as its reset value. -/
theorem resetLeavesTheTablesValues : Obligations.ResetLeavesTheTablesValues := by
  have hcut : reg State.reset rPrtCutTmo = 4000 := by decide
  have hlead : reg State.reset rPrtLead = 512 := by decide
  have htmo : reg State.reset rDmpTmo = 4000000000 := by decide
  have hapart : LeasesApart State.reset := by
    intro w v h k _ _ _ _ a b _ ha _
    rw [getLease_reset] at ha
    cases ha
  exact ⟨rfl, rfl, rfl, fun _ => rfl, rfl, fun _ => by simp [gReg, Whorl.fresh, tget], rfl, rfl, fun _ => rfl, fun _ => rfl, fun _ => rfl,
    fun _ => rfl, hcut, hlead, htmo, rfl, hapart⟩

end Sys2Proof.Machine
end


section
/-! PROPERTY. A Whorl stops, starts and faults (R260, R261), and its local store is read and written from outside (R263). -/

namespace Sys2Proof.Machine

/-! ### A raised line, whatever form the readers' copies have -/

/-- A table keeps the entries of the keys that gain no bits. -/
theorem tget_orAll_other (t : Tab Word) (m : Word) (l : List Nat) (k : Nat) (hk : k ∉ l) :
    tget 0 (l.foldl (fun t k => tput 0 t k (tget 0 t k ||| m)) t) k = tget 0 t k := by
  induction l generalizing t with
  | nil => rfl
  | cons a l ih =>
    rw [List.mem_cons, not_or] at hk
    rw [List.foldl_cons, ih _ hk.2, tget_tput_ne _ _ _ _ _ hk.1]

/-- Lines raised for the readers of a list stand in the copy of each. -/
theorem tget_orAll_raised (t : Tab Word) (m : Word) (l : List Nat) (k : Nat) (hm : m ≠ 0) (hl : l.Nodup) (hk : k ∈ l) :
    tget 0 (l.foldl (fun t k => tput 0 t k (tget 0 t k ||| m)) t) k = tget 0 t k ||| m := by
  induction l generalizing t with
  | nil => cases hk
  | cons a l ih =>
    obtain ⟨ha, hl⟩ := List.nodup_cons.1 hl
    rw [List.foldl_cons]
    by_cases hka : k = a
    · subst hka
      rw [tget_orAll_other _ _ _ _ ha, tget_tput_self (0 : Word) _ _ _ fun h => hm (BitVec.or_eq_zero_iff.1 h).2]
    · rw [ih _ hl ((List.mem_cons.1 hk).resolve_left hka), tget_tput_ne _ _ _ _ _ hka]

/-- A line raised stands in every reader's copy. -/
theorem lineRaised_raiseLine (s : State) (n : Nat) (hn : n < 64) : LineRaised (raiseLine s n) n := by
  intro k hk
  have hbit : (word (2 ^ n)).getLsbD n = true := by rw [word_pow_getLsbD]; simp [hn]
  have hm : word (2 ^ n) ≠ 0 := fun h => by simp [h] at hbit
  have e : (raiseLine s n).evPend = (List.range 9).foldl (fun t k => tput 0 t k (tget 0 t k ||| word (2 ^ n))) s.evPend := rfl
  rw [e, tget_orAll_raised _ _ _ _ hm List.nodup_range (List.mem_range.2 hk), BitVec.getLsbD_or, hbit, Bool.or_true]

/-- A hub event's record depends on the funnel and the time alone. -/
theorem hevt_funnel_congr (s t : State) (code arg : Nat) (pay : List Word) (hf : s.funnel = t.funnel) (ht : s.ht = t.ht) :
    (hevt s code arg pay).funnel = (hevt t code arg pay).funnel := by
  rw [hevt, hevt, ht]
  exact pushLocal_congr _ _ _ hf

/-- The unit of a local store that a requester's own WHL_LS_ADDR names. -/
def lsAddrAt (s : State) (who : Who) (w : Nat) : Nat :=
  bits (regGet s (keyWho who (rWhlLsAddr + 0x100 * w)) (rWhlLsAddr + 0x100 * w)) 15 3 * 8

/-- The state after it has moved to the next unit, wrapping (R263). -/
def lsAddrNext (s : State) (who : Who) (w : Nat) : State :=
  regPut s (keyWho who (rWhlLsAddr + 0x100 * w)) (rWhlLsAddr + 0x100 * w) (word ((lsAddrAt s who w + 8) % 65536))

/-- A write of an open Whorl's local store stores its unit; every other access moves the address alone. -/
theorem lsAccess_eq (s : State) (who : Who) (w : Nat) (wr : Bool) (v : Word) : (lsAccess s who w wr v).2 =
    if wr ∧ whorlOpen (getW s w) = true then
      setW (lsAddrNext s who w) w { getW s w with ls := writeLe (getW s w).ls (lsAddrAt s who w) 8 v.toNat }
    else lsAddrNext s who w := by
  have hsame : getW (lsAddrNext s who w) w = getW s w := rfl
  change (if (!whorlOpen (getW (lsAddrNext s who w) w)) = true then _ else _ : Word × State).2 = _
  rw [hsame]
  cases whorlOpen (getW s w) <;> cases wr <;> rfl

/-- The states in which the local store is open. -/
theorem whorlOpen_iff (x : Whorl) : whorlOpen x = true ↔ x.st = .reset ∨ x.st = .loaded ∨ x.st = .stopped ∨ x.st = .fault := by
  simp only [whorlOpen, Bool.or_eq_true, beq_iff_eq, or_assoc]

/-! ### Settled -/

/-- Settles O22: each case of Table 9.15, by the Whorl's state. -/
theorem whorlStopStartAndFault : Obligations.WhorlStopStartAndFault := by
  intro s who w code addr x hx
  subst hx
  refine ⟨fun hmay => ?stop, fun hmay => ?start, fun hno => if_neg (Bool.eq_false_iff.1 hno),
    fun hno => if_neg (Bool.eq_false_iff.1 hno), fun hrun => ?fault, fun hidle => if_neg hidle⟩
  case stop =>
    have hexec : execWhorlStop who w s = ok (whorlStop s w) := if_pos hmay
    exact ⟨fun hst => hexec.trans (congrArg ok (if_pos hst)), fun hst => hexec.trans (congrArg ok (if_neg hst))⟩
  case start =>
    have hexec : execWhorlStart who w s = ok (whorlStart s w) := if_pos hmay
    exact ⟨fun hst => hexec.trans (congrArg ok (if_pos hst)),
      fun hl hs => hexec.trans (congrArg ok (if_neg (not_or.2 ⟨hl, hs⟩)))⟩
  case fault =>
    have hexec : execWhorlFault w code addr s = ok (whorlFault s w code addr) := if_pos hrun
    refine ⟨_, hexec, ?_, ?_, ?_, ?_, ?_, fun v hv => ?_⟩
    · rw [whorlFault, getW, hevt_whorls, raiseLine_whorls]
      exact getW_setW_self _ _ _ fun h => by cases congrArg Whorl.st h
    · exact lineRaised_of_evPend (lineRaised_raiseLine _ 6 (by decide)) (hevt_evPend ..)
    · exact hevt_funnel_congr _ _ _ _ _ rfl rfl
    · exact hevt_hubMem ..
    · exact hevt_regs ..
    · rw [whorlFault, getW, hevt_whorls, raiseLine_whorls]
      exact getW_setW_ne _ _ _ _ hv

/-- Settles O25: the register of the address takes the next unit, and the local store the unit written when the Whorl is open. -/
theorem localStoreWindowAdvances : Obligations.LocalStoreWindowAdvances := by
  intro s who w wr v x k a hx hk ha
  subst hx hk ha
  refine ⟨fun hmay => ?_, fun hno => if_neg (by simp [hno])⟩
  have hexec : execWhlLsDataAccess who w wr v s = ok (lsAccess s who w wr v).2 := if_pos hmay
  have hregs : (lsAccess s who w wr v).2.regs = (lsAddrNext s who w).regs := by
    rw [lsAccess_eq]
    split <;> rfl
  refine ⟨_, hexec, fun hwf => ?_, fun j o hj => ?_, ?_⟩
  · rw [regGet, hregs]
    exact regGet_regPut_self _ _ _ _ hwf
  · rw [regGet, hregs]
    exact regGet_regPut_ne _ _ _ _ _ _ hj
  · rw [lsAccess_eq]
    simp only [whorlOpen_iff]
    split <;> rfl

end Sys2Proof.Machine
end


section
/-! PROPERTY. Timers expire and leases lapse (R247, R282), on a table of Whorls that lists one Whorl twice. -/

namespace Sys2Proof.Machine

/-- A lease of the D stream's lanes, which resets nothing at its end (Table 10.7), with an expiry. -/
def spareLease : Lease := ⟨word (2 * 2 ^ 60), some 0⟩

/-- A Whorl that holds that lease under handle 0 and is otherwise in its reset state. -/
def spareHolder : Whorl := { Whorl.fresh with leases := [(0, some spareLease)] }

/-- A Whorl with an agent operation PENDING under the lease of handle 0 of Whorl 0. -/
def spareWaiter : Whorl := { Whorl.fresh with tk := [(0, { Ticket.fresh with st := .pending, lease := [0] })] }

/-- A state whose table lists Whorl 0 twice. Reading it shows the holder; at the lease's end the holder is as after reset and is no longer
listed, and the waiter behind it shows. -/
def shadowed : State := { State.reset with whorls := [(0, spareHolder), (0, spareWaiter)] }

/-- No ticket that a reader of the table sees depends on the lease. -/
theorem shadowed_waits (v k : Nat) : dependsOn 0 spareLease.req (getTk (getW shadowed v) k) = false := by
  have hlisted : getW shadowed v = if 0 = v then spareHolder else Whorl.fresh := by
    simp only [getW, shadowed, tget]
    split <;> rfl
  rw [hlisted]
  split <;> rfl

/-- Refutes O21: at the end of the lease the ticket of the waiter, which the statement keeps PENDING, ends OWNER_GONE, because the state is
not canonical and the waiter has come to the front. -/
theorem not_timersExpireAndLeasesLapse : ¬ Obligations.TimersExpireAndLeasesLapse := by
  intro h
  obtain ⟨_, _, hlapse, _⟩ := h
  obtain ⟨hends, _⟩ := hlapse shadowed 0 0 spareLease rfl
  obtain ⟨_, hclaim⟩ := hends 0 rfl (Nat.le_refl 0)
  have hend : leaseEnd shadowed 0 0 = setW shadowed 0 { getW shadowed 0 with leases := tput none (getW shadowed 0).leases 0 none } :=
    hclaim (by decide) (by decide) fun v k _ _ => shadowed_waits v k
  have hkept : (getTk (getW (leaseEnd shadowed 0 0) 0) 0).st = .pending := by
    rw [hend]
    decide
  exact absurd hkept (by decide)

end Sys2Proof.Machine
end


section
/-! PROPERTY. A Whorl that holds no lease and runs no dump is reset, and leaves service (R236, R260, R424). -/

namespace Sys2Proof.Machine

section
variable (s : State)

theorem canonical_whorls (h : canonical s = true) : tabWf Whorl.fresh s.whorls = true := by
  simp only [canonical, Bool.and_eq_true] at h
  tauto

/-! ### What a reset finds nothing of -/

/-- The dump of another Whorl goes on. -/
theorem dumpBroken_other (w : Nat) (h : s.hang.whorl ≠ some w) : dumpBroken s w = s := by
  unfold dumpBroken
  split
  · rfl
  · exact if_neg h

/-- A handle that names no lease has none that lapses. -/
theorem leaseLapse_unheld (w h cause : Nat) (hl : getLease (getW s w) h = none) : leaseLapse s w h cause = s := by
  rw [leaseLapse, hl]

/-- A session without leases ends with its tickets alone. -/
theorem endSession_unleased (w cause : Nat) (hwf : tabWf Whorl.fresh s.whorls = true) (hl : ∀ h : Nat, getLease (getW s w) h = none) :
    endSession s w cause = setW s w { getW s w with tk := [] } := by
  refine forAll_keeps (fun t => t = setW s w { getW s w with tk := [] }) _ _ _ rfl fun t h _ ht => ?_
  rw [ht]
  refine leaseLapse_unheld _ w h cause ?_
  rw [getW_setW _ _ _ _ hwf, if_pos rfl]
  exact hl h

/-- With HNG_CTRL.AUTO at 0 no dump program is loaded. -/
theorem hangLoad_manual (h : bit (reg s rHngCtrl) 0 = false) : hangLoad s = s := by
  unfold hangLoad
  rw [h]
  rfl

/-! ### A Whorl reset -/

/-- The values of Table 9.1, with what a reset keeps. -/
def resetWhorl (x : Whorl) : Whorl :=
  { Whorl.fresh with st := if x.st = .out then .out else .reset, notkt := x.notkt, ls := x.ls }

/-- A state in which a Whorl's tickets, its waiting RECVs, its state and its pending lines are cleared. -/
def whorlCleared (w : Nat) : State :=
  setPend (setW (dropRecvs (setW s w { getW s w with tk := [] }) w) w (resetWhorl (getW s w))) w 0

section
variable (w cause : Nat) (h : canonical s = true)
include h

/-- A reset of a Whorl that holds no lease and runs no dump. -/
theorem whorlReset_idle (hl : ∀ k : Nat, getLease (getW s w) k = none) (hd : s.hang.whorl ≠ some w) :
    whorlReset s w cause = whorlCleared s w := by
  have hw := canonical_whorls s h
  have hread : getW (dropRecvs (setW s w { getW s w with tk := [] }) w) w = { getW s w with tk := [] } := by
    rw [getW]
    exact (getW_setW s w w _ hw).trans (if_pos rfl)
  unfold whorlReset
  rw [dumpBroken_other s w hd, endSession_unleased s w cause hw hl]
  dsimp only
  rw [hread]
  rfl

theorem whorlCleared_wf : tabWf Whorl.fresh (whorlCleared s w).whorls = true :=
  setW_wf _ w _ (setW_wf s w _ (canonical_whorls s h))

theorem getW_whorlCleared : getW (whorlCleared s w) w = resetWhorl (getW s w) := by
  rw [whorlCleared, getW_setPend]
  exact (getW_setW _ w w _ (setW_wf s w _ (canonical_whorls s h))).trans (if_pos rfl)

theorem evPend_whorlCleared : tget 0 (whorlCleared s w).evPend w = 0 :=
  (tget_tput _ _ _ _ _ (canonical_evPend s h)).trans (if_pos rfl)

theorem whorlCleared_evPend_wf : tabWf 0 (whorlCleared s w).evPend = true := tabWf_tput _ _ _ _ (canonical_evPend s h)

end

/-- The other Whorls keep, and so do their pending lines. -/
theorem whorlCleared_other (w v : Nat) (hv : v ≠ w) :
    getW (whorlCleared s w) v = getW s v ∧ tget 0 (whorlCleared s w).evPend v = tget 0 s.evPend v := by
  refine ⟨?_, tget_tput_ne _ _ _ _ _ hv⟩
  rw [whorlCleared, getW_setPend, getW_setW_ne _ _ _ _ hv]
  exact getW_setW_ne _ _ _ _ hv

end

/-- Settles O23: the reset clears the Whorl alone, and OUT adds its state and the health change. -/
theorem whorlResetAndOutClearTheWhorl : Obligations.WhorlResetAndOutClearTheWhorl := by
  intro s who w x hx hcan hlease hdump hauto
  subst hx
  have hreset (cause : Nat) := whorlReset_idle s w cause hcan hlease hdump
  refine ⟨fun hmay => ?reset, fun hno => if_neg (Bool.eq_false_iff.1 hno), fun hin hrec => ?out, fun hin hrec => ?stopped,
    fun hout => if_pos hout⟩
  case reset =>
    have hexec : execWhorlReset who w s = ok (whorlCleared s w) := by
      rw [execWhorlReset, if_pos hmay, resetFrom, hreset]
      exact congrArg ok (hangLoad_manual _ hauto)
    exact ⟨_, hexec, getW_whorlCleared s w hcan, evPend_whorlCleared s w hcan, whorlCleared_other s w, rfl, rfl, rfl, rfl⟩
  case out =>
    have hexec : execWhorlOut w s = ok (healthChange (setW (whorlCleared s w) w { getW (whorlCleared s w) w with st := .out }) 9 w true) := by
      rw [execWhorlOut, if_neg hin, if_neg (Bool.eq_false_iff.1 hrec), whorlOut, hreset]
    refine ⟨_, hexec, ?_, healthChange_raises _ _ _ _ (whorlCleared_evPend_wf s w hcan), fun v hv => ?_⟩
    · rw [getW, healthChange_whorls]
      refine (getW_setW _ w w _ (whorlCleared_wf s w hcan)).trans ((if_pos rfl).trans ?_)
      rw [getW_whorlCleared s w hcan]
      rfl
    · rw [getW, healthChange_whorls]
      exact (getW_setW_ne _ _ _ _ hv).trans (whorlCleared_other s w v hv).1
  case stopped =>
    have hexec : execWhorlOut w s = ok (healthChange s 9 w true) := by rw [execWhorlOut, if_neg hin, if_pos hrec]
    refine ⟨_, hexec, ?_, healthChange_raises _ _ _ _ (canonical_evPend s hcan)⟩
    rw [getW, healthChange_whorls, getW]

end Sys2Proof.Machine
end


section
/-! SUPPORT. The end of a session keeps the registers that have one copy, WHL_LOAD and HNG_CTRL among them (R264, R282). -/

namespace Sys2Proof.Machine

/-- Every register with one copy reads the same, but for those that the end of a lease or of an operation may change: TRC_D_ROUTE and
SPN_LATE. -/
def OneCopyKept (s t : State) : Prop := ∀ o : Nat, o < 0x200000000 → o ≠ rTrcDRoute → o ≠ rSpnLate → reg t o = reg s o

section
variable {s t u : State}

theorem OneCopyKept.of_regs (h : t.regs = s.regs) : OneCopyKept s t := fun o _ _ _ => by rw [reg, regGet, h, reg, regGet]

theorem OneCopyKept.refl (s : State) : OneCopyKept s s := fun _ _ _ _ => rfl

theorem OneCopyKept.trans (h : OneCopyKept s t) (k : OneCopyKept t u) : OneCopyKept s u :=
  fun o h1 h2 h3 => (k o h1 h2 h3).trans (h o h1 h2 h3)

theorem OneCopyKept.forAll {α : Type} (l : List α) (f : State → α → State) (s : State) (h : ∀ t a, OneCopyKept t (f t a)) :
    OneCopyKept s (Machine.forAll l f s) :=
  forAll_keeps (OneCopyKept s) l f s (.refl s) fun t a _ ht => ht.trans (h t a)

theorem OneCopyKept.ite {c : Prop} [Decidable c] (ht : OneCopyKept s t) (hu : OneCopyKept s u) : OneCopyKept s (if c then t else u) := by
  split
  · exact ht
  · exact hu

theorem OneCopyKept.iteSnd {α : Type} {c : Prop} [Decidable c] {a b : α × State} (ha : OneCopyKept s a.2) (hb : OneCopyKept s b.2) :
    OneCopyKept s (if c then a else b).2 := by
  split
  · exact ha
  · exact hb

end

section
variable (s : State)

/-- A copy that belongs to an object is none of them. -/
theorem oneCopy_keyObj (n o : Nat) (v : Word) : OneCopyKept s (regPut s (keyObj n o) o v) :=
  fun p hp _ _ => regGet_regPut_ne _ _ _ _ _ _ (by unfold keyObj; omega)

theorem oneCopy_countObj (n o hi lo k : Nat) : OneCopyKept s (countObj s n o hi lo k) := oneCopy_keyObj s n o _

/-! ### Card engines and agent registers -/

section
variable (f : Nat)

theorem selectTap_regs (sel : Option (Nat × Nat)) : (selectTap s f sel).regs = s.regs := by
  unfold selectTap
  extract_lets x s1 s2
  have h1 : s1.regs = s.regs := by
    simp only [s1]
    split <;> rfl
  have h2 : s2.regs = s1.regs := by
    simp only [s2]
    split <;> rfl
  exact h2.trans h1

theorem redrive_regs : (redrive s f).regs = s.regs := by
  unfold redrive
  split <;> rfl

theorem oneCopy_closeWindow (code : Nat) : OneCopyKept s (closeWindow s f code) := by
  unfold closeWindow
  extract_lets x
  split
  next =>
    split
    · exact .of_regs rfl
    · extract_lets inc cov wseq s1 s2
      have hcov : OneCopyKept s s2 := .ite (oneCopy_countObj s1 f _ _ _ _) (.of_regs rfl)
      have hend (z : Card) : OneCopyKept s (setCard s2 f z) := hcov.trans (.of_regs rfl)
      exact .ite (hend _) <| .ite ((hend _).trans (oneCopy_countObj _ f _ _ _ _)) (hend _)
  next => exact .of_regs rfl

theorem oneCopy_settleCard : OneCopyKept s (settleCard s f) := by
  unfold settleCard
  extract_lets x l
  split
  · exact .refl s
  · split
    next => exact .ite (.refl s) (.of_regs (selectTap_regs s f _))
    next =>
      exact .ite (.of_regs (redrive_regs s f)) <|
        (OneCopyKept.ite (oneCopy_closeWindow s f 3) (.refl s)).trans (.of_regs (selectTap_regs _ f _))

end

theorem setAgNext_regs (i r : Nat) (v : Word) : (setAgNext s i r v).regs = s.regs := by
  unfold setAgNext agHold
  dsimp only
  split <;> rfl

theorem setFlyNext_regs (c r : Nat) (v : Word) : (setFlyNext s c r v).regs = s.regs := by
  unfold setFlyNext
  dsimp only
  split <;> rfl

theorem xtEvent_regs (k ch delay : Nat) : (xtEvent s k ch delay).regs = s.regs := by
  unfold xtEvent
  split
  · rfl
  · dsimp only
    split <;> rfl

theorem oneCopy_agWrite (i issuer r : Nat) (v : Word) : OneCopyKept s (agWrite s i issuer r v).2 := by
  have hnext (u : Word) : OneCopyKept s (setAgNext s i r u) := .of_regs (setAgNext_regs s i r u)
  unfold agWrite
  split
  next => exact .refl s
  next l _ =>
    refine .iteSnd (.refl s) <| .iteSnd (.of_regs rfl) <| .iteSnd (.iteSnd (.refl s) (.of_regs rfl)) <|
      .iteSnd (.forAll _ _ _ fun t n => .of_regs (xtEvent_regs t _ n 2)) <| .iteSnd (.of_regs (setFlyNext_regs s _ _ _)) <|
      .iteSnd (hnext _) <| .iteSnd (.iteSnd (.refl s) (hnext _)) <| .iteSnd ?settle <|
      .iteSnd ((hnext (l.write (ag s i r) v)).trans (.of_regs rfl)) <| .iteSnd ?counter (hnext _)
    case settle =>
      refine OneCopyKept.trans (t := setAg s i r (l.write (ag s i r) v)) (.of_regs rfl) ?_
      cases flyerOf s i with
      | none => exact .refl _
      | some f => exact oneCopy_settleCard _ f
    case counter =>
      dsimp only
      split <;> exact .of_regs rfl

/-! ### Leases, sessions and resets -/

theorem oneCopy_endDRoute : OneCopyKept s (endDRoute s) := by
  unfold endDRoute
  split
  · exact fun o _ hroute _ => reg_setReg_ne _ _ _ _ hroute
  · exact .refl s

theorem oneCopy_leaseReset (req : Word) : OneCopyKept s (leaseReset s req) := by
  unfold leaseReset
  extract_lets u c funnel
  split
  · exact .forAll _ _ _ fun t i => oneCopy_agWrite t i _ _ _
  · exact oneCopy_agWrite s _ _ _ _
  · exact oneCopy_keyObj s _ _ _
  · exact OneCopyKept.trans (t := { s with funnel := { s.funnel with dEnd := true } }) (.of_regs rfl) (oneCopy_endDRoute _)
  · exact .of_regs rfl
  · exact .refl s

theorem oneCopy_leaseEnd (w h : Nat) : OneCopyKept s (leaseEnd s w h) := by
  unfold leaseEnd
  split
  · exact .refl s
  next l _ =>
    have hset : OneCopyKept s (setLease s w h none) := .of_regs rfl
    have hwake (t : State) : OneCopyKept t (wakeOwnerGone t (64 * w + h) l.req) :=
      .forAll _ _ _ fun t _ => .forAll _ _ t fun _ _ => .of_regs rfl
    exact (hset.trans (hwake _)).trans (oneCopy_leaseReset _ l.req)

theorem oneCopy_leaseLapse (w h cause : Nat) : OneCopyKept s (leaseLapse s w h cause) := by
  unfold leaseLapse
  split
  · exact .refl s
  · exact (oneCopy_leaseEnd s w h).trans (.of_regs (hevt_regs ..))

theorem oneCopy_endSession (w cause : Nat) : OneCopyKept s (endSession s w cause) := by
  have hset : OneCopyKept s (setW s w { getW s w with tk := [] }) := .of_regs rfl
  exact hset.trans (.forAll (List.range 64) _ _ fun t h => oneCopy_leaseLapse t w h cause)

theorem oneCopy_dumpBroken (w : Nat) : OneCopyKept s (dumpBroken s w) := by
  unfold dumpBroken
  split
  · exact .refl s
  · exact .ite (fun o _ _ hlate => (outcomeWork_giveUpAny s s.hang.work.op).reg o hlate) (.refl s)

theorem oneCopy_whorlReset (w cause : Nat) : OneCopyKept s (whorlReset s w cause) := by
  have hend := (oneCopy_dumpBroken s w).trans (oneCopy_endSession (dumpBroken s w) w cause)
  unfold whorlReset
  generalize endSession (dumpBroken s w) w cause = t at hend ⊢
  exact hend.trans (.of_regs rfl)

end

end Sys2Proof.Machine
end


section
/-! PROPERTY. A load checks its image and leaves the program ready at its entry (R257 to R259, R262). -/

namespace Sys2Proof.Machine

/-! ### Units written and read -/

theorem readLe_lt (m : List Host.Cell) (a n : Nat) : readLe m a n < 256 ^ n := by
  induction n generalizing a with
  | zero => exact Nat.one_pos
  | succ n ih =>
    have hbyte := (tget (0 : Byte) m a).isLt
    have hrest := ih (a + 1)
    rw [readLe, pow_succ]
    omega

/-- Units written leave the unit before them. -/
theorem readLe_writeUnits_below (m : List Host.Cell) (a b : Nat) (l : List Word) (h : memWf m = true) (hb : b + 8 ≤ a) :
    readLe (writeUnits m a l) b 8 = readLe m b 8 := by
  induction l generalizing m a with
  | nil => rfl
  | cons u l ih =>
    rw [writeUnits, ih _ _ (memWf_writeLe _ _ _ _ h) (by omega), readLe_writeLe_apart _ _ _ _ _ _ h (.inl hb)]

/-- Each unit written is read at its place. -/
theorem readLe_writeUnits (m : List Host.Cell) (a k : Nat) (l : List Word) (h : memWf m = true) (hk : k < l.length) :
    readLe (writeUnits m a l) (a + 8 * k) 8 = l[k].toNat := by
  induction l generalizing m a k with
  | nil => cases hk
  | cons u l ih =>
    rw [writeUnits]
    cases k with
    | zero =>
      change readLe _ a 8 = u.toNat
      rw [readLe_writeUnits_below _ _ _ _ (memWf_writeLe _ _ _ _ h) le_rfl, readLe_writeLe _ _ _ _ h]
      exact Nat.mod_eq_of_lt u.isLt
    | succ k =>
      rw [show a + 8 * (k + 1) = a + 8 + 8 * k by omega, ih _ _ _ (memWf_writeLe _ _ _ _ h) (Nat.lt_of_succ_lt_succ hk)]
      rfl

/-- The number of a unit read. -/
theorem readUnits_getElem (m : List Host.Cell) (a n k : Nat) (hk : k < (readUnits m a n).length) :
    (readUnits m a n)[k].toNat = readLe m (a + 8 * k) 8 := by
  simp only [readUnits, List.getElem_map, List.getElem_range]
  rw [word_toNat]
  exact Nat.mod_eq_of_lt (readLe_lt _ _ 8)

theorem readUnits_length (m : List Host.Cell) (a n : Nat) : (readUnits m a n).length = n := by
  rw [readUnits, List.length_map, List.length_range]

/-! ### Leases granted in a load -/

/-- From s to t Whorl w has gained leases, and nothing that a load reads later has changed. -/
structure LeasesGranted (w : Nat) (s t : State) : Prop where
  whorl : getW t w = { getW s w with leases := (getW t w).leases }
  regs : t.regs = s.regs

theorem LeasesGranted.refl (w : Nat) (s : State) : LeasesGranted w s s := ⟨rfl, rfl⟩

theorem LeasesGranted.trans {w : Nat} {s t u : State} (h : LeasesGranted w s t) (k : LeasesGranted w t u) : LeasesGranted w s u where
  whorl := by rw [k.whorl, h.whorl]
  regs := k.regs.trans h.regs

section
variable (w : Nat) (s : State) (hst : (getW s w).st = .loading)
include hst

theorem leasesGranted_setLease (h : Nat) (l : Option Lease) : LeasesGranted w s (setLease s w h l) := by
  have hread : getW (setLease s w h l) w = { getW s w with leases := tput none (getW s w).leases h l } :=
    getW_setW_self _ _ _ fun e => by
      have hfresh := congrArg Whorl.st e
      rw [show ({ getW s w with leases := tput none (getW s w).leases h l } : Whorl).st = _ from hst] at hfresh
      cases hfresh
  exact ⟨by rw [hread], rfl⟩

theorem leasesGranted_leaseTry (v span : Word) : LeasesGranted w s (leaseTry s w v span).2.2 := by
  unfold leaseTry
  extract_lets x
  split
  · exact .refl w s
  · split
    · exact .refl w s
    · split
      · exact leasesGranted_setLease w s hst _ _
      · split
        · exact .refl w s
        · split
          · exact .refl w s
          · exact leasesGranted_setLease w s hst _ _

end

theorem leasesGranted_grantAll (w k : Nat) (l : List (Word × Word)) (s : State) (hst : (getW s w).st = .loading) :
    LeasesGranted w s (grantAll w k l s).2 := by
  induction l generalizing k s with
  | nil => exact .refl w s
  | cons e l ih =>
    have htry := leasesGranted_leaseTry w s hst e.1 e.2
    rw [grantAll]
    split
    next h s1 heq =>
      rw [heq] at htry
      exact htry.trans (ih _ _ (by rw [htry.whorl]; exact hst))
    next => exact .refl w s

/-! ### The beginning of a load -/

/-- No one-copy register of a Whorl's block is one that the end of a session changes. -/
theorem reg_whlLoad_whorlReset (s : State) (w : Fin 8) (cause : Nat) :
    reg (whorlReset s w cause) (rWhlLoad + 0x100 * w.val) = reg s (rWhlLoad + 0x100 * w.val) :=
  oneCopy_whorlReset s w cause _ (by unfold rWhlLoad; omega) (by unfold rWhlLoad rTrcDRoute; omega) (by unfold rWhlLoad rSpnLate; omega)

/-- A load of a Whorl that neither runs nor is OUT leaves it LOADING. -/
theorem whorlLoad_begins (s : State) (who : Who) (w : Fin 8) (hrun : (getW s w).st ≠ .running) (hout : (getW s w).st ≠ .out) :
    getW (whorlLoad s who w) w = { getW (whorlReset s w 1) w with
      st := .loading, loading := some ⟨who, reg s (rWhlLoad + 0x100 * w.val)⟩ } := by
  unfold whorlLoad
  dsimp only
  split
  next h => exact absurd h hout
  next h => exact absurd h hrun
  next =>
    rw [reg_whlLoad_whorlReset]
    exact getW_setW_self _ _ _ fun e => by cases congrArg Whorl.st e

/-! ### The end of a load -/

/-- With HNG_CTRL.AUTO at 0 a load that ends leaves the dump program alone. -/
theorem exec_loadEnd (s t : State) (w : Fin 8) (hauto : bit (reg s rHngCtrl) 0 = false) (ht : loadEnd s w = t) (hregs : t.regs = s.regs) :
    exec (.loadEnd w) s = .next t := by
  have hsame : reg t rHngCtrl = reg s rHngCtrl := by rw [reg, regGet, hregs, reg, regGet]
  show ok (hangLoad (loadEnd s w)) = _
  rw [ht, hangLoad_manual t (by rw [hsame]; exact hauto)]
  rfl

section
variable (s : State) (w : Nat) (q : LoadReq) (hst : (getW s w).st = .loading) (hq : (getW s w).loading = some q)
include hst hq

theorem loadEnd_refused (h : entitled s q.who w = false) : loadEnd s w = loadRefuse s w 1 0 := by
  simp only [loadEnd, hq, hst, h, ne_eq, not_true_eq_false, if_false, Bool.not_false, if_true]

theorem loadEnd_image (h : entitled s q.who w = true) (him : bit q.word 63 = false) : loadEnd s w = loadImage s w q := by
  simp only [loadEnd, hq, hst, h, him, ne_eq, not_true_eq_false, if_false, Bool.not_true, Bool.false_eq_true]

theorem loadEnd_rom (h : entitled s q.who w = true) (hrom : bit q.word 63 = true) : loadEnd s w = loadRom s w q := by
  simp only [loadEnd, hq, hst, h, hrom, ne_eq, not_true_eq_false, if_false, Bool.not_true, Bool.false_eq_true, if_true]

end

section
variable (s : State) (w : Nat) (auto : Bool)

/-- A Whorl whose load has passed. -/
def passedWhorl (x : Whorl) (auto : Bool) : Whorl := { x with st := if auto then .running else .loaded, loadst := 0, loading := none }

/-- A load that passes leaves the Whorl ready and raises line 6. -/
theorem loadPass_passes : getW (loadPass s w auto) w = passedWhorl (getW s w) auto ∧ LineRaised (loadPass s w auto) 6 := by
  refine ⟨?_, lineRaised_raiseLine _ 6 (by decide)⟩
  rw [loadPass, getW, raiseLine_whorls]
  exact getW_setW_self _ _ _ fun e => by
    have hst := congrArg Whorl.st e
    cases auto <;> cases hst

end

/-- The Whorl that a program has been put into (R258, R262). -/
def programWhorl (s : State) (w : Nat) (q : LoadReq) (rom : Option Nat) (codeBytes pc : Nat) (sets : List (BitVec 128)) : Whorl :=
  { getW s w with st := .loading, rights := if rom.isSome then .root else ownerClass s w,
                  owner := BitVec.ofNat 9 (bits (reg s (rWhlOwner + 0x100 * w)) 8 0), session := true, byTwp := q.who == .twp,
                  rom := rom, codeBytes := codeBytes, pc := BitVec.ofNat 32 pc,
                  sr := ((List.range sets.length).zip sets).foldl (fun t e => tput 0 t e.1 e.2) [] }

theorem getW_loadProgram (s : State) (w : Nat) (q : LoadReq) (rom : Option Nat) (codeBytes pc : Nat) (sets : List (BitVec 128)) :
    getW (loadProgram s w q rom codeBytes pc sets) w = programWhorl s w q rom codeBytes pc sets :=
  getW_setW_self _ _ _ fun e => by cases congrArg Whorl.st e

/-- A local store filled, and the load passed. -/
theorem loadPass_filled (s : State) (w : Nat) (auto : Bool) (x : Whorl) (ls : List Host.Cell) (hx : getW s w = x) (hst : x.st = .loading) :
    getW (loadPass (setW s w { getW s w with ls := ls }) w auto) w = passedWhorl { x with ls := ls } auto := by
  subst hx
  rw [(loadPass_passes _ w auto).1, getW_setW_self]
  intro e
  have hfresh := congrArg Whorl.st e
  rw [show ({ getW s w with ls := ls } : Whorl).st = _ from hst] at hfresh
  cases hfresh

/-- A ROM program of number 0 to 3, in a local store of zeros (R259). -/
theorem loadRom_passes (s : State) (w : Nat) (q : LoadReq) (h : bits q.word 55 48 ≤ 3) : ∃ pc : Nat,
    getW (loadRom s w q) w =
      passedWhorl { programWhorl s w q (some (bits q.word 55 48)) 0 pc [] with ls := [] } (bit q.word 62) ∧
    LineRaised (loadRom s w q) 6 ∧ (loadRom s w q).regs = s.regs := by
  rw [loadRom, if_neg (by omega)]
  exact ⟨_, loadPass_filled _ w _ _ _ (getW_loadProgram ..) rfl, (loadPass_passes _ w _).2, rfl⟩

/-- The units of an image's code and data, and its zeros (R258). -/
def loadBody (s : State) (i : Image) : List Word :=
  imgUnits s i (2 * imgSets i + 2 * imgLeases i) (imgCodeUnits i + imgData i) ++ List.replicate (imgZero i) 0

/-- An image that passes its checks and whose leases are all granted (R257, R258). -/
theorem loadImage_passes (s : State) (w : Nat) (q : LoadReq) (i : Image) (hi : i = imageAt s (8 * bits q.word 22 3))
    (hgood : imageRefusal s q.who i = none)
    (hgrant : (grantAll w 0 (imgLeaseList s i)
      (loadProgram s w q none (4 * imgCode i) (0x1000000 + 4 * imgEntry i) (imgSetList s i))).1 = none) :
    ∃ leases : Tab (Option Lease), getW (loadImage s w q) w =
      passedWhorl { programWhorl s w q none (4 * imgCode i) (0x1000000 + 4 * imgEntry i) (imgSetList s i) with
        leases := leases, ls := writeUnits (getW s w).ls 0 (loadBody s i) } (bit q.word 62) ∧
    LineRaised (loadImage s w q) 6 ∧ (loadImage s w q).regs = s.regs := by
  have hprog := getW_loadProgram s w q none (4 * imgCode i) (0x1000000 + 4 * imgEntry i) (imgSetList s i)
  have hkept := leasesGranted_grantAll w 0 (imgLeaseList s i) _ (show (getW (loadProgram s w q none (4 * imgCode i)
    (0x1000000 + 4 * imgEntry i) (imgSetList s i)) w).st = .loading by rw [hprog]; rfl)
  obtain ⟨hwhorl, hregs⟩ := hkept
  rw [hprog] at hwhorl
  rw [loadImage, ← hi]
  dsimp only
  rw [hgood]
  dsimp only
  generalize grantAll w 0 (imgLeaseList s i) (loadProgram s w q none (4 * imgCode i) (0x1000000 + 4 * imgEntry i) (imgSetList s i)) = g
    at hgrant hwhorl hregs ⊢
  obtain ⟨g1, s2⟩ := g
  cases hgrant
  dsimp only at hwhorl hregs ⊢
  refine ⟨(getW s2 w).leases, ?_, (loadPass_passes _ w _).2, hregs⟩
  have hls : (getW s2 w).ls = (getW s w).ls := (congrArg Whorl.ls hwhorl :)
  rw [← hls]
  exact loadPass_filled s2 w _ _ _ hwhorl rfl

section
variable (s : State) (i : Image) (ls : List Host.Cell) (k : Nat) (hls : memWf ls = true)
include hls

/-- The local store holds the image's code and data, unit by unit. -/
theorem readLe_loadBody_program (hk : k < imgCodeUnits i + imgData i) : readLe (writeUnits ls 0 (loadBody s i)) (8 * k) 8 =
    readLe s.hubMem (i.off + 24 + 8 * (2 * imgSets i + 2 * imgLeases i + k)) 8 := by
  have hunits : k < (imgUnits s i (2 * imgSets i + 2 * imgLeases i) (imgCodeUnits i + imgData i)).length := by
    rwa [imgUnits, readUnits_length]
  have hlen : k < (loadBody s i).length := by rw [loadBody, List.length_append]; omega
  have hread := readLe_writeUnits ls 0 k (loadBody s i) hls hlen
  rw [Nat.zero_add] at hread
  rw [hread]
  simp only [loadBody, List.getElem_append_left hunits]
  exact (readUnits_getElem _ _ _ _ hunits).trans (congrArg (fun a => readLe s.hubMem a 8) (by omega))

/-- Zeros stand behind them. -/
theorem readLe_loadBody_zeros (hk : k < imgZero i) :
    readLe (writeUnits ls 0 (loadBody s i)) (8 * (imgCodeUnits i + imgData i + k)) 8 = 0 := by
  have hunits : (imgUnits s i (2 * imgSets i + 2 * imgLeases i) (imgCodeUnits i + imgData i)).length = imgCodeUnits i + imgData i :=
    readUnits_length ..
  have hlen : imgCodeUnits i + imgData i + k < (loadBody s i).length := by
    rw [loadBody, List.length_append, List.length_replicate, hunits]
    omega
  have hread := readLe_writeUnits ls 0 _ (loadBody s i) hls hlen
  rw [Nat.zero_add] at hread
  rw [hread]
  simp only [loadBody, List.getElem_append_right (hunits.trans_le (Nat.le_add_right _ k)), List.getElem_replicate]
  rfl

end

/-! ### Settled -/

/-- Settles O24: the beginning resets the Whorl and keeps WHL_LOAD; the end refuses or passes, by the first failed check. -/
theorem whorlLoadChecksTheImage : Obligations.WhorlLoadChecksTheImage := by
  intro s who w x hx hauto
  subst hx
  refine ⟨fun hmay => ?load, fun q hst hq => ?ends⟩
  case load =>
    have hexec : execWhorlLoad who w s = ok (whorlLoad s who w) := if_pos hmay
    refine ⟨fun hrun => ?running, fun hout => ?out, fun hrun hout => ?begins⟩
    case running =>
      refine hexec.trans (congrArg ok ?_)
      rw [whorlLoad, hrun]
    case out =>
      refine hexec.trans (congrArg ok ?_)
      rw [whorlLoad, hout]
    case begins =>
      have hloading := whorlLoad_begins s who w hrun hout
      exact ⟨_, hexec, by rw [hloading], by rw [hloading]⟩
  case ends =>
    have hends (t : State) := exec_loadEnd s t w hauto
    refine ⟨fun hno => ?nobody, fun hmay him i hi => ⟨fun code k href => ?refused, fun hgood hls hgrant => ?image⟩,
      fun hmay hrom => ⟨fun hnum => ?unknown, fun hnum => ?rom⟩⟩
    case nobody => exact hends _ (loadEnd_refused s w q hst hq hno) rfl
    case refused =>
      refine hends _ ((loadEnd_image s w q hst hq hmay him).trans ?_) rfl
      rw [loadImage, ← hi]
      dsimp only
      rw [href]
      rfl
    case image =>
      obtain ⟨leases, hwhorl, hline, hregs⟩ := loadImage_passes s w q i hi hgood hgrant
      refine ⟨_, hends _ (loadEnd_image s w q hst hq hmay him) hregs, ?_⟩
      rw [hwhorl]
      exact ⟨rfl, rfl, rfl, rfl, rfl, hline, fun k hk => readLe_loadBody_program s i _ k hls hk,
        fun k hk => readLe_loadBody_zeros s i _ k hls hk⟩
    case unknown => exact hends _ ((loadEnd_rom s w q hst hq hmay hrom).trans (if_pos hnum)) rfl
    case rom =>
      obtain ⟨pc, hwhorl, hline, hregs⟩ := loadRom_passes s w q hnum
      refine ⟨_, hends _ (loadEnd_rom s w q hst hq hmay hrom) hregs, ?_⟩
      rw [hwhorl]
      exact ⟨rfl, rfl, rfl, rfl, rfl, hline⟩

end Sys2Proof.Machine
end


section
/-! PROPERTY. TRIG, TAP, TAPR and TAPC hand on the operation that writes or reads their registers (R276, R277). -/

namespace Sys2Proof.Machine

/-- A unit of a buffer is the one that a read with a default gives. -/
theorem bufUnits_getElem? (s : State) (x : Whorl) (a n k : Nat) (hk : k < n) :
    (bufUnits s x a n)[k]? = some ((bufUnits s x a n).getD k 0) := by
  have hlen : k < (bufUnits s x a n).length := by rwa [bufUnits_length]
  rw [List.getD_eq_getElem _ _ hlen, List.getElem?_eq_getElem hlen]

/-- Settles O16: each instruction's checks pass, and its own part of the operation follows its ticket. -/
theorem triggerAndTapInstructionsIssue : Obligations.TriggerAndTapInstructionsIssue := by
  intro s w d b sa n j x set t hx hset hfree hform hrights hsites mine
  subst hx hset
  have hissue (kind : TkKind) := agentIssue_passed s w d t kind hfree (sReg (getW s w) sa) (hs := hsites)
  refine ⟨fun codes hex heven hroot hcodes => ?trig, fun codes hcodes => ⟨fun hex hkind hbuf => ?tap, fun hex hkind => ?tapr, fun hex => ?tapc⟩⟩
  case trig =>
    refine ⟨{ issuedOp s w t (sReg (getW s w) sa) .write (aCmpCtrl + 2 * n.val) with
      pre := [(aCmpVal + 2 * n.val, gReg (getW s w) b)], data := [gReg (getW s w) (b + 1)] }, ⟨rfl, rfl, rfl, rfl⟩, rfl, rfl, rfl, rfl, ?_⟩
    have hodd : ¬ b.val % 2 = 1 := by omega
    show execTrig w d sa b n s = _
    simp only [execTrig, if_neg hodd, insn_executes _ _ _ _ hex, hform, hrights, hroot, hcodes, Bool.true_or, Bool.and_self,
      Option.isSome_some, Option.getD_some, checks_pass, hissue]
  case tap =>
    have hone : kindOne (sReg (getW s w) sa) = true := by simp [kindOne, hkind]
    obtain ⟨u, hu⟩ : ∃ u : List Word, bufUnits s (getW s w) (gReg (getW s w) b).toNat 4 = u := ⟨_, rfl⟩
    refine ⟨{ issuedOp s w t (sReg (getW s w) sa) .write (tsIdx aTsMatch j) with
        pre := [(tsIdx aTsMatch j, setBits (u.getD 0 0) 63 63 0), (tsIdx aTsCfg j, u.getD 1 0), (tsIdx aTsVh j, u.getD 2 0),
          (tsIdx aTsSeed j, u.getD 3 0)],
        data := [u.getD 0 0] },
      fun k => u.getD k 0, ⟨rfl, rfl, rfl, rfl⟩, fun k hk => hu ▸ bufUnits_getElem? _ _ _ _ k hk, rfl, rfl, rfl, rfl, ?_⟩
    show execTap w d sa b j s = _
    simp only [execTap, insn_executes _ _ _ _ hex, hform, hone, hrights, hcodes, hbuf, hu, withBuf_good, Bool.and_self,
      Option.isSome_some, Option.getD_some, checks_pass, hissue]
  case tapr =>
    have hone : kindOne (sReg (getW s w) sa) = true := by simp [kindOne, hkind]
    refine ⟨issuedOp s w t (sReg (getW s w) sa) .read (tsIdx aTsCov j), ⟨rfl, rfl, rfl, rfl⟩, rfl, rfl, rfl, ?_⟩
    show execTapr w d sa b j s = _
    simp only [execTapr, insn_executes _ _ _ _ hex, hform, hone, hrights, hcodes, Bool.and_self, Option.isSome_some, Option.getD_some,
      checks_pass, hissue, id_eq]
  case tapc =>
    refine ⟨{ issuedOp s w t (sReg (getW s w) sa) .write (tsIdx aTsMatch j) with data := [0] }, ⟨rfl, rfl, rfl, rfl⟩, rfl, rfl, rfl, rfl, ?_⟩
    show execTapc w d sa j s = _
    simp only [execTapc, insn_executes _ _ _ _ hex, hform, hrights, hcodes, Option.isSome_some, Option.getD_some,
      checks_pass, hissue]

end Sys2Proof.Machine
end


section
/-! PROPERTY. LEASE grants, renews or refuses, and RELEASE ends a lease at once (R280, R282, R284). -/

namespace Sys2Proof.Machine

/-! ### What a request for a lease answers (R280) -/

section
variable (s : State) (w : Nat) (v span : Word)

theorem leaseTry_noagent (hform : leaseForm s v = false) : leaseTry s w v span = (.noagent, 0, s) := by
  simp only [leaseTry, hform, Bool.not_false, if_true]

theorem leaseTry_rights (hform : leaseForm s v = true) (hrights : leaseRights s (.whorl w) v = false) :
    leaseTry s w v span = (.rights, 0, s) := by
  simp only [leaseTry, hform, hrights, Bool.not_true, Bool.not_false, Bool.false_eq_true, if_false, if_true]

section
variable (hform : leaseForm s v = true) (hrights : leaseRights s (.whorl w) v = true)
include hform hrights

/-- A lease that the session holds exactly is renewed under its handle. -/
theorem leaseTry_renews (h : Nat) (hheld : heldExact (getW s w) v = some h) :
    leaseTry s w v span = (.ok, h, setLease s w h (some ⟨v, leaseExpiry s span⟩)) := by
  simp only [leaseTry, hform, hrights, hheld, Bool.not_true, Bool.false_eq_true, if_false]

section
variable (hnone : heldExact (getW s w) v = none)
include hnone

theorem leaseTry_locked (hany : heldAny s v = true) : leaseTry s w v span = (.locked, 0, s) := by
  simp only [leaseTry, hform, hrights, hnone, hany, Bool.not_true, Bool.false_eq_true, if_false, if_true]

/-- A resource that no session holds is granted under the lowest free handle. -/
theorem leaseTry_grants (h : Nat) (hany : heldAny s v = false) (hlt : h < 64) (hfree : getLease (getW s w) h = none)
    (hlow : ∀ k : Nat, k < h → getLease (getW s w) k ≠ none) :
    leaseTry s w v span = (.ok, h, setLease s w h (some ⟨v, leaseExpiry s span⟩)) := by
  have hfind : ((List.range 64).find? fun k => (getLease (getW s w) k).isNone) = some h := by
    refine List.find?_range_eq_some.2 ⟨by rw [hfree]; rfl, List.mem_range.2 hlt, fun k hk => ?_⟩
    simpa [Option.isSome_iff_ne_none] using hlow k hk
  simp only [leaseTry, hform, hrights, hnone, hany, hfind, Bool.not_true, Bool.false_eq_true, if_false]

end

end

end

/-! ### LEASE and RELEASE of a RUNNING Whorl -/

section
variable (s : State) (w : Fin 8) (d a b : Fin 32)

/-- A RUNNING Whorl whose lease has been set or ended, with its answer in g[d]. -/
theorem setD_setLease (h : Nat) (l : Option Lease) (v : Word) (hrun : (getW s w).st = .running) :
    setD (setLease s w h l) w d (getW (setLease s w h l) w) v =
      setW s w (advance (setG { getW s w with leases := tput none (getW s w).leases h l } d v)) := by
  have hlisted : { getW s w with leases := tput none (getW s w).leases h l } ≠ Whorl.fresh := ne_fresh_of_running _ hrun
  have hnext : advance (setG { getW s w with leases := tput none (getW s w).leases h l } d v) ≠ Whorl.fresh :=
    ne_fresh_of_running _ (by simpa [advance] using hrun)
  rw [setD, setLease, getW_setW_self _ _ _ hlisted, setW_setW _ _ _ _ hlisted hnext]

theorem exec_lease (hex : Executes s w [d, a, b]) (st : Status) (h : Nat) (t : State)
    (htry : leaseTry s w (gReg (getW s w) a) (gReg (getW s w) b) = (st, h, t)) :
    exec (.lease w d a b) s = .next (setD t w d (getW t w) (leaseWord st h (leaseExpiry s (gReg (getW s w) b)))) := by
  show execLease w d a b s = _
  simp only [execLease, insn_executes _ _ _ _ hex, htry]

/-- A lease granted or renewed, with its handle and expiry in g[d] (Table 10.6). -/
theorem exec_lease_ok (hex : Executes s w [d, a, b]) (h : Nat) (l : Lease)
    (htry : leaseTry s w (gReg (getW s w) a) (gReg (getW s w) b) = (.ok, h, setLease s w h (some l))) :
    exec (.lease w d a b) s = .next (setW s w (advance (setG { getW s w with leases := tput none (getW s w).leases h (some l) } d
      (word (h * 2 ^ 48 + (leaseExpiry s (gReg (getW s w) b)).getD 0 % 2 ^ 48))))) := by
  rw [exec_lease s w d a b hex _ _ _ htry, setD_setLease _ _ _ _ _ _ hex.1]
  simp only [leaseWord, statusCode, if_true, Nat.zero_mul, Nat.zero_add]

/-- A request that is refused, with its status in g[d] (Table 10.6). -/
theorem exec_lease_refused (hex : Executes s w [d, a, b]) (st : Status) (hst : st ≠ .ok)
    (htry : leaseTry s w (gReg (getW s w) a) (gReg (getW s w) b) = (st, 0, s)) :
    exec (.lease w d a b) s = .next (setW s w (advance (setG (getW s w) d (word (statusCode st * 2 ^ 56))))) := by
  rw [exec_lease s w d a b hex _ _ _ htry, setD, leaseWord, if_neg hst, Nat.add_zero]

/-- RELEASE of a handle not held ends nothing. -/
theorem exec_release_none (hex : Executes s w [d, a])
    (hfree : getLease (getW s w) (bits (gReg (getW s w) a) 5 0) = none) :
    exec (.release w d a) s = .next (setW s w (advance (setG (getW s w) d (word 2)))) := by
  show execRelease w d a s = _
  have hend : leaseEnd s w (bits (gReg (getW s w) a) 5 0) = s := by rw [leaseEnd, hfree]
  simp only [execRelease, insn_executes _ _ _ _ hex, hfree, hend]
  rfl

end

/-! ### The end of a lease that resets nothing (R282, Table 10.7) -/

/-- A lease on which no ticket waits wakes none. -/
theorem wakeOwnerGone_none (s : State) (code : Nat) (req : Word)
    (hwait : ∀ v k : Nat, v < 8 → k < 64 → dependsOn code req (getTk (getW s v) k) = false) : wakeOwnerGone s code req = s := by
  refine forAll_keeps (fun t => t = s) _ _ s rfl fun t v hv ht => ?_
  have hnone : ((List.range 64).filter fun k => dependsOn code req (getTk (getW t v) k)) = [] := by
    rw [ht, List.filter_eq_nil_iff]
    exact fun k hk => by simp [hwait v k (List.mem_range.1 hv) (List.mem_range.1 hk)]
  rw [hnone]
  exact ht

/-- Lanes, a stretch of the buffer and a channel are not reset when their lease ends. -/
theorem leaseReset_none (s : State) (req : Word) (h : leaseRes req = 2 ∨ leaseRes req = 3 ∨ leaseRes req = 7) : leaseReset s req = s := by
  rcases h with h | h | h <;> simp only [leaseReset, h]

/-- The tickets of a RUNNING Whorl are those that it had before a lease of its own is set or ended. -/
theorem getTk_setLease (s : State) (w h : Nat) (l : Option Lease) (hrun : (getW s w).st = .running) (v k : Nat) :
    getTk (getW (setLease s w h l) v) k = getTk (getW s v) k := by
  by_cases hv : v = w
  · subst hv
    have hlisted : { getW s v with leases := tput none (getW s v).leases h l } ≠ Whorl.fresh := ne_fresh_of_running _ hrun
    rw [setLease, getW_setW_self _ _ _ hlisted]
    rfl
  · rw [setLease, show getW (setW s w _) v = getW s v from tget_tput_ne _ _ _ _ _ hv]

theorem leaseEnd_unwatched (s : State) (w h : Nat) (l : Lease) (hrun : (getW s w).st = .running) (hl : getLease (getW s w) h = some l)
    (hres : leaseRes l.req = 2 ∨ leaseRes l.req = 3 ∨ leaseRes l.req = 7)
    (hwait : ∀ v k : Nat, v < 8 → k < 64 → dependsOn (64 * w + h) l.req (getTk (getW s v) k) = false) :
    leaseEnd s w h = setLease s w h none := by
  have hwoken : wakeOwnerGone (setLease s w h none) (64 * w + h) l.req = setLease s w h none :=
    wakeOwnerGone_none _ _ _ fun v k hv hk => by rw [getTk_setLease _ _ _ _ hrun, hwait v k hv hk]
  simp only [leaseEnd, hl, hwoken, leaseReset_none _ _ hres]

/-- Settles O19: each answer of a request for a lease, then the two ends of a release. -/
theorem leasesAreGrantedRenewedAndReleased : Obligations.LeasesAreGrantedRenewedAndReleased := by
  intro s w d a b x v span e hx hv hspan he
  subst hx hv hspan he
  refine ⟨fun hex => ⟨fun h hform hrights hany hnone hlt hfree hlow => ?granted, fun h hform hrights hheld => ?renewed,
    fun hform hrights hnone hany => ?locked, fun hform hrights => ?rights, fun hform => ?noagent⟩, fun hex h hh => ?release⟩
  case granted =>
    exact exec_lease_ok s w d a b hex h _ (leaseTry_grants s w _ _ hform hrights hnone h hany hlt hfree hlow)
  case renewed => exact exec_lease_ok s w d a b hex h _ (leaseTry_renews s w _ _ hform hrights h hheld)
  case locked => exact exec_lease_refused s w d a b hex .locked (by simp) (leaseTry_locked s w _ _ hform hrights hnone hany)
  case rights => exact exec_lease_refused s w d a b hex .rights (by simp) (leaseTry_rights s w _ _ hform hrights)
  case noagent => exact exec_lease_refused s w d a b hex .noagent (by simp) (leaseTry_noagent s w _ _ hform)
  case release =>
    have hhandle : bits (gReg (getW s w) a) 5 0 = h := by simp [bits, hh]
    refine ⟨fun hfree => exec_release_none s w d a hex (hhandle ▸ hfree), fun l hl hres hwait => ?_⟩
    show execRelease w d a s = _
    simp only [execRelease, insn_executes _ _ _ _ hex, hhandle, hl, leaseEnd_unwatched s w h l hex.1 hl hres hwait,
      setD_setLease _ _ _ _ _ _ hex.1]
    rfl

end Sys2Proof.Machine
end


section
/-! SUPPORT. What a step keeps: the queue, the integration inputs, hub time and the flag NEW, the canonical form, and that no lease
appears. One rule per operation of State. -/

namespace Sys2Proof.Machine

/-- A Whorl holds no lease but those that Whorl w of a state holds, under the same handles. -/
def LeasesOf (s : State) (w : Nat) (x : Whorl) : Prop :=
  ∀ (h : Nat) (l : Lease), getLease x h = some l → ∃ k : Lease, getLease (getW s w) h = some k ∧ k.req = l.req

/-- A Whorl in canonical form that may take the place of Whorl w of a canonical state. -/
def KeepsW (s : State) (w : Nat) (x : Whorl) : Prop := canonical s = true → whorlWf x = true ∧ LeasesOf s w x

/-- The canonical form kept, and no lease granted. -/
def Tidy (s t : State) : Prop := canonical s = true → canonical t = true ∧ ∀ w : Nat, LeasesOf s w (getW t w)

/-- Tidy, at one hub time: no command is taken from the queue, no input of the integration moves, and no alignment clears NEW. -/
def Keeps (s t : State) : Prop :=
  (t.pending = s.pending ∧ t.integ = s.integ ∧ t.ht = s.ht ∧ t.time.isNew = s.time.isNew) ∧ Tidy s t

/-- What a command answers, where it answers a next state, is kept. -/
def KeepsO (s : State) (o : Host.Outcome State Fault Refusal) : Prop := ∀ t : State, o = .next t → Keeps s t

/-- An entry of a table, where every listed one and the default have a property. -/
theorem tget_all {α : Type} (d : α) (p : α → Prop) (t : Tab α) (k : Nat) (hd : p d) (ht : ∀ e ∈ t, p e.2) : p (tget d t k) := by
  induction t with
  | nil => exact hd
  | cons e t ih =>
    rw [tget]
    split
    · exact ht e List.mem_cons_self
    · exact ih fun f hf => ht f (List.mem_cons_of_mem e hf)

/-- A table some of whose entries go and the others change, in their order. -/
theorem tabWf_filterMap {α : Type} [DecidableEq α] (d : α) (f : Nat × α → Option (Nat × α)) (t : Tab α)
    (hval : ∀ e g : Nat × α, f e = some g → e.2 ≠ d → g.2 ≠ d)
    (hkey : ∀ a b c e : Nat × α, a.1 < b.1 → f a = some c → f b = some e → c.1 < e.1)
    (h : tabWf d t = true) : tabWf d (t.filterMap f) = true := by
  induction t with
  | nil => rfl
  | cons e t ih =>
    obtain ⟨hd, hlt, ht⟩ := (tabWf_cons d e t).1 h
    rw [List.filterMap_cons]
    split
    · exact ih ht
    next g hg =>
      refine (tabWf_cons _ _ _).2 ⟨hval _ _ hg hd, fun q hq => ?_, ih ht⟩
      obtain ⟨p, hp, hpq⟩ := List.mem_filterMap.1 hq
      exact hkey _ _ _ _ (hlt p hp) hg hpq

/-- A table some of whose entries go and the others stay under their keys. -/
theorem tabWf_filterMap_key {α : Type} [DecidableEq α] (d : α) (f : Nat × α → Option (Nat × α)) (t : Tab α)
    (hf : ∀ e g : Nat × α, f e = some g → g.1 = e.1 ∧ (e.2 ≠ d → g.2 ≠ d)) (h : tabWf d t = true) : tabWf d (t.filterMap f) = true :=
  tabWf_filterMap d f t (fun e g hg => (hf e g hg).2) (fun a b c e hab ha hb => by rwa [(hf a c ha).1, (hf b e hb).1]) h

theorem whorlWf_iff (x : Whorl) : whorlWf x = true ↔ memWf x.ls = true ∧ tabWf 0 x.g = true ∧ tabWf 0 x.sr = true ∧
    tabWf Timer.fresh x.timers = true ∧ tabWf Ticket.fresh x.tk = true ∧ tabWf none x.leases = true := by
  simp only [whorlWf, Bool.and_eq_true, and_assoc]

theorem canonical_iff (s : State) : canonical s = true ↔
    memWf s.hubMem = true ∧ memWf s.mail = true ∧ tabWf 0 s.regs = true ∧ tabWf 0 s.areg = true ∧ tabWf 0 s.evPend = true ∧
    tabWf 0 s.evCut = true ∧ tabWf 0 s.evXt = true ∧ tabWf Whorl.fresh s.whorls = true ∧ (∀ e ∈ s.whorls, whorlWf e.2 = true) ∧
    tabWf Part.fresh s.parts = true ∧ tabWf RPart.fresh s.rparts = true ∧ tabWf Region.fresh s.regions = true ∧
    tabWf Site.fresh s.sites = true ∧ tabWf Flyer.fresh s.flyers = true ∧ tabWf Chan.fresh s.chans = true ∧
    tabWf Nand.fresh s.nands = true ∧ tabWf Lane.fresh s.lanes = true ∧ tabWf 0 s.hank.units = true ∧ tabWf 0 s.buffer.units = true := by
  simp only [canonical, Bool.and_eq_true, List.all_eq_true, and_assoc]

/-! ### Steps one after the other -/

section
variable {s t u : State}

theorem Tidy.refl (s : State) : Tidy s s := fun h => ⟨h, fun _ _ l hl => ⟨l, hl, rfl⟩⟩

theorem Tidy.trans (h : Tidy s t) (h' : Tidy t u) : Tidy s u := fun hs => by
  obtain ⟨ht, hst⟩ := h hs
  obtain ⟨hu, htu⟩ := h' ht
  refine ⟨hu, fun w k l hl => ?_⟩
  obtain ⟨m, hm, hml⟩ := htu w k l hl
  obtain ⟨n, hn, hnm⟩ := hst w k m hm
  exact ⟨n, hn, hnm.trans hml⟩

theorem Keeps.refl (s : State) : Keeps s s := ⟨⟨rfl, rfl, rfl, rfl⟩, .refl s⟩

theorem Keeps.trans (h : Keeps s t) (h' : Keeps t u) : Keeps s u := by
  obtain ⟨⟨hp, hi, ht, hn⟩, hst⟩ := h
  obtain ⟨⟨hp', hi', ht', hn'⟩, htu⟩ := h'
  exact ⟨⟨hp'.trans hp, hi'.trans hi, ht'.trans ht, hn'.trans hn⟩, hst.trans htu⟩

theorem Keeps.ite {c : Prop} [Decidable c] {a b : State} (ha : Keeps s a) (hb : Keeps s b) : Keeps s (if c then a else b) := by
  split <;> assumption

/-- A choice between two answers with their next states. -/
theorem Keeps.ite_snd {α : Type} {c : Prop} [Decidable c] {a b : α × State} (ha : Keeps s a.2) (hb : Keeps s b.2) :
    Keeps s (if c then a else b).2 := by
  split <;> assumption

/-- A further operation, where a condition asks for it. -/
theorem Keeps.when {c : Prop} [Decidable c] {a : State} (h : Keeps s t) (ha : Keeps s t → Keeps s a) : Keeps s (if c then a else t) :=
  .ite (ha h) h

/-- A further operation, but where a condition forbids it. -/
theorem Keeps.unless {c : Prop} [Decidable c] {a : State} (h : Keeps s t) (ha : Keeps s t → Keeps s a) : Keeps s (if c then t else a) :=
  .ite h (ha h)

theorem Keeps.elim {α : Type} {o : Option α} {f : α → State} (h : Keeps s t) (hf : ∀ a : α, Keeps s (f a)) : Keeps s (o.elim t f) := by
  cases o
  · exact h
  · exact hf _

/-- A further operation with what an Option holds. -/
theorem Keeps.elimStep {α : Type} {o : Option α} {f : α → State} (h : Keeps s t) (hf : Keeps s t → ∀ a : α, Keeps s (f a)) :
    Keeps s (o.elim t f) :=
  h.elim (hf h)

theorem Keeps.foldl {α : Type} {f : State → α → State} {l : List α} (h : Keeps s t)
    (hf : ∀ (u : State) (a : α), Keeps s u → Keeps s (f u a)) :
    Keeps s (l.foldl f t) :=
  forAll_keeps (Keeps s) l f t h fun u a _ => hf u a

theorem Keeps.forAll {α : Type} {f : State → α → State} {l : List α} (h : Keeps s t)
    (hf : ∀ (u : State) (a : α), Keeps s u → Keeps s (f u a)) :
    Keeps s (forAll l f t) := h.foldl hf

theorem KeepsO.ok (h : Keeps s t) : KeepsO s (ok t) := fun _ hu => by
  cases hu
  exact h

theorem KeepsO.ite {c : Prop} [Decidable c] {a b : Host.Outcome State Fault Refusal} (ha : KeepsO s a) (hb : KeepsO s b) :
    KeepsO s (if c then a else b) := by
  split <;> assumption

end

/-! ### Whorls -/

section
variable {s t : State} {w : Nat} {x : Whorl}

theorem KeepsW.ite {c : Prop} [Decidable c] {a b : Whorl} (ha : KeepsW s w a) (hb : KeepsW s w b) : KeepsW s w (if c then a else b) := by
  split <;> assumption

/-- A Whorl that holds no lease may stand anywhere. -/
theorem KeepsW.bare (hx : KeepsW s w x) {y : Whorl} (hy : memWf x.ls = true → whorlWf y = true) (hl : y.leases = []) : KeepsW s w y := fun hs => by
  refine ⟨hy ((whorlWf_iff x).1 (hx hs).1).1, fun h l hh => ?_⟩
  rw [getLease, hl] at hh
  cases hh

theorem KeepsW.getW (h : Keeps s t) : KeepsW s w (getW t w) := fun hs => by
  obtain ⟨hc, hl⟩ := h.2 hs
  obtain ⟨-, -, -, -, -, -, -, -, hall, -⟩ := (canonical_iff t).1 hc
  exact ⟨tget_all Whorl.fresh (fun x => whorlWf x = true) _ _ rfl hall, hl w⟩

/-- The parts of a Whorl that are no tables. -/
theorem KeepsW.upd (h : KeepsW s w x) {st pc dl loadst fcode faddr notkt codeBytes rom rights owner session byTwp loading} :
    KeepsW s w { x with st := st, pc := pc, dl := dl, loadst := loadst, fcode := fcode, faddr := faddr, notkt := notkt, codeBytes := codeBytes,
                        rom := rom, rights := rights, owner := owner, session := session, byTwp := byTwp, loading := loading } := h

theorem KeepsW.withLs (h : KeepsW s w x) {m : List Host.Cell} (hm : memWf x.ls = true → memWf m = true) : KeepsW s w { x with ls := m } :=
  fun hs => by
  obtain ⟨hwf, hl⟩ := h hs
  obtain ⟨hls, hrest⟩ := (whorlWf_iff x).1 hwf
  exact ⟨(whorlWf_iff _).2 ⟨hm hls, hrest⟩, hl⟩

theorem KeepsW.withG (h : KeepsW s w x) {g : Tab Word} (hg : tabWf 0 x.g = true → tabWf 0 g = true) : KeepsW s w { x with g := g } :=
  fun hs => by
  obtain ⟨hwf, hl⟩ := h hs
  obtain ⟨hls, hgs, hrest⟩ := (whorlWf_iff x).1 hwf
  exact ⟨(whorlWf_iff _).2 ⟨hls, hg hgs, hrest⟩, hl⟩

theorem KeepsW.withSr (h : KeepsW s w x) {r : Tab (BitVec 128)} (hr : tabWf 0 x.sr = true → tabWf 0 r = true) : KeepsW s w { x with sr := r } :=
  fun hs => by
  obtain ⟨hwf, hl⟩ := h hs
  obtain ⟨hls, hg, hsr, hrest⟩ := (whorlWf_iff x).1 hwf
  exact ⟨(whorlWf_iff _).2 ⟨hls, hg, hr hsr, hrest⟩, hl⟩

theorem KeepsW.withTimers (h : KeepsW s w x) {r : Tab Timer} (hr : tabWf Timer.fresh x.timers = true → tabWf Timer.fresh r = true) :
    KeepsW s w { x with timers := r } := fun hs => by
  obtain ⟨hwf, hl⟩ := h hs
  obtain ⟨hls, hg, hsr, htm, hrest⟩ := (whorlWf_iff x).1 hwf
  exact ⟨(whorlWf_iff _).2 ⟨hls, hg, hsr, hr htm, hrest⟩, hl⟩

theorem KeepsW.withTk (h : KeepsW s w x) {r : Tab Ticket} (hr : tabWf Ticket.fresh x.tk = true → tabWf Ticket.fresh r = true) :
    KeepsW s w { x with tk := r } := fun hs => by
  obtain ⟨hwf, hl⟩ := h hs
  obtain ⟨hls, hg, hsr, htm, htk, hleases⟩ := (whorlWf_iff x).1 hwf
  exact ⟨(whorlWf_iff _).2 ⟨hls, hg, hsr, htm, hr htk, hleases⟩, hl⟩

/-- A lease ended. -/
theorem KeepsW.endLease (h : KeepsW s w x) {k : Nat} : KeepsW s w { x with leases := tput none x.leases k none } :=
  fun hs => by
  obtain ⟨hwf, hl⟩ := h hs
  obtain ⟨hls, hg, hsr, htm, htk, hleases⟩ := (whorlWf_iff x).1 hwf
  refine ⟨(whorlWf_iff _).2 ⟨hls, hg, hsr, htm, htk, tabWf_tput _ _ _ _ hleases⟩, fun j l hj => ?_⟩
  rw [getLease, tget_tput _ _ _ _ _ hleases] at hj
  split at hj
  · cases hj
  · exact hl j l hj

theorem KeepsW.setG (h : KeepsW s w x) {r : Nat} {v : Word} : KeepsW s w (setG x r v) := .ite h (h.withG (tabWf_tput _ _ _ _))
theorem KeepsW.setTk (h : KeepsW s w x) {n : Nat} {k : Ticket} : KeepsW s w (setTk x n k) := h.withTk (tabWf_tput _ _ _ _)
theorem KeepsW.setTimer (h : KeepsW s w x) {n : Nat} {y : Timer} : KeepsW s w (setTimer x n y) := h.withTimers (tabWf_tput _ _ _ _)
theorem KeepsW.setSr (h : KeepsW s w x) {n : Nat} {v : BitVec 128} : KeepsW s w (setSr x n v) := h.withSr (tabWf_tput _ _ _ _)
theorem KeepsW.advance (h : KeepsW s w x) : KeepsW s w (advance x) := h

theorem KeepsW.finishTk (h : KeepsW s w x) {n : Nat} {st : Status} {c : BitVec 32} {r : Option Word} : KeepsW s w (finishTk x n st c r) := by
  unfold Machine.finishTk
  refine .ite (.setTk ?_) h
  split
  · exact .ite (.setG h) h
  · exact h

end

/-! ### The tables of State -/

section
variable {s t : State}

theorem Keeps.setW (h : Keeps s t) {w : Nat} {x : Whorl} (hx : KeepsW s w x) : Keeps s (setW t w x) := by
  refine ⟨h.1, fun hs => ?_⟩
  obtain ⟨hc, hl⟩ := h.2 hs
  obtain ⟨hwf, hlx⟩ := hx hs
  obtain ⟨hmem, hmail, hregs, hareg, hpend, hcut, hxt, htab, hall, hrest⟩ := (canonical_iff t).1 hc
  have hput : tabWf Whorl.fresh (Machine.setW t w x).whorls = true := tabWf_tput _ _ _ _ htab
  have hlisted : ∀ e ∈ (Machine.setW t w x).whorls, whorlWf e.2 = true := fun e he =>
    (tput_mem _ _ _ _ e he).elim (fun h => h ▸ hwf) (hall e)
  refine ⟨(canonical_iff _).2 ⟨hmem, hmail, hregs, hareg, hpend, hcut, hxt, hput, hlisted, hrest⟩, fun v => ?_⟩
  rw [getW, show (Machine.setW t w x).whorls = tput Whorl.fresh t.whorls w x from rfl, tget_tput _ _ _ _ _ htab]
  split
  next hv => exact hv ▸ hlx
  next => exact hl v

/-- A part of State replaced that is no Whorl. -/
theorem Keeps.part {u : State} (h : Keeps s t) (hu : canonical t = true → canonical u = true) (hw : u.whorls = t.whorls)
    (hf : u.pending = t.pending ∧ u.integ = t.integ ∧ u.ht = t.ht ∧ u.time = t.time) : Keeps s u := by
  obtain ⟨hp, hi, ht, htime⟩ := hf
  refine h.trans ⟨⟨hp, hi, ht, htime ▸ rfl⟩, fun hs => ⟨hu hs, fun w k l hl => ⟨l, ?_, rfl⟩⟩⟩
  rw [getW, ← hw]
  exact hl

section
variable (h : Keeps s t)
include h

/-- The parts of State whose tables and whose flag NEW stay. -/
theorem Keeps.updAll {hubIrq spine pulses xqueues smSent smMarked ops arrivals lateIds funnel buffer master ring guestAos hang hank time elect
    routes blockedNums cutCount knownCuts twp host aga unlock boot freeCtr opCtr}
    (hkept : buffer.units = t.buffer.units ∧ hank.units = t.hank.units ∧ time.isNew = t.time.isNew) :
    Keeps s { t with
      hubIrq := hubIrq, spine := spine, pulses := pulses, xqueues := xqueues, smSent := smSent, smMarked := smMarked, ops := ops,
      arrivals := arrivals, lateIds := lateIds, funnel := funnel, buffer := buffer, master := master, ring := ring, guestAos := guestAos,
      hang := hang, hank := hank, time := time, elect := elect, routes := routes, blockedNums := blockedNums, cutCount := cutCount,
      knownCuts := knownCuts, twp := twp, host := host, aga := aga, unlock := unlock, boot := boot, freeCtr := freeCtr, opCtr := opCtr } := by
  obtain ⟨⟨hp, hi, ht, hn⟩, htidy⟩ := h
  obtain ⟨hbuffer, hhank, htime⟩ := hkept
  refine ⟨⟨hp, hi, ht, htime.trans hn⟩, fun hs => ⟨?_, (htidy hs).2⟩⟩
  have hc := (htidy hs).1
  simp only [canonical, hbuffer, hhank] at hc ⊢
  exact hc

/-- The parts of State that hold no table. -/
theorem Keeps.upd {hubIrq spine pulses xqueues smSent smMarked ops arrivals lateIds funnel master ring guestAos hang elect routes blockedNums
    cutCount knownCuts twp host aga unlock boot freeCtr opCtr} :
    Keeps s { t with
      hubIrq := hubIrq, spine := spine, pulses := pulses, xqueues := xqueues, smSent := smSent, smMarked := smMarked, ops := ops,
      arrivals := arrivals, lateIds := lateIds, funnel := funnel, master := master, ring := ring, guestAos := guestAos, hang := hang,
      elect := elect, routes := routes, blockedNums := blockedNums, cutCount := cutCount, knownCuts := knownCuts, twp := twp, host := host,
      aga := aga, unlock := unlock, boot := boot, freeCtr := freeCtr, opCtr := opCtr } := h.updAll ⟨rfl, rfl, rfl⟩

theorem Keeps.withHubMem {m : List Host.Cell} (hm : memWf t.hubMem = true → memWf m = true) : Keeps s { t with hubMem := m } :=
  h.part (by simp only [canonical_iff]; tauto) rfl ⟨rfl, rfl, rfl, rfl⟩
theorem Keeps.withMail {m : List Host.Cell} (hm : memWf t.mail = true → memWf m = true) : Keeps s { t with mail := m } :=
  h.part (by simp only [canonical_iff]; tauto) rfl ⟨rfl, rfl, rfl, rfl⟩
theorem Keeps.withRegs {m : Tab Word} (hm : tabWf 0 t.regs = true → tabWf 0 m = true) : Keeps s { t with regs := m } :=
  h.part (by simp only [canonical_iff]; tauto) rfl ⟨rfl, rfl, rfl, rfl⟩
theorem Keeps.withAreg {m : Tab Word} (hm : tabWf 0 t.areg = true → tabWf 0 m = true) : Keeps s { t with areg := m } :=
  h.part (by simp only [canonical_iff]; tauto) rfl ⟨rfl, rfl, rfl, rfl⟩
theorem Keeps.withEvPend {m : Tab Word} (hm : tabWf 0 t.evPend = true → tabWf 0 m = true) : Keeps s { t with evPend := m } :=
  h.part (by simp only [canonical_iff]; tauto) rfl ⟨rfl, rfl, rfl, rfl⟩
theorem Keeps.withEvCut {m : Tab Word} (hm : tabWf 0 t.evCut = true → tabWf 0 m = true) : Keeps s { t with evCut := m } :=
  h.part (by simp only [canonical_iff]; tauto) rfl ⟨rfl, rfl, rfl, rfl⟩
theorem Keeps.withEvXt {m : Tab Word} (hm : tabWf 0 t.evXt = true → tabWf 0 m = true) : Keeps s { t with evXt := m } :=
  h.part (by simp only [canonical_iff]; tauto) rfl ⟨rfl, rfl, rfl, rfl⟩
theorem Keeps.withParts {m : Tab Part} (hm : tabWf Part.fresh t.parts = true → tabWf Part.fresh m = true) : Keeps s { t with parts := m } :=
  h.part (by simp only [canonical_iff]; tauto) rfl ⟨rfl, rfl, rfl, rfl⟩
theorem Keeps.withRparts {m : Tab RPart} (hm : tabWf RPart.fresh t.rparts = true → tabWf RPart.fresh m = true) : Keeps s { t with rparts := m } :=
  h.part (by simp only [canonical_iff]; tauto) rfl ⟨rfl, rfl, rfl, rfl⟩
theorem Keeps.withRegions {m : Tab Region} (hm : tabWf Region.fresh t.regions = true → tabWf Region.fresh m = true) : Keeps s { t with regions := m } :=
  h.part (by simp only [canonical_iff]; tauto) rfl ⟨rfl, rfl, rfl, rfl⟩
theorem Keeps.withSites {m : Tab Site} (hm : tabWf Site.fresh t.sites = true → tabWf Site.fresh m = true) : Keeps s { t with sites := m } :=
  h.part (by simp only [canonical_iff]; tauto) rfl ⟨rfl, rfl, rfl, rfl⟩
theorem Keeps.withFlyers {m : Tab Flyer} (hm : tabWf Flyer.fresh t.flyers = true → tabWf Flyer.fresh m = true) : Keeps s { t with flyers := m } :=
  h.part (by simp only [canonical_iff]; tauto) rfl ⟨rfl, rfl, rfl, rfl⟩
theorem Keeps.withChans {m : Tab Chan} (hm : tabWf Chan.fresh t.chans = true → tabWf Chan.fresh m = true) : Keeps s { t with chans := m } :=
  h.part (by simp only [canonical_iff]; tauto) rfl ⟨rfl, rfl, rfl, rfl⟩
theorem Keeps.withNands {m : Tab Nand} (hm : tabWf Nand.fresh t.nands = true → tabWf Nand.fresh m = true) : Keeps s { t with nands := m } :=
  h.part (by simp only [canonical_iff]; tauto) rfl ⟨rfl, rfl, rfl, rfl⟩
theorem Keeps.withLanes {m : Tab Lane} (hm : tabWf Lane.fresh t.lanes = true → tabWf Lane.fresh m = true) : Keeps s { t with lanes := m } :=
  h.part (by simp only [canonical_iff]; tauto) rfl ⟨rfl, rfl, rfl, rfl⟩
theorem Keeps.withHank {k : Hank} (hk : tabWf 0 t.hank.units = true → tabWf 0 k.units = true) : Keeps s { t with hank := k } :=
  h.part (by simp only [canonical_iff]; tauto) rfl ⟨rfl, rfl, rfl, rfl⟩
theorem Keeps.withBuffer {b : Buffer} (hb : tabWf 0 t.buffer.units = true → tabWf 0 b.units = true) : Keeps s { t with buffer := b } :=
  h.part (by simp only [canonical_iff]; tauto) rfl ⟨rfl, rfl, rfl, rfl⟩

theorem Keeps.setP {p x} : Keeps s (setP t p x) := h.withParts (tabWf_tput _ _ _ _)
theorem Keeps.setRP {p r x} : Keeps s (setRP t p r x) := h.withRparts (tabWf_tput _ _ _ _)
theorem Keeps.setR {r x} : Keeps s (setR t r x) := h.withRegions (tabWf_tput _ _ _ _)
theorem Keeps.setS {i x} : Keeps s (setS t i x) := h.withSites (tabWf_tput _ _ _ _)
theorem Keeps.setF {f x} : Keeps s (setF t f x) := h.withFlyers (tabWf_tput _ _ _ _)
theorem Keeps.setC {n x} : Keeps s (setC t n x) := h.withChans (tabWf_tput _ _ _ _)
theorem Keeps.setN {d x} : Keeps s (setN t d x) := h.withNands (tabWf_tput _ _ _ _)
theorem Keeps.setL {n x} : Keeps s (setL t n x) := h.withLanes (tabWf_tput _ _ _ _)
theorem Keeps.regPut {key o v} : Keeps s (regPut t key o v) := h.withRegs (tabWf_tput _ _ _ _)
theorem Keeps.setAg {i k v} : Keeps s (setAg t i k v) := h.withAreg (tabWf_tput _ _ _ _)
theorem Keeps.setAgBank {i j k v} : Keeps s (setAgBank t i j k v) := h.withAreg (tabWf_tput _ _ _ _)
theorem Keeps.setFlyReg {c k v} : Keeps s (setFlyReg t c k v) := h.withAreg (tabWf_tput _ _ _ _)

end

end

end Sys2Proof.Machine
end


section
/-! SUPPORT. What a step keeps (R280): registers. -/

namespace Sys2Proof.Machine

section
variable {s t : State}

theorem Keeps.setReg (h : Keeps s t) {o v} : Keeps s (setReg t o v) :=
  .regPut h

theorem Keeps.setRegF (h : Keeps s t) {o hi lo x} : Keeps s (setRegF t o hi lo x) :=
  .setReg h

theorem Keeps.countF (h : Keeps s t) {o hi lo n} : Keeps s (countF t o hi lo n) :=
  .setRegF h

theorem Keeps.countObj (h : Keeps s t) {n o hi lo k} : Keeps s (countObj t n o hi lo k) :=
  .regPut h

end

end Sys2Proof.Machine
end


section
/-! SUPPORT. What a step keeps (R280): host rights. -/

namespace Sys2Proof.Machine

section
variable {s t : State}

theorem Keeps.setMapByte (h : Keeps s t) {k b} : Keeps s (setMapByte t k b) :=
  .setRegF h

end

end Sys2Proof.Machine
end


section
/-! SUPPORT. What a step keeps (R280): crossings. -/

namespace Sys2Proof.Machine

section
variable {s t : State}

theorem Keeps.setPulse (h : Keeps s t) {i x} : Keeps s (setPulse t i x) :=
  .upd h

theorem Keeps.overrun (h : Keeps s t) {index} : Keeps s (overrun t index) :=
  .regPut (.countObj h)

theorem Keeps.pulseEvent (h : Keeps s t) {index now} : Keeps s (pulseEvent t index now).2 := by
  unfold Machine.pulseEvent
  dsimp only
  split
  · exact .overrun h
  · exact .setPulse h

theorem Keeps.pulseEchoes (h : Keeps s t) {now pick} : Keeps s (pulseEchoes t now pick) :=
  .upd h

theorem Keeps.trigPulse (h : Keeps s t) {index} : Keeps s (trigPulse t index).2 :=
  .pulseEvent h

theorem Keeps.setXq (h : Keeps s t) {i x} : Keeps s (setXq t i x) :=
  .upd h

end

end Sys2Proof.Machine
end


section
/-! SUPPORT. What a step keeps (R280): event lines, records and journal. -/

namespace Sys2Proof.Machine

section
variable {s t : State}

/-! ### Event lines -/

theorem Keeps.irqUpdate (h : Keeps s t) : Keeps s (irqUpdate t) :=
  .upd h

theorem Keeps.setPend (h : Keeps s t) {k v} : Keeps s (setPend t k v) :=
  .irqUpdate (.withEvPend h (tabWf_tput _ _ _ _))

theorem Keeps.raiseLines (h : Keeps s t) {m} : Keeps s (raiseLines t m) := by
  have hb : Keeps s { t with buffer := if m.getLsbD (regF t rTrcWinCtrl 37 32) && regF t rTrcWinCtrl 1 0 == 2 then
      { t.buffer with rises := t.buffer.rises ++ [t.ht] } else t.buffer } := h.withBuffer fun hu => by split <;> exact hu
  exact .irqUpdate (hb.withEvPend (tabWf_orAll _ _ _))

theorem Keeps.raiseLine (h : Keeps s t) {n} : Keeps s (raiseLine t n) :=
  .raiseLines h

theorem Keeps.raiseCut (h : Keeps s t) {p} : Keeps s (raiseCut t p) := .raiseLine (h.withEvCut (tabWf_orAll _ _ _))

theorem Keeps.raiseXt (h : Keeps s t) {c} : Keeps s (raiseXt t c) :=
  .raiseLine (h.withEvXt fun hx => List.foldlRecOn (motive := fun m => tabWf 0 m = true) _ _ hx fun _ hx _ _ => tabWf_tput _ _ _ _ hx)

/-! ### Records -/

theorem Keeps.pushLocal (h : Keeps s t) {r} : Keeps s (pushLocal t r) :=
  .ite (.upd h) (.ite (.upd h) (.upd h))

theorem Keeps.hevt (h : Keeps s t) {code arg pay} : Keeps s (hevt t code arg pay) :=
  .pushLocal h

/-! ### Completions -/

theorem Keeps.postArrival (h : Keeps s t) {a} : Keeps s (postArrival t a) :=
  .ite (.upd h) (.ite (.countF (.upd h)) (.upd h))

theorem Keeps.post (h : Keeps s t) {opId st count result} : Keeps s (post t opId st count result) :=
  .postArrival h

end

end Sys2Proof.Machine
end


section
/-! SUPPORT. What a step keeps (R280): drops, gaps and the encoders. -/

namespace Sys2Proof.Machine

section
variable {s t : State}

/-! ### Lossless partitions -/

theorem Keeps.wantHold (h : Keeps s t) {p at_} : Keeps s (wantHold t p at_) := by
  unfold Machine.wantHold
  split
  · exact h
  · exact .ite (.setP h) h

/-! ### The Bobbin's output -/

theorem Keeps.bobbinPush (h : Keeps s t) {i r} : Keeps s (bobbinPush t i r) := by
  unfold Machine.bobbinPush
  dsimp only
  split
  · exact .setS (.ite (.wantHold h) h)
  · exact .when (.setAg (.setS (.ite (.wantHold h) h))) fun hk => .countF hk
  · exact .ite (.wantHold h) h

/-! ### Agent registers within an edge (R81, R136, R194, R202) -/

theorem Keeps.agHold (h : Keeps s t) {i idx} : Keeps s (agHold t i idx) :=
  .ite h (.setS h)

theorem Keeps.setAgNext (h : Keeps s t) {i idx v} : Keeps s (setAgNext t i idx v) :=
  .setAg (.agHold h)

theorem Keeps.emitSrc (h : Keeps s t) {i k anchor time addr edge mk} : Keeps s (emitSrc t i k anchor time addr edge mk) := by
  unfold Machine.emitSrc
  dsimp only
  split
  · exact h
  split
  · exact .bobbinPush (.bobbinPush (.setS h))
  · exact .bobbinPush (.setS h)

theorem Keeps.setTnt (h : Keeps s t) {i l} : Keeps s (setTnt t i l) :=
  .setS h

theorem Keeps.closeTnt (h : Keeps s t) {i} : Keeps s (closeTnt t i) := by
  unfold Machine.closeTnt
  split
  · exact h
  · exact .emitSrc (.setTnt h)

theorem Keeps.btSwitch (h : Keeps s t) {i old v} : Keeps s (btSwitch t i old v) :=
  .setS (.ite (.closeTnt h) h)

theorem Keeps.btAct (h : Keeps s t) {i v} : Keeps s (btAct t i v) :=
  .ite (.setS (.btSwitch h)) (.setAg (.btSwitch h))

theorem Keeps.traceStop (h : Keeps s t) {i} : Keeps s (traceStop t i) :=
  .setS (.btAct h)

theorem Keeps.traceStart (h : Keeps s t) {i} : Keeps s (traceStart t i) :=
  .ite h (.btAct h)

theorem Keeps.traceDue (h : Keeps s t) {i} : Keeps s (traceDue t i) :=
  .ite (.traceStart (.setS h)) h

theorem Keeps.noteAll (h : Keeps s t) {v i} : Keeps s (noteAll v t i) :=
  .setS h

theorem Keeps.lpwr (h : Keeps s t) {i ev} : Keeps s (lpwr t i ev) :=
  .when (.when (.ite (.closeTnt h) h) fun hk => .noteAll hk) fun hk1 => .emitSrc hk1

theorem Keeps.flowEncode (h : Keeps s t) {i br ind} : Keeps s (flowEncode t i br ind) := by
  have hclose {c : Prop} [Decidable c] {x : Site} : Keeps s (if c then Machine.setS (Machine.closeTnt t i) i x else t) := .ite
      (.setS (.closeTnt h)) h
  unfold Machine.flowEncode
  cases br <;> cases ind
  · exact .ite (.closeTnt hclose) hclose
  · exact .emitSrc (.setTnt hclose)
  · exact .ite (.closeTnt (.setTnt hclose)) (.setTnt hclose)
  · exact .emitSrc (.setTnt (.setTnt hclose))

theorem KeepsO.execFlowEvent (h : Keeps s t) {site iaddr br ind} : KeepsO s (execFlowEvent site iaddr br ind t) :=
  .ite (.ok h) (.ok (.when (.ite (.setS h) h) fun hk => .flowEncode hk))

end

end Sys2Proof.Machine
end


section
/-! SUPPORT. What a step keeps (R280): from Flyer to funnel, sinks and trace buffer. -/

namespace Sys2Proof.Machine

section
variable {s t : State}

/-! ### The Flyer's queue -/

theorem Keeps.flyerPush (h : Keeps s t) {f r} : Keeps s (flyerPush t f r) := by
  unfold Machine.flyerPush
  split
  · exact .setF (.ite (.wantHold h) h)
  · exact .when (.countObj (.setF (.ite (.wantHold h) h))) fun hk => .countF (.countObj hk)
  · exact .ite (.wantHold h) h

theorem Keeps.feedPop (h : Keeps s t) {f x} : Keeps s (feedPop t f x) := by
  unfold Machine.feedPop
  split
  · exact .setS h
  · exact .setF h
  · exact .setS h
  · exact .setS h
  · exact .setS h

theorem KeepsO.execFlyerTake (h : Keeps s t) {flyer} : KeepsO s (execFlyerTake flyer t) := by
  unfold Machine.execFlyerTake
  dsimp only
  split
  · exact .ok h
  split
  · exact .ok h
  · exact .ok (.setF (.flyerPush (.feedPop h)))

theorem KeepsO.execRecordAgeDrop (h : Keeps s t) {flyer} : KeepsO s (execRecordAgeDrop flyer t) := by
  unfold Machine.execRecordAgeDrop
  dsimp only
  split
  · exact .ok h
  · exact .ite (.ok (.countObj (.setF h))) (.ok h)

/-! ### Groups -/

theorem KeepsO.execGroupSend (h : Keeps s t) {flyer} : KeepsO s (execGroupSend flyer t) :=
  .ite (.ok h) (.ok (.setF h))

theorem Keeps.throughPut (h : Keeps s t) {m g} : Keeps s (throughPut t m g) :=
  .ite (.setF h) (.setF h)

theorem Keeps.sendSouth (h : Keeps s t) {n g} : Keeps s (sendSouth t n g) :=
  .ite (.throughPut h) (.upd h)

theorem KeepsO.execCollectorArbitrate (h : Keeps s t) {node} : KeepsO s (execCollectorArbitrate node t) := by
  unfold Machine.execCollectorArbitrate
  dsimp only
  split
  · exact .ok h
  split
  · exact .ok h
  · exact .ok (.sendSouth (.setF h))
  · exact .ok (.sendSouth (.setF h))
  · exact .ite (.ok (.sendSouth (.setF h))) (.ok (.sendSouth (.setF h)))

theorem KeepsO.execTraceWordError (h : Keeps s t) {node bad} : KeepsO s (execTraceWordError node bad t) := by
  unfold Machine.execTraceWordError
  dsimp only
  cases (getF t node).through with
  | nil => exact .ok h
  | cons g l => exact .ite (.ok h) (.ite (.ok (.setF (.countF h))) (.ok (.setF (.countF h))))

/-! ### The funnel's inputs -/

theorem Keeps.funnelGap (h : Keeps s t) {src reason count} : Keeps s (funnelGap t src reason count) :=
  .pushLocal h

theorem Keeps.resyncFlyer (h : Keeps s t) {f} : Keeps s (resyncFlyer t f) :=
  .setF h

theorem Keeps.resyncEdge (h : Keeps s t) {f} : Keeps s (resyncEdge t f) :=
  .unless (.setF h) fun hk => .forAll hk fun _ _ hu => .noteAll hu

theorem Keeps.groupCheck (h : Keeps s t) {h'} : Keeps s (groupCheck t h') :=
  .ite (.upd h) (.resyncFlyer (.countF (.funnelGap (.upd h))))

theorem KeepsO.execGroupArrival (h : Keeps s t) {col} : KeepsO s (execGroupArrival col t) := by
  unfold Machine.execGroupArrival
  split
  · exact .ok h
  · exact .ite (.ok h) (.ok (.forAll (.upd h) fun _ _ hu => .groupCheck hu))

/-! ### Sinks -/

theorem Keeps.countDrop (h : Keeps s t) {n r} : Keeps s (countDrop t n r) :=
  .countF h

theorem Keeps.setSink (h : Keeps s t) {n x} : Keeps s (setSink t n x) :=
  .upd h

/-! ### The trace buffer -/

/-- Units written into the open block. -/
theorem bufPut_wf (b : Buffer) (l : List Word) (h : tabWf 0 b.units = true) : tabWf 0 (bufPut b l).units = true :=
  List.foldlRecOn (motive := fun m => tabWf 0 m = true) _ _ h fun _ hm _ _ => tabWf_tput _ _ _ _ hm

theorem Keeps.bufOpen (h : Keeps s t) : Keeps s (bufOpen t) := h.withBuffer fun hb => bufPut_wf _ _ (tabWf_filter _ _ _ hb)

theorem Keeps.bufWrite (h : Keeps s t) {r} : Keeps s (bufWrite t r) := Keeps.withBuffer (.ite h (.bufOpen h)) (bufPut_wf _ _)

theorem Keeps.closeGaps (h : Keeps s t) : Keeps s (closeGaps t) :=
  .setSink (.updAll (.forAll (.updAll h (by trivial)) fun _ _ hu => .bufWrite hu) (by trivial))

theorem Keeps.postBlock (h : Keeps s t) {r b} (hb : postBlock t r = some b) : Keeps s { t with buffer := b } := by
  unfold Machine.postBlock at hb
  dsimp only at hb
  split at hb
  · cases hb
    exact .upd h
  · split at hb <;> cases hb
    exact .upd h

theorem Keeps.bufTake (h : Keeps s t) {r u} (hu : bufTake t r = some u) : Keeps s u := by
  unfold Machine.bufTake at hu
  split at hu
  · cases hu
  split at hu
  · cases hu
    exact .bufWrite h
  split at hu
  · obtain ⟨b, hb, rfl⟩ := Option.map_eq_some_iff.1 hu
    exact .bufWrite (h.postBlock hb)
  split at hu
  · cases hu
  · cases hu
    exact .bufWrite h

theorem Keeps.bufTakeAll {l : List Rec} {u : State} (h : Keeps s t) (hu : bufTakeAll t l = some u) : Keeps s u := by
  induction l generalizing t with
  | nil =>
    cases hu
    exact h
  | cons r l ih =>
    obtain ⟨v, hv, hu⟩ := Option.bind_eq_some_iff.1 hu
    exact ih (h.bufTake hv) hu

theorem Keeps.bufferTake (h : Keeps s t) {r} : Keeps s (bufferTake t r) := by
  unfold Machine.bufferTake
  dsimp only
  split
  · exact .countDrop h
  split
  · exact .updAll (.bufWrite (.updAll h (by trivial))) (by trivial)
  split
  next hu => exact .setSink (h.bufTakeAll hu)
  next =>
    refine .ite ?_ (.countDrop (.updAll (.closeGaps h) (by trivial)))
    exact .ite (.updAll (.ite (.setSink h) (.countDrop (.setSink h))) (by trivial)) (.ite (.setSink h) (.countDrop (.setSink h)))

theorem Keeps.bufferStep (h : Keeps s t) : Keeps s (bufferStep t) := by
  unfold Machine.bufferStep
  dsimp only
  split
  · exact h
  · exact .bufferTake (.setSink h)

theorem Keeps.bufferRun {n : Nat} (h : Keeps s t) : Keeps s (bufferRun n t) := by
  induction n generalizing t with
  | zero => exact h
  | succ n ih =>
    unfold Machine.bufferRun
    split
    · exact h
    · exact .ite h (ih (.bufferStep h))

theorem Keeps.bufferTick (h : Keeps s t) : Keeps s (bufferTick t) :=
  .ite h (.bufferRun (.updAll h (by trivial)))

theorem Keeps.bufferFlush (h : Keeps s t) : Keeps s (bufferFlush t) :=
  .forAll h fun _ _ hu => .bufferStep hu

theorem Keeps.sinkLose (h : Keeps s t) {n reason x r} : Keeps s (sinkLose t n reason x r) :=
  .countDrop (.setSink h)

theorem Keeps.offerSink (h : Keeps s t) {n r} : Keeps s (offerSink t n r) := by
  unfold Machine.offerSink
  extract_lets blocked y x p ll fill need s1
  have h1 : Keeps s s1 := .ite (.forAll h fun _ _ hu => .wantHold hu) h
  refine .ite h (.ite (.countDrop h) (.ite (.sinkLose h) ?_))
  cases (if ll then verdictLl else verdict) 16384 fill need (sinkCls t n r) (recType r) with
  | take => exact .setSink h1
  | wait => exact .setSink h1
  | drop => exact .ite (.countF (.sinkLose h1)) (.sinkLose h1)

theorem Keeps.release (h : Keeps s t) {r} : Keeps s (release t r) :=
  .when (.when (.ite (.offerSink h) h) fun hk => .offerSink hk) fun hk1 => .offerSink hk1

/-! ### Parse and release -/

theorem Keeps.releaseFirst (h : Keeps s t) : Keeps s (releaseFirst t) := by
  unfold Machine.releaseFirst
  split
  · exact h
  · exact .release (.upd h)

theorem Keeps.makeRoom {n need : Nat} (h : Keeps s t) : Keeps s (makeRoom n need t) := by
  induction n generalizing t with
  | zero => exact h
  | succ n ih => exact .ite h (ih (.countF (.releaseFirst h)))

theorem Keeps.releaseTo {n seq : Nat} (h : Keeps s t) : Keeps s (releaseTo n seq t) := by
  induction n generalizing t with
  | zero => exact h
  | succ n ih => exact .ite (ih (.releaseFirst h)) h

theorem Keeps.storeRec (h : Keeps s t) {input r} : Keeps s (storeRec t input r) :=
  .when (.upd (.makeRoom (.upd h))) fun hk => .countF (.releaseTo hk)

theorem Keeps.watchParsed (h : Keeps s t) {r} : Keeps s (watchParsed t r) :=
  .ite (.ite h (.ite (.upd h) (.countF (.upd h)))) (.ite (.upd h) (.ite (.upd h) h))

theorem Keeps.inputPop (h : Keeps s t) {n} : Keeps s (inputPop t n) :=
  .ite (.upd h) (.upd h)

theorem Keeps.noteDump (h : Keeps s t) {r} : Keeps s (noteDump t r) :=
  .ite (.upd h) h

theorem Keeps.parseD (h : Keeps s t) {n r} : Keeps s (parseD t n r) :=
  .ite (.upd (.noteDump (.inputPop h))) (.ite (.upd h) h)

theorem KeepsO.execFunnelParse (h : Keeps s t) {input} : KeepsO s (execFunnelParse input t) := by
  unfold Machine.execFunnelParse
  split
  · exact .ok h
  · exact .ite (.ok (.parseD h))
        (.ok (.storeRec (.watchParsed (.inputPop (.when (.ite (.countF h) h) fun hk1 => .elimStep hk1 fun hk _ => .post (.upd hk))))))

theorem KeepsO.execFunnelRelease (h : Keeps s t) : KeepsO s (execFunnelRelease t) := by
  unfold Machine.execFunnelRelease
  split
  · exact .ok h
  · exact .ite (.ok (.releaseFirst h)) (.ok h)

/-! ### Gaps that no record follows -/

theorem KeepsO.execGapFlush (h : Keeps s t) {point src} : KeepsO s (execGapFlush point src t) := by
  cases point with
  | bobbin i =>
    simp only [Machine.execGapFlush]
    split
    · exact .ite (.ok (.setS h)) (.ok h)
    · exact .ok h
  | flyer f =>
    simp only [Machine.execGapFlush]
    refine .ite (.ok h) ?_
    split
    · exact .ok (.setF h)
    · exact .ok (.setF h)
    · exact .ok h
  | sink n =>
    simp only [Machine.execGapFlush]
    refine .ite (.ok h) ?_
    split
    · refine .ok ?_
      cases hu : Machine.bufTake t _ with
      | none => exact h
      | some u => exact .setSink (h.bufTake hu)
    · exact .ite (.ok (.setSink h)) (.ok h)
    · exact .ok h
  | ring =>
    simp only [Machine.execGapFlush]
    refine .ite (.ok h) ?_
    split
    · exact .ok h
    · exact .ok h
    · exact .ok h

/-! ### The buffer's commands -/

theorem Keeps.endCapture (h : Keeps s t) {cause} : Keeps s (endCapture t cause) := by
  unfold Machine.endCapture
  extract_lets s1
  have h1 : Keeps s s1 := .closeGaps (.bufferFlush h)
  clear_value s1
  exact .hevt (.raiseLine (.updAll h1 (by trivial)))

theorem Keeps.bufferMode (h : Keeps s t) {v} : Keeps s (bufferMode t v) :=
  .setSink (Keeps.withBuffer (.setReg (.ite (.endCapture h) h)) fun _ => rfl)

theorem Keeps.fireTrigger (h : Keeps s t) {time line sw} : Keeps s (fireTrigger t time line sw) :=
  .ite h (.ite (.pushLocal (.updAll h (by trivial))) (.countF h))

theorem KeepsO.execBufferTrigger (h : Keeps s t) : KeepsO s (execBufferTrigger t) := by
  unfold Machine.execBufferTrigger
  split
  · exact .ok h
  · exact .ok (.fireTrigger (.updAll h (by trivial)))

theorem KeepsO.execCaptureEnd (h : Keeps s t) : KeepsO s (execCaptureEnd t) :=
  .ite (.ok h) (.ite (.ok (.endCapture h)) (.ite (.ok (.endCapture h)) (.ok h)))

/-- The unit addresses that close up keep their order (R156). -/
theorem closeUp_lt (j a b c e : Nat) (hab : a < b) (hc : ((closeUp j (a / 512)).map fun n => 512 * n + a % 512) = some c)
    (he : ((closeUp j (b / 512)).map fun n => 512 * n + b % 512) = some e) : c < e := by
  obtain ⟨m, hm, rfl⟩ := Option.map_eq_some_iff.1 hc
  obtain ⟨n, hn, rfl⟩ := Option.map_eq_some_iff.1 he
  have hplace {x k : Nat} (h : closeUp j x = some k) : x < 4096 * j ∧ k = x ∨ 4096 * (j + 1) ≤ x ∧ k + 4096 = x := by
    unfold closeUp at h
    grind
  have hfirst := hplace hm
  have hsecond := hplace hn
  omega

theorem Keeps.retireBank (h : Keeps s t) {bank} : Keeps s (retireBank t bank) :=
  h.withBuffer fun hb => by
    refine tabWf_filterMap 0 _ _ (fun e g hg => ?_) (fun a b c e hab ha hb => ?_) hb
    · obtain ⟨n, -, rfl⟩ := Option.map_eq_some_iff.1 hg
      exact id
    · obtain ⟨m, hm, rfl⟩ := Option.map_eq_some_iff.1 ha
      obtain ⟨n, hn, rfl⟩ := Option.map_eq_some_iff.1 hb
      exact closeUp_lt _ _ _ _ _ hab (by rw [hm]; rfl) (by rw [hn]; rfl)

end

end Sys2Proof.Machine
end


section
/-! SUPPORT. What a step keeps (R280): Card engines and drift. -/

namespace Sys2Proof.Machine

section
variable {s t : State}

/-! ### Windows -/

theorem Keeps.setCard (h : Keeps s t) {f x} : Keeps s (setCard t f x) :=
  .setF h

theorem Keeps.closeWindow (h : Keeps s t) {f code} : Keeps s (closeWindow t f code) := by
  unfold Machine.closeWindow
  dsimp only
  split
  · exact .ite (.setCard h) (.ite (.setCard (.ite (.countObj (.setAg h)) (.setAg h)))
        (.ite (.countObj (.setCard (.ite (.countObj (.setAg h)) (.setAg h)))) (.setCard (.ite (.countObj (.setAg h)) (.setAg h)))))
  · exact .setCard h

theorem Keeps.openWindow (h : Keeps s t) {f i j tag} : Keeps s (openWindow t f i j tag) :=
  .setCard h

theorem Keeps.tapElements (h : Keeps s t) {f i j e} : Keeps s (tapElements t f i j e) := by
  unfold Machine.tapElements
  dsimp only
  split
  · exact h
  split
  · exact .setCard h
  · exact .setCard h
  · exact .setCard (.when (.setCard h) fun hk => .openWindow (.closeWindow hk))

theorem KeepsO.execTapEdge (h : Keeps s t) {flyer edge} : KeepsO s (execTapEdge flyer edge t) := by
  have hfin {u : State} (hu : Keeps s u) : KeepsO s (if edge.fin then
      let a := if (getF u flyer).card.win.isSome then Machine.closeWindow u flyer 1 else u
      Machine.ok (Machine.setCard a flyer { (getF a flyer).card with tag := none }) else Machine.ok u) :=
    .ite (.ok (.setCard (.ite (.closeWindow hu) hu))) (.ok hu)
  unfold Machine.execTapEdge
  dsimp only
  cases (getF t flyer).card.sel with
  | none => exact .ok h
  | some e =>
    refine .ite (.ok h) (hfin (.tapElements ?_))
    cases edge.tag with
    | none => exact h
    | some tag => exact .ite (.openWindow (.setCard (.ite (.closeWindow h) h))) (.setCard (.ite (.closeWindow h) h))

/-! ### Rotation (R188) -/

theorem Keeps.driveTap (h : Keeps s t) {i en slot} : Keeps s (driveTap t i en slot) :=
  .setS h

theorem Keeps.selectTap (h : Keeps s t) {f sel} : Keeps s (selectTap t f sel) := by
  unfold Machine.selectTap
  refine .setCard ?_
  split
  refine .driveTap ?_
  split
  · exact .driveTap h
  · exact h
  split
  · exact .driveTap h
  · exact h

theorem Keeps.redrive (h : Keeps s t) {f} : Keeps s (redrive t f) := by
  unfold Machine.redrive
  split
  · exact .driveTap h
  · exact h

theorem Keeps.settleCard (h : Keeps s t) {f} : Keeps s (settleCard t f) := by
  unfold Machine.settleCard
  dsimp only
  split
  · exact h
  split
  · exact .ite h (.selectTap h)
  · exact .ite (.redrive h) (.selectTap (.ite (.closeWindow h) h))

theorem KeepsO.execTapRotate (h : Keeps s t) {flyer} : KeepsO s (execTapRotate flyer t) := by
  unfold Machine.execTapRotate
  dsimp only
  split
  · exact .ok h
  split
  · exact .ok (.settleCard h)
  · exact .ite (.ok (.settleCard h)) (.ite (.ok h) (.ite (.ok h) (.ok (.countObj (.selectTap (.ite (.closeWindow h) h))))))

/-! ### Cross-trigger events -/

theorem Keeps.xtEvent (h : Keeps s t) {cluster ch delay} : Keeps s (xtEvent t cluster ch delay) := by
  unfold Machine.xtEvent
  split
  · exact h
  · exact .ite h (.setF h)

/-! ### Drift (R186, R187) -/

theorem Keeps.driftInvert (h : Keeps s t) {cluster ch waits} : Keeps s (driftInvert t cluster ch waits) :=
  .setF h

theorem Keeps.driftLevel (h : Keeps s t) {cluster ch} : Keeps s (driftLevel t cluster ch) :=
  .ite (.setF h) (.driftInvert h)

theorem KeepsO.execDriftLevelDeferred (h : Keeps s t) {cluster ch} : KeepsO s (execDriftLevelDeferred cluster ch t) :=
  .ite (.ok h) (.ok (.driftInvert h))

theorem Keeps.driftEdge (h : Keeps s t) {cluster} : Keeps s (driftEdge t cluster) :=
  .forAll h fun _ _ hu => .unless (.setF hu) fun hk => .xtEvent hk

theorem Keeps.driftTrip (h : Keeps s t) {n sum cos rel tests} : Keeps s (driftTrip t n sum cos rel tests) :=
  .when (.when (.when (.when (.countObj h) fun hk => .raiseLine hk) fun hk1 => .hevt hk1) fun hk2 => .driftLevel hk2) fun hk2 => .regPut hk2

theorem KeepsO.execDriftCompare (h : Keeps s t) {n} : KeepsO s (execDriftCompare n t) := by
  unfold Machine.execDriftCompare
  split
  · exact .ite (.ok h) (.ite (.ok (.upd h)) (.ite (.ok (.when (.ite (.countObj (.upd h)) (.upd h)) fun hk => .countObj hk))
        (.ite (.ok (.countObj (.upd h))) (.ok (.unless (.regPut (.regPut (.countObj (.upd h)))) fun hk => .driftTrip hk)))))
  · exact .ok (.upd h)
  · exact .ok h

end

end Sys2Proof.Machine
end


section
/-! SUPPORT. What a step keeps (R280): the MRAM of the Hank store. -/

namespace Sys2Proof.Machine

section
variable {s t : State}

/-! ### Banks and slots -/

/-- The units of a frame, as far as they are written. -/
theorem putVerified_wf (a : Nat) (us : List Word) (k : Hank) (h : tabWf 0 k.units = true) : tabWf 0 (putVerified a us k).1.units = true :=
    by
  induction us generalizing a k with
  | nil => exact h
  | cons u us ih =>
    unfold putVerified
    dsimp only
    split
    · exact ih _ _ (tabWf_tput _ _ _ _ h)
    · exact h

theorem Keeps.hankPut (h : Keeps s t) {base us} : Keeps s (hankPut t base us).1 := by
  have h1 : Keeps s { t with hank := (putVerified base us t.hank).1 } := h.withHank (putVerified_wf _ _ _)
  unfold Machine.hankPut
  dsimp only
  split
  · exact .countF h1
  · exact h1

theorem Keeps.putSlot (h : Keeps s t) {base n us} : Keeps s (putSlot t base n us) :=
  .hankPut h

theorem Keeps.putSlots (h : Keeps s t) {off n us} : Keeps s (putSlots t off n us) :=
  .forAll h fun _ _ hu => .putSlot hu

theorem Keeps.syncSlots (h : Keeps s t) {off n} : Keeps s (syncSlots t off n) := by
  unfold Machine.syncSlots
  split
  · exact h
  · exact .forAll h fun _ _ hu => .putSlot hu

/-! ### Writing a commit -/

theorem Keeps.putJournal {us : List Word} {k : Nat} (h : Keeps s t) : Keeps s (putJournal us k t) := by
  induction k generalizing t with
  | zero => exact h
  | succ k ih =>
    exact .ite (ih (.updAll (.hankPut (.updAll (.ite (.hankPut h) h) (by trivial))) (by trivial)))
        (.updAll (.hankPut (.updAll (.ite (.hankPut h) h) (by trivial))) (by trivial))

theorem Keeps.putL0 {num : Nat} {us : List Word} {k : Nat} {l : List Nat} (h : Keeps s t) : Keeps s (putL0 num us k l t) := by
  induction k generalizing t l with
  | zero => exact h
  | succ k ih =>
    unfold Machine.putL0
    split
    · exact h
    · exact .ite (ih (.hankPut (.updAll h (by trivial)))) (.hankPut (.updAll h (by trivial)))

theorem Keeps.putEntry (h : Keeps s t) {cnum body} : Keeps s (putEntry t cnum body) :=
  .updAll (.forAll h fun _ _ hu => .hankPut hu) (by trivial)

theorem Keeps.setB (h : Keeps s t) {d b x} : Keeps s (setB t d b x) :=
  .setN h

theorem Keeps.applyEntries {l : List Word} (h : Keeps s t) : Keeps s (applyEntries l t) := by
  induction l, t using Machine.applyEntries.induct with
  | case1 i e l u d b x ih => exact ih (.setB h)
  | case2 l u hl =>
    unfold Machine.applyEntries
    split
    · exact absurd rfl (hl _ _ _)
    · exact h

theorem Keeps.applyHead (h : Keeps s t) {d v} : Keeps s (applyHead t d v) :=
  .setN h

theorem Keeps.applyLog (h : Keeps s t) {body} : Keeps s (applyLog t body) :=
  .applyEntries (.applyHead (.applyHead h))

theorem Keeps.writeCommit (h : Keeps s t) {c} : Keeps s (writeCommit t c) := by
  unfold Machine.writeCommit
  split
  · exact .putJournal h
  · exact .countF (.putSlots h)
  · exact .putSlots h
  · exact .putL0 h
  · exact .putEntry h
  · exact .unless (.applyLog (.putSlots h)) fun hk => .withNands hk (tabWf_tmap _ _ _)

/-! ### The commit order -/

theorem Keeps.enterOrder (h : Keeps s t) {c} : Keeps s (enterOrder t c) :=
  .updAll h (by trivial)

theorem Keeps.submit (h : Keeps s t) {area origin body opId} : Keeps s (submit t area origin body opId) :=
  .ite (.elim h fun _ => .post h) (.ite (.enterOrder h) (.when (.updAll h (by trivial)) fun hk => .countF hk))

theorem Keeps.journal (h : Keeps s t) {code arg more} : Keeps s (journal t code arg more) :=
  .submit h

theorem Keeps.addCounter (h : Keeps s t) {i v} : Keeps s (addCounter t i v) :=
  .submit h

theorem Keeps.takeDumpNum (h : Keeps s t) : Keeps s (takeDumpNum t).2 := by
  unfold Machine.takeDumpNum
  dsimp only
  split
  · exact .addCounter (.updAll h (by trivial))
  · exact .updAll h (by trivial)

theorem KeepsO.execCommitAdmit (h : Keeps s t) : KeepsO s (execCommitAdmit t) := by
  unfold Machine.execCommitAdmit
  split
  · exact .ok h
  · exact .ite (.ok (.enterOrder (.updAll h (by trivial)))) (.ok h)

theorem Keeps.makeDurable (h : Keeps s t) : Keeps s (makeDurable t) := by
  unfold Machine.makeDurable
  split
  · exact h
  · exact .elimStep (.updAll (.writeCommit (.updAll h (by trivial))) (by trivial)) fun hk _ => .post hk

theorem KeepsO.execPoweredTick (h : Keeps s t) : KeepsO s (execPoweredTick t) :=
  .ite (.ok (.addCounter (.updAll h (by trivial)))) (.ok h)

/-! ### Power-fail warning -/

theorem Keeps.flush {n : Nat} (h : Keeps s t) : Keeps s (flush n t) := by
  induction n generalizing t with
  | zero => exact h
  | succ n ih =>
    unfold Machine.flush
    split
    · exact h
    · exact .ite h (ih (.makeDurable h))

theorem Keeps.tearL0 (h : Keeps s t) {c} : Keeps s (tearL0 t c) :=
  h.withHank fun hu => tabWf_tput _ _ _ _ (tabWf_tput _ _ _ _ (tabWf_tput _ _ _ _ hu))

theorem KeepsO.execPfwAssert (h : Keeps s t) : KeepsO s (execPfwAssert t) :=
  .ite (.ok (.updAll h (by trivial))) (.ite (.ok (.hevt (.raiseLine (.updAll h (by trivial)))))
      (.ok (.updAll (.forAll (.elimStep (.flush (.hevt (.raiseLine (.updAll h (by trivial))))) fun hk _ => .tearL0 hk) fun _ _ hu =>
          .hankPut hu) (by trivial))))

theorem KeepsO.execPfwGlitch (h : Keeps s t) : KeepsO s (execPfwGlitch t) :=
  .ok (.countF h)

theorem KeepsO.execPfwClear (h : Keeps s t) : KeepsO s (execPfwClear t) :=
  .ite (.ok h) (.ok (.journal (.updAll h (by trivial))))

/-! ### Mount -/

theorem Keeps.markTorn (h : Keeps s t) {e} : Keeps s (markTorn t e) :=
  .hevt (.journal (.addCounter (.submit h)))

theorem Keeps.hankMount (h : Keeps s t) : Keeps s (hankMount t) := by
  unfold Machine.hankMount
  refine .ite h ?_
  extract_lets top pfr dumps pon first torn log newPf sync k s0 s1 s2 s3 s4
  have hsync : Keeps s sync := .ite h (.forAll h fun _ _ hu => .syncSlots hu)
  have h0 : Keeps s s0 := ⟨h.1, fun hs => by
    obtain ⟨hc, hl⟩ := h.2 hs
    obtain ⟨-, -, -, -, -, -, -, -, -, -, -, -, -, -, -, -, -, hunits, -⟩ := (canonical_iff sync).1 (hsync.2 hs).1
    refine ⟨?_, hl⟩
    rw [canonical_iff] at hc ⊢
    tauto⟩
  clear_value s0
  have h1 : Keeps s s1 := .elim h0 fun _ => .applyLog h0
  have h3 : Keeps s s3 := .forAll (.ite (.addCounter h1) h1) fun _ _ hu => .markTorn hu
  exact .addCounter (.journal (.elim h3 fun _ => .addCounter (.journal h3)))

end

end Sys2Proof.Machine
end


section
/-! SUPPORT. What a step keeps (R280): watchdog reports and hangs. -/

namespace Sys2Proof.Machine

section
variable {s t : State}

theorem Keeps.hangDeclare (h : Keeps s t) {p cause reports} : Keeps s (hangDeclare t p cause reports) := by
  have hset : Keeps s (Machine.setReg t rHngHung (reg t rHngHung ||| word (2 ^ p))) := .setReg h
  unfold Machine.hangDeclare
  refine .ite (.countF h) ?_
  cases hangFull t
  · exact .upd (.submit (.upd (.addCounter (.journal (.raiseLine (.hevt (.takeDumpNum hset)))))))
  · exact .upd (.addCounter (.journal (.raiseLine (.hevt (.countF hset)))))

theorem KeepsO.execDmpReq (h : Keeps s t) {who p} : KeepsO s (execDmpReq who p t) :=
  .ite (.ok (.hangDeclare h)) (.ok h)

theorem Keeps.wdgPend (h : Keeps s t) {i} : Keeps s (wdgPend t i) := by
  unfold Machine.wdgPend
  split
  · exact h
  · exact .setF h

theorem KeepsO.execWdgReport (h : Keeps s t) {site} : KeepsO s (execWdgReport site t) :=
  .ite (.ok (.wdgPend h)) (.ok h)

theorem Keeps.wdgJudge (h : Keeps s t) {i} : Keeps s (wdgJudge t i) := by
  unfold Machine.wdgJudge
  split
  · exact .countF h
  · exact .ite (.setP h) (.ite (.countF h) (.ite (.hangDeclare (.setP (.raiseLine (.countF h)))) (.setP (.raiseLine (.countF h)))))

theorem KeepsO.execWdgFetch (h : Keeps s t) {cluster} : KeepsO s (execWdgFetch cluster t) := by
  unfold Machine.execWdgFetch
  split
  · exact .ok h
  · exact .ok (.forAll (.setF h) fun _ _ hu => .wdgJudge hu)

end

end Sys2Proof.Machine
end


section
/-! SUPPORT. What a step keeps (R280): routes over the mill. -/

namespace Sys2Proof.Machine

section
variable {s t : State}

theorem Keeps.setLink (h : Keeps s t) {l x} : Keeps s (setLink t l x) :=
  .upd h

theorem Keeps.publishMap (h : Keeps s t) : Keeps s (publishMap t) :=
  .ite h (.withHubMem (.setRegF (.setRegF h)) (memWf_writeUnits _ _ _))

theorem Keeps.healthChange (h : Keeps s t) {kind unit left} : Keeps s (healthChange t kind unit left) :=
  .publishMap (.journal (.hevt (.raiseLine (.setRegF h))))

end

end Sys2Proof.Machine
end


section
/-! SUPPORT. What a step keeps (R280): links of the control plane. -/

namespace Sys2Proof.Machine

section
variable {s t : State}

/-! ### Channels, retry buffer and credits (R39, R42, R47) -/

theorem Keeps.linkGo (h : Keeps s t) {l x} : Keeps s (linkGo t l x) :=
  .setLink h

theorem Keeps.linkSend (h : Keeps s t) {l p} : Keeps s (linkSend t l p) :=
  .ite h (.linkGo h)

theorem Keeps.linksSend (h : Keeps s t) {ls ps} : Keeps s (linksSend t ls ps) :=
  .forAll h fun _ _ hu => .forAll hu fun _ _ hu1 => .linkSend hu1

/-! ### Ways over a tree (R41) -/

theorem Keeps.sendInward (h : Keeps s t) {op n ps} : Keeps s (sendInward t op n ps) :=
  .linksSend h

theorem Keeps.sendUp (h : Keeps s t) {op n ps} : Keeps s (sendUp t op n ps) :=
  .linksSend h

theorem Keeps.sendData (h : Keeps s t) {n pays} : Keeps s (sendData t n pays) :=
  .linksSend h

theorem Keeps.advanceEpoch (h : Keeps s t) {links i} : Keeps s (advanceEpoch t links i) :=
  .linksSend (.upd h)

/-! ### Detours (Table 2.6, step 2) -/

theorem Keeps.detourAll (h : Keeps s t) {l old} : Keeps s (detourAll t l old) := by
  unfold Machine.detourAll
  split
  · exact h
  · exact .forAll h fun _ _ hu => .linksSend hu

/-! ### Credits (R47) -/

theorem Keeps.withhold (h : Keeps s t) {l issuer} : Keeps s (withhold t l issuer) :=
  .ite h (.setLink h)

theorem Keeps.giveCredit (h : Keeps s t) {n issuer} : Keeps s (giveCredit t n issuer) :=
  .forAll h fun _ _ hu => .ite (.linkGo hu) hu

end

end Sys2Proof.Machine
end


section
/-! SUPPORT. What a step keeps (R280): counters, samples and sums. -/

namespace Sys2Proof.Machine

section
variable {s t : State}

/-! ### Counters of a Bobbin -/

theorem Keeps.aocAdd (h : Keeps s t) {i k n} : Keeps s (aocAdd t i k n) := by
  unfold Machine.aocAdd
  split
  · exact h
  split
  · exact .setAg h
  · exact .unless (.setAg h) fun hk => .setF hk

theorem Keeps.aocEdge (h : Keeps s t) {i} : Keeps s (aocEdge t i) :=
  .forAll (.aocAdd (.aocAdd (.aocAdd h))) fun _ _ hu => .aocAdd hu

theorem Keeps.perfEdge (h : Keeps s t) {i v} : Keeps s (perfEdge t i v) :=
  .forAll (.setS h) fun _ _ hu => .ite (.setAgNext hu) hu

theorem KeepsO.execPerfStrobe (h : Keeps s t) {site strobes} : KeepsO s (execPerfStrobe site strobes t) :=
  .ite (.ok (.perfEdge h)) (.ok h)

/-! ### Command events (R132) and power states (R137) -/

theorem Keeps.pcBegin (h : Keeps s t) {i n} : Keeps s (pcBegin t i n) := by
  unfold Machine.pcBegin
  dsimp only
  split
  · exact .when (.setS (.forAll h fun _ _ hu => .setAgNext hu)) fun hk => .setS hk
  · exact .setS (.forAll h fun _ _ hu => .setAgNext hu)

theorem Keeps.tapWant (h : Keeps s t) {i n ids} : Keeps s (tapWant t i n ids) :=
  .forAll h fun _ _ hu => .ite (.setAg hu) hu

theorem KeepsO.execCmdEvent (h : Keeps s t) {site slot bgn fin ids} : KeepsO s (execCmdEvent site slot bgn fin ids t) :=
  .ite (.ok h) (.ok (.when (.when (.when (.setS (.ite (.emitSrc h) h)) fun hk => .tapWant (.pcBegin hk)) fun hk1 => .aocAdd hk1) fun hk2 =>
      .aocAdd hk2))

theorem KeepsO.execCorePowerChange (h : Keeps s t) {site lp gated} : KeepsO s (execCorePowerChange site lp gated t) :=
  .ite (.ok h) (.ok (.setS (.ite h (.lpwr (.setS h)))))

theorem Keeps.gatedEdge (h : Keeps s t) {i} : Keeps s (gatedEdge t i) :=
  .ite h (.unless (.setS h) fun hk => .lpwr hk)

/-! ### The always-on table -/

theorem KeepsO.execAoBoundary (h : Keeps s t) {flyer} : KeepsO s (execAoBoundary flyer t) :=
  .ite (.ok h)
      (.ite (.ok (.setF h)) (.ok (.forAll (.forAll (.setF h) fun _ _ hu => .ite (.countF (.setF hu)) (.setF hu)) fun _ _ hu => .setF hu)))

theorem Keeps.aoSend (h : Keeps s t) {f u0 time sums} : Keeps s (aoSend t f u0 time sums).2 :=
  .sendData h

theorem Keeps.guestSums (h : Keeps s t) {period g} : Keeps s (guestSums period t g).1 := by
  unfold Machine.guestSums
  cases tget none (getF t g.2).snap (256 + g.1) with
  | none => exact h
  | some sn =>
    dsimp only
    split
    · exact .upd (.setF (.aoSend h))
    · exact h

theorem Keeps.noProgress (h : Keeps s t) {k time bad old new} : Keeps s (noProgress t k time bad old new) := by
  unfold Machine.noProgress
  split
  · exact h
  · exact .ite (.ite (.hangDeclare (.setP h)) (.setP h)) (.setP h)

theorem Keeps.aoEnter (h : Keeps s t) {f cluster sn} : Keeps s (aoEnter t f cluster sn) := by
  unfold Machine.aoEnter
  extract_lets x s0 time period at_ old valid step a restart u0 y s1 mem s2 s3 s4
  have h0 : Keeps s s0 := .setF h
  have ha : Keeps s a.1 := List.foldlRecOn (motive := fun b => Keeps s b.1) _ step h0 fun _ hb _ _ => .guestSums hb
  have h1 : Keeps s s1 := .setF ha
  have h2 : Keeps s s2 := h1.withHubMem fun hm => memWf_writeLe _ _ _ _ (memWf_writeUnits _ _ _ hm)
  exact .ite (.countF h0) (.noProgress (.setRegF (.forAll h2 fun _ _ hu => .setReg hu)))

theorem KeepsO.execAoEntryWrite (h : Keeps s t) {cluster} : KeepsO s (execAoEntryWrite cluster t) := by
  unfold Machine.execAoEntryWrite
  cases servedBy t cluster with
  | none => exact .ok h
  | some f =>
    dsimp only
    cases tget none (getF t f).snap cluster with
    | none => exact .ok h
    | some sn =>
      have ha {c : Prop} [Decidable c] {u0 time sums n} : Keeps s (if c then Machine.aoSend t f u0 time sums else (n, t)).2 := .ite_snd
          (.aoSend h) h
      exact .ite (.ok (.aoEnter ha)) (.ok (.setF ha))

/-! ### Sampled profiles -/

theorem Keeps.sampleSite (h : Keeps s t) {i} : Keeps s (sampleSite t i) :=
  .ite h (.forAll (.setS (.setS (.setAg h))) fun _ _ hu => .setAgNext hu)

theorem KeepsO.execSampleEdge (h : Keeps s t) {cluster perf} : KeepsO s (execSampleEdge cluster perf t) := by
  unfold Machine.execSampleEdge
  split
  · exact .ok h
  · exact .ite (.ok h) (.ok (.forAll (.forAll (.setF h) fun _ _ hu => .sampleSite hu) fun _ _ hu => .perfEdge hu))

/-! ### The sample ring -/

theorem Keeps.ringPut (h : Keeps s t) {us} : Keeps s (ringPut t us) :=
  .setRegF (h.withHubMem fun hm => List.foldlRecOn (motive := fun m => memWf m = true) _ _ hm fun _ hm _ _ => memWf_writeLe _ _ _ _ hm)

theorem KeepsO.execRingWrite (h : Keeps s t) : KeepsO s (execRingWrite t) := by
  unfold Machine.execRingWrite
  split
  · exact .ok h
  · exact .ite (.ok (.upd h)) (.ite (.ok (.ringPut (.upd h))) (.ok (.ite (.upd h) (.countF (.upd h)))))

end

end Sys2Proof.Machine
end


section
/-! SUPPORT. What a step keeps (R280): answers of agents. -/

namespace Sys2Proof.Machine

section
variable {s t : State}

/-! ### Nodes (R43) -/

theorem Keeps.setAcc (h : Keeps s t) {a} : Keeps s (setAcc t a) :=
  .upd h

theorem Keeps.dropAccs (h : Keeps s t) {issuer iseq} : Keeps s (dropAccs t issuer iseq) :=
  .upd h

theorem Keeps.countLate (h : Keeps s t) : Keeps s (countLate t) :=
  .countF h

theorem Keeps.contribute (h : Keeps s t) {op n from_ reps} : Keeps s (contribute t op n from_ reps) :=
  .ite (.countLate h) (.ite h (.setAcc h))

theorem Keeps.flyerReply (h : Keeps s t) {op f reps} : Keeps s (flyerReply t op f reps) :=
  .ite (.contribute h) (.ite (.countLate (.sendInward h)) (.postArrival (.sendInward h)))

theorem KeepsO.execReductionSend (h : Keeps s t) {node issuer iseq} : KeepsO s (execReductionSend node issuer iseq t) := by
  unfold Machine.execReductionSend
  dsimp only
  split
  · exact .ok h
  split
  · exact .ok h
  split
  · exact .ok (.postArrival (.sendUp (.setAcc h)))
  · exact .ok (.contribute (.sendUp (.setAcc h)))

theorem Keeps.settlePend (h : Keeps s t) {f opId} : Keeps s (settlePend t f opId) := by
  unfold Machine.settlePend
  dsimp only
  split
  · exact h
  split
  · exact .countLate (.setF h)
  · exact .flyerReply (.setF h)

/-! ### Answers (R72) -/

theorem Keeps.answer (h : Keeps s t) {i opId issuer iseq rep count} : Keeps s (answer t i opId issuer iseq rep count) := by
  unfold Machine.answer
  dsimp only
  split
  · exact .setS (.setAgBank h)
  · exact .settlePend (.setF (.setS (.setAgBank h)))

end

end Sys2Proof.Machine
end


section
/-! SUPPORT. What a step keeps (R280): the Bobbin. -/

namespace Sys2Proof.Machine

section
variable {s t : State}

/-! ### Comparators -/

theorem Keeps.trigEvent (h : Keeps s t) {i ch delay} : Keeps s (trigEvent t i ch delay) := by
  unfold Machine.trigEvent
  split
  · split
    · exact h
    · exact .ite h (.when (.trigPulse h) fun hk => .setF hk)
  · exact .ite (.when (.trigPulse h) fun hk => .xtEvent hk) (.xtEvent h)

theorem Keeps.cmpAct (h : Keeps s t) {i n} : Keeps s (cmpAct i t n) :=
  .when (.when (.when (.ite h (.setAg h)) fun hk => .traceStart hk) fun hk1 => .traceStop hk1) fun hk2 => .trigEvent hk2

theorem KeepsO.execComparatorHit (h : Keeps s t) {site acc addr} : KeepsO s (execComparatorHit site acc addr t) :=
  .ite (.ok h) (.ok (.forAll h fun _ _ hu => .cmpAct hu))

theorem KeepsO.execCoreEvent (h : Keeps s t) {site evt} : KeepsO s (execCoreEvent site evt t) :=
  .ite (.ok h) (.ok (.when (.forAll h fun _ _ hu => .trigEvent hu) fun hk => .wdgPend hk))

theorem KeepsO.execFlyXtFire (h : Keeps s t) {cluster fire} : KeepsO s (execFlyXtFire cluster fire t) :=
  .ok (.forAll h fun _ _ hu => .xtEvent hu)

theorem KeepsO.execGuestTriggerRelay (h : Keeps s t) {site ch} : KeepsO s (execGuestTriggerRelay site ch t) := by
  unfold Machine.execGuestTriggerRelay
  split
  · exact .ok h
  · exact .ite (.ok (.xtEvent (.setF h))) (.ok h)

/-! ### Virtual terminal (R82, R83, R134) -/

theorem KeepsO.execVtTxWrite (h : Keeps s t) {site v} : KeepsO s (execVtTxWrite site v t) :=
  .ite (.ok h) (.ite (.ok (.setAg h)) (.ok (.setS h)))

theorem KeepsO.execVtRxPop (h : Keeps s t) {site} : KeepsO s (execVtRxPop site t) :=
  .ok (.setS h)

theorem KeepsO.execVtDrain (h : Keeps s t) {site} : KeepsO s (execVtDrain site t) := by
  unfold Machine.execVtDrain
  dsimp only
  split
  · exact .ite (.ok h) (.ite (.ok (.setS h)) (.ite (.ok h) (.ok (.setS h))))
  · exact .ok h

/-! ### Agent registers -/

theorem Keeps.setFlyNext (h : Keeps s t) {c idx v} : Keeps s (setFlyNext t c idx v) :=
  .setFlyReg (.ite h (.setF h))

theorem Keeps.agRead (h : Keeps s t) {i issuer idx} : Keeps s (agRead t i issuer idx).2.2 := by
  have hite {c : Prop} [Decidable c] {n : Nat} {v : Word} {q : Nat × Word × State} (hq : Keeps s q.2.2) : Keeps s
      (if c then (n, v, t) else q).2.2 := by
    split
    · exact h
    · exact hq
  exact hite (hite (hite (hite (hite (hite (hite h.setAg))))))

theorem Keeps.agWrite (h : Keeps s t) {i issuer idx v} : Keeps s (agWrite t i issuer idx v).2 := by
  unfold Machine.agWrite
  dsimp only
  cases agLayAt idx with
  | none => exact h
  | some l =>
    refine .ite_snd h (.ite_snd h.setAgBank (.ite_snd (.ite_snd h h.setS) (.ite_snd (.forAll h fun _ _ hu => .xtEvent hu) ?_)))
    refine .ite_snd (.setFlyNext h) (.ite_snd (.setAgNext h) (.ite_snd (.ite_snd h (.setAgNext h)) ?_))
    refine .ite_snd (.elim h.setAg fun _ => .settleCard h.setAg) (.ite_snd (.setS (.setAgNext h)) ?_)
    exact .ite_snd (.setAg (.ite h.setAg h)) (.setAgNext h)

/-! ### Wake (R56, R74) -/

theorem Keeps.wakeWant (h : Keeps s t) {i} : Keeps s (wakeWant t i).2 := by
  unfold Machine.wakeWant
  dsimp only
  split
  · exact .ite h (.setS h)
  · exact h

theorem Keeps.wakeHold (h : Keeps s t) {i} : Keeps s (wakeHold t i) :=
  .ite (.setS h) h

/-! ### Register inspection (R69 to R71) -/

theorem Keeps.riRaise {n i : Nat} (h : Keeps s t) : Keeps s (riRaise n t i) := by
  induction n generalizing t with
  | zero => exact h
  | succ n ih =>
    unfold Machine.riRaise
    dsimp only
    split
    · exact .wakeHold h
    · exact .ite h (.ite (.setS (.wakeWant h)) (.ite (ih (.answer (.setS h))) (.setS h)))

theorem Keeps.riNext (h : Keeps s t) {i edge} : Keeps s (riNext t i edge) := by
  unfold Machine.riNext
  dsimp only
  split
  · exact .wakeHold h
  · exact .riRaise (.setS (.wakeWant h))

/-! ### Local memory (R75 to R79) -/

theorem Keeps.lmDone (h : Keeps s t) {i q reason count} : Keeps s (lmDone t i q reason count) :=
  .answer (.setS h)

theorem Keeps.lmEnd (h : Keeps s t) {i reason count} : Keeps s (lmEnd t i reason count) := by
  unfold Machine.lmEnd
  dsimp only
  split
  · exact h
  · exact .wakeHold (.lmDone (.setS h))

/-! ### Operations at a Bobbin -/

theorem Keeps.doPre {i issuer : Nat} {l : List (Nat × Word)} (h : Keeps s t) : Keeps s (doPre i issuer l t).2 := by
  induction l generalizing t with
  | nil => exact h
  | cons e l ih =>
    unfold Machine.doPre
    dsimp only
    split
    · exact ih (.agWrite h)
    · exact .agWrite h

theorem Keeps.windowAccess (h : Keeps s t) {op i wr} : Keeps s (windowAccess t op i wr) :=
  .ite (.answer h) (.ite (.answer h) (.ite (.riNext (.setS h)) (.setS h)))

theorem Keeps.lmAccess (h : Keeps s t) {op i wr} : Keeps s (lmAccess t op i wr) :=
  .ite (.answer h) (.ite (.answer h) (.ite (.answer h) (.setS (.wakeWant h))))

theorem Keeps.applyNow (h : Keeps s t) {op i} : Keeps s (applyNow op t i) := by
  unfold Machine.applyNow
  refine .ite (.answer (.doPre (.setS h))) ?_
  cases op.type with
  | write => exact .ite (.windowAccess (.doPre (.setS h))) (.answer (.agWrite (.doPre (.setS h))))
  | read => exact .ite (.windowAccess (.doPre (.setS h))) (.answer (.agRead (.doPre (.setS h))))
  | lmWrite => exact .lmAccess (.doPre (.setS h))
  | lmRead => exact .lmAccess (.doPre (.setS h))

theorem Keeps.drainWait {n i : Nat} (h : Keeps s t) : Keeps s (drainWait n t i) := by
  induction n generalizing t with
  | zero => exact h
  | succ n ih =>
    unfold Machine.drainWait
    dsimp only
    split
    · exact h
    · exact ih (.applyNow (.setS h))

theorem Keeps.siteGo (h : Keeps s t) {i} : Keeps s (siteGo t i) :=
  .drainWait (.riRaise h)

theorem Keeps.applyAt (h : Keeps s t) {op i} : Keeps s (applyAt op t i) := by
  unfold Machine.applyAt
  dsimp only
  split
  · exact .ite (.answer h) (.answer h)
  · exact .ite (.setS h) (.applyNow h)

theorem Keeps.wakeNeed (h : Keeps s t) {i} : Keeps s (wakeNeed t i) :=
  .ite (.setS (.wakeWant h)) h

/-! ### The commands of wake, inspection and local memory -/

theorem KeepsO.execWakeAck (h : Keeps s t) {site} : KeepsO s (execWakeAck site t) :=
  .ite (.ok (.siteGo (.setS h))) (.ok h)

theorem KeepsO.execWakeRelease (h : Keeps s t) {site} : KeepsO s (execWakeRelease site t) :=
  .ite (.ok (.setS h)) (.ok h)

theorem Keeps.riEnd (h : Keeps s t) {i rep} : Keeps s (riEnd t i rep) := by
  unfold Machine.riEnd
  dsimp only
  split
  · exact h
  · exact .siteGo (.riNext (.answer (.setS h)))

theorem KeepsO.execInspectionAck (h : Keeps s t) {site stat data} : KeepsO s (execInspectionAck site stat data t) := by
  unfold Machine.execInspectionAck
  split
  · exact .ok h
  · exact .ite (.ok (.riEnd h)) (.ok h)

theorem KeepsO.execInspectionTimeout (h : Keeps s t) {site} : KeepsO s (execInspectionTimeout site t) := by
  unfold Machine.execInspectionTimeout
  split
  · exact .ok h
  · exact .ite (.ok (.riEnd h)) (.ok h)

theorem KeepsO.execLmSteal (h : Keeps s t) {site} : KeepsO s (execLmSteal site t) := by
  unfold Machine.execLmSteal
  dsimp only
  split
  · exact .ok h
  · exact .ite (.ok h) (.ite (.ok (.siteGo (.lmEnd h))) (.ok (.when (.setS h) fun hk => .siteGo (.lmEnd hk))))

theorem KeepsO.execLmReadReturn (h : Keeps s t) {site err data} : KeepsO s (execLmReadReturn site err data t) := by
  unfold Machine.execLmReadReturn
  dsimp only
  split
  · exact .ok h
  split
  · exact .ok h
  refine .ok ?_
  split
  · refine .siteGo ?_
    split
    · exact .lmEnd (.setS h)
    · exact .lmEnd (.setS h)
  · exact .setS h

theorem KeepsO.execLmDeadline (h : Keeps s t) {site} : KeepsO s (execLmDeadline site t) := by
  unfold Machine.execLmDeadline
  dsimp only
  split
  · exact .ok h
  · exact .ok (.siteGo (.wakeHold (.lmDone (.setS h))))

theorem KeepsO.execWakeTimeout (h : Keeps s t) {site} : KeepsO s (execWakeTimeout site t) :=
  .ite (.ok (.siteGo (.forAll (.forAll (.setS h) fun _ _ hu => .answer hu) fun _ _ hu => .answer hu))) (.ok h)

/-! ### Core reset (R71, R137) -/

theorem KeepsO.execCoreResetAssert (h : Keeps s t) {site} : KeepsO s (execCoreResetAssert site t) := by
  unfold Machine.execCoreResetAssert
  extract_lets x s1 y s2 s3 s4' s4
  have h2 : Keeps s s2 := .setS (.lpwr (.setS h))
  have h4' : Keeps s s4' := .forAll (.forAll h2 fun _ _ hu => .answer hu) fun _ _ hu => .answer hu
  have h4 : Keeps s s4 := .siteGo (.ite h4' (.wakeHold h4'))
  clear_value s4
  refine .ite (.ok h) ?_
  cases flyerOf s4 site with
  | none => exact .ok h4
  | some f => exact .ite (.ok (.setCard (.ite (.closeWindow h4) h4))) (.ok h4)

theorem KeepsO.execCoreResetRelease (h : Keeps s t) {site} : KeepsO s (execCoreResetRelease site t) :=
  .ite (.ok (.lpwr (.setS h))) (.ok h)

theorem KeepsO.execFreezeLate (h : Keeps s t) {site} : KeepsO s (execFreezeLate site t) := by
  unfold Machine.execFreezeLate
  split
  · exact .ok h
  · exact .ite (.ok (.setS h)) (.ok h)

end

end Sys2Proof.Machine
end


section
/-! SUPPORT. What a step keeps (R280): agent operations. -/

namespace Sys2Proof.Machine

section
variable {s t : State}

/-! ### Flyers (R46, R47, R87) -/

theorem Keeps.receiveAt (h : Keeps s t) {f op} : Keeps s (receiveAt f t op) :=
  .ite (.flyerReply (.setF (.upd h))) (.forAll (.setF (.upd h)) fun _ _ hu => .applyAt hu)

theorem Keeps.duplicate (h : Keeps s t) {f issuer iseq} : Keeps s (duplicate t f issuer iseq) := by
  unfold Machine.duplicate
  split
  · exact .ite (.countF h) h
  split
  · exact .countLate h
  · exact .flyerReply h

theorem KeepsO.execAgentOpReceive (h : Keeps s t) {flyer issuer iseq} : KeepsO s (execAgentOpReceive flyer issuer iseq t) := by
  refine .ite (.ok h) ?_
  cases opOf t issuer iseq with
  | none => exact .ok (.duplicate h)
  | some op =>
    exact .ite (.ite (.ok h) (.ite (.ite (.ok h) (.ite (.ok (.withhold h)) (.ok (.setF h)))) (.ok (.receiveAt h))))
        (.ite (.ok h) (.ok (.duplicate h)))

theorem KeepsO.execEpochClose (h : Keeps s t) {flyer issuer epoch} : KeepsO s (execEpochClose flyer issuer epoch t) :=
  .ite (.ok h) (.ok (.giveCredit (.forAll (.setF h) fun _ _ hu => .receiveAt hu)))

/-! ### Issue (R24, R38, R41, R112, R241) -/

theorem Keeps.armDeadline (h : Keeps s t) {op dl} : Keeps s (armDeadline t op dl) := by
  unfold Machine.armDeadline
  split
  · exact .ite (.setW h (.setTk (.getW h))) h
  · exact .ite (.upd h) h
  · exact h

theorem Keeps.sendOp (h : Keeps s t) {op} : Keeps s (sendOp t op) :=
  .ite (.postArrival (.armDeadline (.upd (.dropAccs h))))
      (.forAll (.armDeadline (.upd (.dropAccs h))) fun _ _ hu => .ite hu (.linksSend hu))

theorem Keeps.issueNow (h : Keeps s t) {op} : Keeps s (issueNow t op) :=
  .ite (.sendOp h) (.upd h)

theorem Keeps.issueOp (h : Keeps s t) {op} : Keeps s (issueOp t op) := by
  unfold Machine.issueOp
  split
  · exact .upd h
  · exact .issueNow h

theorem Keeps.releaseHeld (h : Keeps s t) {p} : Keeps s (releaseHeld t p) :=
  .forAll h fun _ _ hu => .issueNow hu

theorem Keeps.releaseIssue (h : Keeps s t) : Keeps s (releaseIssue t) :=
  .ite (.releaseHeld h) h

/-! ### Tickets (R58, R240) -/

theorem Keeps.putMem (h : Keeps s t) {l} : Keeps s (putMem t l) :=
  h.withHubMem fun hm => List.foldlRecOn (motive := fun m => memWf m = true) _ _ hm fun _ hm _ _ => memWf_writeLe _ _ _ _ hm

theorem Keeps.forget (h : Keeps s t) {opId} : Keeps s (forget t opId) := by
  unfold Machine.forget
  split
  · exact .releaseIssue (.upd (.dropAccs h))
  · exact .releaseIssue (.upd h)

theorem Keeps.putBuf (h : Keeps s t) {w a l} : Keeps s (putBuf t w a l) :=
  .ite (.setW h ((KeepsW.getW h).withLs (memWf_writeUnits _ _ _))) (h.withHubMem (memWf_writeUnits _ _ _))

theorem Keeps.recvTake (h : Keeps s t) {w t'} : Keeps s (recvTake t w t') := by
  unfold Machine.recvTake
  dsimp only
  split
  · exact .ite h (.setW (.putBuf (.setC h)) (.finishTk (.getW (.putBuf (.setC h)))))
  · exact h

theorem KeepsO.execTicketComplete (h : Keeps s t) {w t'} : KeepsO s (execTicketComplete w t' t) := by
  unfold Machine.execTicketComplete
  dsimp only
  split
  · exact .ok h
  split
  · exact .ok (.recvTake h)
  split
  · exact .ok h
  · exact .ok (.forget (.setW (.putMem h) (.finishTk (.getW (.putMem h)))))

theorem Keeps.dropRecv (h : Keeps s t) {opId} : Keeps s (dropRecv t opId) :=
  .withChans h (tabWf_tmap _ _ _)

theorem Keeps.giveUp (h : Keeps s t) {opId} : Keeps s (giveUp t opId) :=
  .ite (.countLate (.forget h)) (.upd h)

theorem KeepsO.execTicketTimeout (h : Keeps s t) {w t'} : KeepsO s (execTicketTimeout w t' t) :=
  .ite (.ok (.setW (.ite (.dropRecv h) (.giveUp h)) (.finishTk (.getW (.ite (.dropRecv h) (.giveUp h)))))) (.ok h)

/-! ### Failures of links and nodes (R39, R88, R423, R426, Table 2.6) -/

theorem Keeps.checkNode (h : Keeps s t) {n} : Keeps s (checkNode t n) :=
  .ite (.healthChange (.setF h)) h

theorem Keeps.carefulSwitch (h : Keeps s t) : Keeps s (carefulSwitch t) :=
  .ite h (.releaseIssue (.publishMap (.when (.upd (.setReg h)) fun hk => .forAll hk fun _ _ hu => .advanceEpoch hu)))

theorem Keeps.meshFail (h : Keeps s t) {l} : Keeps s (meshFail t l) :=
  .ite h (.ite (.carefulSwitch (.elimStep (.checkNode (.healthChange (.setLink h))) fun hk _ => .checkNode hk))
      (.upd (.carefulSwitch (.detourAll (.elimStep (.checkNode (.healthChange (.setLink h))) fun hk _ => .checkNode hk)))))

theorem Keeps.entryFail (h : Keeps s t) {e d} : Keeps s (entryFail t e d) := by
  unfold Machine.entryFail
  dsimp only
  split
  · exact h
  split
  · exact .carefulSwitch (.healthChange (.setLink h))
  · exact .forAll (.carefulSwitch (.healthChange (.setLink h))) fun _ _ hu => .advanceEpoch (.upd hu)

theorem KeepsO.execEntryLinkFail (h : Keeps s t) {e out} : KeepsO s (execEntryLinkFail e out t) :=
  .ok (.entryFail h)

theorem Keeps.linkResend (h : Keeps s t) {l} : Keeps s (linkResend t l) := by
  unfold Machine.linkResend
  dsimp only
  cases (getLink t l).retry with
  | nil => exact h
  | cons p q => exact .ite (.ite (.entryFail h) (.meshFail h)) (.setLink h)

theorem KeepsO.execLinkAck (h : Keeps s t) {link flit} : KeepsO s (execLinkAck link flit t) := by
  unfold Machine.execLinkAck
  split
  · exact .ok h
  · exact .ite (.ok (.carefulSwitch (.linkGo h))) (.ok h)

theorem KeepsO.execLinkNak (h : Keeps s t) {link flit} : KeepsO s (execLinkNak link flit t) := by
  unfold Machine.execLinkNak
  split
  · exact .ok h
  · exact .ite (.ok (.linkResend (.setLink h))) (.ok h)

theorem KeepsO.execLinkRetryTimeout (h : Keeps s t) {link} : KeepsO s (execLinkRetryTimeout link t) := by
  unfold Machine.execLinkRetryTimeout
  split
  · exact .ok h
  · exact .ite (.ok (.linkResend h)) (.ok h)

theorem Keeps.packetIn (h : Keeps s t) {link flits} : Keeps s (packetIn t link flits) := by
  unfold Machine.packetIn
  split
  · exact h
  · exact .ite (.countF (.setLink h)) (.unless (.setLink h) fun hk => .ite hk hk)

theorem KeepsO.execPacketReceive (h : Keeps s t) {link hdr hdrSide pay paySide} : KeepsO s
    (execPacketReceive link hdr hdrSide pay paySide t) :=
  .ite (.ok h) (.ite (.ok (.setLink h)) (.ok (.packetIn (.setLink h))))

theorem Keeps.flyerGone (h : Keeps s t) {f} : Keeps s (flyerGone t f) :=
  .forAll (.setF h) fun _ _ hu => .flyerReply (.upd hu)

theorem Keeps.rebuildWindow (h : Keeps s t) {f c} : Keeps s (rebuildWindow t f c) :=
  .setF h

theorem Keeps.resyncQueue (h : Keeps s t) {index items} : Keeps s (resyncQueue index items t) :=
  .ite h (.when (.unless (.setXq h) fun hk => .regPut (.countObj hk)) fun hk1 => .forAll hk1 fun _ _ hu => .noteAll hu)

theorem KeepsO.execFlyerTakeover (h : Keeps s t) {flyer} : KeepsO s (execFlyerTakeover flyer t) := by
  unfold Machine.execFlyerTakeover
  extract_lets x clusters s1 s2 s3 y s4 s5 lost s6 s7 s8
  have h4 : Keeps s s4 := .setF (.flyerGone (.selectTap (.ite (.closeWindow h) h)))
  clear_value s4
  have h5 : Keeps s s5 := .forAll h4 fun _ _ hu => .forAll hu fun _ _ hv => .setFlyReg hv
  have h6 : Keeps s s6 := .forAll h5 fun _ _ hu => .elimStep (.forAll hu fun _ _ hv => .resyncQueue hv) fun hk _ => .rebuildWindow hk
  have h8 : Keeps s s8 := .healthChange (.elimStep h6 fun hk _ => .settleCard hk)
  exact .ite (.ok h) (.ok (.forAll h8 fun _ _ hu => .journal hu))

theorem KeepsO.execFlyerProbe (h : Keeps s t) {flyer answered} : KeepsO s (execFlyerProbe flyer answered t) :=
  .ite (.ok h) (.ite (.ok (.setF h)) (.ite (.execFlyerTakeover (.setF h)) (.ok (.setF h))))

theorem KeepsO.execBobbinFail (h : Keeps s t) {site} : KeepsO s (execBobbinFail site t) := by
  unfold Machine.execBobbinFail
  extract_lets x s1 s2 s3 s4
  have h2 : Keeps s s2 := Keeps.withFlyers (t := s1) (.setS h) (tabWf_tmap _ _ _)
  clear_value s2
  have h3 : Keeps s s3 := .elim h2 fun _ => .forAll h2 fun _ _ hu => .settlePend hu
  exact .ite (.ok h) (.ok (.healthChange (.elimStep h3 fun hk _ => .settleCard hk)))

theorem KeepsO.execCardEngineFail (h : Keeps s t) {flyer} : KeepsO s (execCardEngineFail flyer t) :=
  .ite (.ok h) (.ok (.healthChange (.setCard (.selectTap (.setCard h)))))

theorem KeepsO.execRecoveryEngineFail (h : Keeps s t) : KeepsO s (execRecoveryEngineFail t) :=
  .ite (.ok h) (.ok (.healthChange (.upd h)))

theorem KeepsO.execRouteRebuild (h : Keeps s t) : KeepsO s (execRouteRebuild t) :=
  .ite (.ok h) (.ok (.publishMap (.forAll (.forAll (.upd h) fun _ _ hu => .advanceEpoch hu) fun _ _ hu => .setF hu)))

theorem Keeps.setCareful (h : Keeps s t) {want} : Keeps s (setCareful t want) :=
  .carefulSwitch (.setReg h)

theorem KeepsO.execSpnModeWrite (h : Keeps s t) {who v} : KeepsO s (execSpnModeWrite who v t) :=
  .ite (.ok (.setCareful h)) (.ok h)

/-! ### Crossings (R54, R57) -/

theorem KeepsO.execQueueResync (h : Keeps s t) {index items} : KeepsO s (execQueueResync index items t) :=
  .ok (.resyncQueue h)

theorem KeepsO.execCrossingOverrun (h : Keeps s t) {index} : KeepsO s (execCrossingOverrun index t) :=
  .ite (.ok h) (.ok (.pulseEvent h))

theorem KeepsO.execTraceLinkFail (h : Keeps s t) {node} : KeepsO s (execTraceLinkFail node t) :=
  .ite (.ok h) (.ok (.healthChange (.setF h)))

end

end Sys2Proof.Machine
end


section
/-! SUPPORT. What a step keeps (R280): run control. -/

namespace Sys2Proof.Machine

section
variable {s t : State}

/-! ### Messages between hubs (R322) -/

theorem Keeps.chSend (h : Keeps s t) {ch kind dst pay src} : Keeps s (chSend t ch kind dst pay src) :=
  .ite h (.setC h)

theorem Keeps.seqIn (h : Keeps s t) {ch lseq} : Keeps s (seqIn t ch lseq) :=
  .ite h (.countF (.setC h))

theorem Keeps.chSendAll (h : Keeps s t) {chs kind pay} : Keeps s (chSendAll t chs kind pay) :=
  .forAll h fun _ _ hu => .chSend hu

/-! ### Roots (R96, R99) -/

theorem Keeps.rootPush (h : Keeps s t) {r kind p opc arg cause} : Keeps s (rootPush t r kind p opc arg cause) :=
  .setR h

theorem Keeps.ctlPush (h : Keeps s t) {rs p opc arg cause} : Keeps s (ctlPush t rs p opc arg cause) :=
  .forAll h fun _ _ hu => .setR hu

theorem KeepsO.execStopTreeRootSend (h : Keeps s t) {r} : KeepsO s (execStopTreeRootSend r t) := by
  unfold Machine.execStopTreeRootSend
  dsimp only
  split
  · exact .ok h
  split
  · exact .ok h
  · exact .ok (.setR h)

/-! ### The cut controller: starting a cut (R107 step 1 and 2, R110, R120, R333) -/

theorem Keeps.postWaiter (h : Keeps s t) {st count w} : Keeps s (postWaiter st count t w) :=
  .ite (.post h) (.post h)

theorem Keeps.silentWaiter (h : Keeps s t) : Keeps s (silentWaiter t).2 :=
  .upd h

theorem Keeps.holdEnded (h : Keeps s t) {p arg} : Keeps s (holdEnded t p arg) :=
  .hevt (.setP h)

theorem Keeps.newCutId (h : Keeps s t) : Keeps s (newCutId t).2 :=
  .upd h

theorem Keeps.askHubs (h : Keeps s t) {p cutId deadline parent} : Keeps s (askHubs t p cutId deadline parent).2 :=
  .chSendAll h

theorem Keeps.cutNone (h : Keeps s t) {p ws n owed} : Keeps s (cutNone t p ws n owed) :=
  .releaseHeld (.forAll (.setP h) fun _ _ hu => .postWaiter hu)

theorem Keeps.cutStart (h : Keeps s t) {p at_ ws remote} : Keeps s (cutStart t p at_ ws remote) := by
  have h0 : Keeps s (Machine.forAll (liveRegions t p) (fun s r => Machine.setRP s p r { getRP s p r with away := false }) t) :=
    .forAll h fun _ _ hu => .setRP hu
  unfold Machine.cutStart
  generalize Machine.forAll (liveRegions t p) _ t = u at h0 ⊢
  refine .ite (.cutNone (.elim h0 fun _ => .upd h0)) ?_
  have h1 : Keeps s (if (getP t p).hold.isSome then Machine.holdEnded u p 2 else u) := .ite (.holdEnded h0) h0
  generalize (if (getP t p).hold.isSome then Machine.holdEnded u p 2 else u) = v at h1 ⊢
  cases remote with
  | none => exact .forAll (.setP (.askHubs (.newCutId h1))) fun _ _ hu => .ite (.setRP hu) (.ctlPush (.setRP hu))
  | some q => exact .forAll (.setP (.askHubs (.upd h1))) fun _ _ hu => .ite (.setRP hu) (.ctlPush (.setRP hu))

theorem Keeps.setCause (h : Keeps s t) {p cause} : Keeps s (setCause t p cause) :=
  .forAll (.ite (.setP h) h) fun _ _ hu => .setR hu

theorem Keeps.haltReq (h : Keeps s t) {p cause w} : Keeps s (haltReq t p cause w) := by
  unfold Machine.haltReq
  dsimp only
  split
  · exact .postWaiter h
  · split
    · exact .setP h
    · exact .postWaiter h
  · exact .ite (.postWaiter h) (.setCause (.cutStart h))
  · exact .setCause (.cutStart h)

theorem Keeps.triggerHalt (h : Keeps s t) {r p} : Keeps s (triggerHalt t r p) :=
  .ite h (.setCause (.cutStart (.rootPush h)))

/-! ### Runs and steps (R113, R115, R336) -/

theorem Keeps.sendRun (h : Keeps s t) {p} : Keeps s (sendRun t p) :=
  .ctlPush (.forAll h fun _ _ hu => .setRP hu)

theorem Keeps.sendStep (h : Keeps s t) {p n w} : Keeps s (sendStep t p n w) :=
  .ctlPush (.forAll (.setP h) fun _ _ hu => .setRP hu)

theorem Keeps.sendClr (h : Keeps s t) {p} : Keeps s (sendClr t p) :=
  .ctlPush h

theorem Keeps.putRdv (h : Keeps s t) {p v} : Keeps s (putRdv t p v) :=
  .setP h

theorem Keeps.rdvAct (h : Keeps s t) {v p} : Keeps s (rdvAct v t p) := by
  unfold Machine.rdvAct
  split
  · exact .sendRun (.setP h)
  · exact .setP (.sendStep (.silentWaiter h))

theorem Keeps.rdvGo (h : Keeps s t) {p v missing} : Keeps s (rdvGo t p v missing) :=
  .forAll (.chSendAll (.putRdv h)) fun _ _ hu => .rdvAct hu

theorem Keeps.rdvStep (h : Keeps s t) {p e} : Keeps s (rdvStep t p e) := by
  unfold Machine.rdvStep
  dsimp only
  split
  · exact h
  split
  split
  · exact h
  split
  · exact .rdvGo h
  · exact .ite (.chSend (.putRdv h)) h
  split
  · split
    · exact .chSend (.setP h)
    split
    · exact h
    split
    · exact .forAll (.setP h) fun _ _ hu => .postWaiter hu
    split
    · exact .setP (.setP h)
    · exact .forAll (.setP h) fun _ _ hu => .postWaiter hu
  · exact h

theorem Keeps.rdvWake (h : Keeps s t) {p} : Keeps s (rdvWake t p) :=
  .forAll h fun _ _ hu => .forAll hu fun _ _ hu1 => .rdvStep hu1

theorem Keeps.leaveTree (h : Keeps s t) {p} : Keeps s (leaveTree t p) := by
  unfold Machine.leaveTree
  split
  · exact .ite h (.forAll h fun _ _ hu => .setP hu)
  · exact h

theorem Keeps.rdvOpenHere (h : Keeps s t) {p t' op w} : Keeps s (rdvOpenHere t p t' op w) :=
  .sendClr (.chSendAll (.setP h))

theorem Keeps.runStart (h : Keeps s t) {p ws} : Keeps s (runStart t p ws) := by
  unfold Machine.runStart
  dsimp only
  split
  · exact .rdvOpenHere (.setP h)
  · exact .sendRun (.sendClr (.leaveTree (.setP h)))

theorem Keeps.stepStart (h : Keeps s t) {p n w} : Keeps s (stepStart t p n w) := by
  unfold Machine.stepStart
  dsimp only
  split
  · exact .cutNone h
  split
  · exact .rdvOpenHere h
  · exact .sendStep (.sendClr (.leaveTree h))
  · exact .sendStep (.ite (.holdEnded h) h)

theorem Keeps.actAfter {k p : Nat} (h : Keeps s t) : Keeps s (actAfter k t p) := by
  induction k generalizing t with
  | zero => exact h
  | succ k ih =>
    unfold Machine.actAfter
    refine .ite h ?_
    split
    · exact h
    · exact ih (.ite (.postWaiter (.setP h)) (.runStart (.setP h)))
    · exact ih (.stepStart (.setP h))

theorem Keeps.runReq (h : Keeps s t) {p w} : Keeps s (runReq t p w) := by
  unfold Machine.runReq
  dsimp only
  split
  · exact .postWaiter h
  · exact .postWaiter h
  · exact .ite (.setP h) (.ite (.setP h) (.runStart h))
  · exact .setP h

theorem Keeps.stepReq (h : Keeps s t) {p n w} : Keeps s (stepReq t p n w) :=
  .ite (.postWaiter h) (.ite (.setP h) (.stepStart h))

/-! ### Cross-hub confirmation (R334) -/

theorem Keeps.tryConfirm (h : Keeps s t) {cutId} : Keeps s (tryConfirm t cutId) :=
  .ite h (.chSend (.forAll h fun _ _ hu => .setP hu))

theorem Keeps.cutEnd (h : Keeps s t) {p c n tmo} : Keeps s (cutEnd t p c n tmo) :=
  .actAfter (.tryConfirm (.releaseHeld (.raiseCut (.forAll (.forAll (.setP h) fun _ _ hu => .postWaiter hu) fun _ _ hu => .setRP hu))))

theorem Keeps.cutOff (h : Keeps s t) {p c n} : Keeps s (cutOff t p c n) :=
  .actAfter (.tryConfirm (.forAll (.cutNone h) fun _ _ hu => .setRP hu))

theorem KeepsO.execCutComplete (h : Keeps s t) {p} : KeepsO s (execCutComplete p t) := by
  unfold Machine.execCutComplete
  split
  · exact .ok h
  · exact .ite (.ok (.cutOff h)) (.ite (.ok h) (.ite (.ok (.cutEnd h)) (.ok h)))

theorem KeepsO.execCutTimeout (h : Keeps s t) {p} : KeepsO s (execCutTimeout p t) := by
  unfold Machine.execCutTimeout
  split
  · exact .ok h
  · exact .ite (.ok (.ite (.cutOff (.ite h (.countF h))) (.cutEnd (.ite h (.countF h))))) (.ok h)

/-! ### Commands of the partition page (R122, R123) -/

theorem KeepsO.execPrtCmdHalt (h : Keeps s t) {who p} : KeepsO s (execPrtCmdHalt who p t) :=
  .ite (.ok (.haltReq (.silentWaiter h))) (.ok h)

theorem KeepsO.execPrtCmdSnip (h : Keeps s t) {who p} : KeepsO s (execPrtCmdSnip who p t) :=
  .ite (.ok (.haltReq (.silentWaiter h))) (.ok h)

theorem KeepsO.execPrtCmdRun (h : Keeps s t) {who p} : KeepsO s (execPrtCmdRun who p t) :=
  .ite (.ok h) (.ite (.ok (.countF h)) (.ok (.runReq (.silentWaiter h))))

theorem KeepsO.execPrtCmdStep (h : Keeps s t) {who p arg} : KeepsO s (execPrtCmdStep who p arg t) :=
  .ite (.ok h) (.ite (.ok (.countF h)) (.ok (.stepReq (.silentWaiter h))))

/-! ### Leaves (R97) -/

theorem Keeps.leafTake (h : Keeps s t) {r opc q} (hq : leafTake t r opc = some q) : Keeps s q.2 := by
  unfold Machine.leafTake at hq
  dsimp only at hq
  split at hq
  · cases hq
  split at hq <;> cases hq
  exact .setR h

theorem Keeps.clearLate (h : Keeps s t) {p r} : Keeps s (clearLate t p r) :=
  .forAll h fun _ _ hu => .setS hu

theorem Keeps.leafHalt (h : Keeps s t) {r m} : Keeps s (leafHalt r m t) :=
  .ite (.ite h (.setRP h)) (.setP (.setRP h))

theorem Keeps.leafRun (h : Keeps s t) {r m} : Keeps s (leafRun r m t) :=
  .setRP (.clearLate h)

theorem Keeps.leafStep (h : Keeps s t) {r m} : Keeps s (leafStep r m t) :=
  .setRP (.clearLate h)

theorem Keeps.leafMark (h : Keeps s t) {r m} : Keeps s (leafMark r m t) :=
  .upd (.setRP h)

theorem Keeps.leafClrmark (h : Keeps s t) {r m} : Keeps s (leafClrmark r m t) :=
  .rdvWake (.forAll (.upd (.setRP h)) fun _ _ hu => .setC hu)

theorem Keeps.leafAct (h : Keeps s t) {r m} : Keeps s (leafAct r m t) := by
  unfold Machine.leafAct
  split
  · exact .leafHalt h
  · exact .leafRun h
  · exact .leafStep h
  · exact .leafMark h
  · exact .leafClrmark h
  · exact h

theorem Keeps.leafDue {r n : Nat} (h : Keeps s t) : Keeps s (leafDue r n t) := by
  induction n generalizing t with
  | zero => exact h
  | succ n ih =>
    unfold Machine.leafDue
    dsimp only
    split
    · exact h
    · exact .ite (ih (.leafAct (.setR h))) h

theorem KeepsO.execLeafHalt (h : Keeps s t) {r} : KeepsO s (execLeafHalt r t) := by
  unfold Machine.execLeafHalt
  split
  next => exact .ok h
  next hq => exact .ok (.leafHalt (h.leafTake hq))

theorem KeepsO.execLeafRun (h : Keeps s t) {r} : KeepsO s (execLeafRun r t) := by
  unfold Machine.execLeafRun
  split
  next => exact .ok h
  next hq => exact .ok (.leafRun (h.leafTake hq))

theorem KeepsO.execLeafStep (h : Keeps s t) {r} : KeepsO s (execLeafStep r t) := by
  unfold Machine.execLeafStep
  split
  next => exact .ok h
  next hq => exact .ok (.leafStep (h.leafTake hq))

theorem KeepsO.execLeafMark (h : Keeps s t) {r} : KeepsO s (execLeafMark r t) := by
  unfold Machine.execLeafMark
  split
  next => exact .ok h
  next hq => exact .ok (.leafMark (h.leafTake hq))

theorem KeepsO.execLeafClrmark (h : Keeps s t) {r} : KeepsO s (execLeafClrmark r t) := by
  unfold Machine.execLeafClrmark
  split
  next => exact .ok h
  next hq => exact .ok (.leafClrmark (h.leafTake hq))

theorem Keeps.stepTimed (h : Keeps s t) {p} : Keeps s (stepTimed t p) := by
  unfold Machine.stepTimed
  dsimp only
  split
  · exact h
  split
  · split
    · exact .setP (.askHubs (.newCutId h))
    · exact .setP h
  · exact h

theorem KeepsO.execLeafStepDone (h : Keeps s t) {r p} : KeepsO s (execLeafStepDone r p t) :=
  .ite (.ok (.stepTimed (.setRP h))) (.ok h)

/-! ### Channels that fire (R84, R85, R91) -/

theorem Keeps.channelFire (h : Keeps s t) {f v} : Keeps s (channelFire t f v) :=
  .unless (.setF h) fun hk2 => .when (.forAll (.when (.unless hk2 fun hk => .setFlyReg hk) fun hk2 => .when (.trigPulse hk2) fun hk1 =>
      .raiseXt hk1) fun _ _ hu => .setS hu) fun hk2 => .elimStep hk2 fun hk _ => .triggerHalt hk

theorem KeepsO.execChannelFire (h : Keeps s t) {cluster ch} : KeepsO s (execChannelFire cluster ch t) := by
  unfold Machine.execChannelFire
  dsimp only
  split
  · exact .ok h
  split
  · exact .ok h
  · exact .ok (.channelFire h)

theorem Keeps.fireDue (h : Keeps s t) {f} : Keeps s (fireDue t f) :=
  .forAll h fun _ _ hu => .channelFire hu

/-! ### The partition map (R93, R94) -/

theorem Keeps.trimShares (h : Keeps s t) {p} : Keeps s (trimShares t p) :=
  .forAll h fun _ _ hu => .ite hu (.setRP hu)

theorem Keeps.createPart (h : Keeps s t) {p} : Keeps s (createPart t p) :=
  .ite (.setP h) h

theorem Keeps.mapByteWrite (h : Keeps s t) {c new} : Keeps s (mapByteWrite t c new) :=
  .ite h (.ite (.setR (.elim h fun _ => .createPart h)) (.countF h))

theorem KeepsO.execPrtMapWrite (h : Keeps s t) {who k v} : KeepsO s (execPrtMapWrite who k v t) :=
  .ite (.ok (.forAll h fun _ _ hu => .mapByteWrite hu)) (.ok h)

theorem Keeps.hostGive (h : Keeps s t) : Keeps s (hostGive t) := by
  unfold Machine.hostGive
  dsimp only
  split
  · exact h
  · exact .ite (.upd h) h

/-- A cluster that leaves its partition. -/
theorem Keeps.leave (h : Keeps s t) {p c x} [Decidable c] : Keeps s
    (if c then Machine.setP (Machine.trimShares t p) p x else Machine.trimShares t p) :=
  .ite (.setP (.trimShares h)) (.trimShares h)

theorem Keeps.applyChg (h : Keeps s t) {g} : Keeps s (applyChg t g) := by
  unfold Machine.applyChg
  cases bytePart g.old <;> cases bytePart g.byte <;> dsimp only
  · exact .hostGive (.publishMap (.setMapByte h))
  · exact .hostGive (.publishMap (.ite (.setP (.forAll (.setMapByte h) fun _ _ hu => .setRP hu))
        (.forAll (.setMapByte h) fun _ _ hu => .setRP hu)))
  · exact .hostGive (.publishMap (.leave (.setMapByte h)))
  · exact .hostGive (.publishMap (.ite (.setP (.forAll (.leave (.setMapByte h)) fun _ _ hu => .setRP hu))
        (.forAll (.leave (.setMapByte h)) fun _ _ hu => .setRP hu)))

theorem Keeps.chgDue {r n : Nat} (h : Keeps s t) : Keeps s (chgDue r n t) := by
  induction n generalizing t with
  | zero => exact h
  | succ n ih =>
    unfold Machine.chgDue
    dsimp only
    split
    · exact h
    · exact .ite (ih (.applyChg (.setR h))) h

theorem KeepsO.execPrtMapApply (h : Keeps s t) {r} : KeepsO s (execPrtMapApply r t) := by
  unfold Machine.execPrtMapApply
  dsimp only
  split
  · exact .ok h
  · exact .ite (.ok h) (.ok (.applyChg (.setR h)))

/-! ### A clock edge of a region (R51, R55, R64, R81, R95, R97, R98, R192) -/

theorem Keeps.portEdge (h : Keeps s t) {r} : Keeps s (portEdge t r) := by
  unfold Machine.portEdge
  dsimp only
  split
  · exact .ite h (.setR h)
  · exact .setR h
  · exact .setR h

theorem Keeps.siteLevels (h : Keeps s t) {lv i} : Keeps s (siteLevels lv t i) :=
  .ite h (.setS h)

theorem Keeps.siteTurn (h : Keeps s t) {i} : Keeps s (siteTurn t i) :=
  .unless (.gatedEdge (.traceDue (.unless (.ite h (.setS h)) fun hk => .btSwitch hk))) fun hk1 => .siteGo (.wakeNeed hk1)

theorem Keeps.flyerTurn (h : Keeps s t) {f} : Keeps s (flyerTurn t f) :=
  .forAll (.resyncEdge (.ite h (.setF h))) fun _ _ hu => .driftEdge hu

theorem Keeps.andEdge (h : Keeps s t) {r p} : Keeps s (andEdge r t p) :=
  .ite h (.setRP h)

theorem Keeps.partStep (h : Keeps s t) {r p} : Keeps s (partStep r t p) :=
  .ite (.setRP h) (.ite (.setRP h) (.setRP h))

theorem KeepsO.execScheduleStep (h : Keeps s t) {r levels} : KeepsO s (execScheduleStep r levels t) := by
  unfold Machine.execScheduleStep
  extract_lets x mine own s0 sites s1 ends s2 parts s3 s4 turn cnt y s5 s6
  have h0 : Keeps s s0 := .chgDue (.leafDue (.forAll h fun _ _ hu => .fireDue hu))
  have h1 : Keeps s s1 := .forAll h0 fun _ _ hu => .siteLevels (.aocEdge hu)
  have h2 : Keeps s s2 := .upd h1
  clear_value s2
  have h4 : Keeps s s4 := .forAll (.forAll h2 fun _ _ hu => .partStep hu) fun _ _ hu => .andEdge hu
  have h5 : Keeps s s5 := .setR h4
  clear_value s5
  have h6 : Keeps s s6 := .forAll (.forAll (.portEdge h5) fun _ _ hu => .flyerTurn hu) fun _ _ hu => .siteTurn hu
  exact .ite (.ok h) (.ok (.pulseEchoes h6))

/-! ### Planned halts (R102, R103) -/

theorem Keeps.armTicket (h : Keeps s t) {opId} : Keeps s (armTicket t opId) := by
  unfold Machine.armTicket
  dsimp only
  refine .forAll h fun _ _ hu => ?_
  split
  · exact .setW hu (.setTk (.getW hu))
  · exact hu

theorem KeepsO.execPlannedHaltDue (h : Keeps s t) {p} : KeepsO s (execPlannedHaltDue p t) := by
  unfold Machine.execPlannedHaltDue
  dsimp only
  split
  · exact .ok h
  · exact .ite (.ok h) (.ok (.setCause (.cutStart (.rootPush (.armTicket (.setP (.ite (.setRegF (.setRegF h)) h)))))))

/-! ### Regions freeze and report (R98, R107) -/

theorem KeepsO.execRegionFrozen (h : Keeps s t) {r p} : KeepsO s (execRegionFrozen r p t) := by
  unfold Machine.execRegionFrozen
  dsimp only
  split
  · exact .ok h
  split
  · exact .ok (.setRP h)
  · exact .ite (.ok (.setRP h)) (.ok (.chSendAll (.rootPush (.setRP (.setRP h)))))

theorem KeepsO.execRegionReady (h : Keeps s t) {r p} : KeepsO s (execRegionReady r p t) :=
  .ite (.ok (.setRP h)) (.ok h)

theorem KeepsO.execRunResumed (h : Keeps s t) {p} : KeepsO s (execRunResumed p t) :=
  .ite (.ok h)
      (.ok (.actAfter (.rdvWake (.when (.when (.forAll (.setP h) fun _ _ hu => .postWaiter hu) fun hk => .setReg (.upd hk)) fun hk1 =>
          .releaseHeld hk1))))

/-! ### Lossless holds (R145 to R147) -/

theorem KeepsO.execLlHoldRequest (h : Keeps s t) {point p} : KeepsO s (execLlHoldRequest point p t) :=
  .ite (.ok (.setP h)) (.ok h)

theorem KeepsO.execLlHoldStart (h : Keeps s t) {p} : KeepsO s (execLlHoldStart p t) :=
  .ite (.ok h) (.ok (.hevt (.ctlPush (.countF (.setP h)))))

theorem KeepsO.execLlHoldEnd (h : Keeps s t) {p} : KeepsO s (execLlHoldEnd p t) :=
  .ite (.ok h) (.ite (.ok (.ctlPush (.holdEnded h))) (.ite (.ok (.setP h)) (.ok h)))

theorem KeepsO.execLlHoldTimeout (h : Keeps s t) {p} : KeepsO s (execLlHoldTimeout p t) := by
  unfold Machine.execLlHoldTimeout
  dsimp only
  split
  · exact .ok h
  · exact .ite (.ok h) (.ok (.ctlPush (.holdEnded (.setP h))))

/-! ### Power (R120, R138) -/

theorem Keeps.sumsGone (h : Keeps s t) {c} : Keeps s (sumsGone t c) := by
  unfold Machine.sumsGone
  split
  · exact h
  · exact .setF h

theorem Keeps.regionReset (h : Keeps s t) {r} : Keeps s (regionReset t r) := by
  unfold Machine.regionReset
  extract_lets sites cl counts bare s1
  have h1 : Keeps s s1 := by
    refine ((h.withRegs (tabWf_filter _ _ _)).withSites fun hs => ?_).withAreg (tabWf_filter _ _ _)
    refine tabWf_filterMap_key _ _ _ (fun e g hg => ?_) hs
    split at hg
    · split at hg <;> cases hg
      exact ⟨rfl, fun _ hfresh => Bool.noConfusion (congrArg Site.failed hfresh)⟩
    · cases hg
      exact ⟨rfl, id⟩
  exact .forAll (.forAll h1 fun _ _ hu => .sumsGone hu) fun _ _ hu => .setF hu

theorem KeepsO.execRegionPowerOff (h : Keeps s t) {r} : KeepsO s (execRegionPowerOff r t) := by
  unfold Machine.execRegionPowerOff
  refine .ite (.ok h) ?_
  extract_lets cl sites lostPend others s1 s2 taps shut s3 s4 s5 s6 s7 s8
  have h0 : Keeps s lostPend := h.withFlyers (tabWf_tmap _ _ _)
  clear_value lostPend
  have h1 : Keeps s s1 := .forAll h0 fun _ _ hu => .forAll hu fun _ _ hv => .settlePend hv
  have h2 : Keeps s s2 := .forAll h1 fun _ _ hu => .flyerGone hu
  have h3 : Keeps s s3 := .forAll (.regionReset (.forAll h2 fun _ _ hu => .ite (.closeWindow hu) hu)) fun _ _ hu => .settleCard hu
  have h5 : Keeps s s5 := .forAll (.setR h3) fun u p hu => by
    dsimp only
    split
    · exact .ite (.post (.setP hu)) hu
    · exact hu
  have h6 : Keeps s s6 := .forAll h5 fun _ _ hu => .stepTimed (.setRP hu)
  exact .ok (.upd (.forAll (.hevt h6) fun _ _ hu => .funnelGap hu))

theorem KeepsO.execRegionPowerOn (h : Keeps s t) {r} : KeepsO s (execRegionPowerOn r t) :=
  .ite (.ok h)
      (.ok (.hevt (.forAll (.setR (.forAll (.regionReset h) fun _ _ hu => .resyncQueue hu)) fun _ _ hu => .when (.setRP hu) fun hk => .setP
          hk)))

/-! ### Cuts and rendezvous from other hubs (R333 to R337) -/

theorem Keeps.cutAdopt (h : Keeps s t) {p c cutid ch deadline} : Keeps s (cutAdopt t p c cutid ch deadline) :=
  .setP (.askHubs (.upd h))

theorem KeepsO.execHaltReq (h : Keeps s t) {ch lseq cutid deadline part} : KeepsO s (execHaltReq ch lseq cutid deadline part t) := by
  unfold Machine.execHaltReq
  dsimp only
  split
  · exact .ok (.seqIn h)
  split
  · exact .ok (.chSend (.countF (.seqIn h)))
  split
  · exact .ok (.chSend (.upd (.seqIn h)))
  refine .ok ?_
  refine .tryConfirm ?_
  refine .forAll (.seqIn h) fun _ _ hu => ?_
  split
  · exact .cutAdopt hu
  · exact .cutStart hu

theorem Keeps.childPut (h : Keeps s t) {p ch cutid nfail joined} : Keeps s (childPut t p ch cutid nfail joined) :=
  .setP h

theorem Keeps.childDone (h : Keeps s t) {ch cutid nfail joined} : Keeps s (childDone t ch cutid nfail joined) :=
  .elim h fun _ => .childPut h

theorem KeepsO.execConfirm (h : Keeps s t) {ch lseq cutid joined nfail} : KeepsO s (execConfirm ch lseq cutid joined nfail t) :=
  .ok (.tryConfirm (.childDone (.seqIn h)))

theorem KeepsO.execCutChildDeadline (h : Keeps s t) {p} : KeepsO s (execCutChildDeadline p t) := by
  unfold Machine.execCutChildDeadline
  dsimp only
  split
  · exact .ok h
  · exact .ite (.ok (.tryConfirm (.forAll (.countF h) fun _ _ hu => .childPut hu))) (.ok h)

theorem KeepsO.execMark (h : Keeps s t) {ch lseq cutid part} : KeepsO s (execMark ch lseq cutid part t) :=
  .ite (.ok (.seqIn h)) (.ok (.forAll (.setC (.seqIn h)) fun _ _ hu => .tryConfirm hu))

theorem Keeps.stale (h : Keeps s t) : Keeps s (stale t) :=
  .countF h

theorem KeepsO.execRdvOpen (h : Keeps s t) {ch lseq epoch op cutid} : KeepsO s (execRdvOpen ch lseq epoch op cutid t) := by
  unfold Machine.execRdvOpen
  dsimp only
  split
  · exact .ok (.stale (.seqIn h))
  split
  · exact .ite (.ok (.stale (.seqIn h))) (.ok (.rdvStep (.forAll (.chSendAll (.setP (.seqIn h))) fun _ _ hu => .sendClr (.setP hu))))
  · exact .ok (.stale (.seqIn h))

theorem KeepsO.execRdvArrive (h : Keeps s t) {ch lseq epoch members cutid} : KeepsO s (execRdvArrive ch lseq epoch members cutid t) := by
  unfold Machine.execRdvArrive
  dsimp only
  split
  · exact .ok (.stale (.seqIn h))
  · exact .ite (.ok (.rdvStep (.setP (.seqIn h)))) (.ite (.ok (.setP (.seqIn h))) (.ok (.stale (.seqIn h))))

theorem KeepsO.execRdvRelease (h : Keeps s t) {ch lseq epoch op cutid} : KeepsO s (execRdvRelease ch lseq epoch op cutid t) := by
  unfold Machine.execRdvRelease
  dsimp only
  split
  · exact .ok (.stale (.seqIn h))
  split
  · exact .ok (.stale (.seqIn h))
  · exact .ite (.ok (.seqIn h)) (.ok (.rdvStep (.rdvGo (.seqIn h))))

theorem KeepsO.execRdvLeft (h : Keeps s t) {ch lseq epoch members cutid} : KeepsO s (execRdvLeft ch lseq epoch members cutid t) := by
  unfold Machine.execRdvLeft
  dsimp only
  split
  · exact .ok (.stale (.seqIn h))
  · exact .ite (.ok (.rdvStep (.setP (.seqIn h)))) (.ok (.stale (.seqIn h)))

theorem KeepsO.execRdvTimeout (h : Keeps s t) {p} : KeepsO s (execRdvTimeout p t) := by
  unfold Machine.execRdvTimeout
  split
  · exact .ok h
  · exact .ok (.rdvGo h)

theorem KeepsO.execDumpReq (h : Keeps s t) {ch lseq num cutid} : KeepsO s (execDumpReq ch lseq num cutid t) :=
  .ok (.chSendAll (.forAll (.seqIn h) fun _ _ hu => .hangDeclare hu))

end

end Sys2Proof.Machine
end


section
/-! SUPPORT. What a step keeps (R280): hub time, election, channels and messages. -/

namespace Sys2Proof.Machine

section
variable {s t : State}

/-! ### TIM_STAT (R332, R339) -/

theorem Keeps.timeUpdate (h : Keeps s t) : Keeps s (timeUpdate t) :=
  .ite h (.hevt (.updAll h (by trivial)))

/-! ### Exchanges (R328, R329, R331) -/

theorem Keeps.startMeasure (h : Keeps s t) : Keeps s (startMeasure t) :=
  .ite h (.updAll h (by trivial))

theorem Keeps.keepTheta (h : Keeps s t) {d theta} : Keeps s (keepTheta t d theta) :=
  .updAll (.setReg (.setReg h)) (by trivial)

theorem Keeps.finishMeasure (h : Keeps s t) : Keeps s (finishMeasure t) := by
  unfold Machine.finishMeasure
  split
  · exact h
  split
  · exact .updAll h (by trivial)
  split
  · exact h
  · exact .keepTheta (.updAll h (by trivial))

theorem Keeps.track (h : Keeps s t) {d theta} : Keeps s (track t d theta) :=
  .keepTheta (.updAll h (by trivial))

theorem KeepsO.execTimeExchangeTick (h : Keeps s t) : KeepsO s (execTimeExchangeTick t) := by
  unfold Machine.execTimeExchangeTick
  dsimp only
  split
  · exact .ok h
  · refine .ite (.ok (.updAll (.chSend h) (by rw [chSend_eq]; trivial))) (.ok h)

theorem KeepsO.execProbe (h : Keeps s t) {ch lseq t1} : KeepsO s (execProbe ch lseq t1 t) :=
  .ok (.chSend (.seqIn h))

theorem KeepsO.execProbeReply (h : Keeps s t) {ch lseq t1 t2 t3} : KeepsO s (execProbeReply ch lseq t1 t2 t3 t) := by
  unfold Machine.execProbeReply
  dsimp only
  split
  · exact .ok (.seqIn h)
  · exact .ite (.ok (.timeUpdate (.ite (.finishMeasure (.updAll (.seqIn h) (by trivial))) (.track (.updAll (.seqIn h) (by trivial))))))
        (.ok (.seqIn h))

theorem KeepsO.execProbeTimeout (h : Keeps s t) : KeepsO s (execProbeTimeout t) :=
  .ite (.ok h) (.ok (.timeUpdate (.finishMeasure (.updAll h (by trivial)))))

theorem KeepsO.execTimMeasure (h : Keeps s t) {who} : KeepsO s (execTimMeasure who t) :=
  .ite (.ok (.timeUpdate (.startMeasure h))) (.ok h)

theorem KeepsO.execRefclkLoss (h : Keeps s t) : KeepsO s (execRefclkLoss t) :=
  .ite (.ok h) (.ok (.timeUpdate (.healthChange (.updAll h (by trivial)))))

theorem KeepsO.execRefclkReturn (h : Keeps s t) : KeepsO s (execRefclkReturn t) :=
  .ite (.ok (.timeUpdate (.startMeasure (.healthChange (.updAll h (by trivial)))))) (.ok h)

/-! ### The election (R325 to R327) -/

theorem Keeps.electSend (h : Keeps s t) {ch} : Keeps s (electSend t ch) :=
  .chSend h

theorem Keeps.electSendAll (h : Keeps s t) : Keeps s (electSendAll t) :=
  .forAll h fun _ _ hu => .electSend hu

theorem Keeps.electStart (h : Keeps s t) : Keeps s (electStart t) :=
  .electSendAll (.updAll h (by trivial))

theorem KeepsO.execElect (h : Keeps s t) {ch lseq msg} : KeepsO s (execElect ch lseq msg t) :=
  .ite (.ok (.seqIn h)) (.ite (.ok (.electSendAll (.upd (.unless (.seqIn h) fun hk => .electStart hk))))
      (.ok (.upd (.unless (.seqIn h) fun hk => .electStart hk))))

theorem Keeps.takeParent (h : Keeps s t) {p depth} : Keeps s (takeParent t p depth) :=
  .unless (.updAll h (by trivial)) fun hk => .startMeasure hk

theorem KeepsO.execElectionClose (h : Keeps s t) : KeepsO s (execElectionClose t) :=
  .ite (.ok (.timeUpdate (.when (.takeParent (.hevt (.upd h))) fun hk => .startMeasure hk))) (.ok h)

theorem KeepsO.execIhbElect (h : Keeps s t) {who} : KeepsO s (execIhbElect who t) :=
  .ite (.ok (.timeUpdate (.electStart h))) (.ok h)

/-! ### Channels (R322, R340, R368) -/

theorem KeepsO.execChannelUp (h : Keeps s t) {ch} : KeepsO s (execChannelUp ch t) :=
  .ite (.ok h)
      (.ok (.timeUpdate (.electStart (.when (.unless (.healthChange (.hevt (.setC h))) fun hk => .chSend hk) fun hk1 => .startMeasure
          hk1))))

theorem KeepsO.execChannelDown (h : Keeps s t) {ch} : KeepsO s (execChannelDown ch t) :=
  .ite (.ok (.timeUpdate (.electStart (.healthChange (.hevt (.setC h)))))) (.ok h)

theorem KeepsO.execMessageDiscard (h : Keeps s t) {ch} : KeepsO s (execMessageDiscard ch t) :=
  .ok (.countF h)

/-! ### Hub numbers and routes (R324) -/

theorem Keeps.nameSend (h : Keeps s t) {hub hops not_} : Keeps s (nameSend t hub hops not_) :=
  .forAll h fun _ _ hu => .chSend hu

theorem KeepsO.execName (h : Keeps s t) {ch lseq hub hops} : KeepsO s (execName ch lseq hub hops t) := by
  unfold Machine.execName
  dsimp only
  split
  · exact .ok (.seqIn h)
  split
  · exact .ok (.upd (.hevt (.countF (.seqIn h))))
  split
  · exact .ok (.nameSend (.upd (.when (.seqIn h) fun hk => .setC hk)))
  · exact .ite (.ok (.nameSend (.upd (.when (.seqIn h) fun hk => .setC hk))))
        (.ite (.ok (.upd (.when (.seqIn h) fun hk => .setC hk))) (.ok (.when (.seqIn h) fun hk => .setC hk)))

theorem KeepsO.execIhbIdWrite (h : Keeps s t) {who v} : KeepsO s (execIhbIdWrite who v t) :=
  .ite (.ok (.unless (.setReg h) fun hk => .nameSend hk)) (.ok h)

/-! ### Messages (R285, R286) -/

theorem KeepsO.execMsg (h : Keeps s t) {ch lseq src dst mtag sch units} : KeepsO s (execMsg ch lseq src dst mtag sch units t) := by
  unfold Machine.execMsg
  dsimp only
  split
  · exact .ok (.seqIn h)
  split
  · exact .ok (.chSend (.unless (.seqIn h) fun hk => .raiseLine (.setC hk)))
  split
  · exact .ok (.seqIn h)
  · exact .ok (.chSend (.seqIn h))

theorem KeepsO.execAck (h : Keeps s t) {ch lseq src dst mtag full} : KeepsO s (execAck ch lseq src dst mtag full t) := by
  unfold Machine.execAck
  dsimp only
  split
  · exact .ok (.seqIn h)
  split
  split
  · exact .ok (.seqIn h)
  · exact .ok (.post (.setC (.seqIn h)))
  split
  · exact .ok (.seqIn h)
  · exact .ok (.chSend (.seqIn h))

end

end Sys2Proof.Machine
end


section
/-! SUPPORT. What a step keeps (R280): Whorls, leases that end, loads. -/

namespace Sys2Proof.Machine

section
variable {s t : State}

/-! ### Lease requests (Table 9.13) -/

theorem Keeps.setLease_none (h : Keeps s t) {w k} : Keeps s (setLease t w k none) := .setW h (.endLease (.getW h))

/-! ### The end of a lease (R282, R284) -/

theorem Keeps.wakeOwnerGone (h : Keeps s t) {code req} : Keeps s (wakeOwnerGone t code req) :=
  .forAll h fun _ _ hu => .forAll hu fun _ _ hu1 => .dropRecv (.setW hu1 (.finishTk (.getW hu1)))

theorem Keeps.endDRoute (h : Keeps s t) : Keeps s (endDRoute t) :=
  .ite (.setRegF (.upd h)) h

theorem Keeps.leaseReset (h : Keeps s t) {req} : Keeps s (leaseReset t req) := by
  unfold Machine.leaseReset
  split
  · exact .forAll h fun _ _ hu => .agWrite hu
  · exact .agWrite h
  · exact .regPut h
  · exact .endDRoute (.upd h)
  · exact .upd h
  · exact h

theorem Keeps.leaseEnd (h : Keeps s t) {w h'} : Keeps s (leaseEnd t w h') := by
  unfold Machine.leaseEnd
  split
  · exact h
  · exact .leaseReset (.wakeOwnerGone h.setLease_none)

theorem Keeps.leaseLapse (h : Keeps s t) {w h' cause} : Keeps s (leaseLapse t w h' cause) := by
  unfold Machine.leaseLapse
  split
  · exact h
  · exact .hevt (.raiseLine (.leaseEnd h))

theorem Keeps.endSession (h : Keeps s t) {w cause} : Keeps s (endSession t w cause) :=
  .forAll (.setW h ((KeepsW.getW h).withTk fun _ => rfl)) fun _ _ hu => .leaseLapse hu

theorem KeepsO.execLeaseLapse (h : Keeps s t) {w h'} : KeepsO s (execLeaseLapse w h' t) := by
  unfold Machine.execLeaseLapse
  split
  · exact .ok h
  · exact .ite (.ok (.leaseLapse h)) (.ok h)

/-! ### Reset, stop, start (R236, R260) -/

theorem Keeps.dropRecvs (h : Keeps s t) {w} : Keeps s (dropRecvs t w) :=
  .withChans h (tabWf_tmap _ _ _)

theorem Keeps.dumpBroken (h : Keeps s t) {w} : Keeps s (dumpBroken t w) := by
  unfold Machine.dumpBroken
  split
  · exact h
  · exact .ite (.upd (.elim h fun _ => .giveUp h)) h

/-- A Whorl after a reset, with its local store. -/
theorem KeepsW.fresh {w : Nat} {x y : Whorl} (hx : KeepsW s w x) (hy : y.g = [] ∧ y.sr = [] ∧ y.timers = [] ∧ y.tk = [] ∧ y.leases = [])
    (hls : y.ls = x.ls) : KeepsW s w y := by
  obtain ⟨hg, hsr, htm, htk, hl⟩ := hy
  refine hx.bare (fun hm => (whorlWf_iff y).2 ?_) hl
  rw [hg, hsr, htm, htk, hl, hls]
  exact ⟨hm, rfl, rfl, rfl, rfl, rfl⟩

theorem Keeps.whorlReset (h : Keeps s t) {w cause} : Keeps s (whorlReset t w cause) := by
  have h1 : Keeps s (Machine.dropRecvs (Machine.endSession (Machine.dumpBroken t w) w cause) w) := .dropRecvs (.endSession (.dumpBroken h))
  refine .setPend (.setW h1 ?_)
  generalize Machine.dropRecvs _ w = u at h1 ⊢
  exact (KeepsW.getW h1).fresh ⟨rfl, rfl, rfl, rfl, rfl⟩ rfl

theorem Keeps.whorlStop (h : Keeps s t) {w} : Keeps s (whorlStop t w) :=
  .ite (.raiseLine (.setW h (.upd (.getW h)))) h

theorem KeepsO.execWhorlStop (h : Keeps s t) {who w} : KeepsO s (execWhorlStop who w t) :=
  .ite (.ok (.whorlStop h)) (.ok h)

theorem Keeps.whorlStart (h : Keeps s t) {w} : Keeps s (whorlStart t w) :=
  .ite (.setW h (.upd (.getW h))) h

theorem KeepsO.execWhorlStart (h : Keeps s t) {who w} : KeepsO s (execWhorlStart who w t) :=
  .ite (.ok (.whorlStart h)) (.ok h)

/-! ### Faults (R261) -/

theorem Keeps.whorlFault (h : Keeps s t) {w code addr} : Keeps s (whorlFault t w code addr) :=
  .hevt (.raiseLine (.setW h (.upd (.getW h))))

theorem KeepsO.execWhorlFault (h : Keeps s t) {w code addr} : KeepsO s (execWhorlFault w code addr t) :=
  .ite (.ok (.whorlFault h)) (.ok h)

/-! ### Loads (R256 to R259) -/

theorem Keeps.whorlLoad (h : Keeps s t) {who w} : Keeps s (whorlLoad t who w) := by
  unfold Machine.whorlLoad
  dsimp only
  split
  · exact h
  · exact .setW h (.upd (.getW h))
  · exact .setW (.whorlReset h) (.upd (.getW (.whorlReset h)))

theorem KeepsO.execWhorlLoad (h : Keeps s t) {who w} : KeepsO s (execWhorlLoad who w t) :=
  .ite (.ok (.whorlLoad h)) (.ok h)

theorem Keeps.loadRefuse (h : Keeps s t) {w code index} : Keeps s (loadRefuse t w code index) := by
  refine .raiseLine (.setW h ?_)
  exact (KeepsW.getW h).fresh ⟨rfl, rfl, rfl, rfl, rfl⟩ rfl

theorem Keeps.loadPass (h : Keeps s t) {w auto} : Keeps s (loadPass t w auto) :=
  .raiseLine (.setW h (.upd (.getW h)))

theorem Keeps.loadProgram (h : Keeps s t) {w q rom codeBytes pc sets} : Keeps s (loadProgram t w q rom codeBytes pc sets) :=
  .setW h ((KeepsW.getW h).withSr fun _ =>
    List.foldlRecOn (motive := fun m => tabWf 0 m = true) _ _ rfl fun _ hm _ _ => tabWf_tput _ _ _ _ hm)

theorem Keeps.loadRom (h : Keeps s t) {w q} : Keeps s (loadRom t w q) := by
  have h1 : Keeps s (Machine.loadProgram t w q (some (bits q.word 55 48)) 0 (0x2000000 + 4 * (Config.romEntry (bits q.word 55 48) % 2 ^ 17))
      []) :=
    .loadProgram h
  exact .ite (.loadRefuse h) (.loadPass (.setW h1 ((KeepsW.getW h1).withLs fun _ => rfl)))

theorem Keeps.loadRomAuto (h : Keeps s t) {w idx} : Keeps s (loadRomAuto t w idx) :=
  .loadRom (.whorlReset h)

theorem Keeps.hangLoad (h : Keeps s t) : Keeps s (hangLoad t) :=
  .ite (.loadRomAuto h) h

theorem Keeps.hngWrite (h : Keeps s t) {v} : Keeps s (hngWrite t v) :=
  .hangLoad (.setReg h)

theorem KeepsO.execHngCtrlWrite (h : Keeps s t) {who v} : KeepsO s (execHngCtrlWrite who v t) :=
  .ite (.ok (.hngWrite h)) (.ok h)

theorem Keeps.resetFrom (h : Keeps s t) {w} : Keeps s (resetFrom t w) :=
  .hangLoad (.whorlReset h)

theorem KeepsO.execWhorlReset (h : Keeps s t) {who w} : KeepsO s (execWhorlReset who w t) :=
  .ite (.ok (.resetFrom h)) (.ok h)

/-! ### Local store and registers from outside (R263) -/

theorem Keeps.lsAccess (h : Keeps s t) {who w wr v} : Keeps s (lsAccess t who w wr v).2 := by
  unfold Machine.lsAccess
  dsimp only
  split
  · exact .regPut h
  split
  · exact .setW (.regPut h) ((KeepsW.getW (.regPut h)).withLs (memWf_writeUnits _ _ _))
  · exact .regPut h

theorem KeepsO.execWhlLsDataAccess (h : Keeps s t) {who w wr v} : KeepsO s (execWhlLsDataAccess who w wr v t) :=
  .ite (.ok (.lsAccess h)) (.ok h)

theorem KeepsO.execTimerExpire (h : Keeps s t) {w t'} : KeepsO s (execTimerExpire w t' t) :=
  .ite (.ok (.setW h (.setTimer (.getW h)))) (.ok h)

end

end Sys2Proof.Machine
end


section
/-! SUPPORT. What a step keeps (R280): the unlock. -/

namespace Sys2Proof.Machine

section
variable {s t : State}

theorem Keeps.endTwpSessions (h : Keeps s t) : Keeps s (endTwpSessions t) :=
  .forAll h fun _ _ hu => .whorlReset hu

theorem Keeps.setLevel (h : Keeps s t) {l} : Keeps s (setLevel t l) :=
  .when (.setRegF h) fun hk => .endTwpSessions hk

theorem KeepsO.execRgtChalNew (h : Keeps s t) {who healthy} : KeepsO s (execRgtChalNew who healthy t) :=
  .ite (.ok h) (.ite (.ok (.setRegF (.upd h))) (.ok (.healthChange (.setRegF (.upd h)))))

theorem Keeps.refuseResponse (h : Keeps s t) {counts} : Keeps s (refuseResponse t counts) :=
  .unless (.countF h) fun hk => .ite (.upd hk) (.upd hk)

theorem KeepsO.execRgtRespSubmit (h : Keeps s t) {who v} : KeepsO s (execRgtRespSubmit who v t) :=
  .ite (.ok h) (.ite (.ok (.refuseResponse h)) (.ok (.upd h)))

theorem KeepsO.execResponseCheck (h : Keeps s t) : KeepsO s (execResponseCheck t) := by
  unfold Machine.execResponseCheck
  split
  · exact .ok h
  · exact .ite (.ok (.setLevel (.upd (.setRegF (.upd h))))) (.ok (.refuseResponse (.setRegF (.upd h))))

theorem KeepsO.execNonceLapse (h : Keeps s t) : KeepsO s (execNonceLapse t) :=
  .ite (.ok (.setRegF (.upd h))) (.ok h)

theorem KeepsO.execLockoutEnd (h : Keeps s t) : KeepsO s (execLockoutEnd t) :=
  .ite (.ok (.upd h)) (.ok h)

theorem KeepsO.execRgtUnlockWrite (h : Keeps s t) {who v} : KeepsO s (execRgtUnlockWrite who v t) :=
  .ite (.ok h) (.ite (.ok (.setLevel (.setRegF h))) (.ok (.setRegF h)))

theorem KeepsO.execRgtPolicyWrite (h : Keeps s t) {who v} : KeepsO s (execRgtPolicyWrite who v t) :=
  .ite (.ok h) (.ite (.ok (.setLevel (.setRegF h))) (.ok (.setRegF h)))

end

end Sys2Proof.Machine
end


section
/-! SUPPORT. What a step keeps (R280): resets and start-up. -/

namespace Sys2Proof.Machine

section
variable {s t : State}

/-! ### Hub reset (R398 to R402) -/

/-- The registers that a reset keeps. -/
theorem tabWf_keptRegs (m : Tab Word) (h : tabWf 0 m = true) : tabWf 0 (keptRegs m) = true := by
  unfold keptRegs
  rw [← List.filterMap_eq_map, ← List.filterMap_eq_filter, List.filterMap_filterMap]
  refine tabWf_filterMap_key 0 _ m (fun e g hg => ?_) h
  simp only [Function.comp, Option.bind_some, Option.guard_eq_some_iff, decide_eq_true_eq] at hg
  obtain ⟨rfl, hne⟩ := hg
  exact ⟨rfl, fun _ => hne⟩

theorem Keeps.hubReset (h : Keeps s t) : Keeps s (hubReset t) := by
  refine ⟨h.1, fun hs => ?_⟩
  obtain ⟨hc, hl⟩ := h.2 hs
  obtain ⟨-, -, hregs, -, -, -, -, -, -, -, -, hregions, hsites, -, -, hnands, -, hunits, -⟩ := (canonical_iff t).1 hc
  refine ⟨(canonical_iff _).2 ⟨rfl, rfl, tabWf_keptRegs _ hregs, rfl, rfl, rfl, rfl, rfl, List.forall_mem_nil _, rfl, rfl, tabWf_tmap _ _ _
      hregions,
    tabWf_tmap _ _ _ hsites, rfl, rfl, ?_, rfl, hunits, rfl⟩, fun w k l hk => ?_⟩
  · dsimp only [Machine.hubReset]
    exact tabWf_tmap _ _ _ hnands
  · cases hk

theorem KeepsO.execHubReset (h : Keeps s t) : KeepsO s (execHubReset t) :=
  .ok (.hubReset h)

/-! ### Start-up (R403, R404, R411) -/

theorem Keeps.setStage (h : Keeps s t) {n} : Keeps s (setStage t n) :=
  .setRegF h

theorem Keeps.stageReady (h : Keeps s t) : Keeps s (stageReady t) :=
  .elimStep (.setRegF (.setRegF (.setStage h))) fun hk _ => .loadRomAuto hk

theorem Keeps.stageHold (h : Keeps s t) : Keeps s (stageHold t) :=
  .ite (.setRegF (.setStage h)) (.stageReady h)

theorem Keeps.stageElect (h : Keeps s t) : Keeps s (stageElect t) :=
  .electStart (.updAll (.setReg h) (by trivial))

theorem Keeps.bootAdvance (h : Keeps s t) : Keeps s (bootAdvance t) :=
  .ite h (.unless (.timeUpdate (.ite h (.stageElect h))) fun hk => .stageHold (.setCareful hk))

theorem Keeps.bootless (h : Keeps s t) : Keeps s (bootless t) :=
  .upd (.setRegF (.setStage (.setRegF (.setRegF h))))

theorem Keeps.bootOn (h : Keeps s t) {w} : Keeps s (bootOn t w) :=
  .bootAdvance (.setStage (.publishMap (.setRegF (.setRegF (.loadRomAuto (.upd h))))))

theorem Keeps.bootFrom (h : Keeps s t) {from_} : Keeps s (bootFrom t from_) := by
  unfold Machine.bootFrom
  split
  · exact .bootless h
  · exact .bootOn h

theorem KeepsO.execHubResetRelease (h : Keeps s t) : KeepsO s (execHubResetRelease t) := by
  refine .ite (.ok (.bootFrom (.irqUpdate ?_))) (.ok h)
  exact Keeps.withHubMem (t := { t with boot := _ }) (.upd h) fun _ => rfl

theorem Keeps.whorlOut (h : Keeps s t) {w} : Keeps s (whorlOut t w) :=
  .healthChange (.setW (.whorlReset h) (.upd (.getW (.whorlReset h))))

theorem KeepsO.execBootStageTimeout (h : Keeps s t) : KeepsO s (execBootStageTimeout t) := by
  unfold Machine.execBootStageTimeout
  split
  · exact .ok h
  · exact .ite (.ok (.bootFrom (.whorlOut (.upd h)))) (.ok h)

theorem Keeps.bootRelease (h : Keeps s t) : Keeps s (bootRelease t) :=
  .ite (.stageReady h) h

theorem KeepsO.execBootRelease (h : Keeps s t) {who v} : KeepsO s (execBootRelease who v t) :=
  .ite (.ok (.bootRelease h)) (.ok h)

theorem KeepsO.execHankMount (h : Keeps s t) : KeepsO s (execHankMount t) :=
  .ok (.bootAdvance (.hankMount h))

/-! ### Spare sites (R407) -/

theorem KeepsO.execRepairSample (h : Keeps s t) {row v} : KeepsO s (execRepairSample row v t) :=
  .ite (.ok h) (.ok (.hevt (.healthChange (.upd h))))

end

end Sys2Proof.Machine
end


section
/-! SUPPORT. What a step keeps (R280): the D route and the master port. -/

namespace Sys2Proof.Machine

section
variable {s t : State}

/-! ### The D route's stream of blocks -/

theorem Keeps.dPump {n cap k : Nat} (h : Keeps s t) : Keeps s (dPump n cap k t) := by
  induction k generalizing t with
  | zero => exact h
  | succ k ih =>
    unfold Machine.dPump
    split
    · exact .endDRoute h
    · exact .ite h (ih (.setSink (.upd h)))

/-! ### Requests -/

theorem Keeps.mpAsk (h : Keeps s t) {c wr addr beats data} : Keeps s (mpAsk t c wr addr beats data) :=
  .upd h

theorem Keeps.accEnd (h : Keeps s t) {who fail data} : Keeps s (accEnd t who fail data) :=
  .regPut (.unless (.regPut h) fun hk1 => .elimStep hk1 fun hk _ => .regPut hk)

theorem Keeps.accWrite (h : Keeps s t) {who v} : Keeps s (accWrite t who v) :=
  .when (.regPut h) fun hk => .mpAsk (.regPut hk)

theorem KeepsO.execMptAccGo (h : Keeps s t) {who v} : KeepsO s (execMptAccGo who v t) :=
  .ite (.ok (.accWrite h)) (.ok h)

/-! ### The dump window and the spill ring -/

theorem Keeps.dumpFeed (h : Keeps s t) : Keeps s (dumpFeed t) :=
  .ite h (.unless (.dPump h) fun hk => .mpAsk (.setSink hk))

theorem Keeps.spillWritten (h : Keeps s t) : Keeps s (spillWritten t) :=
  .setRegF (.upd h)

theorem Keeps.spillRead (h : Keeps s t) {old} : Keeps s (spillRead t old) :=
  .ite h (.upd h)

theorem KeepsO.execSpillBlockWrite (h : Keeps s t) : KeepsO s (execSpillBlockWrite t) :=
  .ite (.ok h) (.ok (.mpAsk (.setSink (.ite (.countF h) h))))

/-! ### Issue (R357 to R360) -/

theorem Keeps.setTag (h : Keeps s t) {wr tag q} : Keeps s (setTag t wr tag q) :=
  .ite (.upd h) (.upd h)

theorem Keeps.countErr (h : Keeps s t) {q n} : Keeps s (countErr t q n) :=
  .ite (.countF h) (.countF h)

theorem Keeps.windowWritten (h : Keeps s t) {q} : Keeps s (windowWritten t q) :=
  .when (.setRegF (.upd h)) fun hk => .setRegF hk

theorem Keeps.mpDone (h : Keeps s t) {q fail} : Keeps s (mpDone t q fail) := by
  unfold Machine.mpDone
  split
  · exact .accEnd h
  · exact .ite (.ite h (.windowWritten h)) (.upd h)
  · exact .ite h (.spillWritten h)

theorem KeepsO.execMpRequestIssue (h : Keeps s t) : KeepsO s (execMpRequestIssue t) := by
  unfold Machine.execMpRequestIssue
  dsimp only
  split
  · exact .ok (.dumpFeed h)
  split
  · exact .ok (.dumpFeed h)
  split
  refine .ok ?_
  refine .mpDone ?_
  split
  · exact .countF (.upd (.dumpFeed h))
  · exact .when (.countF (.upd (.dumpFeed h))) fun hk => .countErr hk
  split
  · exact .ok (.dumpFeed h)
  split
  · exact .ok (.dumpFeed h)
  · exact .ok (.setTag (.upd (.dumpFeed h)))

/-! ### Completions (R361) -/

theorem Keeps.lateDone (h : Keeps s t) {wr tag} : Keeps s (lateDone t wr tag) :=
  .setTag (.countF h)

theorem KeepsO.execMpReadBeat (h : Keeps s t) {tag last data err} : KeepsO s (execMpReadBeat tag last data err t) := by
  unfold Machine.execMpReadBeat
  split
  · exact .ok h
  · exact .ite (.ok (.ite (.lateDone h) h)) (.ite (.ok (.mpDone (.setTag (.ite (.countF h) h)))) (.ok (.setTag (.ite (.countF h) h))))

theorem KeepsO.execMpWriteCompletion (h : Keeps s t) {tag err} : KeepsO s (execMpWriteCompletion tag err t) := by
  unfold Machine.execMpWriteCompletion
  split
  · exact .ok h
  · exact .ite (.ok (.lateDone h)) (.ok (.mpDone (.setTag (.ite (.countErr h) h))))

theorem KeepsO.execMpTimeout (h : Keeps s t) {wr tag} : KeepsO s (execMpTimeout wr tag t) := by
  unfold Machine.execMpTimeout
  split
  · exact .ok h
  · exact .ite (.ok h) (.ok (.when (.mpDone (.countErr (.countF (.setTag h)))) fun hk => .raiseLine hk))

end

end Sys2Proof.Machine
end


section
/-! SUPPORT. What a step keeps (R280): trace lanes. -/

namespace Sys2Proof.Machine

section
variable {s t : State}

theorem Keeps.setFseq (h : Keeps s t) {d n} : Keeps s (setFseq t d n) :=
  .ite (.setRegF h) (.setRegF h)

theorem Keeps.laneSend (h : Keeps s t) {n f} : Keeps s (laneSend t n f) :=
  .setL h

theorem Keeps.newFrame (h : Keeps s t) {d n nl us bstart} : Keeps s (newFrame t d n nl us bstart) :=
  .setFseq (.laneSend h)

theorem Keeps.frameSend (h : Keeps s t) {d} : Keeps s (frameSend t d) := by
  have h1 : Keeps s (if dRoute t ≠ 1 then t else if ownD t then Machine.dPump 3 1024 4097 t else Machine.dPump 1 16384 4097 t) :=
    .ite h (.ite (.dPump h) (.dPump h))
  unfold Machine.frameSend
  dsimp only
  generalize (if dRoute t ≠ 1 then t else if ownD t then Machine.dPump 3 1024 4097 t else Machine.dPump 1 16384 4097 t) = u at h1 ⊢
  refine .ite h1 ?_
  split
  · exact h1
  · exact .newFrame (.setSink h1)

theorem KeepsO.execLaneFrameSend (h : Keeps s t) {dstream} : KeepsO s (execLaneFrameSend dstream t) :=
  .ok (.frameSend h)

theorem KeepsO.execLaneIdleFrame (h : Keeps s t) {lane} : KeepsO s (execLaneIdleFrame lane t) :=
  .ite (.ok (.newFrame h)) (.ok h)

theorem Keeps.replayOne (h : Keeps s t) {l k f} : Keeps s (replayOne t l k f) :=
  .ite (.countF h) (.laneSend (.countF h))

theorem Keeps.replayOwed (h : Keeps s t) : Keeps s (replayOwed t) :=
  .forAll h fun _ _ hu => .forAll (.setL hu) fun _ _ hu1 => .replayOne hu1

theorem Keeps.laneLeave (h : Keeps s t) {n} : Keeps s (laneLeave t n) :=
  .ite (.healthChange (.replayOwed (.countF (.setL h)))) h

theorem Keeps.laneJoin (h : Keeps s t) {n} : Keeps s (laneJoin t n) :=
  .ite (.healthChange (.replayOwed (.setL h))) h

theorem Keeps.laneEnable (h : Keeps s t) : Keeps s (laneEnable t) :=
  .forAll h fun _ _ hu => .ite (.laneJoin hu) (.laneLeave hu)

theorem KeepsO.execLaneInService (h : Keeps s t) {lane} : KeepsO s (execLaneInService lane t) :=
  .ite (.ok (.laneJoin (.setL h))) (.ok h)

theorem Keeps.laneFail (h : Keeps s t) {n} : Keeps s (laneFail t n) :=
  .ite (.healthChange h) (.laneLeave h)

theorem KeepsO.execLaneDown (h : Keeps s t) {lane} : KeepsO s (execLaneDown lane t) :=
  .ok (.laneFail (.setL h))

theorem KeepsO.execLaneStall (h : Keeps s t) {lane} : KeepsO s (execLaneStall lane t) :=
  .ite (.ok (.laneFail (.countF h))) (.ok h)

end

end Sys2Proof.Machine
end


section
/-! SUPPORT. What a step keeps (R280): NAND devices and their dumps. -/

namespace Sys2Proof.Machine

section
variable {s t : State}

/-! ### LOGSTATE (R306) -/

/-- Entries changed in place to values that are not the default. -/
theorem tabWf_map {α : Type} [DecidableEq α] (d : α) (f : Nat × α → Nat × α) (t : Tab α) (hkey : ∀ e, (f e).1 = e.1)
    (hne : ∀ e, (f e).2 ≠ d)
    (h : tabWf d t = true) : tabWf d (t.map f) = true := by
  induction t with
  | nil => rfl
  | cons e t ih =>
    obtain ⟨-, hlt, ht⟩ := (tabWf_cons d e t).1 h
    refine (tabWf_cons _ _ _).2 ⟨hne e, fun g hg => ?_, ih ht⟩
    obtain ⟨q, hq, rfl⟩ := List.mem_map.1 hg
    rw [hkey, hkey]
    exact hlt q hq

theorem Keeps.logCommit {n : Nat} {l : List (Nat × Nat × NBlk)} (h : Keeps s t) : Keeps s (logCommit t n l) := by
  induction n generalizing t l with
  | zero => exact h
  | succ n ih =>
    have h1 : Keeps s { t with nands := t.nands.map fun k => (k.1, { k.2 with owes := true }) } :=
      h.withNands (tabWf_map _ _ _ (fun _ => rfl) fun e he => by cases congrArg Nand.owes he)
    exact .ite (.submit h1) (ih (.submit h1))

theorem Keeps.setHead (h : Keeps s t) {d b p} : Keeps s (setHead t d b p) :=
  .setN h

/-! ### Dumps and their NAND copies -/

theorem Keeps.entryWith (h : Keeps s t) {num f} : Keeps s (entryWith t num f) := by
  unfold Machine.entryWith
  split
  · exact h
  · exact .submit h

theorem Keeps.lostDumps (h : Keeps s t) {nums} : Keeps s (lostDumps t nums) :=
  .forAll h fun _ _ hu => .entryWith hu

theorem Keeps.nandOut (h : Keeps s t) {d} : Keeps s (nandOut t d) :=
  .ite h (.ite (.healthChange h) (.healthChange (.lostDumps (.hevt (.journal (.updAll (.setN h) (by trivial)))))))

theorem Keeps.relocate (h : Keeps s t) {d b q} (hq : relocate t d b = some q) : Keeps s q.2 := by
  obtain ⟨c, -, rfl⟩ := Option.map_eq_some_iff.1 hq
  exact .logCommit (.setN (.countF (.setB h)))

theorem Keeps.moveBlock (h : Keeps s t) {d b} : Keeps s (moveBlock t d b) := by
  unfold Machine.moveBlock
  split
  next => exact h
  next hq => exact .setN (h.relocate hq)

theorem Keeps.pageLost (h : Keeps s t) {d b p} : Keeps s (pageLost t d b p) := by
  unfold Machine.pageLost
  dsimp only
  split
  · exact h
  · exact .ite h (.entryWith (.countF (.setB h)))

theorem Keeps.blockRetire (h : Keeps s t) {d b} : Keeps s (blockRetire t d b) := by
  have hmove : Keeps s ((if (getB t d b).pages.all NPage.bad then none else Machine.relocate t d b).elim t Prod.snd) := by
    split
    · exact h
    · cases hq : Machine.relocate t d b with
      | none => exact h
      | some q => exact h.relocate hq
  unfold Machine.blockRetire
  refine .ite h ?_
  exact .ite (.nandOut (.lostDumps (.hevt (.journal (.addCounter (.logCommit (.updAll (.setB hmove) (by trivial))))))))
    (.lostDumps (.hevt (.journal (.addCounter (.logCommit (.updAll (.setB hmove) (by trivial)))))))

/-! ### Mount (R314) -/

theorem Keeps.mountDev (h : Keeps s t) {d} : Keeps s (mountDev t d) :=
  .ite h (.ite (.nandOut h) (.unless (.setN h) fun hk => .logCommit hk))

theorem KeepsO.execNandMount (h : Keeps s t) : KeepsO s (execNandMount t) :=
  .ite (.ok (.updAll (.mountDev (.mountDev h)) (by trivial))) (.ok h)

/-! ### Operations (R307, R371) -/

theorem Keeps.startOp (h : Keeps s t) {d kind b p us} : Keeps s (startOp t d kind b p us) :=
  .setN h

theorem Keeps.reclaim (h : Keeps s t) : Keeps s (reclaim t) := by
  unfold Machine.reclaim
  dsimp only
  split
  · exact h
  split
  · exact h
  · exact .entryWith (.forAll h fun _ _ hu => .setN hu)

theorem Keeps.streamBlock (h : Keeps s t) : Keeps s (streamBlock t) := by
  unfold Machine.streamBlock
  split
  split
  · exact h
  split
  · exact .updAll h (by trivial)
  · exact .reclaim h
  split
  · exact .updAll h (by trivial)
  · exact .reclaim h

theorem Keeps.streamNext (h : Keeps s t) {d} : Keeps s (streamNext t d) := by
  unfold Machine.streamNext
  dsimp only
  split
  · exact .dPump h
  split
  · exact .streamBlock (.dPump h)
  · exact .when (.streamBlock (.dPump h)) fun hk => .startOp (.setSink hk)

theorem Keeps.nandIdle (h : Keeps s t) {d} : Keeps s (nandIdle t d) := by
  unfold Machine.nandIdle
  dsimp only
  split
  · exact h
  split
  · exact .startOp h
  · exact .ite h (.startOp h)
  · exact .ite (.streamNext h) h

theorem Keeps.pageDone (h : Keeps s t) {d} : Keeps s (pageDone t d) := by
  unfold Machine.pageDone
  extract_lets n x fin
  split
  · exact h
  next q _ =>
    extract_lets y s1 hank s2 hang s3 link
    have h1 : Keeps s s1 := .setB (.setN h)
    clear_value s1
    have h2 : Keeps s s2 := .updAll h1 (by trivial)
    have h3 : Keeps s s3 := .upd h2
    exact .ite (.logCommit (.setHead h3)) h3

theorem Keeps.eraseDone (h : Keeps s t) {d} : Keeps s (eraseDone t d) :=
  .logCommit (.setB (.setN h))

theorem Keeps.readDone (h : Keeps s t) {d bad} : Keeps s (readDone t d bad) :=
  .when (.setN h) fun hk => .pageLost hk

theorem Keeps.pollDone (h : Keeps s t) {d done} : Keeps s (pollDone t d done) :=
  .nandIdle (.ite h (.ite (.pageDone h) (.ite (.eraseDone h) (.readDone h))))

theorem KeepsO.execXspiStatusPoll (h : Keeps s t) {dev done} : KeepsO s (execXspiStatusPoll dev done t) :=
  .ite (.ok (.pollDone h)) (.ok h)

theorem Keeps.opFail (h : Keeps s t) {d b} : Keeps s (opFail t d b) :=
  .blockRetire (.when (.ite (.setN h) h) fun hk => .setSink hk)

theorem KeepsO.execNandBlockRetire (h : Keeps s t) {dev blk} : KeepsO s (execNandBlockRetire dev blk t) :=
  .ite (.ok (.opFail h)) (.ok h)

theorem KeepsO.execXspiOpTimeout (h : Keeps s t) {dev} : KeepsO s (execXspiOpTimeout dev t) :=
  .ite (.ok (.nandOut (.countF h))) (.ite (.ok h) (.ok (.ite (.readDone (.countF h)) (.opFail (.countF h)))))

theorem KeepsO.execXspiDqsTimeout (h : Keeps s t) {c} : KeepsO s (execXspiDqsTimeout c t) :=
  .ite (.ok h) (.ite (.ok (.readDone (.countF h))) (.ok (.setN (.countF h))))

/-! ### Wear and patrol (R308) -/

theorem KeepsO.execNandWearLevel (h : Keeps s t) {dev} : KeepsO s (execNandWearLevel dev t) := by
  unfold Machine.execNandWearLevel
  dsimp only
  split
  · split
    · exact .ok h
    · exact .ok (.moveBlock (.setN h))
  · exact .ok h

theorem KeepsO.execNandPatrol (h : Keeps s t) {dev blk page corr} : KeepsO s (execNandPatrol dev blk page corr t) :=
  .ite (.ok h) (.ite (.ok (.moveBlock (.ite (.pageLost h) h))) (.ok (.ite (.pageLost h) h)))

/-! ### MRAM banks that retire (R316) -/

theorem Keeps.bankRetire (h : Keeps s t) {b} : Keeps s (bankRetire t b) :=
  .ite (h.withHank (tabWf_filter _ _ _)) (.addCounter (h.withHank (tabWf_filter _ _ _)))

theorem Keeps.commitsEnd (h : Keeps s t) : Keeps s (commitsEnd t) :=
  .ite (.forAll (.updAll h (by trivial)) fun _ _ hu => .elim hu fun _ => .post hu) h

theorem Keeps.mramGone (h : Keeps s t) {bank} : Keeps s (mramGone t bank) :=
  .ite h (.ite (.healthChange h) (.commitsEnd (.forAll (.healthChange (.addCounter (.hevt (.journal (.bankRetire h))))) fun _ _ hu => .ite
      (.nandOut hu) hu)))

theorem KeepsO.execMramBankRetire (h : Keeps s t) {bank} : KeepsO s (execMramBankRetire bank t) :=
  .ok (.mramGone h)

theorem Keeps.faultsRetire (h : Keeps s t) : Keeps s (faultsRetire t) :=
  .forAll h fun _ _ hu => .mramGone hu

theorem Keeps.mramError (h : Keeps s t) {a} : Keeps s (mramError t a) :=
  .when (.countF (.updAll h (by trivial))) fun hk => .mramGone hk

theorem KeepsO.execCommitDurable (h : Keeps s t) : KeepsO s (execCommitDurable t) :=
  .ite (.ok (.faultsRetire (.makeDurable h))) (.ok h)

theorem Keeps.scrubbed (h : Keeps s t) {a weak} : Keeps s (scrubbed t a weak) :=
  .ite h (.faultsRetire (.hankPut (.updAll h (by trivial))))

theorem KeepsO.execMramScrub (h : Keeps s t) {bank cell} : KeepsO s (execMramScrub bank cell t) :=
  .ite (.ok (.ite (.mramError h) (.scrubbed (.addCounter h)))) (.ok h)

/-! ### HNK_PIN and the read window (R310, R317) -/

theorem Keeps.pinWrite (h : Keeps s t) {v} : Keeps s (pinWrite t v) :=
  .entryWith h

theorem KeepsO.execHnkPinWrite (h : Keeps s t) {who v} : KeepsO s (execHnkPinWrite who v t) :=
  .ite (.ok (.pinWrite h)) (.ok h)

theorem Keeps.hankRead (h : Keeps s t) {who err} : Keeps s (hankRead t who err).2 := by
  unfold Machine.hankRead
  dsimp only
  split
  split
  · exact .regPut (.updAll h (by trivial))
  split
  · exact .regPut (.updAll h (by trivial))
  · exact .nandIdle (.setN h)
  split
  · exact .regPut (.updAll h (by trivial))
  · exact .regPut (.updAll (.ite (.mramError h) h) (by trivial))

theorem KeepsO.execHnkRdDataRead (h : Keeps s t) {r} : KeepsO s (execHnkRdDataRead r t) :=
  .ite (.ok (.hankRead h)) (.ok h)

end

end Sys2Proof.Machine
end


section
/-! SUPPORT. What a step keeps (R280): start and end of a dump. -/

namespace Sys2Proof.Machine

section
variable {s t : State}

theorem Keeps.dumpSnip (h : Keeps s t) {p} : Keeps s (dumpSnip t p) :=
  .haltReq (.silentWaiter h)

theorem Keeps.dumpFinish (h : Keeps s t) {w d level flags} : Keeps s (dumpFinish t w d level flags) :=
  .upd (.elimStep (.forAll (.raiseLine (.hevt (.setRegF (.setRegF h)))) fun _ _ hu => .leaseEnd hu) fun hk _ => .giveUp hk)

theorem Keeps.dumpCommitted (h : Keeps s t) {w body} : Keeps s (dumpCommitted t w body) := by
  unfold Machine.dumpCommitted
  split
  · exact h
  · exact .ite (.dumpFinish h) h

theorem Keeps.dumpAbort (h : Keeps s t) {w d} : Keeps s (dumpAbort t w d) :=
  .upd (.elim h fun _ => .giveUp h)

theorem KeepsO.execDumpTimeout (h : Keeps s t) : KeepsO s (execDumpTimeout t) := by
  unfold Machine.execDumpTimeout
  split
  · exact .ite (.ok (.dumpAbort h)) (.ok h)
  · exact .ok h

theorem KeepsO.execWhorlOut (h : Keeps s t) {w} : KeepsO s (execWhorlOut w t) :=
  .ite (.ok h) (.ite (.ok (.healthChange h)) (.ok (.whorlOut h)))

end

end Sys2Proof.Machine
end


section
/-! SUPPORT. What a step keeps (R280): instructions that the Whorl completes itself. -/

namespace Sys2Proof.Machine

section
variable {s t : State}

/-! ### Fetch and stalls -/

theorem KeepsO.insn (h : Keeps s t) {w : Nat} {rs : List Nat} {f : Whorl → State} (hf : ∀ x : Whorl, KeepsW s w x → Keeps s (f x)) :
    KeepsO s (insn t w rs f) :=
  .ite (.ok h) (.ite (.ok (.whorlFault h)) (.ite (.ok h) (.ok (hf _ (.getW h)))))

theorem Keeps.setD (h : Keeps s t) {w d x v} (hx : KeepsW s w x) : Keeps s (setD t w d x v) :=
  .setW h (.advance (.setG hx))

/-! ### ALU (Table 9.9) -/

theorem KeepsO.execAlu (h : Keeps s t) {w fn d a b} : KeepsO s (execAlu w fn d a b t) :=
  .insn h fun _ hx => .setD h hx

theorem KeepsO.execAddi (h : Keeps s t) {w d a imm} : KeepsO s (execAddi w d a imm t) :=
  .insn h fun _ hx => .setD h hx

theorem KeepsO.execAndi (h : Keeps s t) {w d a imm} : KeepsO s (execAndi w d a imm t) :=
  .insn h fun _ hx => .setD h hx

theorem KeepsO.execOri (h : Keeps s t) {w d a imm} : KeepsO s (execOri w d a imm t) :=
  .insn h fun _ hx => .setD h hx

theorem KeepsO.execXori (h : Keeps s t) {w d a imm} : KeepsO s (execXori w d a imm t) :=
  .insn h fun _ hx => .setD h hx

theorem KeepsO.execSlti (h : Keeps s t) {w d a imm} : KeepsO s (execSlti w d a imm t) :=
  .insn h fun _ hx => .setD h hx

theorem KeepsO.execSltiu (h : Keeps s t) {w d a imm} : KeepsO s (execSltiu w d a imm t) :=
  .insn h fun _ hx => .setD h hx

theorem KeepsO.execInsh (h : Keeps s t) {w d lane imm} : KeepsO s (execInsh w d lane imm t) :=
  .insn h fun _ hx => .setD h hx

/-! ### Branches and jumps (R254) -/

theorem Keeps.branch (h : Keeps s t) {w x taken imm} (hx : KeepsW s w x) : Keeps s (branch t w x taken imm) :=
  .setW h (.upd hx)

theorem KeepsO.execBeq (h : Keeps s t) {w d a imm} : KeepsO s (execBeq w d a imm t) :=
  .insn h fun _ hx => .branch h hx

theorem KeepsO.execBne (h : Keeps s t) {w d a imm} : KeepsO s (execBne w d a imm t) :=
  .insn h fun _ hx => .branch h hx

theorem KeepsO.execBlt (h : Keeps s t) {w d a imm} : KeepsO s (execBlt w d a imm t) :=
  .insn h fun _ hx => .branch h hx

theorem KeepsO.execBge (h : Keeps s t) {w d a imm} : KeepsO s (execBge w d a imm t) :=
  .insn h fun _ hx => .branch h hx

theorem KeepsO.execBltu (h : Keeps s t) {w d a imm} : KeepsO s (execBltu w d a imm t) :=
  .insn h fun _ hx => .branch h hx

theorem KeepsO.execBgeu (h : Keeps s t) {w d a imm} : KeepsO s (execBgeu w d a imm t) :=
  .insn h fun _ hx => .branch h hx

theorem KeepsO.execJ (h : Keeps s t) {w off} : KeepsO s (execJ w off t) :=
  .insn h fun _ hx => .setW h (.upd hx)

theorem KeepsO.execJal (h : Keeps s t) {w off} : KeepsO s (execJal w off t) :=
  .insn h fun _ hx => .setW h (.upd (.setG hx))

/-! ### SYS (Table 9.10) -/

theorem KeepsO.execNop (h : Keeps s t) {w} : KeepsO s (execNop w t) :=
  .insn h fun _ hx => .setW h (.advance hx)

theorem KeepsO.execJr (h : Keeps s t) {w a} : KeepsO s (execJr w a t) :=
  .insn h fun _ hx => .setW h (.upd hx)

theorem KeepsO.execJalr (h : Keeps s t) {w d a} : KeepsO s (execJalr w d a t) :=
  .insn h fun _ hx => .setW h (.upd (.setG hx))

theorem KeepsO.execRdtime (h : Keeps s t) {w d} : KeepsO s (execRdtime w d t) :=
  .insn h fun _ hx => .setD h hx

theorem KeepsO.execTset (h : Keeps s t) {w t' a} : KeepsO s (execTset w t' a t) :=
  .insn h fun _ hx => .setW h (.advance (.setTimer hx))

theorem KeepsO.execTclr (h : Keeps s t) {w t'} : KeepsO s (execTclr w t' t) :=
  .insn h fun _ hx => .setW h (.advance (.setTimer hx))

theorem KeepsO.execTrd (h : Keeps s t) {w d t'} : KeepsO s (execTrd w d t' t) :=
  .insn h fun _ hx => .setD h hx

theorem KeepsO.execSetdl (h : Keeps s t) {w a} : KeepsO s (execSetdl w a t) :=
  .insn h fun _ hx => .setW h (.advance (.upd hx))

theorem KeepsO.execRddl (h : Keeps s t) {w d} : KeepsO s (execRddl w d t) :=
  .insn h fun _ hx => .setD h hx

theorem KeepsO.execTkst (h : Keeps s t) {w d a} : KeepsO s (execTkst w d a t) :=
  .insn h fun _ hx => .setD h hx

theorem KeepsO.execTkfree (h : Keeps s t) {w a} : KeepsO s (execTkfree w a t) :=
  .insn h fun _ hx => .ite h (.setW h (.advance (.setTk hx)))

theorem KeepsO.execTkpend (h : Keeps s t) {w d} : KeepsO s (execTkpend w d t) :=
  .insn h fun _ hx => .setD h hx

theorem KeepsO.execWhoami (h : Keeps s t) {w d} : KeepsO s (execWhoami w d t) :=
  .insn h fun _ hx => .setD h hx

theorem KeepsO.execStopw (h : Keeps s t) {w} : KeepsO s (execStopw w t) :=
  .insn h fun _ hx => .whorlStop (.setW h (.advance hx))

/-! ### Fences (R251) -/

theorem Keeps.fence (h : Keeps s t) {w d p x} (hx : KeepsW s w x) : Keeps s (fence t w d p x) :=
  .ite h (.setD h hx)

theorem KeepsO.execFenceAg (h : Keeps s t) {w d} : KeepsO s (execFenceAg w d t) :=
  .insn h fun _ hx => .fence h hx

theorem KeepsO.execFenceAll (h : Keeps s t) {w d} : KeepsO s (execFenceAll w d t) :=
  .insn h fun _ hx => .fence h hx

/-! ### Set registers (Table 9.11) -/

theorem KeepsO.execSmk (h : Keeps s t) {w sd ga gb} : KeepsO s (execSmk w sd ga gb t) :=
  .insn h fun _ hx => .setW h (.advance (.setSr hx))

theorem KeepsO.execSmv (h : Keeps s t) {w sd sa} : KeepsO s (execSmv w sd sa t) :=
  .insn h fun _ hx => .setW h (.advance (.setSr hx))

theorem KeepsO.execSeng (h : Keeps s t) {w sd sa gb} : KeepsO s (execSeng w sd sa gb t) :=
  .insn h fun _ hx => .setW h (.advance (.setSr hx))

theorem KeepsO.execSrd (h : Keeps s t) {w sa ga gb} : KeepsO s (execSrd w sa ga gb t) :=
  .insn h fun _ hx => .setD h (.setG hx)

/-! ### Waiting (R248, R249) -/

theorem Keeps.reportItem (h : Keeps s t) {w d x x4} (hx : KeepsW s w x) : Keeps s (reportItem t w d x x4) := by
  unfold Machine.reportItem
  split
  · exact .setD h (.setTk hx)
  · exact .setPend (.setD h hx)
  · exact .setD h (.setTimer hx)

theorem KeepsO.execWait (h : Keeps s t) {w d a b tm} : KeepsO s (execWait w d a b tm t) := by
  unfold Machine.execWait
  refine .insn h fun _ hx => ?_
  split
  · exact .reportItem h hx
  · exact .ite h (.setD h hx)

theorem KeepsO.execPoll (h : Keeps s t) {w d a b tm} : KeepsO s (execPoll w d a b tm t) := by
  unfold Machine.execPoll
  refine .insn h fun _ hx => ?_
  split
  · exact .reportItem h hx
  · exact .setD h hx

/-! ### Event lines (R246) -/

theorem KeepsO.execEvset (h : Keeps s t) {w b} : KeepsO s (execEvset w b t) :=
  .insn h fun _ hx => .raiseLines (.setW h (.advance hx))

theorem KeepsO.execEvclr (h : Keeps s t) {w b} : KeepsO s (execEvclr w b t) :=
  .insn h fun _ hx => .setPend (.setW h (.advance hx))

theorem KeepsO.execEvrd (h : Keeps s t) {w d} : KeepsO s (execEvrd w d t) :=
  .insn h fun _ hx => .setD h hx

end

end Sys2Proof.Machine
end


section
/-! SUPPORT. What a step keeps (R280): instructions with a ticket. -/

namespace Sys2Proof.Machine

section
variable {s t : State}

/-! ### Operand buffers (R237, R267, R414) -/

theorem Keeps.withBuf (h : Keeps s t) {go} (h1 : Keeps s go) {w a bad} : Keeps s (withBuf t w a bad go) := by
  unfold Machine.withBuf
  split
  · exact .whorlFault h
  · exact h1

/-! ### Issue (R239, R240, R267, R268) -/

theorem Keeps.issue (h : Keeps s t) {w d x kind bad now result chan lease act} (hx : KeepsW s w x)
    (hf : ∀ a0 a1 a2, Keeps s a0 → Keeps s (act a0 a1 a2)) : Keeps s (issue t w d x kind bad now result chan lease act) := by
  unfold Machine.issue
  split
  · exact .setW h (.advance (.setG (.upd hx)))
  · exact .unless (.setW (.upd h) (.advance (.setG (.setTk hx)))) fun hk => hf _ _ _ hk

/-! ### Agent operations (R252, R270 to R272) -/

theorem Keeps.agentIssue (h : Keeps s t) {w d x kind set bad result lease mk type reg} (hx : KeepsW s w x) : Keeps s
    (agentIssue t w d x kind set bad result lease mk type reg) :=
  .issue h hx fun _ _ _ hu => .issueOp hu

theorem KeepsO.execAgw (h : Keeps s t) {w d sa b reg} : KeepsO s (execAgw w d sa b reg t) :=
  .insn h fun _ hx => .agentIssue h hx

theorem KeepsO.execAgr (h : Keeps s t) {w d sa b reg red} : KeepsO s (execAgr w d sa b reg red t) :=
  .insn h fun _ hx => .withBuf h (.agentIssue h hx)

theorem KeepsO.execAgrLm (h : Keeps s t) {w d sa b rd} : KeepsO s (execAgrLm w d sa b rd t) :=
  .insn h fun _ hx => .withBuf h (.agentIssue h hx)

/-! ### Comparators and taps (R276, R277) -/

theorem KeepsO.execTrig (h : Keeps s t) {w d sa b n} : KeepsO s (execTrig w d sa b n t) :=
  .insn h fun _ hx => .ite (.whorlFault h) (.agentIssue h hx)

theorem KeepsO.execTap (h : Keeps s t) {w d sa b j} : KeepsO s (execTap w d sa b j t) :=
  .insn h fun _ hx => .withBuf h (.agentIssue h hx)

theorem KeepsO.execTapr (h : Keeps s t) {w d sa b j} : KeepsO s (execTapr w d sa b j t) :=
  .insn h fun _ hx => .agentIssue h hx

theorem KeepsO.execTapc (h : Keeps s t) {w d sa j} : KeepsO s (execTapc w d sa j t) :=
  .insn h fun _ hx => .agentIssue h hx

/-! ### Run control (R273 to R275) -/

theorem KeepsO.execHalt (h : Keeps s t) {w d a} : KeepsO s (execHalt w d a t) :=
  .insn h fun _ hx => .issue h hx fun _ _ _ hu1 => .haltReq hu1

theorem Keeps.armPlanned (h : Keeps s t) {p anchor step opId} : Keeps s (armPlanned t p anchor step opId) :=
  .setP h

theorem KeepsO.execHaltPlanned (h : Keeps s t) {w d a b region} : KeepsO s (execHaltPlanned w d a b region t) :=
  .insn h fun _ hx => .issue h hx fun _ _ _ hu1 => .armPlanned hu1

theorem KeepsO.execRun (h : Keeps s t) {w d a} : KeepsO s (execRun w d a t) :=
  .insn h fun _ hx => .issue h hx fun _ _ _ hu1 => .runReq hu1

theorem KeepsO.execStep (h : Keeps s t) {w d a b} : KeepsO s (execStep w d a b t) :=
  .insn h fun _ hx => .issue h hx fun _ _ _ hu1 => .stepReq hu1

theorem KeepsO.execSnip (h : Keeps s t) {w d a} : KeepsO s (execSnip w d a t) :=
  .insn h fun _ hx => .issue h hx fun _ _ _ hu1 => .haltReq hu1

/-! ### Records and commits (R278, R279) -/

theorem Keeps.emitPut (h : Keeps s t) {id r} : Keeps s (emitPut t id r) :=
  .ite (.upd h) (.upd h)

theorem KeepsO.execEmit (h : Keeps s t) {w d a b cls units} : KeepsO s (execEmit w d a b cls units t) :=
  .insn h fun _ hx => .ite (.whorlFault h) (.withBuf h (.issue h hx fun _ _ _ hu1 => .emitPut hu1))

theorem KeepsO.execCommit (h : Keeps s t) {w d a b area} : KeepsO s (execCommit w d a b area t) :=
  .insn h fun _ hx => .withBuf h (.issue h hx fun _ _ _ hu1 => .when (.submit hu1) fun hk => .dumpCommitted hk)

/-! ### Leases (R280, R284) -/

theorem KeepsO.execRelease (h : Keeps s t) {w d a} : KeepsO s (execRelease w d a t) :=
  .insn h fun _ _ => .setD (.leaseEnd h) (.getW (.leaseEnd h))

/-! ### Messages (R285, R286) -/

theorem KeepsO.execSend (h : Keeps s t) {w d a b units} : KeepsO s (execSend w d a b units t) :=
  .insn h fun _ hx => .withBuf h (.issue h hx fun _ _ _ hu1 => .chSend (.setC hu1))

theorem KeepsO.execRecv (h : Keeps s t) {w d a b units} : KeepsO s (execRecv w d a b units t) :=
  .insn h fun _ hx => .withBuf h (.issue h hx fun _ _ _ hu1 => .setC hu1)

end

end Sys2Proof.Machine
end


section
/-! SUPPORT. What a step keeps (R280): indirect agent access. -/

namespace Sys2Proof.Machine

section
variable {s t : State}

theorem Keeps.setAgaReg (h : Keeps s t) {who o v} : Keeps s (setAgaReg t who o v) :=
  .regPut h

/-! ### The operation (Tables 14.6 and 14.7) -/

theorem Keeps.agaFinish (h : Keeps s t) {who st count result win} : Keeps s (agaFinish t who st count result win) :=
  .setAgaReg (.ite (.elim h fun _ => .setAgaReg h) h)

theorem Keeps.agaNext {n : Nat} (h : Keeps s t) : Keeps s (agaNext n t) := by
  induction n generalizing t with
  | zero => exact h
  | succ n ih =>
    unfold Machine.agaNext
    split
    · dsimp only
      split
      · exact ih (.agaFinish (.upd h))
      · exact .issueOp (.upd h)
    · exact h

theorem Keeps.agaRun (h : Keeps s t) : Keeps s (agaRun t) :=
  .agaNext h

theorem Keeps.agaGo (h : Keeps s t) {who v} : Keeps s (agaGo t who v) :=
  .ite h (.ite (.setAgaReg h) (.agaRun (.upd (.setAgaReg h))))

theorem KeepsO.agaRow (h : Keeps s t) {who v op} : KeepsO s (agaRow t who v op) :=
  .ite (.ok (.agaGo h)) (.ok h)

theorem KeepsO.execAgaAgentWrite (h : Keeps s t) {who v} : KeepsO s (execAgaAgentWrite who v t) :=
  .agaRow h

theorem KeepsO.execAgaAgentRead (h : Keeps s t) {who v} : KeepsO s (execAgaAgentRead who v t) :=
  .agaRow h

theorem KeepsO.execAgaLmWrite (h : Keeps s t) {who v} : KeepsO s (execAgaLmWrite who v t) :=
  .agaRow h

theorem KeepsO.execAgaLmRead (h : Keeps s t) {who v} : KeepsO s (execAgaLmRead who v t) :=
  .agaRow h

theorem KeepsO.execAgaCregRead (h : Keeps s t) {who v} : KeepsO s (execAgaCregRead who v t) :=
  .agaRow h

theorem KeepsO.execAgaCregWrite (h : Keeps s t) {who v} : KeepsO s (execAgaCregWrite who v t) :=
  .agaRow h

theorem Keeps.agaFree (h : Keeps s t) : Keeps s (agaFree t) :=
  .agaRun (.upd h)

theorem KeepsO.execAgaComplete (h : Keeps s t) : KeepsO s (execAgaComplete t) := by
  unfold Machine.execAgaComplete
  split
  · exact .ok (.agaFree (.agaFinish (.forget (.putMem h))))
  · exact .ok h

theorem KeepsO.execAgaTimeout (h : Keeps s t) : KeepsO s (execAgaTimeout t) := by
  unfold Machine.execAgaTimeout
  split
  · exact .ok h
  · exact .ite (.ok (.agaFree (.agaFinish (.giveUp h)))) (.ok h)

end

end Sys2Proof.Machine
end


section
/-! SUPPORT. What a step keeps (R280): commands of the trace buffer. -/

namespace Sys2Proof.Machine

section
variable {s t : State}

theorem Keeps.bankGone (h : Keeps s t) {bank} : Keeps s (bankGone t bank) :=
  .ite h (.ite (.healthChange h) (.healthChange (.hevt (.retireBank h))))

theorem Keeps.bankError (h : Keeps s t) {bank} : Keeps s (bankError t bank) :=
  .when (.updAll h (by trivial)) fun hk => .bankGone hk

theorem Keeps.bufRead (h : Keeps s t) {who} : Keeps s (bufRead t who).2 := by
  unfold Machine.bufRead
  dsimp only
  split
  · exact .elimStep (.regPut h) fun hk _ => .bankError (.countF hk)
  · exact .regPut h

theorem KeepsO.execBufferModeWrite (h : Keeps s t) {who v} : KeepsO s (execBufferModeWrite who v t) :=
  .ite (.ok (.bufferMode h)) (.ok h)

theorem Keeps.swTrigger (h : Keeps s t) : Keeps s (swTrigger t) :=
  .fireTrigger (.ite (.upd h) h)

theorem KeepsO.execTrcWinFire (h : Keeps s t) {who} : KeepsO s (execTrcWinFire who t) :=
  .ite (.ok (.swTrigger h)) (.ok h)

theorem Keeps.markBad (h : Keeps s t) {who} : Keeps s (markBad t who) :=
  .ite h (.updAll h (by trivial))

theorem KeepsO.execTrcBufRdataRead (h : Keeps s t) {r} : KeepsO s (execTrcBufRdataRead r t) :=
  .ite (.ok (.bufRead (.ite (.markBad h) h))) (.ok h)

theorem KeepsO.execBufferBankRetire (h : Keeps s t) {bank} : KeepsO s (execBufferBankRetire bank t) :=
  .ok (.bankGone h)

end

end Sys2Proof.Machine
end


section
/-! SUPPORT. What a step keeps (R280): the host window. -/

namespace Sys2Proof.Machine

section
variable {s t : State}

/-! ### Reads (R12, R379) -/

theorem Keeps.readClears (h : Keeps s t) {who o} : Keeps s (readClears t who o) :=
  .ite (.setP h) (.ite (.setR h) (.ite (.setW h (.upd (.getW h))) (.ite (.upd h) h)))

theorem Keeps.regRead (h : Keeps s t) {who o} : Keeps s (regRead t who o).2 := by
  unfold Machine.regRead
  split
  · exact h
  split
  · exact .bufRead h
  split
  · exact .hankRead h
  split
  · exact .lsAccess h
  · exact .readClears (.regPut h)

/-! ### Writes (R12, R379) -/

theorem Keeps.plainWrite (h : Keeps s t) {who o v} : Keeps s (plainWrite t who o v) := by
  unfold Machine.plainWrite
  split
  · exact h
  · exact .regPut h

theorem Keeps.after (h : Keeps s t) {o} (ho : KeepsO s o) : Keeps s (after t o) := by
  unfold Machine.after
  split
  · exact ho _ rfl
  · exact h

theorem Keeps.whlCtrl (h : Keeps s t) {who n v} : Keeps s (whlCtrl t who n v) :=
  .ite (.resetFrom h) (.ite (.whorlStop h) (.ite (.whorlStart h) (.ite (.whorlLoad h) h)))

theorem Keeps.prtCmd (h : Keeps s t) {who v} : Keeps s (prtCmd t who v) := by
  unfold Machine.prtCmd
  split
  · exact .after h (.execPrtCmdHalt h)
  · exact .after h (.execPrtCmdRun h)
  · exact .after h (.execPrtCmdStep h)
  · exact .after h (.execPrtCmdSnip h)
  · exact h

theorem Keeps.evtWrite (h : Keeps s t) {who o v} : Keeps s (evtWrite t who o v) :=
  .ite (.setPend h) (.ite (.irqUpdate (.setReg h)) (.ite (.raiseLines h)
      (.ite (.withEvCut h (tabWf_tput _ _ _ _)) (.ite (.withEvXt h (tabWf_tput _ _ _ _)) h))))

theorem Keeps.rgtWrite (h : Keeps s t) {who o v} : Keeps s (rgtWrite t who o v) :=
  .ite (.ite (.bootRelease h) h) (.ite (.ite (.after h (.execRgtChalNew h)) h)
      (.ite (.upd h) (.ite (.after h (.execRgtRespSubmit h))
          (.ite (.after h (.execRgtUnlockWrite h)) (.ite (.after h (.execRgtPolicyWrite h)) (.plainWrite h))))))

theorem Keeps.ihbWrite (h : Keeps s t) {who o v} : Keeps s (ihbWrite t who o v) :=
  .ite (.when (.plainWrite h) fun hk => .after hk (.execTimMeasure hk))
      (.ite (.after h (.execIhbIdWrite h)) (.ite (.ite (.after h (.execIhbElect h)) h) (.plainWrite h)))

theorem Keeps.hnkWrite (h : Keeps s t) {who o v} : Keeps s (hnkWrite t who o v) :=
  .ite (.hngWrite h) (.ite (.ite (.after h (.execDmpReq h)) h) (.ite (.pinWrite h) (.plainWrite h)))

theorem Keeps.settleTokens (h : Keeps s t) : Keeps s (settleTokens t) :=
  .upd h

theorem Keeps.cntWrite (h : Keeps s t) {who o v} : Keeps s (cntWrite t who o v) :=
  .ite (.upd (.plainWrite h)) (.when (.plainWrite h) fun hk => .upd hk)

theorem Keeps.regWrite (h : Keeps s t) {who o v} : Keeps s (regWrite t who o v) := by
  unfold Machine.regWrite
  split
  · exact .rgtWrite h
  · exact .rgtWrite h
  · exact .ite (.after h (.execPrtMapWrite h)) (.ite (.prtCmd h) (.ite (.setP h) (.plainWrite h)))
  · exact .ihbWrite h
  · exact .ihbWrite h
  · exact .ite h (.ite (.whlCtrl h) (.ite (.lsAccess h) (.plainWrite h)))
  · exact .evtWrite h
  · exact .ite (.bufferMode h) (.ite (.ite (.swTrigger h) h) (.when (.plainWrite h) fun hk => .spillRead hk))
  · exact .when (.plainWrite h) fun hk => .laneEnable hk
  · exact .cntWrite h
  · exact .hnkWrite h
  · exact .ite (.setCareful h) (.ite (.agaGo h) (.plainWrite h))
  · exact .ite (.accWrite h) (.ite (.plainWrite (.settleTokens h)) (.plainWrite h))
  · exact .plainWrite h

/-! ### The whole window (R354, R356, R378, R414) -/

theorem Keeps.winRead (h : Keeps s t) {who o} : Keeps s (winRead t who o).2.2 := by
  unfold Machine.winRead
  split
  split
  · exact .regRead h
  · exact h
  split
  split
  · exact h
  · exact h
  split
  · split
    · exact h
    · exact h
  · exact h

theorem Keeps.mailWrite (h : Keeps s t) {o v} : Keeps s (mailWrite t o v) :=
  .ite (.raiseLine h) (.ite (.raiseLine h) (.withMail h (memWf_writeLe _ _ _ _)))

theorem Keeps.winWrite (h : Keeps s t) {who o v strb} : Keeps s (winWrite t who o v strb).2 := by
  unfold Machine.winWrite
  dsimp only
  split
  split
  · exact h
  split
  · exact h
  · exact .regWrite h
  split
  split
  · exact h
  split
  · exact .mailWrite h
  · exact h
  split
  · split
    · exact .withHubMem h (memWf_writeLe _ _ _ _)
    · exact h
  · exact h

theorem KeepsO.execRegisterWrite (h : Keeps s t) {who off v} : KeepsO s (execRegisterWrite who off v t) :=
  .ite (.ok (.winWrite h)) (.ok h)

theorem KeepsO.execEvtRaise (h : Keeps s t) {who v} : KeepsO s (execEvtRaise who v t) :=
  .ite (.ok (.raiseLines h)) (.ok h)

end

end Sys2Proof.Machine
end


section
/-! SUPPORT. What a step keeps (R280): loads and stores of a Whorl. -/

namespace Sys2Proof.Machine

section
variable {s t : State}

theorem Keeps.loadAt (h : Keeps s t) {w x a n r} (hr : loadAt t w x a n = .inr r) : Keeps s r.2 := by
  unfold Machine.loadAt at hr
  split at hr
  · cases hr
  split at hr
  · split at hr
    · cases hr
    dsimp only at hr
    split at hr <;> cases hr
    exact .winRead h
  split at hr
  · split at hr <;> cases hr
    exact h
  split at hr
  · cases hr
    exact h
  split at hr <;> cases hr
  exact h

theorem Keeps.storeAt (h : Keeps s t) {w a n v u} (hu : storeAt t w a n v = .inr u) : Keeps s u := by
  unfold Machine.storeAt at hu
  dsimp only at hu
  split at hu
  · cases hu
  split at hu
  · split at hu
    · cases hu
    split at hu <;> cases hu
    exact .winWrite h
  split at hu
  · split at hu <;> cases hu
    exact h.withHubMem (memWf_writeLe _ _ _ _)
  split at hu <;> cases hu
  exact .setW h ((KeepsW.getW h).withLs (memWf_writeLe _ _ _ _))

theorem Keeps.loadInsn (h : Keeps s t) {w d a n imm x} : Keeps s (loadInsn t w d a n imm x) := by
  unfold Machine.loadInsn
  dsimp only
  split
  next => exact .whorlFault h
  next hr => exact .setD (h.loadAt hr) (.getW (h.loadAt hr))

theorem Keeps.storeInsn (h : Keeps s t) {w d a n imm x} (hx : KeepsW s w x) : Keeps s (storeInsn t w d a n imm x) := by
  unfold Machine.storeInsn
  dsimp only
  split
  next => exact .whorlFault h
  next hu => exact Keeps.storeAt (.setW h (.advance hx)) hu

theorem KeepsO.execLd8 (h : Keeps s t) {w d a imm} : KeepsO s (execLd8 w d a imm t) :=
  .insn h fun _ _ => .loadInsn h

theorem KeepsO.execLd4 (h : Keeps s t) {w d a imm} : KeepsO s (execLd4 w d a imm t) :=
  .insn h fun _ _ => .loadInsn h

theorem KeepsO.execLd2 (h : Keeps s t) {w d a imm} : KeepsO s (execLd2 w d a imm t) :=
  .insn h fun _ _ => .loadInsn h

theorem KeepsO.execLd1 (h : Keeps s t) {w d a imm} : KeepsO s (execLd1 w d a imm t) :=
  .insn h fun _ _ => .loadInsn h

theorem KeepsO.execSt8 (h : Keeps s t) {w d a imm} : KeepsO s (execSt8 w d a imm t) :=
  .insn h fun _ hx => .storeInsn h hx

theorem KeepsO.execSt4 (h : Keeps s t) {w d a imm} : KeepsO s (execSt4 w d a imm t) :=
  .insn h fun _ hx => .storeInsn h hx

theorem KeepsO.execSt2 (h : Keeps s t) {w d a imm} : KeepsO s (execSt2 w d a imm t) :=
  .insn h fun _ hx => .storeInsn h hx

theorem KeepsO.execSt1 (h : Keeps s t) {w d a imm} : KeepsO s (execSt1 w d a imm t) :=
  .insn h fun _ hx => .storeInsn h hx

/-! ### Set registers in memory (R252) -/

theorem KeepsO.execSld (h : Keeps s t) {w sd ga} : KeepsO s (execSld w sd ga t) := by
  unfold Machine.execSld
  refine .insn h fun _ hx => ?_
  split
  · exact .whorlFault h
  · exact .setW h (.advance (.setSr hx))

theorem Keeps.storeSet (h : Keeps s t) {w a v u} (hu : storeSet t w a v = .inr u) : Keeps s u := by
  unfold Machine.storeSet at hu
  split at hu
  · cases hu
  · cases hu
  next h1 => exact (h.storeAt h1).storeAt hu

theorem KeepsO.execSst (h : Keeps s t) {w sa ga} : KeepsO s (execSst w sa ga t) := by
  refine .insn h fun x hx => ?_
  split
  next => exact .whorlFault h
  next hu => exact Keeps.storeSet (.setW h (.advance hx)) hu

end

end Sys2Proof.Machine
end


section
/-! SUPPORT. What a step keeps (R280): two-wire port and host port. -/

namespace Sys2Proof.Machine

section
variable {s t : State}

/-! ### Answers of the two-wire port (Table 13.4) -/

theorem Keeps.twpSay (h : Keeps s t) {ack data} : Keeps s (twpSay t ack data) :=
  .upd h

theorem Keeps.twpFault (h : Keeps s t) {cause} : Keeps s (twpFault t cause) :=
  .twpSay (.setRegF (.setRegF h))

theorem Keeps.twpReject (h : Keeps s t) : Keeps s (twpReject t) :=
  .twpSay (.countF h)

theorem Keeps.twpDrop (h : Keeps s t) : Keeps s (twpDrop t) :=
  .upd h

theorem KeepsO.twpHeader (h : Keeps s t) {go} (h1 : Keeps s go) : KeepsO s (twpHeader t go) :=
  .ite (.ok h) (.ite (.ok (.twpReject h)) (.ok h1))

/-! ### Line reset and activation (R344) -/

theorem KeepsO.execTwpLineReset (h : Keeps s t) : KeepsO s (execTwpLineReset t) :=
  .ite (.ok h) (.ok (.upd (.setLevel (.setRegF (.twpDrop h)))))

theorem KeepsO.execTwpActivate (h : Keeps s t) : KeepsO s (execTwpActivate t) :=
  .ite (.ok h) (.ok (.upd h))

/-! ### Reads (R345, R348, R349) -/

theorem Keeps.twpAgain (h : Keeps s t) : Keeps s (twpAgain t) := by
  unfold Machine.twpAgain
  split
  · exact .twpSay h
  · exact .twpSay h
  · exact .twpSay h

theorem Keeps.twpRead (h : Keeps s t) {op addr eff zero} : Keeps s (twpRead t op addr eff zero) := by
  unfold Machine.twpRead
  dsimp only
  split
  · exact .twpAgain h
  split
  · exact .twpSay h
  split
  · exact .twpFault (.twpDrop h)
  split
  · exact .twpFault (.twpDrop h)
  split
  · exact .twpSay (.upd (.twpDrop h))
  · exact .twpFault (.upd (.twpDrop h))
  · exact .twpFault (.upd (.twpDrop h))

theorem KeepsO.execTwpRd (h : Keeps s t) {addr} : KeepsO s (execTwpRd addr t) :=
  .twpHeader h (.twpRead h)

theorem KeepsO.execTwpRdn (h : Keeps s t) {addr} : KeepsO s (execTwpRdn addr t) :=
  .twpHeader h (.twpRead h)

theorem KeepsO.execTwpReadComplete (h : Keeps s t) {done} : KeepsO s (execTwpReadComplete done t) :=
  .ite (.ok h) (.ite (.ok (.upd (.setRegF (.setRegF h)))) (.ite (.ok (.upd (.winRead h))) (.ok (.upd (.setRegF (.setRegF h))))))

/-! ### Writes (R347, R349) -/

theorem Keeps.twpWrite (h : Keeps s t) {eff zero data crc} : Keeps s (twpWrite t eff zero data crc) := by
  unfold Machine.twpWrite
  refine .ite (.twpSay h) (.ite (.twpFault (.twpDrop h)) (.ite (.twpFault (.twpDrop h)) ?_))
  dsimp only
  split
  · exact .ite (.twpSay (.winWrite (.upd (.twpDrop h)))) (.twpFault (.countF (.upd (.twpDrop h))))
  · exact .twpFault (.upd (.twpDrop h))
  · exact .twpFault (.upd (.twpDrop h))

theorem KeepsO.execTwpWr (h : Keeps s t) {addr data crc} : KeepsO s (execTwpWr addr data crc t) :=
  .twpHeader h (.twpWrite h)

theorem KeepsO.execTwpWrn (h : Keeps s t) {addr data crc} : KeepsO s (execTwpWrn addr data crc t) :=
  .twpHeader h (.twpWrite h)

/-! ### STATUS, ABORT and what is not answered (R347 to R350) -/

theorem Keeps.twpOther (h : Keeps s t) : Keeps s (twpOther t) :=
  .ite h (.twpDrop h)

theorem KeepsO.execTwpStatus (h : Keeps s t) {addr} : KeepsO s (execTwpStatus addr t) :=
  .twpHeader h (.ite (.twpFault (.twpOther h)) (.twpSay (.regRead (.twpOther h))))

theorem KeepsO.execTwpAbort (h : Keeps s t) {addr} : KeepsO s (execTwpAbort addr t) :=
  .twpHeader h (.ite (.twpFault (.twpOther h)) (.twpSay (.twpDrop (.setRegF (.upd (.ite (.countLate (.winRead h)) h))))))

theorem KeepsO.execTwpRequestTimeout (h : Keeps s t) : KeepsO s (execTwpRequestTimeout t) :=
  .ite (.ok h) (.ok (.countF h))

theorem KeepsO.execTwpHeaderReject (h : Keeps s t) {hdr} : KeepsO s (execTwpHeaderReject hdr t) :=
  .ite (.ok h) (.twpHeader h (.ite (.twpReject h) (.ite (.twpSay h) (.twpFault (.twpDrop h)))))

/-! ### Doorbells (R356, Table 13.7) -/

theorem KeepsO.execTwpDoor (h : Keeps s t) {v} : KeepsO s (execTwpDoor v t) :=
  .ite (.ok (.raiseLine h)) (.ok h)

theorem KeepsO.execHostDoor (h : Keeps s t) {v} : KeepsO s (execHostDoor v t) :=
  .ite (.ok (.raiseLine h)) (.ok h)

/-! ### Host register port (R352 to R355) -/

theorem Keeps.hostAnswer (h : Keeps s t) {wr code data wait} : Keeps s (hostAnswer t wr code data wait) :=
  .upd h

theorem KeepsO.execHostRequest (h : Keeps s t) {wr addr strb data cls tenant} : KeepsO s (execHostRequest wr addr strb data cls tenant t) :=
    by
  unfold Machine.execHostRequest
  dsimp only
  split
  · exact .ok h
  split
  · exact .ok (.hostAnswer h)
  split
  · exact .ok (.hostAnswer (.countF h))
  split
  · exact .ok (.hostAnswer h)
  · exact .ite (.ok (.hostAnswer (.winWrite h))) (.ok (.hostAnswer (.winRead h)))

theorem KeepsO.execHostAccessTimeout (h : Keeps s t) : KeepsO s (execHostAccessTimeout t) := by
  unfold Machine.execHostAccessTimeout
  split
  · exact .ok h
  · exact .ite (.ok h) (.ok (.upd (.countF h)))

theorem KeepsO.execHostResponseStall (h : Keeps s t) : KeepsO s (execHostResponseStall t) :=
  .ite (.ok (.raiseLine (.upd h))) (.ok h)

theorem KeepsO.execHostResponseTake (h : Keeps s t) : KeepsO s (execHostResponseTake t) :=
  .ite (.ok (.hostGive (.upd h))) (.ok h)

theorem KeepsO.execHostPortReset (h : Keeps s t) : KeepsO s (execHostPortReset t) :=
  .ok (.resyncQueue (.upd h))

end

end Sys2Proof.Machine
end


section
/-! SUPPORT. What a step keeps (R280): the dump program. -/

namespace Sys2Proof.Machine

section
variable {s t : State}

theorem Keeps.setWork (h : Keeps s t) {x} : Keeps s (setWork t x) :=
  .upd h

/-! ### Register reads (Table 8.1 steps 3 and 4, R223) -/

theorem Keeps.dumpOp (h : Keeps s t) {w mk} : Keeps s (dumpOp t w mk) :=
  .issueOp (.setWork (.upd h))

theorem Keeps.dumpAgr (h : Keeps s t) {w set creg} : Keeps s (dumpAgr t w set creg) :=
  .dumpOp h

theorem Keeps.dumpLm (h : Keeps s t) {w set a n} : Keeps s (dumpLm t w set a n) :=
  .dumpOp h

/-! ### Remote queries (R221) -/

theorem Keeps.sendAsks (h : Keeps s t) {d l} : Keeps s (sendAsks t d l) := by
  unfold Machine.sendAsks
  refine .forAll h fun _ _ hu => ?_
  split
  · exact hu
  · exact .chSend (.upd hu)

theorem Keeps.takeAnswer (h : Keeps s t) {d ch} : Keeps s (takeAnswer d t ch) := by
  unfold Machine.takeAnswer
  dsimp only
  split
  · exact .ite (.setWork (.setC h)) h
  · exact h

/-! ### Steps 6 and 7: the graph and L0 -/

theorem Keeps.buildL0 (h : Keeps s t) {w d} : Keeps s (buildL0 t w d) := by
  unfold Machine.buildL0
  extract_lets x g objs base f l0 marked x1 s1 plan man recs body id s2 s3
  have h1 : Keeps s s1 := .setWork h
  clear_value s1 plan man f g objs base
  have h2 : Keeps s s2 := Keeps.withHubMem (t := { s1 with opCtr := id + 1 }) (.upd h1) (memWf_writeUnits _ _ _)
  exact .submit (.setWork (.setRegF h2))

/-! ### One action of the program -/

theorem Keeps.moverPush (h : Keeps s t) : Keeps s (moverPush t) := by
  unfold Machine.moverPush
  dsimp only
  split
  · exact h
  · exact .ite (.setWork (.upd h)) h

theorem Keeps.dumpReply (h : Keeps s t) {w p id} : Keeps s (dumpReply t w p id) := by
  unfold Machine.dumpReply
  dsimp only
  split
  · exact .setWork (.forget (.putMem h))
  · exact .ite h (.setWork (.giveUp h))
  · exact .setWork h

theorem Keeps.itemStep (h : Keeps s t) {w p it} : Keeps s (itemStep t w p it) := by
  unfold Machine.itemStep
  dsimp only
  split
  · exact .dumpLm h
  · exact .ite (.setWork h) (.ite (.mpAsk (.setWork h)) h)
  split
  · exact .dumpAgr h
  · exact .setWork h

theorem Keeps.itemBegin (h : Keeps s t) {p it rest} : Keeps s (itemBegin t p it rest) :=
  .ite (.setWork h) (.setWork h)

theorem Keeps.toPhase (h : Keeps s t) {ph todo} : Keeps s (toPhase t ph todo) :=
  .setWork h

theorem Keeps.dumpRequest (h : Keeps s t) {d} : Keeps s (dumpRequest t d) := by
  unfold Machine.dumpRequest
  split
  · exact .ite h (.chSendAll h)
  · exact h

theorem Keeps.cutDone (h : Keeps s t) {d st} : Keeps s (cutDone t d st) :=
  .setWork (.dumpRequest h)

theorem Keeps.dumpLast (h : Keeps s t) {w d level abort} : Keeps s (dumpLast t w d level abort) :=
  .dumpFinish (.submit h)

theorem Keeps.copyBegin (h : Keeps s t) : Keeps s (copyBegin t) :=
  .setRegF (.upd h)

theorem Keeps.copyStep (h : Keeps s t) {w d} : Keeps s (copyStep t w d) := by
  unfold Machine.copyStep
  dsimp only
  cases t.hang.work.rd with
  | some r => exact .setWork h
  | none => exact .ite (.ite h (.dumpLast (.setRegF h))) (.ite (.ite h (.mpAsk (.setWork h))) (.ite h (.setWork h)))

theorem Keeps.phaseEnd (h : Keeps s t) {w d} : Keeps s (phaseEnd t w d) := by
  unfold Machine.phaseEnd
  dsimp only
  cases t.hang.work.phase with
  | cut =>
    cases arrived t t.hang.work.waiter with
    | none => exact h
    | some a => exact .cutDone (.forget h)
  | waits => exact .toPhase h
  | objects => exact .sendAsks (.setWork h)
  | remote => exact .ite (.toPhase (.forAll h fun _ _ hu => .takeAnswer hu)) (.forAll h fun _ _ hu => .takeAnswer hu)
  | late => exact .buildL0 h
  | l0 =>
    cases arrived t t.hang.work.waiter with
    | none => exact h
    | some a => exact .toPhase (.forget h)
  | level => exact .ite h (.setWork h)
  | last => exact .ite h (.ite (.copyBegin h) (.dumpLast h))
  | copy => exact .copyStep h
  | abort => exact .ite (.dumpLast h) (.ite (.dumpFinish (.upd h)) h)

theorem Keeps.dumpTick (h : Keeps s t) : Keeps s (dumpTick t) := by
  unfold Machine.dumpTick
  dsimp only
  split
  · split
    · exact h
    split
    · exact .dumpReply (.moverPush h)
    · exact .itemStep (.moverPush h)
    · exact .itemBegin (.moverPush h)
    · exact .phaseEnd (.moverPush h)
  · exact h

end

end Sys2Proof.Machine
end


section
/-! PROPERTY. The canonical form and leases apart, kept by every step (R280). -/

namespace Sys2Proof.Machine

/-- The canonical form, and no two leases on a common resource (R280). -/
def Sound (s : State) : Prop := canonical s = true ∧ LeasesApart s

theorem Tidy.sound {s t : State} (h : Tidy s t) (hs : Sound s) : Sound t := by
  obtain ⟨hc, hapart⟩ := hs
  obtain ⟨ht, hl⟩ := h hc
  refine ⟨ht, fun w v i k hw hv hi hk a b hne ha hb => ?_⟩
  obtain ⟨c, hc, hca⟩ := hl w i a ha
  obtain ⟨d, hd, hdb⟩ := hl v k b hb
  rw [← hca, ← hdb]
  exact hapart w v i k hw hv hi hk c d hne hc hd

theorem Keeps.sound {s t : State} (h : Keeps s t) (hs : Sound s) : Sound t := h.2.sound hs

/-! ### Leases granted -/

theorem overlap_comm (a n b m : Nat) : overlap a n b m = overlap b m a n := by
  unfold overlap
  exact Bool.and_comm _ _

theorem leaseClash_comm (a b : Word) : leaseClash a b = leaseClash b a := by
  unfold leaseClash
  by_cases hres : leaseRes a = leaseRes b
  · rw [hres]
    split <;> simp only [overlap_comm, Bool.beq_comm]
  · rw [beq_false_of_ne hres, beq_false_of_ne (Ne.symm hres)]
    rfl

/-- No session holds a part of what a request names, where none is found. -/
theorem leaseClash_of_heldAny {s : State} {v : Word} (h : heldAny s v = false) {w k : Nat} (hw : w < 8) (hk : k < 64) {l : Lease}
    (hl : getLease (getW s w) k = some l) : leaseClash l.req v = false := by
  have hnone := Bool.not_eq_true _ ▸ List.any_eq_false.1 h w (List.mem_range.2 hw)
  rw [Option.isSome_eq_false_iff, Option.isNone_iff_eq_none, heldBy, List.find?_eq_none] at hnone
  have hkeep := hnone k (List.mem_range.2 hk)
  rw [hl] at hkeep
  exact Bool.not_eq_true _ ▸ hkeep

/-- A lease set that names nothing that another lease names. -/
theorem Sound.setLease {s : State} (h : Sound s) {w k : Nat} {l : Lease} (hl : w < 8 → ∀ v j : Nat, v < 8 → j < 64 → (v, j) ≠ (w, k) →
    ∀ m : Lease, getLease (getW s v) j = some m → leaseClash m.req l.req = false) : Sound (setLease s w k (some l)) := by
  obtain ⟨hc, hapart⟩ := h
  obtain ⟨hwf, -⟩ := KeepsW.getW (w := w) (.refl s) hc
  obtain ⟨hls, hg, hsr, htm, htk, hleases⟩ := (whorlWf_iff _).1 hwf
  obtain ⟨hmem, hmail, hregs, hareg, hpend, hcut, hxt, htab, hall, hrest⟩ := (canonical_iff s).1 hc
  have hnew : whorlWf { getW s w with leases := tput none (getW s w).leases k (some l) } = true :=
    (whorlWf_iff _).2 ⟨hls, hg, hsr, htm, htk, tabWf_tput _ _ _ _ hleases⟩
  have hread (v j : Nat) : getLease (getW (Machine.setLease s w k (some l)) v) j =
      if (v, j) = (w, k) then some l else getLease (getW s v) j := by
    unfold Machine.setLease
    rw [getW_setW _ _ _ _ htab]
    by_cases hv : v = w
    · rw [if_pos hv, getLease, tget_tput _ _ _ _ _ hleases, hv]
      simp only [Prod.mk.injEq, true_and]
      rfl
    · rw [if_neg hv, if_neg fun e => hv (Prod.mk.inj e).1]
  refine ⟨(canonical_iff _).2 ⟨hmem, hmail, hregs, hareg, hpend, hcut, hxt, tabWf_tput _ _ _ _ htab,
    fun e he => (tput_mem _ _ _ _ e he).elim (fun heq => heq ▸ hnew) (hall e), hrest⟩, fun v u i j hv hu hi hj a b hne ha hb => ?_⟩
  rw [hread] at ha hb
  split at ha
  next hvi =>
    obtain ⟨rfl, rfl⟩ := Prod.mk.inj hvi
    rw [if_neg (Ne.symm hne)] at hb
    cases ha
    rw [leaseClash_comm]
    exact hl hv u j hu hj (Ne.symm hne) b hb
  next hvi =>
    split at hb
    next huj =>
      obtain ⟨rfl, rfl⟩ := Prod.mk.inj huj
      cases hb
      exact hl hu v i hv hi hvi a ha
    · exact hapart v u i j hv hu hi hj a b hne ha hb

/-- A lease is granted where no session holds a part of what it names, or renewed under its own handle. -/
theorem Sound.leaseTry {s : State} (h : Sound s) {w : Nat} {v span : Word} : Sound (leaseTry s w v span).2.2 := by
  unfold Machine.leaseTry
  dsimp only
  split
  · exact h
  split
  · exact h
  split
  next k hk =>
    refine h.setLease fun hw u j hu hj hne m hm => ?_
    obtain ⟨hheld, hmem, -⟩ := List.find?_range_eq_some.1 hk
    obtain ⟨l, hl, hreq⟩ := (Option.any_eq_true _ _).1 hheld
    have hapart := h.2 u w j k hu hw hj (List.mem_range.1 hmem) m l hne hm hl
    rwa [eq_of_beq hreq] at hapart
  split
  · exact h
  next hany =>
  split
  · exact h
  · exact h.setLease fun _ u j hu hj _ m hm => leaseClash_of_heldAny (Bool.not_eq_true _ ▸ hany) hu hj hm

theorem Sound.grantAll {w k : Nat} {l : List (Word × Word)} {s : State} (h : Sound s) : Sound (grantAll w k l s).2 := by
  induction l generalizing k s with
  | nil => exact h
  | cons e l ih =>
    unfold Machine.grantAll
    split
    next hq =>
      have hnext := h.leaseTry (w := w) (v := e.1) (span := e.2)
      rw [hq] at hnext
      exact ih hnext
    · exact h

/-- A program image loaded with the leases it asks for (R285). -/
theorem Sound.loadImage {s : State} (h : Sound s) {w : Nat} {q : LoadReq} : Sound (loadImage s w q) := by
  unfold Machine.loadImage
  extract_lets i s1 body
  split
  · exact (Keeps.loadRefuse (.refl s)).sound h
  have hgrant : Sound (Machine.grantAll w 0 (imgLeaseList s i) s1).2 := Sound.grantAll ((Keeps.loadProgram (.refl s)).sound h)
  split
  next hq =>
    rw [hq] at hgrant
    exact (Keeps.loadRefuse (.forAll (.refl _) fun _ _ hu => .leaseEnd hu)).sound hgrant
  next hq =>
    rw [hq] at hgrant
    exact (Keeps.loadPass (.setW (.refl _) ((KeepsW.getW (.refl _)).withLs (memWf_writeUnits _ _ _)))).sound hgrant

theorem Sound.loadEnd {s : State} (h : Sound s) {w : Nat} : Sound (loadEnd s w) := by
  unfold Machine.loadEnd
  split
  · exact h
  split
  · exact h
  split
  · exact (Keeps.loadRefuse (.refl s)).sound h
  split
  · exact (Keeps.loadRom (.refl s)).sound h
  · exact h.loadImage

/-! ### What a command answers -/

/-- A next state, where a command answers one, is sound. -/
def Safe (o : Host.Outcome State Fault Refusal) : Prop := ∀ t : State, o = .next t → Sound t

theorem Safe.ok {t : State} (h : Sound t) : Safe (ok t) := fun _ hu => by
  cases hu
  exact h

theorem Safe.ite {c : Prop} [Decidable c] {a b : Host.Outcome State Fault Refusal} (ha : Safe a) (hb : Safe b) : Safe (if c then a else b) := by
  split <;> assumption

theorem KeepsO.safe {s : State} {o : Host.Outcome State Fault Refusal} (h : KeepsO s o) (hs : Sound s) : Safe o := fun t ht => (h t ht).sound hs

/-! ### Steps of hub time (R326, R327) -/

theorem Tidy.alignTo {s : State} {t : Nat} : Tidy s (alignTo s t) := by
  have hstep : Tidy s { s with ht := max s.ht t, time := { s.time with isNew := false, startedAt := none, lastTheta := none } } :=
    fun hs => ⟨hs, fun _ _ l hl => ⟨l, hl, rfl⟩⟩
  exact hstep.trans (Keeps.timeUpdate (.startMeasure (.refl _))).2

theorem alignStep_isAlignTo {s u : State} (hu : alignStep s = some u) : ∃ t : Nat, u = alignTo s t := by
  unfold alignStep at hu
  split at hu
  · cases hu
  split at hu
  · exact ⟨_, (Option.some.inj hu).symm⟩
  split at hu
  · cases hu
  · obtain ⟨e, -, rfl⟩ := Option.map_eq_some_iff.1 hu
    exact ⟨_, rfl⟩

section
variable {s : State} (h : Sound s)
include h

theorem Sound.execLoadEnd {w : Fin 8} : Safe (execLoadEnd w s) := .ok ((Keeps.hangLoad (.refl _)).sound h.loadEnd)

theorem Sound.insn {w : Nat} {rs : List Nat} {f : Whorl → State} (hf : Sound (f (getW s w))) : Safe (insn s w rs f) :=
  .ite (.ok h) (.ite (.ok ((Keeps.whorlFault (.refl s)).sound h)) (.ite (.ok h) (.ok hf)))

/-- LEASE, with its answer in g[d]. -/
theorem Sound.execLease {w : Fin 8} {d a b : Fin 32} : Safe (execLease w d a b s) :=
  h.insn ((Keeps.setD (.refl _) (.getW (.refl _))).sound h.leaseTry)

/-- The dump program takes the leases of the cut and of the level (R213). -/
theorem Sound.dumpBegin {w : Nat} {d : Decl} : Sound (dumpBegin s w d) := by
  unfold Machine.dumpBegin
  extract_lets a u staged hang work s1 s2 s3 dest s4 s5
  have h1 : Sound s1 := (Keeps.upd (.silentWaiter (.refl s))).sound h
  have h3 : Sound s3 := h1.leaseTry.leaseTry
  clear_value s3
  exact (Keeps.haltReq (.setRegF (.setRegF (.setRegF (.ite (.refl _) (.setRegF (.refl _))))))).sound h3

theorem Sound.execDumpProgramStart : Safe (execDumpProgramStart s) := by
  unfold Machine.execDumpProgramStart
  split
  · exact .ok h
  dsimp only
  split
  · exact .ok h
  split
  · exact .ok ((Keeps.upd (.refl s)).sound h).dumpBegin
  · exact .ok ((Keeps.countF (.loadRomAuto (.upd (.refl s)))).sound h).dumpBegin
  · exact .ok ((Keeps.dumpSnip (.upd (.refl s))).sound h)

theorem Sound.execTimeAlign : Safe (execTimeAlign s) := by
  unfold Machine.execTimeAlign
  split
  · exact .ok h
  next hu =>
    obtain ⟨t, rfl⟩ := alignStep_isAlignTo hu
    exact .ok ((Keeps.bootAdvance (.refl _)).sound (Tidy.alignTo.sound h))

theorem Sound.execTimeSelfAlign : Safe (execTimeSelfAlign s) := by
  unfold Machine.execTimeSelfAlign selfAlignStep
  split
  · exact .ok h
  next hu =>
    split at hu <;> cases hu
    exact .ok ((Keeps.bootAdvance (.refl _)).sound (Tidy.alignTo.sound h))

theorem Sound.execPowerOnReset : Safe (execPowerOnReset s) := by
  refine .ok (Tidy.sound (fun hs => ?_) h)
  obtain ⟨hc, hl⟩ := (Keeps.hubReset (.refl s)).2 hs
  refine ⟨?_, hl⟩
  rw [canonical_iff] at hc ⊢
  obtain ⟨hmem, hmail, hregs, hrest⟩ := hc
  exact ⟨hmem, hmail, tabWf_filter _ _ _ hregs, hrest⟩

theorem Sound.tick : Sound (tick s) :=
  (Keeps.dumpTick (.releaseIssue (.carefulSwitch (.bufferTick (.pulseEchoes (.refl { s with ht := s.ht + 1 })))))).sound h

end

/-- Every instruction and every event keeps the canonical form and grants no lease that clashes. -/
theorem Sound.exec {s : State} (h : Sound s) (c : Instr) : Safe (exec c s) := by
  cases c with
  | alu => exact (KeepsO.execAlu (.refl s)).safe h
  | addi => exact (KeepsO.execAddi (.refl s)).safe h
  | andi => exact (KeepsO.execAndi (.refl s)).safe h
  | ori => exact (KeepsO.execOri (.refl s)).safe h
  | xori => exact (KeepsO.execXori (.refl s)).safe h
  | slti => exact (KeepsO.execSlti (.refl s)).safe h
  | sltiu => exact (KeepsO.execSltiu (.refl s)).safe h
  | insh => exact (KeepsO.execInsh (.refl s)).safe h
  | ld8 => exact (KeepsO.execLd8 (.refl s)).safe h
  | ld4 => exact (KeepsO.execLd4 (.refl s)).safe h
  | ld2 => exact (KeepsO.execLd2 (.refl s)).safe h
  | ld1 => exact (KeepsO.execLd1 (.refl s)).safe h
  | st8 => exact (KeepsO.execSt8 (.refl s)).safe h
  | st4 => exact (KeepsO.execSt4 (.refl s)).safe h
  | st2 => exact (KeepsO.execSt2 (.refl s)).safe h
  | st1 => exact (KeepsO.execSt1 (.refl s)).safe h
  | beq => exact (KeepsO.execBeq (.refl s)).safe h
  | bne => exact (KeepsO.execBne (.refl s)).safe h
  | blt => exact (KeepsO.execBlt (.refl s)).safe h
  | bge => exact (KeepsO.execBge (.refl s)).safe h
  | bltu => exact (KeepsO.execBltu (.refl s)).safe h
  | bgeu => exact (KeepsO.execBgeu (.refl s)).safe h
  | j => exact (KeepsO.execJ (.refl s)).safe h
  | jal => exact (KeepsO.execJal (.refl s)).safe h
  | nop => exact (KeepsO.execNop (.refl s)).safe h
  | jr => exact (KeepsO.execJr (.refl s)).safe h
  | jalr => exact (KeepsO.execJalr (.refl s)).safe h
  | rdtime => exact (KeepsO.execRdtime (.refl s)).safe h
  | tset => exact (KeepsO.execTset (.refl s)).safe h
  | tclr => exact (KeepsO.execTclr (.refl s)).safe h
  | setdl => exact (KeepsO.execSetdl (.refl s)).safe h
  | rddl => exact (KeepsO.execRddl (.refl s)).safe h
  | tkst => exact (KeepsO.execTkst (.refl s)).safe h
  | tkfree => exact (KeepsO.execTkfree (.refl s)).safe h
  | tkpend => exact (KeepsO.execTkpend (.refl s)).safe h
  | whoami => exact (KeepsO.execWhoami (.refl s)).safe h
  | stopw => exact (KeepsO.execStopw (.refl s)).safe h
  | fenceAg => exact (KeepsO.execFenceAg (.refl s)).safe h
  | fenceAll => exact (KeepsO.execFenceAll (.refl s)).safe h
  | trd => exact (KeepsO.execTrd (.refl s)).safe h
  | smk => exact (KeepsO.execSmk (.refl s)).safe h
  | sld => exact (KeepsO.execSld (.refl s)).safe h
  | sst => exact (KeepsO.execSst (.refl s)).safe h
  | smv => exact (KeepsO.execSmv (.refl s)).safe h
  | seng => exact (KeepsO.execSeng (.refl s)).safe h
  | srd => exact (KeepsO.execSrd (.refl s)).safe h
  | wait => exact (KeepsO.execWait (.refl s)).safe h
  | poll => exact (KeepsO.execPoll (.refl s)).safe h
  | evset => exact (KeepsO.execEvset (.refl s)).safe h
  | evclr => exact (KeepsO.execEvclr (.refl s)).safe h
  | evrd => exact (KeepsO.execEvrd (.refl s)).safe h
  | agw => exact (KeepsO.execAgw (.refl s)).safe h
  | agr => exact (KeepsO.execAgr (.refl s)).safe h
  | agrLm => exact (KeepsO.execAgrLm (.refl s)).safe h
  | halt => exact (KeepsO.execHalt (.refl s)).safe h
  | haltPlanned => exact (KeepsO.execHaltPlanned (.refl s)).safe h
  | run => exact (KeepsO.execRun (.refl s)).safe h
  | step => exact (KeepsO.execStep (.refl s)).safe h
  | snip => exact (KeepsO.execSnip (.refl s)).safe h
  | trig => exact (KeepsO.execTrig (.refl s)).safe h
  | tap => exact (KeepsO.execTap (.refl s)).safe h
  | tapr => exact (KeepsO.execTapr (.refl s)).safe h
  | tapc => exact (KeepsO.execTapc (.refl s)).safe h
  | emit => exact (KeepsO.execEmit (.refl s)).safe h
  | commit => exact (KeepsO.execCommit (.refl s)).safe h
  | lease => exact h.execLease
  | release => exact (KeepsO.execRelease (.refl s)).safe h
  | send => exact (KeepsO.execSend (.refl s)).safe h
  | recv => exact (KeepsO.execRecv (.refl s)).safe h
  | ticketComplete => exact (KeepsO.execTicketComplete (.refl s)).safe h
  | ticketTimeout => exact (KeepsO.execTicketTimeout (.refl s)).safe h
  | timerExpire => exact (KeepsO.execTimerExpire (.refl s)).safe h
  | leaseLapse => exact (KeepsO.execLeaseLapse (.refl s)).safe h
  | whorlFault => exact (KeepsO.execWhorlFault (.refl s)).safe h
  | whorlReset => exact (KeepsO.execWhorlReset (.refl s)).safe h
  | whorlStop => exact (KeepsO.execWhorlStop (.refl s)).safe h
  | whorlStart => exact (KeepsO.execWhorlStart (.refl s)).safe h
  | whorlLoad => exact (KeepsO.execWhorlLoad (.refl s)).safe h
  | loadEnd => exact h.execLoadEnd
  | whlLsDataAccess => exact (KeepsO.execWhlLsDataAccess (.refl s)).safe h
  | whorlOut => exact (KeepsO.execWhorlOut (.refl s)).safe h
  | registerWrite => exact (KeepsO.execRegisterWrite (.refl s)).safe h
  | evtRaise => exact (KeepsO.execEvtRaise (.refl s)).safe h
  | prtCmdHalt => exact (KeepsO.execPrtCmdHalt (.refl s)).safe h
  | prtCmdRun => exact (KeepsO.execPrtCmdRun (.refl s)).safe h
  | prtCmdStep => exact (KeepsO.execPrtCmdStep (.refl s)).safe h
  | prtCmdSnip => exact (KeepsO.execPrtCmdSnip (.refl s)).safe h
  | prtMapWrite => exact (KeepsO.execPrtMapWrite (.refl s)).safe h
  | prtMapApply => exact (KeepsO.execPrtMapApply (.refl s)).safe h
  | stopTreeRootSend => exact (KeepsO.execStopTreeRootSend (.refl s)).safe h
  | leafHalt => exact (KeepsO.execLeafHalt (.refl s)).safe h
  | leafRun => exact (KeepsO.execLeafRun (.refl s)).safe h
  | leafStep => exact (KeepsO.execLeafStep (.refl s)).safe h
  | leafStepDone => exact (KeepsO.execLeafStepDone (.refl s)).safe h
  | leafMark => exact (KeepsO.execLeafMark (.refl s)).safe h
  | leafClrmark => exact (KeepsO.execLeafClrmark (.refl s)).safe h
  | plannedHaltDue => exact (KeepsO.execPlannedHaltDue (.refl s)).safe h
  | regionFrozen => exact (KeepsO.execRegionFrozen (.refl s)).safe h
  | regionReady => exact (KeepsO.execRegionReady (.refl s)).safe h
  | cutComplete => exact (KeepsO.execCutComplete (.refl s)).safe h
  | cutTimeout => exact (KeepsO.execCutTimeout (.refl s)).safe h
  | runResumed => exact (KeepsO.execRunResumed (.refl s)).safe h
  | freezeLate => exact (KeepsO.execFreezeLate (.refl s)).safe h
  | comparatorHit => exact (KeepsO.execComparatorHit (.refl s)).safe h
  | coreEvent => exact (KeepsO.execCoreEvent (.refl s)).safe h
  | flyXtFire => exact (KeepsO.execFlyXtFire (.refl s)).safe h
  | channelFire => exact (KeepsO.execChannelFire (.refl s)).safe h
  | guestTriggerRelay => exact (KeepsO.execGuestTriggerRelay (.refl s)).safe h
  | agentOpReceive => exact (KeepsO.execAgentOpReceive (.refl s)).safe h
  | inspectionAck => exact (KeepsO.execInspectionAck (.refl s)).safe h
  | inspectionTimeout => exact (KeepsO.execInspectionTimeout (.refl s)).safe h
  | lmSteal => exact (KeepsO.execLmSteal (.refl s)).safe h
  | lmReadReturn => exact (KeepsO.execLmReadReturn (.refl s)).safe h
  | lmDeadline => exact (KeepsO.execLmDeadline (.refl s)).safe h
  | wakeAck => exact (KeepsO.execWakeAck (.refl s)).safe h
  | wakeTimeout => exact (KeepsO.execWakeTimeout (.refl s)).safe h
  | wakeRelease => exact (KeepsO.execWakeRelease (.refl s)).safe h
  | coreResetAssert => exact (KeepsO.execCoreResetAssert (.refl s)).safe h
  | coreResetRelease => exact (KeepsO.execCoreResetRelease (.refl s)).safe h
  | vtTxWrite => exact (KeepsO.execVtTxWrite (.refl s)).safe h
  | vtRxPop => exact (KeepsO.execVtRxPop (.refl s)).safe h
  | vtDrain => exact (KeepsO.execVtDrain (.refl s)).safe h
  | flowEvent => exact (KeepsO.execFlowEvent (.refl s)).safe h
  | cmdEvent => exact (KeepsO.execCmdEvent (.refl s)).safe h
  | corePowerChange => exact (KeepsO.execCorePowerChange (.refl s)).safe h
  | flyerTake => exact (KeepsO.execFlyerTake (.refl s)).safe h
  | recordAgeDrop => exact (KeepsO.execRecordAgeDrop (.refl s)).safe h
  | groupSend => exact (KeepsO.execGroupSend (.refl s)).safe h
  | collectorArbitrate => exact (KeepsO.execCollectorArbitrate (.refl s)).safe h
  | traceWordError => exact (KeepsO.execTraceWordError (.refl s)).safe h
  | groupArrival => exact (KeepsO.execGroupArrival (.refl s)).safe h
  | funnelParse => exact (KeepsO.execFunnelParse (.refl s)).safe h
  | funnelRelease => exact (KeepsO.execFunnelRelease (.refl s)).safe h
  | gapFlush => exact (KeepsO.execGapFlush (.refl s)).safe h
  | bufferModeWrite => exact (KeepsO.execBufferModeWrite (.refl s)).safe h
  | bufferTrigger => exact (KeepsO.execBufferTrigger (.refl s)).safe h
  | trcWinFire => exact (KeepsO.execTrcWinFire (.refl s)).safe h
  | captureEnd => exact (KeepsO.execCaptureEnd (.refl s)).safe h
  | trcBufRdataRead => exact (KeepsO.execTrcBufRdataRead (.refl s)).safe h
  | bufferBankRetire => exact (KeepsO.execBufferBankRetire (.refl s)).safe h
  | spillBlockWrite => exact (KeepsO.execSpillBlockWrite (.refl s)).safe h
  | llHoldRequest => exact (KeepsO.execLlHoldRequest (.refl s)).safe h
  | llHoldStart => exact (KeepsO.execLlHoldStart (.refl s)).safe h
  | llHoldEnd => exact (KeepsO.execLlHoldEnd (.refl s)).safe h
  | llHoldTimeout => exact (KeepsO.execLlHoldTimeout (.refl s)).safe h
  | tapEdge => exact (KeepsO.execTapEdge (.refl s)).safe h
  | tapRotate => exact (KeepsO.execTapRotate (.refl s)).safe h
  | driftCompare => exact (KeepsO.execDriftCompare (.refl s)).safe h
  | driftLevelDeferred => exact (KeepsO.execDriftLevelDeferred (.refl s)).safe h
  | aoBoundary => exact (KeepsO.execAoBoundary (.refl s)).safe h
  | aoEntryWrite => exact (KeepsO.execAoEntryWrite (.refl s)).safe h
  | sampleEdge => exact (KeepsO.execSampleEdge (.refl s)).safe h
  | ringWrite => exact (KeepsO.execRingWrite (.refl s)).safe h
  | wdgReport => exact (KeepsO.execWdgReport (.refl s)).safe h
  | wdgFetch => exact (KeepsO.execWdgFetch (.refl s)).safe h
  | dmpReq => exact (KeepsO.execDmpReq (.refl s)).safe h
  | dumpProgramStart => exact h.execDumpProgramStart
  | dumpTimeout => exact (KeepsO.execDumpTimeout (.refl s)).safe h
  | hngCtrlWrite => exact (KeepsO.execHngCtrlWrite (.refl s)).safe h
  | hnkPinWrite => exact (KeepsO.execHnkPinWrite (.refl s)).safe h
  | commitAdmit => exact (KeepsO.execCommitAdmit (.refl s)).safe h
  | commitDurable => exact (KeepsO.execCommitDurable (.refl s)).safe h
  | poweredTick => exact (KeepsO.execPoweredTick (.refl s)).safe h
  | pfwAssert => exact (KeepsO.execPfwAssert (.refl s)).safe h
  | pfwGlitch => exact (KeepsO.execPfwGlitch (.refl s)).safe h
  | pfwClear => exact (KeepsO.execPfwClear (.refl s)).safe h
  | hankMount => exact (KeepsO.execHankMount (.refl s)).safe h
  | nandMount => exact (KeepsO.execNandMount (.refl s)).safe h
  | mramScrub => exact (KeepsO.execMramScrub (.refl s)).safe h
  | mramBankRetire => exact (KeepsO.execMramBankRetire (.refl s)).safe h
  | nandWearLevel => exact (KeepsO.execNandWearLevel (.refl s)).safe h
  | nandPatrol => exact (KeepsO.execNandPatrol (.refl s)).safe h
  | nandBlockRetire => exact (KeepsO.execNandBlockRetire (.refl s)).safe h
  | xspiStatusPoll => exact (KeepsO.execXspiStatusPoll (.refl s)).safe h
  | xspiOpTimeout => exact (KeepsO.execXspiOpTimeout (.refl s)).safe h
  | hnkRdDataRead => exact (KeepsO.execHnkRdDataRead (.refl s)).safe h
  | refclkLoss => exact (KeepsO.execRefclkLoss (.refl s)).safe h
  | refclkReturn => exact (KeepsO.execRefclkReturn (.refl s)).safe h
  | ihbElect => exact (KeepsO.execIhbElect (.refl s)).safe h
  | elect => exact (KeepsO.execElect (.refl s)).safe h
  | electionClose => exact (KeepsO.execElectionClose (.refl s)).safe h
  | probe => exact (KeepsO.execProbe (.refl s)).safe h
  | probeReply => exact (KeepsO.execProbeReply (.refl s)).safe h
  | probeTimeout => exact (KeepsO.execProbeTimeout (.refl s)).safe h
  | timeExchangeTick => exact (KeepsO.execTimeExchangeTick (.refl s)).safe h
  | timeAlign => exact h.execTimeAlign
  | timeSelfAlign => exact h.execTimeSelfAlign
  | timMeasure => exact (KeepsO.execTimMeasure (.refl s)).safe h
  | msg => exact (KeepsO.execMsg (.refl s)).safe h
  | ack => exact (KeepsO.execAck (.refl s)).safe h
  | name => exact (KeepsO.execName (.refl s)).safe h
  | ihbIdWrite => exact (KeepsO.execIhbIdWrite (.refl s)).safe h
  | haltReq => exact (KeepsO.execHaltReq (.refl s)).safe h
  | confirm => exact (KeepsO.execConfirm (.refl s)).safe h
  | cutChildDeadline => exact (KeepsO.execCutChildDeadline (.refl s)).safe h
  | mark ch lseq cutid part => exact (KeepsO.execMark (.refl s) (cutid := cutid)).safe h
  | rdvOpen => exact (KeepsO.execRdvOpen (.refl s)).safe h
  | rdvArrive => exact (KeepsO.execRdvArrive (.refl s)).safe h
  | rdvRelease ch lseq epoch op cutid => exact (KeepsO.execRdvRelease (.refl s) (op := op)).safe h
  | rdvLeft => exact (KeepsO.execRdvLeft (.refl s)).safe h
  | rdvTimeout => exact (KeepsO.execRdvTimeout (.refl s)).safe h
  | dumpReq => exact (KeepsO.execDumpReq (.refl s)).safe h
  | channelUp => exact (KeepsO.execChannelUp (.refl s)).safe h
  | channelDown => exact (KeepsO.execChannelDown (.refl s)).safe h
  | packetReceive => exact (KeepsO.execPacketReceive (.refl s)).safe h
  | linkAck => exact (KeepsO.execLinkAck (.refl s)).safe h
  | linkNak => exact (KeepsO.execLinkNak (.refl s)).safe h
  | linkRetryTimeout => exact (KeepsO.execLinkRetryTimeout (.refl s)).safe h
  | routeRebuild => exact (KeepsO.execRouteRebuild (.refl s)).safe h
  | epochClose => exact (KeepsO.execEpochClose (.refl s)).safe h
  | reductionSend => exact (KeepsO.execReductionSend (.refl s)).safe h
  | entryLinkFail => exact (KeepsO.execEntryLinkFail (.refl s)).safe h
  | spnModeWrite => exact (KeepsO.execSpnModeWrite (.refl s)).safe h
  | queueResync => exact (KeepsO.execQueueResync (.refl s)).safe h
  | crossingOverrun => exact (KeepsO.execCrossingOverrun (.refl s)).safe h
  | flyerProbe => exact (KeepsO.execFlyerProbe (.refl s)).safe h
  | flyerTakeover => exact (KeepsO.execFlyerTakeover (.refl s)).safe h
  | cardEngineFail => exact (KeepsO.execCardEngineFail (.refl s)).safe h
  | bobbinFail => exact (KeepsO.execBobbinFail (.refl s)).safe h
  | recoveryEngineFail => exact (KeepsO.execRecoveryEngineFail (.refl s)).safe h
  | regionPowerOff => exact (KeepsO.execRegionPowerOff (.refl s)).safe h
  | regionPowerOn => exact (KeepsO.execRegionPowerOn (.refl s)).safe h
  | repairSample => exact (KeepsO.execRepairSample (.refl s)).safe h
  | twpLineReset => exact (KeepsO.execTwpLineReset (.refl s)).safe h
  | twpActivate => exact (KeepsO.execTwpActivate (.refl s)).safe h
  | twpRd => exact (KeepsO.execTwpRd (.refl s)).safe h
  | twpWr => exact (KeepsO.execTwpWr (.refl s)).safe h
  | twpRdn => exact (KeepsO.execTwpRdn (.refl s)).safe h
  | twpWrn => exact (KeepsO.execTwpWrn (.refl s)).safe h
  | twpStatus => exact (KeepsO.execTwpStatus (.refl s)).safe h
  | twpAbort => exact (KeepsO.execTwpAbort (.refl s)).safe h
  | twpReadComplete => exact (KeepsO.execTwpReadComplete (.refl s)).safe h
  | twpRequestTimeout => exact (KeepsO.execTwpRequestTimeout (.refl s)).safe h
  | twpDoor v => exact (KeepsO.execTwpDoor (.refl s) (v := v)).safe h
  | hostDoor v => exact (KeepsO.execHostDoor (.refl s) (v := v)).safe h
  | hostRequest => exact (KeepsO.execHostRequest (.refl s)).safe h
  | hostAccessTimeout => exact (KeepsO.execHostAccessTimeout (.refl s)).safe h
  | hostResponseStall => exact (KeepsO.execHostResponseStall (.refl s)).safe h
  | hostPortReset => exact (KeepsO.execHostPortReset (.refl s)).safe h
  | mpRequestIssue => exact (KeepsO.execMpRequestIssue (.refl s)).safe h
  | mpReadBeat => exact (KeepsO.execMpReadBeat (.refl s)).safe h
  | mpWriteCompletion => exact (KeepsO.execMpWriteCompletion (.refl s)).safe h
  | mpTimeout => exact (KeepsO.execMpTimeout (.refl s)).safe h
  | mptAccGo => exact (KeepsO.execMptAccGo (.refl s)).safe h
  | laneFrameSend => exact (KeepsO.execLaneFrameSend (.refl s)).safe h
  | laneIdleFrame => exact (KeepsO.execLaneIdleFrame (.refl s)).safe h
  | laneInService => exact (KeepsO.execLaneInService (.refl s)).safe h
  | laneDown => exact (KeepsO.execLaneDown (.refl s)).safe h
  | laneStall => exact (KeepsO.execLaneStall (.refl s)).safe h
  | rgtChalNew => exact (KeepsO.execRgtChalNew (.refl s)).safe h
  | rgtRespSubmit => exact (KeepsO.execRgtRespSubmit (.refl s)).safe h
  | responseCheck => exact (KeepsO.execResponseCheck (.refl s)).safe h
  | nonceLapse => exact (KeepsO.execNonceLapse (.refl s)).safe h
  | lockoutEnd => exact (KeepsO.execLockoutEnd (.refl s)).safe h
  | rgtUnlockWrite => exact (KeepsO.execRgtUnlockWrite (.refl s)).safe h
  | rgtPolicyWrite => exact (KeepsO.execRgtPolicyWrite (.refl s)).safe h
  | bootRelease => exact (KeepsO.execBootRelease (.refl s)).safe h
  | agaAgentWrite => exact (KeepsO.execAgaAgentWrite (.refl s)).safe h
  | agaAgentRead => exact (KeepsO.execAgaAgentRead (.refl s)).safe h
  | agaLmWrite => exact (KeepsO.execAgaLmWrite (.refl s)).safe h
  | agaLmRead => exact (KeepsO.execAgaLmRead (.refl s)).safe h
  | agaCregRead => exact (KeepsO.execAgaCregRead (.refl s)).safe h
  | agaCregWrite => exact (KeepsO.execAgaCregWrite (.refl s)).safe h
  | agaComplete => exact (KeepsO.execAgaComplete (.refl s)).safe h
  | agaTimeout => exact (KeepsO.execAgaTimeout (.refl s)).safe h
  | powerOnReset => exact h.execPowerOnReset
  | hubReset => exact (KeepsO.execHubReset (.refl s)).safe h
  | hubResetRelease => exact (KeepsO.execHubResetRelease (.refl s)).safe h
  | bootStageTimeout => exact (KeepsO.execBootStageTimeout (.refl s)).safe h
  | scheduleStep => exact (KeepsO.execScheduleStep (.refl s)).safe h
  | perfStrobe => exact (KeepsO.execPerfStrobe (.refl s)).safe h
  | traceLinkFail => exact (KeepsO.execTraceLinkFail (.refl s)).safe h
  | messageDiscard => exact (KeepsO.execMessageDiscard (.refl s)).safe h
  | hostResponseTake => exact (KeepsO.execHostResponseTake (.refl s)).safe h
  | twpHeaderReject => exact (KeepsO.execTwpHeaderReject (.refl s)).safe h
  | xspiDqsTimeout => exact (KeepsO.execXspiDqsTimeout (.refl s)).safe h

/-- A step takes the next command, or hub time moves on. -/
theorem Sound.step {s t : State} (h : Sound s) (ht : step s = .next t) : Sound t := by
  unfold Machine.step at ht
  split at ht
  · cases ht
    exact h.tick
  next c rest _ =>
    have hrest : Sound { s with pending := rest } := h
    exact hrest.exec c t ht

/-- Settles O60: every operation of State keeps the canonical form and no operation but the grant adds a lease, and a grant
clashes with none. -/
theorem everyStepKeepsTheTablesCanonicalAndLeasesApart : Obligations.EveryStepKeepsTheTablesCanonicalAndLeasesApart := by
  unfold Obligations.EveryStepKeepsTheTablesCanonicalAndLeasesApart
  exact fun s t hc hapart ht => Sound.step ⟨hc, hapart⟩ ht

end Sys2Proof.Machine
end


section
/-! SUPPORT. Messages on the inter-hub channels (R322): what a message sent and one taken in change. -/

namespace Sys2Proof.Machine

section
variable (s : State)

/-! ### Messages sent -/

/-- A canonical state, as the frames of O60 keep it. -/
theorem Keeps.canonical {s t : State} (h : Keeps s t) (hs : canonical s = true) : Machine.canonical t = true := (h.2 hs).1

theorem canonical_chans {s : State} (h : canonical s = true) : tabWf Chan.fresh s.chans = true := by
  obtain ⟨-, -, -, -, -, -, -, -, -, -, -, -, -, -, hchans, -⟩ := (canonical_iff s).1 h
  exact hchans

/-- Messages sent change the channels alone, and of a channel its next number and what goes out. -/
structure Sends (s t : State) : Prop where
  eq : t = { s with chans := t.chans }
  wf : tabWf Chan.fresh s.chans = true → tabWf Chan.fresh t.chans = true
  chan : tabWf Chan.fresh s.chans = true → ∀ n : Nat, ∃ (q : BitVec 16) (o : List OutMsg), getC t n = { getC s n with txSeq := q, out := o }

theorem Sends.refl : Sends s s := ⟨rfl, id, fun _ _ => ⟨_, _, rfl⟩⟩

variable {s} in
theorem Sends.trans {t u : State} (h : Sends s t) (h' : Sends t u) : Sends s u where
  eq := by rw [h'.eq, h.eq]
  wf hs := h'.wf (h.wf hs)
  chan hs n := by
    obtain ⟨q, o, ht⟩ := h.chan hs n
    obtain ⟨q', o', hu⟩ := h'.chan (h.wf hs) n
    exact ⟨q', o', by rw [hu, ht]⟩

theorem getC_setC_self (n : Nat) (x : Chan) (h : x ≠ Chan.fresh) : getC (setC s n x) n = x := tget_tput_self _ _ _ _ h

section
variable (ch kind dst : Nat) (pay : List Word) (src : Option Nat)

theorem sends_chSend : Sends s (chSend s ch kind dst pay src) where
  eq := chSend_eq ..
  wf hs := by
    unfold chSend
    extract_lets x own h m
    split
    · exact hs
    · exact tabWf_tput _ _ _ _ hs
  chan hs n := by
    unfold chSend
    extract_lets x own h m
    split
    · exact ⟨_, _, rfl⟩
    rw [getC_setC _ _ _ _ hs]
    split
    next hn =>
      subst hn
      exact ⟨_, _, rfl⟩
    next => exact ⟨_, _, rfl⟩

/-- Nothing is sent on a channel that is down. -/
theorem chSend_down (h : (getC s ch).up = false) : chSend s ch kind dst pay src = s := by
  unfold chSend
  exact if_pos (by rw [h]; rfl)

/-- The top four bits of a header with its check word. -/
theorem header_kind (k a c : Nat) (hk : k < 16) (ha : a + 2 ^ 16 < 2 ^ 60) (hc : c < 2 ^ 16) : bits (word (k * 2 ^ 60 + a) + word c) 63 60 = k := by
  rw [bits, BitVec.toNat_add, word_toNat, word_toNat]
  omega

/-- A message goes out behind those that wait, with its kind in the top four bits of its header. -/
theorem chSend_up (h : (getC s ch).up = true) (hkind : kind < 16) (hpay : pay.length < 256) :
    ∃ m : OutMsg, (getC (chSend s ch kind dst pay src) ch).out = (getC s ch).out ++ [m] ∧ bits m.hdr 63 60 = kind ∧ m.pay = pay := by
  unfold chSend
  extract_lets x own h0 m
  have hup : ¬(!x.up) = true := by rw [show x.up = true from h]; exact Bool.false_ne_true
  have hnew : ({ x with txSeq := x.txSeq + 1, out := x.out ++ [m] } : Chan) ≠ Chan.fresh := fun e => hup (congrArg (fun y => !y.up) e)
  rw [if_neg hup, getC_setC_self _ _ _ hnew]
  refine ⟨m, rfl, ?_, rfl⟩
  have hseq := x.txSeq.isLt
  have hlow : src.getD own % 128 * 2 ^ 48 + dst % 128 * 2 ^ 40 + x.txSeq.toNat * 2 ^ 24 + pay.length * 2 ^ 16 + 2 ^ 16 < 2 ^ 60 := by omega
  have hkindbits := header_kind kind _ _ hkind hlow (crc16_lt ((bytesHigh h0).take 6 ++ pay.flatMap bytesHigh))
  simp only [← Nat.add_assoc] at hkindbits
  exact hkindbits

end

theorem sends_forAll {α : Type} (l : List α) (f : State → α → State) (hf : ∀ (t : State) (a : α), Sends t (f t a)) : Sends s (forAll l f s) :=
  forAll_keeps (Sends s) l f s (.refl s) fun t a _ ht => ht.trans (hf t a)

theorem sends_electSendAll : Sends s (electSendAll s) := sends_forAll _ _ _ fun t _ => sends_chSend t ..

theorem sends_nameSend (hub hops : Nat) (no : Option Nat) : Sends s (nameSend s hub hops no) := sends_forAll _ _ _ fun t _ => sends_chSend t ..

/-! ### Messages taken in -/

section
variable (ch : Nat) (lseq : BitVec 16)

theorem seqIn_down (h : (getC s ch).up = false) : seqIn s ch lseq = s := by
  unfold seqIn
  exact if_pos (by rw [h]; rfl)

/-- The number after the one taken in is the next one due, and the numbers missed count in IHB_CHn.LOST. -/
theorem seqIn_up (h : (getC s ch).up = true) :
    seqIn s ch lseq = countF (setC s ch { getC s ch with rxSeq := lseq + 1 }) (rIhbCh + 8 * ch) 31 16 (lseq - (getC s ch).rxSeq).toNat := by
  unfold seqIn
  exact if_neg (by rw [h]; exact Bool.false_ne_true)

/-- A message taken in changes its channel's next number and the registers alone. -/
theorem seqIn_eq : seqIn s ch lseq = { s with chans := (seqIn s ch lseq).chans, regs := (seqIn s ch lseq).regs } := by
  unfold seqIn
  extract_lets x
  split <;> rfl

theorem getC_seqIn (h : (getC s ch).up = true) : getC (seqIn s ch lseq) ch = { getC s ch with rxSeq := lseq + 1 } := by
  rw [seqIn_up s ch lseq h, getC_countF]
  exact getC_setC_self _ _ { getC s ch with rxSeq := lseq + 1 } fun e => Bool.noConfusion (h.symm.trans (congrArg (fun y => y.up) e))

theorem getC_seqIn_ne {n : Nat} (h : n ≠ ch) : getC (seqIn s ch lseq) n = getC s n := by
  unfold seqIn
  extract_lets x
  split
  · rfl
  · rw [getC_countF, getC_setC_ne _ _ _ _ h]

theorem regF_seqIn_lost (hs : canonical s = true) (h : (getC s ch).up = true) : regF (seqIn s ch lseq) (rIhbCh + 8 * ch) 31 16 =
    min (regF s (rIhbCh + 8 * ch) 31 16 + (lseq - (getC s ch).rxSeq).toNat) 0xFFFF := by
  rw [seqIn_up s ch lseq h]
  exact regF_countF _ _ _ _ _ (canonical_regs s hs) (by decide) (by decide)

/-- Any other register keeps its value. -/
theorem reg_seqIn_ne {o : Nat} (h : o ≠ rIhbCh + 8 * ch) : reg (seqIn s ch lseq) o = reg s o := by
  unfold seqIn
  extract_lets x
  split
  · rfl
  · exact reg_setReg_ne _ _ _ _ h

theorem canonical_seqIn (hs : canonical s = true) : canonical (seqIn s ch lseq) = true := (Keeps.seqIn (.refl s)).canonical hs

@[simp] theorem seqIn_ht : (seqIn s ch lseq).ht = s.ht := by rw [seqIn_eq]
@[simp] theorem seqIn_time : (seqIn s ch lseq).time = s.time := by rw [seqIn_eq]
@[simp] theorem seqIn_elect : (seqIn s ch lseq).elect = s.elect := by rw [seqIn_eq]
@[simp] theorem seqIn_routes : (seqIn s ch lseq).routes = s.routes := by rw [seqIn_eq]
@[simp] theorem seqIn_blockedNums : (seqIn s ch lseq).blockedNums = s.blockedNums := by rw [seqIn_eq]

theorem seqIn_chanUp (n : Nat) : (getC (seqIn s ch lseq) n).up = (getC s n).up := by
  by_cases hn : n = ch
  · subst hn
    cases hup : (getC s n).up with
    | true => rw [getC_seqIn s n lseq hup, hup]
    | false => rw [seqIn_down s n lseq hup, hup]
  · rw [getC_seqIn_ne s ch lseq hn]

end

end

end Sys2Proof.Machine
end


section
/-! SUPPORT. What the operations of hub time and of the election change (R318 to R332, R325 to R327). -/

namespace Sys2Proof.Machine

section
variable (s : State)

/-! ### TIM_STAT (R329) -/

/-- A change of TIM_STAT changes the time base's state and the funnel. -/
theorem timeUpdate_eq : timeUpdate s = { s with time := (timeUpdate s).time, funnel := (timeUpdate s).funnel } := by
  unfold timeUpdate
  extract_lets n
  split
  next => rfl
  next => rw [hevt_eq]

theorem timeUpdate_time : (timeUpdate s).time = { s.time with state := timeState s, holdSince := (timeUpdate s).time.holdSince } := by
  unfold timeUpdate
  extract_lets n
  split
  next h => rw [show timeState s = s.time.state from h]
  next => rw [hevt_time]

@[simp] theorem timeUpdate_ht : (timeUpdate s).ht = s.ht := by rw [timeUpdate_eq]
@[simp] theorem timeUpdate_elect : (timeUpdate s).elect = s.elect := by rw [timeUpdate_eq]
@[simp] theorem timeUpdate_chans : (timeUpdate s).chans = s.chans := by rw [timeUpdate_eq]
@[simp] theorem timeUpdate_evPend : (timeUpdate s).evPend = s.evPend := by rw [timeUpdate_eq]
@[simp] theorem timeUpdate_reg (o : Nat) : reg (timeUpdate s) o = reg s o := by
  rw [timeUpdate_eq]
  rfl
@[simp] theorem timeUpdate_state : (timeUpdate s).time.state = timeState s := by rw [timeUpdate_time]
@[simp] theorem timeUpdate_trim : (timeUpdate s).time.trim = s.time.trim := by rw [timeUpdate_time]
@[simp] theorem timeUpdate_slew : (timeUpdate s).time.slew = s.time.slew := by rw [timeUpdate_time]
@[simp] theorem timeUpdate_refLoss : (timeUpdate s).time.refLoss = s.time.refLoss := by rw [timeUpdate_time]
@[simp] theorem timeUpdate_measuring : (timeUpdate s).time.measuring = s.time.measuring := by rw [timeUpdate_time]
@[simp] theorem timeUpdate_exLeft : (timeUpdate s).time.exLeft = s.time.exLeft := by rw [timeUpdate_time]
@[simp] theorem timeUpdate_exDone : (timeUpdate s).time.exDone = s.time.exDone := by rw [timeUpdate_time]
@[simp] theorem timeUpdate_exOut : (timeUpdate s).time.exOut = s.time.exOut := by rw [timeUpdate_time]
@[simp] theorem timeUpdate_lastTheta : (timeUpdate s).time.lastTheta = s.time.lastTheta := by rw [timeUpdate_time]
@[simp] theorem timeUpdate_parent : (timeUpdate s).time.parent = s.time.parent := by rw [timeUpdate_time]
@[simp] theorem timeUpdate_depth : (timeUpdate s).time.depth = s.time.depth := by rw [timeUpdate_time]
@[simp] theorem timeUpdate_isNew : (timeUpdate s).time.isNew = s.time.isNew := by rw [timeUpdate_time]

/-! ### Measurements (R328, R329) -/

theorem startMeasure_root (h : s.time.parent = none) : startMeasure s = s := if_pos (by rw [h]; rfl)

theorem startMeasure_child (h : s.time.parent ≠ none) : startMeasure s =
    { s with time := { s.time with measuring := true, exLeft := 8, exDone := [], exOut := [], nextEx := s.ht } } :=
  if_neg fun hnone => h (Option.isNone_iff_eq_none.1 hnone)

/-- A measurement that starts changes the time base, but not its parent and depth, its losses, its rates and whether the hub is new. -/
theorem startMeasure_eq : ∃ (m : Bool) (k e : Nat) (d : List (Int × Int)) (o : List (Nat × Nat)), startMeasure s =
    { s with time := { s.time with measuring := m, exLeft := k, exDone := d, exOut := o, nextEx := e } } := by
  by_cases h : s.time.parent = none
  · exact ⟨_, _, _, _, _, startMeasure_root s h⟩
  · exact ⟨_, _, _, _, _, startMeasure_child s h⟩

@[simp] theorem startMeasure_ht : (startMeasure s).ht = s.ht := by
  obtain ⟨m, k, e, d, o, heq⟩ := startMeasure_eq s
  rw [heq]
@[simp] theorem startMeasure_elect : (startMeasure s).elect = s.elect := by
  obtain ⟨m, k, e, d, o, heq⟩ := startMeasure_eq s
  rw [heq]
@[simp] theorem startMeasure_chans : (startMeasure s).chans = s.chans := by
  obtain ⟨m, k, e, d, o, heq⟩ := startMeasure_eq s
  rw [heq]
@[simp] theorem startMeasure_evPend : (startMeasure s).evPend = s.evPend := by
  obtain ⟨m, k, e, d, o, heq⟩ := startMeasure_eq s
  rw [heq]
@[simp] theorem startMeasure_parent : (startMeasure s).time.parent = s.time.parent := by
  obtain ⟨m, k, e, d, o, heq⟩ := startMeasure_eq s
  rw [heq]
@[simp] theorem startMeasure_depth : (startMeasure s).time.depth = s.time.depth := by
  obtain ⟨m, k, e, d, o, heq⟩ := startMeasure_eq s
  rw [heq]
@[simp] theorem startMeasure_refLoss : (startMeasure s).time.refLoss = s.time.refLoss := by
  obtain ⟨m, k, e, d, o, heq⟩ := startMeasure_eq s
  rw [heq]
@[simp] theorem startMeasure_isNew : (startMeasure s).time.isNew = s.time.isNew := by
  obtain ⟨m, k, e, d, o, heq⟩ := startMeasure_eq s
  rw [heq]

/-- A measurement with exchanges to make goes on. -/
theorem finishMeasure_left (h : s.time.exLeft ≠ 0) : finishMeasure s = s := by
  unfold finishMeasure
  exact if_pos (by simp [h])

/-- A θ kept shows in TIM_OFFSET and TIM_DELAY. -/
theorem keepTheta_keeps (hs : canonical s = true) (d theta : Int) : reg (keepTheta s d theta) rTimOffset = word (twos 64 theta) ∧
    reg (keepTheta s d theta) rTimDelay = word (twos 32 d) ∧ (keepTheta s d theta).time.lastTheta = some (theta, s.ht) := by
  have hR := canonical_regs s hs
  have hread (o : Nat) : reg (keepTheta s d theta) o = reg (setReg (setReg s rTimOffset (word (twos 64 theta))) rTimDelay (word (twos 32 d))) o := rfl
  refine ⟨?_, ?_, rfl⟩
  · rw [hread, reg_setReg_ne _ _ _ _ (by decide), reg_setReg _ _ _ _ hR, if_pos rfl]
  · have hR' : tabWf 0 (setReg s rTimOffset (word (twos 64 theta))).regs = true := regPut_wf _ _ _ _ hR
    rw [hread, reg_setReg _ _ _ _ hR', if_pos rfl]

/-- A tracking exchange keeps its θ. -/
theorem track_keeps (hs : canonical s = true) (d theta : Int) : reg (track s d theta) rTimOffset = word (twos 64 theta) ∧
    reg (track s d theta) rTimDelay = word (twos 32 d) ∧ (track s d theta).time.lastTheta = some (theta, s.ht) := by
  unfold track
  extract_lets t trim
  exact keepTheta_keeps { s with time := { t with trim := trim } } hs d theta

theorem finishMeasure_keeps : (finishMeasure s).ht = s.ht ∧ (finishMeasure s).time.exOut = s.time.exOut := by
  unfold finishMeasure
  split
  · exact ⟨rfl, rfl⟩
  split
  · exact ⟨rfl, rfl⟩
  split
  · exact ⟨rfl, rfl⟩
  · exact ⟨rfl, rfl⟩

/-! ### The election (R326, R327) -/

/-- A hub whose election begins, before it tells its keys. -/
def electBegun : State :=
  { s with
    elect := { active := true, lastImp := s.ht, cfg := some (ownKey s), cfgHops := 0, cfgCh := none, pkg := some (ownKey s), pkgHops := 0,
               pkgCh := none, maxTime := max s.ht s.elect.maxTime },
    time := { s.time with slew := 0 } }

theorem sends_electStart : Sends (electBegun s) (electStart s) := sends_electSendAll _

@[simp] theorem electStart_ht : (electStart s).ht = s.ht := by
  rw [(sends_electStart s).eq]
  rfl
@[simp] theorem electStart_elect : (electStart s).elect = (electBegun s).elect := by rw [(sends_electStart s).eq]
@[simp] theorem electStart_time : (electStart s).time = { s.time with slew := 0 } := by
  rw [(sends_electStart s).eq]
  rfl
@[simp] theorem electStart_evPend : (electStart s).evPend = s.evPend := by
  rw [(sends_electStart s).eq]
  rfl

section
variable (e : ElectSt) (ch h : Nat) (k : Key)

/-- A key at a distance beats one known that is greater, or the same and farther. -/
theorem better_some (b : Key) (bh : Nat) : better k h (some b) bh = true ↔ keyNum k < keyNum b ∨ keyNum k = keyNum b ∧ h < bh := by
  unfold better
  generalize keyNum k = x
  rw [Option.elim_some]
  generalize keyNum b = y
  simp only [Bool.or_eq_true, Bool.and_eq_true, decide_eq_true_eq]

theorem takeCfg_better {b : Key} (hb : e.cfg = some b) (hlt : keyNum k < keyNum b) :
    takeCfg e ch k h = { e with cfg := some k, cfgHops := h, cfgCh := some ch } := by
  rw [takeCfg, hb, if_pos ((better_some h k b _).2 (.inl hlt))]

theorem takeCfg_worse {b : Key} (hb : e.cfg = some b) (hlt : keyNum b < keyNum k) : takeCfg e ch k h = e := by
  have hne : b ≠ k := fun heq => absurd hlt (by rw [heq]; exact Nat.lt_irrefl _)
  have hbetter : ¬better k h e.cfg e.cfgHops = true := by
    rw [hb, better_some]
    generalize keyNum k = x at hlt ⊢
    generalize keyNum b = y at hlt ⊢
    omega
  have hlower : ¬lowerCh k h ch e.cfg e.cfgHops e.cfgCh = true := by simp [lowerCh, hb, hne]
  rw [takeCfg, if_neg hbetter, if_neg hlower]

/-- A configuration key changes neither the election's course nor MAXTIME. -/
theorem takeCfg_keeps : (takeCfg e ch k h).active = e.active ∧ (takeCfg e ch k h).maxTime = e.maxTime := by
  unfold takeCfg
  split
  · exact ⟨rfl, rfl⟩
  split
  · exact ⟨rfl, rfl⟩
  · exact ⟨rfl, rfl⟩

/-- A package key changes what the election knows of its package alone. -/
theorem takePkg_eq : ∃ (p : Option Key) (d : Nat) (c : Option Nat), takePkg e ch k h = { e with pkg := p, pkgHops := d, pkgCh := c } := by
  unfold takePkg
  split
  · exact ⟨_, _, _, rfl⟩
  split
  · exact ⟨_, _, _, rfl⟩
  · exact ⟨_, _, _, rfl⟩

end

/-- A parent taken sets the time tree at this hub. -/
theorem takeParent_keeps (p : Option Nat) (depth : Nat) : (takeParent s p depth).time.parent = p ∧ (takeParent s p depth).time.depth = depth ∧
    (takeParent s p depth).ht = s.ht ∧ (takeParent s p depth).elect = s.elect := by
  unfold takeParent
  split
  next h => exact ⟨h.symm, rfl, rfl, rfl⟩
  next => exact ⟨startMeasure_parent _, startMeasure_depth _, startMeasure_ht _, startMeasure_elect _⟩

/-! ### Steps of hub time (R320) -/

/-- Hub time stepped forward once, and the start-up that waits for it goes on. -/
theorem bootAdvance_alignTo (n : Nat) : (bootAdvance (alignTo s n)).ht = max s.ht n ∧ (bootAdvance (alignTo s n)).time.isNew = false := by
  obtain ⟨⟨-, -, hht, hnew⟩, -⟩ := Keeps.bootAdvance (.refl (alignTo s n))
  rw [hht, hnew, alignTo, timeUpdate_ht, startMeasure_ht, timeUpdate_isNew, startMeasure_isNew]
  exact ⟨rfl, rfl⟩

end

end Sys2Proof.Machine
end


section
/-! PROPERTY. Exchanges with the parent measure the offset of hub time and the delay (R328, R329). -/

namespace Sys2Proof.Machine

section
variable (s : State)

/-! ### Exchanges (R328, R329) -/

/-- PROBE is answered on its channel with the time it was taken in. -/
theorem exec_probe_answers (ch : Fin 8) (lseq : BitVec 16) (t1 : Word) (h : (getC s ch).up = true) : ∃ (t : State) (m : OutMsg),
    exec (.probe ch lseq t1) s = .next t ∧ (getC t ch).out = (getC s ch).out ++ [m] ∧ bits m.hdr 63 60 = 3 ∧
    m.pay = [t1, word s.ht, word s.ht] := by
  have hup : (getC (seqIn s ch lseq) ch).up = true := (seqIn_chanUp s ch lseq ch).trans h
  obtain ⟨m, hout, hkind, hpay⟩ := chSend_up (seqIn s ch lseq) ch 3 0 [t1, word (seqIn s ch lseq).ht, word (seqIn s ch lseq).ht] none hup
    (by decide) (by simp)
  refine ⟨_, m, rfl, hout.trans ?_, hkind, hpay.trans ?_⟩
  · rw [getC_seqIn s ch lseq h]
  · rw [seqIn_ht]

theorem exec_probe_down (ch : Fin 8) (lseq : BitVec 16) (t1 : Word) (h : (getC s ch).up = false) : exec (.probe ch lseq t1) s = .next s := by
  have hexec : exec (.probe ch lseq t1) s = .next (chSend (seqIn s ch lseq) ch 3 0 [t1, word (seqIn s ch lseq).ht, word (seqIn s ch lseq).ht]) := rfl
  rw [hexec, seqIn_down s ch lseq h, chSend_down s _ _ _ _ _ h]

section
variable (ch : Nat) (hparent : s.time.parent = some ch)
include hparent

/-- An exchange falls due. -/
theorem exec_timeExchangeTick_due (hat : s.time.nextEx ≤ s.ht) (hdue : s.time.measuring = true ∧ s.time.exLeft ≠ 0 ∨
    s.time.measuring = false ∧ s.time.isNew = false ∧ bit (reg s rTimCtrl) 1 = true) : ∃ t : State,
    exec .timeExchangeTick s = .next t ∧ t.time.exOut = s.time.exOut ++ [(s.ht, ch)] ∧ t.time.exLeft = s.time.exLeft - 1 := by
  have hexec : exec .timeExchangeTick s = execTimeExchangeTick s := rfl
  rw [hexec]
  unfold execTimeExchangeTick
  dsimp only
  rw [hparent]
  dsimp only
  rw [if_pos]
  · exact ⟨_, rfl, rfl, rfl⟩
  · obtain ⟨hm, hleft⟩ | ⟨hm, hnew, htrack⟩ := hdue
    · simp [hat, hm, hleft]
    · simp [hat, hm, hnew, htrack]

theorem exec_timeExchangeTick_idle (hidle : s.ht < s.time.nextEx ∨ s.time.measuring = true ∧ s.time.exLeft = 0 ∨
    s.time.measuring = false ∧ (s.time.isNew = true ∨ bit (reg s rTimCtrl) 1 = false)) : exec .timeExchangeTick s = .next s := by
  have hexec : exec .timeExchangeTick s = execTimeExchangeTick s := rfl
  rw [hexec]
  unfold execTimeExchangeTick
  dsimp only
  rw [hparent]
  dsimp only
  rw [if_neg]
  · rfl
  · obtain hat | ⟨hm, hleft⟩ | ⟨hm, hnew | htrack⟩ := hidle
    · simp [hat]
    · simp [hm, hleft]
    · simp [hm, hnew]
    · simp [hm, htrack]

end

theorem exec_timeExchangeTick_root (h : s.time.parent = none) : exec .timeExchangeTick s = .next s := by
  have hexec : exec .timeExchangeTick s = execTimeExchangeTick s := rfl
  rw [hexec]
  unfold execTimeExchangeTick
  dsimp only
  rw [h]
  rfl

theorem exec_probeTimeout_none (h : ∀ e : Nat × Nat, e ∈ s.time.exOut → s.ht ≤ e.1 + 8000) : exec .probeTimeout s = .next s :=
  if_pos (List.filter_eq_self.2 fun e he => decide_eq_true (h e he))

/-- An exchange that has waited more than 8,000 ht is dropped. -/
theorem exec_probeTimeout_drops (h : ∃ e : Nat × Nat, e ∈ s.time.exOut ∧ e.1 + 8000 < s.ht) : ∃ t : State, exec .probeTimeout s = .next t ∧
    t.time.exOut = (s.time.exOut.filter fun e => s.ht ≤ e.1 + 8000) ∧ t.ht = s.ht := by
  obtain ⟨e, he, hlate⟩ := h
  have hleft : (s.time.exOut.filter fun e => decide (s.ht ≤ e.1 + 8000)) ≠ s.time.exOut := fun heq =>
    Nat.not_le.2 hlate (of_decide_eq_true (List.filter_eq_self.1 heq e he))
  refine ⟨_, if_neg hleft, ?_, ?_⟩
  · rw [timeUpdate_exOut, (finishMeasure_keeps _).2]
  · rw [timeUpdate_ht, (finishMeasure_keeps _).1]

/-- A reply that answers no exchange changes nothing but the channel. -/
theorem exec_probeReply_foreign (ch : Fin 8) (lseq : BitVec 16) (t1 t2 t3 : Word)
    (h : s.time.exOut.find? (fun e => e.2 == ch.val && t1 == word e.1) = none) :
    exec (.probeReply ch lseq t1 t2 t3) s = .next (seqIn s ch lseq) := by
  have hexec : exec (.probeReply ch lseq t1 t2 t3) s = execProbeReply ch lseq t1 t2 t3 s := rfl
  rw [hexec]
  unfold execProbeReply
  dsimp only
  rw [seqIn_time, h]
  rfl

section
variable (sent : Nat) (ch : Fin 8) (lseq : BitVec 16) (t2 t3 : Word) (hout : s.time.exOut = [(sent, ch.val)])
include hout

theorem exOut_answered : s.time.exOut.find? (fun e => e.2 == ch.val && word sent == word e.1) = some (sent, ch.val) := by
  rw [hout, List.find?_cons_of_pos (by simp)]

theorem exec_probeReply_late (hlate : sent + 8000 < s.ht) : exec (.probeReply ch lseq (word sent) t2 t3) s = .next (seqIn s ch lseq) := by
  have hexec : exec (.probeReply ch lseq (word sent) t2 t3) s = execProbeReply ch lseq (word sent) t2 t3 s := rfl
  rw [hexec]
  unfold execProbeReply
  dsimp only
  rw [seqIn_time, exOut_answered s sent ch hout]
  exact if_neg (by rw [seqIn_ht]; omega)

/-- A reply in time measures the offset and the delay. -/
theorem exec_probeReply_answers (hs : canonical s = true) (d theta : Int) (hd : d = (((s.ht : Int) - sent) - ((t3.toNat : Int) - t2.toNat)) * 8)
    (htheta : theta = (((t2.toNat : Int) - sent) + ((t3.toNat : Int) - s.ht)) * 8) (hin : s.ht ≤ sent + 8000) : ∃ t : State,
    exec (.probeReply ch lseq (word sent) t2 t3) s = .next t ∧ t.time.exOut = [] ∧ t.ht = s.ht ∧
      (s.time.measuring = true → s.time.exLeft ≠ 0 → t.time.exDone = s.time.exDone ++ [(d, theta)]) ∧
      (s.time.measuring = false → reg t rTimOffset = word (twos 64 theta) ∧ reg t rTimDelay = word (twos 32 d) ∧
        t.time.lastTheta = some (theta, s.ht)) := by
  have hexec : exec (.probeReply ch lseq (word sent) t2 t3) s = execProbeReply ch lseq (word sent) t2 t3 s := rfl
  rw [hexec]
  unfold execProbeReply
  dsimp only
  rw [seqIn_time, exOut_answered s sent ch hout, seqIn_ht]
  dsimp only
  rw [if_pos hin, ← hd, ← htheta, hout, List.erase_cons_head]
  cases hm : s.time.measuring with
  | true =>
    refine ⟨_, rfl, ?_, ?_, fun _ hleft => ?_, fun hno => Bool.noConfusion hno⟩
    · rw [timeUpdate_exOut, if_pos rfl, (finishMeasure_keeps _).2]
    · rw [timeUpdate_ht, if_pos rfl, (finishMeasure_keeps _).1]
    · rw [timeUpdate_exDone, if_pos rfl, finishMeasure_left]
      exact hleft
  | false =>
    refine ⟨_, rfl, ?_, ?_, fun hno => Bool.noConfusion hno, fun _ => ?_⟩
    · rw [timeUpdate_exOut, if_neg Bool.false_ne_true]
      rfl
    · rw [timeUpdate_ht, if_neg Bool.false_ne_true]
      rfl
    · rw [timeUpdate_reg, timeUpdate_reg, timeUpdate_lastTheta, if_neg Bool.false_ne_true]
      exact track_keeps _ (by exact canonical_seqIn s ch lseq hs) d theta

end

/-- A reply to no exchange, or a late one, changes nothing but the channel. -/
theorem exec_probeReply_unanswered (sent c : Nat) (ch : Fin 8) (lseq : BitVec 16) (t1 t2 t3 : Word) (hout : s.time.exOut = [(sent, c)])
    (h : c ≠ ch.val ∨ t1 ≠ word sent ∨ sent + 8000 < s.ht) : exec (.probeReply ch lseq t1 t2 t3) s = .next (seqIn s ch lseq) := by
  by_cases hmine : c = ch.val ∧ t1 = word sent
  · obtain ⟨rfl, rfl⟩ := hmine
    exact exec_probeReply_late s sent ch lseq t2 t3 hout (h.resolve_left (not_not_intro rfl) |>.resolve_left (not_not_intro rfl))
  · refine exec_probeReply_foreign s ch lseq t1 t2 t3 ?_
    rw [hout, List.find?_singleton, if_neg]
    rw [Bool.and_eq_true, beq_iff_eq, beq_iff_eq]
    exact hmine

end

end Sys2Proof.Machine
end


section
/-! PROPERTY. Elections set the roots and the tree, and the first alignment steps time (R319, R320, R325 to R331). -/

namespace Sys2Proof.Machine

section
variable (s : State)

/-! ### Measurements and elections asked for (R331, R340) -/

section
variable (who : Who)

theorem exec_timMeasure_barred (h : isRoot s who 3 = false) : exec (.timMeasure who) s = .next s := if_neg (by rw [h]; exact Bool.false_ne_true)

theorem exec_ihbElect_barred (h : isRoot s who 3 = false) : exec (.ihbElect who) s = .next s := if_neg (by rw [h]; exact Bool.false_ne_true)

section
variable (h : isRoot s who 3 = true)
include h

theorem exec_timMeasure_starts (hparent : s.time.parent ≠ none) : ∃ t : State, exec (.timMeasure who) s = .next t ∧
    t.time.measuring = true ∧ t.time.exLeft = 8 ∧ t.time.exDone = [] := by
  refine ⟨_, if_pos h, ?_⟩
  rw [timeUpdate_measuring, timeUpdate_exLeft, timeUpdate_exDone, startMeasure_child s hparent]
  exact ⟨rfl, rfl, rfl⟩

theorem exec_ihbElect_starts : ∃ t : State, exec (.ihbElect who) s = .next t ∧ t.elect.active = true ∧ t.elect.cfg = some (ownKey s) ∧
    t.elect.pkg = some (ownKey s) ∧ t.elect.cfgHops = 0 ∧ t.elect.lastImp = s.ht ∧ t.time.slew = 0 := by
  refine ⟨_, if_pos h, ?_⟩
  rw [timeUpdate_elect, timeUpdate_slew, electStart_elect, electStart_time]
  exact ⟨rfl, rfl, rfl, rfl, rfl, rfl⟩

end

end

/-! ### REFCLK (R319) -/

theorem exec_refclkLoss_lost (h : s.time.refLoss = true) : exec .refclkLoss s = .next s := if_pos h

theorem exec_refclkReturn_there (h : s.time.refLoss = false) : exec .refclkReturn s = .next s := if_neg (by rw [h]; exact Bool.false_ne_true)

theorem exec_refclkReturn_measures (hs : canonical s = true) (h : s.time.refLoss = true) : ∃ t : State, exec .refclkReturn s = .next t ∧
    t.time.refLoss = false ∧ LineRaised t 5 ∧ (s.time.parent ≠ none → t.time.measuring = true ∧ t.time.exLeft = 8) := by
  have hraised := healthChange_raises { s with time := { s.time with refLoss := false } } 15 0 false (canonical_evPend s hs)
  refine ⟨_, if_pos h, ?_, lineRaised_of_evPend hraised ?_, fun hparent => ?_⟩
  · rw [timeUpdate_refLoss, startMeasure_refLoss, healthChange_time]
  · rw [timeUpdate_evPend, startMeasure_evPend]
  · rw [timeUpdate_measuring, timeUpdate_exLeft, startMeasure_child _ (by rw [healthChange_time]; exact hparent)]
    exact ⟨rfl, rfl⟩

/-- A hub without REFCLK holds over (Table 12.4). -/
theorem timeState_refLoss (h : s.time.refLoss = true) : timeState s = 3 := if_pos (by rw [h]; rfl)

theorem exec_refclkLoss_holds (hs : canonical s = true) (h : s.time.refLoss = false) : ∃ t : State, exec .refclkLoss s = .next t ∧
    t.time.refLoss = true ∧ t.time.state = 3 ∧ t.time.trim = s.time.trim ∧ LineRaised t 5 := by
  have hraised := healthChange_raises { s with time := { s.time with refLoss := true } } 15 0 true (canonical_evPend s hs)
  refine ⟨_, if_neg (by rw [h]; exact Bool.false_ne_true), ?_, ?_, ?_, lineRaised_of_evPend hraised (timeUpdate_evPend _)⟩
  · rw [timeUpdate_refLoss, healthChange_time]
  · rw [timeUpdate_state, timeState_refLoss _ (by rw [healthChange_time])]
  · rw [timeUpdate_trim, healthChange_time]

/-! ### The election (R326, R327) -/

section
variable (ch : Fin 8) (lseq : BitVec 16) (m : ElectMsg)

theorem exec_elect_down (h : (getC s ch).up = false) : exec (.elect ch lseq m) s = .next s := by
  have hexec : exec (.elect ch lseq m) s = .next (seqIn s ch lseq) := if_pos (by rw [seqIn_chanUp, h]; rfl)
  rw [hexec, seqIn_down s ch lseq h]

/-- The hub that takes an ELECT message in: with its election open. -/
def electOpen : State := if (seqIn s ch lseq).elect.active then seqIn s ch lseq else electStart (seqIn s ch lseq)

/-- What its election knows after the message. -/
def electTaken : ElectSt :=
  let e := (electOpen s ch lseq).elect
  let e1 := takeCfg e ch m.cfg (m.cfgHops + 1)
  let e2 := (if peerSamePkg (seqIn s ch lseq) ch then m.pkg else none).elim e1 fun x => takePkg e1 ch x.1 (x.2 + 1)
  { e2 with maxTime := max e2.maxTime m.maxTime }

theorem electOpen_of_active (h : s.elect.active = true) : electOpen s ch lseq = seqIn s ch lseq := if_pos (by rw [seqIn_elect, h])

theorem electOpen_ht : (electOpen s ch lseq).ht = s.ht := by
  unfold electOpen
  split
  · exact seqIn_ht s ch lseq
  · rw [electStart_ht, seqIn_ht]

theorem electOpen_active : (electOpen s ch lseq).elect.active = true := by
  unfold electOpen
  split
  next h => exact h
  next =>
    rw [electStart_elect]
    rfl

/-- A message changes the configuration key as takeCfg says, and raises MAXTIME. -/
theorem electTaken_eq : ∃ (p : Option Key) (d : Nat) (c : Option Nat), electTaken s ch lseq m =
    { takeCfg (electOpen s ch lseq).elect ch m.cfg (m.cfgHops + 1) with
      pkg := p, pkgHops := d, pkgCh := c, maxTime := max (electOpen s ch lseq).elect.maxTime m.maxTime } := by
  unfold electTaken
  extract_lets e e1 e2
  have hmax : e1.maxTime = (electOpen s ch lseq).elect.maxTime := (takeCfg_keeps ..).2
  have h2 : ∃ (p : Option Key) (d : Nat) (c : Option Nat), e2 = { e1 with pkg := p, pkgHops := d, pkgCh := c } := by
    cases hpk : (if peerSamePkg (seqIn s ch lseq) ch then m.pkg else none) with
    | none => exact ⟨e1.pkg, e1.pkgHops, e1.pkgCh, by simp only [e2, hpk, Option.elim_none]⟩
    | some x =>
      obtain ⟨p, d, c, heq⟩ := takePkg_eq e1 ch (x.2 + 1) x.1
      exact ⟨p, d, c, by simp only [e2, hpk, Option.elim_some, heq]⟩
  obtain ⟨p, d, c, heq⟩ := h2
  exact ⟨p, d, c, by rw [heq, ← hmax]⟩

theorem exec_elect_takes (h : (getC s ch).up = true) : ∃ (t : State) (l : Nat), exec (.elect ch lseq m) s = .next t ∧ t.ht = s.ht ∧
    t.elect = { electTaken s ch lseq m with lastImp := l } ∧
    (better m.cfg (m.cfgHops + 1) (electOpen s ch lseq).elect.cfg (electOpen s ch lseq).elect.cfgHops = true → l = s.ht) := by
  have hexec : exec (.elect ch lseq m) s = execElect ch lseq m s := rfl
  rw [hexec]
  unfold execElect
  extract_lets u s1 e pk e1 e2 e3 improved
  rw [if_neg (by rw [show (getC u ch).up = true from (seqIn_chanUp s ch lseq ch).trans h]; exact Bool.false_ne_true)]
  have hht : s1.ht = s.ht := electOpen_ht s ch lseq
  by_cases himp : improved = true
  · rw [if_pos himp]
    have hsent := (sends_electSendAll { s1 with elect := { e3 with lastImp := s1.ht } }).eq
    refine ⟨_, s.ht, rfl, ?_, ?_, fun _ => rfl⟩
    · rw [hsent]
      exact hht
    · rw [hsent, hht]
      rfl
  · rw [if_neg himp]
    refine ⟨_, e3.lastImp, rfl, hht, rfl, fun hbetter => absurd ?_ himp⟩
    simp only [improved]
    rw [show better m.cfg (m.cfgHops + 1) e.cfg e.cfgHops = true from hbetter]
    rfl

/-- ELECT joins an election, or opens one; a smaller key is taken with its distance and channel, a greater one is not. -/
theorem exec_elect_up (h : (getC s ch).up = true) : ∃ t : State, exec (.elect ch lseq m) s = .next t ∧ t.elect.active = true ∧ t.ht = s.ht ∧
    (s.elect.active = true → t.elect.maxTime = max s.elect.maxTime m.maxTime ∧ ∀ b : Key, s.elect.cfg = some b →
      (keyNum m.cfg < keyNum b → t.elect.cfg = some m.cfg ∧ t.elect.cfgHops = m.cfgHops + 1 ∧ t.elect.cfgCh = some ch.val ∧
        t.elect.lastImp = s.ht) ∧
      (keyNum b < keyNum m.cfg → t.elect.cfg = some b ∧ t.elect.cfgHops = s.elect.cfgHops ∧ t.elect.cfgCh = s.elect.cfgCh)) := by
  obtain ⟨t, l, hexec, hht, helect, hl⟩ := exec_elect_takes s ch lseq m h
  obtain ⟨p, d, c, htaken⟩ := electTaken_eq s ch lseq m
  rw [htaken] at helect
  refine ⟨t, hexec, ?_, hht, fun hactive => ?_⟩
  · rw [helect]
    exact (takeCfg_keeps _ _ _ _).1.trans (electOpen_active s ch lseq)
  · have hknown : (electOpen s ch lseq).elect = s.elect := by rw [electOpen_of_active s ch lseq hactive, seqIn_elect]
    rw [hknown] at helect hl
    refine ⟨by rw [helect], fun b hb => ⟨fun hlt => ?_, fun hgt => ?_⟩⟩
    · rw [takeCfg_better _ _ _ _ hb hlt] at helect
      rw [helect]
      exact ⟨rfl, rfl, rfl, hl (hb ▸ (better_some _ _ _ _).2 (.inl hlt))⟩
    · rw [takeCfg_worse _ _ _ _ hb hgt] at helect
      rw [helect]
      exact ⟨hb, rfl, rfl⟩

end

theorem exec_electionClose_open (h : s.elect.active = false ∨ s.ht < s.elect.lastImp + 40000) : exec .electionClose s = .next s := by
  refine if_neg fun hclose => ?_
  obtain ⟨hactive, hat⟩ := hclose
  rcases h with hno | hearly
  · rw [hno] at hactive
    exact Bool.false_ne_true hactive
  · exact Nat.not_le.2 hearly hat

/-- An election that has gone 40,000 ht without an improvement sets the parent and the depth. -/
theorem exec_electionClose_closes (hactive : s.elect.active = true) (hat : s.elect.lastImp + 40000 ≤ s.ht) : ∃ t : State,
    exec .electionClose s = .next t ∧ t.elect.active = false ∧
      t.time.parent = (if s.elect.pkgCh.isNone then s.elect.cfgCh else s.elect.pkgCh) ∧ t.time.depth = s.elect.cfgHops ∧ t.ht = s.ht := by
  have hexec : exec .electionClose s = execElectionClose s := rfl
  rw [hexec]
  unfold execElectionClose
  extract_lets e s1 s2 p s3
  rw [if_pos ⟨hactive, hat⟩]
  obtain ⟨hparent, hdepth, hht, helect⟩ := takeParent_keeps s2 p e.cfgHops
  refine ⟨_, rfl, ?_⟩
  rw [timeUpdate_elect, timeUpdate_parent, timeUpdate_depth, timeUpdate_ht]
  have htaken : s3.elect.active = false ∧ s3.time.parent = p ∧ s3.time.depth = e.cfgHops ∧ s3.ht = s.ht :=
    ⟨by rw [helect, hevt_elect], hparent, hdepth, by rw [hht, hevt_ht]⟩
  split
  · rw [startMeasure_elect, startMeasure_parent, startMeasure_depth, startMeasure_ht]
    exact htaken
  · exact htaken

/-! ### The first alignment (R320, R329, R330) -/

/-- A step to MAXTIME + 400,000 ht is never back. -/
theorem max_maxTimeStep : max s.ht (maxTimeStep s) = max s.ht s.elect.maxTime + 400000 := by
  unfold maxTimeStep
  omega

theorem exec_timeAlign_stays (h : alignStep s = none) : exec .timeAlign s = .next s := by
  have hexec : exec .timeAlign s = execTimeAlign s := rfl
  rw [hexec, execTimeAlign, h]
  rfl

theorem exec_timeAlign_steps {n : Nat} (h : alignStep s = some (alignTo s n)) : ∃ t : State, exec .timeAlign s = .next t ∧
    t.ht = max s.ht n ∧ t.time.isNew = false := by
  have hexec : exec .timeAlign s = .next (bootAdvance (alignTo s n)) := by
    have hdef : exec .timeAlign s = execTimeAlign s := rfl
    rw [hdef, execTimeAlign, h]
    rfl
  exact ⟨_, hexec, bootAdvance_alignTo s n⟩

theorem exec_timeSelfAlign_stays (h : selfAlignStep s = none) : exec .timeSelfAlign s = .next s := by
  have hexec : exec .timeSelfAlign s = execTimeSelfAlign s := rfl
  rw [hexec, execTimeSelfAlign, h]
  rfl

theorem exec_timeAlign_closed (h : s.time.isNew = false ∨ electing s = true) : exec .timeAlign s = .next s := by
  refine exec_timeAlign_stays s (if_pos ?_)
  rcases h with hold | hopen
  · rw [hold]
    rfl
  · rw [hopen, Bool.or_true]

section
variable (hnew : s.time.isNew = true) (hclosed : electing s = false)
include hnew hclosed

/-- The configuration root steps 400,000 ht beyond MAXTIME. -/
theorem exec_timeAlign_root (h : s.time.parent = none) : ∃ t : State, exec .timeAlign s = .next t ∧
    t.ht = max s.ht s.elect.maxTime + 400000 ∧ t.time.isNew = false := by
  have hstep : alignStep s = some (alignTo s (maxTimeStep s)) := by
    unfold alignStep
    rw [hnew, hclosed, h]
    rfl
  obtain ⟨t, hexec, hht, hold⟩ := exec_timeAlign_steps s hstep
  exact ⟨t, hexec, hht.trans (max_maxTimeStep s), hold⟩

/-- A hub with a parent steps by the offset it has measured. -/
theorem alignStep_child (h : s.time.parent ≠ none) : alignStep s =
    if s.time.measuring then none else s.time.lastTheta.map fun e => alignTo s (s.ht + (e.1 / 16).toNat) := by
  obtain ⟨c, hc⟩ := Option.ne_none_iff_exists'.1 h
  unfold alignStep
  rw [hnew, hclosed, hc]
  rfl

theorem exec_timeAlign_unmeasured (h : s.time.parent ≠ none) (hnone : s.time.measuring = true ∨ s.time.lastTheta = none) :
    exec .timeAlign s = .next s := by
  refine exec_timeAlign_stays s ?_
  rw [alignStep_child s hnew hclosed h]
  rcases hnone with hmeasuring | hnone
  · rw [if_pos hmeasuring]
  · rw [hnone, Option.map_none, ite_self]

theorem exec_timeAlign_child (h : s.time.parent ≠ none) (e : Int × Nat) (hdone : s.time.measuring = false) (he : s.time.lastTheta = some e) :
    ∃ t : State, exec .timeAlign s = .next t ∧ t.ht = s.ht + (e.1 / 16).toNat ∧ t.time.isNew = false := by
  have hstep : alignStep s = some (alignTo s (s.ht + (e.1 / 16).toNat)) := by
    rw [alignStep_child s hnew hclosed h, hdone, he]
    rfl
  obtain ⟨t, hexec, hht, hold⟩ := exec_timeAlign_steps s hstep
  exact ⟨t, hexec, hht.trans (max_eq_right (Nat.le_add_right ..)), hold⟩

end

/-! ### Aligning on its own (R330) -/

theorem exec_timeSelfAlign_started (h : s.time.isNew = false ∨ s.time.startedAt = none) : exec .timeSelfAlign s = .next s := by
  refine exec_timeSelfAlign_stays s (if_neg fun hdue => ?_)
  obtain ⟨hnew, hat⟩ := hdue
  rcases h with hold | hnone
  · rw [hold] at hnew
    exact Bool.false_ne_true hnew
  · rw [hnone] at hat
    exact Bool.false_ne_true hat

section
variable (t0 : Nat) (hat : s.time.startedAt = some t0)
include hat

/-- A hub with a channel waits 8,000,000 ht for an alignment. -/
theorem exec_timeSelfAlign_waits (hup : upChans s ≠ []) (hearly : s.ht < t0 + 8000000) : exec .timeSelfAlign s = .next s := by
  refine exec_timeSelfAlign_stays s (if_neg fun hdue => ?_)
  have halone := hdue.2
  rw [hat, Option.any_some, Bool.or_eq_true, List.isEmpty_iff, decide_eq_true_eq] at halone
  exact halone.elim hup (Nat.not_le.2 hearly)

theorem exec_timeSelfAlign_steps (hnew : s.time.isNew = true) (hdue : upChans s = [] ∨ t0 + 8000000 ≤ s.ht) : ∃ t : State,
    exec .timeSelfAlign s = .next t ∧ t.ht = max s.ht s.elect.maxTime + 400000 ∧ t.time.isNew = false := by
  have hstep : selfAlignStep s = some (alignTo s (maxTimeStep s)) := by
    refine if_pos ⟨hnew, ?_⟩
    rw [hat, Option.any_some, Bool.or_eq_true, List.isEmpty_iff, decide_eq_true_eq]
    exact hdue
  have hexec : exec .timeSelfAlign s = .next (bootAdvance (alignTo s (maxTimeStep s))) := by
    have hdef : exec .timeSelfAlign s = execTimeSelfAlign s := rfl
    rw [hdef, execTimeSelfAlign, hstep]
    rfl
  obtain ⟨hht, hold⟩ := bootAdvance_alignTo s (maxTimeStep s)
  exact ⟨_, hexec, hht.trans (max_maxTimeStep s), hold⟩

end

end

end Sys2Proof.Machine
end


section
/-! PROPERTY. Channels come up and go down, hub numbers and routes (R322, R324, R340, R368). -/

namespace Sys2Proof.Machine

section
variable (s : State)

/-! ### Channels (R322, R368) -/

variable {s} in
theorem getC_of_chans {t : State} (h : t.chans = s.chans) (n : Nat) : getC t n = getC s n := congrArg (fun c => tget Chan.fresh c n) h

variable {s} in
/-- Messages sent leave what a channel takes in. -/
theorem Sends.kept {t : State} (h : Sends s t) (hs : tabWf Chan.fresh s.chans = true) (n : Nat) :
    (getC t n).up = (getC s n).up ∧ (getC t n).peer = (getC s n).peer ∧ (getC t n).rxq = (getC s n).rxq := by
  obtain ⟨q, o, hn⟩ := h.chan hs n
  rw [hn]
  exact ⟨rfl, rfl, rfl⟩

/-- An election begun leaves a channel's state and the events pending. -/
theorem electStart_keeps (hs : tabWf Chan.fresh s.chans = true) (n : Nat) : (timeUpdate (electStart s)).elect.active = true ∧
    (timeUpdate (electStart s)).evPend = s.evPend ∧ (getC (timeUpdate (electStart s)) n).up = (getC s n).up ∧
    (getC (timeUpdate (electStart s)) n).peer = (getC s n).peer := by
  obtain ⟨hup, hpeer, -⟩ := (sends_electStart s).kept hs n
  rw [timeUpdate_elect, electStart_elect, timeUpdate_evPend, electStart_evPend, getC_of_chans (timeUpdate_chans _) n]
  exact ⟨rfl, rfl, hup, hpeer⟩

/-- A channel's change of state recorded and shown on line 5. -/
def chanChanged (ch : Fin 8) (x : Chan) (code : Nat) (left : Bool) : State := healthChange (hevt (setC s ch x) 0xC02 code []) 14 ch left

section
variable (ch : Fin 8) (x : Chan) (code : Nat) (left : Bool) (hs : canonical s = true)
include hs

theorem chanChanged_raises : LineRaised (chanChanged s ch x code left) 5 :=
  healthChange_raises _ _ _ _ (by rw [hevt_evPend]; exact canonical_evPend s hs)

theorem chanChanged_chans : (chanChanged s ch x code left).chans = tput Chan.fresh s.chans ch x ∧
    tabWf Chan.fresh (chanChanged s ch x code left).chans = true := by
  have hput : (chanChanged s ch x code left).chans = tput Chan.fresh s.chans ch x := by rw [chanChanged, healthChange_chans, hevt_chans]; rfl
  exact ⟨hput, hput ▸ tabWf_tput _ _ _ _ (canonical_chans hs)⟩

theorem getC_chanChanged : getC (chanChanged s ch x code left) ch = x := by
  have hput := (chanChanged_chans s ch x code left hs).1
  rw [getC, hput, tget_tput _ _ _ _ _ (canonical_chans hs), if_pos rfl]

end

section
variable (ch : Fin 8)

theorem exec_channelUp_there (h : (getC s ch).up = true ∨ s.integ.channels.getLsbD ch = false) : exec (.channelUp ch) s = .next s := by
  refine if_pos ?_
  rcases h with hup | hnone
  · rw [hup]
    rfl
  · rw [hnone]
    exact Bool.or_true _

/-- A channel that comes up raises line 5 and starts an election. -/
theorem exec_channelUp_raises (hs : canonical s = true) (h : (getC s ch).up = false) (hfit : s.integ.channels.getLsbD ch = true) : ∃ t : State,
    exec (.channelUp ch) s = .next t ∧ (getC t ch).up = true ∧ LineRaised t 5 ∧ t.elect.active = true := by
  have hexec : exec (.channelUp ch) s = execChannelUp ch s := rfl
  rw [hexec]
  unfold execChannelUp
  extract_lets x s1 own s2 s3
  rw [if_neg (by rw [h, hfit]; exact Bool.false_ne_true)]
  have hwf : tabWf Chan.fresh s1.chans = true := (chanChanged_chans s ch { getC s ch with up := true } _ false hs).2
  have hsent : Sends s1 s2 := by
    unfold s2
    split
    · exact .refl s1
    · exact sends_chSend s1 ..
  have hkept : s3.evPend = s1.evPend ∧ s3.chans = s2.chans := by
    unfold s3
    split
    · rw [startMeasure_evPend, startMeasure_chans, hsent.eq]
      exact ⟨rfl, rfl⟩
    · rw [hsent.eq]
      exact ⟨rfl, rfl⟩
  obtain ⟨hpend, hchans⟩ := hkept
  obtain ⟨hactive, hevents, hup, -⟩ := electStart_keeps s3 (hchans ▸ hsent.wf hwf) ch
  refine ⟨_, rfl, ?_, lineRaised_of_evPend (chanChanged_raises s ch { getC s ch with up := true } _ false hs) (hevents.trans hpend), hactive⟩
  rw [hup, getC_of_chans hchans, (hsent.kept hwf ch).1]
  exact congrArg Chan.up (getC_chanChanged s ch _ _ _ hs)

theorem exec_channelDown_there (h : (getC s ch).up = false) : exec (.channelDown ch) s = .next s := if_neg (by rw [h]; exact Bool.false_ne_true)

/-- A channel that goes down forgets its peer, raises line 5 and starts an election. -/
theorem exec_channelDown_raises (hs : canonical s = true) (h : (getC s ch).up = true) : ∃ t : State, exec (.channelDown ch) s = .next t ∧
    (getC t ch).up = false ∧ (getC t ch).peer = 0 ∧ LineRaised t 5 ∧ t.elect.active = true := by
  obtain ⟨hactive, hevents, hup, hpeer⟩ := electStart_keeps (chanChanged s ch { getC s ch with up := false, peer := 0 } ch.val true)
    (chanChanged_chans s ch _ _ true hs).2 ch
  rw [getC_chanChanged s ch _ _ _ hs] at hup hpeer
  exact ⟨_, if_pos h, hup, hpeer, lineRaised_of_evPend (chanChanged_raises s ch _ _ true hs) hevents, hactive⟩

/-- A message discarded counts in IHB_CHn.BAD. -/
theorem exec_messageDiscard (hs : canonical s = true) : ∃ t : State, exec (.messageDiscard ch) s = .next t ∧
    regF t (rIhbCh + 8 * ch.val) 15 0 = min (regF s (rIhbCh + 8 * ch.val) 15 0 + 1) 0xFFFF :=
  ⟨_, rfl, regF_countF _ _ _ _ _ (canonical_regs s hs) (by decide) (by decide)⟩

end

/-! ### Hub numbers and routes (R324) -/

section
variable (ch : Fin 8) (lseq : BitVec 16)

/-- A register that is no channel's keeps its value when a message is taken in. -/
theorem regF_seqIn {o : Nat} (h : o < rIhbCh ∨ rIhbCh + 64 ≤ o) (hi lo : Nat) : regF (seqIn s ch lseq) o hi lo = regF s o hi lo :=
  regF_of_reg (reg_seqIn_ne s ch lseq (by omega)) hi lo

/-- The hub's own number is not the channel's. -/
theorem hubNumber_seqIn : regF (seqIn s ch lseq) rIhbId 54 48 = regF s rIhbId 54 48 := regF_seqIn s ch lseq (by decide) _ _

section
variable (hub : BitVec 7) (hops : BitVec 16)

theorem exec_name_unheard (h : hub = 0 ∨ (getC s ch).up = false) : exec (.name ch lseq hub hops) s = .next (seqIn s ch lseq) := by
  refine if_pos ?_
  rw [seqIn_chanUp]
  exact h.imp_left fun hzero => by rw [hzero]; rfl

section
variable (hub_ne : hub ≠ 0) (h : (getC s ch).up = true)
include hub_ne h

theorem name_heard : ¬(hub.toNat = 0 ∨ (getC (seqIn s ch lseq) ch).up = false) := by
  rw [seqIn_chanUp, h]
  rintro (hzero | hdown)
  · exact hub_ne (BitVec.eq_of_toNat_eq hzero)
  · exact Bool.noConfusion hdown

/-- This hub's own number from another hub is a conflict: it counts, and its routes are blocked. -/
theorem exec_name_conflict (hs : canonical s = true) (hown : hub.toNat = regF s rIhbId 54 48) : ∃ t : State,
    exec (.name ch lseq hub hops) s = .next t ∧ t.routes = s.routes ∧ hub.toNat ∈ t.blockedNums ∧
    regF t rIhbStat 15 0 = min (regF s rIhbStat 15 0 + 1) 0xFFFF := by
  have hexec : exec (.name ch lseq hub hops) s = execName ch lseq hub hops s := rfl
  rw [hexec]
  unfold execName
  extract_lets u n own s1 h1 s2 set_
  rw [if_neg (name_heard s ch lseq hub hub_ne h), if_pos (hown.trans (hubNumber_seqIn s ch lseq).symm)]
  refine ⟨_, rfl, ?_, ?_, ?_⟩
  · exact (hevt_routes ..).trans (seqIn_routes s ch lseq)
  · show n ∈ if s1.blockedNums.contains n then s1.blockedNums else s1.blockedNums ++ [n]
    split
    next hin => exact List.contains_iff_mem.1 hin
    next => exact List.mem_append_right _ (List.mem_singleton_self n)
  · have hreg : reg s1 rIhbStat = reg (countF u rIhbStat 15 0 1) rIhbStat := by rw [reg, reg, regGet, regGet, hevt_regs]
    refine (regF_of_reg hreg 15 0).trans ?_
    rw [regF_countF _ _ _ _ _ (canonical_regs _ (canonical_seqIn s ch lseq hs)) (by decide) (by decide), regF_seqIn s ch lseq (by decide)]
    rfl

end

/-- The route to a hub number after NAME: the fewest hops, ties to the lower channel. -/
def namedRoutes : Tab (Option Route) :=
  if (tget none s.routes hub.toNat).all fun r => decide (hops.toNat + 1 < r.hops) || decide (hops.toNat + 1 = r.hops ∧ ch.val < r.ch) then
    tput none s.routes hub.toNat (some ⟨ch.val, hops.toNat + 1⟩)
  else s.routes

theorem namedRoutes_first (h : tget none s.routes hub.toNat = none) :
    namedRoutes s ch hub hops = tput none s.routes hub.toNat (some ⟨ch.val, hops.toNat + 1⟩) := if_pos (by rw [h]; rfl)

section
variable {r : Route} (h : tget none s.routes hub.toNat = some r)
include h

theorem namedRoutes_shorter (hshort : hops.toNat + 1 < r.hops ∨ (hops.toNat + 1 = r.hops ∧ ch.val < r.ch)) :
    namedRoutes s ch hub hops = tput none s.routes hub.toNat (some ⟨ch.val, hops.toNat + 1⟩) := if_pos (by rw [h]; simpa using hshort)

theorem namedRoutes_longer (hlong : ¬(hops.toNat + 1 < r.hops ∨ (hops.toNat + 1 = r.hops ∧ ch.val < r.ch))) : namedRoutes s ch hub hops = s.routes := by
  refine if_neg fun hshort => hlong ?_
  rwa [h, Option.all_some, Bool.or_eq_true, decide_eq_true_eq, decide_eq_true_eq] at hshort

end

/-- The route set is the one to the channel and its hops. -/
theorem tget_named : tget none (tput none s.routes hub.toNat (some (⟨ch.val, hops.toNat + 1⟩ : Route))) hub.toNat = some ⟨ch.val, hops.toNat + 1⟩ :=
  tget_tput_self _ _ _ _ (Option.some_ne_none _)

/-- NAME of another hub sets the route, and with 0 hops the channel's peer. -/
theorem exec_name_routes (hs : canonical s = true) (hub_ne : hub ≠ 0) (h : (getC s ch).up = true) (hother : hub.toNat ≠ regF s rIhbId 54 48) :
    ∃ t : State, exec (.name ch lseq hub hops) s = .next t ∧ (hops = 0 → (getC t ch).peer = hub) ∧
      t.routes = namedRoutes s ch hub hops := by
  have hexec : exec (.name ch lseq hub hops) s = execName ch lseq hub hops s := rfl
  rw [hexec]
  unfold execName
  extract_lets u n own s1 hop x s2 set_
  rw [if_neg (name_heard s ch lseq hub hub_ne h), if_neg (by rw [show own = regF s rIhbId 54 48 from hubNumber_seqIn s ch lseq]; exact hother)]
  have hu : canonical u = true := canonical_seqIn s ch lseq hs
  have hpeered : tabWf Chan.fresh s2.chans = true ∧ s2.routes = s.routes ∧ (hops = 0 → (getC s2 ch).peer = hub) := by
    rw [← seqIn_routes s ch lseq]
    unfold s2
    split
    next =>
      refine ⟨tabWf_tput _ _ _ _ (canonical_chans hu), rfl, fun _ => ?_⟩
      rw [getC_setC _ _ _ _ (canonical_chans hu), if_pos rfl]
    next hne => exact ⟨canonical_chans hu, rfl, fun he => absurd he hne⟩
  obtain ⟨hwf, hroutes, hpeer⟩ := hpeered
  have hset : (set_ s2).routes = tput none s.routes n (some ⟨ch.val, hop⟩) := congrArg (fun r => tput none r n (some ⟨ch.val, hop⟩)) hroutes
  have hsent := sends_nameSend (set_ s2) n hop (some ch.val)
  have hsentRoutes : (nameSend (set_ s2) n hop (some ch.val)).routes = tput none s.routes n (some ⟨ch.val, hop⟩) := by
    rw [hsent.eq]
    exact hset
  have hsentPeer : hops = 0 → (getC (nameSend (set_ s2) n hop (some ch.val)) ch).peer = hub :=
    fun he => (hsent.kept hwf ch).2.1.trans (hpeer he)
  rw [show u.routes = s.routes from seqIn_routes s ch lseq]
  cases hr : tget none s.routes n with
  | none => exact ⟨_, rfl, hsentPeer, hsentRoutes.trans (namedRoutes_first s ch hub hops hr).symm⟩
  | some r =>
    by_cases hfewer : hop < r.hops
    · exact ⟨_, if_pos hfewer, hsentPeer, hsentRoutes.trans (namedRoutes_shorter s ch hub hops hr (.inl hfewer)).symm⟩
    by_cases htie : hop = r.hops ∧ ch.val < r.ch
    · exact ⟨_, (if_neg hfewer).trans (if_pos htie), hpeer, hset.trans (namedRoutes_shorter s ch hub hops hr (.inr htie)).symm⟩
    · exact ⟨_, (if_neg hfewer).trans (if_neg htie), hpeer, hroutes.trans (namedRoutes_longer s ch hub hops hr (not_or.2 ⟨hfewer, htie⟩)).symm⟩

end

end

/-! ### IHB_ID (R324, R340) -/

/-- A field is its bits. -/
theorem bits_congr {v w : Word} {hi lo : Nat} (h : ∀ i : Nat, lo ≤ i → i ≤ hi → v.getLsbD i = w.getLsbD i) (hl : lo ≤ hi) :
    bits v hi lo = bits w hi lo := by
  refine Nat.eq_of_testBit_eq fun i => ?_
  by_cases hin : lo + i ≤ hi
  · have hv := getLsbD_eq_bits v hi lo (lo + i) (Nat.le_add_right ..) hin
    have hw := getLsbD_eq_bits w hi lo (lo + i) (Nat.le_add_right ..) hin
    rw [Nat.add_sub_cancel_left] at hv hw
    rw [← hv, ← hw, h _ (Nat.le_add_right ..) hin]
  · rw [bits, bits, Nat.testBit_mod_two_pow, Nat.testBit_mod_two_pow, decide_eq_false (by omega), Bool.false_and, Bool.false_and]

/-- A field written whole takes the value's bits. -/
theorem RegLay.bits_write (l : RegLay) (old v : Word) {hi lo : Nat} (hl : lo ≤ hi) (hh : hi < 64) (hclear : l.w1c = 0)
    (hrw : ∀ i : Nat, i < 64 → lo ≤ i → i ≤ hi → (word l.rw).getLsbD i = true) : bits (l.write old v) hi lo = bits v hi lo := by
  refine bits_congr (fun i hlo hhi => ?_) hl
  rw [RegLay.write_getLsbD l old v i (by omega), hclear, hrw i (by omega) hlo hhi, if_neg (by simp [word]), if_pos rfl]

section
variable (who : Who) (v : Word)

theorem exec_ihbIdWrite_barred (h : isRoot s who 3 = false) : exec (.ihbIdWrite who v) s = .next s := if_neg (by rw [h]; exact Bool.false_ne_true)

/-- IHB_ID_WRITE sets PRIO and HUB. -/
theorem exec_ihbIdWrite_sets (hs : canonical s = true) (h : isRoot s who 3 = true) : ∃ t : State, exec (.ihbIdWrite who v) s = .next t ∧
    regF t rIhbId 54 48 = bits v 54 48 ∧ regF t rIhbId 63 56 = bits v 63 56 := by
  have hlay : layAt rIhbId = some ⟨rIhbId, 1, 8, 0x8000000000000000, 0xFF7F000000000000, 0, 0, 0⟩ := by decide +kernel
  have hexec : exec (.ihbIdWrite who v) s = execIhbIdWrite who v s := rfl
  rw [hexec]
  unfold execIhbIdWrite
  extract_lets s1 own
  rw [if_pos h]
  have hset : reg s1 rIhbId = RegLay.write ⟨rIhbId, 1, 8, 0x8000000000000000, 0xFF7F000000000000, 0, 0, 0⟩ (reg s rIhbId) v := by
    unfold s1
    rw [reg_setReg _ _ _ _ (canonical_regs s hs), if_pos rfl, hlay]
    rfl
  have hsent : reg (if own = 0 then s1 else nameSend s1 own 0 none) rIhbId = reg s1 rIhbId := by
    split
    · rfl
    · rw [(sends_nameSend s1 own 0 none).eq]
      rfl
  refine ⟨_, rfl, ?_, ?_⟩
  · rw [regF, hsent, hset]
    exact RegLay.bits_write _ _ _ (by decide) (by decide) rfl (by decide)
  · rw [regF, hsent, hset]
    exact RegLay.bits_write _ _ _ (by decide) (by decide) rfl (by decide)

end

end

end Sys2Proof.Machine
end


section
/-! PROPERTY. Messages between hubs find their hub and are acknowledged (R285, R286). -/

namespace Sys2Proof.Machine

section
variable (s : State) (ch : Fin 8) (lseq : BitVec 16)

theorem routeTo_seqIn (n : Nat) : routeTo (seqIn s ch lseq) n = routeTo s n := by rw [routeTo, routeTo, seqIn_routes, seqIn_blockedNums]

variable (src dst : BitVec 7) (mtag : BitVec 32)

/-! ### MSG -/

section
variable (sch : Fin 8) (units : List Word)

theorem exec_msg_unheard (h : (getC s ch).up = false ∨ units = [] ∨ 64 < units.length) :
    exec (.msg ch lseq src dst mtag sch units) s = .next (seqIn s ch lseq) := if_pos (by rwa [seqIn_chanUp])

section
variable (hup : (getC s ch).up = true) (hsome : units ≠ []) (hlen : units.length ≤ 64)
include hup hsome hlen

theorem msg_heard : ¬((getC (seqIn s ch lseq) ch).up = false ∨ units = [] ∨ 64 < units.length) := by
  rw [seqIn_chanUp, hup]
  rintro (hdown | hnone | hlong)
  · exact Bool.noConfusion hdown
  · exact hsome hnone
  · exact Nat.not_lt.2 hlen hlong

/-- At its destination a message enters the channel's queue of 16 and raises line 11. -/
theorem exec_msg_arrives (hs : canonical s = true) (hown : dst.toNat = regF s rIhbId 54 48) (hnum : regF s rIhbId 54 48 ≠ 0) : ∃ t : State,
    exec (.msg ch lseq src dst mtag sch units) s = .next t ∧
    ((getC s ch).rxq.length < 16 → (getC t ch).rxq = (getC s ch).rxq ++ [⟨src, sch, units⟩] ∧ LineRaised t 11) ∧
    (16 ≤ (getC s ch).rxq.length → (getC t ch).rxq = (getC s ch).rxq) := by
  have hexec : exec (.msg ch lseq src dst mtag sch units) s = execMsg ch lseq src dst mtag sch units s := rfl
  rw [hexec]
  unfold execMsg
  extract_lets u own x full s1
  rw [if_neg (msg_heard s ch lseq units hup hsome hlen),
    if_pos (by rw [show own = regF s rIhbId 54 48 from hubNumber_seqIn s ch lseq]; exact ⟨hown, hnum⟩)]
  have hu : tabWf Chan.fresh u.chans = true := canonical_chans (canonical_seqIn s ch lseq hs)
  have hx : x.rxq = (getC s ch).rxq := (congrArg Chan.rxq (getC_seqIn s ch lseq hup) :)
  have hsent := sends_chSend s1 ((routeTo u src.toNat).getD ch) 1 src.toNat [word (mtag.toNat * 2 ^ 32 + b2n full)] none
  refine ⟨_, rfl, fun hroom => ?_, fun hfull => ?_⟩
  · have hs1 : s1 = raiseLine (setC u ch { x with rxq := x.rxq ++ [⟨src, sch, units⟩] }) 11 :=
      if_neg (by rw [decide_eq_true_eq, hx]; exact Nat.not_le.2 hroom)
    have hput : s1.chans = tput Chan.fresh u.chans ch { x with rxq := x.rxq ++ [⟨src, sch, units⟩] } := by rw [hs1, raiseLine_chans]; rfl
    refine ⟨?_, lineRaised_of_evPend (hs1 ▸ lineRaised_raiseLine _ 11 (by decide)) (by rw [hsent.eq])⟩
    rw [(hsent.kept (hput ▸ tabWf_tput _ _ _ _ hu) ch).2.2, getC, hput, tget_tput _ _ _ _ _ hu, if_pos rfl, ← hx]
  · have hs1 : s1 = u := if_pos (by rw [decide_eq_true_eq, hx]; exact hfull)
    rw [(hsent.kept (hs1 ▸ hu) ch).2.2, hs1]
    exact hx

section
variable (hother : dst.toNat ≠ regF s rIhbId 54 48)
include hother

/-- A message for another hub is looked up in the routes. -/
theorem exec_msg_routed : exec (.msg ch lseq src dst mtag sch units) s = (routeTo s dst.toNat).elim (.next (seqIn s ch lseq)) fun r =>
    .next (chSend (seqIn s ch lseq) r 0 dst.toNat (word (mtag.toNat * 2 ^ 32 + sch.val) :: units) (some src.toNat)) := by
  have hexec : exec (.msg ch lseq src dst mtag sch units) s = execMsg ch lseq src dst mtag sch units s := rfl
  rw [hexec]
  unfold execMsg
  extract_lets u own x full s1
  rw [if_neg (msg_heard s ch lseq units hup hsome hlen),
    if_neg (by rw [show own = regF s rIhbId 54 48 from hubNumber_seqIn s ch lseq]; exact fun h => hother h.1), routeTo_seqIn s ch lseq]
  cases routeTo s dst.toNat <;> rfl

end

end

end

/-! ### ACK -/

section
variable (full : Bool)

theorem exec_ack_down (h : (getC s ch).up = false) : exec (.ack ch lseq src dst mtag full) s = .next s := by
  have hexec : exec (.ack ch lseq src dst mtag full) s = .next (seqIn s ch lseq) := if_pos (by rwa [seqIn_chanUp])
  rw [hexec, seqIn_down s ch lseq h]

/-- The SEND that an ACK answers, and its channel. -/
def ackedSend : Option (Nat × SendReq) :=
  (List.range 8).findSome? fun n => ((getC s n).sends.find? fun q => q.mtag == mtag).map fun q => (n, q)

theorem ackedSend_none (h : ∀ n : Nat, n < 8 → ∀ q ∈ (getC s n).sends, q.mtag ≠ mtag) : ackedSend s mtag = none := by
  rw [ackedSend, List.findSome?_eq_none_iff]
  intro n hn
  rw [Option.map_eq_none_iff, List.find?_eq_none]
  exact fun q hq heq => h n (List.mem_range.1 hn) q hq (beq_iff_eq.1 heq)

/-- The one SEND of that tag is found. -/
theorem ackedSend_some (n : Nat) (q : SendReq) (hn : n < 8) (hsends : (getC s n).sends = [q]) (htag : q.mtag = mtag)
    (hone : ∀ m : Nat, m < 8 → m ≠ n → ∀ x ∈ (getC s m).sends, x.mtag ≠ mtag) : ackedSend s mtag = some (n, q) := by
  cases hfound : ackedSend s mtag with
  | none =>
    have hnone := List.findSome?_eq_none_iff.1 hfound n (List.mem_range.2 hn)
    rw [hsends, List.find?_singleton, if_pos (beq_iff_eq.2 htag)] at hnone
    exact absurd hnone (Option.some_ne_none _)
  | some e =>
    obtain ⟨m, hm, hhit⟩ := List.exists_of_findSome?_eq_some hfound
    obtain ⟨x, hx, rfl⟩ := Option.map_eq_some_iff.1 hhit
    by_cases hmn : m = n
    · subst hmn
      rw [hsends, List.find?_singleton, if_pos (beq_iff_eq.2 htag)] at hx
      rw [← Option.some.inj hx]
    · exact absurd (beq_iff_eq.1 (List.find?_some (p := fun q : SendReq => q.mtag == mtag) hx)) (hone m (List.mem_range.1 hm) hmn x (List.mem_of_find?_eq_some hx))

/-- A message taken in leaves the SENDs that wait. -/
theorem sends_seqIn (n : Nat) : (getC (seqIn s ch lseq) n).sends = (getC s n).sends := by
  by_cases hn : n = ch.val
  · subst hn
    cases hup : (getC s ch).up with
    | true => rw [getC_seqIn s ch lseq hup]
    | false => rw [seqIn_down s ch lseq hup]
  · rw [getC_seqIn_ne s ch lseq hn]

theorem ackedSend_seqIn : ackedSend (seqIn s ch lseq) mtag = ackedSend s mtag := by
  simp only [ackedSend, sends_seqIn]

section
variable (hup : (getC s ch).up = true)
include hup

theorem ack_heard : ¬(getC (seqIn s ch lseq) ch).up = false := by
  rw [seqIn_chanUp, hup]
  exact Bool.noConfusion

/-- An ACK for another hub is looked up in the routes. -/
theorem exec_ack_routed (hother : dst.toNat ≠ regF s rIhbId 54 48) : exec (.ack ch lseq src dst mtag full) s =
    (routeTo s dst.toNat).elim (.next (seqIn s ch lseq)) fun r =>
      .next (chSend (seqIn s ch lseq) r 1 dst.toNat [word (mtag.toNat * 2 ^ 32 + b2n full)] (some src.toNat)) := by
  have hexec : exec (.ack ch lseq src dst mtag full) s = execAck ch lseq src dst mtag full s := rfl
  rw [hexec]
  unfold execAck
  extract_lets u own hit
  rw [if_neg (ack_heard s ch lseq hup),
    if_neg (by rw [show own = regF s rIhbId 54 48 from hubNumber_seqIn s ch lseq]; exact fun h => hother h.1), routeTo_seqIn s ch lseq]
  cases routeTo s dst.toNat <;> rfl

section
variable (hown : dst.toNat = regF s rIhbId 54 48) (hnum : regF s rIhbId 54 48 ≠ 0)
include hown hnum

/-- An ACK at its hub ends the SEND that it answers. -/
theorem exec_ack_own : exec (.ack ch lseq src dst mtag full) s = (ackedSend s mtag).elim (.next (seqIn s ch lseq)) fun e =>
    .next (post (setC (seqIn s ch lseq) e.1 { getC (seqIn s ch lseq) e.1 with sends := (getC (seqIn s ch lseq) e.1).sends.erase e.2 })
      e.2.opId (if full then .locked else .ok) 0) := by
  have hexec : exec (.ack ch lseq src dst mtag full) s = execAck ch lseq src dst mtag full s := rfl
  rw [hexec, ← ackedSend_seqIn s ch lseq]
  unfold execAck ackedSend
  extract_lets u own hit
  rw [if_neg (ack_heard s ch lseq hup), if_pos (by rw [show own = regF s rIhbId 54 48 from hubNumber_seqIn s ch lseq]; exact ⟨hown, hnum⟩)]
  cases (List.range 8).findSome? fun n => (hit (getC u n)).map fun q => (n, q) <;> rfl

theorem exec_ack_unknown (h : ∀ n : Nat, n < 8 → ∀ q ∈ (getC s n).sends, q.mtag ≠ mtag) :
    exec (.ack ch lseq src dst mtag full) s = .next (seqIn s ch lseq) := by
  rw [exec_ack_own s ch lseq src dst mtag full hup hown hnum, ackedSend_none s mtag h]
  rfl

/-- ACK ends the SEND with OK, or LOCKED where the queue was full. -/
theorem exec_ack_ends (hs : canonical s = true) (n : Nat) (q : SendReq) (hn : n < 8) (hsends : (getC s n).sends = [q]) (htag : q.mtag = mtag)
    (hwaited : waited s q.opId = true) (hone : ∀ m : Nat, m < 8 → m ≠ n → ∀ x ∈ (getC s m).sends, x.mtag ≠ mtag) : ∃ t : State,
    exec (.ack ch lseq src dst mtag full) s = .next t ∧ (getC t n).sends = [] ∧
      t.arrivals = s.arrivals ++ [⟨q.opId, if full then .locked else .ok, 0, none, [], 0, none⟩] := by
  rw [exec_ack_own s ch lseq src dst mtag full hup hown hnum, ackedSend_some s mtag n q hn hsends htag hone]
  have hu : tabWf Chan.fresh (seqIn s ch lseq).chans = true := canonical_chans (canonical_seqIn s ch lseq hs)
  refine ⟨_, rfl, ?_, ?_⟩
  · rw [getC_of_chans (post_chans ..) n, getC_setC _ _ _ _ hu, if_pos rfl, sends_seqIn, hsends]
    exact List.erase_cons_head q []
  · have hwait : waited (setC (seqIn s ch lseq) n { getC (seqIn s ch lseq) n with sends := (getC (seqIn s ch lseq) n).sends.erase q }) q.opId = true := by
      rw [seqIn_eq]
      exact hwaited
    rw [post, postArrival_waited _ _ hwait, seqIn_eq]
    rfl

end

end

end

end

end Sys2Proof.Machine
end


section
/-! PROPERTY. O51: hub time, the election, the channels and the messages between hubs. -/

namespace Sys2Proof.Machine

/-- Settles O51: an equation of each command for each of its cases, and the frames of what they share (a message sent, one taken in,
an election begun, a measurement started). -/
theorem hubTimeElectionChannelsAndMessages : Obligations.HubTimeElectionChannelsAndMessages := by
  unfold Obligations.HubTimeElectionChannelsAndMessages
  intro s hs
  refine ⟨?taken, ?probe, ?tick, ?tickRoot, ?timeoutNone, ?timeoutDrops, ?replyIdle, ?reply, ?measure, ?refLost, ?refThere, ?elect,
    ?closeOpen, ?close, ?alignClosed, ?align, ?selfStarted, ?selfAlign, ?channel, ?name, ?idWrite, ?msg, ?ack⟩
  case taken => exact fun ch lseq => ⟨seqIn_down s ch lseq, fun h => ⟨getC_seqIn s ch lseq h, regF_seqIn_lost s ch lseq hs h⟩⟩
  case probe => exact fun ch lseq t1 => ⟨exec_probe_down s ch lseq t1, exec_probe_answers s ch lseq t1⟩
  case tick => exact fun ch hp => ⟨exec_timeExchangeTick_due s ch hp, exec_timeExchangeTick_idle s ch hp⟩
  case tickRoot => exact exec_timeExchangeTick_root s
  case timeoutNone => exact exec_probeTimeout_none s
  case timeoutDrops => exact exec_probeTimeout_drops s
  case replyIdle => exact fun h ch lseq t1 t2 t3 => exec_probeReply_foreign s ch lseq t1 t2 t3 (by rw [h]; rfl)
  case reply =>
    intro sent c ch lseq t1 t2 t3 d theta hout hd htheta
    refine ⟨exec_probeReply_unanswered s sent c ch lseq t1 t2 t3 hout, fun hc ht1 hin => ?_⟩
    subst hc ht1
    exact exec_probeReply_answers s sent ch lseq t2 t3 hout hs d theta hd htheta hin
  case measure =>
    exact fun who => ⟨fun h => ⟨exec_timMeasure_barred s who h, exec_ihbElect_barred s who h⟩,
      fun h => ⟨exec_timMeasure_starts s who h, exec_ihbElect_starts s who h⟩⟩
  case refLost => exact fun h => ⟨exec_refclkLoss_lost s h, exec_refclkReturn_measures s hs h⟩
  case refThere => exact fun h => ⟨exec_refclkReturn_there s h, exec_refclkLoss_holds s hs h⟩
  case elect => exact fun ch lseq m => ⟨exec_elect_down s ch lseq m, exec_elect_up s ch lseq m⟩
  case closeOpen => exact exec_electionClose_open s
  case close => exact exec_electionClose_closes s
  case alignClosed => exact exec_timeAlign_closed s
  case align =>
    exact fun hnew hclosed => ⟨exec_timeAlign_root s hnew hclosed,
      fun hp => ⟨exec_timeAlign_unmeasured s hnew hclosed hp, exec_timeAlign_child s hnew hclosed hp⟩⟩
  case selfStarted => exact exec_timeSelfAlign_started s
  case selfAlign => exact fun t0 hnew hat => ⟨exec_timeSelfAlign_waits s t0 hat, exec_timeSelfAlign_steps s t0 hat hnew⟩
  case channel =>
    exact fun ch => ⟨exec_channelUp_there s ch, exec_channelUp_raises s ch hs, exec_channelDown_there s ch, exec_channelDown_raises s ch hs,
      exec_messageDiscard s ch hs⟩
  case name =>
    refine fun ch lseq hub hops => ⟨exec_name_unheard s ch lseq hub hops, fun hne hup => ?_⟩
    by_cases hown : hub.toNat = regF s rIhbId 54 48
    · obtain ⟨t, hexec, hconflict⟩ := exec_name_conflict s ch lseq hub hops hne hup hs hown
      exact ⟨t, hexec, fun _ => hconflict, fun hother => absurd hown hother⟩
    · obtain ⟨t, hexec, hpeer, hroutes⟩ := exec_name_routes s ch lseq hub hops hs hne hup hown
      refine ⟨t, hexec, fun h => absurd h hown, fun _ => ⟨hpeer, fun hfirst => ?_, fun r hr => ⟨fun hshort => ?_, fun hlong => ?_⟩⟩⟩
      · rw [hroutes, namedRoutes_first s ch hub hops hfirst, tget_named]
      · rw [hroutes, namedRoutes_shorter s ch hub hops hr hshort, tget_named]
      · rw [hroutes, namedRoutes_longer s ch hub hops hr (by omega)]
  case idWrite => exact fun who v => ⟨exec_ihbIdWrite_barred s who v, exec_ihbIdWrite_sets s who v hs⟩
  case msg =>
    rintro ch sch lseq src dst mtag units own rfl
    refine ⟨exec_msg_unheard s ch lseq src dst mtag sch units, fun hup hsome hlen hown hnum => ?_, fun hup hsome hlen hother => ?_⟩
    · exact exec_msg_arrives s ch lseq src dst mtag sch units hup hsome hlen hs hown hnum
    · rw [exec_msg_routed s ch lseq src dst mtag sch units hup hsome hlen hother]
      exact ⟨fun hnone => by rw [hnone]; rfl, fun r hr => by rw [hr]; rfl⟩
  case ack =>
    rintro ch lseq src dst mtag full own rfl
    refine ⟨exec_ack_down s ch lseq src dst mtag full, fun hup hother => ?_, fun hup hown hnum => ⟨?_, fun n q hn hsends htag hwaited hone => ?_⟩⟩
    · rw [exec_ack_routed s ch lseq src dst mtag full hup hother]
      exact ⟨fun hnone => by rw [hnone]; rfl, fun r hr => by rw [hr]; rfl⟩
    · exact exec_ack_unknown s ch lseq src dst mtag full hup hown hnum
    · exact exec_ack_ends s ch lseq src dst mtag full hup hown hnum hs n q hn hsends htag hwaited hone

end Sys2Proof.Machine
end
